-- ==== Sys2Proof/Word.lean ====
section
/-! DEFINITION. The word types of the BX512 and their plainest arithmetic. -/

namespace Sys2Proof

/-- One byte. -/
abbrev Byte := BitVec 8

/-- A run of bytes: host-memory contents, objects, digests, keys (R6: little-endian unless a rule says otherwise). -/
abbrev Bytes := List Byte

/-- A 32-bit register word (R437). -/
abbrev Word32 := BitVec 32

/-- A 64-bit register word (R437) and the width of v0 to v15 (R180). -/
abbrev Word64 := BitVec 64

end Sys2Proof
end

