-- ==== Sys2Proof/Syntax.lean ====
section
/-! DEFINITION. The commands: one constructor of Instr per row of spec/opcode_table.json, with the operands the row carries.
A command carries what the outside world answers: the bytes host memory returns, what a NAND target, cartridge or card sends, the outcome of a
physical test, elapsed times. What the device itself decides is the command's meaning (Machine/). -/

namespace Sys2Proof

/-- The outcome of one host-memory read the device makes (R64): bytes, or a completion error. -/
inductive HostRead where
  | ok (b : Bytes)
  | err
deriving DecidableEq, Repr

/-- Which ticket in the device a command is about, and the time since its bell in µs (R96). -/
structure TkArg where
  id : Nat
  us : Nat := 0
deriving DecidableEq, Repr

/-- The reads of a ticket that carries an object or names a destination: its basket, where DATA names one (R44), and the bytes read. -/
structure ObjRead where
  basket : HostRead := .ok []
  data : HostRead := .ok []
deriving DecidableEq, Repr

/-- The reads of an ingest ticket: basket, side block (R46), segment data. -/
structure IngestRead where
  basket : HostRead := .ok []
  side : HostRead := .ok []
  data : HostRead := .ok []
deriving DecidableEq, Repr

/-- Where an engine operation's key comes from: a vault handle (R242) or the self-test ROM (R201). -/
inductive KeySrc where
  | handle (h : Nat)
  | rom (key : Bytes)
deriving DecidableEq, Repr

/-- A call of a row cipher engine (R199 to R205). -/
structure CipherReq where
  /-- Unit address of the row, 0x2mr0, whose call this is. -/
  row : Nat
  /-- The ticket the caller works for; 0 for self-test. -/
  owner : Nat
  /-- One of the self-test's four contexts; a work slot has one (R200). -/
  ctx : Fin 4 := 0
  key : KeySrc
  encrypt : Bool := true
  iv : Bytes := []
  /-- The AAD and data lengths that a GCM context is opened with (R202). -/
  aadLen : Nat := 0
  dataLen : Nat := 0
  /-- AAD taken in by this operation, from byte `aadAt` of the whole AAD on. -/
  aad : Bytes := []
  aadAt : Nat := 0
  data : Bytes := []
  /-- Tag to compare, for GCM decryption and CMAC verification; none for none. -/
  tag : Option Bytes := none
  /-- From the self-test path of R198 (R203). -/
  selfTest : Bool := false
  /-- The message goes on in a later operation of the same context (R199). -/
  more : Bool := false
  /-- The caller closes its context early; nothing is processed (R210). -/
  close : Bool := false
deriving DecidableEq, Repr

/-- A call of a row hash engine (R214). -/
structure HashReq where
  row : Nat
  owner : Nat
  /-- One of a work slot's two contexts (R200). -/
  ctx : Fin 2 := 0
  data : Bytes := []
  more : Bool := false
  /-- The caller closes its context early; nothing is processed (R210). -/
  close : Bool := false
deriving DecidableEq, Repr

/-- The hash an HMAC runs over (R214). -/
inductive HmacAlg where
  | sha256 | sha384 | sha512
deriving DecidableEq, Repr

/-- A request to the PKE pool (R232). -/
structure PkeReq where
  /-- OWNER: a unit address, or 0xF000 + requester (R232). -/
  owner : Nat
  /-- The work slot of a stall that calls (R220). -/
  slot : Fin 4 := 0
  /-- The ticket that the object verifier or the vault works for, by its identifier; 0 for none (R220). -/
  ticket : Nat := 0
  /-- FLAGS bit 0 KEEP: hold the engine for the owner's next request. -/
  keep : Bool := false
  /-- The public inputs in the order of R221. -/
  inputs : List Bytes := []
  /-- FLAGS bit 1 STREAM: a message is streamed to the engine from MESSAGE_ADDR. -/
  stream : Bool := false
  msgAddr : BitVec 64 := 0
  msg : Bytes := []
  /-- KEY_HANDLE, or a key from the self-test ROM. -/
  key : KeySrc := .handle 0
  /-- Vault handle that a secret result goes to over the key bus. -/
  keyOut : Nat := 0
deriving DecidableEq, Repr

/-- The outcome of one unit's self-test as the unit shows it (R198, R219, R238, R372). -/
structure TestOut where
  fail : Bool := false
  durationUs : Nat := 0
  detail : Word64 := 0
deriving DecidableEq, Repr

/-- What happens while a monitor source is masked for its test (R370 to R372). -/
structure MonitorOut where
  out : TestOut := {}
  /-- A real condition arose under the mask and is still present when it lifts, with its DETAIL (R371). -/
  late : Option Nat := none
deriving DecidableEq, Repr

/-- What one target shows in a calibration (R294, R295). -/
structure CalOut where
  target : Nat
  fail : Bool := false
  /-- For READ_LEVEL: the best offsets of each LUN, signed 8-bit values. -/
  offsets : List (Nat × List (BitVec 8)) := []
  /-- How the recovery of a target whose interface fails goes on (R266, R295): RESET LUN, RESET, the ID, the training. -/
  lunResetOk : Bool := true
  targetResetOk : Bool := true
  idOk : Bool := true
  trainOk : Bool := true
deriving DecidableEq, Repr

/-- How one attempt to decode a codeword ends: no codeword, one whose CRC does not match, a good one (R280). -/
inductive Decode where
  | fails | badCrc | good
deriving DecidableEq, Repr

/-- A codeword as each attempt of R280 finds it: the hard read, min-sum, the retry levels from 1 on, soft reads with one and with two extra reads; and the bits corrected. -/
structure Codeword where
  hard : Decode := .good
  minSum : Decode := .fails
  retry : List Decode := []
  soft1 : Decode := .fails
  soft2 : Decode := .fails
  bits : Nat := 0
deriving DecidableEq, Repr

/-- A codeword of a crate by its place: row, lane and index within the lane page (R273). -/
structure CodewordAt where
  row : Nat
  lane : Nat
  index : Nat
  cw : Codeword
deriving DecidableEq, Repr

/-- What a scrub of one crate shows (R293): the codewords that the hard read does not give with few corrected bits; every other one reads well. -/
structure ScrubOut where
  crate : Nat
  cws : List CodewordAt := []
deriving DecidableEq, Repr

/-- What the data lines of a cartridge slot carry for one block: the bits of each line in the order sent, D0 first (R320). -/
abbrev LineBits := List (List Bool)

/-- What a cartridge answers to the operations a ticket makes on it (R331, R341). -/
structure CartAns where
  ok : Bool := true
  /-- The READ_KEY block (R331). -/
  keyBlock : Bytes := []
  /-- The frame answering the counter read (R333). -/
  counter : Bytes := []
deriving DecidableEq, Repr

/-- What a cartridge shows while its slot is brought up (R325, R333, R334, R347). -/
structure BringAns where
  /-- READY was reported within 1 s and READ_IDENT answered: its 120 bits. -/
  ident : Option (BitVec 120) := none
  /-- Highest of the modes 1 to 4 whose check read passes; 0 where none does. -/
  mode : Nat := 0
  /-- The frame answering the counter read, and the 16 frames of the manifest read. -/
  counter : Bytes := []
  manifest : List Bytes := []
  /-- The RPA units of a torn write, as read back. -/
  units : List Bytes := []
  /-- The stream units after the last checkpoint, as read back from a Mahano-1 cartridge. -/
  blocks : List Bytes := []
deriving DecidableEq, Repr

/-- A card's answer to reset: the class it was given at (1 A, 2 B, 3 C), the protocols it offers, Fi, the highest Di, the highest clock in kHz, and whether its T=1 blocks end in a
CRC (R336). -/
structure AtrAns where
  cls : Nat := 3
  t0 : Bool := true
  t1 : Bool := false
  fi : Nat := 372
  di : Nat := 1
  maxKhz : Nat := 5000
  crc : Bool := false
deriving DecidableEq, Repr

/-- What one target shows at bring-up (R261, R262). -/
structure TargetAns where
  target : Nat
  responds : Bool := true
  id : Bytes := []
  /-- The ONFI page is readable and agrees with the description. -/
  paramOk : Bool := true
  /-- Highest rate in MT/s at which it passes training; 0 for none. -/
  trainsAt : Nat := 0
  /-- Factory-marked bad blocks: LUN, plane, block (R297). -/
  bad : List (Nat × Nat × Nat) := []
deriving DecidableEq, Repr

/-- The scan of a crate that was open: the first row that fails, and the slots at which it meets a TYPE of 9 to 255 (R276, R291). -/
structure ScanAns where
  crate : Nat
  row : Nat
  badTypes : List Nat := []
deriving DecidableEq, Repr

/-- What one DDR4 channel shows at start-up (R303, R310). -/
structure DdrAns where
  chan : Nat
  /-- The SPD is readable. -/
  spdOk : Bool := true
  /-- A configuration of R303. -/
  supported : Bool := true
  /-- DIMMs, 0 for memory down. -/
  dimms : Nat := 1
  ranks : Nat := 1
  x8 : Bool := false
  /-- Device density in Gbit. -/
  gbit : Nat := 16
  gib : Nat := 16
  /-- Highest rate it trains at, 0 for none. -/
  trainsAt : Nat := 3200
deriving DecidableEq, Repr

/-- What the start-up steps meet (R407). -/
structure StartAns where
  twoPorts : Bool := false
  /-- The level of the TEST_MODE ball (R455). -/
  testMode : Bool := false
  /-- Stall firmware: 0 verified, 1 signature, 2 version, 3 unreadable (R176, R445), and its version word. -/
  firmware : Nat := 0
  fw : BitVec 32 := 0
  /-- Units that fail their start-up tests, with the code of the test that failed (R176, R218, R237). -/
  failed : List (Nat × Nat) := []
  ddr : List DdrAns := []
  /-- Targets that do not answer, mismatch or fail training at start-up (R262). -/
  deadTargets : List Nat := []
  /-- Flash targets whose training ends at a rung below the highest: (target, rate) (R258). -/
  trains : List (Nat × Nat) := []
  entropyOk : Bool := true
  /-- The request slots of a torn step can be read (R383). -/
  requestsReadable : Bool := true
  /-- The vault image decrypts (R252). -/
  imageOk : Bool := true
  /-- What the scans of the crates that were open show (R291). -/
  scans : List ScanAns := []
  /-- Counter pattern found inconsistent by damage, with the step number (R376). -/
  counterBad : Option Nat := none
deriving DecidableEq, Repr

/-- A tamper source's detection in one monitor cycle (R354, R359). -/
structure Det where
  source : Nat
  detail : Nat := 0
deriving DecidableEq, Repr

/-- What a class of a DDR4 error is (R311). -/
inductive DdrErr where
  | corrected | uncorrectable | mac | macLine
deriving DecidableEq, Repr

/-- What a lost DDR4 line held (R312). -/
inductive LineHeld where
  | duplicated | basket
  /-- Clear staging of an uncommitted item, by ticket. -/
  | clear (ticket : Nat)
  /-- Staging of a committed object not yet programmed; whether the rebuilt object passes its check. -/
  | committed (tab seq : Nat) (rebuilt : Bool)
  | tabIndex | mirror
deriving DecidableEq, Repr

/-- An error that a patrol pass meets (R313). -/
structure PatrolErr where
  chan : Fin 4
  page : Nat
  err : DdrErr
  /-- What the lines held: one, or for a line of MACs those it covers. -/
  held : List LineHeld
deriving DecidableEq, Repr

/-- A write through a port (R26, R437, R438): BAR 0, 2 or 4, or 6 for the function's configuration space, offset, width in bytes, value. -/
structure RegWrite where
  port : Fin 2 := 0
  bar : Nat := 0
  offset : Nat
  width : Nat := 4
  value : Nat
deriving DecidableEq, Repr

/-- The commands of the BX512: every row of spec/opcode_table.json, in the table order. -/
inductive Instr where
  /-- SQ_TAIL (R38). The host writes the SQ_TAIL bell of a ring pair, announcing new tickets or putting the ring in ERROR with BELL_RANGE. -/
  | sqTail (port : Fin 2) (ring : Nat) (value : BitVec 32)
  /-- CQ_HEAD (R39). The host writes the CQ_HEAD bell, releasing completion slots or putting the ring in ERROR with CQ_HEAD_RANGE. -/
  | cqHead (port : Fin 2) (ring : Nat) (value : BitVec 32)
  /-- ENABLE (R35). A write of RING.CFG.ENABLE starts a ring pair (to WAITING) or drains and stops it. -/
  | enable (ring : Nat) (on : Bool)
  /-- ABORT (R35). A write of 1 to RING.CFG.ABORT withdraws every uncommitted ticket of the ring pair with ABORTED_RESET and stops it. -/
  | abort (ring : Nat)
  /-- RING_ACTIVATION (R35). A WAITING ring pair whose bases, size, watermark-table base, Bus Master Enable and READY are all in place becomes ACTIVE and starts fetching. -/
  | ringActivation (ring : Nat)
  /-- RING_DRAIN_COMPLETE (R35). A DRAINING or ERROR ring pair whose OUTSTANDING reaches 0 with ENABLE 0 becomes DISABLED and releases its tabs' bindings. -/
  | ringDrainComplete (ring : Nat)
  /-- BUS_MASTER_ENABLE_CLEARED (R35). Clearing Bus Master Enable returns WAITING or ACTIVE ring pairs to WAITING and holds their receipts. -/
  | busMasterEnableCleared (port : Fin 2)
  /-- BUS_MASTER_ENABLE_SET (R35). Setting Bus Master Enable posts held receipts and held messages of the port. -/
  | busMasterEnableSet (port : Fin 2)
  /-- TICKET_FETCH (R72). The device reserves a receipt slot, takes a fetch token, and fetches up to 4 tickets of a ring in slot order. -/
  | ticketFetch (ring : Nat) (waitedUs : Nat) (reads : List HostRead)
  /-- COMPLETION_ERROR (R64). A completion error, poisoned completion or timeout on a read for an admitted ticket makes the segment REJECTED_FORMAT with cause HOST_READ or ends the ticket with BAD_TICKET. -/
  | completionError (a : TkArg)
  /-- TOKEN_GRANT (R77). A waiting ticket is granted its next rung of the token ladder, and it is admitted once it holds every rung it needs. -/
  | tokenGrant (rung : Fin 4) (waitedUs : Nat)
  /-- SPACE_WAIT_EXPIRY (R83). An ingest ticket that has waited CLASS.SPACE_WAIT.MS at the crate-slot rung with no space is skipped, together with every other waiting ingest ticket. -/
  | spaceWaitExpiry (id : Nat)
  /-- ITEM_START (R171). A stall takes up a work item once its data is staged and runs it from its start. -/
  | itemStart (unit : Nat)
  /-- TILL_COMMIT (R112). A result reaches the till, which commits the oldest ready slots in one step each and posts their receipts. -/
  | tillCommit (a : TkArg)
  /-- MOD_TIME_EXPIRY (R59). The oldest receipt without NO_IRQ has waited RING.MOD.TIME µs, and the ring's interrupt is sent. -/
  | modTimeExpiry (ring : Nat)
  /-- VECTOR_UNMASK (R60). Unmasking an MSI-X vector, or setting MSI-X Enable, sends the messages held for it. -/
  | vectorUnmask (port : Fin 2) (vector : Option (BitVec 12))
  /-- INGEST (R11). An INGEST ticket submits one segment of a tab, or of a source when TAB is 0xFFFF_FFFF, for sealing. -/
  | ingest (a : TkArg) (reads : IngestRead)
  /-- INGEST_SIGNED (R47). An INGEST_SIGNED ticket submits a segment whose side block must carry a camera signature. -/
  | ingestSigned (a : TkArg) (reads : IngestRead)
  /-- OPEN_TAB (R99). An OPEN_TAB ticket opens a closed tab, or re-homes or re-templates an open one, and commits an OPEN entry. -/
  | openTab (a : TkArg)
  /-- CLOSE_TAB (R101). A CLOSE_TAB ticket sets CLOSING at admission and commits a CLOSE entry that closes and unbinds the tab. -/
  | closeTab (a : TkArg)
  /-- HOLD (R121). A HOLD ticket protects the entries of a tab, or of all tabs, within a tick range from reclaim and shredding. -/
  | hold (a : TkArg)
  /-- RELEASE_HOLD (R122). A RELEASE_HOLD ticket ends a hold. -/
  | releaseHold (a : TkArg)
  /-- MARK_UPLOADED (R120). A MARK_UPLOADED ticket raises a tab's uploaded watermark. -/
  | markUploaded (a : TkArg)
  /-- HEARTBEAT (R396). A HEARTBEAT ticket restarts the heartbeat timer and may move the device from REST or HOLDOVER. -/
  | heartbeat (a : TkArg)
  /-- HOLDOVER (R394). A HOLDOVER ticket moves the device from SERVICE or CATCH-UP to HOLDOVER. -/
  | holdover (a : TkArg)
  /-- FENCE (R57). A FENCE ticket completes only after every earlier ticket of its ring has its receipt. -/
  | fence (a : TkArg)
  /-- SET_TIME (R153). A SET_TIME ticket checks a time-set record and slews or steps secure time. -/
  | setTime (a : TkArg) (obj : ObjRead)
  /-- READ_SEALED (R146). A READ_SEALED ticket delivers a tab's chain records, ciphertext and proof bundles, checked inside the device. -/
  | readSealed (a : TkArg) (obj : ObjRead)
  /-- TAB_STATUS_READ (R124). A READ_SEALED with content 0 writes a 64-byte status record for each of a range of tabs. -/
  | tabStatusRead (a : TkArg) (obj : ObjRead)
  /-- ABSENCE_PROOF_READ (R147). A READ_SEALED with content 0x08 writes a presence or absence proof of one tab for each of a range of ticks. -/
  | absenceProofRead (a : TkArg) (obj : ObjRead)
  /-- LEDGER_READ (R149). A READ_SEALED with TAB 0xFFFF_FFFE reads tick records and tick sheets. -/
  | ledgerRead (a : TkArg) (obj : ObjRead)
  /-- ESCROW_WRAP_READ (R249). A READ_SEALED with TAB 0xFFFF_FFFD and byte 60 of 0x01 reads the escrow wraps of a group. -/
  | escrowWrapRead (a : TkArg) (obj : ObjRead)
  /-- SIGNER_CERTIFICATE_READ (R249). A READ_SEALED with TAB 0xFFFF_FFFD and byte 60 of 0x02 reads signer certificates. -/
  | signerCertificateRead (a : TkArg) (obj : ObjRead)
  /-- IDENTITY_CERTIFICATE_READ (R249). A READ_SEALED with TAB 0xFFFF_FFFD and byte 60 of 0x03 reads both identity certificates. -/
  | identityCertificateRead (a : TkArg) (obj : ObjRead)
  /-- TAMPER_LOG_READ (R369). A READ_SEALED with TAB 0xFFFF_FFFC reads tamper log entries. -/
  | tamperLogRead (a : TkArg) (obj : ObjRead)
  /-- FAULT_LOG_READ (R433). A READ_SEALED with TAB 0xFFFF_FFFB reads fault log entries. -/
  | faultLogRead (a : TkArg) (obj : ObjRead)
  /-- READ_CLEAR (R18). A READ_CLEAR ticket delivers decrypted frames of a tab's entries with proofs, stopping at a withheld key. -/
  | readClear (a : TkArg) (obj : ObjRead)
  /-- SEARCH (R194). A SEARCH ticket runs a search applet over proven items and writes match records and a summary. -/
  | search (a : TkArg) (dest : ObjRead) (query : HostRead)
  /-- LOAD_APPLET (R188). A LOAD_APPLET ticket verifies a signed applet image and stores it under its number. -/
  | loadApplet (a : TkArg) (obj : ObjRead)
  /-- LOAD_TEMPLATE (R106). A LOAD_TEMPLATE ticket validates and replaces a template and its camera key list. -/
  | loadTemplate (a : TkArg) (obj : ObjRead)
  /-- LOCKSTEP (R198). SELF_TEST code 0x01 drains a stall and checks that an injected divergence is caught. -/
  | lockstepTest (a : TkArg) (dest : ObjRead) (out : TestOut)
  /-- MEMORY (R198). SELF_TEST code 0x02 drains a stall and runs a march test of its local memory. -/
  | memoryTest (a : TkArg) (dest : ObjRead) (out : TestOut)
  /-- KAT (R218). SELF_TEST code 0x03 runs the known-answer tests of a cipher, hash, PKE or ledger-hasher unit. -/
  | katTest (a : TkArg) (dest : ObjRead) (out : TestOut)
  /-- MONITOR (R370). SELF_TEST code 0x04 masks one tamper source and stimulates its detector. -/
  | monitorTest (a : TkArg) (dest : ObjRead) (out : MonitorOut)
  /-- FULL (R198). SELF_TEST code 0x05 runs every applicable test on a unit and its descendants. -/
  | fullTest (a : TkArg) (dest : ObjRead) (outs : List TestOut)
  /-- READ_LEVEL (R295). CALIBRATE kind 0x01 runs read-level calibration on one or all targets now. -/
  | readLevelCal (a : TkArg) (outs : List CalOut)
  /-- INTERFACE (R295). CALIBRATE kind 0x02 runs ZQ calibration and read DQ training on one or all targets. -/
  | interfaceCal (a : TkArg) (outs : List CalOut)
  /-- SCRUB (R295). CALIBRATE kind 0x03 scrubs every closed crate with a lane on one or all targets now. -/
  | scrubCal (a : TkArg) (outs : List ScrubOut)
  /-- ENROL (R331). An EXPORT request of kind ENROL pairs the cartridge in a slot with the device. -/
  | enrol (a : TkArg) (req : HostRead) (cart : CartAns)
  /-- EXPORT (R342). An EXPORT request of kind EXPORT places a device hold and opens a session on a blank enrolled cartridge. -/
  | exportOpen (a : TkArg) (req : HostRead) (cart : CartAns)
  /-- WIPE (R341). An EXPORT request of kind WIPE writes an all-zero manifest to an enrolled cartridge. -/
  | wipe (a : TkArg) (req : HostRead) (cart : CartAns)
  /-- ABANDON (R348). An EXPORT request of kind ABANDON ends a session and releases its hold. -/
  | abandon (a : TkArg) (req : HostRead) (cart : CartAns)
  /-- LOCKDOWN_RELEASE (R403). An owner-signed release is checked and, if accepted, rebuilds the vault and returns the device from LOCKDOWN to REST. -/
  | lockdownRelease (a : TkArg) (obj : ObjRead)
  /-- CLAIM (R381). A vendor-signed LIFECYCLE_REQUEST of kind CLAIM makes a SEALED device the first owner's. -/
  | claim (a : TkArg) (obj : ObjRead)
  /-- OWNER_CHANGE (R381). An owner-signed LIFECYCLE_REQUEST of kind OWNER_CHANGE moves the device to the next owner generation. -/
  | ownerChange (a : TkArg) (obj : ObjRead)
  /-- RETURN (R381). An owner-signed LIFECYCLE_REQUEST of kind RETURN moves the device to RETURNED. -/
  | returnDevice (a : TkArg) (obj : ObjRead)
  /-- SCRAP (R381). A LIFECYCLE_REQUEST of kind SCRAP burns the device to SCRAPPED. -/
  | scrap (a : TkArg) (obj : ObjRead)
  /-- AUTHORITY_UPDATE (R385). A LIFECYCLE_REQUEST of kind AUTHORITY_UPDATE replaces the authority record in force. -/
  | authorityUpdate (a : TkArg) (obj : ObjRead)
  /-- FUSE (R385). A LIFECYCLE_REQUEST of kind FUSE burns tamper-source disable fuses or KILL_ALLOWED. -/
  | fuse (a : TkArg) (obj : ObjRead) (stuck : List (Fin 32))
  /-- TRANSITION_PHASES (R381). Once the record carrying the LIFECYCLE event is durable, the intent, wipe and done phases of a transition run. -/
  | transitionPhases (stuck : Bool)
  /-- DEBUG_PASS (R391). A DEBUG_PASS ticket checks a signed pass and grants the allowed debug rights. -/
  | debugPass (a : TkArg) (obj : ObjRead)
  /-- ADD (R182). Otnak ADD sets rd to ra + rb. -/
  | oAdd (w : Nat) (rd ra rb : Fin 16)
  /-- SUB (R182). Otnak SUB sets rd to ra − rb. -/
  | oSub (w : Nat) (rd ra rb : Fin 16)
  /-- AND (R182). Otnak AND sets rd to ra and rb. -/
  | oAnd (w : Nat) (rd ra rb : Fin 16)
  /-- OR (R182). Otnak OR sets rd to ra or rb. -/
  | oOr (w : Nat) (rd ra rb : Fin 16)
  /-- XOR (R182). Otnak XOR sets rd to ra xor rb. -/
  | oXor (w : Nat) (rd ra rb : Fin 16)
  /-- SHL (R182). Otnak SHL shifts ra left by rb mod 64. -/
  | oShl (w : Nat) (rd ra rb : Fin 16)
  /-- SHR (R182). Otnak SHR shifts ra right logically by rb mod 64. -/
  | oShr (w : Nat) (rd ra rb : Fin 16)
  /-- SAR (R182). Otnak SAR shifts ra right arithmetically by rb mod 64. -/
  | oSar (w : Nat) (rd ra rb : Fin 16)
  /-- MUL (R182). Otnak MUL sets rd to the low 64 bits of ra × rb. -/
  | oMul (w : Nat) (rd ra rb : Fin 16)
  /-- MINU (R182). Otnak MINU sets rd to the unsigned minimum of ra and rb. -/
  | oMinu (w : Nat) (rd ra rb : Fin 16)
  /-- MAXU (R182). Otnak MAXU sets rd to the unsigned maximum of ra and rb. -/
  | oMaxu (w : Nat) (rd ra rb : Fin 16)
  /-- SLTU (R182). Otnak SLTU sets rd to 1 if ra < rb unsigned, otherwise 0. -/
  | oSltu (w : Nat) (rd ra rb : Fin 16)
  /-- BSWAP (R182). Otnak BSWAP reverses the 8 bytes of ra. -/
  | oBswap (w : Nat) (rd ra : Fin 16)
  /-- ADDI (R182). Otnak ADDI adds a sign-extended immediate to ra. -/
  | oAddi (w : Nat) (rd ra : Fin 16) (imm : BitVec 16)
  /-- ANDI (R182). Otnak ANDI ands ra with an immediate. -/
  | oAndi (w : Nat) (rd ra : Fin 16) (imm : BitVec 16)
  /-- ORI (R182). Otnak ORI ors ra with an immediate. -/
  | oOri (w : Nat) (rd ra : Fin 16) (imm : BitVec 16)
  /-- XORI (R182). Otnak XORI xors ra with an immediate. -/
  | oXori (w : Nat) (rd ra : Fin 16) (imm : BitVec 16)
  /-- SHLI (R182). Otnak SHLI shifts ra left by an immediate. -/
  | oShli (w : Nat) (rd ra : Fin 16) (imm : Fin 64)
  /-- SHRI (R182). Otnak SHRI shifts ra right logically by an immediate. -/
  | oShri (w : Nat) (rd ra : Fin 16) (imm : Fin 64)
  /-- LDI (R182). Otnak LDI loads a 16-bit immediate into rd. -/
  | oLdi (w : Nat) (rd : Fin 16) (imm : BitVec 16)
  /-- LDH1 (R182). Otnak LDH1 replaces bits [31:16] of ra with an immediate. -/
  | oLdh1 (w : Nat) (rd ra : Fin 16) (imm : BitVec 16)
  /-- LDH2 (R182). Otnak LDH2 replaces bits [47:32] of ra with an immediate. -/
  | oLdh2 (w : Nat) (rd ra : Fin 16) (imm : BitVec 16)
  /-- LDH3 (R182). Otnak LDH3 replaces bits [63:48] of ra with an immediate. -/
  | oLdh3 (w : Nat) (rd ra : Fin 16) (imm : BitVec 16)
  /-- LD8 (R182). Otnak LD8 loads one byte of slot memory. -/
  | oLd8 (w : Nat) (rd ra : Fin 16) (imm : BitVec 16)
  /-- LD16 (R182). Otnak LD16 loads two bytes of slot memory. -/
  | oLd16 (w : Nat) (rd ra : Fin 16) (imm : BitVec 16)
  /-- LD32 (R182). Otnak LD32 loads four bytes of slot memory. -/
  | oLd32 (w : Nat) (rd ra : Fin 16) (imm : BitVec 16)
  /-- LD64 (R182). Otnak LD64 loads eight bytes of slot memory. -/
  | oLd64 (w : Nat) (rd ra : Fin 16) (imm : BitVec 16)
  /-- ST8 (R182). Otnak ST8 stores one byte to slot memory. -/
  | oSt8 (w : Nat) (rd ra : Fin 16) (imm : BitVec 16)
  /-- ST16 (R182). Otnak ST16 stores two bytes to slot memory. -/
  | oSt16 (w : Nat) (rd ra : Fin 16) (imm : BitVec 16)
  /-- ST32 (R182). Otnak ST32 stores four bytes to slot memory. -/
  | oSt32 (w : Nat) (rd ra : Fin 16) (imm : BitVec 16)
  /-- ST64 (R182). Otnak ST64 stores eight bytes to slot memory. -/
  | oSt64 (w : Nat) (rd ra : Fin 16) (imm : BitVec 16)
  /-- IN8 (R182). Otnak IN8 reads one input byte. -/
  | oIn8 (w : Nat) (rd ra : Fin 16) (imm : BitVec 16)
  /-- IN16B (R182). Otnak IN16B reads two input bytes big-endian. -/
  | oIn16b (w : Nat) (rd ra : Fin 16) (imm : BitVec 16)
  /-- IN32B (R182). Otnak IN32B reads four input bytes big-endian. -/
  | oIn32b (w : Nat) (rd ra : Fin 16) (imm : BitVec 16)
  /-- IN32L (R182). Otnak IN32L reads four input bytes little-endian. -/
  | oIn32l (w : Nat) (rd ra : Fin 16) (imm : BitVec 16)
  /-- HMARK (R182). Otnak HMARK reads a host frame mark. -/
  | oHmark (w : Nat) (rd ra : Fin 16) (imm : BitVec 16)
  /-- QLD64 (R182). Otnak QLD64 reads 8 bytes of the query parameters in a search applet. -/
  | oQld64 (w : Nat) (rd ra : Fin 16) (imm : BitVec 16)
  /-- LDS (R182). Otnak LDS reads a state word. -/
  | oLds (w : Nat) (rd : Fin 16) (imm : Fin 8)
  /-- STS (R179). Otnak STS writes the working copy of a state word. -/
  | oSts (w : Nat) (rd : Fin 16) (imm : Fin 8)
  /-- INFO (R183). Otnak INFO reads an item-information value. -/
  | oInfo (w : Nat) (rd : Fin 16) (imm : Fin 12)
  /-- BEQ (R182). Otnak BEQ branches forward if ra = rb. -/
  | oBeq (w : Nat) (ra rb : Fin 16) (off : BitVec 12)
  /-- BNE (R182). Otnak BNE branches forward if ra ≠ rb. -/
  | oBne (w : Nat) (ra rb : Fin 16) (off : BitVec 12)
  /-- BLTU (R182). Otnak BLTU branches forward if ra < rb unsigned. -/
  | oBltu (w : Nat) (ra rb : Fin 16) (off : BitVec 12)
  /-- BGEU (R182). Otnak BGEU branches forward if ra ≥ rb unsigned. -/
  | oBgeu (w : Nat) (ra rb : Fin 16) (off : BitVec 12)
  /-- BLT (R182). Otnak BLT branches forward if ra < rb signed. -/
  | oBlt (w : Nat) (ra rb : Fin 16) (off : BitVec 12)
  /-- BGE (R182). Otnak BGE branches forward if ra ≥ rb signed. -/
  | oBge (w : Nat) (ra rb : Fin 16) (off : BitVec 12)
  /-- JMP (R182). Otnak JMP branches forward always. -/
  | oJmp (w : Nat) (off : BitVec 12)
  /-- LOOP (R182). Otnak LOOP runs its body n times. -/
  | oLoop (w : Nat) (n len : BitVec 12)
  /-- LOOPB (R182). Otnak LOOPB runs its body once per 2^n input bytes, with v15 set at each iteration. -/
  | oLoopb (w : Nat) (n len : BitVec 12)
  /-- LEAVE (R182). Otnak LEAVE leaves the innermost loop. -/
  | oLeave (w : Nat)
  /-- END (R182). Otnak END ends the item, and the stall hands its result to the till. -/
  | oEnd (w : Nat)
  /-- FIND (R182). Otnak FIND finds the first occurrence of a pattern in an input window. -/
  | oFind (w : Nat) (rd ra rb : Fin 16) (p k : Nat)
  /-- HASHM (R182). Otnak HASHM writes SHA-384 of slot memory into slot memory, using the row's hash engine. -/
  | oHashm (w : Nat) (ra rb : Fin 16) (imm : BitVec 16)
  /-- EMARK (R184). Otnak EMARK emits a frame mark. -/
  | oEmark (w : Nat) (ra : Fin 16)
  /-- EINDEX (R184). Otnak EINDEX emits an index record. -/
  | oEindex (w : Nat) (ra rb : Fin 16) (kind : BitVec 16)
  /-- EMATCH (R184). Otnak EMATCH emits a search match. -/
  | oEmatch (w : Nat) (ra rb : Fin 16)
  /-- REFUSE (R182). Otnak REFUSE ends the item refused, as malformed or as policy. -/
  | oRefuse (w : Nat) (code : BitVec 16)
  /-- GCM (R202). The row cipher engine runs an AES-GCM operation on a context. -/
  | gcm (r : CipherReq)
  /-- CTR (R202). The row cipher engine runs an AES-CTR operation. -/
  | ctr (r : CipherReq)
  /-- CBC (R202). The row cipher engine runs an AES-CBC operation with padding. -/
  | cbc (r : CipherReq)
  /-- CMAC (R202). The row cipher engine runs an AES-CMAC operation. -/
  | cmac (r : CipherReq)
  /-- XTS (R202). The row cipher engine runs an AES-XTS operation. -/
  | xts (r : CipherReq)
  /-- ECB (R203). The row cipher engine runs AES-ECB for self-test, and refuses it from firmware with MODE_REFUSED. -/
  | ecb (r : CipherReq)
  /-- SHA_256 (R214). A hash lane computes SHA-256. -/
  | sha256 (r : HashReq)
  /-- SHA_384 (R214). A hash lane computes SHA-384. -/
  | sha384 (r : HashReq)
  /-- SHA_512 (R214). A hash lane computes SHA-512. -/
  | sha512 (r : HashReq)
  /-- SHA3_256 (R214). A hash lane computes SHA3-256. -/
  | sha3x256 (r : HashReq)
  /-- SHA3_384 (R214). A hash lane computes SHA3-384. -/
  | sha3x384 (r : HashReq)
  /-- HMAC (R214). A hash lane computes HMAC over SHA-256, SHA-384 or SHA-512. -/
  | hmac (r : HashReq) (alg : HmacAlg) (key : KeySrc)
  /-- ECDSA_VERIFY_P256 (R221). PKE operation 0x10 verifies an ECDSA P-256 signature. -/
  | ecdsaVerifyP256 (r : PkeReq)
  /-- ECDSA_VERIFY_P384 (R221). PKE operation 0x11 verifies an ECDSA P-384 signature. -/
  | ecdsaVerifyP384 (r : PkeReq)
  /-- ECDSA_VERIFY_P521 (R221). PKE operation 0x12 verifies an ECDSA P-521 signature. -/
  | ecdsaVerifyP521 (r : PkeReq)
  /-- ECDSA_SIGN_P256 (R221). PKE operation 0x20 makes an ECDSA P-256 signature. -/
  | ecdsaSignP256 (r : PkeReq)
  /-- ECDSA_SIGN_P384 (R221). PKE operation 0x21 makes an ECDSA P-384 signature. -/
  | ecdsaSignP384 (r : PkeReq)
  /-- ECDSA_SIGN_P521 (R221). PKE operation 0x22 makes an ECDSA P-521 signature. -/
  | ecdsaSignP521 (r : PkeReq)
  /-- ECDH_P256 (R221). PKE operation 0x30 performs ECDH on P-256. -/
  | ecdhP256 (r : PkeReq)
  /-- ECDH_P384 (R221). PKE operation 0x31 performs ECDH on P-384. -/
  | ecdhP384 (r : PkeReq)
  /-- ECDH_P521 (R221). PKE operation 0x32 performs ECDH on P-521. -/
  | ecdhP521 (r : PkeReq)
  /-- EC_KEY_GENERATION_P256 (R221). PKE operation 0x40 generates a P-256 key pair. -/
  | ecKeyGenerationP256 (r : PkeReq)
  /-- EC_KEY_GENERATION_P384 (R221). PKE operation 0x41 generates a P-384 key pair. -/
  | ecKeyGenerationP384 (r : PkeReq)
  /-- EC_KEY_GENERATION_P521 (R221). PKE operation 0x42 generates a P-521 key pair. -/
  | ecKeyGenerationP521 (r : PkeReq)
  /-- ED25519_VERIFY (R221). PKE operation 0x50 verifies an Ed25519 signature. -/
  | ed25519Verify (r : PkeReq)
  /-- ED25519_SIGN (R221). PKE operation 0x51 makes an Ed25519 signature. -/
  | ed25519Sign (r : PkeReq)
  /-- X25519 (R226). PKE operation 0x60 computes an X25519 shared secret. -/
  | x25519 (r : PkeReq)
  /-- X25519_KEY_GENERATION (R221). PKE operation 0x61 generates an X25519 key. -/
  | x25519KeyGeneration (r : PkeReq)
  /-- RSA_PUBLIC_2048 (R221). PKE operation 0x70 performs an RSA-2048 public operation. -/
  | rsaPublic2048 (r : PkeReq)
  /-- RSA_PUBLIC_3072 (R221). PKE operation 0x71 performs an RSA-3072 public operation. -/
  | rsaPublic3072 (r : PkeReq)
  /-- RSA_PUBLIC_4096 (R221). PKE operation 0x72 performs an RSA-4096 public operation. -/
  | rsaPublic4096 (r : PkeReq)
  /-- RSA_PRIVATE_2048 (R221). PKE operation 0x80 performs an RSA-2048 secret-key operation with CRT. -/
  | rsaPrivate2048 (r : PkeReq)
  /-- RSA_PRIVATE_3072 (R221). PKE operation 0x81 performs an RSA-3072 secret-key operation with CRT. -/
  | rsaPrivate3072 (r : PkeReq)
  /-- RSA_PRIVATE_4096 (R221). PKE operation 0x82 performs an RSA-4096 secret-key operation with CRT. -/
  | rsaPrivate4096 (r : PkeReq)
  /-- ML_DSA_44_VERIFY (R221). PKE operation 0x90 verifies an ML-DSA-44 signature. -/
  | mlDsa44Verify (r : PkeReq)
  /-- ML_DSA_65_VERIFY (R221). PKE operation 0x91 verifies an ML-DSA-65 signature. -/
  | mlDsa65Verify (r : PkeReq)
  /-- ML_DSA_87_VERIFY (R221). PKE operation 0x92 verifies an ML-DSA-87 signature. -/
  | mlDsa87Verify (r : PkeReq)
  /-- ML_DSA_44_SIGN (R221). PKE operation 0xA0 makes a hedged ML-DSA-44 signature. -/
  | mlDsa44Sign (r : PkeReq)
  /-- ML_DSA_65_SIGN (R228). PKE operation 0xA1 makes a hedged ML-DSA-65 signature. -/
  | mlDsa65Sign (r : PkeReq)
  /-- ML_DSA_87_SIGN (R221). PKE operation 0xA2 makes a hedged ML-DSA-87 signature. -/
  | mlDsa87Sign (r : PkeReq)
  /-- ML_DSA_44_KEY_GENERATION (R221). PKE operation 0xB0 generates an ML-DSA-44 key pair. -/
  | mlDsa44KeyGeneration (r : PkeReq)
  /-- ML_DSA_65_KEY_GENERATION (R221). PKE operation 0xB1 generates an ML-DSA-65 key pair. -/
  | mlDsa65KeyGeneration (r : PkeReq)
  /-- ML_DSA_87_KEY_GENERATION (R221). PKE operation 0xB2 generates an ML-DSA-87 key pair. -/
  | mlDsa87KeyGeneration (r : PkeReq)
  /-- ML_KEM_768_KEY_GENERATION (R221). PKE operation 0xC0 generates an ML-KEM-768 key pair. -/
  | mlKem768KeyGeneration (r : PkeReq)
  /-- ML_KEM_768_ENCAPSULATION (R221). PKE operation 0xC1 performs ML-KEM-768 encapsulation. -/
  | mlKem768Encapsulation (r : PkeReq)
  /-- ML_KEM_768_DECAPSULATION (R221). PKE operation 0xC2 performs ML-KEM-768 decapsulation. -/
  | mlKem768Decapsulation (r : PkeReq)
  /-- BUSY_RETRY (R229). A device-level requester that received BUSY retries its PKE request after 10 µs. -/
  | busyRetry
  /-- TICK_BOUNDARY (R129). A tick boundary of secure time closes the open tick, freezes its leaves and starts building its record. -/
  | tickBoundary
  /-- TICK_RECORD_SEALED (R137). Both signatures of a tick record complete and the record is sealed. -/
  | tickRecordSealed (delay100us attempts : Nat)
  /-- TICK_RECORD_DURABLE (R139). The ledger-crate pages of a sealed record and the entries it covers are programmed, and the record becomes durable. -/
  | tickRecordDurable (failedLanes : List Nat)
  /-- SLEW (R154). Every 2^SHIFT RTC counts the backup domain applies one count of the slew remainder. -/
  | slew
  /-- TIME_CONFIG (R160). A write of TICK.SLEW or TICK.UNSIGNED takes effect at once and makes a TIME_CONFIG event. -/
  | timeConfig (slew unsigned : Option (BitVec 32))
  /-- EPOCH_PREPARATION (R246). From 60 s before each hour the vault generates the next epoch keys and programs their escrow wraps. -/
  | epochPreparation (group : Fin 64)
  /-- EPOCH_CHANGE (R246). At a whole hour of secure time, each group whose next wrap is durable makes its new epoch current. -/
  | epochChange
  /-- SHRED (R250). The destruction of due epoch keys completes with the erase of the superseded vault image, and SHRED events are recorded. -/
  | shred
  /-- DRBG_RESEED (R239). Every 1 ms the vault's CTR_DRBG reseeds from the conditioned entropy source. -/
  | drbgReseed (healthy : Bool)
  /-- GRINDER_RESEED (R208). Every 1 ms a row's grinder reseeds from the entropy source. -/
  | grinderReseed (row : Fin 64) (healthy : Bool)
  /-- POOL_RESEED (R236). Every 1 ms the PKE pool's generator reseeds from the entropy source. -/
  | poolReseed (healthy : Bool)
  /-- ROW_PROGRAMMED (R278). A row's lane-page programs complete, releasing staging and raising durable watermarks. -/
  | rowProgrammed (crate : Nat) (failedLanes : List Nat)
  /-- RECLAIM (R283). When free lane blocks outside the reserve cannot supply four prepared crates, the oldest suitable crate is relocated as needed and erased. -/
  | reclaim
  /-- REBUILD (R300). The percolator relocates every retained object of a DEGRADED or EXPOSED crate and erases it. -/
  | rebuild
  /-- PERIODIC_SCRUB (R293). Within FLASH.SCRUB.DAYS of a crate's close or last scrub, every row is read through decoding and reconstruction. -/
  | periodicScrub (out : ScrubOut)
  /-- READ_DISTURB_SCRUB (R293). A crate whose read-disturb count reaches the limit is scrubbed at once. -/
  | readDisturbScrub (out : ScrubOut)
  /-- REFRESH (R293). A crate scheduled by scrub, or closed for AGE_DAYS, has its retained objects relocated and is erased. -/
  | refresh
  /-- READ_LEVEL_CALIBRATION (R294). Every PERIOD_H hours, or after 16 more soft decodes, a target's read-level offsets are recalibrated. -/
  | readLevelCalibration (out : CalOut)
  /-- WEAR_LEVELLING (R296). When erase counts on a channel spread beyond WEAR_SPREAD, the crate holding the least-worn lane block is relocated and erased. -/
  | wearLevelling
  /-- BUILD (R261). A write of FLASH.BUILD_CTRL.START builds the array from the host's build description. -/
  | build (desc : HostRead) (answers : List TargetAns)
  /-- EXTENSION (R261). A START write with EXTEND set adds new targets to a built array in REST. -/
  | extension (desc : HostRead) (answers : List TargetAns)
  /-- RETRAIN (R263). Every FLASH.RETRAIN.PERIOD_S, or after long gating, each target is paused and retrained. -/
  | retrain (target : Nat) (passes : Bool)
  /-- FLASH_TIMEOUT (R266). A flash operation exceeds its timeout, and the target is reset, identified and retrained or set NON_RESPONSIVE. -/
  | flashTimeout (target lun : Nat) (lunResetOk targetResetOk idOk trainOk : Bool)
  /-- RESET (R264). Flash command 0xFF resets a target. -/
  | fcReset (target : Nat)
  /-- RESET_LUN (R264). Flash command 0xFA resets one LUN. -/
  | fcResetLun (target lun : Nat)
  /-- VOLUME_SELECT (R255). Flash command 0xE1 selects a volume on a shared CE pin. -/
  | fcVolumeSelect (target : Nat)
  /-- ODT_CONFIGURE (R255). Flash command 0xE2 sets on-die termination. -/
  | fcOdtConfigure (target : Nat)
  /-- READ_ID (R264). Flash command 0x90 reads a target's ID. -/
  | fcReadId (target : Nat) (id : Bytes)
  /-- READ_PARAMETER_PAGE (R264). Flash command 0xEC reads the ONFI parameter page. -/
  | fcReadParameterPage (target : Nat) (agrees : Bool)
  /-- SET_FEATURES (R264). Flash command 0xEF sets a feature. -/
  | fcSetFeatures (target : Nat) (fa : BitVec 8) (value : BitVec 32)
  /-- GET_FEATURES (R264). Flash command 0xEE reads a feature. -/
  | fcGetFeatures (target : Nat) (fa : BitVec 8)
  /-- SET_FEATURES_BY_LUN (R260). Flash command 0xD5 sets retry or read-level features by LUN. -/
  | fcSetFeaturesByLun (target lun : Nat) (fa : BitVec 8) (value : BitVec 32)
  /-- GET_FEATURES_BY_LUN (R264). Flash command 0xD4 reads a feature by LUN. -/
  | fcGetFeaturesByLun (target lun : Nat) (fa : BitVec 8)
  /-- ZQ_CALIBRATION_LONG (R262). Flash command 0xF9 runs long ZQ calibration. -/
  | fcZqCalibrationLong (target : Nat)
  /-- ZQ_CALIBRATION_SHORT (R263). Flash command 0xD9 runs short ZQ calibration. -/
  | fcZqCalibrationShort (target : Nat)
  /-- READ_DQ_TRAINING (R264). Flash command 0x62 runs read DQ training. -/
  | fcReadDqTraining (target : Nat) (passes : Bool)
  /-- WRITE_TRAINING_TX (R264). Flash command 0x63 runs write training Tx. -/
  | fcWriteTrainingTx (target : Nat) (passes : Bool)
  /-- WRITE_TRAINING_RX (R264). Flash command 0x64 runs write training Rx. -/
  | fcWriteTrainingRx (target : Nat) (passes : Bool)
  /-- READ (R280). Flash command 0x00–0x30 reads a page, whose codewords are decoded through the LDPC stages. -/
  | fcRead (target lun block page cls : Nat) (cws : List Codeword)
  /-- MULTI_PLANE_READ (R264). Flash command 0x00–0x32 reads several planes. -/
  | fcMultiPlaneRead (target lun block page cls : Nat) (cws : List Codeword)
  /-- CHANGE_READ_COLUMN_ENHANCED (R264). Flash command 0x06–0xE0 selects a column for data out. -/
  | fcChangeReadColumnEnhanced (target lun : Nat) (column : Nat)
  /-- READ_STATUS_ENHANCED (R264). Flash command 0x78 polls a LUN's status. -/
  | fcReadStatusEnhanced (target lun : Nat) (ready fail : Bool)
  /-- PAGE_PROGRAM (R264). Flash command 0x80–0x10 programs a page. -/
  | fcPageProgram (target lun block page : Nat)
  /-- MULTI_PLANE_PROGRAM (R264). Flash command 0x80–0x11 programs several planes. -/
  | fcMultiPlaneProgram (target lun block page : Nat)
  /-- BLOCK_ERASE (R264). Flash command 0x60–0xD0 erases a block. -/
  | fcBlockErase (target lun block : Nat)
  /-- MULTI_PLANE_ERASE (R264). Flash command 0x60–0xD1 erases several planes. -/
  | fcMultiPlaneErase (target lun block : Nat)
  /-- ERASE_SUSPEND (R265). The vendor suspend opcode suspends an erase so that class-0 or class-2 reads can run. -/
  | fcEraseSuspend (target lun cls : Nat)
  /-- ERASE_RESUME (R265). The vendor resume opcode resumes a suspended erase. -/
  | fcEraseResume (target lun : Nat)
  /-- DDR_ERROR (R311). A DDR4 read shows a corrected, uncorrectable or MAC error and is handled accordingly. -/
  | ddrError (chan : Fin 4) (page : Nat) (err : DdrErr) (held : List LineHeld) (interrupt : Nat)
  /-- PATROL_SCRUB (R313). Every DDR.SCRUB.HOURS patrol scrub reads every line. -/
  | patrolScrub (errors : List PatrolErr)
  /-- SELF_REFRESH (R314). In REST a DDR4 channel idle for IDLE_MS enters self-refresh. -/
  | selfRefresh (chan : Fin 4) (enter : Bool)
  /-- ELASTIC_FILL_COMPLETE (R310). The background fill of the elastic region ends and DDR.STATUS.STATE becomes READY. -/
  | elasticFillComplete
  /-- CARTRIDGE_INSERTION (R325). A slot's DET_N falls, which starts the 50 ms debounce. -/
  | cartridgeInsertion (slot : Fin 4)
  /-- SLOT_BRINGUP (R325). After DET_N has stayed low for 50 ms, the slot is powered, identified, switched up in speed and read. -/
  | slotBringup (slot : Fin 4) (ans : BringAns)
  /-- REMOVAL (R329). A slot's DET_N rises; CK stops, the lines float, power is cut and discharged, and the session waits. -/
  | removal (slot : Fin 4)
  /-- LINK_TIMEOUT (R327). An exceeded link timing maximum is handled as a removal followed by one new bring-up. -/
  | linkTimeout (slot : Fin 4) (ans : BringAns)
  /-- SLOT_IDLE (R328). A slot idle for 100 ms is sent to SLEEP and its clock may stop. -/
  | slotIdle (slot : Fin 4)
  /-- GO_IDLE (R322). Cartridge command C00 returns the cartridge to IDLE at mode 0. -/
  | mhGoIdle (slot : Fin 4)
  /-- IDENTIFY (R319). Cartridge command C01 asks for READY and the generation. -/
  | mhIdentify (slot : Fin 4) (answer : BitVec 48)
  /-- READ_IDENT (R319). Cartridge command C02 returns the identification long answer. -/
  | mhReadIdent (slot : Fin 4) (answer : BitVec 136)
  /-- SELECT (R322). Cartridge command C03 moves READY to TRANSFER. -/
  | mhSelect (slot : Fin 4) (answer : BitVec 48)
  /-- SWITCH (R323). Cartridge command C06 switches the speed step. -/
  | mhSwitch (slot : Fin 4) (mode : Fin 5) (answer : BitVec 48)
  /-- READ_CHECK (R324). Cartridge command C08 returns the 64-byte check pattern on every line. -/
  | mhReadCheck (slot : Fin 4) (answer : BitVec 48) (lines : LineBits)
  /-- STOP (R322). Cartridge command C12 ends an uncounted transfer. -/
  | mhStop (slot : Fin 4) (answer : BitVec 48)
  /-- STATUS (R318). Cartridge command C13 returns the status word. -/
  | mhStatus (slot : Fin 4) (answer : BitVec 48)
  /-- READ_BLOCKS (R322). Cartridge command C17 reads blocks of the general area. -/
  | mhReadBlocks (slot : Fin 4) (block : BitVec 32) (answer : BitVec 48) (blocks : List LineBits)
  /-- WRITE_BLOCKS (R321). Cartridge command C18 writes blocks, each answered with a token and a busy phase. -/
  | mhWriteBlocks (slot : Fin 4) (block : BitVec 32) (data : Bytes) (answer : BitVec 48) (token : BitVec 5)
  /-- SET_COUNT (R322). Cartridge command C23 sets the block count of the next transfer. -/
  | mhSetCount (slot : Fin 4) (count : BitVec 16) (answer : BitVec 48)
  /-- RPA_READ (R333). Cartridge command C32 returns RPA response frames. -/
  | mhRpaRead (slot : Fin 4) (answer : BitVec 48) (blocks : List LineBits)
  /-- RPA_WRITE (R333). Cartridge command C33 sends authenticated RPA request frames. -/
  | mhRpaWrite (slot : Fin 4) (address : Nat) (units : List Bytes) (answer : BitVec 48)
  /-- COUNTER_READ (R333). An RPA counter read returns the write counter under a fresh nonce. -/
  | mhCounterRead (slot : Fin 4) (answer : BitVec 48) (lines : LineBits)
  /-- PAIR (R331). Cartridge command C36 sends the ephemeral key, from which both ends derive the pairing key. -/
  | mhPair (slot : Fin 4) (answer : BitVec 48)
  /-- READ_KEY (R331). Cartridge command C37 returns the cartridge's static public key. -/
  | mhReadKey (slot : Fin 4) (answer : BitVec 48) (lines : LineBits)
  /-- SLEEP (R328). Cartridge command C40 moves a Mahano-2 cartridge to SLEEP. -/
  | mhSleep (slot : Fin 4) (answer : BitVec 48)
  /-- WAKE_CARTRIDGE (R328). Cartridge command C41 returns a sleeping cartridge to TRANSFER. -/
  | mhWake (slot : Fin 4) (answer : BitVec 48)
  /-- STREAM_UNIT_WRITE (R346). The next stream unit of an open session is written and confirmed. -/
  | streamUnitWrite (slot : Fin 4) (token : BitVec 5) (writeFail : Bool) (readback : Bytes)
  /-- HEADLESS_AVAILABLE (R350). Every configured link has been out of L0 for 30 s, and head-less operation becomes available. -/
  | headlessAvailable
  /-- HEADLESS_SESSION_OPEN (R350). With a HEADLESS card authorised and a blank enrolled cartridge ready, a head-less session opens. -/
  | headlessSessionOpen
  /-- CARTRIDGE_RETURN_TIMEOUT (R350). A head-less session whose cartridge is not returned within 10 minutes is abandoned. -/
  | cartridgeReturnTimeout
  /-- HX_ST_TIMEOUT (R351). After code 7 has shown for 5 s, HX_ST returns to the earlier code. -/
  | hxStTimeout
  /-- CARD_INSERTION (R336). An operator card's DET_N falls, which starts the 50 ms debounce. -/
  | cardInsertion (card : Fin 2)
  /-- CARD_ACTIVATION (R336). After 50 ms the card is activated class by class, given ATR and PPS, and authenticated. -/
  | cardActivation (card : Fin 2) (atr : Option AtrAns) (ppsOk : Bool)
  /-- SELECT_BY_NAME (R337). APDU SELECT by name selects the Selyth application. -/
  | apduSelectByName (card : Fin 2) (sw : Option (BitVec 16))
  /-- READ_BINARY (R337). APDU READ BINARY reads up to 256 bytes of the operator certificate. -/
  | apduReadBinary (card : Fin 2) (data : Bytes) (sw : Option (BitVec 16))
  /-- INTERNAL_AUTHENTICATE (R337). APDU INTERNAL AUTHENTICATE has the card sign the challenge. -/
  | apduInternalAuthenticate (card : Fin 2) (data : Bytes) (sw : Option (BitVec 16))
  /-- GET_RESPONSE (R337). Under T=0, GET RESPONSE follows a status of 61 xx. -/
  | apduGetResponse (card : Fin 2) (data : Bytes) (sw : Option (BitVec 16))
  /-- CARD_REMOVAL (R336). A card's DET_N rises; the card is deactivated and its authorisation ends. -/
  | cardRemoval (card : Fin 2)
  /-- AUTHORISATION_EXPIRY (R339). CART.CTRL.CARD_MIN minutes after authentication, authorisation ends and a present card is authenticated again. -/
  | authorisationExpiry (card : Fin 2)
  /-- TAMPER_DETECTION (R355). A main-power tamper source detects, is logged and takes its programmed response level. -/
  | tamperDetection (dets : List Det) (fraction : Nat)
  /-- BACKUP_DETECTION (R361). In BACKUP a backup-domain source detects and takes its LOG or ERASE action with an event-ring entry. -/
  | backupDetection (dets : List Det)
  /-- TAMPER_LOG_FLUSH (R368). Queued tamper log entries are written to the system area within 100 ms. -/
  | tamperLogFlush
  /-- FAULT_LOG_FLUSH (R430). Queued fault log entries are written to the system area within 100 ms. -/
  | faultLogFlush
  /-- COUNTER_CHECK (R376). Every hour the life-cycle counter is read back and checked for consistency. -/
  | counterCheck (damaged : Option Nat)
  /-- LOCK (R365). Writing 1 to TAMPER.CTRL.LOCK locks the source levels against lowering until the next main power-up. -/
  | lock
  /-- TAMPER_SRC_WRITE (R365). A write of TAMPER.SRC changes a source's level, BACKUP_ERASE or DEBOUNCE and makes a CONFIG log entry. -/
  | tamperSrcWrite (source : Fin 32) (value : BitVec 32)
  /-- NEW_NONCE (R388). Writing LCDBG.CTRL.NEW_NONCE draws a new 16-byte device nonce. -/
  | newNonce
  /-- END_PASS (R392). Writing LCDBG.CTRL.END_PASS ends the debug pass in force. -/
  | endPass
  /-- PASS_EXPIRY (R392). The lifetime of the debug pass in force runs out. -/
  | passExpiry
  /-- DEBUG_ACCESS (R387). An access on the debug port is served under the pass's rights or refused, raising TS29. -/
  | debugAccess (right : Fin 8) (offset : Nat)
  /-- EXTEST (R387). Selecting EXTEST on the debug port holds the core in reset as a device reset. -/
  | extest
  /-- HEARTBEAT_TIMEOUT (R396). The heartbeat timer reaches TIMEOUT_S, and the device enters HOLDOVER. -/
  | heartbeatTimeout
  /-- CATCHUP_END (R394). Writing CLKPWR.MODE_CTRL.CATCHUP_END ends CATCH-UP. -/
  | catchupEnd
  /-- START_UP (R407). PWR_OK rises and the device starts up, restoring its state and setting READY. -/
  | startUp (ans : StartAns)
  /-- POWER_LOSS (R405). PWR_OK falls, the main domains are held in reset and the device enters BACKUP. -/
  | powerLoss
  /-- BROWN_OUT (R410). VDD_CORE falls below VRST with PWR_OK high and the main domains reset. -/
  | brownOut
  /-- DEVICE_RESET (R411). Writing 0xD1E5 to DEV.CTRL.RESET_KEY stops fetching, lets flash operations finish and resets the main domains. -/
  | deviceReset
  /-- PORT_RESET (R65). PERST_N or a hot reset of a port stops its ring pairs without receipts and returns them to their reset values. -/
  | portReset (port : Fin 2)
  /-- FLR (R65). A function-level reset stops that function's ring pairs as a port reset does. -/
  | flr (port : Fin 2)
  /-- LINK_DOWN (R66). A port's link goes down; its ACTIVE ring pairs enter ERROR with PORT_DOWN. -/
  | linkDown (port : Fin 2)
  /-- LINK_UP (R60). A port's link returns to L0, and its held messages and marked watermark entries are sent. -/
  | linkUp (port : Fin 2) (speed width : Nat)
  /-- VBAT_SWITCHOVER (R406). The backup domain switches between VDD_IO18 and VBAT as VDD_IO18 crosses 1.62 V. -/
  | vbatSwitchover (toVbat : Bool)
  /-- SUPPLY_WARNING (R408). VDD_CORE falls below VWARN; stalls, engines, flash and DDR4 pause. -/
  | supplyWarning
  /-- WARNING_RELEASE (R409). VDD_CORE has stayed above VWARN + 15 mV for 10 µs, and paused work resumes or re-runs. -/
  | warningRelease (us : Nat)
  /-- ROW_GATE (R414). In REST a row with no work for 1 ms gates its clock. -/
  | rowGate (row : Fin 64)
  /-- FLASH_GROUP_GATE (R414). A flash group with no operation for 1 ms is gated. -/
  | flashGroupGate (group : Fin 8)
  /-- SYSCLK_LOSS (R413). SYSCLK shows no edge for 1 µs; the PLLs switch to the internal reference and the domains pause. -/
  | sysclkLoss
  /-- SYSCLK_RESUME (R425). Every PLL has locked; held boundaries are applied and interrupted work re-runs. -/
  | sysclkResume (interrupt : Nat)
  /-- RECONCILIATION (R426). After an overrun the destination reads the source's running total and adds the difference. -/
  | reconciliation (crossing : Nat) (total : BitVec 16)
  /-- LOCKSTEP_MISMATCH (R172). A stall's cores disagree; the stall is FAULTED and its items re-run on the spare. -/
  | lockstepMismatch (unit : Nat) (interrupt : Nat)
  /-- WORST_CASE_OVERRUN (R175). An item runs past its computed worst case and is handled as a lockstep mismatch. -/
  | worstCaseOverrun (unit : Nat) (interrupt : Nat)
  /-- STALL_TEST_COMPLETE (R173). A FAULTED stall's LOCKSTEP and MEMORY tests end, returning it to ACTIVE or retiring it. -/
  | stallTestComplete (unit : Nat) (failedCode : Option Nat)
  /-- CHECK_FAULT (R211). A cipher or hash engine check fails; the operation is discarded, calls go to the paired engine and the item re-runs. -/
  | checkFault (unit : Nat) (interrupt : Nat)
  /-- LEDGER_HASHER_CHECK (R217). A ledger hasher check fails and hasher e xor 1 recomputes the subtree. -/
  | ledgerHasherCheck (hasher : Fin 8) (subtree : Fin 8) (interrupt : Nat)
  /-- PKE_CHECK (R234). A PKE datapath check fails; the engine wipes and reports ABORTED with FAULT, and the requester resubmits. -/
  | pkeCheck (engine : Fin 16) (interrupt : Nat)
  /-- SHORT_SET_COMPLETE (R235). A faulted engine's short known-answer set ends, returning it to service or retiring it. -/
  | shortSetComplete (unit : Nat) (failedBits : Nat)
  /-- LAT_CLEAR (R91). Writing CLASS.CTRL.LAT_CLEAR sets both fields of CLASS.LAT0 to 0. -/
  | latClear
  /-- MAX_CLEAR (R435). Writing FAULT.CTRL.MAX_CLEAR sets FAULT.MAX_INTERRUPT.MAX to 0. -/
  | maxClear
  /-- WMT_BASE_WRITE (R447). A write of DEV.WMT_BASE sets a port's watermark-table base, and the entries of marked tabs are written to it. -/
  | wmtBaseWrite (port : Fin 2) (value : BitVec 64)
  /-- INTR_ENABLE_WRITE (R450). A write of INTR.ENABLE that sets the enable of a set cause sends its message. -/
  | intrEnableWrite (value : BitVec 32)
  /-- INTR_VECTOR_WRITE (R451). A write of INTR.VECTOR moves a cause to a vector and port, sending a held message on the new port. -/
  | intrVectorWrite (cause : Fin 4) (value : BitVec 32)
  /-- LATCHED_READ (R438). A 32-bit read of the low word of a 64-bit register, TICK.NOW included, latches the high word. -/
  | latchedRead (port : Fin 2) (bar : Nat) (offset : Nat) (width : Nat)
  /-- REGISTER_WRITE (R7). A write to a register with no behaviour of its own sets, clears or ignores the field by its access type. -/
  | registerWrite (wr : RegWrite)
  /-- POWER_STATE_D3HOT (R25). The host moves a function between D0 and D3hot, and in D3hot the function fetches no ticket and masters no transaction. -/
  | powerStateD3hot (port : Fin 2) (d3 : Bool)
  /-- PERST_RELEASE (R404). PERST_N of a port is released, and the port's host domains begin to answer configuration space and train the link. -/
  | perstRelease (port : Fin 2)
  /-- CONDITION_CLEARED (R355). A tamper source's lasting condition becomes absent, so its ACTIVE bit clears and the source is armed to detect again. -/
  | conditionCleared (source : Fin 32)
  /-- VBAT_LOSS (R460). VBAT falls below 2.0 V or is removed while main power is absent, and the RTC, BBRAM, event ring and backup-held settings are lost. -/
  | vbatLoss
  /-- VBAT_APPLIED (R404). A cell is applied to an unpowered device, and the backup domain starts FRESH and begins counting and watching the loops. -/
  | vbatApplied
  /-- MERGED_MESSAGE (R450). An INTR message that was merged because it fell within 1 µs of the previous message of its cause is sent 1 µs after that message. -/
  | mergedMessage (cause : Fin 4)
deriving DecidableEq, Repr

end Sys2Proof
end

