-- ==== Sys2Proof/Machine/Bytes.lean ====
section
/-! DEFINITION. Byte strings: little- and big-endian integers, slices, padding, bit-field packing. -/

namespace Sys2Proof.Machine

/-- The little-endian value of a byte string. -/
def leNat : Bytes → Nat
  | [] => 0
  | b :: r => b.toNat + 256 * leNat r

/-- The big-endian value of a byte string. -/
def beNat (b : Bytes) : Nat := b.foldl (fun a x => a * 256 + x.toNat) 0

/-- `n` little-endian bytes of `v`. -/
def leBytes : Nat → Nat → Bytes
  | 0, _ => []
  | n + 1, v => BitVec.ofNat 8 v :: leBytes n (v / 256)

/-- `n` big-endian bytes of `v`. -/
def beBytes (n v : Nat) : Bytes := (leBytes n v).reverse

/-- `n` zero bytes. -/
def zeros (n : Nat) : Bytes := List.replicate n 0

/-- `len` bytes from offset `off`; short where the string is short. -/
def slice (b : Bytes) (off len : Nat) : Bytes := (b.drop off).take len

/-- The little-endian field of `n` bytes at offset `off`. -/
def fld (b : Bytes) (off n : Nat) : Nat := leNat (slice b off n)

/-- The string cut or zero-padded to exactly `n` bytes. -/
def fitTo (n : Nat) (b : Bytes) : Bytes := b.take n ++ zeros (n - b.length)

/-- Are all bytes zero? -/
def allZero (b : Bytes) : Bool := b.all (· == 0)

/-- `n` rounded up to a multiple of `m`. -/
def roundUp (n m : Nat) : Nat := (n + m - 1) / m * m

/-- `⌈n ÷ m⌉`. -/
def ceilDiv (n m : Nat) : Nat := (n + m - 1) / m

/-- The string padded with zeros to a multiple of 8 bytes. -/
def pad8 (b : Bytes) : Bytes := b ++ zeros (roundUp b.length 8 - b.length)

/-- Bit `i` of a number. -/
def bit (v i : Nat) : Bool := v.testBit i

/-- The field of `len` bits from bit `lo` of a number. -/
def bits (v lo len : Nat) : Nat := v / 2 ^ lo % 2 ^ len

/-- 1 for true, 0 for false. -/
def b2n (b : Bool) : Nat := if b then 1 else 0

/-- A field value placed at bit `lo`, cut to `len` bits. -/
def put (v lo len : Nat) : Nat := v % 2 ^ len * 2 ^ lo

/-- `v` held within `lo` and `hi`. -/
def clamp (v lo hi : Nat) : Nat := if v < lo then lo else if hi < v then hi else v

/-- A number saturating at the largest value of `w` bits. -/
def sat (w v : Nat) : Nat := if v < 2 ^ w then v else 2 ^ w - 1

/-- A signed number as `w` bits of two's complement. -/
def ofSigned (w : Nat) (i : Int) : Nat := (i % (2 ^ w : Int)).toNat

/-- The signed number that `w` bits of two's complement hold. -/
def toSigned (w v : Nat) : Int := if v % 2 ^ w < 2 ^ (w - 1) then (v % 2 ^ w : Nat) else (v % 2 ^ w : Nat) - (2 ^ w : Int)

/-- A signed number saturating at `w` bits, in two's complement. -/
def satSigned (w : Nat) (i : Int) : Nat :=
  if i < -(2 ^ (w - 1) : Int) then 2 ^ (w - 1)
  else if (2 ^ (w - 1) : Int) ≤ i then 2 ^ (w - 1) - 1 else ofSigned w i

/-- The bytewise xor of two strings, as long as the shorter. -/
def xorBytes (a b : Bytes) : Bytes := List.zipWith (· ^^^ ·) a b

/-- The bytewise and of two strings, as long as the shorter. -/
def andBytes (a b : Bytes) : Bytes := List.zipWith (· &&& ·) a b

/-- `log2` rounded up (0 for 0 and 1). -/
def log2Up (n : Nat) : Nat := if n ≤ 1 then 0 else Nat.log2 (n - 1) + 1

end Sys2Proof.Machine
end

