-- ==== Sys2Proof/Machine/Aes.lean ====
section
/-! DEFINITION. AES and its modes as R202 names them (FIPS 197; SP 800-38A, B, D, E, F; IEEE 1619; RFC 5652). The spec does not repeat the standards (log 5).
Dummy rounds, shuffling and the order in which GHASH takes blocks never change a result (R202, R206, R207), so they do not appear. -/

namespace Sys2Proof.Machine

/-- Multiplication by x in GF(2^8) with the AES polynomial. -/
def xtime (a : Byte) : Byte := (a <<< 1) ^^^ (if a.msb then 0x1B else 0)

/-- Multiplication in GF(2^8), over the low `n` bits of `b`. -/
def gmulAux : Nat → Byte → Nat → Byte
  | 0, _, _ => 0
  | n + 1, a, b => (if b % 2 = 1 then a else 0) ^^^ gmulAux n (xtime a) (b / 2)

def gmul (a b : Byte) : Byte := gmulAux 8 a b.toNat

/-- The inverse in GF(2^8), as the 254th power: `a` to 2^n − 2 over n squarings. -/
def ginvAux : Nat → Byte → Byte
  | 0, _ => 1
  | n + 1, a => let s := gmul a a; gmul s (ginvAux n s)

/-- The S-box value of a byte. -/
def sboxOf (x : Byte) : Byte :=
  let i := ginvAux 7 x
  i ^^^ i.rotateLeft 1 ^^^ i.rotateLeft 2 ^^^ i.rotateLeft 3 ^^^ i.rotateLeft 4 ^^^ 0x63

/-- The S-box as a table. -/
def sboxTable : Array Byte := Array.ofFn (n := 256) (fun i => sboxOf (BitVec.ofNat 8 i.val))
/-- The inverse S-box as a table. -/
def isboxTable : Array Byte :=
  (List.range 256).foldl (fun t i => t.setIfInBounds (sboxTable.getD i 0).toNat (BitVec.ofNat 8 i)) (Array.replicate 256 0)

def sub (x : Byte) : Byte := sboxTable.getD x.toNat 0
def isub (x : Byte) : Byte := isboxTable.getD x.toNat 0

/-- The key expansion: words of 4 bytes, newest first; `i` is the index of the next word. -/
def expandKey (nk : Nat) : Nat → Nat → Byte → List Bytes → List Bytes
  | 0, _, _, ws => ws
  | n + 1, i, rc, ws =>
    let prev := ws.getD 0 []
    let old := ws.getD (nk - 1) []
    let t := if i % nk = 0 then xorBytes ((prev.drop 1 ++ prev.take 1).map sub) [rc, 0, 0, 0]
      else if 6 < nk ∧ i % nk = 4 then prev.map sub else prev
    expandKey nk n (i + 1) (if i % nk = 0 then xtime rc else rc) (xorBytes old t :: ws)

/-- The words of a key, first first. -/
def keyWords : Nat → Bytes → List Bytes
  | 0, _ => []
  | n + 1, k => k.take 4 :: keyWords n (k.drop 4)

/-- The round keys of 16 bytes of a 16-, 24- or 32-byte key, in order. -/
def roundKeys (key : Bytes) : List Bytes :=
  let nk := key.length / 4
  let ws := (expandKey nk (4 * (nk + 7) - nk) nk 1 (keyWords nk key).reverse).reverse
  (List.range (nk + 7)).map (fun r => ((ws.drop (4 * r)).take 4).flatten)

/-- ShiftRows: byte r + 4 c comes from column c + r. -/
def shiftRows (s : Bytes) : Bytes := (List.range 16).map (fun i => s.getD ((i + 4 * (i % 4)) % 16) 0)
def ishiftRows (s : Bytes) : Bytes := (List.range 16).map (fun i => s.getD ((i + 16 - 4 * (i % 4)) % 16) 0)

/-- MixColumns with the given first row of the circulant matrix. -/
def mixCols (m : List Byte) (s : Bytes) : Bytes :=
  (List.range 16).map (fun i =>
    let c := i / 4 * 4
    let r := i % 4
    (List.range 4).foldl (fun a j => a ^^^ gmul (m.getD ((j + 4 - r) % 4) 0) (s.getD (c + j) 0)) 0)

/-- One block encrypted under round keys. -/
def aesEnc (rks : List Bytes) (b : Bytes) : Bytes :=
  match rks with
  | [] => b
  | k0 :: rest =>
    let mid := rest.dropLast.foldl (fun s k => xorBytes (mixCols [2, 3, 1, 1] (shiftRows (s.map sub))) k) (xorBytes b k0)
    xorBytes (shiftRows (mid.map sub)) (rest.getLastD [])

/-- One block decrypted under round keys. -/
def aesDec (rks : List Bytes) (b : Bytes) : Bytes :=
  match rks.reverse with
  | [] => b
  | k0 :: rest =>
    let mid := rest.dropLast.foldl (fun s k => mixCols [14, 11, 13, 9] (xorBytes ((ishiftRows s).map isub) k)) (xorBytes b k0)
    xorBytes ((ishiftRows mid).map isub) (rest.getLastD [])

/-- AES of one block under a key. -/
def aesBlock (key b : Bytes) : Bytes := aesEnc (roundKeys key) b

/-- A string in 16-byte blocks; the last may be short. -/
def blocks16 : Nat → Bytes → List Bytes
  | 0, _ => []
  | n + 1, b => b.take 16 :: blocks16 n (b.drop 16)

def toBlocks (b : Bytes) : List Bytes := blocks16 (ceilDiv b.length 16) b

/-- CTR: keystream from a 128-bit counter incremented modulo 2^128. -/
def ctrRun (rks : List Bytes) : Nat → List Bytes → Bytes
  | _, [] => []
  | c, b :: r => xorBytes b (aesEnc rks (beBytes 16 c)) ++ ctrRun rks (c + 1) r

/-- AES-CTR (R202). -/
def aesCtr (key iv data : Bytes) : Bytes := ctrRun (roundKeys key) (beNat iv) (toBlocks data)

/-- AES-ECB (R202). -/
def aesEcb (key : Bytes) (enc : Bool) (data : Bytes) : Bytes :=
  let rks := roundKeys key
  ((toBlocks data).map (if enc then aesEnc rks else aesDec rks)).flatten

def cbcEncRun (rks : List Bytes) : Bytes → List Bytes → Bytes
  | _, [] => []
  | iv, b :: r => let c := aesEnc rks (xorBytes b iv); c ++ cbcEncRun rks c r

def cbcDecRun (rks : List Bytes) : Bytes → List Bytes → Bytes
  | _, [] => []
  | iv, b :: r => xorBytes (aesDec rks b) iv ++ cbcDecRun rks b r

/-- AES-CBC encryption with the padding of RFC 5652, 6.3. -/
def aesCbcEnc (key iv data : Bytes) : Bytes :=
  let n := 16 - data.length % 16
  cbcEncRun (roundKeys key) iv (toBlocks (data ++ List.replicate n (BitVec.ofNat 8 n)))

/-- AES-CBC decryption: none where the padding is wrong. -/
def aesCbcDec (key iv data : Bytes) : Option Bytes :=
  let p := cbcDecRun (roundKeys key) iv (toBlocks data)
  let n := (p.getLastD 0).toNat
  if 1 ≤ n ∧ n ≤ 16 ∧ (p.drop (p.length - n)).all (· == BitVec.ofNat 8 n) then some (p.take (p.length - n)) else none

/-- Doubling in GF(2^128) for CMAC. -/
def cmacDouble (b : Bytes) : Bytes :=
  let v := beNat b
  beBytes 16 ((2 * v) % 2 ^ 128 ^^^ (if v / 2 ^ 127 = 1 then 0x87 else 0))

/-- The first CMAC subkey from AES_K(0^128). -/
def cmacK1 (h : Bytes) : Bytes := cmacDouble h

/-- CMAC under round keys and the two subkeys. -/
def cmacRun (rks : List Bytes) (k1 k2 data : Bytes) : Bytes :=
  let n := if data.length = 0 then 1 else ceilDiv data.length 16
  let head := (toBlocks data).take (n - 1)
  let rest := data.drop (16 * (n - 1))
  let last := if rest.length = 16 then xorBytes rest k1 else xorBytes (fitTo 16 (rest ++ [0x80])) k2
  aesEnc rks (xorBytes (head.foldl (fun s b => aesEnc rks (xorBytes s b)) (zeros 16)) last)

/-- AES-CMAC (R202). -/
def aesCmac (key data : Bytes) : Bytes :=
  let rks := roundKeys key
  let k1 := cmacK1 (aesEnc rks (zeros 16))
  cmacRun rks k1 (cmacDouble k1) data

/-- GHASH product: bit 0 of the polynomial is the most significant bit. `v` is y times the power of x reached. -/
def ghashMul : Nat → Nat → Nat → Nat → Nat
  | 0, _, _, z => z
  | n + 1, x, v, z => ghashMul n x (if v % 2 = 1 then v / 2 ^^^ (0xE1 * 2 ^ 120) else v / 2) (if x.testBit n then z ^^^ v else z)

/-- GHASH over whole strings, each padded with zeros to a block. -/
def ghash (h : Nat) (aad ct : Bytes) : Nat :=
  let bl := toBlocks aad ++ toBlocks ct ++ [beBytes 8 (8 * aad.length) ++ beBytes 8 (8 * ct.length)]
  bl.foldl (fun y b => ghashMul 128 (y ^^^ beNat (fitTo 16 b)) h 0) 0

/-- The GCM counter increments its low 32 bits. -/
def gcmRun (rks : List Bytes) (iv : Bytes) : Nat → List Bytes → Bytes
  | _, [] => []
  | c, b :: r => xorBytes b (aesEnc rks (iv ++ beBytes 4 c)) ++ gcmRun rks iv (c + 1) r

/-- The tag of GCM over AAD and ciphertext, with a 96-bit IV, from the subkey H. -/
def gcmTagWith (rks : List Bytes) (h iv aad ct : Bytes) : Bytes :=
  xorBytes (aesEnc rks (iv ++ beBytes 4 1)) (beBytes 16 (ghash (beNat h) aad ct))

/-- The tag of GCM, H computed on the way. -/
def gcmTag (rks : List Bytes) (iv aad ct : Bytes) : Bytes := gcmTagWith rks (aesEnc rks (zeros 16)) iv aad ct

/-- AES-GCM encryption: ciphertext, then the 16-byte tag. -/
def aesGcmEnc (key iv aad data : Bytes) : Bytes :=
  let rks := roundKeys key
  let ct := gcmRun rks iv 2 (toBlocks data)
  ct ++ gcmTag rks iv aad ct

/-- AES-GCM decryption: none where the tag (as long as it is given) differs. -/
def aesGcmDec (key iv aad ct tag : Bytes) : Option Bytes :=
  let rks := roundKeys key
  if tag ≠ [] ∧ (gcmTag rks iv aad ct).take tag.length = tag then some (gcmRun rks iv 2 (toBlocks ct)) else none

/-- Multiplication of the XTS tweak by x. -/
def xtsNext (t : Bytes) : Bytes :=
  let v := leNat t
  leBytes 16 ((2 * v) % 2 ^ 128 ^^^ (if v / 2 ^ 127 = 1 then 0x87 else 0))

def xtsBlock (f : Bytes → Bytes) (t b : Bytes) : Bytes := xorBytes (f (xorBytes b t)) t

/-- XTS over whole blocks; answers the output and the next tweak. -/
def xtsRun (f : Bytes → Bytes) : Bytes → List Bytes → Bytes × Bytes
  | t, [] => ([], t)
  | t, b :: r => let p := xtsRun f (xtsNext t) r; (xtsBlock f t b ++ p.1, p.2)

/-- AES-XTS with ciphertext stealing, key = key 1 ‖ key 2, one data unit of 16 bytes or more. -/
def aesXts (key : Bytes) (enc : Bool) (tweak data : Bytes) : Bytes :=
  let h := key.length / 2
  let rks := roundKeys (key.take h)
  let f := if enc then aesEnc rks else aesDec rks
  let t0 := aesBlock (key.drop h) tweak
  let rem := data.length % 16
  if rem = 0 then (xtsRun f t0 (toBlocks data)).1
  else
    let n := data.length / 16
    let p := xtsRun f t0 (toBlocks (data.take (16 * (n - 1))))
    let full := slice data (16 * (n - 1)) 16
    let tail := data.drop (16 * n)
    let ta := if enc then p.2 else xtsNext p.2
    let tb := if enc then xtsNext p.2 else p.2
    let cc := xtsBlock f ta full
    p.1 ++ xtsBlock f tb (tail ++ cc.drop rem) ++ cc.take rem

/-- One step of AES key wrap (SP 800-38F, KW). -/
def kwStep (rks : List Bytes) (st : Bytes × List Bytes) (t : Nat) : Bytes × List Bytes :=
  match st.2 with
  | [] => st
  | r :: rest =>
    let b := aesEnc rks (st.1 ++ r)
    (xorBytes (b.take 8) (beBytes 8 t), rest ++ [b.drop 8])

/-- A string in blocks of 8 bytes. -/
def blocks8 : Nat → Bytes → List Bytes
  | 0, _ => []
  | n + 1, b => b.take 8 :: blocks8 n (b.drop 8)

/-- AES key wrap of a key of whole 8-byte blocks (R248). -/
def aesKeyWrap (kek key : Bytes) : Bytes :=
  let n := key.length / 8
  let r := (List.range (6 * n)).foldl (fun st i => kwStep (roundKeys kek) st (i + 1)) (List.replicate 8 0xA6, blocks8 n key)
  r.1 ++ r.2.flatten

end Sys2Proof.Machine
end

