-- ==== Sys2Proof/Machine/Sha.lean ====
section
/-! DEFINITION. The hash functions of R214 and the functions built on them: SHA-2, SHA-3, SHAKE, HMAC, HKDF, the SP 800-108 KDF, and mth.
The algorithms are those of the standards R214 names (FIPS 180-4, 202, 198-1); the spec does not repeat them (log 5). -/

namespace Sys2Proof.Machine

/-! SHA-2 (FIPS 180-4). A constant table is one number that holds its words side by side, the first at the top. -/

/-- The `n` words of `w` bits that a number holds, the first at the top. -/
def unpack (w n v : Nat) : List (BitVec w) := (List.range n).map (fun i => BitVec.ofNat w (v >>> (w * (n - 1 - i))))

/-- Cube-root constants 0 to 19. -/
def cubeRoots0 : Nat :=
  0x428a2f98d728ae227137449123ef65cdb5c0fbcfec4d3b2fe9b5dba58189dbbc3956c25bf348b53859f111f1b605d019923f82a4af194f9bab1c5ed5da6d8118d807aa98a303024212835b0145706fbe243185be4ee4b28c550c7dc3d5ffb4e272be5d74f27b896f80deb1fe3b1696b19bdc06a725c71235c19bf174cf692694e49b69c19ef14ad2efbe4786384f25e30fc19dc68b8cd5b5240ca1cc77ac9c65
/-- Cube-root constants 20 to 39. -/
def cubeRoots1 : Nat :=
  0x2de92c6f592b02754a7484aa6ea6e4835cb0a9dcbd41fbd476f988da831153b5983e5152ee66dfaba831c66d2db43210b00327c898fb213fbf597fc7beef0ee4c6e00bf33da88fc2d5a79147930aa72506ca6351e003826f142929670a0e6e7027b70a8546d22ffc2e1b21385c26c9264d2c6dfc5ac42aed53380d139d95b3df650a73548baf63de766a0abb3c77b2a881c2c92e47edaee692722c851482353b
/-- Cube-root constants 40 to 59. -/
def cubeRoots2 : Nat :=
  0xa2bfe8a14cf10364a81a664bbc423001c24b8b70d0f89791c76c51a30654be30d192e819d6ef5218d69906245565a910f40e35855771202a106aa07032bbd1b819a4c116b8d2d0c81e376c085141ab532748774cdf8eeb9934b0bcb5e19b48a8391c0cb3c5c95a634ed8aa4ae3418acb5b9cca4f7763e373682e6ff3d6b2b8a3748f82ee5defb2fc78a5636f43172f6084c87814a1f0ab728cc702081a6439ec
/-- Cube-root constants 60 to 79. -/
def cubeRoots3 : Nat :=
  0x90befffa23631e28a4506cebde82bde9bef9a3f7b2c67915c67178f2e372532bca273eceea26619cd186b8c721c0c207eada7dd6cde0eb1ef57d4f7fee6ed17806f067aa72176fba0a637dc5a2c898a6113f9804bef90dae1b710b35131c471b28db77f523047d8432caab7b40c724933c9ebe0a15c9bebc431d67c49c100d4c4cc5d4becb3e42b6597f299cfc657e2a5fcb6fab3ad6faec6c44198c4a475817

/-- The first 64 fraction bits of the cube roots of the first 80 primes. -/
def cubeRoots : List (BitVec 64) := unpack 64 20 cubeRoots0 ++ unpack 64 20 cubeRoots1 ++ unpack 64 20 cubeRoots2 ++ unpack 64 20 cubeRoots3
/-- The first 64 fraction bits of the square roots of the first 8 primes, and of the 9th to the 16th. -/
def squareRoots : List (BitVec 64) :=
  unpack 64 8 0x6a09e667f3bcc908bb67ae8584caa73b3c6ef372fe94f82ba54ff53a5f1d36f1510e527fade682d19b05688c2b3e6c1f1f83d9abfb41bd6b5be0cd19137e2179
def squareRootsHigh : List (BitVec 64) :=
  unpack 64 8 0xcbbb9d5dc1059ed8629a292a367cd5079159015a3070dd17152fecd8f70e593967332667ffc00b318eb44a8768581511db0c2e0d64f98fa747b5481dbefa4fa4

/-- One of the two SHA-2 machines: its word width, its round constants, and the six mixing functions' turns. -/
structure Sha2 where
  w : Nat
  ks : List (BitVec w)
  /-- Turns of the working words a and e. -/
  ta : List Nat
  te : List Nat
  /-- Turns of the schedule words 15 and 2 back, the last of each a shift. -/
  s15 : List Nat
  s2 : List Nat

/-- The machine of SHA-256, whose constants are the upper halves of the others' first 64, and that of SHA-384 and SHA-512. -/
def sha2Small : Sha2 := { w := 32, ks := (cubeRoots.take 64).map (fun k => k.extractLsb' 32 32), ta := [2, 13, 22], te := [6, 11, 25], s15 := [7, 18, 3], s2 := [17, 19, 10] }
def sha2Big : Sha2 := { w := 64, ks := cubeRoots, ta := [28, 34, 39], te := [14, 18, 41], s15 := [1, 8, 7], s2 := [19, 61, 6] }

/-- A word turned right by each count, all added without carry. -/
def turns {w : Nat} (x : BitVec w) (l : List Nat) : BitVec w := l.foldl (fun z n => z ^^^ x.rotateRight n) 0
/-- The same where the last count shifts. -/
def turnsShift {w : Nat} (x : BitVec w) (l : List Nat) : BitVec w := turns x l.dropLast ^^^ x >>> l.getLastD 0

/-- The message schedule, grown by `n` words; the newest word stands first. -/
def Sha2.grow (p : Sha2) : Nat → List (BitVec p.w) → List (BitVec p.w)
  | 0, ws => ws
  | n + 1, ws => p.grow n ((ws.getD 15 0 + turnsShift (ws.getD 14 0) p.s15 + ws.getD 6 0 + turnsShift (ws.getD 1 0) p.s2) :: ws)

/-- One round over the chaining words for a schedule word with its constant added: the choice of f and g by e and the majority of a, b and c in their short forms. -/
def Sha2.round (p : Sha2) (st : List (BitVec p.w)) (wk : BitVec p.w) : List (BitVec p.w) :=
  match st with
  | [a, b, c, d, e, f, g, h] =>
    let t := wk + h + turns e p.te + (g ^^^ e &&& (f ^^^ g))
    [turns a p.ta + (a &&& b ||| c &&& (a ||| b)) + t, a, b, c, t + d, e, f, g]
  | st => st

/-- The `n` big-endian numbers of `k` bytes that a string holds. -/
def beNums (k : Nat) : Nat → Bytes → List Nat
  | 0, _ => []
  | n + 1, b => beNat (b.take k) :: beNums k n (b.drop k)

/-- A string cut into `n` blocks of `k` bytes. -/
def blocks (k : Nat) : Nat → Bytes → List Bytes
  | 0, _ => []
  | n + 1, b => b.take k :: blocks k n (b.drop k)

/-- Bytes of a block. -/
def Sha2.block (p : Sha2) : Nat := 2 * p.w

/-- The chaining words after one block. -/
def Sha2.eat (p : Sha2) (st : List (BitVec p.w)) (b : Bytes) : List (BitVec p.w) :=
  let ws := (p.grow (p.ks.length - 16) ((beNums (p.w / 8) 16 b).map (BitVec.ofNat p.w)).reverse).reverse
  List.zipWith (· + ·) st ((List.zipWith (· + ·) ws p.ks).foldl p.round st)

/-- The last bytes `m` of a message of `before` + |m| bytes go in, `before` of them already in `st`, with the padding. -/
def Sha2.finish (p : Sha2) (st : List (BitVec p.w)) (before : Nat) (m : Bytes) : Bytes :=
  let n := ceilDiv (m.length + 1 + p.w / 4) p.block
  let tail := beBytes (p.w / 4) (8 * (before + m.length))
  ((blocks p.block n (m ++ 0x80 :: zeros (n * p.block - p.w / 4 - 1 - m.length) ++ tail)).foldl p.eat st).flatMap (fun x => beBytes (p.w / 8) x.toNat)

/-- SHA-256. -/
def sha256 (m : Bytes) : Bytes := fitTo 32 (sha2Small.finish (squareRoots.map (fun k => k.extractLsb' 32 32)) 0 m)
/-- SHA-384, the H of the spec (R6). -/
def sha384 (m : Bytes) : Bytes := fitTo 48 (sha2Big.finish squareRootsHigh 0 m)
/-- SHA-512. -/
def sha512 (m : Bytes) : Bytes := fitTo 64 (sha2Big.finish squareRoots 0 m)

/-! SHA-3 (FIPS 202). -/

/-- The iota constants. -/
def keccakRc : List (BitVec 64) :=
  unpack 64 12 0x00000000000000010000000000008082800000000000808a8000000080008000000000000000808b000000008000000180000000800080818000000000008009000000000000008a00000000000000880000000080008009000000008000000a ++
  unpack 64 12 0x000000008000808b800000000000008b8000000000008089800000000000800380000000000080028000000000000080000000000000800a800000008000000a8000000080008081800000000000808000000000800000018000000080008008

/-- The rho rotations, by lane x + 5 y. -/
def keccakRot : List Nat := [0, 1, 62, 28, 27, 36, 44, 6, 55, 20, 3, 10, 43, 25, 39, 41, 45, 15, 21, 8, 18, 2, 61, 56, 14]

/-- One round of Keccak-f[1600] over 25 lanes, lane x + 5 y. -/
def keccakRound (a : Array (BitVec 64)) (rc : BitVec 64) : Array (BitVec 64) :=
  let c := Array.ofFn (n := 5) (fun x => a.getD x.val 0 ^^^ a.getD (x.val + 5) 0 ^^^ a.getD (x.val + 10) 0 ^^^ a.getD (x.val + 15) 0 ^^^ a.getD (x.val + 20) 0)
  let d := Array.ofFn (n := 5) (fun x => c.getD ((x.val + 4) % 5) 0 ^^^ (c.getD ((x.val + 1) % 5) 0).rotateLeft 1)
  -- b at (y, 2x + 3y) is the rotated lane (x, y): the source of position (u, v) is x = u + 3v, y = u modulo 5
  let b := Array.ofFn (n := 25) (fun i =>
    let u := i.val % 5
    let v := i.val / 5
    let src := (u + 3 * v) % 5 + 5 * u
    (a.getD src 0 ^^^ d.getD (src % 5) 0).rotateLeft (keccakRot.getD src 0))
  let r := Array.ofFn (n := 25) (fun i =>
    let y := i.val / 5 * 5
    b.getD i.val 0 ^^^ (~~~(b.getD (y + (i.val + 1) % 5) 0) &&& b.getD (y + (i.val + 2) % 5) 0))
  r.setIfInBounds 0 (r.getD 0 0 ^^^ rc)

/-- Keccak-f[1600]. -/
def keccakF (a : Array (BitVec 64)) : Array (BitVec 64) := keccakRc.foldl keccakRound a

/-- The state with one block of at most 200 bytes absorbed. -/
def keccakAbsorb (a : Array (BitVec 64)) (blk : Bytes) : Array (BitVec 64) :=
  let ls := (blocks 8 25 (fitTo 200 blk)).map (fun b => BitVec.ofNat 64 (leNat b))
  keccakF (Array.zipWith (· ^^^ ·) a ls.toArray)

/-- The bytes of the state. -/
def keccakBytes (a : Array (BitVec 64)) : Bytes := (a.toList.map (fun x => leBytes 8 x.toNat)).flatten

/-- `n` blocks squeezed, of `rate` bytes each. -/
def keccakSqueeze (rate : Nat) : Nat → Array (BitVec 64) → Bytes
  | 0, _ => []
  | n + 1, a => (keccakBytes a).take rate ++ keccakSqueeze rate n (keccakF a)

/-- The sponge with rate in bytes, domain byte and output length. -/
def sponge (rate : Nat) (dom : Byte) (out : Nat) (m : Bytes) : Bytes :=
  let n := m.length / rate + 1
  let p := m ++ [dom] ++ zeros (n * rate - m.length - 1)
  let last := p.length - 1
  let p := p.take last ++ (p.drop last).map (· ^^^ 0x80)
  let st := (blocks rate n p).foldl keccakAbsorb (Array.replicate 25 0)
  fitTo out (keccakSqueeze rate (ceilDiv out rate) st)

/-- SHA3-256. -/
def sha3_256 (m : Bytes) : Bytes := sponge 136 0x06 32 m
/-- SHA3-384. -/
def sha3_384 (m : Bytes) : Bytes := sponge 104 0x06 48 m
/-- SHA3-512. -/
def sha3_512 (m : Bytes) : Bytes := sponge 72 0x06 64 m
/-- SHAKE128. -/
def shake128 (out : Nat) (m : Bytes) : Bytes := sponge 168 0x1F out m
/-- SHAKE256. -/
def shake256 (out : Nat) (m : Bytes) : Bytes := sponge 136 0x1F out m

/-! HMAC (FIPS 198-1). The two padded-key states are computed once for a key (R214). -/

/-- The chaining words after the block of the key, hashed first where it is longer than a block, xored with a pad. -/
def Sha2.keyed (p : Sha2) (iv : List (BitVec p.w)) (h : Bytes → Bytes) (pad : Byte) (key : Bytes) : List (BitVec p.w) :=
  p.eat iv ((fitTo p.block (if p.block < key.length then h key else key)).map (· ^^^ pad))

/-- The MAC of a message from the inner and the outer state, over a hash cut to `out` bytes. -/
def Sha2.mac (p : Sha2) (out : Nat) (inner outer : List (BitVec p.w)) (m : Bytes) : Bytes :=
  fitTo out (p.finish outer p.block (fitTo out (p.finish inner p.block m)))

def hmac256Keyed (pad : Byte) (key : Bytes) : List (BitVec 32) := sha2Small.keyed (squareRoots.map (fun k => k.extractLsb' 32 32)) sha256 pad key
def hmac384Keyed (pad : Byte) (key : Bytes) : List (BitVec 64) := sha2Big.keyed squareRootsHigh sha384 pad key
def hmac512Keyed (pad : Byte) (key : Bytes) : List (BitVec 64) := sha2Big.keyed squareRoots sha512 pad key

def hmacSha256 (key m : Bytes) : Bytes := sha2Small.mac 32 (hmac256Keyed 0x36 key) (hmac256Keyed 0x5C key) m
def hmacSha384 (key m : Bytes) : Bytes := sha2Big.mac 48 (hmac384Keyed 0x36 key) (hmac384Keyed 0x5C key) m
def hmacSha512 (key m : Bytes) : Bytes := sha2Big.mac 64 (hmac512Keyed 0x36 key) (hmac512Keyed 0x5C key) m

/-- Blocks T(i) of HKDF-Expand, RFC 5869. -/
def hkdfBlocks (h : Bytes → Bytes → Bytes) (prk info : Bytes) : Nat → Nat → Bytes → Bytes
  | 0, _, _ => []
  | n + 1, i, prev =>
    let t := h prk (prev ++ info ++ [BitVec.ofNat 8 i])
    t ++ hkdfBlocks h prk info n (i + 1) t

/-- HKDF-SHA-384 (RFC 5869), as R248 uses it. -/
def hkdfSha384 (salt ikm info : Bytes) (len : Nat) : Bytes :=
  fitTo len (hkdfBlocks hmacSha384 (hmacSha384 salt ikm) info (ceilDiv len 48) 1 [])

/-- HKDF-SHA-256 (RFC 5869). -/
def hkdfSha256 (salt ikm info : Bytes) (len : Nat) : Bytes :=
  fitTo len (hkdfBlocks hmacSha256 (hmacSha256 salt ikm) info (ceilDiv len 32) 1 [])

/-- The counter-mode KDF of NIST SP 800-108 with HMAC-SHA-384 (R240): a 32-bit counter, the label, a zero byte, the context, the length in bits. -/
def kdf108 (key label context : Bytes) (lenBits : Nat) : Bytes :=
  fitTo (lenBits / 8) (((List.range (ceilDiv lenBits 384)).map (fun i =>
    hmacSha384 key (beBytes 4 (i + 1) ++ label ++ [0x00] ++ context ++ beBytes 4 lenBits))).flatten)

/-- The bytes of an ASCII string. -/
def ascii (s : String) : Bytes := s.toList.map (fun c => BitVec.ofNat 8 c.toNat)

end Sys2Proof.Machine
end

