-- ==== Sys2Proof/Machine/Ec.lean ====
section
/-! DEFINITION. The elliptic-curve and RSA arithmetic behind R221, on natural numbers. Blinding, masking and projective coordinates never change a result (R236),
so the affine textbook formulas stand here. The algorithms are those of the standards R221 names (log 5). -/

namespace Sys2Proof.Machine

/-- The bits of a number, most significant first, `n` of them. -/
def bitsMsb : Nat → Nat → List Bool
  | 0, _ => []
  | n + 1, v => v.testBit n :: bitsMsb n v

/-- `b` to the power `e` modulo `m`. -/
def powMod (b e m : Nat) : Nat :=
  (bitsMsb (Nat.log2 e + 1) e).foldl (fun a d => let s := a * a % m; if d then s * b % m else s) (1 % m)

/-- The inverse modulo a prime. -/
def invMod (a p : Nat) : Nat := powMod (a % p) (p - 2) p

/-- `a − b` modulo `p`. -/
def subMod (a b p : Nat) : Nat := (a % p + p - b % p) % p

/-- A short-Weierstrass curve with a = −3: prime, b, base point, order, bytes of a field element, bit length of the order. -/
structure Curve where
  p : Nat
  b : Nat
  gx : Nat
  gy : Nat
  n : Nat
  bytes : Nat
  nbits : Nat
deriving DecidableEq, Repr

/-- P-256 (FIPS 186-5, SP 800-186). -/
def p256 : Curve where
  p := 0xffffffff00000001000000000000000000000000ffffffffffffffffffffffff
  b := 0x5ac635d8aa3a93e7b3ebbd55769886bc651d06b0cc53b0f63bce3c3e27d2604b
  gx := 0x6b17d1f2e12c4247f8bce6e563a440f277037d812deb33a0f4a13945d898c296
  gy := 0x4fe342e2fe1a7f9b8ee7eb4a7c0f9e162bce33576b315ececbb6406837bf51f5
  n := 0xffffffff00000000ffffffffffffffffbce6faada7179e84f3b9cac2fc632551
  bytes := 32
  nbits := 256

/-- P-384. -/
def p384 : Curve where
  p := 0xfffffffffffffffffffffffffffffffffffffffffffffffffffffffffffffffeffffffff0000000000000000ffffffff
  b := 0xb3312fa7e23ee7e4988e056be3f82d19181d9c6efe8141120314088f5013875ac656398d8a2ed19d2a85c8edd3ec2aef
  gx := 0xaa87ca22be8b05378eb1c71ef320ad746e1d3b628ba79b9859f741e082542a385502f25dbf55296c3a545e3872760ab7
  gy := 0x3617de4a96262c6f5d9e98bf9292dc29f8f41dbd289a147ce9da3113b5f0b8c00a60b1ce1d7e819d7a431d7c90ea0e5f
  n := 0xffffffffffffffffffffffffffffffffffffffffffffffffc7634d81f4372ddf581a0db248b0a77aecec196accc52973
  bytes := 48
  nbits := 384

/-- P-521. -/
def p521 : Curve where
  p := 2 ^ 521 - 1
  b := 0x0051953eb9618e1c9a1f929a21a0b68540eea2da725b99b315f3b8b489918ef109e156193951ec7e937b1652c0bd3bb1bf073573df883d2c34f1ef451fd46b503f00
  gx := 0x00c6858e06b70404e9cd9e3ecb662395b4429c648139053fb521f828af606b4d3dbaa14b5e77efe75928fe1dc127a2ffa8de3348b3c1856a429bf97e7e31c2e5bd66
  gy := 0x011839296a789a3bc0045c8a5fb42c7d1bd998f54449579b446817afbd17273e662c97ee72995ef42640c550b9013fad0761353c7086a272c24088be94769fd16650
  n := 2 ^ 521 - 2 ^ 260 + 0xa51868783bf2f966b7fcc0148f709a5d03bb5c9b8899c47aebb6fb71e91386409
  bytes := 66
  nbits := 521

/-- A point: none is the point at infinity. -/
abbrev Pt := Option (Nat × Nat)

/-- Point addition. -/
def Curve.add (c : Curve) (u v : Pt) : Pt :=
  match u, v with
  | none, _ => v
  | _, none => u
  | some (x1, y1), some (x2, y2) =>
    if x1 = x2 ∧ (y1 + y2) % c.p = 0 then none
    else
      let l := if x1 = x2 then (3 * x1 * x1 + c.p - 3) * invMod (2 * y1) c.p % c.p else subMod y2 y1 c.p * invMod (subMod x2 x1 c.p) c.p % c.p
      let x := subMod (l * l) (x1 + x2) c.p
      some (x, subMod (l * subMod x1 x c.p) y1 c.p)

/-- Scalar multiplication. -/
def Curve.mul (c : Curve) (k : Nat) (q : Pt) : Pt :=
  (bitsMsb (Nat.log2 k + 1) k).foldl (fun a d => let s := c.add a a; if d then c.add s q else s) none

/-- The base point. -/
def Curve.g (c : Curve) : Pt := some (c.gx, c.gy)

/-- Is the pair a point of the curve, both coordinates below p? -/
def Curve.on (c : Curve) (x y : Nat) : Bool :=
  decide (x < c.p) && decide (y < c.p) && decide (y * y % c.p = (x * x * x + (c.p - 3) * x + c.b) % c.p)

/-- The point of x ‖ y (R222); none where a coordinate is ≥ p, both are zero, or the point is off the curve (R224). -/
def Curve.decode (c : Curve) (q : Bytes) : Option (Nat × Nat) :=
  let x := beNat (q.take c.bytes)
  let y := beNat (q.drop c.bytes)
  if allZero q then none else if c.on x y then some (x, y) else none

/-- x ‖ y of a point; zeros for the point at infinity. -/
def Curve.encode (c : Curve) (q : Pt) : Bytes :=
  match q with
  | none => zeros (2 * c.bytes)
  | some (x, y) => beBytes c.bytes x ++ beBytes c.bytes y

/-- A digest as an integer, truncated to the bit length of n (R222). -/
def Curve.bits2int (c : Curve) (d : Bytes) : Nat :=
  beNat d / 2 ^ (8 * d.length - c.nbits)

/-- ECDSA verification with a public point that has been validated (R221, R225). -/
def Curve.verify (c : Curve) (q : Nat × Nat) (digest : Bytes) (r s : Nat) : Bool :=
  if r = 0 ∨ c.n ≤ r ∨ s = 0 ∨ c.n ≤ s then false
  else
    let w := invMod s c.n
    let z := c.bits2int digest
    match c.add (c.mul (z * w % c.n) c.g) (c.mul (r * w % c.n) (some q)) with
    | none => false
    | some (x, _) => decide (x % c.n = r)

/-- The state K, V of the HMAC_DRBG of RFC 6979. -/
structure HmacDrbg where
  k : Bytes
  v : Bytes
deriving DecidableEq, Repr

def HmacDrbg.update (h : Bytes → Bytes → Bytes) (s : HmacDrbg) (d : Bytes) : HmacDrbg :=
  let k1 := h s.k (s.v ++ [0] ++ d)
  let v1 := h k1 s.v
  if d = [] then ⟨k1, v1⟩
  else
    let k2 := h k1 (v1 ++ [1] ++ d)
    ⟨k2, h k2 v1⟩

/-- At least `len` bytes over `n` calls of V := HMAC_K(V). -/
def HmacDrbg.gen (h : Bytes → Bytes → Bytes) : Nat → Bytes → Bytes → Bytes × Bytes
  | 0, _, v => ([], v)
  | n + 1, k, v => let v1 := h k v; let r := HmacDrbg.gen h n k v1; (v1 ++ r.1, r.2)

/-- The (r, s) of a nonce k, if both are non-zero. -/
def Curve.trySign (c : Curve) (d : Nat) (digest : Bytes) (k : Nat) : Option (Nat × Nat) :=
  if k = 0 ∨ c.n ≤ k then none
  else match c.mul k c.g with
    | none => none
    | some (x, _) =>
      let r := x % c.n
      let s := invMod k c.n * (c.bits2int digest + r * d) % c.n
      if r = 0 ∨ s = 0 then none else some (r, s)

/-- The search for k over the candidates of RFC 6979, 3.2 step h, at most `n` of them. -/
def Curve.signLoop (c : Curve) (h : Bytes → Bytes → Bytes) (hlen : Nat) (d : Nat) (digest : Bytes) : Nat → HmacDrbg → Nat × Nat
  | 0, _ => (0, 0)
  | n + 1, st =>
    let t := HmacDrbg.gen h (ceilDiv (ceilDiv c.nbits 8) hlen) st.k st.v
    let k := c.bits2int (t.1.take (ceilDiv c.nbits 8))
    match c.trySign d digest k with
    | some rs => rs
    | none => c.signLoop h hlen d digest n ((HmacDrbg.mk st.k t.2).update h [])

/-- ECDSA signing with the nonce of RFC 6979, 3.6, `extra` being the additional data (R223). The hash of the nonce is the curve's own (log 6). -/
def Curve.sign (c : Curve) (h : Bytes → Bytes → Bytes) (hlen : Nat) (d : Nat) (digest extra : Bytes) : Bytes :=
  let rl := ceilDiv c.nbits 8
  let seed := beBytes rl d ++ beBytes rl (c.bits2int digest % c.n) ++ extra
  let st : HmacDrbg := ⟨zeros hlen, List.replicate hlen 1⟩
  let k1 := h st.k (st.v ++ [0] ++ seed)
  let v1 := h k1 st.v
  let k2 := h k1 (v1 ++ [1] ++ seed)
  let rs := c.signLoop h hlen d digest 64 ⟨k2, h k2 v1⟩
  beBytes c.bytes rs.1 ++ beBytes c.bytes rs.2

/-- The secret scalar of FIPS 186-5 A.2.1 from N + 64 random bits. -/
def Curve.scalarOf (c : Curve) (rand : Bytes) : Nat := beNat rand % 2 ^ (c.nbits + 64) % (c.n - 1) + 1

/-- How many random bytes key generation draws: N + 64 bits, rounded up to bytes. -/
def Curve.seedBytes (c : Curve) : Nat := ceilDiv (c.nbits + 64) 8

/-! Edwards25519 and X25519. -/

/-- The prime 2^255 − 19. -/
def edP : Nat := 2 ^ 255 - 19
/-- The order L of the base point. -/
def edL : Nat := 2 ^ 252 + 27742317777372353535851937790883648493
/-- The curve constant d. -/
def edD : Nat := (edP - 121665) * invMod 121666 edP % edP
/-- A square root of −1. -/
def edI : Nat := powMod 2 ((edP - 1) / 4) edP

/-- A point of edwards25519. -/
abbrev EdPt := Nat × Nat

/-- The complete addition law. -/
def edAdd (u v : EdPt) : EdPt :=
  let a := u.1 * v.2 % edP
  let b := v.1 * u.2 % edP
  let cc := u.2 * v.2 % edP
  let d := u.1 * v.1 % edP
  let e := edD * (a * b % edP) % edP
  ((a + b) * invMod (1 + e) edP % edP, (cc + d) * invMod (subMod 1 e edP) edP % edP)

/-- Scalar multiplication. -/
def edMul (k : Nat) (q : EdPt) : EdPt :=
  (bitsMsb (Nat.log2 k + 1) k).foldl (fun a d => let s := edAdd a a; if d then edAdd s q else s) (0, 1)

/-- The x of a y with the given parity (RFC 8032, 5.1.3). -/
def edX (y : Nat) (sign : Bool) : Option Nat :=
  let u := subMod (y * y) 1 edP
  let v := (edD * (y * y % edP) + 1) % edP
  let w := u * invMod v edP % edP
  let x := powMod w ((edP + 3) / 8) edP
  let x := if x * x % edP = w then x else x * edI % edP
  if x * x % edP ≠ w then none
  else if x = 0 then (if sign then none else some 0)
  else some (if x % 2 = b2n sign then x else edP - x)

/-- The base point. -/
def edB : EdPt :=
  let y := 4 * invMod 5 edP % edP
  ((edX y false).getD 0, y)

/-- The decoding of RFC 8032, 5.1.3. -/
def edDecode (b : Bytes) : Option EdPt :=
  let v := leNat b
  let y := v % 2 ^ 255
  if b.length ≠ 32 ∨ edP ≤ y then none else (edX y (bit v 255)).map (fun x => (x, y))

/-- The encoding of a point. -/
def edEncode (q : EdPt) : Bytes := leBytes 32 (q.2 + 2 ^ 255 * (q.1 % 2))

/-- Does the point have an order that divides 8? -/
def edSmall (q : EdPt) : Bool := edMul 8 q == (0, 1)

/-- The cofactorless verification of R221: [S]B = R + [k]A. -/
def edVerify (a : EdPt) (r : EdPt) (s : Nat) (digest : Bytes) : Bool :=
  edMul s edB == edAdd r (edMul (leNat digest % edL) a)

/-- The clamped scalar of RFC 7748 and RFC 8032. -/
def clamp25519 (b : Bytes) : Nat := leNat b % 2 ^ 255 / 8 * 8 % 2 ^ 254 + 2 ^ 254

/-- Ed25519 signing (RFC 8032, 5.1.6). -/
def edSign (seed m : Bytes) : Bytes :=
  let h := sha512 seed
  let a := clamp25519 (h.take 32)
  let pub := edEncode (edMul a edB)
  let r := leNat (sha512 (h.drop 32 ++ m)) % edL
  let rb := edEncode (edMul r edB)
  let k := leNat (sha512 (rb ++ pub ++ m)) % edL
  rb ++ leBytes 32 ((r + k * a) % edL)

/-- One step of the Montgomery ladder of RFC 7748. -/
def x25519Step (x1 : Nat) (st : Nat × Nat × Nat × Nat) (b : Bool) : Nat × Nat × Nat × Nat :=
  let f := fun (x2 z2 x3 z3 : Nat) =>
    let a := (x2 + z2) % edP
    let aa := a * a % edP
    let bb0 := subMod x2 z2 edP
    let bb := bb0 * bb0 % edP
    let e := subMod aa bb edP
    let da := subMod x3 z3 edP * a % edP
    let cb := (x3 + z3) * bb0 % edP
    let p := (da + cb) % edP
    let q := subMod da cb edP
    (aa * bb % edP, e * (aa + 121665 * e) % edP, p * p % edP, x1 * (q * q % edP) % edP)
  match st with
  | (x2, z2, x3, z3) =>
    if b then match f x3 z3 x2 z2 with
      | (a2, c2, a3, c3) => (a3, c3, a2, c2)
    else f x2 z2 x3 z3

/-- X25519 (RFC 7748): the top bit of u is cleared and the scalar clamped (R226). -/
def x25519Fn (scalar u : Bytes) : Bytes :=
  let k := clamp25519 scalar
  let x1 := leNat u % 2 ^ 255 % edP
  match (bitsMsb 255 k).foldl (x25519Step x1) (1, 0, x1, 1) with
  | (x2, z2, _, _) => leBytes 32 (x2 * invMod z2 edP % edP)

/-- The base point u = 9. -/
def x25519Base : Bytes := leBytes 32 9

/-! RSA. -/

/-- The CRT secret-key operation, and whether its check x'^e mod N = x holds (R226). -/
def rsaCrt (p q dp dq qinv e x : Nat) : Nat × Bool :=
  let m1 := powMod x dp p
  let m2 := powMod x dq q
  let h := qinv * subMod m1 m2 p % p
  let m := m2 + h * q
  (m, decide (powMod m e (p * q) = x))

end Sys2Proof.Machine
end

