-- ==== Sys2Proof/Config.lean ====
section
/-! DEFINITION. What one BX512 fixes and what the spec leaves open: the family parameters (R444), factory values, and the free values. -/

namespace Sys2Proof.Config

/-- Ring pairs (R444, RINGS_LOG2 12). -/
def ringPairs : Nat := 4096
/-- Tabs (R444, TABS_LOG2 16); also LEAF_COUNT. -/
def tabs : Nat := 65536
/-- MSI-X vectors per port (R444). -/
def vectors : Nat := 4096

/-- Hardware entropy: byte number `n` of everything the random generators of R208, R236 and R239 ever deliver.
A free value: nothing constrains it (log 3). -/
opaque randomByte : Nat → Byte

/-- The unit identifier burnt at manufacture, 16 bytes (R375). DESIGN CHOICE: an open factory value (log 4). -/
opaque unitIdWord : BitVec 128
/-- The device secret generated at the SEALED transition (R240, R375); open (log 4). -/
opaque deviceSecretWord : BitVec 256
/-- The trim region (R375); open (log 4). -/
opaque trimWord : BitVec 2048
/-- The vendor identifier of R24 and DEV.ID (R442); open (log 4). -/
opaque vendorId : BitVec 16
/-- The silicon stepping of DEV.REV (R442); open (log 4). -/
opaque stepping : BitVec 8
/-- Digests of the vendor life-cycle keys held in ROM (R380); open (log 4). -/
opaque vendorLifecycleKey : BitVec 384
/-- Digest of the vendor debug key held in ROM (R391); open (log 4). -/
opaque vendorDebugKey : BitVec 384
/-- The ECDSA identity certificate that the vendor writes at the SEALED transition (R241); open (log 4). -/
opaque identityCertEcdsa : Bytes
/-- The ML-DSA identity certificate (R241); open (log 4). -/
opaque identityCertMldsa : Bytes

/-- Time in units of 0.1 µs of an RSA public operation of `bits` bits for an exponent other than 65,537 (R222). A free value (log 26). -/
opaque rsaPublicTime (bits e : Nat) : Nat

/-- What a row's grinder draws for a block of its stream, by its seed (R206, R207): the dummy count of 0 to 6, the split of `d` dummy rounds, and step `i` of the shuffle.
Free values: nothing constrains them (log 110). -/
opaque dummyDraw (seed : Bytes) (block : Nat) : Fin 7
opaque splitDraw (seed : Bytes) (block d : Nat) : Fin (d + 1)
opaque shuffleDraw (seed : Bytes) (block i : Nat) : Fin (i + 1)

/-- The value of ONFI's timing-mode feature for an interface (NV-LPDDR4 or NV-DDR3) and a rate (R262). A free value (log 113). -/
opaque timingMode (lpddr4 : Bool) (rate : Nat) : Nat

/-- What a PKE engine's WORK region holds while operation number `n` of the pool runs (R231). A free value (log 111). -/
opaque pkeWork (n : Nat) : Bytes

/-- The LDPC parity of a codeword's data and metadata: the spec gives the length of the field and no code (R273, log 115). -/
opaque ldpcParity (codeword : Bytes) : Bytes

/-- The right that TS29 reports for TEST_MODE high at the release of the core reset (R455): the spec names none. Free, log 118. -/
opaque testModeRight : BitVec 24

end Sys2Proof.Config
end

