-- ==== Sys2Proof/Machine/Sparse.lean ====
section
/-! DEFINITION. Sparse maps in one canonical form: keys strictly rising, and no entry equal to what an unlisted key reads as.
Ring table, tab store, templates, slot memory and the other large stores of the spec are held this way, so equal stores are equal data. -/

namespace Sys2Proof.Machine

/-- A sparse map from numbers: (key, value) pairs, keys rising. -/
abbrev SMap (α : Type) := List (Nat × α)

/-- The value at key `k`; `d k` where the map lists none. -/
def SMap.get {α : Type} (m : SMap α) (d : Nat → α) (k : Nat) : α :=
  match m with
  | [] => d k
  | (j, v) :: r => if k = j then v else if k < j then d k else SMap.get r d k

/-- Does the map list the key? -/
def SMap.has {α : Type} (m : SMap α) (k : Nat) : Bool := m.any (fun p => p.1 == k)

/-- The map without key `k`. -/
def SMap.del {α : Type} (m : SMap α) (k : Nat) : SMap α :=
  match m with
  | [] => []
  | (j, v) :: r => if k = j then r else if k < j then (j, v) :: r else (j, v) :: SMap.del r k

/-- The map with `v` at key `k`, listed whatever it is. -/
def SMap.ins {α : Type} (m : SMap α) (k : Nat) (v : α) : SMap α :=
  match m with
  | [] => [(k, v)]
  | (j, u) :: r => if k = j then (k, v) :: r else if k < j then (k, v) :: (j, u) :: r else (j, u) :: SMap.ins r k v

/-- The map with `v` at key `k`; the entry is dropped when `v` is what an unlisted key reads as. -/
def SMap.set {α : Type} [DecidableEq α] (m : SMap α) (d : Nat → α) (k : Nat) (v : α) : SMap α :=
  if v = d k then m.del k else m.ins k v

/-- The map with the value at `k` changed by `f`. -/
def SMap.upd {α : Type} [DecidableEq α] (m : SMap α) (d : Nat → α) (k : Nat) (f : α → α) : SMap α :=
  m.set d k (f (m.get d k))

/-- Keys strictly rise. -/
def SMap.sorted {α : Type} : SMap α → Bool
  | [] => true
  | [_] => true
  | (i, _) :: (j, w) :: r => decide (i < j) && SMap.sorted ((j, w) :: r)

/-- The canonical form: keys strictly rising and no entry equal to the default. -/
def SMap.wf {α : Type} [DecidableEq α] (d : Nat → α) (m : SMap α) : Bool :=
  m.sorted && m.all (fun p => decide (p.2 ≠ d p.1))

end Sys2Proof.Machine
end

