-- ==== Sys2Proof/Machine/TypesHost.lean ====
section
/-! DEFINITION. State of the host interface and of the traffic classes: ring pairs, ports, tickets, receipts, tokens (chapters 02 and 03). Reset values stand as field defaults. -/

namespace Sys2Proof.Machine

/-- RING.STATUS.STATE (R33). -/
inductive RingState where
  | disabled | waiting | active | draining | error
deriving DecidableEq, Repr

/-- The code of R33. -/
def RingState.code : RingState → Nat
  | .disabled => 0 | .waiting => 1 | .active => 2 | .draining => 3 | .error => 4

/-- RING.STATUS.ERR (R33). -/
inductive RingErr where
  | none | bellRange | cqHeadRange | fetchError | cfgInvalid | portDown
deriving DecidableEq, Repr

/-- The code of R33. -/
def RingErr.code : RingErr → Nat
  | .none => 0 | .bellRange => 1 | .cqHeadRange => 2 | .fetchError => 3 | .cfgInvalid => 4 | .portDown => 5

/-- A receipt (R55) before it has a slot: PHASE is added when it is written. -/
structure Receipt where
  tag : Nat := 0
  status : Nat := 0
  /-- Bit 2 AUTO_TAB, bit 3 TRUNCATED; bit 1 DURABLE is added at posting. -/
  flags : Nat := 0
  tab : Nat := 0
  seq : Nat := 0
  sealRef : Nat := 0
  tick : Nat := 0
  result : Nat := 0
  noIrq : Bool := false
  /-- Secure time of the bell that announced its ticket, and the µs from that bell that the completing command states (R96). -/
  bellAt : Nat := 0
  us : Nat := 0
  /-- TICK is fixed: the tick of an entry or of an event; otherwise it is the tick current at posting. -/
  fixedTick : Bool := false
  /-- The number of the tab's entry that the ticket committed, 0 for none: DURABLE tells at posting whether it is durable. -/
  entry : Nat := 0
deriving DecidableEq, Repr

/-- One ring pair: its ring-table entry (R29 to R34), its bells (R37) and its interrupt moderation (R59). -/
structure Ring where
  /-- RING.SQ_BASE (R30); bits [11:0] stay 0. -/
  sqBase : BitVec 64 := 0
  /-- RING.CQ_BASE (R30); bits [11:0] stay 0. -/
  cqBase : BitVec 64 := 0
  /-- RING.CFG (R31). -/
  enable : Bool := false
  port : Fin 2 := 0
  cls : Fin 4 := 1
  sizeLog2 : BitVec 5 := 0
  vector : BitVec 12 := 0
  /-- RING.MOD (R32). -/
  modCount : BitVec 8 := 0
  modTime : BitVec 10 := 0
  /-- RING.STATUS (R33). -/
  state : RingState := .disabled
  err : RingErr := .none
  cqPhase : Bool := true
  bellIgnored : Bool := false
  /-- OUTSTANDING (R33): tickets fetched whose receipts are not posted; each holds one reserved receipt slot (R40). -/
  outstanding : Nat := 0
  /-- RING.PTRS (R34). -/
  cqTail : Nat := 0
  sqHead : Nat := 0
  /-- The SQ_TAIL and CQ_HEAD bells last written (R37, R38). -/
  sqTail : Nat := 0
  cqHead : Nat := 0
  /-- The SQ_TAIL bells whose tickets are not all fetched: the tail each announced and its secure time, oldest first (R96). -/
  bells : List (Nat × Nat) := []
  /-- Posted receipts the host has not released through CQ_HEAD (R40). -/
  unreleased : Nat := 0
  /-- Receipts posted since the last interrupt (R59). -/
  pending : Nat := 0
  /-- A receipt without NO_IRQ waits for RING.MOD.TIME (R59). -/
  timer : Bool := false
  /-- A message held by a mask, a link or an enable (R60). -/
  heldMsg : Bool := false
  /-- Receipts held while Bus Master Enable is clear, oldest first (R35). -/
  held : List Receipt := []
deriving DecidableEq, Repr

/-- Ring pair `n` after a reset of the main domains or of its port (R31, R33, R63). -/
def Ring.reset : Nat → Ring
  | 0 => { enable := true, cls := 1, sizeLog2 := 10, vector := 1, state := .waiting }
  | 1 => { enable := true, cls := 0, sizeLog2 := 6, vector := 2, state := .waiting }
  | _ => {}

/-- A link's speed and width field of DEV.PORT_STATUS and its state (R66, R448). -/
structure Link where
  /-- The link is in L0. -/
  l0 : Bool := false
  /-- It has been in L0 since the last reset of the main domains (R448). -/
  trained : Bool := false
  speed : Nat := 0
  width : Nat := 0
  /-- Secure time since which the link has been out of L0. -/
  downSince : Nat := 0
deriving DecidableEq, Repr

/-- One MSI-X table entry: message address, message data, mask bit. -/
structure MsixEntry where
  addr : BitVec 64 := 0
  data : BitVec 32 := 0
  mask : Bool := true
deriving DecidableEq, Repr

/-- The capabilities of a function's configuration space (R25). -/
inductive Capability where
  | powerManagement | pciExpress | msiX | advancedErrorReporting | deviceSerialNumber
  | secondaryPciExpress | dataLinkFeature | physicalLayer16 | physicalLayer32 | laneMargining
deriving DecidableEq, Repr

/-- The capabilities present, in the order of R25; MSI, SR-IOV, ATS, PRI, PASID, Resizable BAR, TPH, LTR and L1 PM Substates are absent. -/
def capabilities : List Capability :=
  [.powerManagement, .pciExpress, .msiX, .advancedErrorReporting, .deviceSerialNumber, .secondaryPciExpress, .dataLinkFeature, .physicalLayer16, .physicalLayer32, .laneMargining]

/-- The size of BAR0, BAR2 or BAR4 in bytes; 0 for every other number (R26). -/
def barSize (n : Nat) : Nat := match n with | 0 => 2 ^ 20 | 2 => 2 ^ 24 | 4 => 2 ^ 17 | _ => 0

/-- One port's PCIe function (R24 to R26, R60, R447, R448). -/
structure Port where
  /-- Base addresses of BAR0 (with BAR1), BAR2 (with BAR3) and BAR4 (with BAR5); the bits below a BAR's size stay 0 (R26, log 101). -/
  bar0 : BitVec 64 := 0
  bar2 : BitVec 64 := 0
  bar4 : BitVec 64 := 0
  /-- Completion errors that Advanced Error Reporting has logged for the function since its last reset (R25, R64). -/
  aerLogged : Nat := 0
  /-- Bus Master Enable of the Command register. -/
  bme : Bool := false
  /-- MSI-X Enable. -/
  msixEn : Bool := false
  /-- D3hot (R25). -/
  d3hot : Bool := false
  /-- PERST_N of the port is asserted (R404). -/
  inReset : Bool := true
  link : Link := {}
  /-- DEV.WMT_BASE of the port (R447); bits [11:0] stay 0. -/
  wmtBase : BitVec 64 := 0
  /-- The MSI-X table of 4,096 entries (R25). -/
  msix : SMap MsixEntry := []
deriving DecidableEq, Repr

/-- A ticket as the host writes it (R41). -/
structure Ticket where
  opcode : Nat := 0
  flags : Nat := 0
  tag : Nat := 0
  tab : Nat := 0
  source : BitVec 64 := 0
  /-- DATA, 32 bytes. -/
  data : Bytes := []
  /-- OPERANDS, 16 bytes. -/
  oper : Bytes := []
deriving DecidableEq, Repr

/-- The rungs of the token ladder after the receipt slot (R77), numbered as in R95. -/
inductive Rung where
  | fetch | tab | stall | staging | crate
deriving DecidableEq, Repr

/-- The number of R95. -/
def Rung.code : Rung → Nat
  | .fetch => 0 | .tab => 1 | .stall => 2 | .staging => 3 | .crate => 4

/-- A camera public key of a template's key list (R105). -/
structure CamKey where
  source : BitVec 64
  alg : Nat
  key : Bytes
deriving DecidableEq, Repr

/-- A template (R105). -/
structure Template where
  applet : Nat := 0
  sigRequired : Bool := false
  sigAlgs : Nat := 0x0F
  group : Nat := 0
  captureRequired : Bool := false
  captureMonotonic : Bool := false
  marksRequired : Bool := false
  maxSegmentKib : Nat := 4096
  budgetSegment : Nat := 2000000
  budgetKib : Nat := 256
  keys : List CamKey := []
  /-- The 64-byte fixed part as it was loaded (R105). -/
  fixed : Bytes := []
deriving DecidableEq, Repr

/-- An applet image in the applet store (R187, R188). Built-in applets 0 to 2 hold no code. -/
structure Applet where
  search : Bool := false
  code : List Word32 := []
  consts : Bytes := []
  wSeg : Nat := 0
  wKib : Nat := 0
  image : Bytes := []
deriving DecidableEq, Repr

/-- What an INGEST ticket's reads gave: clear segment, side block fields, and the first causes found (R46, R116). -/
structure Ingest where
  /-- The reads are done. -/
  read : Bool := false
  data : Bytes := []
  captureStart : Nat := 0
  duration : Nat := 0
  /-- Host frame marks; none when the side block has FRAME_COUNT 0. -/
  marks : List Nat := []
  sigAlg : Nat := 0
  sig : Bytes := []
  /-- A format, policy or signature cause of R116; 0 for none. -/
  cause : Nat := 0
  /-- The data was read in full and the side block passed (R114, FRAME_COUNT). -/
  dataOk : Bool := false
  sigVerified : Bool := false
deriving DecidableEq, Repr

/-- An index record emitted by EINDEX (R184), less the tab, sequence and tick that the till adds. -/
structure IndexRec where
  kind : Nat
  frame : Nat
  value : Bytes
deriving DecidableEq, Repr

/-- A result handed to the till (R112): the entry to be committed, less what only the commit decides. -/
structure TillResult where
  kind : Nat := 1
  status : Nat := 0
  cause : Nat := 0
  epoch : Nat := 0
  group : Nat := 0
  /-- Frame marks the frame tree is built on. -/
  marks : List Nat := []
  frameRoot : Bytes := []
  frameCount : Nat := 0
  /-- GCM ciphertext and tag; stored when `stored`. -/
  cipher : Bytes := []
  stored : Bool := false
  marksFromHost : Bool := false
  indexRecs : List IndexRec := []
  /-- Working copy of the state words (R179), written at commit when `keepState`. -/
  stateWords : List Word64 := []
  keepState : Bool := false
  applet : Nat := 0xFFFF
deriving DecidableEq, Repr

/-- How far a ticket in the device has come. -/
inductive Stage where
  /-- Waits for the head of its needed rungs (R77). -/
  | ladder
  /-- Admitted: holds every rung it needs; its own work has not begun. -/
  | admitted
  /-- An ingest ticket whose reads are done and which waits for a stall to start it (R177). -/
  | staged
  /-- A work item runs on a stall. -/
  | running
  /-- A result stands in the till's reorder window (R112). -/
  | ready
  /-- Its effect is done; the receipt waits for an ordering rule (R57) or a later event (R381). -/
  | done
deriving DecidableEq, Repr

/-- What of a tab an accepted OPEN_TAB or auto-tab changed before its commit. -/
structure TabWas where
  isOpen : Bool
  auto : Bool
  source : BitVec 64
  ring : Nat
  affinity : Nat
  pin : Nat
deriving DecidableEq, Repr

/-- An authority record (R244), as received. -/
structure Authority where
  bytes : Bytes
deriving DecidableEq, Repr

/-- How far a FULL self-test has come (R198): the units still to be tested, the records so far, and whether a unit has failed. -/
structure TestRun where
  left : List Nat
  recs : List Bytes := []
  bad : Bool := false
deriving DecidableEq, Repr

/-- A ticket in the device, from fetch to the posting of its receipt. -/
structure Tk where
  id : Nat
  ring : Nat
  cls : Fin 4
  tk : Ticket
  stage : Stage := .ladder
  /-- Rungs still to be taken, in ladder order (R79). -/
  need : List Rung := []
  /-- Secure time since which it has waited at its next rung (R83, R95). -/
  waitSince : Nat := 0
  /-- Secure time of the bell that announced it, and the µs from that bell to its completion as the completing command states them (R96). -/
  bellAt : Nat := 0
  us : Nat := 0
  /-- It still holds its fetch token (R78). -/
  fetchTok : Bool := true
  /-- Write-staging units of 64 KiB it holds. -/
  staging : Nat := 0
  /-- Readout units of 16 KiB it holds. -/
  readbuf : Nat := 0
  /-- Unit address of the stall whose work slot it holds. -/
  stall : Option Nat := none
  /-- It holds its tab token. -/
  tabTok : Bool := false
  /-- It holds a crate slot: the stream and the crate of its reservation (0 for the stream's prepared crate), and the slots reserved (R277). -/
  crateTok : Bool := false
  crateStream : Nat := 0
  crateId : Nat := 0
  crateSlots : Nat := 0
  /-- The tab that serves it. -/
  tab : Option Nat := none
  /-- It opened an auto-tab (R49). -/
  autoTab : Bool := false
  /-- An OPEN_TAB that changed the ring (R102). -/
  rebind : Bool := false
  /-- The home, a row or a stall, that an OPEN_TAB gives its tab (R103, R164). -/
  newAffinity : Option Nat := none
  /-- Ring, source, openness and home that the tab had before the ticket opened or re-homed it; a withdrawal restores them (log 20). -/
  was : Option TabWas := none
  /-- Sequence number given at the tab rung (R110). -/
  seq : Nat := 0
  /-- Secure time at admission (R114, ADMIT_TIME). -/
  admitTime : Nat := 0
  /-- Template and applet in force when the tab rung was granted, and the applet of a SEARCH at its admission (R106, R189); none where it is dropped. -/
  templNo : Nat := 0
  templ : Option Template := none
  applet : Option Applet := none
  ing : Ingest := {}
  result : Option TillResult := none
  /-- The epoch fixed by its first run; a re-run encrypts under the same (R10, R423). -/
  epoch : Option Nat := none
  /-- The authority record in force at its admission, by which a signed object is judged (R245). -/
  auth : Option Authority := none
  /-- Re-runs after faults (R113). -/
  reruns : Nat := 0
  /-- A fault was recovered during the ticket (R58, 0x30). -/
  retried : Bool := false
  /-- A receipt that waits to be posted. -/
  rcpt : Option Receipt := none
  /-- It was refused; its receipt keeps its place among the tab's receipts (R57). -/
  refused : Bool := false
  /-- The clear data of its uncommitted item is being pulled from host memory again (R312). -/
  repull : Bool := false
  /-- The FULL self-test that it runs (R197, R198). -/
  test : Option TestRun := none
deriving DecidableEq, Repr

/-- The cause part of an MSI-X message: a ring's message or one of the INTR causes (R59, R449). -/
inductive MsgOf where
  | ring (n : Nat)
  | intr (cause : Nat)
deriving DecidableEq, Repr

/-- A write the device issues to host memory, in issue order (R27). -/
inductive HostWrite where
  /-- Data of a readout, search, export or self-test result. -/
  | data (port : Nat) (addr : Nat) (bytes : Bytes)
  /-- A 32-byte receipt (R56). -/
  | receipt (port : Nat) (addr : Nat) (bytes : Bytes)
  /-- A 32-byte watermark-table entry (R62). -/
  | wmt (port : Nat) (addr : Nat) (bytes : Bytes)
  /-- An MSI-X message on a vector. -/
  | msix (port : Nat) (vector : Nat) (of : MsgOf)
deriving DecidableEq, Repr

/-- The host interface. -/
structure HostIf where
  /-- x8x8 operation: two ports (R24). -/
  twoPorts : Bool := false
  rings : SMap Ring := []
  port0 : Port := {}
  port1 : Port := {}
  /-- Tickets in the device, in fetch order. -/
  tickets : List Tk := []
  /-- Identifier of the next ticket fetched. -/
  nextId : Nat := 1
  /-- Everything the device has written to host memory, in issue order. -/
  out : List HostWrite := []
  /-- Tabs marked because no watermark table could take their entry (R62). -/
  wmtMarked : List Nat := []
  /-- The last watermark-table entry written of each tab (R62). -/
  wmtLast : SMap Bytes := []
deriving DecidableEq, Repr

/-- Class weights 1 to 3 (R89). -/
structure Weights where
  w1 : BitVec 4
  w2 : BitVec 4
  w3 : BitVec 4
deriving DecidableEq, Repr

/-- Deficit round robin of one arbitration point: the credit left to classes 1 to 3 in this round (R68). -/
structure Drr where
  c1 : Int := 0
  c2 : Int := 0
  c3 : Int := 0
deriving DecidableEq, Repr

/-- The credit of a class. -/
def Drr.credit (d : Drr) (c : Nat) : Int := match c with | 1 => d.c1 | 2 => d.c2 | 3 => d.c3 | _ => 0
/-- The credits given class by class. -/
def Drr.of (f : Nat → Int) : Drr := ⟨f 1, f 2, f 3⟩

/-- A place in the rotation of one rung and class (R71): a tab, or a ticket that counts as a tab of its own. -/
structure RotKey where
  rung : Rung
  cls : Fin 4
  tab : Option Nat
  ticket : Nat
deriving DecidableEq, Repr

/-- The CLASS block and the token ladder (R67 to R97). -/
structure Classes where
  /-- CLASS.WEIGHT_SERVICE and CLASS.WEIGHT_CATCHUP (R89). -/
  service : Weights := ⟨6, 3, 1⟩
  catchup : Weights := ⟨4, 5, 1⟩
  /-- CLASS.STAGING (R92), in units of 64 MiB. -/
  reserve0 : Nat := 1
  stagingSize : Nat := 256
  /-- CLASS.SPACE_WAIT.MS (R93). -/
  spaceWaitMs : Nat := 100
  /-- Free ticket buffers, and those of them in the class-0 reserve (R78, R80). -/
  fetchFree : Nat := 16384
  fetchRes : Nat := 256
  /-- Free write staging in 64 KiB units, and those of them in the class-0 reserve. -/
  stagingFree : Nat := 262144
  stagingRes : Nat := 1024
  /-- Free 16 KiB readout units. -/
  readbufFree : Nat := 512
  /-- CLASS.WAITING (R95). -/
  waiting : BitVec 32 := 0
  /-- CLASS.LAT0 (R96). -/
  tickMax : Nat := 0
  receiptMax : Nat := 0
  /-- One deficit round robin for each rung of R95. -/
  drr : SMap Drr := []
  /-- The rotations of tabs at every rung and class, oldest place first (R71). -/
  rot : List RotKey := []
  /-- The ring last served at the fetch rung, for each class (R71). -/
  lastRing : SMap Nat := []
  /-- A ticket has been skipped for want of space and space has not returned (R83). -/
  exhausted : Bool := false
deriving DecidableEq, Repr

end Sys2Proof.Machine
end

