-- ==== Sys2Proof/Machine/TypesTabs.lean ====
section
/-! DEFINITION. State of tabs, tills, the segment chain and holds (chapter 04). -/

namespace Sys2Proof.Machine

/-- A tab context (R98). The default is a tab never opened in the owner generation. -/
structure Tab where
  /-- CHAIN_HEAD after entry NEXT_SEQ − 1; while NEXT_SEQ is 1 the head is chain_0 of R117, computed when read. -/
  chainHead : Bytes := []
  nextSeq : Nat := 1
  sealed : Nat := 0
  durable : Nat := 0
  uploaded : Nat := 0
  source : BitVec 64 := 0
  template : Nat := 0
  applet : Nat := 0
  /-- CAMERA_KEY: index of the camera's key; 0xFFFF_FFFF if none. -/
  cameraKey : Nat := 0xFFFFFFFF
  group : Nat := 0
  /-- STATE bits 0 to 3. -/
  isOpen : Bool := false
  closing : Bool := false
  auto : Bool := false
  affinityMove : Bool := false
  /-- Bound ring pair; 0xFFFF if unbound. -/
  ring : Nat := 0xFFFF
  /-- AFFINITY: unit address of the owning row. A tab never opened shows row 0, for which the spec gives no value (DESIGN CHOICE, log 105). -/
  affinity : Nat := 0x2000
  /-- The stall an OPEN_TAB named, to which the tab is pinned (R164); 0 for none. -/
  pin : Nat := 0
  lastTick : Nat := 0
  lastCapture : Nat := 0
  /-- DURABLE_HEAD; while DURABLE is 0 it is chain_0. -/
  durableHead : Bytes := []
  /-- APPLET_STATE as eight words (R177); empty for all zero. -/
  appletState : List Word64 := []
  /-- UPLOADED as last journalled at a boundary (R120). -/
  uploadedPersist : Nat := 0
deriving DecidableEq, Repr

/-- The unit address a tab is homed by: the stall it is pinned to, or its row. -/
def Tab.home (c : Tab) : Nat := if c.pin ≠ 0 then c.pin else c.affinity

/-- A chain entry's header (R114). -/
structure Header where
  kind : Nat
  status : Nat
  tab : Nat
  seq : Nat
  source : BitVec 64
  template : Nat
  group : Nat
  sigAlg : Nat := 0
  epoch : Nat := 0
  captureStart : Nat := 0
  duration : Nat := 0
  frameCount : Nat := 0
  marksFromHost : Bool := false
  sigVerified : Bool := false
  stored : Bool := false
  autoOpen : Bool := false
  rebind : Bool := false
  dataLength : Nat := 0
  cause : Nat := 0
  admitTime : Nat := 0
  frameRoot : Bytes := []
  sigDigest : Bytes := []
  applet : Nat := 0xFFFF
  indexCount : Nat := 0
deriving DecidableEq, Repr

/-- A chain entry record (R118) with what the device keeps beside it: stored ciphertext, index records, and how it is kept (R276, R285, R290). -/
structure Entry where
  hdr : Header
  ctHash : Bytes
  chain : Bytes
  crate : Nat := 0
  slot : Nat := 0
  commitTick : Nat := 0
  sig : Bytes := []
  cipher : Bytes := []
  /-- Frame marks of the entry's tree, kept with the entry; the spec does not say where the device keeps them (log 35). -/
  marks : List Nat := []
  indexRecs : List IndexRec := []
  /-- Home (row or stall) that an OPEN entry gives the tab, for R125. -/
  affinity : Nat := 0
  /-- APPLET_STATE after this entry (R125). -/
  stateAfter : List Word64 := []
  /-- Programmed, parity included (R119). -/
  programmed : Bool := false
  /-- The object is kept only as a chain record (RECORD_ONLY, R285). -/
  recordOnly : Bool := false
  /-- Data lost (LOST, R281). -/
  lost : Bool := false
  /-- The crate that holds the record. -/
  inCrate : Nat := 0
deriving DecidableEq, Repr

/-- A hold (R121). -/
structure Hold where
  id : Nat
  /-- None for all tabs. -/
  tab : Option Nat
  first : Nat
  last : Nat
deriving DecidableEq, Repr

/-- What the last durable OPEN, CLOSE and other entries of a tab say, of entries that the ring no longer holds (R125, log 68). -/
structure TabMark where
  /-- The last OPEN entry: its number and what it names. -/
  openSeq : Nat := 0
  source : BitVec 64 := 0
  template : Nat := 0
  group : Nat := 0
  affinity : Nat := 0x2000
  auto : Bool := false
  closeSeq : Nat := 0
  /-- The highest entry: its chain value, state words and tick. -/
  topSeq : Nat := 0
  head : Bytes := []
  words : List Word64 := []
  lastTick : Nat := 0
  /-- The last SEGMENT entry and its CAPTURE_START. -/
  captureSeq : Nat := 0
  capture : Nat := 0
deriving DecidableEq, Repr

/-- A mark with one more entry seen. -/
def TabMark.see (m : TabMark) (e : Entry) : TabMark :=
  let h := e.hdr
  let m1 := if h.kind = 4 ∧ m.openSeq < h.seq then { m with openSeq := h.seq, source := h.source, template := h.template, group := h.group, affinity := e.affinity, auto := h.autoOpen } else m
  let m2 := if h.kind = 5 then { m1 with closeSeq := max m1.closeSeq h.seq } else m1
  let m3 := if m2.topSeq < h.seq then { m2 with topSeq := h.seq, head := e.chain, words := e.stateAfter, lastTick := e.commitTick } else m2
  if h.kind = 1 ∧ m3.captureSeq < h.seq then { m3 with captureSeq := h.seq, capture := h.captureStart } else m3

def noMark (_ : Nat) : TabMark := {}

/-- The tab store, the template store, the chains and the holds. -/
structure TabStore where
  ctx : SMap Tab := []
  /-- Loaded templates 1 to 1,023 (R105); template 0 is built in (R104). -/
  templates : SMap Template := []
  /-- Retention period in days of each group (R104, R107). -/
  days : SMap Nat := []
  /-- Every kept chain entry, in commit order. -/
  entries : List Entry := []
  /-- Marks of the tabs whose entries have been reclaimed. -/
  marks : SMap TabMark := []
  holds : List Hold := []
  /-- Highest hold identifier issued, kept in the backup domain (R121). -/
  holdHigh : Nat := 0
  /-- Loaded applets 16 to 1,023 (R188). -/
  applets : SMap Applet := []
  /-- Digests held on chip: SHA-384 of the images and of the fixed parts, 16 bytes for a camera key entry (R308). -/
  imageDigests : SMap Bytes := []
  fixedDigests : SMap Bytes := []
  keyDigests : SMap Bytes := []
deriving DecidableEq, Repr

end Sys2Proof.Machine
end

