-- ==== Sys2Proof/Machine/TypesLedger.lean ====
section
/-! DEFINITION. State of secure time, ticks and the ledger (chapter 05). -/

namespace Sys2Proof.Machine

/-- An event of a tick record (R135). -/
structure TickEvent where
  type : Nat
  body : Bytes
deriving DecidableEq, Repr

/-- One boundary of the journal in the flash system area (R143). -/
structure Boundary where
  tick : Nat
  boundary : Nat
  step : Nat := 0
  periodMs : Nat := 1000
  mode : Nat := 1
  uncertain : Bool := false
  slewing : Bool := false
  applied : Int := 0
  events : List TickEvent := []
deriving DecidableEq, Repr

/-- A tick whose boundary has passed and whose record is not sealed: the frozen leaves and the record's own values (R132, R139, R141). -/
structure TickBuild where
  at_ : Boundary
  prevBoundary : Nat
  /-- The present tabs and their heads, in tab order (R132). -/
  heads : List (Nat × Bytes)
  entryCount : Nat
  events : List TickEvent
  /-- Sealed after a restart from the journal (R141, R142). -/
  resealed : Bool := false
  restart : Bool := false
deriving DecidableEq, Repr

/-- A sealed tick record (R134) with its sheet (R150). -/
structure TickRecord where
  resealed : Bool
  restart : Bool
  at_ : Boundary
  prevBoundary : Nat
  lifecycle : Nat
  presentCount : Nat
  entryCount : Nat
  prevHash : Bytes
  root : Bytes
  signerId : Bytes
  events : List TickEvent
  sigEcdsa : Bytes
  sigMldsa : Bytes
  heads : List (Nat × Bytes)
  /-- The sheet has been reclaimed (R150). -/
  sheetGone : Bool := false
deriving DecidableEq, Repr

/-- The TICK block, secure time and the ledger. Fields marked BD stand in the backup domain. -/
structure Ledger where
  /-- The 48-bit RTC (R127). BD. -/
  rtc : BitVec 48 := 0
  /-- TICK.PERIOD.MS (R158). -/
  periodMs : Nat := 1000
  /-- Period in force during the open tick (R130). -/
  periodInForce : Nat := 1000
  /-- TICK.STATUS.TIME_UNCERTAIN (R156). BD. -/
  uncertain : Bool := false
  /-- TICK.SLEW (R160). BD. -/
  slewShift : Nat := 11
  slewMaxMs : Nat := 2000
  /-- TICK.UNSIGNED.LIMIT_MS (R160). BD. -/
  unsignedMs : Nat := 250
  /-- TICK.APPLIED (R161). BD. -/
  applied : Int := 0
  /-- TICK.SLEW_REMAIN (R161). BD. -/
  slewRemain : Int := 0
  /-- RTC value at which the slew in progress began or last acted (R154). BD. -/
  slewLast : Nat := 0
  /-- A pending forward step (R155). -/
  stepPending : Option Nat := none
  /-- Ticks are closing: TICK.STATUS.LEDGER_RUNNING (R159). -/
  running : Bool := false
  /-- TICK.CURRENT, SEALED, DURABLE (R161). -/
  current : Nat := 0
  sealedTick : Nat := 0
  durableTick : Nat := 0
  /-- TICK.NEXT_BOUNDARY without a pending step (R161). -/
  nextBoundary : Nat := 0
  /-- Secure time at which the open tick began (R138). -/
  began : Nat := 0
  /-- Events of the open tick in the order they took effect (R136). -/
  events : List TickEvent := []
  /-- The open tick is the first after a start-up or release, and its record carries RESTART (R141, R142). -/
  restart : Bool := false
  /-- A boundary pulse is held on crossing 60 while SYSCLK is lost (R425). -/
  boundaryHeld : Bool := false
  /-- Ticks whose boundary has passed and which wait to be sealed, in number order. -/
  builds : List TickBuild := []
  /-- Sealed records, in number order. -/
  records : List TickRecord := []
  /-- The boundary journal in the flash system area (R143). -/
  journal : List Boundary := []
  /-- SIGNER event due in the first record signed by new keys: H(authorising object) (R141). -/
  signerDue : Option Bytes := none
deriving DecidableEq, Repr

end Sys2Proof.Machine
end

