-- ==== Sys2Proof/Machine/TypesUnits.lean ====
section
/-! DEFINITION. State of stalls, rows, work items and Otnak machines (chapter 06). -/

namespace Sys2Proof.Machine

/-- The state of a unit, UNITTREE.INFO.STATE (R168). -/
inductive UnitState where
  | active | draining | underTest | standingIn | idle | faulted | retired
deriving DecidableEq, Repr

/-- The code of R168. -/
def UnitState.code : UnitState → Nat
  | .active => 0 | .draining => 1 | .underTest => 2 | .standingIn => 3 | .idle => 4 | .faulted => 5 | .retired => 6

/-- An engine or stall: its state and the faults detected in it since power-up (R168, R169). -/
structure UnitSt where
  state : UnitState := .active
  faults : Nat := 0
  /-- A fault came while a SELF_TEST had the unit: that test ends with RESULT 1 (R427). -/
  broke : Bool := false
deriving DecidableEq, Repr

/-- A unit's state after start-up: a spare stall is IDLE, every other unit ACTIVE (R168). -/
def UnitSt.reset (addr : Nat) : UnitSt :=
  if addr / 4096 = 3 ∧ addr % 16 = 8 then { state := .idle } else {}

/-- One loop of an Otnak item: body start, body length, iterations left, iterations begun, and LOOPB's step (R182). -/
structure LoopFrame where
  start : Nat
  len : Nat
  left : Nat
  iter : Nat
  step : Option Nat
deriving DecidableEq, Repr

/-- A match emitted by EMATCH (R182, R184). -/
structure MatchRec where
  frame : Word64
  payload : Bytes
deriving DecidableEq, Repr

/-- How an item ended. -/
inductive ItemEnd where
  | running | ended | refused (code : Nat)
deriving DecidableEq, Repr

/-- The machine of one work slot (R177, R180): registers, slot memory, state words, loops, and what the item has emitted. -/
structure Vm where
  /-- v0 to v15; v0 is never read from here (R180). -/
  regs : Vector Word64 16 := Vector.replicate 16 0
  /-- 16 KiB of slot memory, sparse with default 0. -/
  slot : SMap Byte := []
  /-- The eight state words (R177, R179). -/
  words : Vector Word64 8 := Vector.replicate 8 0
  pc : Nat := 0
  loops : List LoopFrame := []
  input : Bytes := []
  hostMarks : List Nat := []
  query : Bytes := []
  /-- The values INFO reads (R183). -/
  info : Vector Word64 12 := Vector.replicate 12 0
  search : Bool := false
  marksFromHost : Bool := false
  /-- Effective marks, in rising order. -/
  marks : List Nat := []
  index : List IndexRec := []
  matchRecs : List MatchRec := []
  maxMatches : Nat := 0
  /-- Cycles run so far (R175, R182). -/
  cycles : Nat := 0
  /-- The item's worst case (R175, R186). -/
  worst : Nat := 0
  ended : ItemEnd := .running
deriving DecidableEq, Repr

/-- A work item on a stall. -/
structure Item where
  /-- The ticket it works for. -/
  ticket : Nat
  /-- Unit address of the stall that runs it, and the number of its work slot there. -/
  unit : Nat
  slot : Nat := 0
  /-- The stall's cores run it now; a stall's other items wait (R171). -/
  core : Bool := true
  /-- The epoch fixed when encryption began (R10). -/
  epoch : Nat := 0
  vm : Vm := {}
deriving DecidableEq, Repr

/-- The unit tree (R162 to R176). -/
structure Units where
  /-- UNITTREE.SELECT (R167). -/
  select : BitVec 16 := 0
  /-- State of every stall, cipher, hash and PKE engine, ledger hasher, by unit address. -/
  st : SMap UnitSt := []
  /-- SPARE_FOR of each row, by row address; 0xF for none (R168). -/
  spareFor : SMap Nat := []
  /-- UNITTREE.FW from the firmware image (R169, R176). -/
  fw : BitVec 32 := 0
  items : List Item := []
deriving DecidableEq, Repr

end Sys2Proof.Machine
end

