-- ==== Sys2Proof/Machine/TypesCrypto.lean ====
section
/-! DEFINITION. State of the cipher and hash engines, the public-key pool and the key vault (chapters 07 to 09). -/

namespace Sys2Proof.Machine

/-- Cipher modes (R202). -/
inductive CipherMode where
  | gcm | ctr | cbc | cmac | xts | ecb
deriving DecidableEq, Repr

/-- Hash algorithms (R214). -/
inductive HashAlg where
  | sha256 | sha384 | sha512 | sha3_256 | sha3_384
deriving DecidableEq, Repr

/-- A key in a cipher engine's key slot, with the GCM subkey and the CMAC subkeys that are cached with it (R201). -/
structure KeySlot where
  src : KeySrc
  key : Bytes
  h : Bytes
  k1 : Bytes
  k2 : Bytes
deriving DecidableEq, Repr

/-- A key in an HMAC slot: the chaining words after the inner and the outer padded key (R214). -/
structure HmacSlot where
  src : KeySrc
  alg : HashAlg
  inner : List Nat
  outer : List Nat
deriving DecidableEq, Repr

/-- An open cipher context (R199, R200). Its key stands in the slot of `src`. -/
structure CipherCtx where
  owner : Nat
  ctx : Fin 4
  mode : CipherMode
  src : KeySrc
  encrypt : Bool
  iv : Bytes
  aadLen : Nat
  dataLen : Nat
  /-- The pieces of AAD taken in, by their places in the AAD (R202). -/
  aad : SMap Bytes
  data : Bytes
  tag : Option Bytes
  /-- Bytes of output released (R204). -/
  given : Nat
deriving DecidableEq, Repr

/-- An open hash context (R200), keyed for HMAC. -/
structure HashCtx where
  owner : Nat
  ctx : Fin 2
  alg : HashAlg
  src : Option KeySrc
  data : Bytes
deriving DecidableEq, Repr

/-- A call that waits for a cipher engine, with the class of its ticket (R67, R199). -/
structure CipherCall where
  mode : CipherMode
  req : CipherReq
  cls : Fin 4
deriving DecidableEq, Repr

/-- A call that waits for a hash lane. -/
structure HashCall where
  alg : HashAlg
  key : Option KeySrc
  req : HashReq
  cls : Fin 4
deriving DecidableEq, Repr

/-- The statuses of R205. -/
inductive EngStatus where
  | ok | tagFail | padFail | length | modeRefused | aborted | checkFault | keyCleared
deriving DecidableEq, Repr

/-- The code of R205. -/
def EngStatus.code : EngStatus → Nat
  | .ok => 0 | .tagFail => 1 | .padFail => 2 | .length => 3 | .modeRefused => 4 | .aborted => 5 | .checkFault => 6 | .keyCleared => 7

/-- The operation that a cipher engine runs: what it yields at secure time `ready`, and the context it leaves open. -/
structure CipherRun where
  call : CipherCall
  ready : Nat
  status : EngStatus
  out : Bytes
  after : Option CipherCtx
deriving DecidableEq, Repr

/-- The operation that a hash lane runs. -/
structure HashRun where
  call : HashCall
  ready : Nat
  status : EngStatus
  out : Bytes
  after : Option HashCtx
deriving DecidableEq, Repr

/-- What a cipher or hash engine last answered a context of its caller. -/
structure EngDone where
  /-- Unit address of the engine that served the call (R212). -/
  engine : Nat
  owner : Nat
  ctx : Nat := 0
  status : EngStatus
  out : Bytes := []
deriving DecidableEq, Repr

/-- The engines of one row (R200, R208, R214). -/
structure RowEng where
  ctxs : List CipherCtx := []
  /-- Most recently used last (R201). -/
  keys : List KeySlot := []
  /-- The cipher operation that runs. -/
  run : Option CipherRun := none
  hctxs : List HashCtx := []
  hmacKeys : List HmacSlot := []
  /-- What the hash engine's two lanes run (R214). -/
  laneA : Option HashRun := none
  laneB : Option HashRun := none
  /-- The grinder's seed and the blocks it has served since that seed took effect (R206 to R208). -/
  grinderSeed : Bytes := []
  grinderPos : Nat := 0
  /-- Reseeds of the grinder, failures of the health test in a row, and whether the last reseed passed (R208, R219). -/
  grinderReseeds : Nat := 0
  grinderFails : Nat := 0
  grinderOk : Bool := true
deriving DecidableEq, Repr

/-- The statuses of R233. -/
inductive PkeStatus where
  | ok | verifyFail | badScalar | badPoint | badInput | badLength | aborted | busy
deriving DecidableEq, Repr

/-- The code of R233. -/
def PkeStatus.code : PkeStatus → Nat
  | .ok => 0 | .verifyFail => 1 | .badScalar => 2 | .badPoint => 3 | .badInput => 4 | .badLength => 5 | .aborted => 6 | .busy => 7

/-- What an operation yields: status, public result, secret for the key bus, signing attempts, engine time in 0.1 µs, random bytes drawn. `fault` is R226's check. -/
structure PkeOut where
  status : PkeStatus := .ok
  result : Bytes := []
  secret : Option Bytes := none
  attempts : Nat := 0
  time : Nat := 0
  drawn : Nat := 0
  fault : Bool := false
deriving DecidableEq, Repr

/-- A queued request of the pool, with the class of the work it serves (R67, R220). -/
structure PkeWait where
  op : Nat
  req : PkeReq
  cls : Fin 4
  /-- It has been resubmitted after a fault (R235). -/
  resub : Bool := false
deriving DecidableEq, Repr

/-- The operation that a PKE engine runs: what it yields at secure time `ready`. An operation that a command has run to its end keeps the engine to itself until then. -/
structure PkeRun where
  wait : PkeWait
  ready : Nat
  out : PkeOut
deriving DecidableEq, Repr

/-- One PKE engine's session and operand memory (R231, R234). Empty regions are all zero. -/
structure PkeEng where
  /-- The owner of the session: its identity, its work slot and its ticket. -/
  owner : Option (Nat × Nat × Nat) := none
  requests : Nat := 0
  run : Option PkeRun := none
  /-- The last request of the session, to be resubmitted after a fault (R235). -/
  last : Option PkeWait := none
  input : Bytes := []
  result : Bytes := []
  work : Bytes := []
deriving DecidableEq, Repr

/-- A completion (R232). -/
structure PkeDone where
  op : Nat
  owner : Nat
  slot : Nat := 0
  ticket : Nat := 0
  status : PkeStatus
  fault : Bool := false
  keyBus : Bool := false
  result : Bytes := []
  engine : Nat := 0
  attempts : Nat := 0
  /-- Engine time in units of 0.1 µs. -/
  time : Nat := 0
deriving DecidableEq, Repr

/-- The PKE pool (R220 to R238). -/
structure PkePool where
  engines : SMap PkeEng := []
  /-- Requests that wait for an engine, oldest first (R229). -/
  queue : List PkeWait := []
  /-- Requests answered BUSY that retry after 10 µs (R229). -/
  deferred : List PkeWait := []
  /-- Completions not yet superseded, the latest for each owner. -/
  done : List PkeDone := []
  /-- Reseeds and failures in a row of the pool's randomness generator (R236). -/
  reseeds : Nat := 0
  fails : Nat := 0
deriving DecidableEq, Repr

/-- STATE of a key-table entry (R247). -/
inductive EpochState where
  | current | ended | deferred
deriving DecidableEq, Repr

/-- A live epoch key (R247). -/
structure EpochKey where
  group : Nat
  epoch : Nat
  key : Bytes
  state : EpochState := .current
  days : Nat := 30
  firstTick : Nat := 0
  lastTick : Nat := 0
  endTime : Nat := 0
deriving DecidableEq, Repr

/-- An epoch that has been prepared and has not become current (R246). -/
structure PrepEpoch where
  group : Nat
  epoch : Nat
  key : Bytes
  planned : Nat
deriving DecidableEq, Repr

/-- An escrow wrap (R248). -/
structure Wrap where
  group : Nat
  epoch : Nat
  bytes : Bytes
  durable : Bool := false
deriving DecidableEq, Repr

/-- A signer certificate (R243). -/
structure SignerCert where
  index : Nat
  bytes : Bytes
  durable : Bool := false
deriving DecidableEq, Repr

/-- The device signing pair (R243). -/
structure SignPair where
  d : Nat
  ecdsaPub : Bytes
  mldsaSk : Bytes
  mldsaPub : Bytes
deriving DecidableEq, Repr

/-- A cartridge pairing key (R242, R331). -/
structure PairKey where
  index : Nat
  maker : Nat
  serial : Nat
  key : Bytes
deriving DecidableEq, Repr

/-- The key of a page of the key table (R247). -/
structure PageKey where
  page : Nat
  key : Bytes
deriving DecidableEq, Repr

/-- A page of the key table as it was written to the flash system area: its entries, which the page key alone opens (R247, log 112). -/
structure KeyPage where
  page : Nat
  version : Nat
  key : Bytes
  entries : List EpochKey
deriving DecidableEq, Repr

/-- A slot of the working set and the epoch whose key it holds (R242, R247). -/
structure WorkKey where
  slot : Nat
  group : Nat
  epoch : Nat
deriving DecidableEq, Repr

/-- A vault image in the flash system area (R251): its serial, the vault key that opens it, and what it persists (log 112). -/
structure VaultImage where
  serial : Nat
  vaultKey : Bytes
  pages : List PageKey := []
  /-- Signer certificates that the ledger crate has not taken yet (R243). -/
  certs : List SignerCert := []
  signing : Option SignPair := none
  pairing : List PairKey := []
  authority : Option Authority := none
  days : SMap Nat := []
  lastIssued : Nat := 0
deriving DecidableEq, Repr

/-- The key vault (R239 to R253). -/
structure Vault where
  /-- Enclosure key, in BBRAM (R240). -/
  enclosure : Option Bytes := none
  /-- Vault key register (R240). -/
  vaultKey : Option Bytes := none
  /-- The key table with its live keys, as the vault has it (R247). -/
  epochs : List EpochKey := []
  prepared : List PrepEpoch := []
  /-- The page keys (R247). -/
  pageKeys : List PageKey := []
  /-- The pages written to the flash system area that have not been erased. -/
  pages : List KeyPage := []
  /-- The working set, most recently used last: slots 2g and 2g + 1 hold the current and the previous key of group g, the others cache keys for readout (R242, R247). -/
  work : List WorkKey := []
  /-- Groups whose start-up epoch has not begun: nothing is sealed in them until it has (R23, R246). -/
  unopened : List Nat := []
  /-- Groups whose next wrap was not durable at its hour (R246). -/
  late : List Nat := []
  /-- The last whole hour at which epochs changed (R246). -/
  lastHour : Nat := 0
  wraps : List Wrap := []
  signing : Option SignPair := none
  certs : List SignerCert := []
  pairing : List PairKey := []
  /-- Ephemeral keys of escrow wraps, by index 0 to 15 (R242). -/
  eph : SMap Bytes := []
  authority : Option Authority := none
  /-- The clear copy in the system area (R245). -/
  authorityCopy : Option Authority := none
  /-- Last accepted ISSUED_TICK (R153). -/
  lastIssued : Nat := 0
  /-- The two image slots of the flash system area (R251). -/
  image0 : Option VaultImage := none
  image1 : Option VaultImage := none
  /-- Serial of the valid image, in the backup domain (R251). -/
  imageSerial : Nat := 0
  /-- An accepted signed time-set record waits to be written to the image (R251). -/
  imageDue : Bool := false
  /-- Keys taken from use whose destruction completes with the erase (R250). -/
  shredding : List (Nat × Nat) := []
  /-- Health-test failures in a row of the entropy source, and DRBG reseeds (R239). -/
  entropyFails : Nat := 0
  drbgReseeds : Nat := 0
  /-- The ECDSA and ML-DSA identity certificates in the system area (R241). -/
  idCerts : List Bytes := []
deriving DecidableEq, Repr

/-- Engines and pool. -/
structure Crypto where
  /-- By row number 8 × market + row. -/
  rows : SMap RowEng := []
  /-- Calls that wait for a cipher engine, and for a hash lane, oldest first (R199, R200). -/
  cipherQueue : List CipherCall := []
  hashQueue : List HashCall := []
  /-- The last answers of the cipher and hash engines, the latest for each owner. -/
  cipherDone : List EngDone := []
  hashDone : List EngDone := []
  pke : PkePool := {}
deriving DecidableEq, Repr

end Sys2Proof.Machine
end

