-- ==== Sys2Proof/Machine/TypesFlash.lean ====
section
/-! DEFINITION. State of the flash channels, the crates and the recording ring, and DDR4 (chapters 10 to 12). -/

namespace Sys2Proof.Machine

/-- FLASH.BUILD_STATUS.STATE (R268). -/
inductive BuildState where
  | none | running | built | failed
deriving DecidableEq, Repr

/-- The code of R268. -/
def BuildState.code : BuildState → Nat
  | .none => 0 | .running => 1 | .built => 2 | .failed => 3

/-- FLCH.STATUS.STATE (R269). -/
inductive ChanState where
  | absent | training | active | gated | retired
deriving DecidableEq, Repr

/-- The code of R269. -/
def ChanState.code : ChanState → Nat
  | .absent => 0 | .training => 1 | .active => 2 | .gated => 3 | .retired => 4

/-- A channel (R256 to R258, R269). -/
structure Chan where
  state : ChanState := .absent
  lpddr4 : Bool := false
  rate : Nat := 0
  limited : Bool := false
deriving DecidableEq, Repr

/-- FLCH.TARGET.STATE (R269). -/
inductive TargetState where
  | absent | inService | paused | recovering | nonResponsive | retired
deriving DecidableEq, Repr

/-- The code of R269. -/
def TargetState.code : TargetState → Nat
  | .absent => 0 | .inService => 1 | .paused => 2 | .recovering => 3 | .nonResponsive => 4 | .retired => 5

/-- An operation a LUN runs (R264, R265). -/
inductive LunKind where
  | read | program | erase
deriving DecidableEq, Repr

/-- A LUN's operation in flight (R264, R265). -/
structure LunOp where
  lun : Nat
  kind : LunKind
  planes : Nat := 1
  block : Nat
  page : Nat := 0
  /-- Class of the work that issued it (R67, R280). -/
  cls : Fin 4 := 3
  /-- What the codewords of a read show (R280). -/
  cws : List Codeword := []
  /-- Secure time at which it has exceeded its timeout (R264). -/
  deadline : Nat := 0
  /-- A suspend has been issued to an erase that is not ready yet; it is suspended; how often it has been (R265). -/
  asked : Bool := false
  suspended : Bool := false
  suspends : Nat := 0
  /-- Counts that a suspended erase has left, and the reads issued while it is suspended. -/
  left : Nat := 0
  served : Nat := 0
deriving DecidableEq, Repr

/-- Work on a target that lets its operations in flight complete, with its outcome: a retraining, a read-level calibration (R263, R294). -/
inductive TargetWork where
  | training (ok : Bool)
  | levels (out : CalOut)
deriving DecidableEq, Repr

/-- A flash target (R254, R266, R269). -/
structure Target where
  state : TargetState := .absent
  timeouts : Nat := 0
  resets : Nat := 0
  /-- Operations in flight, one for a LUN. -/
  ops : List LunOp := []
  /-- Operations that wait for their LUN or for the target, oldest first (R263, R265). -/
  queue : List LunOp := []
  /-- Feature values set, by 256 × LUN + feature address; LUN 8 stands for the whole target (R264). -/
  features : SMap Nat := []
  /-- Values that the vendor opcodes set, by (8 × opcode + LUN) × 256 + feature index (R260). -/
  vendor : SMap Nat := []
  /-- Volume address appointed (R255). -/
  volume : Option Nat := none
  /-- ODT value configured (R255). -/
  odt : Option Nat := none
  /-- ID last read and its match with the page (R261). -/
  idOk : Bool := false
  /-- ONFI parameter page last read agreed (R261). -/
  paramOk : Bool := false
  zqLong : Bool := false
  zqShort : Bool := false
  dqTrained : Bool := false
  txTrained : Bool := false
  rxTrained : Bool := false
  /-- Secure time of the last training; it is due because its group's clock was gated for more than 60 s; the work that waits for the operations in flight (R263, R294). -/
  trainedAt : Nat := 0
  trainDue : Bool := false
  work : Option TargetWork := none
  /-- Retry level set, by LUN (R280). -/
  retry : SMap Nat := []
  /-- Calibrated read-level offsets of each LUN, by LUN (R294). -/
  offsets : SMap (List (BitVec 8)) := []
  /-- Codewords that reached step 4 since the last calibration (R294). -/
  softSince : Nat := 0
  /-- Secure time of the last calibration (R294). -/
  calibratedAt : Nat := 0
  /-- Secure time at which it became NON_RESPONSIVE (R266). -/
  lostAt : Option Nat := none
  /-- Value that the last GET FEATURES returned, and the column the last CHANGE READ COLUMN set (R264). -/
  lastValue : Nat := 0
  column : Nat := 0
deriving DecidableEq, Repr

/-- A lane block: a target and a lane-block index (R270, R271). -/
structure Lane where
  target : Nat
  block : Nat
deriving DecidableEq, Repr

/-- What is known of a lane block (R274, R296, R298). -/
structure LaneInfo where
  erases : Nat := 0
  /-- In use by a crate. -/
  used : Bool := false
  /-- Worn out, or out of substitutes. -/
  retired : Bool := false
  /-- Lane-page reads since the last erase, for read disturb (R293). -/
  reads : Nat := 0
deriving DecidableEq, Repr

/-- Crate kinds (R273, R274). -/
inductive CrateKind where
  | evidence | ledger | relocation | system
deriving DecidableEq, Repr

/-- The code of R273. -/
def CrateKind.code : CrateKind → Nat
  | .evidence => 1 | .ledger => 2 | .relocation => 3 | .system => 4

/-- Crate states (R290). -/
inductive CrateState where
  | prepared | opened | closed | degraded | exposed
deriving DecidableEq, Repr

/-- The code of R290's order. -/
def CrateState.code : CrateState → Nat
  | .prepared => 0 | .opened => 1 | .closed => 2 | .degraded => 3 | .exposed => 4

/-- An object of a crate (R276). -/
structure Obj where
  type : Nat
  relocated : Bool := false
  tab : Nat := 0
  key : Nat := 0
  slot : Nat := 0
  length : Nat := 0
  /-- Its rows are programmed. -/
  programmed : Bool := false
  /-- A relocated copy has superseded it. -/
  dead : Bool := false
  /-- Of an earlier owner generation (R288). -/
  old : Bool := false
  /-- Its body, once no other structure of the device holds it: superseded, or of an earlier owner generation (R283, R288). -/
  kept : Bytes := []
  /-- Write-staging units still held for it (R78). -/
  staging : Nat := 0
deriving DecidableEq, Repr

/-- A crate (R270, R274, R290). -/
structure Crate where
  id : Nat
  kind : CrateKind
  state : CrateState
  stream : Nat := 0
  lanes : List Lane := []
  /-- Lanes lost to this crate (R279). -/
  lostLanes : List Nat := []
  firstTick : Nat := 0
  lastTick : Nat := 0
  objects : List Obj := []
  /-- Lane-page bytes L (R272) and rows of its lane blocks. -/
  lanePage : Nat := 0
  rows : Nat := 0
  /-- Next free slot of the data space (R277). -/
  nextSlot : Nat := 0
  /-- Slots reserved by crate-slot tokens (R277). -/
  reservedSlots : Nat := 0
  /-- Rows programmed so far (R278). -/
  rowsProgrammed : Nat := 0
  /-- LIFECYCLE of the rows from each first row on, as written into their metadata (R273). -/
  lives : List (Nat × Nat) := []
  /-- Secure time of the close and of the last scrub (R293). -/
  closedAt : Nat := 0
  scrubbedAt : Nat := 0
  /-- It was open at a start-up and is to be refreshed (R291). -/
  noSummary : Bool := false
deriving DecidableEq, Repr

/-- A bad physical block (R290, R297, R298). -/
structure BadBlock where
  target : Nat
  lun : Nat
  plane : Nat
  block : Nat
  grown : Bool
deriving DecidableEq, Repr

/-- A substitute: the physical block that takes the place of a bad one in the same LUN and plane (R271). -/
structure SubBlock where
  target : Nat
  lun : Nat
  plane : Nat
  block : Nat
  by_ : Nat
deriving DecidableEq, Repr

/-- A timeout of a LUN's operation that waits to be acted on, with how the steps of R266 go. -/
structure FlashOverdue where
  target : Nat
  lun : Nat
  lunResetOk : Bool
  targetResetOk : Bool
  idOk : Bool
  trainOk : Bool
deriving DecidableEq, Repr

/-- Flash and the recording ring. -/
structure Flash where
  /-- FLASH.BUILD_ADDR (R268); bits [11:0] stay 0. -/
  buildAddr : BitVec 64 := 0
  extend : Bool := false
  buildState : BuildState := .none
  buildErr : Nat := 0
  failedTarget : Nat := 0
  /-- FLASH.RETRAIN.PERIOD_S (R268). -/
  retrainS : Nat := 60
  /-- The stored build description (R259); empty until an array is built. -/
  desc : Bytes := []
  chans : SMap Chan := []
  targets : SMap Target := []
  /-- Lane blocks by target × 2^19 + index. -/
  lanes : SMap LaneInfo := []
  bad : List BadBlock := []
  /-- The substitute map (R271). -/
  subs : List SubBlock := []
  /-- The SYSTEM crates, which hold the system area; they stand outside the ring's identifiers (R271, log 114). -/
  system : List Crate := []
  /-- The volume selected on each CE pin, by channel × 4 + pin (R255). -/
  selected : SMap Nat := []
  /-- Timeouts that have expired during a supply warning (R267). -/
  overdue : List FlashOverdue := []
  /-- Live crates, in opening order, the prepared crates last. -/
  crates : List Crate := []
  /-- Identifier of the next crate opened (R275). -/
  nextCrate : Nat := 1
  /-- FLASH.RING_CTRL (R302). -/
  rebuildW3 : Nat := 4
  compactPct : Nat := 50
  reservePct : Nat := 2
  /-- FLASH.SCRUB, REFRESH, CAL (R302). -/
  refreshBits : Nat := 60
  scrubDays : Nat := 7
  readLimitK : Nat := 100
  ageDays : Nat := 90
  wearSpread : Nat := 500
  retryMax : Nat := 8
  calPeriodH : Nat := 24
  /-- FLASH.RIDE and FLASH.RIDE_WARN (R302). -/
  ride : Nat := 0xFFFFFFFF
  rideWarn : Nat := 240
  /-- Bytes filled, with the secure time of each boundary, over the last 10 min (R302). -/
  fills : List (Nat × Nat) := []
  fillNow : Nat := 0
  /-- Secure time at which the first EVIDENCE crate began filling after READY (R302). -/
  fillStart : Option Nat := none
  /-- FLASH.DEFECTS, ECC, LOST (R302). -/
  grown : Nat := 0
  worn : Nat := 0
  soft : Nat := 0
  reconstructed : Nat := 0
  lost : Nat := 0
  /-- Crates scheduled for refresh (R293). -/
  refreshQueue : List Nat := []
  /-- Codewords that needed step 5, with the secure time, by target and physical block (R298). -/
  step5 : List (Nat × Nat × Nat) := []
deriving DecidableEq, Repr

/-- DDR.STATUS.STATE (R315). -/
inductive DdrState where
  | off | training | filling | ready | failed | rekeying
deriving DecidableEq, Repr

/-- The code of R315. -/
def DdrState.code : DdrState → Nat
  | .off => 0 | .training => 1 | .filling => 2 | .ready => 3 | .failed => 4 | .rekeying => 5

/-- DDR.CHANNEL.STATE (R315). -/
inductive DdrChanState where
  | absent | training | active | selfRefresh | failed
deriving DecidableEq, Repr

/-- The code of R315. -/
def DdrChanState.code : DdrChanState → Nat
  | .absent => 0 | .training => 1 | .active => 2 | .selfRefresh => 3 | .failed => 4

/-- A DDR4 channel (R303, R311, R315). -/
structure DdrChan where
  state : DdrChanState := .absent
  rate : Nat := 0
  dimms : Nat := 0
  ranks : Nat := 0
  x8 : Bool := false
  gib : Nat := 0
  /-- Spare pages left (R311). -/
  spares : Nat := 16384
  /-- Corrected errors of a page within 24 h: (page, secure time), R311. -/
  ce : List (Nat × Nat) := []
  /-- Pages that lost a line, with the secure time (R311). -/
  lostPages : List (Nat × Nat) := []
  /-- Retired pages. -/
  retiredPages : List Nat := []
  /-- Secure time of the last access (R314). -/
  usedAt : Nat := 0
deriving DecidableEq, Repr

/-- DDR4. -/
structure Ddr where
  state : DdrState := .off
  err : Nat := 0
  chans : SMap DdrChan := []
  scrubHours : Nat := 24
  idleMs : Nat := 100
  ceRetire : Nat := 8
  ce : Nat := 0
  ue : Nat := 0
  macFail : Nat := 0
  retired : Nat := 0
  /-- Index records that the mirror has lost with their lines (R312). -/
  mirrorLost : Nat := 0
  /-- The XTS pair and MAC key of this start-up (R305); empty while the controller has none. -/
  keys : Bytes := []
  /-- Patrol passes completed (R313). -/
  patrols : Nat := 0
  /-- Secure time at which the last one ended. -/
  patrolledAt : Nat := 0
  /-- Copies of the applet images, of the templates' fixed parts, and of the camera key entries by template × 65,536 + place in its list (R308, R309). -/
  images : SMap Bytes := []
  fixed : SMap Bytes := []
  keyEntries : SMap Bytes := []
deriving DecidableEq, Repr

end Sys2Proof.Machine
end

