-- ==== Sys2Proof/Machine/TypesBoards.lean ====
section
/-! DEFINITION. State of the cartridge slots, operator cards and sessions (chapter 13). -/

namespace Sys2Proof.Machine

/-- CART.SLOT.STATE (R353). -/
inductive SlotState where
  | empty | bringup | ready | busy | sleep | failed
deriving DecidableEq, Repr

/-- The code of R353. -/
def SlotState.code : SlotState → Nat
  | .empty => 0 | .bringup => 1 | .ready => 2 | .busy => 3 | .sleep => 4 | .failed => 5

/-- The STATE a cartridge is in on the link (R318). -/
inductive LinkState where
  | idle | ready | transfer | sending | receiving | programming | sleep
deriving DecidableEq, Repr

/-- The code of R318. -/
def LinkState.code : LinkState → Nat
  | .idle => 0 | .ready => 1 | .transfer => 2 | .sending => 3 | .receiving => 4 | .programming => 5 | .sleep => 6

/-- A cartridge's identity from READ_IDENT (R319). -/
structure CartIdent where
  maker : Nat
  serial : Nat
  gen : Nat
  modes : Nat
  capacityGib : Nat
  atomicLog2 : Nat
deriving DecidableEq, Repr

/-- A cartridge slot (R316 to R334, R353). -/
structure Slot where
  state : SlotState := .empty
  /-- Pins: CK running, CMD and D driven or pulled, PWREN, DSCHG, DET_N low (R316). -/
  ck : Bool := false
  drive : Bool := false
  pwren : Bool := false
  dschg : Bool := true
  seated : Bool := false
  /-- The cartridge's state as the link shows it, and the link's mode 0 to 4 (R322, R323). -/
  link : LinkState := .idle
  mode : Nat := 0
  ident : Option CartIdent := none
  /-- READY and GEN of the last IDENTIFY answer (R319). -/
  identified : Bool := false
  /-- SET_COUNT for the next transfer (R322). -/
  count : Option Nat := none
  /-- Last status word (R318). -/
  status : BitVec 32 := 0
  crcErrors : Nat := 0
  /-- Repeats of the current command, and failures in a row at this mode (R327). -/
  repeats : Nat := 0
  /-- One more bring-up has been tried after an exceeded limit (R327). -/
  retried : Bool := false
  /-- A check read has passed at this mode (R323). -/
  checked : Bool := false
  enrolled : Bool := false
  /-- The public key block of READ_KEY (R331). -/
  keyBlock : Bytes := []
  /-- Counter value last read or written, MAC of the last write, units last sent (R333, R334). -/
  rpaCounter : Nat := 0
  rpaMac : Bytes := []
  rpaSent : List Bytes := []
  /-- Nonce of the RESULT_READ in progress, and whether a write is under way, at which unit, on which cartridge (R333, R334). -/
  rpaNonce : Bytes := []
  rpaWriting : Bool := false
  rpaAddr : Nat := 0
  rpaMaker : Nat := 0
  rpaSerial : Nat := 0
  /-- The 4,096 bytes of the manifest as last read or written (R345); none while it has not been read. -/
  manifest : Option Bytes := none
  /-- The last command frame sent on CMD (R317), the lines of the last block sent or received, D0 first (R320), and the last block read. -/
  cmd : BitVec 48 := 0
  lines : LineBits := []
  block : Bytes := []
deriving DecidableEq, Repr

/-- CART.CARD.STATE (R353). -/
inductive CardState where
  | empty | activating | authenticating | authorised | refused | expired
deriving DecidableEq, Repr

/-- The code of R353. -/
def CardState.code : CardState → Nat
  | .empty => 0 | .activating => 1 | .authenticating => 2 | .authorised => 3 | .refused => 4 | .expired => 5

/-- An operator card interface (R335 to R339, R353). -/
structure Card where
  state : CardState := .empty
  present : Bool := false
  /-- OC_VSEL: 0 off, 1 class C, 2 class B, 3 class A (R335). -/
  vsel : Nat := 0
  /-- CLASS of R353: 0 none, 1 A, 2 B, 3 C. -/
  cls : Nat := 0
  t1 : Bool := false
  rights : Nat := 0
  refusal : Nat := 0
  lastSw : Nat := 0
  /-- PPS was done; false where the card runs at Fi 372 and Di 1 (R336). -/
  pps : Bool := false
  /-- Fi, Di and the clock in kHz, 0 while it stands; under T=1 the IFSD and whether the EDC is a CRC (R336). -/
  fi : Nat := 372
  di : Nat := 1
  clockKhz : Nat := 0
  ifsd : Nat := 0
  crc : Bool := false
  /-- The APDU last sent (R337). -/
  sent : Bytes := []
  /-- Step of R337 the exchange has reached: 0 before SELECT, 1 reading the certificate, 2 before INTERNAL AUTHENTICATE, 3 answered. -/
  step : Nat := 0
  /-- READ BINARY commands answered, and certificate bytes read so far (R337, R338). -/
  reads : Nat := 0
  cert : Bytes := []
  /-- Under T=0 a status 61 xx waits for GET RESPONSE; the response bytes so far (R337). -/
  getPending : Bool := false
  buf : Bytes := []
  challenge : Bytes := []
  /-- Secure time of the authentication (R339). -/
  authAt : Nat := 0
deriving DecidableEq, Repr

/-- CART.PROGRESS.STATE (R353). -/
inductive SessState where
  | none | opened | waiting | closed | abandoned
deriving DecidableEq, Repr

/-- The code of R353. -/
def SessState.code : SessState → Nat
  | .none => 0 | .opened => 1 | .waiting => 2 | .closed => 3 | .abandoned => 4

/-- A range of an EXPORT request (R340). -/
structure ExpRange where
  tab : Nat
  first : Nat
  count : Nat
deriving DecidableEq, Repr

/-- An export session that has not ended (R342 to R350). Its stream is not kept: it is regenerated from the ranges, CONTENT and durable records (R344). -/
structure Session where
  id : Nat
  /-- Opened, or waiting for its cartridge or for the next one. -/
  state : SessState
  headless : Bool := false
  slot : Nat := 0
  part : Nat := 1
  /-- MAKER and SERIAL of the cartridge that holds the current part (R347). -/
  maker : Nat := 0
  serial : Nat := 0
  /-- The last part is closed with CONTINUED; the session waits for a blank enrolled cartridge (R348). -/
  needNext : Bool := false
  hold : Nat := 0
  ranges : List ExpRange := []
  content : Nat := 0
  operatorId : Bytes := []
  certHash : Bytes := []
  started : Nat := 0
  /-- Stream byte at which the current part begins, and units confirmed in it (R343, R346). -/
  offset : Nat := 0
  confirmed : Nat := 0
  /-- Hashes of the units confirmed since the last checkpoint, and the count at it (R346). -/
  recent : List Bytes := []
  checkpoint : Nat := 0
  /-- Secure time of the removal of its cartridge (R350). -/
  removedAt : Option Nat := none
deriving DecidableEq, Repr

/-- What the device writes to a cartridge. -/
inductive CartWrite where
  /-- A 16 KiB unit of the general area (R343). -/
  | unit (slot u : Nat) (bytes : Bytes)
  /-- RPA request frames (R333). -/
  | rpa (slot : Nat) (frames : List Bytes)
  /-- The PAIR block (R331). -/
  | pair (slot : Nat) (block : Bytes)
deriving DecidableEq, Repr

/-- Cartridges, cards and sessions. -/
structure Boards where
  /-- CART.CTRL (R353). -/
  headlessEn : Bool := true
  cardMin : Nat := 60
  hours : Nat := 24
  /-- CART.EVENTS (R353). -/
  events : BitVec 32 := 0
  slots : SMap Slot := []
  cards : SMap Card := []
  /-- Sessions that have not ended, in the order they opened. -/
  sessions : List Session := []
  /-- Highest session identifier issued in the owner generation (R341). -/
  lastSession : Nat := 0
  /-- CART.SESSION and CART.PROGRESS of the last session ended. -/
  shownId : Nat := 0
  shownState : SessState := .none
  shownPart : Nat := 0
  shownSlot : Nat := 0
  shownPercent : Nat := 0
  /-- Sessions abandoned, and (session, part) pairs continued onto another cartridge (R341). -/
  abandoned : List Nat := []
  continued : List (Nat × Nat) := []
  /-- HX_ST and the earlier code that a code 7 returns to (R351). -/
  hx : Nat := 0
  hxBefore : Nat := 0
  /-- Secure time from which code 7 is shown. -/
  hxAt : Nat := 0
  /-- Everything written to cartridges, oldest first (the model's output, as the host writes are). -/
  out : List CartWrite := []
deriving DecidableEq, Repr

end Sys2Proof.Machine
end

