-- ==== Sys2Proof/Machine/TypesGuard.lean ====
section
/-! DEFINITION. State of the tamper monitors, the life-cycle, the OTP and debug passes (chapters 14 and 15). -/

namespace Sys2Proof.Machine

/-- A tamper source (R354, R374). -/
structure Src where
  level : Nat := 0
  backupErase : Bool := false
  active : Bool := false
  masked : Bool := false
  testFail : Bool := false
  debounce : Nat := 0
  count : Nat := 0
deriving DecidableEq, Repr

/-- The vendor default level of a source (R354). -/
def Src.defaultLevel (n : Nat) : Nat :=
  if n ≤ 9 then 2 else if n ≤ 14 then 4
  else match n with
    | 15 => 2 | 16 => 4 | 17 => 3 | 18 => 3 | 19 => 2 | 20 => 2 | 21 => 3 | 22 => 2 | 23 => 2
    | 24 => 4 | 25 => 3 | 26 => 2 | 27 => 2 | 28 => 2 | 29 => 4 | 30 => 4 | _ => 0

/-- A source at its reset values (R365, R374). -/
def Src.reset (n : Nat) : Src := { level := Src.defaultLevel n }

/-- An event-ring entry (R362). -/
structure RingEvent where
  main : Bool
  erased : Bool
  action : Nat
  source : Nat
  rtc : Nat
deriving DecidableEq, Repr

/-- A tamper log entry (R368). -/
structure TamperEntry where
  seq : Nat
  time : Nat
  fraction : Nat := 0
  source : Nat
  level : Nat
  applied : Nat := 0
  flags : Nat := 0
  mode : Nat
  detail : Nat := 0
  tick : Nat := 0
deriving DecidableEq, Repr

/-- The tamper monitors (R354 to R374). -/
structure Tamper where
  lock : Bool := false
  lastLevel : Nat := 0
  lastSource : Nat := 0
  logLost : Nat := 0
  notified : BitVec 32 := 0
  srcs : SMap Src := []
  /-- TAMPER.LOCKSTEP (R374). -/
  windowMs : Nat := 1000
  lockstepCount : Nat := 8
  /-- Secure times of recent lockstep mismatches (TS25). -/
  mismatches : List Nat := []
  /-- Secure times of recent falls below VWARN (TS21). -/
  falls : List Nat := []
  /-- The event ring in the backup domain, oldest first, and its overflow count (R362). -/
  ring : List RingEvent := []
  overflow : Nat := 0
  /-- The log in the flash system area and the queue on chip, oldest first (R368). -/
  log : List TamperEntry := []
  queue : List TamperEntry := []
  next : Nat := 1
  /-- The MODE events of the newest 65,536 mode changes with the tick each stood in, kept with the log in the flash system area (R143, log 107). -/
  modeLog : List (Nat × TickEvent) := []
  /-- TAMPER events that wait for the next record (R366). -/
  waiting : List TickEvent := []
deriving DecidableEq, Repr

/-- A life-cycle transition or a resumed torn step in progress (R381, R383). -/
structure Transition where
  kind : Nat
  target : Nat
  /-- 1 VERIFY, 2 INTENT, 3 WIPE, 4 DONE (R393). -/
  phase : Nat := 1
  request : Bytes := []
  /-- The ticket that waits for its receipt. -/
  ticket : Option Nat := none
  /-- The tick whose record carries the LIFECYCLE event; it must become durable (R381). -/
  waitTick : Option Nat := none
  /-- Where TICK of the receipt points (R136). -/
  eventTick : Nat := 0
  /-- A KILL response drives it. -/
  kill : Bool := false
deriving DecidableEq, Repr

/-- The OTP (R375, R376). -/
structure Otp where
  /-- 64 steps of an intent bit 2(k − 1) and a done bit 2(k − 1) + 1. -/
  counter : BitVec 128 := 0b1111
  /-- H(ROOT) of generations 1 to 16. -/
  roots : SMap Bytes := []
  deviceSecret : Bytes := []
  unitId : Bytes := []
  trim : Bytes := []
  /-- Source fuses; bit 31 is burnt at manufacture. -/
  fuses : BitVec 32 := 0x80000000
  killAllowed : Bool := false
deriving DecidableEq, Repr

/-- The LCDBG block (R387 to R393). -/
structure Guard where
  otp : Otp := {}
  tornResumed : Bool := false
  killBurnt : Bool := false
  transition : Option Transition := none
  /-- The system-area request slots (R381). -/
  request0 : Option Bytes := none
  request1 : Option Bytes := none
  lastRefusal : Nat := 0
  nonce : Bytes := []
  passRights : BitVec 32 := 0
  passActive : Bool := false
  passVendor : Bool := false
  /-- Secure time at which the pass in force runs out (R389). -/
  passEnds : Nat := 0
deriving DecidableEq, Repr

end Sys2Proof.Machine
end

