-- ==== Sys2Proof/Machine/TypesPower.lean ====
section
/-! DEFINITION. State of modes, power, clocks, crossings, the fault log, and the DEV and INTR blocks (chapters 16 to 18). -/

namespace Sys2Proof.Machine

/-- The six modes (R394), and `off`: no main power and no VBAT. -/
inductive Mode where
  | off | backup | rest | service | holdover | catchup | lockdown
deriving DecidableEq, Repr

/-- The mode code of R53; 0 for BACKUP (R368). -/
def Mode.code : Mode → Nat
  | .off => 0 | .backup => 0 | .rest => 1 | .service => 2 | .holdover => 3 | .catchup => 4 | .lockdown => 5

/-- Modes, supplies, clocks and crossings (R394 to R419). Fields marked BD stand in the backup domain. -/
structure Power where
  mode : Mode := .rest
  /-- CLKPWR.MODE.LAST_CAUSE. -/
  lastCause : Nat := 0
  /-- CLKPWR.HEARTBEAT.TIMEOUT_S. -/
  timeoutS : Nat := 10
  /-- Secure time at which the heartbeat timer was last restarted; none before the first SERVICE (R396). -/
  hbStart : Option Nat := none
  /-- The timer's value in counts when it stopped running (R396). -/
  hbStopped : Option Nat := none
  /-- Catch-up target of each tab (R397). -/
  targets : SMap Nat := []
  /-- CLKPWR.SUPPLY. -/
  pwrOk : Bool := true
  warn : Bool := false
  lastDipUs : Nat := 0
  /-- CLKPWR.DIPS. -/
  dips : Nat := 0
  /-- CLKPWR.CLOCKS. -/
  sysclkBackup : Bool := false
  xtalRc : Bool := false
  groupGated : BitVec 8 := 0
  /-- Secure time at which each flash group's clock stopped (R263). -/
  groupGatedAt : SMap Nat := []
  rowsGated : List Nat := []
  /-- SYSCLK has been lost and the affected domains wait for their PLLs (R413, R425). -/
  pllSwitching : Bool := false
  /-- CLKPWR.RESET_CAUSE. -/
  resetCause : Nat := 0
  /-- CLKPWR.XOVR, bit n for crossing n + 1. -/
  xovr : BitVec 96 := 0
  /-- Pending count and running total of each H crossing, by crossing number (R417, R426). -/
  hPending : SMap Nat := []
  hTotal : SMap Nat := []
  /-- CLKPWR.LOCKDOWN. -/
  lockCause : Nat := 0
  lockRefusal : Nat := 0
  /-- LOCKDOWN_COUNT in the backup domain (BD) and in the system area (R400). -/
  lockCountBd : Nat := 0
  lockCountSa : Nat := 0
  /-- A power loss has come since LOCKDOWN began (R403). -/
  lossInLockdown : Bool := false
  /-- A tamper response lies behind the loss of the keys: entries into LOCKDOWN report TAMPER until a release or a new generation (R400, log 69). -/
  tamperBehind : Bool := false
  /-- A device reset waits for the life-cycle transition in progress (R446). -/
  resetPending : Bool := false
  /-- VBAT is present; the backup domain draws from it; it started FRESH (R404, R406, R419). BD. -/
  vbat : Bool := false
  onVbat : Bool := false
  fresh : Bool := true
  /-- The last boundary's RESTART cause waits for start-up (R135): 0 power loss, 1 device reset. -/
  restartCause : Nat := 0
deriving DecidableEq, Repr

/-- A fault log entry (R430). -/
structure FaultEntry where
  seq : Nat
  time : Nat
  cls : Nat
  outcome : Nat
  unit : Nat
  count : Nat := 1
  interrupt : Nat := 0
  tick : Nat := 0
  detail : Nat := 0
deriving DecidableEq, Repr

/-- The fault log and the FAULT block (R430 to R435). -/
structure Fault_ where
  lastClass : Nat := 0
  lastUnit : Nat := 0
  total : Nat := 0
  maxInterrupt : Nat := 0
  next : Nat := 1
  lost : Nat := 0
  events : BitVec 32 := 0
  queue : List FaultEntry := []
  log : List FaultEntry := []
deriving DecidableEq, Repr

/-- One INTR.VECTOR register (R449). -/
structure IntrVec where
  port : Fin 2 := 0
  vector : BitVec 12 := 0
deriving DecidableEq, Repr

/-- The DEV and INTR blocks (R442 to R451) and the 64-bit access latches (R438). -/
structure Dev where
  ready : Bool := false
  stage : Nat := 0
  holdCause : Nat := 0
  holdDetail : Nat := 0
  appletsDropped : Bool := false
  templatesDropped : Bool := false
  /-- INTR.EVENTS. -/
  events : BitVec 32 := 0
  /-- INTR.ENABLE. -/
  enable : BitVec 4 := 0xF
  vectors : SMap IntrVec := []
  /-- Causes whose message is held (R451), and causes whose message is merged and waits (R450). -/
  heldMsg : BitVec 4 := 0
  merged : BitVec 4 := 0
  /-- Secure time of the last message of each cause, plus 1 (R450). -/
  lastMsg : SMap Nat := []
  /-- Low words held by 32-bit writes and high words latched by 32-bit reads, by register offset (R438). -/
  heldLow : SMap Word32 := []
  latchedHigh : SMap Word32 := []
  /-- The value the last register read returned. -/
  readData : Word64 := 0
deriving DecidableEq, Repr

end Sys2Proof.Machine
end

