-- ==== Sys2Proof/Machine/State.lean ====
section
/-! DEFINITION. The state of the block, the reasons a command can stop, and the state right after the release of the core reset. -/

namespace Sys2Proof.Machine

/-- The reasons a command ends in a fault. The spec gives every command of the table an effect, so no meaning raises one. -/
inductive Fault where
  /-- Raised by no command; kept so that the type is a closed list with a name (safe: it is never reached). -/
  | none
deriving DecidableEq, Repr

/-- The reasons a command is refused. -/
inductive Refusal where
  /-- A command of the table that has no meaning yet, by its mnemonic (safe: the model stops). -/
  | notModelled (mnemonic : String)
deriving DecidableEq, Repr

/-- The whole state. -/
structure State where
  /-- Ring pairs, ports, tickets, and what has been written to host memory (chapter 02). -/
  host : HostIf := {}
  /-- Classes, tokens, arbitration (chapter 03). -/
  classes : Classes := {}
  /-- Tabs, templates, applets, chain entries, holds (chapters 04, 06). -/
  tabs : TabStore := {}
  /-- Secure time, ticks, records (chapter 05). -/
  ledger : Ledger := {}
  /-- Stalls, rows, engines as units, work items (chapter 06). -/
  units : Units := {}
  /-- Cipher, hash and PKE engines (chapters 07, 08). -/
  crypto : Crypto := {}
  /-- The key vault (chapter 09). -/
  vault : Vault := {}
  /-- Flash channels, crates, the recording ring (chapters 10, 11). -/
  flash : Flash := {}
  /-- DDR4 (chapter 12). -/
  ddr : Ddr := {}
  /-- Cartridges, cards, sessions (chapter 13). -/
  boards : Boards := {}
  /-- Tamper monitors (chapter 14). -/
  tamper : Tamper := {}
  /-- OTP, life-cycle, debug passes (chapter 15). -/
  guard : Guard := {}
  /-- Modes, supplies, clocks, crossings (chapter 16). -/
  power : Power := {}
  /-- Fault log (chapter 17). -/
  fault : Fault_ := {}
  /-- DEV and INTR blocks (chapter 18). -/
  dev : Dev := {}
  /-- The model's own: how many bytes of Config.randomByte have been drawn (log 3). -/
  drawn : Nat := 0
  /-- Commands that wait, first in, first out. -/
  pending : List Instr := []
deriving DecidableEq, Repr

/-- The block at the release of the core reset, as shipped: life-cycle SEALED, no array built, no VBAT applied (R377, R440, R441, R466).
Every field stands at the default of its type's declaration; the factory values come from Config (log 4). -/
def State.reset : State :=
  { guard := { otp := { deviceSecret := leBytes 32 Config.deviceSecretWord.toNat
                        unitId := leBytes 16 Config.unitIdWord.toNat
                        trim := leBytes 256 Config.trimWord.toNat } }
    vault := { idCerts := [Config.identityCertEcdsa, Config.identityCertMldsa] } }

end Sys2Proof.Machine
end

