-- ==== Sys2Proof/Machine/Ops.lean ====
section
/-! DEFINITION. Operations every family shares: time, random draws, sparse stores, register events and their messages, tick events, the fault log, modes. -/

namespace Sys2Proof.Machine

/-! Time and randomness. -/

/-- Secure time now (R127). -/
def State.now (s : State) : Nat := s.ledger.rtc.toNat

/-- One count of secure time passes while no command is waiting (log 1). -/
def State.tickClock (s : State) : State := if s.power.mode == .off && !s.power.pwrOk then s else { s with ledger := { s.ledger with rtc := s.ledger.rtc + 1 } }

/-- Secure time is at least `t`. -/
def State.reach (s : State) (t : Nat) : State := { s with ledger := { s.ledger with rtc := BitVec.ofNat 48 (max s.now t) } }

/-- Counts of secure time in one second. -/
def hz : Nat := 32768

/-- Milliseconds as counts, rounded down (R153). -/
def msCounts (ms : Nat) : Nat := ms * 32768 / 1000

/-- `n` bytes of hardware entropy (log 3): the values are free, the counter advances. -/
def State.drawBytes (s : State) (n : Nat) : Bytes := (List.range n).map (fun i => Config.randomByte (s.drawn + i))

/-- The state after `n` bytes have been drawn. -/
def State.drewBytes (s : State) (n : Nat) : State := { s with drawn := s.drawn + n }

/-! Stores. -/

/-- A tab never opened. -/
def Tab.closed (_ : Nat) : Tab := {}

def State.ring (s : State) (n : Nat) : Ring := s.host.rings.get Ring.reset n
def State.setRing (s : State) (n : Nat) (r : Ring) : State := { s with host := { s.host with rings := s.host.rings.set Ring.reset n r } }
def State.tab (s : State) (t : Nat) : Tab := s.tabs.ctx.get Tab.closed t
def State.setTab (s : State) (t : Nat) (c : Tab) : State := { s with tabs := { s.tabs with ctx := s.tabs.ctx.set Tab.closed t c } }

def State.port (s : State) (p : Nat) : Port := if p = 0 then s.host.port0 else s.host.port1
def State.setPort (s : State) (p : Nat) (v : Port) : State :=
  if p = 0 then { s with host := { s.host with port0 := v } } else { s with host := { s.host with port1 := v } }

def State.tk? (s : State) (id : Nat) : Option Tk := s.host.tickets.find? (fun t => t.id == id)

/-- The list with the ticket of the same identifier replaced. -/
def putTk (l : List Tk) (t : Tk) : List Tk := l.map (fun u => if u.id = t.id then t else u)
def State.setTk (s : State) (t : Tk) : State := { s with host := { s.host with tickets := putTk s.host.tickets t } }
def State.dropTk (s : State) (id : Nat) : State := { s with host := { s.host with tickets := s.host.tickets.filter (fun t => t.id != id) } }

def State.unitSt (s : State) (a : Nat) : UnitSt := s.units.st.get UnitSt.reset a
def State.setUnit (s : State) (a : Nat) (u : UnitSt) : State := { s with units := { s.units with st := s.units.st.set UnitSt.reset a u } }

def noSpare (_ : Nat) : Nat := 0xF
def State.spareFor (s : State) (row : Nat) : Nat := s.units.spareFor.get noSpare row
def State.setSpareFor (s : State) (row v : Nat) : State := { s with units := { s.units with spareFor := s.units.spareFor.set noSpare row v } }

def Src.at_ (n : Nat) : Src := Src.reset n
def State.src (s : State) (n : Nat) : Src := s.tamper.srcs.get Src.at_ n
def State.setSrc (s : State) (n : Nat) (v : Src) : State := { s with tamper := { s.tamper with srcs := s.tamper.srcs.set Src.at_ n v } }

def noChan (_ : Nat) : Chan := {}
def State.chan (s : State) (c : Nat) : Chan := s.flash.chans.get noChan c
def State.setChan (s : State) (c : Nat) (v : Chan) : State := { s with flash := { s.flash with chans := s.flash.chans.set noChan c v } }
def noTarget (_ : Nat) : Target := {}
def State.target (s : State) (t : Nat) : Target := s.flash.targets.get noTarget t
def State.setTarget (s : State) (t : Nat) (v : Target) : State := { s with flash := { s.flash with targets := s.flash.targets.set noTarget t v } }
def noDdrChan (_ : Nat) : DdrChan := {}
def State.ddrChan (s : State) (c : Nat) : DdrChan := s.ddr.chans.get noDdrChan c
def State.setDdrChan (s : State) (c : Nat) (v : DdrChan) : State := { s with ddr := { s.ddr with chans := s.ddr.chans.set noDdrChan c v } }
def noSlot (_ : Nat) : Slot := {}
def State.slot (s : State) (n : Nat) : Slot := s.boards.slots.get noSlot n
def State.setSlot (s : State) (n : Nat) (v : Slot) : State := { s with boards := { s.boards with slots := s.boards.slots.set noSlot n v } }
def noCard (_ : Nat) : Card := {}
def State.card (s : State) (n : Nat) : Card := s.boards.cards.get noCard n
def State.setCard (s : State) (n : Nat) (v : Card) : State := { s with boards := { s.boards with cards := s.boards.cards.set noCard n v } }

def noRow (_ : Nat) : RowEng := {}
def State.rowEng (s : State) (r : Nat) : RowEng := s.crypto.rows.get noRow r
def State.setRowEng (s : State) (r : Nat) (v : RowEng) : State := { s with crypto := { s.crypto with rows := s.crypto.rows.set noRow r v } }
def noPke (_ : Nat) : PkeEng := {}
def State.pke (s : State) (e : Nat) : PkeEng := s.crypto.pke.engines.get noPke e
def State.setPke (s : State) (e : Nat) (v : PkeEng) : State :=
  { s with crypto := { s.crypto with pke := { s.crypto.pke with engines := s.crypto.pke.engines.set noPke e v } } }

def zeroOf (_ : Nat) : Nat := 0
def noIntrVec (_ : Nat) : IntrVec := {}
def noMsix (_ : Nat) : MsixEntry := {}
def days30 (_ : Nat) : Nat := 30
/-- The retention period of a group (R104). -/
def State.days (s : State) (g : Nat) : Nat := s.tabs.days.get days30 g

/-! Life-cycle (R376, R377). -/

/-- The life-cycle count: the highest step whose done bit is set. -/
def Otp.count (o : Otp) : Nat := (List.range 64).foldl (fun a k => if o.counter.getLsbD (2 * k + 1) then k + 1 else a) 0
def State.lifeCount (s : State) : Nat := s.guard.otp.count
def State.owned (s : State) : Bool := decide (3 ≤ s.lifeCount) && decide (s.lifeCount ≤ 18)
/-- The highest step with intent but no done, if any: a torn transition's target. -/
def Otp.torn (o : Otp) : Option Nat := (((List.range 64).filter (fun k => o.counter.getLsbD (2 * k) && !o.counter.getLsbD (2 * k + 1))).getLast?).map (· + 1)
def State.unitId (s : State) : Bytes := s.guard.otp.unitId

/-! Output and messages. -/

def State.emit (s : State) (w : HostWrite) : State := { s with host := { s.host with out := s.host.out ++ [w] } }

/-- Can the port send a message or master a write (R25, R60)? -/
def State.portUp (s : State) (p : Nat) : Bool := (s.port p).link.l0 && (s.port p).bme && !(s.port p).d3hot

def State.vecMasked (s : State) (p v : Nat) : Bool := ((s.port p).msix.get noMsix v).mask

/-- The port and vector of a cause in force (R449); the port is fixed at 0 in x16 operation. -/
def State.causeVec (s : State) (c : Nat) : Nat × Nat :=
  let v := s.dev.vectors.get noIntrVec c
  (if s.host.twoPorts then v.port.val else 0, v.vector.toNat)

def State.canSignal (s : State) (p v : Nat) : Bool := s.portUp p && (s.port p).msixEn && !s.vecMasked p v

/-- Is the cause set: its source register is not 0 (R449)? -/
def State.causeSet (s : State) (c : Nat) : Bool :=
  match c with
  | 0 => s.tamper.notified != 0
  | 1 => s.fault.events != 0
  | 2 => s.boards.events != 0
  | _ => s.dev.events != 0

/-- Set or clear bit `i`. -/
def setBit {w : Nat} (v : BitVec w) (i : Nat) (b : Bool) : BitVec w :=
  if b then v ||| BitVec.ofNat w (2 ^ i) else v &&& ~~~(BitVec.ofNat w (2 ^ i))

/-- Send the message of cause `c`, hold it, or merge it (R450, R451). Two messages of one cause within one count of secure time fall within 1 µs of
one another for the model: the second is merged (log 12). -/
def State.sendIntr (s : State) (c : Nat) : State :=
  if !s.dev.ready then s
  else
    let pv := s.causeVec c
    if !s.canSignal pv.1 pv.2 then { s with dev := { s.dev with heldMsg := setBit s.dev.heldMsg c true } }
    else if s.dev.lastMsg.get zeroOf c = s.now + 1 then { s with dev := { s.dev with merged := setBit s.dev.merged c true } }
    else
      let s1 := { s with dev := { s.dev with heldMsg := setBit s.dev.heldMsg c false, lastMsg := s.dev.lastMsg.set zeroOf c (s.now + 1) } }
      s1.emit (.msix pv.1 pv.2 (.intr c))

/-- A bit of cause `c`'s source register changed from 0 to 1. -/
def State.signal (s : State) (c : Nat) : State := if s.dev.enable.getLsbD c then s.sendIntr c else s

/-- Set a bit of INTR.EVENTS. -/
def State.devEvent (s : State) (b : Nat) : State :=
  if s.dev.events.getLsbD b then s else { s with dev := { s.dev with events := setBit s.dev.events b true } }.signal 3

/-- Set a bit of CART.EVENTS. -/
def State.cartEvent (s : State) (b : Nat) : State :=
  if s.boards.events.getLsbD b then s else { s with boards := { s.boards with events := setBit s.boards.events b true } }.signal 2

/-- Set a bit of FAULT.EVENTS. -/
def State.faultEvent (s : State) (b : Nat) : State :=
  if s.fault.events.getLsbD b then s else { s with fault := { s.fault with events := setBit s.fault.events b true } }.signal 1

/-- Set a bit of TAMPER.NOTIFIED. -/
def State.notify (s : State) (n : Nat) : State :=
  if s.tamper.notified.getLsbD n then s else { s with tamper := { s.tamper with notified := setBit s.tamper.notified n true } }.signal 0

/-- A W1C write has cleared source bits: a held message of a cleared cause is dropped (R451). -/
def State.settleHeld (s : State) (c : Nat) : State :=
  if s.causeSet c then s else { s with dev := { s.dev with heldMsg := setBit s.dev.heldMsg c false } }

/-- Release the held INTR messages whose hold has ended and whose cause is still set (R451). A held message is a pending bit of its vector, so one message
goes out for all that are held on it (R60, log 99); `sent` names the vectors whose message a ring has just sent. -/
def State.releaseIntr (s0 : State) (sent : Nat × Nat → Bool) : State :=
  [0, 1, 2, 3].foldl (fun s c =>
    let pv := s.causeVec c
    if s.dev.heldMsg.getLsbD c && s.canSignal pv.1 pv.2 then
      let s1 := { s with dev := { s.dev with heldMsg := setBit s.dev.heldMsg c false } }
      if !s.causeSet c then s1
      else if sent pv || (List.range c).any (fun d => s0.dev.heldMsg.getLsbD d && s0.causeSet d && s0.causeVec d == pv) then
        { s1 with dev := { s1.dev with lastMsg := s1.dev.lastMsg.set zeroOf c (s.now + 1) } }
      else s1.sendIntr c
    else s) s0

/-! Tick events (R135, R136). -/

/-- An event as it stands in a record. -/
def TickEvent.bytes (e : TickEvent) : Bytes := leBytes 2 e.type ++ leBytes 2 e.body.length ++ zeros 4 ++ pad8 e.body

def eventsLength (es : List TickEvent) : Nat := (es.map (fun e => e.bytes.length)).sum

/-- Event types that a ticket makes: TIME_SET, HOLD, RELEASE_HOLD, TEMPLATE, APPLET, LIFECYCLE, DEBUG_PASS. -/
def TickEvent.ofTicket (e : TickEvent) : Bool := [3, 6, 7, 8, 9, 0xE, 0xF].contains e.type

/-- A tick is open: ticks close, or LOCKDOWN keeps the one that was current at its entry open (R140, R141). -/
def State.tickOpen (s : State) : Bool := s.ledger.running || (s.power.mode == .lockdown && s.owned)

/-- Does a ticket event of body length `n` still fit (R136)? 16 KiB of the 262,144 bytes are kept for device events. -/
def State.eventFits (s : State) (n : Nat) : Bool :=
  !s.tickOpen || decide (eventsLength (s.ledger.events.filter TickEvent.ofTicket) + 8 + roundUp n 8 ≤ 262144 - 16384)

/-- Add an event to the open tick, where there is one (R136, R140, R141). -/
def State.addEvent (s : State) (type : Nat) (body : Bytes) : State :=
  if s.tickOpen then { s with ledger := { s.ledger with events := s.ledger.events ++ [{ type := type, body := body }] } } else s

/-- Low 32 bits of the tick current now; 0 when none runs. -/
def State.tickLow (s : State) : Nat := if s.ledger.running then s.ledger.current % 2 ^ 32 else 0

/-- The low half of the open tick as a receipt and a watermark entry give it: LOCKDOWN leaves the tick open although none runs (R55, R61, R141). -/
def State.openTickLow (s : State) : Nat := if s.tickOpen then s.ledger.current % 2 ^ 32 else 0

/-! The fault log (R430 to R432). -/

/-- One detection for the fault log. -/
structure Detection where
  cls : Nat
  /-- OUTCOME bits 3 to 0. -/
  outcome : Nat := 0
  unit : Nat := 0
  interrupt : Nat := 0
  detail : Nat := 0
  escalated : Bool := false
  double : Bool := false
deriving DecidableEq, Repr

/-- OUTCOME with its flags; BOUND_EXCEEDED is set above 25 µs, unless a supply warning extends the bound (R420, log 13). -/
def Detection.out (d : Detection) (warn : Bool) : Nat :=
  d.outcome + 16 * b2n d.escalated + 32 * b2n (decide (250 < d.interrupt) && !warn) + 64 * b2n d.double

/-- Two OUTCOMEs merged: the highest code, every flag (R430). -/
def mergeOutcome (a b : Nat) : Nat := max (a % 16) (b % 16) + 16 * (a / 16 ||| b / 16)

/-- Does the detection merge into the entry: same class, unit and tick, or the same whole second while no tick runs? -/
def State.mergesInto (s : State) (d : Detection) (e : FaultEntry) : Bool :=
  e.cls == d.cls && e.unit == d.unit &&
    (if s.ledger.running then e.tick == s.tickLow && decide (s.ledger.began ≤ e.time) else e.tick == 0 && e.time / hz == s.now / hz)

def FaultEntry.merge (e : FaultEntry) (out interrupt : Nat) : FaultEntry :=
  { e with count := sat 16 (e.count + 1), outcome := mergeOutcome e.outcome out, interrupt := max e.interrupt (sat 16 interrupt) }

/-- Update the newest matching entry of a list; none if none matches. -/
def mergeNewest (p : FaultEntry → Bool) (f : FaultEntry → FaultEntry) (l : List FaultEntry) : Option (List FaultEntry) :=
  let r := l.reverse
  match r.span (fun e => !p e) with
  | (_, []) => none
  | (a, e :: b) => some (a ++ f e :: b).reverse

/-- Bits of FAULT.EVENTS that an entry of a class sets (R429, R435). An engine's status or a refused request is a fault only where something was done about it (R428); the pool's want of
engines is signalled with the engine faults, and a lost target with the retirements (log 29). -/
def faultBits (cls outcome : Nat) : List Nat :=
  (if 0x01 ≤ cls ∧ cls ≤ 0x02 then [0] else []) ++
  (if [0x10, 0x12, 0x13, 0x14, 0x19].contains cls || ([0x11, 0x15].contains cls && decide (outcome % 16 ≠ 0)) then [1] else []) ++
  (if 0x21 ≤ cls ∧ cls ≤ 0x24 then [2] else []) ++
  (if 0x30 ≤ cls ∧ cls ≤ 0x38 then [3] else []) ++
  (if cls = 0x40 then [4] else []) ++
  (if cls = 0x41 then [5] else []) ++
  (if [0x03, 0x18, 0x33, 0x34].contains cls then [6] else []) ++
  (if bit outcome 5 then [7] else [])

/-- The classes of R431 that are detected faults of their unit: not the INFO classes, nor those that report what became of a fault already counted, such as a
retirement. Which classes UNITTREE.LOAD.FAULTS counts the spec does not list (DESIGN CHOICE, log 108). -/
def Detection.counts (d : Detection) : Bool :=
  [0x01, 0x02, 0x10, 0x12, 0x13, 0x14, 0x16, 0x17, 0x20, 0x21, 0x22, 0x30, 0x31, 0x36, 0x37, 0x38, 0x40, 0x41].contains d.cls ||
    ([0x11, 0x15].contains d.cls && decide (d.outcome ≠ 0))

/-- Count a fault of a unit (R169). -/
def State.countFault (s : State) (a : Nat) : State := s.setUnit a { s.unitSt a with faults := sat 16 ((s.unitSt a).faults + 1) }

/-- Log a detection: count it for its unit, merge or append an entry, set the events (R169, R430, R435). -/
def State.logFault (s0 : State) (d : Detection) : State :=
  let s := if d.counts then s0.countFault d.unit else s0
  let out := d.out s.power.warn
  let f := fun e : FaultEntry => e.merge out d.interrupt
  let p := s.mergesInto d
  let base := { s.fault with lastClass := d.cls, lastUnit := d.unit, total := sat 32 (s.fault.total + 1), maxInterrupt := max s.fault.maxInterrupt (sat 16 d.interrupt) }
  let fl : Fault_ :=
    match mergeNewest p f s.fault.queue with
    | some q => { base with queue := q }
    | none =>
      match mergeNewest p f s.fault.log with
      | some l => { base with log := l }
      | none =>
        if 1024 ≤ s.fault.queue.length then { base with lost := sat 16 (s.fault.lost + 1) }
        else { base with
          next := s.fault.next + 1
          queue := s.fault.queue ++ [{ seq := s.fault.next, time := s.now, cls := d.cls, outcome := out, unit := d.unit, interrupt := sat 16 d.interrupt, tick := s.tickLow, detail := d.detail % 2 ^ 32 }] }
  (faultBits d.cls out).foldl State.faultEvent { s with fault := fl }

/-- Set the detail of the newest entry of a class and unit, once its short set has ended (R431). -/
def State.patchFault (s : State) (cls unit detail outcome : Nat) : State :=
  let p := fun e : FaultEntry => e.cls == cls && e.unit == unit
  let f := fun e : FaultEntry => { e with detail := detail, outcome := mergeOutcome e.outcome outcome }
  match mergeNewest p f s.fault.queue with
  | some q => { s with fault := { s.fault with queue := q } }
  | none =>
    match mergeNewest p f s.fault.log with
    | some l => { s with fault := { s.fault with log := l } }
    | none => s

/-- The system area can take writes: an array is built and has been brought up (R430, R434). -/
def State.areaOk (s : State) : Bool := s.flash.desc != [] && s.flash.buildState != .none

/-- The newest 65,536 entries. -/
def newest {α : Type} (n : Nat) (l : List α) : List α := l.drop (l.length - n)

/-- Move the queued fault entries to the system area (R430). -/
def State.flushFaults (s : State) : State :=
  if s.areaOk then { s with fault := { s.fault with log := newest 65536 (s.fault.log ++ s.fault.queue), queue := [] } } else s

/-- Move the queued tamper entries to the system area (R368); event-ring entries whose log entries are durable leave the ring (R362). -/
def State.flushTamper (s : State) : State :=
  let t := s.tamper
  if s.areaOk then
    { s with tamper := { t with log := newest 65536 (t.log ++ t.queue), queue := [], ring := t.ring.filter (fun e => !t.queue.any (fun q => q.source == e.source && q.time == e.rtc)) } }
  else s

/-! Modes (R394 to R399). -/

/-- Do ticks run in the mode (R140)? -/
def Mode.ticking (m : Mode) : Bool := m == .rest || m == .service || m == .holdover || m == .catchup

/-- Does the heartbeat timer run in the mode (R396)? -/
def Mode.timed (m : Mode) : Bool := m == .service || m == .catchup

/-- Is the tab behind its catch-up target (R397)? -/
def State.backlog (s : State) : Nat := s.power.targets.countP (fun p => decide ((s.tab p.1).uploaded < p.2))

/-- The clock of a row runs (R414). -/
def State.wakeRow (s : State) (row : Nat) : State := { s with power := { s.power with rowsGated := s.power.rowsGated.filter (· != row) } }

/-- The clock of a flash group runs; its gated channels are ACTIVE again, and its targets are to be retrained if it stood for more than 60 s (R263, R414). -/
def State.wakeGroup (s : State) (g : Nat) : State :=
  if s.power.groupGated.getLsbD g then
    let long := decide (s.power.groupGatedAt.get zeroOf g + 60 * hz < s.now)
    let s1 := { s with
      power := { s.power with groupGated := setBit s.power.groupGated g false }
      flash := { s.flash with targets := if long then s.flash.targets.map (fun p => (p.1, if p.1 / 128 = g then { p.2 with trainDue := true } else p.2)) else s.flash.targets } }
    ((List.range 8).map (fun i => 8 * g + i)).foldl (fun s c => if (s.chan c).state = .gated then s.setChan c { s.chan c with state := .active } else s) s1
  else s

def State.wakeAll (s : State) : State :=
  (List.range 8).foldl State.wakeGroup { s with power := { s.power with rowsGated := [] } }

/-- A MODE event stands beside the tamper log in the system area, where it outlives a tick that is resealed (R143; log 107). -/
def State.keepMode (s : State) (body : Bytes) : State :=
  if s.ledger.running then { s with tamper := { s.tamper with modeLog := newest 65536 (s.tamper.modeLog ++ [(s.ledger.current, { type := 2, body := body })]) } } else s

/-- A transition among REST, SERVICE, HOLDOVER and CATCH-UP with its MODE event (R394, R399). Leaving HOLDOVER records the catch-up targets (R397);
the timer starts on entry into SERVICE, keeps running within the timed modes, and stops with its value outside them (R396). -/
def State.changeMode (s : State) (m : Mode) (cause : Nat) : State :=
  let old := s.power.mode
  let targets := if old == .holdover then (s.tabs.ctx.map (fun p => (p.1, p.2.sealed))).filter (fun p => decide (0 < p.2)) else s.power.targets
  let hb := if m == .service then some s.now else s.power.hbStart
  let stopped := if m.timed then none else if old.timed then s.power.hbStart.map (fun b => s.now - b) else s.power.hbStopped
  let s1 := { s with power := { s.power with mode := m, lastCause := cause, targets := targets, hbStart := hb, hbStopped := stopped } }
  let body := leBytes 1 old.code ++ leBytes 1 m.code ++ leBytes 2 cause ++ zeros 4 ++ leBytes 8 s.now
  let s2 := ((s1.keepMode body).addEvent 2 body).devEvent 1
  if m == .rest then s2 else s2.wakeAll

/-- The backlog has reached 0 in CATCH-UP: SERVICE, cause 8 (R394). -/
def State.checkBacklog (s : State) : State :=
  if s.power.mode == .catchup && s.backlog == 0 then s.changeMode .service 8 else s

end Sys2Proof.Machine
end

