-- ==== Sys2Proof/Machine/Operands.lean ====
section
/-! DEFINITION. The operand forms: tickets, extents, baskets, side blocks, unit addresses, and the objects a ticket's reads deliver (R41 to R47, R162). -/

namespace Sys2Proof.Machine

/-- A ticket from its 64 bytes (R41). -/
def Ticket.ofBytes (b : Bytes) : Ticket :=
  { opcode := fld b 0 1, flags := fld b 1 1, tag := fld b 2 2, tab := fld b 4 4, source := BitVec.ofNat 64 (fld b 8 8)
    data := slice b 16 32, oper := slice b 48 16 }

def Ticket.basket (t : Ticket) : Bool := bit t.flags 0
def Ticket.noIrq (t : Ticket) : Bool := bit t.flags 1

/-- Does the till sequence the opcode (R73)? -/
def Ticket.sequenced (t : Ticket) : Bool := [0x01, 0x02, 0x08, 0x09].contains t.opcode

/-- A field of OPERANDS by its byte offset in the ticket, 48 to 63. -/
def Ticket.op (t : Ticket) (off n : Nat) : Nat := fld t.oper (off - 48) n

/-- An extent of host memory. -/
structure Extent where
  addr : Nat
  len : Nat
deriving DecidableEq, Repr

/-- The four inline extents (R43), used or not. -/
def Ticket.inline (t : Ticket) : List Extent :=
  (List.range 4).map (fun i => let v := fld t.data (8 * i) 8; { addr := bits v 0 42 * 64, len := bits v 42 22 })

/-- Used extents come before unused ones; an unused extent is all zero (log 14). -/
def inlineOk : List Extent → Bool
  | [] => true
  | e :: r => if e.len = 0 then decide (e.addr = 0) && r.all (fun x => decide (x.len = 0) && decide (x.addr = 0)) else inlineOk r

def extentsLen (l : List Extent) : Nat := (l.map Extent.len).sum

def Ticket.basketAddr (t : Ticket) : Nat := fld t.data 0 8
def Ticket.basketCount (t : Ticket) : Nat := fld t.data 8 4
def Ticket.basketTotal (t : Ticket) : Nat := fld t.data 12 4

/-- The total length that DATA states. -/
def Ticket.dataLen (t : Ticket) : Nat := if t.basket then t.basketTotal else extentsLen t.inline

/-- Check 4 of R48 on the encoding of DATA: `need` where data is required, `limit` the opcode's limit (0 for none). -/
def Ticket.dataOk (t : Ticket) (need : Bool) (limit : Nat) : Bool :=
  if t.basket then
    decide (1 ≤ t.basketCount) && decide (t.basketCount ≤ 4096) && decide (t.basketAddr % 64 = 0) && allZero (slice t.data 16 16) &&
      (!need || decide (0 < t.basketTotal)) && (limit == 0 || decide (t.basketTotal ≤ limit))
  else inlineOk t.inline && (!need || decide (0 < extentsLen t.inline)) && (limit == 0 || decide (extentsLen t.inline ≤ limit))

/-- The entries of a basket (R44). -/
def basketEntries (n : Nat) (b : Bytes) : List (Extent × Bool) :=
  (List.range n).map (fun i =>
    ({ addr := fld b (16 * i) 8, len := fld b (16 * i + 8) 4 }, decide (fld b (16 * i + 12) 4 = 0)))

/-- The extents of a basket; none where an entry or the sum breaks R45. -/
def basketOf (t : Ticket) (b : Bytes) : Option (List Extent) :=
  let es := basketEntries t.basketCount b
  if decide (16 * t.basketCount ≤ b.length) && es.all (fun e => e.2 && decide (0 < e.1.len) && decide (e.1.len ≤ 4194304)) &&
      decide (extentsLen (es.map (·.1)) = t.basketTotal) then some (es.map (·.1)) else none

/-- The extents DATA describes, with the basket as read; none where the basket is malformed or could not be read. -/
def Ticket.extents (t : Ticket) (basket : HostRead) : Option (List Extent) :=
  if t.basket then
    match basket with
    | .ok b => basketOf t b
    | .err => none
  else some (t.inline.filter (fun e => decide (0 < e.len)))

/-- The object an admitted ticket carries, as its reads delivered it; none ends the ticket with BAD_TICKET (R45, R64). -/
def objectOf (t : Ticket) (o : ObjRead) : Option Bytes :=
  match t.extents o.basket, o.data with
  | some es, .ok b => if b.length = extentsLen es then some b else none
  | _, _ => none

/-- Bytes placed into the extents of a destination in order: the writes. -/
def scatter (port : Nat) : List Extent → Bytes → List HostWrite
  | _, [] => []
  | [], _ => []
  | e :: r, b => .data port e.addr (b.take e.len) :: scatter port r (b.drop e.len)

/-- The level of a unit address in the tree, none outside it (R162). -/
def unitLevel (a : Nat) : Option Nat :=
  let lv := a / 4096
  let m := a / 256 % 16
  let r := a / 16 % 16
  let x := a % 16
  let ok := match lv with
    | 0 => decide (a = 0)
    | 1 => decide (m < 8) && decide (a % 256 = 0)
    | 2 => decide (m < 8) && decide (r < 8) && decide (x = 0)
    | 3 => decide (m < 8) && decide (r < 8) && decide (x ≤ 8)
    | 4 => decide (m < 8) && decide (r < 8) && decide (x = 0)
    | 5 => decide (m < 8) && decide (r < 8) && decide (x = 0)
    | 6 => decide (m = 0) && decide (r = 0)
    | 7 => decide (m = 0) && decide (r = 0) && decide (x < 8)
    | 8 => decide (a % 4096 = 0)
    | 9 => decide (a % 4096 = 0)
    | 10 => decide (m = 0) && decide (r = 0) && decide (x < 4)
    | 11 => decide (m = 0) && decide (r = 0) && decide (x < 2)
    | 12 => decide (m = 0) && decide (a % 256 < 32)
    | _ => false
  if ok then some lv else none

/-- Does the unit have a work port: levels 0 to 2, and active stalls (R162)? -/
def workPort (a : Nat) : Bool :=
  match unitLevel a with
  | some l => decide (l ≤ 2) || (l == 3 && decide (a % 16 < 8))
  | none => false

/-- The row address 0x2mr0 of a row number 8 × market + row. -/
def rowAddr (n : Nat) : Nat := 0x2000 + n / 8 * 256 + n % 8 * 16
/-- The row number of any address that names a market and a row. -/
def rowNo (a : Nat) : Nat := a / 256 % 16 * 8 + a / 16 % 16
/-- The stall address of a row number and an index. -/
def stallAddr (row i : Nat) : Nat := 0x3000 + row / 8 * 256 + row % 8 * 16 + i
def cipherAddr (row : Nat) : Nat := 0x4000 + row / 8 * 256 + row % 8 * 16
def hashAddr (row : Nat) : Nat := 0x5000 + row / 8 * 256 + row % 8 * 16

/-- Does a test code apply to a unit (R198)? -/
def testApplies (unit code : Nat) : Bool :=
  match unitLevel unit with
  | none => false
  | some l =>
    match code with
    | 1 => l == 3
    | 2 => l == 3
    | 3 => decide (4 ≤ l) && decide (l ≤ 7)
    | 4 => l == 12
    | 5 => true
    | _ => false

/-- A side block's fields (R46), as far as the bytes reach. -/
structure SideBlock where
  start : Nat
  duration : Nat
  marks : List Nat
  sigAlg : Nat
  sig : Bytes
deriving DecidableEq, Repr

/-- The signature length of each algorithm (R46, R108). -/
def sigLen (alg : Nat) : Nat := match alg with | 1 => 64 | 2 => 96 | 3 => 64 | 4 => 2420 | _ => 0

/-- Strictly rising, each below `lim`. -/
def marksOk (lim : Nat) : List Nat → Bool
  | [] => true
  | [a] => decide (a < lim)
  | a :: b :: r => decide (a < b) && marksOk lim (b :: r)

/-- The side block of the stated length for a segment of `dataLen` bytes; none where R47 makes it malformed. -/
def sideOf (len dataLen : Nat) (signed : Bool) (b : Bytes) : Option SideBlock :=
  let n := fld b 12 2
  let alg := fld b 14 1
  let sl := fld b 16 2
  let marks := (List.range (if n ≤ 4096 then n else 0)).map (fun i => fld b (24 + 4 * i) 4)
  let sigOff := roundUp (24 + 4 * n) 8
  if b.length = len ∧ n ≤ 4096 ∧ alg ≤ 4 ∧ fld b 15 1 = 0 ∧ fld b 18 6 = 0 ∧ sl = sigLen alg ∧ len = sigOff + sl ∧
      marks.headD 0 = 0 ∧ marksOk dataLen marks ∧ (signed → alg ≠ 0) then
    some { start := fld b 0 8, duration := fld b 8 4, marks := marks, sigAlg := alg, sig := slice b sigOff sl }
  else none

/-- The 68-byte message a camera signs (R108). -/
def cameraMessage (source start duration : Nat) (digest : Bytes) : Bytes :=
  leBytes 8 source ++ leBytes 8 start ++ leBytes 4 duration ++ digest

end Sys2Proof.Machine
end

