-- ==== Sys2Proof/Machine/HostOps.lean ====
section
/-! DEFINITION. The host interface: receipts and interrupts, the watermark table, ring states, the token pools and their arbitration, withdrawal (chapters 02 and 03). -/

namespace Sys2Proof.Machine

/-! Receipts and ring messages (R55 to R60). -/

/-- A receipt as written, with its PHASE. -/
def Receipt.bytes (r : Receipt) (phase : Bool) (tickNow : Nat) : Bytes :=
  leBytes 2 r.tag ++ leBytes 1 r.status ++ leBytes 1 (b2n phase + r.flags) ++ leBytes 4 r.tab ++ leBytes 8 r.seq ++ leBytes 8 r.sealRef ++
    leBytes 4 (if r.fixedTick then r.tick else tickNow) ++ leBytes 4 r.result

def Ring.size (r : Ring) : Nat := 2 ^ r.sizeLog2.toNat

/-- Completion slots neither reserved nor holding an unreleased receipt (R40). -/
def Ring.freeSlots (r : Ring) : Nat := r.size - r.unreleased - r.outstanding

/-- Tickets announced and not fetched. -/
def Ring.waiting (r : Ring) : Nat := (r.sqTail + r.size - r.sqHead) % r.size

/-- Send or hold the ring's message; it covers every receipt posted before it (R59, R60). -/
def State.ringMessage (s : State) (n : Nat) : State :=
  let r := s.ring n
  let p := r.port.val
  let v := r.vector.toNat
  let ok := s.canSignal p v
  let s1 := s.setRing n { r with pending := 0, timer := false, heldMsg := r.heldMsg || !ok }
  if ok then s1.emit (.msix p v (.ring n)) else s1

/-- The interrupt rule of R59 for a receipt just posted. -/
def State.moderate (s : State) (n : Nat) (noIrq : Bool) : State :=
  let r := s.ring n
  if r.cls = 0 then (if noIrq then s else s.ringMessage n)
  else
    let r1 := { r with pending := r.pending + 1 }
    if noIrq then s.setRing n r1
    else if max 1 r.modCount.toNat ≤ r1.pending then (s.setRing n r1).ringMessage n
    else s.setRing n { r1 with timer := r.timer || r.modTime != 0 }

/-- A receipt as its posting makes it: DURABLE where the entry is already durable (R55). -/
def State.stamped (s : State) (rc : Receipt) : Receipt :=
  { rc with flags := rc.flags + if rc.entry ≠ 0 ∧ rc.entry ≤ (s.tab rc.tab).durable then 2 else 0 }

/-- Counts of secure time in µs. -/
def countsUs (n : Nat) : Nat := n * 1000000 / hz

/-- CLASS.LAT0.RECEIPT_MAX takes the time from a class-0 bell to the posting: what the completing command states, or the secure time that has passed if that is more (R96). -/
def State.latReceipt (s : State) (cls : Nat) (rc : Receipt) : State :=
  if cls = 0 then { s with classes := { s.classes with receiptMax := max s.classes.receiptMax (sat 16 (max rc.us (countsUs (s.now - rc.bellAt)))) } } else s

/-- Write a receipt into the next completion slot (R55, R56). -/
def State.writeReceipt (s : State) (n : Nat) (rc : Receipt) : State :=
  let r := s.ring n
  let wrap := r.cqTail + 1 == r.size
  let r1 := { r with cqTail := (r.cqTail + 1) % r.size, cqPhase := r.cqPhase != wrap, outstanding := r.outstanding - 1, unreleased := r.unreleased + 1 }
  (((s.setRing n r1).emit (.receipt r.port.val (r.cqBase.toNat + 32 * r.cqTail) ((s.stamped rc).bytes r.cqPhase s.openTickLow))).moderate n rc.noIrq).latReceipt r.cls.val rc

/-- Post a receipt: discarded where the ring pair went into ERROR with PORT_DOWN, also after the link is back (R66); otherwise held while the port cannot
master writes (R25, R35), and written. While the link is down a receipt of any other ring pair of the port is discarded too: R66 speaks only of those that were
ACTIVE when it went down (DESIGN CHOICE, log 100). -/
def State.postReceipt (s : State) (n : Nat) (rc : Receipt) : State :=
  let r := s.ring n
  let p := s.port r.port.val
  if r.err == .portDown then s.setRing n { r with outstanding := r.outstanding - 1 }
  else if !p.bme || p.d3hot then s.setRing n { r with held := r.held ++ [rc] }
  else if !p.link.l0 then s.setRing n { r with outstanding := r.outstanding - 1 }
  else s.writeReceipt n rc

/-- Write the receipts a ring holds, oldest first. -/
def State.postHeld (s : State) (n : Nat) : State :=
  let r := s.ring n
  r.held.foldl (fun s rc => s.postReceipt n rc) (s.setRing n { r with held := [] })

/-- The rings that are not at their defaults, and the two preset ones. -/
def State.ringNos (s : State) : List Nat := [0, 1] ++ (s.host.rings.map (·.1)).filter (fun n => decide (2 ≤ n))

/-- A ring's message is held on this port and vector. -/
def Ring.heldOn (r : Ring) (pv : Nat × Nat) : Bool := r.heldMsg && r.port.val == pv.1 && r.vector.toNat == pv.2

/-- Send the messages whose hold has ended, those of rings and then those of the INTR block: one for all that are held on a vector (R60, R451, log 99). -/
def State.releaseMsgs (s0 : State) : State :=
  (s0.ringNos.foldl (fun s n =>
    let r := s0.ring n
    let pv := (r.port.val, r.vector.toNat)
    if r.heldMsg && s0.canSignal pv.1 pv.2 then
      let s1 := s.setRing n { s.ring n with heldMsg := false }
      if s0.ringNos.find? (fun m => (s0.ring m).heldOn pv) == some n then s1.emit (.msix pv.1 pv.2 (.ring n)) else s1
    else s) s0).releaseIntr (fun pv => s0.canSignal pv.1 pv.2 && s0.ringNos.any (fun m => (s0.ring m).heldOn pv))

/-! Holds and watermark-table entries (R61, R62, R121). -/

/-- Holds that name the tab, all-tab holds included. -/
def State.holdCount (s : State) (t : Nat) : Nat := s.tabs.holds.countP (fun h => h.tab == none || h.tab == some t)

/-- Does a live hold cover an entry of the tab committed in the tick? -/
def State.heldAt (s : State) (t tick : Nat) : Bool :=
  s.tabs.holds.any (fun h => (h.tab == none || h.tab == some t) && decide (h.first ≤ tick) && decide (tick ≤ h.last))

/-- A watermark-table entry with the given TICK. -/
def State.wmtEntry (s : State) (t tick : Nat) : Bytes :=
  let c := s.tab t
  leBytes 8 c.durable ++ leBytes 8 c.sealed ++ leBytes 8 c.uploaded ++ leBytes 4 tick ++
    leBytes 1 (b2n c.isOpen + 2 * b2n (decide (0 < s.holdCount t)) + 4 * b2n (decide (c.uploaded < c.sealed))) ++ zeros 3

/-- Can the port's table take an entry: a base, the link in L0 (R62), and the port able to master the write. That a clear Bus Master Enable or D3hot bars the
entry is the model's reading of R25 and R35; the tab's entry then goes to the other port or the tab is marked (DEDUCED, log 100). -/
def State.tableOk (s : State) (p : Nat) : Bool := (s.port p).wmtBase != 0 && s.portUp p

/-- The port whose table takes the tab's entry now (R62). -/
def State.tablePort (s : State) (t : Nat) : Option Nat :=
  let c := s.tab t
  let bound := if c.ring < 0x10000 - 1 then some (s.ring c.ring).port.val else none
  match bound with
  | some p => if (s.port p).wmtBase != 0 then (if s.tableOk p then some p else none)
      else if s.tableOk 0 then some 0 else if s.host.twoPorts && s.tableOk 1 then some 1 else none
  | none => if s.tableOk 0 then some 0 else if s.host.twoPorts && s.tableOk 1 then some 1 else none

def wmtZero (_ : Nat) : Bytes := zeros 32

/-- Write the tab's entry, or mark the tab (R62). What the entry says apart from its TICK is remembered. -/
def State.writeWmt (s : State) (t : Nat) : State :=
  match s.tablePort t with
  | none => { s with host := { s.host with wmtMarked := if s.host.wmtMarked.contains t then s.host.wmtMarked else s.host.wmtMarked ++ [t] } }
  | some p =>
    let s1 := { s with host := { s.host with wmtMarked := s.host.wmtMarked.filter (· != t), wmtLast := s.host.wmtLast.set wmtZero t (s.wmtEntry t 0) } }
    s1.emit (.wmt p ((s.port p).wmtBase.toNat + 32 * t) (s.wmtEntry t s.openTickLow))

/-- Write the entries of the marked tabs, now that a table may be available (R62). -/
def State.flushMarked (s : State) : State :=
  s.host.wmtMarked.foldl (fun s t => match s.tablePort t with | some _ => s.writeWmt t | none => s) s

/-- Tabs whose entries can differ from what was written last. -/
def State.wmtCandidates (s : State) : List Nat :=
  if s.tabs.holds.any (fun h => h.tab == none) then List.range Config.tabs
  else ((s.tabs.ctx.map (·.1)) ++ (s.host.wmtLast.map (·.1))).dedup

/-- At a tick boundary: write every entry that has changed since its last write (R62). -/
def State.boundaryWmt (s : State) : State :=
  s.wmtCandidates.foldl (fun s t => if s.wmtEntry t 0 = s.host.wmtLast.get wmtZero t then s else s.writeWmt t) s

/-- A port can master writes again: held receipts, messages, and marked entries go out (R35, R60, R62). -/
def State.portReturns (s : State) (p : Nat) : State :=
  let s1 := if (s.port p).bme && !(s.port p).d3hot then s.ringNos.foldl (fun s n => if (s.ring n).port.val = p then s.postHeld n else s) s else s
  s1.flushMarked.releaseMsgs

/-! Ring states (R35). -/

def Ring.live (r : Ring) : Bool := r.state == .waiting || r.state == .active

/-- Every ring pair is DISABLED. -/
def State.allDisabled (s : State) : Bool := s.ringNos.all (fun n => (s.ring n).state == .disabled)

/-- SERVICE, HOLDOVER and CATCH-UP end in REST when every ring pair is DISABLED (R394). -/
def State.checkRest (s : State) : State :=
  if (s.power.mode == .service || s.power.mode == .holdover || s.power.mode == .catchup) && s.allDisabled then s.changeMode .rest 3 else s

/-- The bindings of a ring pair's tabs end. -/
def State.releaseTabs (s : State) (n : Nat) : State :=
  { s with tabs := { s.tabs with ctx := s.tabs.ctx.foldl (fun m p => m.set Tab.closed p.1 (if p.2.ring = n then { p.2 with ring := 0xFFFF } else p.2)) s.tabs.ctx } }

/-- A ring pair enters ERROR. -/
def State.ringError (s : State) (n : Nat) (e : RingErr) : State :=
  s.setRing n { s.ring n with state := .error, err := e }

/-! Weights and tokens (R67 to R81). -/

/-- A crate is DEGRADED or EXPOSED (R292). -/
def State.anyDegraded (s : State) : Bool := s.flash.crates.any (fun c => c.state == .degraded || c.state == .exposed)

/-- The weight of class 1, 2 or 3 in force (R69); class 3 has at least REBUILD_W3 while a crate is to be rebuilt, outside LOCKDOWN with its fixed weights (R292). -/
def State.weight (s : State) (c : Nat) : Nat :=
  let w := if s.power.mode == .catchup then s.classes.catchup else s.classes.service
  if s.power.mode == .lockdown then (match c with | 2 => 9 | 3 => 1 | _ => 0)
  else match c with
    | 1 => w.w1.toNat
    | 2 => w.w2.toNat
    | 3 => if s.anyDegraded then max w.w3.toNat s.flash.rebuildW3 else w.w3.toNat
    | _ => 0

/-- A pool: free units, of them the units in the class-0 reserve, and the reserve's full size. -/
structure Pool where
  free : Nat
  res : Nat
  full : Nat
deriving DecidableEq, Repr

/-- Can a class take `n` units (R80)? -/
def Pool.can (p : Pool) (cls n : Nat) : Bool := if cls = 0 then decide (n ≤ p.free) else decide (n + p.res ≤ p.free)
/-- Class 0 empties the shared part first, then its reserve. -/
def Pool.take (p : Pool) (n : Nat) : Pool := { p with free := p.free - n, res := min p.res (p.free - n) }
/-- A freed token refills the reserve first. -/
def Pool.give (p : Pool) (n : Nat) : Pool := { p with free := p.free + n, res := min p.full (p.res + n) }

def State.fetchPool (s : State) : Pool := ⟨s.classes.fetchFree, s.classes.fetchRes, 256⟩
def State.setFetchPool (s : State) (p : Pool) : State := { s with classes := { s.classes with fetchFree := p.free, fetchRes := p.res } }
/-- Write staging in 64 KiB units: 1,024 of them in each 64 MiB of CLASS.STAGING. -/
def State.stagingPool (s : State) : Pool := ⟨s.classes.stagingFree, s.classes.stagingRes, 1024 * s.classes.reserve0⟩
def State.setStagingPool (s : State) (p : Pool) : State := { s with classes := { s.classes with stagingFree := p.free, stagingRes := p.res } }

/-- The ticket's place in the rotations (R71). -/
def Tk.key (t : Tk) (r : Rung) : RotKey :=
  if t.tk.sequenced then { rung := r, cls := t.cls, tab := t.tab, ticket := 0 } else { rung := r, cls := t.cls, tab := none, ticket := t.id }

/-- The oldest waiting ticket of a place in a rotation. -/
def State.headOf (s : State) (k : RotKey) : Option Tk :=
  s.host.tickets.find? (fun t => t.stage == .ladder && t.need.head? == some k.rung && t.key k.rung == k)

/-- Places in the rotations that have lost their last waiting ticket leave them (R71). -/
def State.pruneRot (s : State) : State := { s with classes := { s.classes with rot := s.classes.rot.filter (fun k => (s.headOf k).isSome) } }

/-- A class-0 ticket has found a rung's reserve empty, or another has waited 1 ms or longer (R95). -/
def State.markWaiting (s : State) (cls rung : Nat) : State :=
  let s1 := { s with classes := { s.classes with waiting := setBit s.classes.waiting (8 * cls + rung) true } }
  if cls = 0 then s1.logFault { cls := 0x50, detail := rung } else s1

/-- A wait of 1 ms or longer at a rung (R95); for class 0 the bit says that its reserve was found empty. -/
def State.noteWait (s : State) (cls rung us : Nat) : State := if cls ≠ 0 ∧ 1000 ≤ us then s.markWaiting cls rung else s

/-- The time a ticket has waited at its rung, in µs. -/
def State.waitUs (s : State) (t : Tk) : Nat := if t.stage = .ladder then countsUs (s.now - t.waitSince) else 0

/-- A ticket that leaves the ladder without a grant has its wait recorded (R95). -/
def State.noteLeave (s : State) (t : Tk) : State := match t.need with | r :: _ => s.noteWait t.cls.val r.code (s.waitUs t) | [] => s

def noDrr (_ : Nat) : Drr := {}

/-- Rounds that must begin before a class with credit `d` and weight `w` has credit to be served. -/
def roundsTo (d : Int) (w : Nat) : Nat := if 0 < d then 0 else (-d).toNat / w + 1

/-- Deficit round robin (R68, log 15): the class of 1 to 3 served next among those that wait, and the credits after it. A round gives each waiting class its weight
in cost units; a class is served while it has credit, in class order; rounds begin until one has. A class with weight 0 is served only where no other waits. -/
def Drr.pick (d : Drr) (w : Nat → Nat) (q : Nat → Bool) (cost : Nat → Nat) : Option (Nat × Drr) :=
  let a := [1, 2, 3].filter (fun c => q c && decide (0 < w c))
  match (a.map (fun c => roundsTo (d.credit c) (w c))).min? with
  | none => ([1, 2, 3].find? q).map (fun c => (c, {}))
  | some n =>
    let credit := fun c => if a.contains c then d.credit c + (n * w c : Nat) else 0
    (a.find? (fun c => decide (0 < credit c))).map (fun c => (c, Drr.of (fun x => if x = c then credit x - cost x else credit x)))

/-- The class the device serves next at an arbitration point, given which classes can be served and what each would cost: class 0 before any other (R68). -/
def State.pickClass (s : State) (point : Nat) (q : Nat → Bool) (cost : Nat → Nat) : Option (Nat × State) :=
  if q 0 then some (0, s)
  else ((s.classes.drr.get noDrr point).pick s.weight q cost).map (fun r => (r.1, { s with classes := { s.classes with drr := s.classes.drr.set noDrr point r.2 } }))

/-! Stall slots (R78, R165, R171). -/

/-- Is the stall `i` of a row working: ACTIVE itself, or stood in for by the spare? -/
def State.stallWorks (s : State) (row i : Nat) : Bool :=
  (s.unitSt (stallAddr row i)).state == .active ||
    (s.spareFor (rowAddr row) == i && (s.unitSt (stallAddr row 8)).state == .standingIn && (s.unitSt (stallAddr row i)).state != .active)

def State.rowWorks (s : State) (row : Nat) : Bool := (List.range 8).any (s.stallWorks row)

/-- Work slots of a stall that tickets hold. -/
def State.slotsHeld (s : State) (a : Nat) : Nat := s.host.tickets.countP (fun t => t.stall == some a)

/-- Free work slots of a stall that can take new work. -/
def State.stallFree (s : State) (row i : Nat) : Nat := if s.stallWorks row i then 4 - s.slotsHeld (stallAddr row i) else 0
def State.rowFree (s : State) (row : Nat) : Nat := ((List.range 8).map (s.stallFree row)).sum

/-- The stall with the most free slots, the lowest index among equals (R171). -/
def State.bestStall (s : State) (row : Nat) : Option Nat :=
  (List.range 8).foldl (fun b i =>
    if s.stallFree row i = 0 then b
    else match b with
      | none => some i
      | some j => if s.stallFree row j < s.stallFree row i then some i else b) none

/-- The row a readout uses: the most free slots among rows with a working stall, the lowest address among equals (R165). -/
def State.bestRow (s : State) : Option Nat :=
  (List.range 64).foldl (fun b r =>
    if !s.rowWorks r then b
    else match b with
      | none => some r
      | some q => if s.rowFree q < s.rowFree r then some r else b) none

/-- The stall address whose work slot a ticket would take now; 1 slot of each row stays for class 0 (R78). -/
def State.stallFor (s : State) (t : Tk) : Option Nat :=
  let inRow := fun row =>
    if (if t.cls = 0 then 0 else 1) < s.rowFree row then (s.bestStall row).map (stallAddr row) else none
  match t.tab with
  | some tb =>
    if t.tk.opcode = 1 ∨ t.tk.opcode = 2 then
      let c := s.tab tb
      if c.pin ≠ 0 then (if 0 < s.stallFree (rowNo c.pin) (c.pin % 16) ∧ 1 < s.rowFree (rowNo c.pin) then some c.pin else none) else inRow (rowNo c.affinity)
    else (s.bestRow).bind inRow
  | none => (s.bestRow).bind inRow

/-! Homing (R164). -/

/-- Open tabs homed in a row. -/
def State.homed (s : State) (row : Nat) : Nat := s.tabs.ctx.countP (fun p => p.2.isOpen && decide (rowNo p.2.affinity = row))

/-- The row with the fewest homed tabs among the candidates, the lowest address among equals. -/
def State.fewest (s : State) (cands : List Nat) : Nat :=
  (cands.foldl (fun b r => match b with | none => some r | some q => if s.homed r < s.homed q then some r else b) (none : Option Nat)).getD 0

/-- The row the device chooses among candidate rows (R164). -/
def State.chooseRow (s : State) (cands : List Nat) : Nat :=
  let w := cands.filter s.rowWorks
  let all := (List.range 64).filter s.rowWorks
  if w ≠ [] then s.fewest w else if all ≠ [] then s.fewest all else s.fewest (List.range 64)

/-- A tab homed by a unit address: in its row, and pinned to it where it is a stall (R98, R164). -/
def Tab.at_ (c : Tab) (home : Nat) : Tab := { c with affinity := rowAddr (rowNo home), pin := if home / 4096 = 3 then home else 0 }

/-- The home, a row or a stall, that bytes 50 to 51 of an OPEN_TAB give (R103, R164). -/
def State.homeFor (s : State) (unit : Nat) : Nat :=
  match unit / 4096 with
  | 1 => rowAddr (s.chooseRow ((List.range 8).map (fun r => unit / 256 % 16 * 8 + r)))
  | 2 => unit
  | 3 => unit
  | _ => rowAddr (s.chooseRow (List.range 64))

/-! The life of a ticket. -/

/-- Return a ticket's reservation of crate space (R277). -/
def State.unreserve (s : State) (t : Tk) : State :=
  if t.crateTok then
    { s with flash := { s.flash with crates := s.flash.crates.map (fun c =>
        if (if t.crateId = 0 then c.state == .prepared && c.stream == t.crateStream else c.state != .prepared && c.id == t.crateId)
        then { c with reservedSlots := c.reservedSlots - t.crateSlots } else c) } }
  else s

/-- Return every token a ticket holds but its receipt slot (R81). -/
def State.returnTokens (s : State) (t : Tk) : State :=
  let s1 := if t.fetchTok then s.setFetchPool (s.fetchPool.give 1) else s
  let s2 := if 0 < t.readbuf then { s1 with classes := { s1.classes with readbufFree := s1.classes.readbufFree + t.readbuf } } else s1
  (if 0 < t.staging then s2.setStagingPool (s2.stagingPool.give t.staging) else s2).unreserve t

/-- Has the ticket earlier tickets that its receipt must follow (R57)? -/
def State.mustWait (s : State) (t : Tk) : Bool :=
  if t.tk.opcode = 0x1A ∧ ¬ t.refused then s.host.tickets.any (fun u => decide (u.id < t.id) && u.ring == t.ring)
  else if t.refused then t.tab != none && s.host.tickets.any (fun u => decide (u.id < t.id) && u.tab == t.tab && u.ring == t.ring)
  else false

/-- Post one receipt that is ready and drop its ticket. -/
def State.postOne (s : State) : Option State :=
  match s.host.tickets.find? (fun t => t.stage == .done && t.rcpt != none && !s.mustWait t) with
  | some t =>
    match t.rcpt with
    | some rc => some ((s.dropTk t.id).postReceipt t.ring { rc with bellAt := t.bellAt, us := t.us })
    | none => none
  | none => none

/-- Post every receipt that may be posted, in fetch order, at most `n` of them. -/
def postReady : Nat → State → State
  | 0, s => s
  | n + 1, s => match s.postOne with | some s1 => postReady n s1 | none => s

def State.postAll (s : State) : State := postReady s.host.tickets.length s

/-- The blank receipt of a ticket. -/
def Tk.receipt (t : Tk) (status : Nat) : Receipt := { tag := t.tk.tag, status := status, tab := t.tab.getD 0, noIrq := t.tk.noIrq }

/-- The ticket's work is done: it returns its tokens, and its receipt is posted as soon as the order allows. -/
def State.finish (s : State) (t : Tk) (rc : Receipt) (us : Nat) : State :=
  ((s.returnTokens t).setTk { t with stage := .done, need := [], fetchTok := false, staging := 0, readbuf := 0, stall := none, tabTok := false, crateTok := false, us := us, rcpt := some rc }).postAll

/-- The ticket ends with a status and nothing else. -/
def State.finishWith (s : State) (t : Tk) (status us : Nat) : State := s.finish t (t.receipt status) us

/-- Undo what the acceptance of a withdrawn ticket did to its tab, and nothing else (log 20): a CLOSE_TAB had set CLOSING, an OPEN_TAB of an open tab its
binding and AFFINITY_MOVE, an opening the rest. -/
def State.undoTab (s : State) (t : Tk) : State :=
  match t.tab with
  | none => s
  | some n =>
    let c := s.tab n
    if t.tk.opcode = 9 then s.setTab n { c with closing := false }
    else match t.was with
      | some w =>
        if w.isOpen then s.setTab n { c with ring := w.ring, affinityMove := false }
        else s.setTab n { c with isOpen := false, auto := w.auto, source := w.source, ring := w.ring, affinity := w.affinity, pin := w.pin }
      | none => s

/-- Withdraw every ticket in the device that `p` picks and that is not done: tokens back, work gone, and, where `post`, a receipt with the status (R81, R111). -/
def State.withdraw (s : State) (p : Tk → Bool) (status : Nat) (post : Bool) : State :=
  let q := fun t : Tk => p t && t.stage != .done
  let gone := s.host.tickets.filter q
  let s1 := gone.reverse.foldl (fun s t => ((s.noteLeave t).returnTokens t).undoTab t) s
  let ids := gone.map Tk.id
  let keep := fun t : Tk => if q t then { t with stage := .done, need := [], fetchTok := false, staging := 0, readbuf := 0, stall := none, tabTok := false, crateTok := false, seq := 0, result := none, rcpt := some (t.receipt status) } else t
  let tks := if post then s1.host.tickets.map keep else s1.host.tickets.filter (fun t => !q t)
  let s2 := State.pruneRot { s1 with
    host := { s1.host with tickets := tks }
    units := { s1.units with items := s1.units.items.filter (fun i => !ids.contains i.ticket) } }
  if post then s2.postAll else s2

end Sys2Proof.Machine
end

