-- ==== Sys2Proof/Machine/Copies.lean ====
section
/-! DEFINITION. The copies of applet images, templates and camera keys in DDR4, and the on-chip digests they are checked against (R307 to R309). -/

namespace Sys2Proof.Machine

def noTempl (_ : Nat) : Template := {}
def noApplet (_ : Nat) : Applet := {}
def noBytes (_ : Nat) : Bytes := []

/-- An entry of the camera public-key table: the key-list entry that loaded it (R105, R106). -/
def CamKey.entry (k : CamKey) : Bytes := leBytes 8 k.source.toNat ++ leBytes 1 k.alg ++ zeros 1 ++ leBytes 2 k.key.length ++ zeros 4 ++ pad8 k.key

/-- A copy in DDR4 that a digest covers: an applet image, a template record's fixed part, a key of a template's list. -/
inductive Copy where
  | image (applet : Nat)
  | fixed (template : Nat)
  | key (template index : Nat)
deriving DecidableEq, Repr

/-- The number of a camera key's copy: keys of a template stand together. -/
def keyNo (template index : Nat) : Nat := template * 65536 + index

/-- What the system area holds for a copy; none where nothing is loaded. -/
def State.sourceOf (s : State) : Copy → Option Bytes
  | .image n => if SMap.has s.tabs.applets n then some (s.tabs.applets.get noApplet n).image else none
  | .fixed n => if SMap.has s.tabs.templates n then some (s.tabs.templates.get noTempl n).fixed else none
  | .key n i => if SMap.has s.tabs.templates n then (((s.tabs.templates.get noTempl n).keys)[i]?).map CamKey.entry else none

/-- The copy as DDR4 holds it. -/
def State.copyOf (s : State) : Copy → Bytes
  | .image n => s.ddr.images.get noBytes n
  | .fixed n => s.ddr.fixed.get noBytes n
  | .key n i => s.ddr.keyEntries.get noBytes (keyNo n i)

/-- Write a copy. -/
def State.setCopy (s : State) (c : Copy) (b : Bytes) : State :=
  match c with
  | .image n => { s with ddr := { s.ddr with images := s.ddr.images.set noBytes n b } }
  | .fixed n => { s with ddr := { s.ddr with fixed := s.ddr.fixed.set noBytes n b } }
  | .key n i => { s with ddr := { s.ddr with keyEntries := s.ddr.keyEntries.set noBytes (keyNo n i) b } }

/-- The digest of what a copy holds: SHA-384, of which the first 16 bytes for a camera key. -/
def digestOf (c : Copy) (b : Bytes) : Bytes := match c with | .key _ _ => (sha384 b).take 16 | _ => sha384 b

/-- The digest held on chip for a copy. -/
def State.heldDigest (s : State) : Copy → Bytes
  | .image n => s.tabs.imageDigests.get noBytes n
  | .fixed n => s.tabs.fixedDigests.get noBytes n
  | .key n i => s.tabs.keyDigests.get noBytes (keyNo n i)

/-- Before a stall or an engine uses a copy it is checked against its digest; one that fails is lost, and read again from the system area, whose objects are authenticated (R308, R312). -/
def State.checkCopy (s : State) (c : Copy) : State :=
  match s.sourceOf c with
  | none => s
  | some b => if digestOf c (s.copyOf c) = s.heldDigest c then s else s.setCopy c b

/-- The keys of a template's list with the numbers of their copies. -/
def Template.entries (p : Template) (n : Nat) : List (Nat × Bytes) := p.keys.zipIdx.map (fun k => (keyNo n k.2, k.1.entry))

/-- An accepted LOAD_APPLET: the copy and its digest (R308). -/
def State.appletStored (s : State) (n : Nat) (a : Applet) : State :=
  { s with
    ddr := { s.ddr with images := s.ddr.images.set noBytes n a.image }
    tabs := { s.tabs with imageDigests := s.tabs.imageDigests.set noBytes n (sha384 a.image) } }

/-- An accepted LOAD_TEMPLATE: the copies of its fixed part and keys, and their digests (R308); those of the list it replaces go. -/
def State.templateStored (s : State) (n : Nat) (p : Template) : State :=
  let others := fun l : SMap Bytes => l.filter (fun q => q.1 / 65536 != n)
  let l := p.entries n
  { s with
    ddr := { s.ddr with fixed := s.ddr.fixed.set noBytes n p.fixed, keyEntries := l.foldl (fun m e => m.set noBytes e.1 e.2) (others s.ddr.keyEntries) }
    tabs := { s.tabs with
      fixedDigests := s.tabs.fixedDigests.set noBytes n (sha384 p.fixed)
      keyDigests := l.foldl (fun m e => m.set noBytes e.1 (digestOf (.key 0 0) e.2)) (others s.tabs.keyDigests) } }

/-- The tables are loaded into DDR4 from the system area (R310, R314). -/
def State.fillCopies (s : State) : State :=
  { s with ddr := { s.ddr with
      images := s.tabs.applets.map (fun p => (p.1, p.2.image)), fixed := s.tabs.templates.map (fun p => (p.1, p.2.fixed))
      keyEntries := s.tabs.templates.flatMap (fun p => p.2.entries p.1) } }

/-- The digests are rebuilt from the system area, and the copies loaded (R308). -/
def State.copiesUp (s : State) : State :=
  State.fillCopies { s with tabs := { s.tabs with
      imageDigests := s.tabs.applets.map (fun p => (p.1, sha384 p.2.image)), fixedDigests := s.tabs.templates.map (fun p => (p.1, sha384 p.2.fixed))
      keyDigests := s.tabs.templates.flatMap (fun p => (p.2.entries p.1).map (fun e => (e.1, digestOf (.key 0 0) e.2))) } }

end Sys2Proof.Machine
end

