-- ==== Sys2Proof/Machine/Admit.lean ====
section
/-! DEFINITION. The checks of R48, the acceptance of a ticket, and its way through the token ladder (R49 to R54, R71 to R83, R99 to R103). -/

namespace Sys2Proof.Machine

/-! Tabs by source, templates, applets. -/

/-- The open tab that carries a source and is not closing (R49, R101). -/
def State.tabBySource (s : State) (src : BitVec 64) : Option Nat :=
  (s.tabs.ctx.find? (fun p => p.2.isOpen && !p.2.closing && p.2.source == src)).map (·.1)

/-- The lowest number from `n` on that the rising list does not hold as an open tab. -/
def lowestFree : Nat → SMap Tab → Nat
  | n, [] => n
  | n, (k, c) :: r => if k = n ∧ c.isOpen then lowestFree (n + 1) r else if k < n then lowestFree n r else if k = n then n else n

/-- The lowest closed tab identifier; none when every tab is open. -/
def State.freeTab (s : State) : Option Nat :=
  let n := lowestFree 0 s.tabs.ctx
  if n < Config.tabs then some n else none

/-- The template of a number; template 0 is built in (R104); none where it is not loaded. -/
def State.template? (s : State) (n : Nat) : Option Template :=
  if n = 0 then some {} else if SMap.has s.tabs.templates n then some (s.tabs.templates.get noTempl n) else none

/-- The worst cases of the built-in applets (R190 to R192). -/
def builtin (n : Nat) : Applet :=
  match n with
  | 0 => { wSeg := 1800, wKib := 180 }
  | 1 => { search := true, wSeg := 120 }
  | _ => { search := true, wSeg := 90 }

/-- The applet of a number; none where it is not loaded. -/
def State.applet? (s : State) (n : Nat) : Option Applet :=
  if n ≤ 2 then some (builtin n) else if SMap.has s.tabs.applets n then some (s.tabs.applets.get noApplet n) else none

/-! The checks of R48. A status of 0 means that the check passes. -/

/-- The class an opcode needs (R51); 4 for any class, none for an opcode that is not assigned. -/
def opClass (o : Nat) : Option Nat :=
  match o with
  | 0x01 => some 1 | 0x02 => some 1 | 0x08 => some 1 | 0x09 => some 1
  | 0x10 => some 0 | 0x11 => some 0 | 0x12 => some 2
  | 0x18 => some 0 | 0x19 => some 0 | 0x1A => some 4 | 0x1B => some 0
  | 0x20 => some 2 | 0x21 => some 2 | 0x22 => some 2 | 0x23 => some 2
  | 0x30 => some 3 | 0x31 => some 3 | 0x38 => some 3 | 0x39 => some 3
  | 0x40 => some 0 | 0x41 => some 0 | 0x42 => some 0
  | _ => none

/-- Bytes `off` to 63 of the ticket are zero. -/
def Ticket.restZero (t : Ticket) (off : Nat) : Bool := allZero (t.oper.drop (off - 48))
/-- TAB and SOURCE are zero. -/
def Ticket.noTab (t : Ticket) : Bool := decide (t.tab = 0) && decide (t.source = 0)
/-- DATA is zero and no basket is named. -/
def Ticket.noData (t : Ticket) : Bool := allZero t.data && !t.basket
/-- Bytes 56 to 59 hold a count of 1 to 4,096. -/
def Ticket.countOk (t : Ticket) : Bool := decide (1 ≤ t.op 56 4) && decide (t.op 56 4 ≤ 4096)

/-- The operand rules of READ_SEALED (R51, R124, R147, R149, R249, R369, R433). -/
def State.readSealedOk (s : State) (t : Ticket) : Bool :=
  let c := t.op 60 1
  let first := t.op 48 8
  let src0 := decide (t.source = 0)
  let tickOk := decide (1 ≤ first) && decide (first ≤ s.ledger.durableTick)
  t.restZero 61 &&
  (if t.tab = 0xFFFFFFFE then src0 && tickOk && t.countOk && decide (1 ≤ c) && decide (c ≤ 3)
   else if t.tab = 0xFFFFFFFD then src0 &&
     (match c with
      | 1 => decide (1 ≤ t.op 48 4) && decide (t.op 52 1 ≤ 63) && decide (t.op 53 3 = 0) && t.countOk
      | 2 => decide (1 ≤ t.op 48 4) && decide (t.op 52 4 = 0) && t.countOk
      | 3 => decide (first = 0) && decide (t.op 56 4 = 1)
      | _ => false)
   else if t.tab = 0xFFFFFFFC ∨ t.tab = 0xFFFFFFFB then src0 && decide (c = 1) && t.countOk
   else if c = 0 then src0 && decide (first = 0) && t.countOk && decide (t.tab + t.op 56 4 ≤ Config.tabs)
   else if c = 8 then src0 && tickOk && t.countOk
   else decide (c ≤ 7) && t.countOk)

/-- Check 2: reserved flags and operands, fields the opcode does not use, operand rules (R42, R47, R51, R99, R121, R198, R295). -/
def State.fieldsOk (s : State) (t : Ticket) : Bool :=
  decide (t.flags / 4 = 0) &&
  (match t.opcode with
   | 0x01 => t.restZero 60 && (decide (t.op 48 8 = 0 ∧ t.op 56 4 = 0) || decide (t.op 48 8 ≠ 0 ∧ t.op 48 8 % 8 = 0 ∧ 24 ≤ t.op 56 4 ∧ t.op 56 4 ≤ 32792))
   | 0x02 => t.restZero 60 && decide (t.op 48 8 ≠ 0 ∧ t.op 48 8 % 8 = 0 ∧ 24 ≤ t.op 56 4 ∧ t.op 56 4 ≤ 32792)
   | 0x08 => t.noData && t.restZero 52 && (s.template? (t.op 48 2)).isSome && (decide (t.op 50 2 = 0xFFFF) || workPort (t.op 50 2))
   | 0x09 => t.noData && t.restZero 48
   | 0x10 => t.noData && decide (t.source = 0) && decide (t.op 48 8 ≤ t.op 56 8)
   | 0x11 => t.noData && t.noTab && t.restZero 52
   | 0x12 => t.noData && t.restZero 56
   | 0x18 => t.noData && t.noTab && t.restZero 56
   | 0x19 => t.noData && t.noTab && t.restZero 48
   | 0x1A => t.noData && t.noTab && t.restZero 48
   | 0x1B => t.noTab && t.restZero 48
   | 0x20 => s.readSealedOk t
   | 0x21 => (decide (t.op 60 1 = 1) || decide (t.op 60 1 = 4) || decide (t.op 60 1 = 5)) && decide (t.op 61 1 = 0) && t.countOk
   | 0x22 => t.restZero 62 && decide (t.op 56 4 ≤ 65536) && (decide (t.tab ≠ 0xFFFFFFFF) || decide (t.source = 0))
   | 0x23 => t.noData && t.noTab && decide (t.op 60 1 ≤ 3) && t.restZero 61
   | 0x30 => t.noTab && t.restZero 50
   | 0x31 => t.noTab && t.restZero 50 && decide (1 ≤ t.op 48 2) && decide (t.op 48 2 ≤ 1023)
   | 0x38 => t.noTab && t.restZero 51 && testApplies (t.op 48 2) (t.op 50 1)
   | 0x39 => t.noData && t.noTab && t.restZero 51 && (decide (t.op 48 2 ≤ 1023) || decide (t.op 48 2 = 0xFFFF)) && decide (1 ≤ t.op 50 1) && decide (t.op 50 1 ≤ 3)
   | 0x40 => t.noTab && t.restZero 48
   | 0x41 => t.noTab && t.restZero 48
   | 0x42 => t.noTab && t.restZero 48
   | _ => false)

/-- Check 4: the encoding of DATA (R43, R44, R51). -/
def Ticket.dataCheck (t : Ticket) : Bool :=
  match t.opcode with
  | 0x01 => t.dataOk true 4194304
  | 0x02 => t.dataOk true 4194304
  | 0x1B => t.dataOk true 4194304
  | 0x20 => t.dataOk true 0
  | 0x21 => t.dataOk true 0
  | 0x22 => t.dataOk true 0
  | 0x30 => t.dataOk true 4194304
  | 0x31 => t.dataOk true 4194304
  | 0x38 => t.noData || t.dataOk true 0
  | 0x40 => t.dataOk true 4194304
  | 0x41 => t.dataOk true 4194304
  | 0x42 => t.dataOk true 4194304
  | _ => true

/-- Check 5: TAB and SOURCE. -/
def State.tabOk (s : State) (t : Ticket) : Bool :=
  let c := s.tab t.tab
  let known := decide (t.tab < Config.tabs)
  let src := decide (c.source = t.source)
  match t.opcode with
  | 0x01 => decide (t.tab = 0xFFFFFFFF) || (known && c.isOpen && !c.closing && src)
  | 0x02 => decide (t.tab = 0xFFFFFFFF) || (known && c.isOpen && !c.closing && src)
  | 0x08 => decide (t.tab = 0xFFFFFFFF) || (known && (!c.isOpen || src))
  | 0x09 => known && c.isOpen && !c.closing && src
  | 0x10 => decide (t.tab = 0xFFFFFFFF) || known
  | 0x12 => known && src
  | 0x20 => decide (0xFFFFFFFB ≤ t.tab ∧ t.tab ≤ 0xFFFFFFFE) || (known && (decide (t.op 60 1 = 0) || decide (t.op 60 1 = 8) || src))
  | 0x21 => known && src
  | 0x22 => decide (t.tab = 0xFFFFFFFF) || (known && src)
  | _ => true

/-- The tab a ticket goes to, where it names or finds one. -/
def State.foundTab (s : State) (t : Ticket) : Option Nat :=
  match t.opcode with
  | 0x01 => if t.tab = 0xFFFFFFFF then s.tabBySource t.source else some t.tab
  | 0x02 => if t.tab = 0xFFFFFFFF then s.tabBySource t.source else some t.tab
  | 0x08 => if t.tab = 0xFFFFFFFF then none else some t.tab
  | 0x09 => some t.tab
  | 0x10 => if t.tab = 0xFFFFFFFF then none else some t.tab
  | 0x12 => some t.tab
  | 0x20 => if t.tab < Config.tabs then some t.tab else none
  | 0x21 => some t.tab
  | 0x22 => if t.tab = 0xFFFFFFFF then none else some t.tab
  | _ => none

/-- Opcodes that SEALED and RETURNED accept (R377). -/
def Ticket.outsideOwned (t : Ticket) : Bool :=
  [0x18, 0x1A, 0x38, 0x39, 0x41, 0x42].contains t.opcode || (decide (t.opcode = 0x20) && decide (t.tab = 0xFFFFFFFD))

/-- Opcodes that LOCKDOWN accepts (R54). -/
def Ticket.inLockdown (t : Ticket) : Bool := [0x18, 0x1A, 0x20, 0x40, 0x41, 0x42].contains t.opcode

/-- Check 6, the mode's part (R54, R377, R383, R395). -/
def State.modeAllows (s : State) (t : Ticket) : Bool :=
  if s.dev.holdCause = 2 then decide (t.opcode = 0x41)
  else if s.power.mode == .lockdown then t.inLockdown
  else if !s.owned then t.outsideOwned
  else !(s.power.mode == .rest && [0x01, 0x02, 0x08, 0x09].contains t.opcode)

/-- Check 6, the binding's part (R50, R99, R102). -/
def State.bindingAllows (s : State) (ring : Nat) (t : Ticket) : Bool :=
  let bound := fun n => let r := (s.tab n).ring; decide (r = 0xFFFF) || decide (r = ring)
  match t.opcode with
  | 0x01 => (match s.foundTab t with | some n => bound n | none => true)
  | 0x02 => (match s.foundTab t with | some n => bound n | none => true)
  | 0x09 => bound t.tab
  | 0x08 =>
    let own := if t.tab = 0xFFFFFFFF then none else some t.tab
    !(s.tabs.ctx.any (fun p => p.2.isOpen && p.2.source == t.source && (some p.1 != own || p.2.closing))) &&
      (match own with
       | some n => !(s.tab n).isOpen || !(s.host.tickets.any (fun u => u.tab == some n))
       | none => true)
  | _ => true

/-- Check 7: a tab is available where the ticket needs a new one. -/
def State.tabSpace (s : State) (t : Ticket) : Bool :=
  match t.opcode with
  | 0x01 => (s.foundTab t).isSome || s.freeTab.isSome
  | 0x02 => (s.foundTab t).isSome || s.freeTab.isSome
  | 0x08 => decide (t.tab ≠ 0xFFFFFFFF) || s.freeTab.isSome
  | _ => true

/-- The checks in order: the status of the first that fails, 0 where all pass (R48). -/
def State.check (s : State) (ring : Nat) (t : Ticket) : Nat :=
  match opClass t.opcode with
  | none => 0x10
  | some c =>
    if !s.fieldsOk t then 0x10
    else if c ≠ 4 ∧ c ≠ (s.ring ring).cls.val then 0x10
    else if !t.dataCheck then 0x10
    else if !s.tabOk t then 0x11
    else if !s.modeAllows t || !s.bindingAllows ring t then 0x13
    else if !s.tabSpace t then 0x12
    else 0

/-! The ladder. -/

/-- The rungs an opcode needs after the fetch token (R79). -/
def Ticket.rungs (t : Ticket) : List Rung :=
  match t.opcode with
  | 0x01 => [.tab, .stall, .staging, .crate]
  | 0x02 => [.tab, .stall, .staging, .crate]
  | 0x08 => [.tab, .crate]
  | 0x09 => [.tab, .crate]
  | 0x20 => [.stall, .staging]
  | 0x21 => [.stall, .staging]
  | 0x22 => [.stall, .staging]
  | 0x23 => [.stall, .staging]
  | 0x1B => [.staging]
  | 0x30 => [.staging]
  | 0x31 => [.staging]
  | 0x40 => [.staging]
  | 0x41 => [.staging]
  | 0x42 => [.staging]
  | _ => []

/-- Does the ticket take read units rather than write units at the staging rung (R79)? -/
def Ticket.readout (t : Ticket) : Bool := [0x20, 0x21, 0x22, 0x23].contains t.opcode

/-- The 16 KiB read units a readout's stall requests at a time: what its destination holds, from 1 to 64 (R78, R79); an export's stream unit takes one (R343, log 102). -/
def Ticket.readUnits (t : Ticket) : Nat := if t.opcode = 0x23 then 1 else max 1 (min 64 (ceilDiv t.dataLen 16384))

/-- Write-staging units a ticket takes (R79). -/
def Ticket.units (t : Ticket) : Nat :=
  if t.opcode = 1 ∨ t.opcode = 2 then ceilDiv (t.dataLen + 4096) 65536 else ceilDiv t.dataLen 65536

/-- Does the opcode's TAB field name a tab at all (R51)? -/
def Ticket.namesTab (t : Ticket) : Bool := [0x01, 0x02, 0x08, 0x09, 0x10, 0x12, 0x20, 0x21, 0x22].contains t.opcode

def State.enterRot (s : State) (k : RotKey) : State :=
  if s.classes.rot.contains k then s else { s with classes := { s.classes with rot := s.classes.rot ++ [k] } }

/-- An ingest ticket ends SKIPPED without running: its entry waits for the till (R83, R174). -/
def State.skip (s : State) (t : Tk) (cause : Nat) : State :=
  let s1 := if t.fetchTok then s.setFetchPool (s.fetchPool.give 1) else s
  s1.setTk { t with stage := .ready, need := [], fetchTok := false, admitTime := if t.stage = .ladder then s.now else t.admitTime, stall := none, result := some { kind := 2, status := 1, cause := cause, group := match t.templ with | some p => p.group | none => (s.tab (t.tab.getD 0)).group, applet := match t.templ with | some p => p.applet | none => 0xFFFF } }

/-- A ticket that has taken a rung, or has been accepted, reaches the next one, or is admitted: a SEARCH takes the applet, a signed object the authority record, that is then in force (R77, R189, R245). -/
def State.arrive (s : State) (t : Tk) : State :=
  match t.need with
  | [] =>
    let s1 := if t.fetchTok then s.setFetchPool (s.fetchPool.give 1) else s
    s1.setTk { t with
      stage := .admitted, fetchTok := false, admitTime := s.now, auth := s.vault.authority
      applet := if t.tk.opcode = 0x22 then s.applet? (t.tk.op 60 2) else t.applet }
  | r :: _ =>
    let ingest := t.tk.opcode = 1 ∨ t.tk.opcode = 2
    if r = .stall ∧ ingest ∧ ¬ s.rowWorks (rowNo (s.tab (t.tab.getD 0)).affinity) then s.skip t 2
    else if r = .crate ∧ ingest ∧ s.classes.exhausted then s.skip t 1
    else (s.setTk { t with waitSince := s.now }).enterRot (t.key r)

/-- What of the tab an acceptance may change. -/
def Tab.was (c : Tab) : TabWas := { isOpen := c.isOpen, auto := c.auto, source := c.source, ring := c.ring, affinity := c.affinity, pin := c.pin }

/-- What acceptance by the checks does to the tab: opening, re-homing, binding, CLOSING (R49, R50, R99 to R103). It takes place when the checks have passed,
so that the tickets fetched after it find the tab as R99 and R101 say (log 2). A re-home and a close keep STATE.AUTO, and a closed tab that opens in another row has
its AFFINITY moved at once, without AFFINITY_MOVE (DESIGN CHOICE, log 105). -/
def State.acceptTab (s : State) (ring : Nat) (t : Tk) : State × Tk :=
  match t.tk.opcode with
  | 0x09 =>
    let n := t.tk.tab
    let c := s.tab n
    (s.setTab n { c with closing := true }, { t with tab := some n })
  | 0x08 =>
    match (if t.tk.tab = 0xFFFFFFFF then s.freeTab else some t.tk.tab) with
    | none => (s, t)
    | some n =>
      let c := s.tab n
      let unit := t.tk.op 50 2
      if c.isOpen then
        let home := if unit = 0xFFFF then c.home else s.homeFor unit
        let moves := decide (rowNo home ≠ rowNo c.affinity)
        (s.setTab n { c with ring := ring, affinityMove := moves },
          { t with tab := some n, was := some c.was, rebind := decide (c.ring ≠ ring), newAffinity := some home })
      else
        let home := s.homeFor unit
        (s.setTab n ({ c with isOpen := true, auto := false, source := t.tk.source, ring := ring }.at_ home),
          { t with tab := some n, was := some c.was, newAffinity := some home })
  | _ =>
    if t.tk.opcode = 1 ∨ t.tk.opcode = 2 then
      match s.foundTab t.tk with
      | some n => (s.setTab n { s.tab n with ring := ring }, { t with tab := some n })
      | none =>
        match s.freeTab with
        | none => (s, t)
        | some n =>
          let c := s.tab n
          (s.setTab n ({ c with isOpen := true, auto := true, source := t.tk.source, ring := ring }.at_ (s.homeFor 0xFFFF)),
            { t with tab := some n, autoTab := true, was := some c.was })
    else (s, { t with tab := s.foundTab t.tk })

/-- One fetched ticket: refused with a receipt, or accepted and sent up the ladder. A refused one takes no token beyond its receipt slot. -/
def State.takeTicket (s : State) (ring : Nat) (b : Bytes) : State :=
  let tk := Ticket.ofBytes b
  let id := s.host.nextId
  let s1 := { s with host := { s.host with nextId := id + 1 } }
  let base : Tk := { id := id, ring := ring, cls := (s.ring ring).cls, tk := tk, bellAt := (((s.ring ring).bells.head?).map (·.2)).getD s.now }
  let st := s.check ring tk
  if st = 0 then
    let s2 := { s1 with host := { s1.host with tickets := s1.host.tickets ++ [base] } }
    let s3 := s2.setFetchPool (s2.fetchPool.take 1)
    let a := s3.acceptTab ring { base with need := tk.rungs }
    a.1.arrive a.2
  else
    -- the tab that orders the refused receipt (R57), and the tab the receipt names (R55)
    let named := if tk.namesTab ∧ tk.tab < Config.tabs ∧ (s.tab tk.tab).ring = ring then some tk.tab else none
    let shown := if st = 0x13 ∨ st = 0x12 then (s.foundTab tk).getD 0 else 0
    let t : Tk := { base with stage := .done, fetchTok := false, refused := true, tab := named, rcpt := some { tag := tk.tag, status := st, tab := shown, noIrq := tk.noIrq } }
    ({ s1 with host := { s1.host with tickets := s1.host.tickets ++ [t] } }).postAll

/-! Fetching (R72) and grants (R71, R77). -/

/-- Can the ring be served at the fetch rung now? During a life-cycle transition only class 0 is (R381). -/
def State.fetchable (s : State) (n : Nat) : Bool :=
  let r := s.ring n
  r.state == .active && decide (0 < r.waiting) && decide (0 < r.freeSlots) && s.portUp r.port.val && s.fetchPool.can r.cls.val 1 &&
    !s.power.warn && !s.power.pllSwitching && (r.cls == 0 || s.guard.transition.isNone)

/-- The ring a class serves next: the first after the last one served, in rising order and round (R71). -/
def State.nextRing (s : State) (cls : Nat) : Option Nat :=
  let l := (s.ringNos.filter (fun n => s.fetchable n && (s.ring n).cls.val == cls)).mergeSort
  let last := s.classes.lastRing.get zeroOf cls
  match l.find? (fun n => decide (last < n)) with
  | some n => some n
  | none => l.head?

/-- How many tickets one turn fetches: at most 4, as many as wait, have a receipt slot and a ticket buffer. -/
def State.fetchBurst (s : State) (n : Nat) : Nat :=
  let r := s.ring n
  let p := s.fetchPool
  min 4 (min r.waiting (min r.freeSlots (if r.cls = 0 then p.free else p.free - p.res)))

/-- Completion errors among the reads, each reported through AER by the function that made the read (R25, R64). -/
def readErrors (l : List HostRead) : Nat := l.countP (fun r => decide (r = .err))
def State.aer (s : State) (p : Nat) (l : List HostRead) : State := s.setPort p { s.port p with aerLogged := (s.port p).aerLogged + readErrors l }

/-- The port through which a ticket came. -/
def State.portOf (s : State) (t : Tk) : Nat := (s.ring t.ring).port.val
/-- The ticket's function may read host memory: it is not in D3hot (R25). -/
def State.masters (s : State) (t : Tk) : Bool := !(s.port (s.portOf t)).d3hot

/-- The bell that announced the tickets up to slot `h` has been served. -/
def State.passBell (s : State) (n h : Nat) : State :=
  match (s.ring n).bells with
  | p :: r => if p.1 = h then s.setRing n { s.ring n with bells := r } else s
  | [] => s

/-- Fetch the tickets that the reads deliver, in slot order; a failed read puts the ring in ERROR (R64). -/
def State.fetchRun (s : State) (n : Nat) : List HostRead → State
  | [] => s
  | .err :: _ =>
    (s.aer (s.ring n).port.val [.err]).ringError n .fetchError
  | .ok b :: r =>
    let g := s.ring n
    if g.state = .active then
      let h := (g.sqHead + 1) % g.size
      (((s.setRing n { g with sqHead := h, outstanding := g.outstanding + 1 }).takeTicket n b).passBell n h).fetchRun n r
    else s

/-- The pool that a rung's unit would come from can serve the ticket now. `crateOk` says whether a crate has room for it. -/
def State.canGrant (s : State) (rung : Rung) (crateOk : State → Tk → Bool) (t : Tk) : Bool :=
  (t.cls == 0 || s.guard.transition.isNone) &&
  match rung with
  | .fetch => false
  | .tab =>
    let n := t.tab.getD 0
    let held := s.host.tickets.countP (fun u => u.tabTok && u.tab == some n)
    -- while a tab moves to another row, none later than its OPEN_TAB takes this rung (R103)
    !((s.tab n).affinityMove && s.host.tickets.any (fun u => decide (u.id < t.id) && u.tab == some n && u.tk.opcode == 8 && u.stage != .done)) &&
      decide (held < if t.cls = 0 then 9 else 8) &&
      -- a tab's tickets take this rung in fetch order (R73)
      !(s.host.tickets.any (fun u => decide (u.id < t.id) && u.tab == some n && u.stage == .ladder && u.need.head? == some .tab))
  | .stall => (s.stallFor t).isSome
  | .staging => if t.tk.readout then decide (t.tk.readUnits ≤ s.classes.readbufFree) else s.stagingPool.can t.cls.val t.tk.units
  | .crate => crateOk s t

/-- The number of entries that a ticket's commit adds: an auto-tab adds two (R100). -/
def Tk.entries (t : Tk) : Nat := if t.autoTab then 2 else 1

/-- The template a ticket of the tab runs under: that of the last OPEN entry still ahead of it in the window, or the tab's (R102, R114). -/
def State.templFor (s : State) (t : Tk) (n : Nat) : Nat :=
  if t.autoTab then 0
  else match (s.host.tickets.filter (fun u => u.tabTok && u.tab == some n && decide (u.id < t.id) && (u.tk.opcode == 8 || u.autoTab))).getLast? with
    | some u => if u.autoTab then 0 else u.tk.op 48 2
    | none => (s.tab n).template

/-- Give the ticket its next rung; `reserve` takes its crate space. The tab rung fixes sequence number, template and applet (R106, R110, R189). -/
def State.grant (s : State) (reserve : State → Tk → Option (State × Tk)) (t : Tk) : State :=
  match t.need with
  | [] => s
  | r :: rest =>
    let t1 := { t with need := rest }
    match r with
    | .fetch => s
    | .tab =>
      let n := t.tab.getD 0
      let c := s.tab n
      let ahead := ((s.host.tickets.filter (fun u => u.tabTok && u.tab == some n)).map Tk.entries).sum
      let templNo := s.templFor t n
      let templ := s.template? templNo
      let t2 := { t1 with tabTok := true, seq := c.nextSeq + ahead + (t.entries - 1), templNo := templNo, templ := templ, applet := templ.bind (fun p => s.applet? p.applet) }
      (s.checkCopy (.fixed templNo)).arrive t2
    | .stall => s.arrive { t1 with stall := s.stallFor t }
    | .staging =>
      if t.tk.readout then
        State.arrive { s with classes := { s.classes with readbufFree := s.classes.readbufFree - t.tk.readUnits } } { t1 with readbuf := t.tk.readUnits }
      else (s.setStagingPool (s.stagingPool.take t.tk.units)).arrive { t1 with staging := t.tk.units }
    | .crate =>
      match reserve s t1 with
      | some (s1, t2) => s1.arrive t2
      | none => s

/-- The ticket a class grants next at a rung: the first place in the rotation whose head ticket's pool can serve it (R71). -/
def State.nextAt (s : State) (rung : Rung) (crateOk : State → Tk → Bool) (cls : Nat) : Option (RotKey × Tk) :=
  (s.classes.rot.filterMap (fun k =>
    if k.rung = rung ∧ k.cls.val = cls then
      match s.headOf k with
      | some t => if s.canGrant rung crateOk t then some (k, t) else none
      | none => none
    else none)).head?

/-- After a grant the place moves to the back if it still has a ticket waiting, and leaves the rotation otherwise. -/
def State.rotate (s : State) (k : RotKey) : State :=
  let l := s.classes.rot.filter (· != k)
  { s with classes := { s.classes with rot := if (s.headOf k).isSome then l ++ [k] else l } }

end Sys2Proof.Machine
end

