-- ==== Sys2Proof/Machine/Pqc.lean ====
section
/-! DEFINITION. ML-DSA (FIPS 204, pure) and ML-KEM-768 (FIPS 203) behind R221. The spec names the standards and does not repeat them (log 5).
A rejection loop that the standards leave unbounded runs over a stream long enough that running out has no practical probability (log 5). -/

namespace Sys2Proof.Machine

/-- A polynomial of 256 coefficients modulo q. -/
abbrev Poly := List Nat

/-- The low `n` bits of a number reversed. -/
def bitRev (n v : Nat) : Nat := (List.range n).foldl (fun a i => 2 * a + v / 2 ^ i % 2) 0

def polyAdd (q : Nat) (a b : Poly) : Poly := List.zipWith (fun x y => (x + y) % q) a b
def polySub (q : Nat) (a b : Poly) : Poly := List.zipWith (fun x y => subMod x y q) a b

/-- The forward transform over `d` layers; `z k` is the k-th zeta. -/
def nttFwd (q : Nat) (z : Nat → Nat) : Nat → Nat → Poly → Poly
  | 0, _, a => a
  | d + 1, k, a =>
    let h := a.length / 2
    let lo := a.take h
    let hi := (a.drop h).map (fun x => z k * x % q)
    nttFwd q z d (2 * k) (polyAdd q lo hi) ++ nttFwd q z d (2 * k + 1) (polySub q lo hi)

/-- The inverse transform without its final scaling; `zi k` is the inverse of the k-th zeta. -/
def nttBack (q : Nat) (zi : Nat → Nat) : Nat → Nat → Poly → Poly
  | 0, _, a => a
  | d + 1, k, a =>
    let h := a.length / 2
    let lo := nttBack q zi d (2 * k) (a.take h)
    let hi := nttBack q zi d (2 * k + 1) (a.drop h)
    polyAdd q lo hi ++ (polySub q lo hi).map (fun x => zi k * x % q)

/-- Values of `c` bits each packed, first lowest (the packings of both standards). -/
def packBits (c n : Nat) (vs : List Nat) : Bytes := leBytes (n * c / 8) (vs.foldr (fun v a => v % 2 ^ c + 2 ^ c * a) 0)

def unpackAux (c : Nat) : Nat → Nat → List Nat
  | 0, _ => []
  | n + 1, v => v % 2 ^ c :: unpackAux c n (v / 2 ^ c)

/-- `n` values of `c` bits each. -/
def unpackBits (c n : Nat) (b : Bytes) : List Nat := unpackAux c n (leNat b)

/-- Groups of three bytes as little-endian numbers. -/
def triples : Bytes → List (Nat × Nat × Nat)
  | a :: b :: c :: r => (a.toNat, b.toNat, c.toNat) :: triples r
  | _ => []

/-- A list cut or padded with zeros to 256 coefficients. -/
def poly256 (l : List Nat) : Poly := l.take 256 ++ List.replicate (256 - l.length) 0

/-! ML-DSA. -/

def dsaQ : Nat := 8380417

/-- A parameter set of FIPS 204. -/
structure DsaSet where
  k : Nat
  l : Nat
  eta : Nat
  tau : Nat
  gamma1Bits : Nat
  gamma2 : Nat
  omega : Nat
  ctLen : Nat
  pkLen : Nat
  skLen : Nat
  sigLen : Nat

def mlDsa44 : DsaSet := ⟨4, 4, 2, 39, 17, (dsaQ - 1) / 88, 80, 32, 1312, 2560, 2420⟩
def mlDsa65 : DsaSet := ⟨6, 5, 4, 49, 19, (dsaQ - 1) / 32, 55, 48, 1952, 4032, 3309⟩
def mlDsa87 : DsaSet := ⟨8, 7, 2, 60, 19, (dsaQ - 1) / 32, 75, 64, 2592, 4896, 4627⟩

/-- The zetas 1753^bitrev8(k), and their inverses. -/
def dsaZetas : Array Nat := Array.ofFn (n := 256) (fun k => powMod 1753 (bitRev 8 k.val) dsaQ)
def dsaInvs : Array Nat := Array.ofFn (n := 256) (fun k => powMod 1753 (512 - bitRev 8 k.val) dsaQ)

def dsaNtt (a : Poly) : Poly := nttFwd dsaQ (fun k => dsaZetas.getD k 0) 8 1 a
def dsaInv (a : Poly) : Poly := (nttBack dsaQ (fun k => dsaInvs.getD k 0) 8 1 a).map (fun x => x * 8347681 % dsaQ)
def dsaMul (a b : Poly) : Poly := List.zipWith (fun x y => x * y % dsaQ) a b
def dsaZero : Poly := List.replicate 256 0

/-- A row of a matrix times a vector, in the transform domain. -/
def dsaDot (r v : List Poly) : Poly := (List.zipWith dsaMul r v).foldl (polyAdd dsaQ) dsaZero

/-- The symmetric residue. -/
def dsaCent (q x : Nat) : Int := if x ≤ q / 2 then (x : Int) else (x : Int) - q

/-- A signed value modulo q. -/
def dsaMod (x : Int) : Nat := (x % (dsaQ : Int)).toNat

/-- The largest absolute value of the coefficients. -/
def dsaNorm (a : Poly) : Nat := a.foldl (fun m x => max m (dsaCent dsaQ x).natAbs) 0

/-- RejNTTPoly. -/
def dsaRejNtt (seed : Bytes) : Poly :=
  poly256 (((triples (shake128 1008 seed)).map (fun t => t.1 + 256 * t.2.1 + 65536 * (t.2.2 % 128))).filter (fun z => decide (z < dsaQ)))

/-- ExpandA. -/
def dsaExpandA (p : DsaSet) (rho : Bytes) : List (List Poly) :=
  (List.range p.k).map (fun r => (List.range p.l).map (fun s => dsaRejNtt (rho ++ [BitVec.ofNat 8 s, BitVec.ofNat 8 r])))

/-- RejBoundedPoly. -/
def dsaRejBounded (eta : Nat) (seed : Bytes) : Poly :=
  let nib := ((shake256 816 seed).map (fun b => [b.toNat % 16, b.toNat / 16])).flatten
  let ok := nib.filter (fun b => decide (b < if eta = 2 then 15 else 9))
  poly256 (ok.map (fun b => subMod eta (if eta = 2 then b % 5 else b) dsaQ))

/-- ExpandS: s1 then s2. -/
def dsaExpandS (p : DsaSet) (rho : Bytes) : List Poly × List Poly :=
  let f := fun r => dsaRejBounded p.eta (rho ++ leBytes 2 r)
  ((List.range p.l).map f, (List.range p.k).map (fun r => f (r + p.l)))

/-- BitPack of coefficients w as b − w in `c` bits. -/
def dsaPack (c b : Nat) (a : Poly) : Bytes := packBits c 256 (a.map (fun x => subMod b x dsaQ))
/-- BitUnpack. -/
def dsaUnpack (c b : Nat) (bs : Bytes) : Poly := (unpackBits c 256 bs).map (fun v => subMod b v dsaQ)

/-- A string cut into `n` parts of `k` bytes. -/
def parts (k n : Nat) (b : Bytes) : List Bytes := blocks k n b

/-- Power2Round: t1 and t0 modulo q. -/
def dsaPower2 (x : Nat) : Nat × Nat :=
  let r := x % 8192
  let r0 : Int := if r ≤ 4096 then (r : Int) else (r : Int) - 8192
  (((x : Int) - r0).toNat / 8192, dsaMod r0)

/-- Bits of a packed secret coefficient. -/
def DsaSet.etaBits (p : DsaSet) : Nat := if p.eta = 2 then 3 else 4

/-- Key generation from the seed ξ: public key, secret key. -/
def dsaKeyGen (p : DsaSet) (xi : Bytes) : Bytes × Bytes :=
  let e := shake256 128 (xi ++ [BitVec.ofNat 8 p.k, BitVec.ofNat 8 p.l])
  let rho := e.take 32
  let s := dsaExpandS p (slice e 32 64)
  let s1h := s.1.map dsaNtt
  let t := List.zipWith (fun row s2 => polyAdd dsaQ (dsaInv (dsaDot row s1h)) s2) (dsaExpandA p rho) s.2
  let pr := t.map (fun a => a.map dsaPower2)
  let pk := rho ++ (pr.map (fun a => packBits 10 256 (a.map (·.1)))).flatten
  let sk := rho ++ e.drop 96 ++ shake256 64 pk ++ (s.1.map (dsaPack p.etaBits p.eta)).flatten ++ (s.2.map (dsaPack p.etaBits p.eta)).flatten
    ++ (pr.map (fun a => dsaPack 13 4096 (a.map (·.2)))).flatten
  (fitTo p.pkLen pk, fitTo p.skLen sk)

/-- Decompose: r1 and signed r0. -/
def dsaDecompose (g2 x : Nat) : Nat × Int :=
  let m := x % (2 * g2)
  let r0 : Int := if m ≤ g2 then (m : Int) else (m : Int) - 2 * g2
  if (x : Int) - r0 = dsaQ - 1 then (0, r0 - 1) else (((x : Int) - r0).toNat / (2 * g2), r0)

def dsaHigh (g2 : Nat) (a : Poly) : Poly := a.map (fun x => (dsaDecompose g2 x).1)
def dsaLowNorm (g2 : Nat) (a : Poly) : Nat := a.foldl (fun m x => max m (dsaDecompose g2 x).2.natAbs) 0

/-- UseHint. -/
def dsaUseHint (g2 : Nat) (h : Bool) (x : Nat) : Nat :=
  let m := (dsaQ - 1) / (2 * g2)
  let d := dsaDecompose g2 x
  if h then (if 0 < d.2 then (d.1 + 1) % m else (d.1 + m - 1) % m) else d.1

/-- w1Encode. -/
def dsaW1 (p : DsaSet) (w : List Poly) : Bytes :=
  let c := if p.gamma2 = (dsaQ - 1) / 88 then 6 else 4
  (w.map (packBits c 256)).flatten

/-- The walk of SampleInBall: position i, bytes left, sign bits, the polynomial. -/
def dsaBall : Nat → Nat → Bytes → Nat → List Nat → Poly
  | 0, _, _, _, c => c
  | n + 1, i, bs, sg, c =>
    if 255 < i then c
    else match bs with
      | [] => c
      | b :: r =>
        if i < b.toNat then dsaBall n i r sg c
        else dsaBall n (i + 1) r (sg / 2) ((c.set i (c.getD b.toNat 0)).set b.toNat (if sg % 2 = 1 then dsaQ - 1 else 1))

/-- SampleInBall. -/
def dsaSample (p : DsaSet) (ct : Bytes) : Poly :=
  let s := shake256 544 ct
  dsaBall 536 (256 - p.tau) (s.drop 8) (leNat (s.take 8)) dsaZero

/-- ExpandMask. -/
def dsaMask (p : DsaSet) (rho : Bytes) (mu : Nat) : List Poly :=
  let c := p.gamma1Bits + 1
  (List.range p.l).map (fun r => dsaUnpack c (2 ^ p.gamma1Bits) (shake256 (32 * c) (rho ++ leBytes 2 (mu + r))))

/-- HintBitPack. -/
def dsaHintPack (p : DsaSet) (h : List (List Bool)) : Bytes :=
  let pos := h.map (fun a => ((List.range 256).filter (fun j => a.getD j false)))
  let cnt := (List.range p.k).map (fun i => ((pos.take (i + 1)).map List.length).sum)
  fitTo p.omega (pos.flatten.map (BitVec.ofNat 8)) ++ cnt.map (BitVec.ofNat 8)

/-- Do the numbers strictly rise? -/
def rising : List Nat → Bool
  | a :: b :: r => decide (a < b) && rising (b :: r)
  | _ => true

/-- The polynomials of HintBitUnpack, from polynomial `i` on; none where malformed. -/
def dsaHintGo (p : DsaSet) (y : Bytes) : Nat → Nat → Nat → Option (List (List Bool))
  | 0, _, idx => if allZero (slice y idx (p.omega - idx)) then some [] else none
  | n + 1, i, idx =>
    let e := (y.getD (p.omega + i) 0).toNat
    let ps := (slice y idx (e - idx)).map BitVec.toNat
    if e < idx ∨ p.omega < e ∨ ¬ rising ps then none
    else (dsaHintGo p y n (i + 1) e).map (fun r => ((List.range 256).map (fun j => ps.contains j)) :: r)

/-- The message M′ of the pure variant. -/
def dsaMsg (ctx m : Bytes) : Bytes := [0, BitVec.ofNat 8 ctx.length] ++ ctx ++ m

/-- Verification of a signature of the right length under a key of the right length. -/
def dsaVerify (p : DsaSet) (pk ctx m sig : Bytes) : Bool :=
  let zl := 32 * (p.gamma1Bits + 1)
  let ct := sig.take p.ctLen
  let z := (parts zl p.l (sig.drop p.ctLen)).map (dsaUnpack (p.gamma1Bits + 1) (2 ^ p.gamma1Bits))
  match dsaHintGo p (sig.drop (p.ctLen + zl * p.l)) p.k 0 0 with
  | none => false
  | some h =>
    if (z.map dsaNorm).any (fun n => decide (2 ^ p.gamma1Bits - p.tau * p.eta ≤ n)) then false
    else
      let mu := shake256 64 (shake256 64 pk ++ dsaMsg ctx m)
      let c := dsaNtt (dsaSample p ct)
      let zh := z.map dsaNtt
      let t1 := (parts 320 p.k (pk.drop 32)).map (fun b => dsaNtt ((unpackBits 10 256 b).map (fun v => v * 8192 % dsaQ)))
      let w := List.zipWith (fun row t => dsaInv (polySub dsaQ (dsaDot row zh) (dsaMul c t))) (dsaExpandA p (pk.take 32)) t1
      let w1 := List.zipWith (fun a hh => List.zipWith (fun x b => dsaUseHint p.gamma2 b x) a hh) w h
      shake256 p.ctLen (mu ++ dsaW1 p w1) == ct

/-- What the signing loop keeps fixed. -/
structure DsaSigner where
  a : List (List Poly)
  s1 : List Poly
  s2 : List Poly
  t0 : List Poly
  mu : Bytes
  rho : Bytes

/-- The signing loop over at most `n` attempts: signature and attempts used. -/
def dsaSignLoop (p : DsaSet) (g : DsaSigner) : Nat → Nat → Nat → Bytes × Nat
  | 0, _, att => ([], att)
  | n + 1, kappa, att =>
    let y := dsaMask p g.rho kappa
    let yh := y.map dsaNtt
    let w := g.a.map (fun row => dsaInv (dsaDot row yh))
    let ct := shake256 p.ctLen (g.mu ++ dsaW1 p (w.map (dsaHigh p.gamma2)))
    let c := dsaNtt (dsaSample p ct)
    let z := List.zipWith (fun a s => polyAdd dsaQ a (dsaInv (dsaMul c s))) y g.s1
    let r := List.zipWith (fun a s => polySub dsaQ a (dsaInv (dsaMul c s))) w g.s2
    let beta := p.tau * p.eta
    if (z.map dsaNorm).any (fun m => decide (2 ^ p.gamma1Bits - beta ≤ m)) || (r.map (dsaLowNorm p.gamma2)).any (fun m => decide (p.gamma2 - beta ≤ m)) then
      dsaSignLoop p g n (kappa + p.l) (att + 1)
    else
      let ct0 := g.t0.map (fun t => dsaInv (dsaMul c t))
      let h := List.zipWith (fun a t => List.zipWith (fun x y => decide ((dsaDecompose p.gamma2 x).1 ≠ (dsaDecompose p.gamma2 ((x + y) % dsaQ)).1)) a t) r ct0
      if (ct0.map dsaNorm).any (fun m => decide (p.gamma2 ≤ m)) || decide (p.omega < (h.map (fun a => a.countP id)).sum) then
        dsaSignLoop p g n (kappa + p.l) (att + 1)
      else (ct ++ (z.map (dsaPack (p.gamma1Bits + 1) (2 ^ p.gamma1Bits))).flatten ++ dsaHintPack p h, att + 1)

/-- Hedged signing with 32 random bytes: signature and attempts. -/
def dsaSign (p : DsaSet) (sk ctx m rnd : Bytes) : Bytes × Nat :=
  let eb := 32 * p.etaBits
  let mu := shake256 64 (slice sk 64 64 ++ dsaMsg ctx m)
  let g : DsaSigner :=
    { a := dsaExpandA p (sk.take 32)
      s1 := (parts eb p.l (sk.drop 128)).map (fun b => dsaNtt (dsaUnpack p.etaBits p.eta b))
      s2 := (parts eb p.k (sk.drop (128 + eb * p.l))).map (fun b => dsaNtt (dsaUnpack p.etaBits p.eta b))
      t0 := (parts 416 p.k (sk.drop (128 + eb * (p.l + p.k)))).map (fun b => dsaNtt (dsaUnpack 13 4096 b))
      mu := mu
      rho := shake256 64 (slice sk 32 32 ++ rnd ++ mu) }
  let r := dsaSignLoop p g 814 0 0
  (fitTo p.sigLen r.1, r.2)

/-! ML-KEM-768. -/

def kemQ : Nat := 3329

def kemZetas : Array Nat := Array.ofFn (n := 128) (fun k => powMod 17 (bitRev 7 k.val) kemQ)
def kemInvs : Array Nat := Array.ofFn (n := 128) (fun k => powMod 17 (256 - bitRev 7 k.val) kemQ)

def kemNtt (a : Poly) : Poly := nttFwd kemQ (fun k => kemZetas.getD k 0) 7 1 a
def kemInv (a : Poly) : Poly := (nttBack kemQ (fun k => kemInvs.getD k 0) 7 1 a).map (fun x => x * 3303 % kemQ)

/-- Products of pairs modulo X^2 − γ_i. -/
def kemMulGo (i : Nat) : Poly → Poly → Poly
  | a0 :: a1 :: ar, b0 :: b1 :: br =>
    let gm := powMod 17 (2 * bitRev 7 i + 1) kemQ
    (a0 * b0 + a1 * b1 % kemQ * gm) % kemQ :: (a0 * b1 + a1 * b0) % kemQ :: kemMulGo (i + 1) ar br
  | _, _ => []

def kemMul (a b : Poly) : Poly := kemMulGo 0 a b
def kemDot (r v : List Poly) : Poly := (List.zipWith kemMul r v).foldl (polyAdd kemQ) dsaZero

/-- SampleNTT. -/
def kemSample (seed : Bytes) : Poly :=
  poly256 ((((triples (shake128 1008 seed)).map (fun t => [t.1 + 256 * (t.2.1 % 16), t.2.1 / 16 + 16 * t.2.2])).flatten).filter (fun d => decide (d < kemQ)))

/-- Entry (i, j) of the matrix. -/
def kemA (rho : Bytes) (i j : Nat) : Poly := kemSample (rho ++ [BitVec.ofNat 8 j, BitVec.ofNat 8 i])

/-- SamplePolyCBD with η = 2. -/
def kemCbd (s : Bytes) (n : Nat) : Poly :=
  (unpackBits 4 256 (shake256 128 (s ++ [BitVec.ofNat 8 n]))).map (fun v => subMod (v % 2 + v / 2 % 2) (v / 4 % 2 + v / 8) kemQ)

def kemCompress (d x : Nat) : Nat := (2 ^ (d + 1) * x + kemQ) / (2 * kemQ) % 2 ^ d
def kemDecompress (d y : Nat) : Nat := (2 * kemQ * y + 2 ^ d) / 2 ^ (d + 1)

/-- Key generation from d and z: encapsulation key (1,184 bytes), decapsulation key (2,400 bytes). -/
def kemKeyGen (d z : Bytes) : Bytes × Bytes :=
  let g := sha3_512 (d ++ [3])
  let rho := g.take 32
  let sg := g.drop 32
  let s := (List.range 3).map (fun n => kemNtt (kemCbd sg n))
  let e := (List.range 3).map (fun n => kemNtt (kemCbd sg (n + 3)))
  let t := (List.range 3).map (fun i => polyAdd kemQ (kemDot ((List.range 3).map (kemA rho i)) s) (e.getD i []))
  let ek := (t.map (packBits 12 256)).flatten ++ rho
  (ek, (s.map (packBits 12 256)).flatten ++ ek ++ sha3_256 ek ++ z)

/-- K-PKE.Encrypt. -/
def kemEncrypt (ek m r : Bytes) : Bytes :=
  let t := (parts 384 3 ek).map (unpackBits 12 256)
  let rho := ek.drop 1152
  let y := (List.range 3).map (fun n => kemNtt (kemCbd r n))
  let u := (List.range 3).map (fun i => polyAdd kemQ (kemInv (kemDot ((List.range 3).map (fun j => kemA rho j i)) y)) (kemCbd r (i + 3)))
  let mu := (unpackBits 1 256 m).map (kemDecompress 1)
  let v := polyAdd kemQ (polyAdd kemQ (kemInv (kemDot t y)) (kemCbd r 6)) mu
  (u.map (fun a => packBits 10 256 (a.map (kemCompress 10)))).flatten ++ packBits 4 256 (v.map (kemCompress 4))

/-- Encapsulation with the random message m: shared key, ciphertext (1,088 bytes). -/
def kemEncaps (ek m : Bytes) : Bytes × Bytes :=
  let g := sha3_512 (m ++ sha3_256 ek)
  (g.take 32, kemEncrypt ek m (g.drop 32))

/-- K-PKE.Decrypt. -/
def kemDecrypt (dk c : Bytes) : Bytes :=
  let u := (parts 320 3 c).map (fun b => (unpackBits 10 256 b).map (kemDecompress 10))
  let v := (unpackBits 4 256 (c.drop 960)).map (kemDecompress 4)
  let s := (parts 384 3 dk).map (unpackBits 12 256)
  packBits 1 256 ((polySub kemQ v (kemInv (kemDot s (u.map kemNtt)))).map (kemCompress 1))

/-- Decapsulation, with implicit rejection. -/
def kemDecaps (dk c : Bytes) : Bytes :=
  let m := kemDecrypt dk c
  let g := sha3_512 (m ++ slice dk 2336 32)
  if kemEncrypt (slice dk 1152 1184) m (g.drop 32) = c then g.take 32 else shake256 32 (slice dk 2368 32 ++ c)

/-- The modulus check of FIPS 203, 7.2. -/
def kemEkOk (ek : Bytes) : Bool := (unpackBits 12 768 (ek.take 1152)).all (fun c => decide (c < kemQ))
/-- The hash check of FIPS 203, 7.3. -/
def kemDkOk (dk : Bytes) : Bool := sha3_256 (slice dk 1152 1184) == slice dk 2336 32

end Sys2Proof.Machine
end

