-- ==== Sys2Proof/Machine/LedgerOps.lean ====
section
/-! DEFINITION. Chain entries, frame trees, tick records, sheets and proof bundles as bytes (chapters 04 and 05), and the arithmetic of secure time. -/

namespace Sys2Proof.Machine

/-! The chain (R114 to R118). -/

def Header.flags (h : Header) : Nat :=
  b2n h.marksFromHost + 2 * b2n h.sigVerified + 4 * b2n h.stored + 8 * b2n h.autoOpen + 16 * b2n h.rebind

/-- The 192-byte header (R114). -/
def Header.bytes (h : Header) : Bytes :=
  leBytes 2 1 ++ leBytes 1 h.kind ++ leBytes 1 h.status ++ leBytes 4 h.tab ++ leBytes 8 h.seq ++ leBytes 8 h.source.toNat ++
  leBytes 2 h.template ++ leBytes 1 h.group ++ leBytes 1 h.sigAlg ++ leBytes 4 h.epoch ++ leBytes 8 h.captureStart ++ leBytes 4 h.duration ++
  leBytes 2 h.frameCount ++ leBytes 2 h.flags ++ leBytes 4 h.dataLength ++ leBytes 1 h.cause ++ zeros 3 ++ leBytes 8 h.admitTime ++
  fitTo 48 h.frameRoot ++ fitTo 48 h.sigDigest ++ leBytes 2 h.applet ++ zeros 2 ++ leBytes 4 h.indexCount ++ zeros 24

/-- chain_0 of a tab (R117). -/
def State.chain0 (s : State) (t : Nat) : Bytes := sha384 (s.unitId ++ leBytes 1 s.lifeCount ++ leBytes 4 t)

/-- CHAIN_HEAD after entry NEXT_SEQ − 1. -/
def State.headOfTab (s : State) (t : Nat) : Bytes := if (s.tab t).nextSeq = 1 then s.chain0 t else (s.tab t).chainHead

/-- DURABLE_HEAD. -/
def State.durableHeadOf (s : State) (t : Nat) : Bytes := if (s.tab t).durable = 0 then s.chain0 t else (s.tab t).durableHead

/-- ct_hash of R117. -/
def ctHash (stored : Bool) (cipher : Bytes) : Bytes := sha384 (if stored then cipher else [])

/-- chain_n of R117. -/
def chainNext (head header ct : Bytes) : Bytes := sha384 (head ++ header ++ ct)

/-- SEAL_REF: crate in bits 63 to 32, slot in bits 31 to 0. -/
def sealRef (crate slot : Nat) : Nat := crate * 2 ^ 32 + slot

/-- RECORD_LENGTH (R118). -/
def Entry.recordLength (e : Entry) : Nat := roundUp (312 + e.sig.length) 8

/-- A chain entry record (R118). -/
def Entry.record (e : Entry) : Bytes :=
  e.hdr.bytes ++ fitTo 48 e.ctHash ++ fitTo 48 e.chain ++ leBytes 8 (if e.hdr.stored then sealRef e.crate e.slot else 0) ++ leBytes 8 e.commitTick ++
    leBytes 2 e.sig.length ++ zeros 2 ++ leBytes 4 e.recordLength ++ pad8 e.sig

/-- The kept entry of a tab and sequence number. -/
def State.entry? (s : State) (t n : Nat) : Option Entry := s.tabs.entries.find? (fun e => e.hdr.tab == t && e.hdr.seq == n)

/-- The entries of a tab that a tick covers, in sequence order. -/
def State.entriesOf (s : State) (t tick : Nat) : List Entry := s.tabs.entries.filter (fun e => e.hdr.tab == t && e.commitTick == tick)

/-- An index record (R184). -/
def IndexRec.bytes (r : IndexRec) (tab seq tick : Nat) : Bytes :=
  leBytes 4 tab ++ leBytes 2 r.kind ++ zeros 2 ++ leBytes 8 seq ++ leBytes 4 r.frame ++ zeros 4 ++ leBytes 8 tick ++ fitTo 32 r.value

/-! Trees (R133, R144). -/

/-- The largest power of two below `n`, for `n` ≥ 2. -/
def splitAt_ (n : Nat) : Nat := 2 ^ Nat.log2 (n - 1)

/-- The Merkle Tree Hash of RFC 9162 with SHA-384, over at most 2^depth leaves. -/
def mthGo : Nat → List Bytes → Bytes
  | 0, l => sha384 (0x00 :: l.headD [])
  | d + 1, l =>
    match l with
    | [] => sha384 []
    | [x] => sha384 (0x00 :: x)
    | _ => let k := splitAt_ l.length; sha384 (0x01 :: (mthGo d (l.take k) ++ mthGo d (l.drop k)))

def mth (l : List Bytes) : Bytes := mthGo (log2Up l.length) l

/-- The siblings of leaf `i` from leaf to root. -/
def pathGo : Nat → Nat → List Bytes → List Bytes
  | 0, _, _ => []
  | d + 1, i, l =>
    if l.length ≤ 1 then []
    else
      let k := splitAt_ l.length
      if i < k then pathGo d i (l.take k) ++ [mthGo d (l.drop k)] else pathGo d (i - k) (l.drop k) ++ [mthGo d (l.take k)]

def mthPath (i : Nat) (l : List Bytes) : List Bytes := pathGo (log2Up l.length) i l

/-- One step of root_from_path (R151): the place f, the last index s, the hash r; none where it fails. -/
def pathStep (st : Option (Nat × Nat × Bytes)) (p : Bytes) : Option (Nat × Nat × Bytes) :=
  match st with
  | none => none
  | some (f, s, r) =>
    if s = 0 then none
    else if f % 2 = 1 ∨ f = s then
      let z := if f % 2 = 1 ∨ f = 0 then 0 else (List.range 64).countP (fun i => f % 2 ^ (i + 1) == 0)
      some (f / 2 ^ z / 2, s / 2 ^ z / 2, sha384 (0x01 :: (p ++ r)))
    else some (f / 2, s / 2, sha384 (0x01 :: (r ++ p)))

/-- root_from_path (R151). -/
def rootFromPath (leaf : Bytes) (i n : Nat) (path : List Bytes) : Option Bytes :=
  match path.foldl pathStep (some (i, n - 1, sha384 (0x00 :: leaf))) with
  | some (_, 0, r) => some r
  | _ => none

/-- The frames of a segment: (offset, length) from each mark to the next (R144). -/
def framesOf (len : Nat) : List Nat → List (Nat × Nat)
  | [] => []
  | [a] => [(a, len - a)]
  | a :: b :: r => (a, b - a) :: framesOf len (b :: r)

/-- A frame leaf (R144). -/
def frameLeaf (data : Bytes) (i : Nat) (f : Nat × Nat) : Bytes :=
  leBytes 4 i ++ leBytes 4 f.1 ++ leBytes 4 f.2 ++ zeros 4 ++ sha384 (slice data f.1 f.2)

/-- The frame leaves of a segment. -/
def frameLeaves (data : Bytes) (marks : List Nat) : List Bytes :=
  let fs := framesOf data.length marks
  (List.range fs.length).map (fun i => frameLeaf data i (fs.getD i (0, 0)))

/-! Tick records (R132 to R138, R150). -/

/-- The absence marker (R132). -/
def absent (t n : Nat) : Bytes := sha384 (0x02 :: (leBytes 4 t ++ leBytes 8 n))

/-- v_t of a tick with the given heads. -/
def leafValue (heads : List (Nat × Bytes)) (tick t : Nat) : Bytes :=
  match heads.find? (fun p => p.1 == t) with
  | some p => p.2
  | none => absent t tick

/-- The leaves d[t] of a tick. -/
def tickLeaves (heads : List (Nat × Bytes)) (tick : Nat) : List Bytes :=
  (List.range Config.tabs).map (fun t => leBytes 4 t ++ leafValue heads tick t)

/-- The tick root (R133). -/
def tickRoot (heads : List (Nat × Bytes)) (tick : Nat) : Bytes := mth (tickLeaves heads tick)

/-- The events of a record as bytes. -/
def TickRecord.eventBytes (r : TickRecord) : Bytes := (r.events.map TickEvent.bytes).flatten

/-- Bytes 0 to SIGNED_LENGTH − 1 of a record (R134, R137). -/
def TickRecord.message (r : TickRecord) (unitId : Bytes) : Bytes :=
  let ev := r.eventBytes
  let b := r.at_
  leBytes 2 1 ++ leBytes 2 (b2n r.resealed + 2 * b2n b.uncertain + 4 * b2n b.slewing + 8 * b2n r.restart) ++ leBytes 1 b.mode ++ leBytes 1 r.lifecycle ++ zeros 2 ++
  leBytes 8 b.tick ++ leBytes 8 b.boundary ++ leBytes 8 r.prevBoundary ++ fitTo 16 unitId ++ leBytes 4 Config.tabs ++ leBytes 4 r.presentCount ++
  leBytes 4 b.periodMs ++ zeros 4 ++ leBytes 8 r.entryCount ++ leBytes 8 b.step ++ leBytes 8 (ofSigned 64 b.applied) ++ zeros 40 ++
  fitTo 48 r.prevHash ++ fitTo 48 r.root ++ fitTo 48 r.signerId ++ leBytes 4 ev.length ++ leBytes 4 (288 + ev.length) ++ leBytes 4 (288 + ev.length + 3408) ++ zeros 4 ++ ev

/-- A record as stored and delivered. -/
def TickRecord.bytes (r : TickRecord) (unitId : Bytes) : Bytes := r.message unitId ++ fitTo 96 r.sigEcdsa ++ fitTo 3309 r.sigMldsa ++ zeros 3

/-- The record hash (R137). -/
def TickRecord.hash (r : TickRecord) (unitId : Bytes) : Bytes := sha384 (r.message unitId)

/-- PREV_HASH of tick 1 (R138). -/
def State.genesis (s : State) : Bytes := sha384 (s.unitId ++ leBytes 1 s.lifeCount)

def State.record? (s : State) (n : Nat) : Option TickRecord := s.ledger.records.find? (fun r => r.at_.tick == n)

/-- The record hash of tick `n`, or PREV_HASH of tick 1 for 0. -/
def State.recordHash (s : State) (n : Nat) : Bytes :=
  match s.record? n with
  | some r => r.hash s.unitId
  | none => s.genesis

/-- Byte `k` of the presence bitmap: bits for tabs 8k to 8k + 7. -/
def presenceByte (heads : List (Nat × Bytes)) (k : Nat) : Byte :=
  (List.range 8).foldl (fun b i => if heads.any (fun p => p.1 == 8 * k + i) then b ||| BitVec.ofNat 8 (2 ^ i) else b) 0

/-- A tick sheet body (R150). -/
def TickRecord.sheet (r : TickRecord) : Bytes :=
  leBytes 8 r.at_.tick ++ leBytes 4 Config.tabs ++ leBytes 4 r.presentCount ++ (List.range (Config.tabs / 8)).map (presenceByte r.heads) ++ (r.heads.map (fun p => fitTo 48 p.2)).flatten

/-! Items and bundles (R145, R148). -/

/-- A readout item: header and padded body (R145). -/
def item (type flags key : Nat) (body : Bytes) : Bytes := leBytes 2 type ++ leBytes 2 flags ++ leBytes 4 body.length ++ leBytes 8 key ++ pad8 body

/-- A proof bundle (R148). -/
structure Bundle where
  kind : Nat
  tab : Nat
  tick : Nat
  firstSeq : Nat := 0
  records : List Bytes := []
  leaves : List Bytes := []
  framePath : List Bytes := []
  startHead : Bytes := []
  leafPath : List Bytes
  record : Bytes
deriving DecidableEq, Repr

def Bundle.length (b : Bundle) : Nat :=
  112 + b.records.flatten.length + 64 * b.leaves.length + 48 * b.framePath.length + 48 * b.leafPath.length + b.record.length

def Bundle.bytes (b : Bundle) : Bytes :=
  leBytes 2 1 ++ leBytes 1 b.kind ++ leBytes 1 b.leafPath.length ++ leBytes 4 b.tab ++ leBytes 8 b.tick ++ leBytes 8 b.firstSeq ++ leBytes 4 b.records.length ++
  leBytes 4 b.records.flatten.length ++ leBytes 4 b.leaves.length ++ leBytes 1 b.framePath.length ++ zeros 3 ++ leBytes 4 b.record.length ++ leBytes 4 b.length ++ zeros 16 ++
  fitTo 48 b.startHead ++ b.records.flatten ++ b.leaves.flatten ++ b.framePath.flatten ++ b.leafPath.flatten ++ b.record

/-- The CHAIN of the entry before `n`, or chain_0; none where that record is not kept (R148). -/
def State.startHead (s : State) (t n : Nat) : Option Bytes :=
  if n ≤ 1 then some (s.chain0 t)
  else match s.entry? t (n - 1) with
    | some e => if e.lost then none else some e.chain
    | none => none

/-- The bundle over a run of entries of one tick, if the records it needs are kept and the record is there. -/
def State.entryBundle (s : State) (t tick first : Nat) (kind : Nat) (run : List Entry) (leaves path : List Bytes) : Option Bundle :=
  match s.record? tick, s.startHead t first with
  | some r, some h =>
    some { kind := kind, tab := t, tick := tick, firstSeq := first, records := run.map Entry.record, leaves := leaves, framePath := path
           startHead := h, leafPath := mthPath t (tickLeaves r.heads tick), record := r.bytes s.unitId }
  | _, _ => none

/-- The bundle of KIND ABSENCE for a tab and tick. -/
def State.absenceBundle (s : State) (t : Nat) (r : TickRecord) : Bundle :=
  { kind := 3, tab := t, tick := r.at_.tick, leafPath := mthPath t (tickLeaves r.heads r.at_.tick), record := r.bytes s.unitId }

/-! What verification checks inside the device (R146, R151): every link of the chain run, its leaf, the record's hash links and signatures. -/

/-- Run the record loop of R118 from a head: the last head, or none. -/
def runChain (t : Nat) : Bytes → Nat → List Entry → Option Bytes
  | h, _, [] => some h
  | h, n, e :: r =>
    if e.hdr.tab = t ∧ e.hdr.seq = n ∧ (e.hdr.sigAlg ≠ 0 → fitTo 48 e.hdr.sigDigest = sha384 e.sig) ∧ chainNext h e.hdr.bytes e.ctHash = e.chain ∧
        (e.hdr.stored → e.recordOnly ∨ e.ctHash = sha384 e.cipher) then runChain t e.chain (n + 1) r
    else none

/-- The body length that each event type has in R135; none for the types never written. -/
def eventBodyLen (type : Nat) : Option Nat :=
  match type with
  | 1 => some 64 | 2 => some 16 | 3 => some 64 | 4 => some 8 | 5 => some 8 | 6 => some 24 | 7 => some 8 | 8 => some 56 | 9 => some 56 | 10 => some 56
  | 11 => some 8 | 12 => some 96 | 13 => some 16 | 14 => some 56 | 15 => some 56 | _ => none

/-- The ECDSA and ML-DSA-65 public keys that a SIGNER_ID names: those of the pair in force or of a signer certificate (R134, R243). -/
def State.signerKeys (s : State) (id : Bytes) : Option (Bytes × Bytes) :=
  let pairs := (match s.vault.signing with | some p => [(p.ecdsaPub, p.mldsaPub)] | none => []) ++ s.vault.certs.map (fun c => (slice c.bytes 80 96, slice c.bytes 176 1952))
  pairs.find? (fun p => decide (sha384 (p.1 ++ p.2) = id))

/-- check_record of R151: the boundaries in order, the events well formed, the signer named by SIGNER_ID, and both signatures. Version and lengths hold by the record's form. -/
def State.checkRecord (s : State) (r : TickRecord) : Bool :=
  decide (r.prevBoundary < r.at_.boundary) && r.events.all (fun e => decide (eventBodyLen e.type = some e.body.length)) &&
    (match s.signerKeys r.signerId with
     | some (ec, ml) =>
       let m := r.message s.unitId
       (match p384.decode ec with
        | some q => p384.verify q (sha384 m) (beNat (r.sigEcdsa.take 48)) (beNat (slice r.sigEcdsa 48 48))
        | none => false) && dsaVerify mlDsa65 ml [] m r.sigMldsa
     | none => false)

/-- check_link of R151 between a record and its predecessor; the first record of a generation names PREV_HASH of tick 1 (R138). -/
def State.checkLink (s : State) (r : TickRecord) : Bool :=
  if r.at_.tick = 1 then decide (r.prevHash = s.genesis)
  else match s.record? (r.at_.tick - 1) with
    | some a => decide (r.prevHash = a.hash s.unitId) && decide (r.lifecycle = a.lifecycle) && decide (r.prevBoundary = a.at_.boundary + a.at_.step)
    | none => false

/-- Does a tab's leaf, holding `v`, lead to the root of a record (R133, R151)? -/
def TickRecord.leafHolds (r : TickRecord) (t : Nat) (v : Bytes) : Bool :=
  decide (rootFromPath (leBytes 4 t ++ v) t Config.tabs (mthPath t (tickLeaves r.heads r.at_.tick)) = some r.root)

/-- A durable record covers the tick. -/
def State.covered (s : State) (tick : Nat) : Bool := decide (tick ≤ s.ledger.durableTick) && (s.record? tick).isSome

/-- The tab's entries of a tick from number `n` on, RECORD_ONLY ones included. -/
def State.runFrom (s : State) (t tick n : Nat) : List Entry := (s.entriesOf t tick).filter (fun e => decide (n ≤ e.hdr.seq))

/-- What a check of evidence finds: every link holds, something it needs cannot be read, or a link fails (R58). -/
inductive RunCheck where
  | ok | media | proof
deriving DecidableEq, Repr

/-- The check of the links of a tab's run in a tick from entry `first` on: the chain, the leaf's path to the root, the record's signatures, and its link to the
record before it (R146, R151). `whole` says that all of the run must be readable, as for a bundle; otherwise the chain is followed up to the first entry that cannot be
read. A tick that no durable record covers yet has only its chain to check (log 106). -/
def State.checkRun (s : State) (t tick first : Nat) (whole : Bool) : RunCheck :=
  let run := s.runFrom t tick first
  let good := run.takeWhile (fun e => !e.lost)
  if whole && decide (good.length < run.length) then .media
  else match s.startHead t first with
    | none => .media
    | some h =>
      match runChain t h first good with
      | none => .proof
      | some head =>
        if good.length < run.length ∨ !s.covered tick then .ok
        else match s.record? tick with
          | none => .ok
          | some r => if r.leafHolds t head && s.checkRecord r && s.checkLink r then .ok else .proof

/-! Secure time (R127 to R130, R152 to R156). -/


/-- Counts of a tick period: a multiple of 250 ms is a whole number of them (R129). -/
def periodCounts (ms : Nat) : Nat := ms / 250 * 8192

/-- The first RTC count at which a boundary falls strictly above `t` (R129, R130). -/
def boundaryAfter (ms t : Nat) : Nat := (t / periodCounts ms + 1) * periodCounts ms

/-- TICK.NEXT_BOUNDARY: the next boundary, a pending step included (R161): the boundary itself, advanced by the step that applies at it. -/
def Ledger.nextShown (l : Ledger) : Nat := l.nextBoundary + l.stepPending.getD 0

/-- The stored value of TICK.PERIOD.MS (R158). -/
def periodStored (v : Nat) : Nat := clamp v 250 10000 / 250 * 250

/-- TICK.SLEW as a word: SHIFT has 4 bits, so 16 cannot be stored (log 16). -/
def Ledger.slewWord (l : Ledger) : Nat := put l.slewShift 16 4 + put l.slewMaxMs 0 16

/-- A boundary's journal copy of TIME values now (R143). -/
def State.boundaryNow (s : State) (tick boundary step periodMs : Nat) (events : List TickEvent) : Boundary :=
  { tick := tick, boundary := boundary, step := step, periodMs := periodMs, mode := s.power.mode.code, uncertain := s.ledger.uncertain
    slewing := decide (s.ledger.slewRemain ≠ 0), applied := s.ledger.applied + step, events := events }

/-- Event types that the journal keeps (R143). -/
def TickEvent.journalled (e : TickEvent) : Bool := [3, 4, 5, 8, 9, 0xA, 0xB, 0xE, 0xF].contains e.type

end Sys2Proof.Machine
end

