-- ==== Sys2Proof/Machine/FlashOps.lean ====
section
/-! DEFINITION. The array's geometry, lane blocks, crates: opening, reserving, placing, programming, closing, relocating, erasing (chapters 10 and 11). -/

namespace Sys2Proof.Machine

/-! The stored build description (R259, R260). -/

/-- Parameter page number of a target in a description; 0xFF for absent. -/
def descPageNo (desc : Bytes) (t : Nat) : Nat := if desc = [] then 0xFF else fld desc (128 + 2 * t) 1
def descPage (desc : Bytes) (t : Nat) : Bytes := slice desc (2176 + 512 * descPageNo desc t) 512
def descLoads (desc : Bytes) (c : Nat) : Nat := fld desc (16 + c) 1

/-- The geometry a parameter page gives. -/
structure Geo where
  luns : Nat
  planes : Nat
  pageBytes : Nat
  spare : Nat
  pages : Nat
  blocksPerLun : Nat
  peCycles : Nat
deriving DecidableEq, Repr

def geoOf (p : Bytes) : Geo :=
  { luns := fld p 2 1, planes := fld p 3 1, pageBytes := fld p 4 4, spare := fld p 8 2, pages := fld p 10 2, blocksPerLun := fld p 12 4, peCycles := fld p 184 4 }

def State.present (s : State) (t : Nat) : Bool := decide (t < 1024) && descPageNo s.flash.desc t != 0xFF
def State.page (s : State) (t : Nat) : Bytes := descPage s.flash.desc t
def State.geo (s : State) (t : Nat) : Geo := geoOf (s.page t)

/-- Blocks of one plane, and the lane-block indices a target offers: the highest 1/32 are substitutes (R271). -/
def Geo.blocks (g : Geo) : Nat := g.blocksPerLun / g.planes
def Geo.subs (g : Geo) : Nat := g.blocks / 32
def Geo.lanes (g : Geo) : Nat := g.blocks - g.subs
/-- L of R272. -/
def Geo.lanePage (g : Geo) : Nat := g.luns * g.planes * g.pageBytes

def chanTargets (c : Nat) : List Nat := (List.range 16).map (fun k => c * 16 + k)

/-- The lowest present target of a channel: it carries the system area in indices 0 to 7 (R271). -/
def State.areaTarget (s : State) (c : Nat) : Option Nat := (chanTargets c).find? s.present
def State.firstLane (s : State) (t : Nat) : Nat := if s.areaTarget (t / 16) = some t then 8 else 0

/-- Is the target in the pool: present and not lost? -/
def State.serves (s : State) (t : Nat) : Bool :=
  s.present t && ((s.target t).state == .inService || (s.target t).state == .paused || (s.target t).state == .recovering)

/-! Lane blocks (R274, R283, R296). -/

def laneKey (t b : Nat) : Nat := t * 2 ^ 19 + b
def noLane (_ : Nat) : LaneInfo := {}
def State.lane (s : State) (l : Lane) : LaneInfo := s.flash.lanes.get noLane (laneKey l.target l.block)
def State.setLane (s : State) (l : Lane) (v : LaneInfo) : State :=
  { s with flash := { s.flash with lanes := s.flash.lanes.set noLane (laneKey l.target l.block) v } }
/-- May the lane block be taken for a crate: it is never erased again at PE_CYCLES (R296). -/
def LaneInfo.free (pe : Nat) (i : LaneInfo) : Bool := !i.used && !i.retired && decide (i.erases < pe)

/-- The lane blocks of a target that stand in the list, as (block, info). -/
def State.listed (s : State) (t : Nat) : List (Nat × LaneInfo) :=
  (s.flash.lanes.filter (fun p => p.1 / 2 ^ 19 == t)).map (fun p => (p.1 % 2 ^ 19, p.2))

/-- The first block from `n` that a rising list does not name. -/
def firstGap : Nat → List (Nat × LaneInfo) → Nat
  | n, [] => n
  | n, (b, _) :: r => if b < n then firstGap n r else if b = n then firstGap (n + 1) r else n

/-- The free block of a target with the lowest erase count, the lowest index among equals: (erases, block). -/
def State.bestBlock (s : State) (t : Nat) : Option (Nat × Nat) :=
  let l := s.listed t
  let g := firstGap (s.firstLane t) l
  let pe := (s.geo t).peCycles
  if g < (s.geo t).lanes ∧ 0 < pe then some (0, g)
  else l.foldl (fun b p =>
    if p.2.free pe ∧ s.firstLane t ≤ p.1 then
      match b with
      | none => some (p.2.erases, p.1)
      | some (e, _) => if p.2.erases < e then some (p.2.erases, p.1) else b
    else b) none

/-- The lane block a channel offers: lowest erase count, then lowest target (R274). -/
def State.bestLane (s : State) (c : Nat) : Option Lane :=
  ((chanTargets c).foldl (fun b t =>
    if s.serves t then
      match s.bestBlock t, b with
      | some (e, k), none => some (e, { target := t, block := k : Lane })
      | some (e, k), some (e0, _) => if e < e0 then some (e, { target := t, block := k : Lane }) else b
      | none, _ => b
    else b) (none : Option (Nat × Lane))).map (·.2)

/-- Lane blocks for crates that a target brings, and those free. -/
def State.poolOf (s : State) (t : Nat) : Nat := if s.serves t then (s.geo t).lanes - s.firstLane t else 0
def State.freeOf (s : State) (t : Nat) : Nat :=
  let pe := (s.geo t).peCycles
  if s.serves t ∧ 0 < pe then s.poolOf t - ((s.listed t).filter (fun p => !p.2.free pe && decide (s.firstLane t ≤ p.1))).length else 0
def State.freeOn (s : State) (c : Nat) : Nat := ((chanTargets c).map s.freeOf).sum
def State.presentTargets (s : State) : List Nat := if s.flash.desc = [] then [] else (List.range 1024).filter s.present
/-- All lane blocks in service, and the free ones. -/
def State.poolTotal (s : State) : Nat := (s.presentTargets.map s.poolOf).sum
def State.freeTotal (s : State) : Nat := (s.presentTargets.map s.freeOf).sum
/-- The channels with their free lane blocks. -/
def State.freeChans (s : State) : List (Nat × Nat) := ((List.range 64).map (fun c => (c, s.freeOn c))).filter (fun p => decide (0 < p.2))

/-- The reserve in lane blocks (R283). -/
def State.reserveLanes (s : State) : Nat := (ceilDiv (ceilDiv (s.poolTotal * s.flash.reservePct) 100) 16 + 8) * 16
/-- Free lane blocks outside the reserve: the reserve is counted over the whole array (log 21). -/
def State.outside (s : State) : Nat := s.freeTotal - s.reserveLanes

/-- Can the free lane blocks, of which `n` may be used, form `k` crates, each over 16 channels? -/
def State.canForm (s : State) (n k : Nat) : Bool :=
  decide (16 * k ≤ n) && decide (16 * k ≤ ((s.freeChans.map (fun p => min p.2 k)).sum))

/-- Sixteen channels: those preferred first, then the ones with the most free lane blocks, lowest number among equals. -/
def State.pickChans (s : State) (prefer : Nat → Bool) : Option (List Nat) :=
  let f := s.freeChans
  let a := ((f.filter (fun p => prefer p.1)).map (·.1)).take 16
  let b := ((f.filter (fun p => !prefer p.1)).mergeSort (fun x y => decide (y.2 ≤ x.2))).map (·.1)
  let l := a ++ b.take (16 - a.length)
  if l.length = 16 then some l else none

/-- The mean erase count of the lane blocks in service, as thousandths of PE_CYCLES (R302). -/
def State.wearMean (s : State) : Nat :=
  let p := s.poolTotal
  if p = 0 then 0 else min 1000 (((s.flash.lanes.filter (fun q => s.serves (q.1 / 2 ^ 19))).map (fun q => q.2.erases * 1000 / max 1 (s.geo (q.1 / 2 ^ 19)).peCycles)).sum / p)

/-- WEAR_HIGH is raised when the mean reaches 90 % (R296). -/
def State.wearEvent (s old : State) : State := if old.wearMean < 900 ∧ 900 ≤ s.wearMean then s.devEvent 4 else s

/-- Erase a lane block: its count rises (R296). -/
def State.eraseLane (s : State) (l : Lane) : State :=
  let i := s.lane l
  (s.setLane l { i with erases := i.erases + 1, used := false, reads := 0 }).wearEvent s

/-- A lane block is retired once its crate has been reclaimed (R296). -/
def State.wearOut (s : State) (l : Lane) : State :=
  let s1 := s.setLane l { s.lane l with used := false, retired := true }
  { s1 with flash := { s1.flash with worn := sat 16 (s.flash.worn + 1) } }

/-- A crate gives a lane block back: it is erased, unless its target has left service or its erases have reached PE_CYCLES, and retired where they have (R296). -/
def State.releaseLane (s : State) (l : Lane) : State :=
  let pe := (s.geo l.target).peCycles
  if !s.serves l.target then s.setLane l { s.lane l with used := false }
  else
    let s1 := if (s.lane l).erases < pe then s.eraseLane l else s
    if pe ≤ (s1.lane l).erases then s1.wearOut l else s1

/-! Bad blocks (R271, R297, R298). -/

/-- Is a physical block in the bad-block table? -/
def State.isBad (s : State) (t lun plane block : Nat) : Bool := s.flash.bad.any (fun x => x.target == t && x.lun == lun && x.plane == plane && x.block == block)

/-- The substitute that stands for a block of a lane block, if any (R271). -/
def State.substitute (s : State) (t lun plane block : Nat) : Option SubBlock :=
  s.flash.subs.find? (fun x => x.target == t && x.lun == lun && x.plane == plane && x.block == block)

/-- The physical block of a lane block in a plane of a LUN (R270, R271). -/
def State.physical (s : State) (t lun plane block : Nat) : Nat := ((s.substitute t lun plane block).map SubBlock.by_).getD block

/-- A substitute of a LUN and plane that is neither bad nor in use: the lowest block number (R271; the choice among them is the model's, log 114). -/
def State.freeSub (s : State) (t lun plane : Nat) : Option Nat :=
  let g := s.geo t
  let taken := s.flash.subs.filter (fun x => x.target == t && x.lun == lun && x.plane == plane)
  (List.range' g.lanes (min g.subs (s.flash.bad.length + taken.length + 1))).find? (fun b => !s.isBad t lun plane b && !taken.any (fun x => x.by_ == b))

/-- A substitute takes the place of a block in its lane block; with none left the lane-block index is retired (R271, R298). -/
def State.replaceBlock (s : State) (t lun plane block : Nat) : State :=
  let rest := s.flash.subs.filter (fun x => !(x.target == t && x.lun == lun && x.plane == plane && x.block == block))
  let s1 := { s with flash := { s.flash with subs := rest } }
  match s1.freeSub t lun plane with
  | some b => { s with flash := { s.flash with subs := rest ++ [{ target := t, lun := lun, plane := plane, block := block, by_ := b }] } }
  | none => let l : Lane := { target := t, block := block }; s1.setLane l { s1.lane l with retired := true }

/-- A bad physical block enters the table, and what it served is replaced: a block of a lane block, or a substitute in use (R271, R297, R298). -/
def State.addBad (s : State) (t lun plane block : Nat) (grown : Bool) : State :=
  if s.isBad t lun plane block then s
  else
    let b : BadBlock := { target := t, lun := lun, plane := plane, block := block, grown := grown }
    let s1 := { s with flash := { s.flash with bad := s.flash.bad ++ [b], grown := if grown then sat 16 (s.flash.grown + 1) else s.flash.grown } }
    if block < (s.geo t).lanes then s1.replaceBlock t lun plane block
    else match s.flash.subs.find? (fun x => x.target == t && x.lun == lun && x.plane == plane && x.by_ == block) with
      | some x => s1.replaceBlock t lun plane x.block
      | none => s1

/-- Counts in thirty days. -/
def month : Nat := 30 * 86400 * 32768

/-- A block that needed step 5 twice in 30 days is retired once its crate has been reclaimed (R298). -/
def State.retireWeak (s : State) (l : Lane) : State :=
  let hit := fun (x : Nat × Nat × Nat) => x.1 == l.target && x.2.1 == l.block
  let n := s.flash.step5.countP (fun x => hit x && decide (s.now ≤ x.2.2 + month))
  let s1 := { s with flash := { s.flash with step5 := s.flash.step5.filter (fun x => !hit x) } }
  if 2 ≤ n then s1.addBad l.target 0 0 (s1.physical l.target 0 0 l.block) true else s1

/-- Take a lane block for a crate: erased and in use. -/
def State.takeLane (s : State) (l : Lane) : State :=
  let s1 := s.eraseLane l
  s1.setLane l { s1.lane l with used := true }

/-! Crates (R270 to R277). -/

def Crate.rowSlots (c : Crate) : Nat := 14 * c.lanePage / 512
def Crate.dataSlots (c : Crate) : Nat := 14 * c.lanePage * c.rows / 512
def Crate.summarySlots (c : Crate) (more : Nat) : Nat := ceilDiv (16 + 16 * (c.objects.length + more)) 512
def Crate.sealedUp (c : Crate) : Bool := c.objects.any (fun o => o.type == 7)
/-- Slots free after the summary and the reservations. -/
def Crate.room (c : Crate) (more : Nat) : Nat := c.dataSlots - (c.summarySlots more + c.nextSlot + c.reservedSlots)
/-- Takes placements: open, no lane lost, no summary written. -/
def Crate.takes (c : Crate) : Bool := c.state == .opened && c.lostLanes == [] && !c.sealedUp

def State.setCrates (s : State) (l : List Crate) : State := { s with flash := { s.flash with crates := l } }
def State.crate? (s : State) (id : Nat) : Option Crate := s.flash.crates.find? (fun c => c.id == id && c.state != .prepared)
def State.preparedOf (s : State) (st : Nat) : Option Crate := s.flash.crates.find? (fun c => c.state == .prepared && c.stream == st)
/-- Change the opened crate of an identifier. -/
def State.modCrate (s : State) (id : Nat) (f : Crate → Crate) : State :=
  s.setCrates (s.flash.crates.map (fun c => if c.id = id ∧ c.state ≠ .prepared then f c else c))
def State.modPrepared (s : State) (st : Nat) (f : Crate → Crate) : State :=
  s.setCrates (s.flash.crates.map (fun c => if c.state = .prepared ∧ c.stream = st then f c else c))

/-- A crate has its rows up to `n` programmed; the new ones carry the life-cycle count in force (R273). -/
def Crate.advance (life n : Nat) (c : Crate) : Crate :=
  { c with rowsProgrammed := n, lives := if c.rowsProgrammed < n ∧ (c.lives.getLast?.map (·.2)) ≠ some life then c.lives ++ [(c.rowsProgrammed, life)] else c.lives }

/-- The least of a list, 0 for none. -/
def least (l : List Nat) : Nat := l.foldl min (l.headD 0)

/-- A new crate over the lane blocks of sixteen channels, if there are any (R274). -/
def State.newCrate (s : State) (kind : CrateKind) (stream : Nat) (prefer : Nat → Bool) : Option (State × Crate) :=
  match s.pickChans prefer with
  | none => none
  | some cs =>
    let lanes := cs.filterMap s.bestLane
    let s1 := lanes.foldl State.takeLane s
    -- lane blocks of unequal geometry give the crate the smallest of them (log 22)
    some (s1, { id := 0, kind := kind, state := .prepared, stream := stream, lanes := lanes
                lanePage := least (lanes.map (fun l => (s.geo l.target).lanePage)), rows := least (lanes.map (fun l => (s.geo l.target).pages)) })

/-- Give a crate its identifier and open it (R275). -/
def State.openAs (s : State) (c : Crate) : State :=
  let n := s.flash.nextCrate
  { s with flash := { s.flash with crates := s.flash.crates ++ [{ c with id := n, state := .opened }], nextCrate := n % 0xFFFFFFFF + 1 } }

/-- Can an EVIDENCE crate open (R301)? -/
def State.evidenceSpace (s : State) : Bool := s.canForm s.outside 1

/-- Each stream prepares its next crate. -/
def State.prepare (s : State) (st : Nat) : State :=
  if (s.preparedOf st).isSome || !s.evidenceSpace then s
  else match s.newCrate .evidence st (fun c => c % 4 == st) with
    | some (s1, c) => s1.setCrates (s1.flash.crates ++ [c])
    | none => s

/-- Open the stream's prepared crate; the reservations in it go with it. -/
def State.openPrepared (s : State) (st : Nat) : State :=
  match s.preparedOf st with
  | none => s
  | some c =>
    let n := s.flash.nextCrate
    let s1 := (s.setCrates (s.flash.crates.filter (fun x => !(x.state == .prepared && x.stream == st)))).openAs c
    { s1 with host := { s1.host with tickets := s1.host.tickets.map (fun t => if t.crateTok ∧ t.crateStream = st ∧ t.crateId = 0 then { t with crateId := n } else t) } }

/-- The crates of a stream that take placements, oldest first. -/
def State.streamOpen (s : State) (st : Nat) : List Crate := s.flash.crates.filter (fun c => c.kind == .evidence && c.stream == st && c.takes)

/-- The stream has an open crate and a prepared one, where space allows. -/
def State.ensureStream (s : State) (st : Nat) : State :=
  let s1 := s.prepare st
  if s1.streamOpen st = [] then (s1.openPrepared st).prepare st else s1

/-- A ledger or relocation crate that takes placements, opened if needed, from the reserve too (R289). -/
def State.ensureKind (s : State) (k : CrateKind) : State :=
  if s.flash.crates.any (fun c => c.kind == k && c.takes) then s
  else match s.newCrate k 0 (fun _ => false) with
    | some (s1, c) => s1.openAs c
    | none => s

/-! Objects (R276, R277). -/

def Entry.objectLength (e : Entry) : Nat := e.recordLength + 64 * e.hdr.indexCount + if e.hdr.stored then e.cipher.length else 0
def slotsOf (bytes : Nat) : Nat := ceilDiv (16 + bytes) 512
def Obj.slots (o : Obj) : Nat := slotsOf o.length
def Obj.bytes (o : Obj) : Nat := 512 * o.slots

/-- An object's 16-byte header (R276). -/
def Obj.header (o : Obj) : Bytes := leBytes 1 o.type ++ leBytes 1 (b2n o.relocated) ++ leBytes 2 o.tab ++ leBytes 4 o.length ++ leBytes 8 o.key

/-- An object's line in the summary of its crate (R277). -/
def Obj.line (o : Obj) : Bytes := leBytes 1 o.type ++ leBytes 1 (b2n o.relocated) ++ leBytes 2 o.tab ++ leBytes 4 o.slot ++ leBytes 8 o.key

/-- What follows the chain entry record of an entry in its object: its index records, then ciphertext and tag (R276). -/
def Entry.rest (e : Entry) : Bytes := (e.indexRecs.map (fun r => r.bytes e.hdr.tab e.hdr.seq e.commitTick)).flatten ++ if e.hdr.stored then e.cipher else []

/-- The body of an object of a crate (R276): what its chapter defines, as the device holds it, or what is kept of it. -/
def State.objBody (s : State) (c : Crate) (o : Obj) : Bytes :=
  if o.old ∨ o.dead then o.kept
  else match o.type with
    | 1 => ((s.entry? o.tab o.key).map (fun e => e.record ++ e.rest)).getD []
    | 2 => ((s.entry? o.tab o.key).map Entry.record).getD []
    | 3 => ((s.vault.wraps.find? (fun w => w.group == o.tab && w.epoch == o.key)).map Wrap.bytes).getD []
    | 4 => ((s.record? o.key).map (fun r => r.bytes s.unitId)).getD []
    | 5 => ((s.record? o.key).map TickRecord.sheet).getD []
    | 6 => ((s.vault.certs.find? (fun x => x.index == o.key)).map SignerCert.bytes).getD []
    | 7 => ((c.objects.filter (fun x => x.slot != o.slot)).map Obj.line).flatten
    | _ => o.kept

/-- Write the summary of a crate (R277): it takes no more objects; a stream's prepared crate opens at the same instant. -/
def State.summarise (s : State) (id : Nat) : State :=
  match s.crate? id with
  | none => s
  | some c =>
    if c.sealedUp then s
    else
      let n := c.summarySlots 0
      let o : Obj := { type := 7, slot := c.nextSlot, length := 16 * c.objects.length }
      let s1 := s.modCrate id (fun c => { c with objects := c.objects ++ [o], nextSlot := c.nextSlot + n })
      if c.kind = .evidence then (((s1.prepare c.stream).openPrepared c.stream)).prepare c.stream else s1

/-- Slots a crate needs free to take one more of the largest objects: 4,263,936 bytes. -/
def closeSlots : Nat := 8328

/-- Close a crate that has too little left. What its reservations promise is placed first (log 23). -/
def State.maybeClose (s : State) (id : Nat) : State :=
  match s.crate? id with
  | none => s
  | some c => if c.takes && decide (c.reservedSlots = 0) && decide (c.room 1 < closeSlots) then s.summarise id else s

/-- Look at the open crate of every stream: one whose last reservations have gone back may have too little left. -/
def State.closeFullCrates (s : State) : State :=
  (List.range 4).foldl (fun s st => match (s.streamOpen st).head? with | some c => s.maybeClose c.id | none => s) s

/-- Count bytes filled into EVIDENCE crates (R302). -/
def State.fill (s : State) (k : CrateKind) (bytes : Nat) : State :=
  if k = .evidence then
    { s with flash := { s.flash with fillNow := s.flash.fillNow + bytes, fillStart := match s.flash.fillStart with | none => some s.now | some b => some b } }
  else s

/-- Put an object at the next free slot of a crate: its slot. -/
def State.placeIn (s : State) (c : Crate) (o : Obj) (tick : Nat) : State :=
  (s.modCrate c.id (fun c => { c with
    objects := c.objects ++ [{ o with slot := c.nextSlot }], nextSlot := c.nextSlot + o.slots
    firstTick := if c.firstTick = 0 then tick else min c.firstTick tick, lastTick := max c.lastTick tick })).fill c.kind o.bytes

/-- Place an object of kind `k` outside the streams; the crate is closed for a fresh one when it does not fit. -/
def State.placeKind (s : State) (k : CrateKind) (o : Obj) (tick : Nat) : Option (State × Nat × Nat) :=
  let s1 := s.ensureKind k
  match s1.flash.crates.find? (fun c => c.kind == k && c.takes && decide (o.slots ≤ c.room 1)) with
  | some c => some (s1.placeIn c o tick, c.id, c.nextSlot)
  | none =>
    let s2 := ((s1.flash.crates.filter (fun c => c.kind == k && c.takes)).foldl (fun s c => s.summarise c.id) s1).ensureKind k
    match s2.flash.crates.find? (fun c => c.kind == k && c.takes && decide (o.slots ≤ c.room 1)) with
    | some c => some (s2.placeIn c o tick, c.id, c.nextSlot)
    | none => none

/-! Protection (R282, R285). -/

/-- Is the object retained: live and not superseded (R282)? -/
def Obj.retained (o : Obj) : Bool := !o.dead && o.type != 7

/-- Is the object protected from reclaim (R282, R285, R289)? Entries of the owner generation by hold or watermark; a record whose successor is retained;
in a ledger crate every object but a sheet that has gone. -/
def State.protects (s : State) (o : Obj) : Bool :=
  o.retained && !o.old &&
    (match o.type with
     | 1 => decide ((s.tab o.tab).uploaded < o.key) || (match s.entry? o.tab o.key with | some e => s.heldAt o.tab e.commitTick | none => false)
     | 2 => decide ((s.tab o.tab).uploaded < o.key) || (match s.entry? o.tab o.key with | some e => s.heldAt o.tab e.commitTick | none => false)
     | 4 => true
     | 6 => true
     | _ => false)

/-- Must the record of the entry be kept as RECORD_ONLY: its successor is retained in another crate (R285)? -/
def State.needsRecord (s : State) (id : Nat) (o : Obj) : Bool :=
  (o.type == 1 || o.type == 2) && o.retained && !o.old && !s.protects o &&
    (match s.entry? o.tab (o.key + 1) with | some e => e.inCrate != id || s.protects { o with type := 1, key := o.key + 1 } | none => false)

def State.protectedBytes (s : State) (c : Crate) : Nat := ((c.objects.filter s.protects).map Obj.bytes).sum

/-- Crates are in age order: identifiers by serial-number arithmetic from the oldest (R275). The list keeps the order of opening. -/
def State.ringCrates (s : State) : List Crate := s.flash.crates.filter (fun c => (c.kind == .evidence || c.kind == .relocation) && c.state != .prepared)

/-- Modes in which the percolator moves objects: not REST, and in LOCKDOWN only for scrub and refresh (R292). -/
def State.percolates (s : State) : Bool := (s.power.mode == .service || s.power.mode == .holdover || s.power.mode == .catchup) && !s.power.warn && !s.power.pllSwitching
def State.scrubs (s : State) : Bool := s.percolates || (s.power.mode == .lockdown && !s.power.warn && !s.power.pllSwitching)

/-- A crate that is complete: closed, with or without lost lanes. -/
def Crate.complete (c : Crate) : Bool := c.state == .closed || c.state == .degraded || c.state == .exposed

/-- Data-space bytes of a crate. -/
def Crate.dataBytes (c : Crate) : Nat := 512 * c.dataSlots

/-- Crates of the ring that reclaim can take: those that are complete. -/
def State.reclaimables (s : State) : List Crate := s.ringCrates.filter Crate.complete

/-- Case 1 or 2 of R283; in REST only what needs no relocation. -/
def State.caseOneTwo (s : State) (c : Crate) : Bool :=
  let p := s.protectedBytes c
  if s.percolates then decide (p = 0) || decide (p * 100 ≤ s.flash.compactPct * c.dataBytes) else decide (p = 0) && !(c.objects.any (s.needsRecord c.id))

/-! Space in DDR4 and in the ring (R83, R301, R309). -/

/-- The controller runs: its memory can be read. -/
def State.ddrRuns (s : State) : Bool := s.ddr.state == .filling || s.ddr.state == .ready || s.ddr.state == .rekeying

/-- Bytes of all lane blocks in service. -/
def State.laneBytes (s : State) : Nat := (s.presentTargets.map (fun t => s.poolOf t * ((s.geo t).lanePage * (s.geo t).pages))).sum

/-- Data space of `n` lane blocks of mean size: 14 of 16 lanes hold data (R270). -/
def State.dataSpace (s : State) (n : Nat) : Nat := if s.poolTotal = 0 then 0 else n * s.laneBytes * 14 / (16 * s.poolTotal)

/-- Channels with memory. -/
def State.ddrPopulated (s : State) : List Nat := (List.range 4).filter (fun c => (s.ddrChan c).state != .absent)
def State.ddrInstalled (s : State) : Nat := (s.ddrPopulated.map (fun c => (s.ddrChan c).gib)).sum
/-- Bytes outside the MAC region. -/
def State.ddrUsable (s : State) : Nat := s.ddrInstalled * 2 ^ 30 * 8 / 9

/-- Duplicated regions, both copies: crate index, map, bad-block table, camera keys, applets and templates. -/
def State.ddrDuplicated (s : State) : Nat := 2 * (96 * (s.poolTotal / 16) + 16 * (s.dataSpace s.poolTotal / 2 ^ 20) + (32 + 192 + 64) * 2 ^ 20)

/-- The elastic region: what the other regions and the spare pages leave. -/
def State.elasticBytes (s : State) : Nat :=
  s.ddrUsable - (s.ddrDuplicated + 512 * 2 ^ 20 + s.classes.stagingSize * 2 ^ 26 + (s.ddrPopulated.map (fun c => (s.ddrChan c).spares)).sum * 4096)

/-- Does the entry begin a run of its tab in its crate (R290)? -/
def State.beginsRun (s : State) (e : Entry) : Bool :=
  match s.entry? e.hdr.tab (e.hdr.seq - 1) with
  | some q => decide (e.hdr.seq ≤ 1) || q.inCrate != e.inCrate || q.lost != e.lost || q.recordOnly != e.recordOnly
  | none => true

/-- Bytes of the tab index. -/
def State.tabIndexBytes (s : State) : Nat := 16 * s.tabs.entries.countP s.beginsRun
/-- Bytes of the index-record mirror: it fills what the tab index leaves, with the newest records (R309). -/
def State.mirrorBytes (s : State) : Nat :=
  min (s.elasticBytes - s.tabIndexBytes) (64 * ((s.tabs.entries.map (fun e => e.indexRecs.length)).sum - s.ddr.mirrorLost))

/-- The tab index fills the elastic region by itself: pressure on the ring (R309). -/
def State.indexFull (s : State) : Bool := s.ddrRuns && decide (0 < s.tabIndexBytes) && decide (s.elasticBytes ≤ s.tabIndexBytes)

/-- Has the ring space: an EVIDENCE crate can open, and a tab index that fills the elastic region by itself leaves something to reclaim (R83, R301, R309). -/
def State.ringSpace (s : State) : Bool := s.evidenceSpace && !(s.indexFull && !s.reclaimables.any s.caseOneTwo)

/-- Space has returned once an EVIDENCE crate can open again (R83). -/
def State.spaceBack (s : State) : State := if s.ringSpace then { s with classes := { s.classes with exhausted := false } } else s

/-! Reservations (R277, R79). -/

/-- The stream of a tab: its market modulo 4 (R274). -/
def State.streamOf (s : State) (t : Nat) : Nat := (s.tab t).affinity / 256 % 16 % 4

/-- Slots a ticket reserves. -/
def Tk.crateNeed (t : Tk) : Nat := if t.tk.opcode = 1 ∨ t.tk.opcode = 2 then ceilDiv (t.tk.dataLen + 69632) 512 else 2

/-- Reserve crate space for a ticket: in the open crate of its stream, which stops taking objects when the largest would not fit, else in the prepared one. Once the prepared crate
holds a reservation, the ones that follow go there too, so that what is promised in a crate never waits for what is promised in the next (DEDUCED, log 23). -/
def State.reserve (s : State) (t : Tk) : Option (State × Tk) :=
  let st := s.streamOf (t.tab.getD 0)
  let s1 := s.closeFullCrates.ensureStream st
  let n := t.crateNeed
  let ahead := (s1.preparedOf st).any (fun c => decide (0 < c.reservedSlots))
  if !s.ringSpace && s.evidenceSpace then none
  else match (s1.streamOpen st).find? (fun c => !ahead && decide (max n closeSlots ≤ c.room 1)) with
  | some c => some (s1.modCrate c.id (fun c => { c with reservedSlots := c.reservedSlots + n }), { t with crateTok := true, crateStream := st, crateId := c.id, crateSlots := n })
  | none =>
    match s1.preparedOf st with
    | some c =>
      if n ≤ c.room 1 then some (s1.modPrepared st (fun c => { c with reservedSlots := c.reservedSlots + n }), { t with crateTok := true, crateStream := st, crateId := 0, crateSlots := n })
      else none
    | none => none

def State.crateOk (s : State) (t : Tk) : Bool := (s.reserve t).isSome

/-- Do `n` slots and the summary that then follows fit after what a crate holds? -/
def Crate.fits (c : Crate) (n : Nat) : Bool := decide (c.nextSlot + n + c.summarySlots 1 ≤ c.dataSlots)

/-- The crate a ticket's entry goes into: the open one of its stream. An entry promised space in the prepared crate waits for what is promised in the open one, which is then closed; an open
crate in which it does not fit is closed too (log 23). A stream never has two crates that take objects (R274). A skipped ticket holds no reservation and takes the record space
of the stream (R83). -/
def State.crateFor (s : State) (stream : Nat) (inPrepared : Bool) (n : Nat) : State × Option Crate :=
  match (s.streamOpen stream).head? with
  | none => let s1 := s.ensureStream stream; (s1, (s1.streamOpen stream).find? (fun c => c.fits n))
  | some c =>
    if inPrepared && decide (0 < c.reservedSlots) then (s, none)
    else if !inPrepared && c.fits n then (s, some c)
    else let s1 := s.summarise c.id; (s1, (s1.streamOpen stream).find? (fun c => c.fits n))

/-! Programming (R278, R119). -/

/-- DURABLE rises while the next entry is programmed (R119); the table entry is written when it does (R62). -/
def raiseGo : Nat → State → Nat → State
  | 0, s, _ => s
  | n + 1, s, t =>
    let c := s.tab t
    match s.entry? t (c.durable + 1) with
    | some e => if e.programmed then raiseGo n (s.setTab t { c with durable := c.durable + 1, durableHead := e.chain }) t else s
    | none => s

def State.raiseDurable (s : State) (t : Nat) : State :=
  let s1 := raiseGo ((s.tab t).sealed - (s.tab t).durable) s t
  if (s.tab t).durable < (s1.tab t).durable then s1.writeWmt t else s1

/-- Mark as programmed every object of a crate that its programmed rows hold: staging goes back, entries become programmed, watermarks rise. -/
def State.settleCrate (s : State) (id : Nat) : State :=
  match s.crate? id with
  | none => s
  | some c =>
    let lim := c.rowsProgrammed * c.rowSlots
    let done := fun o : Obj => !o.programmed && decide (o.slot + o.slots ≤ lim)
    let now := c.objects.filter done
    let s1 := s.modCrate id (fun c => { c with objects := c.objects.map (fun o => if done o then { o with programmed := true, staging := 0 } else o) })
    let s2 := now.foldl (fun s o => if 0 < o.staging then s.setStagingPool (s.stagingPool.give o.staging) else s) s1
    let isNow := fun e : Entry => now.any (fun o => (o.type == 1 || o.type == 2) && !o.old && o.tab == e.hdr.tab && o.key == e.hdr.seq)
    let s3 := { s2 with tabs := { s2.tabs with entries := s2.tabs.entries.map (fun e => if e.inCrate = id ∧ isNow e then { e with programmed := true } else e) }
                        vault := { s2.vault with wraps := s2.vault.wraps.map (fun w => if now.any (fun o => o.type == 3 && o.tab == w.group && o.key == w.epoch && !o.old) then { w with durable := true } else w) } }
    ((now.filter (fun o => (o.type == 1 || o.type == 2) && !o.old)).map Obj.tab).dedup.foldl State.raiseDurable s3

/-- The state of a crate that has its summary programmed. -/
def Crate.closedState (c : Crate) : CrateState := match c.lostLanes.length with | 0 => .closed | 1 => .degraded | _ => .exposed

/-- A sealed-up crate all of whose rows are programmed is closed (R277, R279). -/
def State.closeDone (s : State) (id : Nat) : State :=
  match s.crate? id with
  | none => s
  | some c =>
    if c.state == .opened && c.sealedUp && decide (c.nextSlot ≤ c.rowsProgrammed * c.rowSlots) then
      let first := c.closedState == .exposed && !(s.flash.crates.any (fun x => x.state == .exposed))
      let s1 := s.modCrate id (fun c => { c with state := c.closedState, closedAt := s.now, scrubbedAt := s.now })
      if first then s1.devEvent 5 else s1
    else s

/-- Fill the partly filled row of a crate with zeros. -/
def State.padRow (s : State) (id : Nat) : State :=
  match s.crate? id with
  | none => s
  | some c =>
    let n := roundUp c.nextSlot c.rowSlots
    ((s.modCrate id (fun c => { c with nextSlot := n })).fill c.kind (512 * (n - c.nextSlot))).maybeClose id

/-- Program every placed row of a crate now: ledger pages, relocated copies, escrow wraps (R246, R278, R289). -/
def State.programAll (s : State) (id : Nat) : State :=
  let s1 := s.padRow id
  match s1.crate? id with
  | none => s1
  | some c =>
    if 2 < c.lostLanes.length then s1
    else ((s1.modCrate id (fun c => c.advance s.lifeCount (c.nextSlot / c.rowSlots))).settleCrate id).closeDone id

/-- At a tick boundary: every EVIDENCE crate whose partly filled row holds a covered entry fills that row (R15, R278). -/
def State.padBoundary (s : State) : State :=
  (s.flash.crates.filter (fun c => c.kind == .evidence && c.state == .opened && decide (c.nextSlot % c.rowSlots ≠ 0) &&
    c.objects.any (fun o => o.type == 1 && decide (c.nextSlot / c.rowSlots * c.rowSlots < o.slot + o.slots)))).foldl (fun s c => s.padRow c.id) s

/-! Protection, relocation, erasure (R282 to R288). -/

/-- Point the index at the relocated copy of an entry's object (R283). -/
def State.movedEntry (s : State) (o : Obj) (crate slot : Nat) (recordOnly : Bool) : State :=
  { s with tabs := { s.tabs with entries := s.tabs.entries.map (fun e =>
      if e.hdr.tab = o.tab ∧ e.hdr.seq = o.key ∧ ¬ o.old then
        { e with inCrate := crate, crate := crate, slot := slot, recordOnly := e.recordOnly || recordOnly, cipher := if recordOnly then [] else e.cipher, marks := if recordOnly then [] else e.marks
                 indexRecs := if recordOnly then [] else e.indexRecs }
      else e) } }

/-- Relocate one object of a crate into the relocation crate (R283), as a record alone where `recordOnly`; none when no crate can take it. -/
def State.moveObj (s : State) (from_ : Nat) (o : Obj) (recordOnly : Bool) : Option State :=
  let kind : CrateKind := if o.type = 4 ∨ o.type = 5 ∨ o.type = 6 ∨ (o.type = 3 ∧ (s.crate? from_).any (fun c => c.kind == .ledger)) then .ledger else .relocation
  let len := if recordOnly then (match s.entry? o.tab o.key with | some e => e.recordLength | none => o.length) else o.length
  let cp : Obj := { o with type := if recordOnly then 2 else o.type, relocated := true, length := len, programmed := false }
  let tick := match s.entry? o.tab o.key with | some e => if o.type ≤ 2 then e.commitTick else 0 | none => 0
  match s.placeKind kind cp tick with
  | none => none
  | some (s1, id, slot) =>
    let body := ((s.crate? from_).map (fun c => s.objBody c o)).getD []
    let s2 := s1.modCrate from_ (fun c => { c with objects := c.objects.map (fun x => if x.slot = o.slot ∧ x.type = o.type then { x with dead := true, kept := body } else x) })
    some ((if o.type ≤ 2 then s2.movedEntry o id slot recordOnly else s2).programAll id)

/-- Relocate every object of a crate that `p` picks and every record that must be kept; false when the relocation crate could not take them all. -/
def State.moveAll (s : State) (id : Nat) (p : Obj → Bool) : State × Bool :=
  match s.crate? id with
  | none => (s, true)
  | some c =>
    c.objects.foldl (fun st o =>
      if !st.2 then st
      else if p o then (match st.1.moveObj id o false with | some s1 => (s1, true) | none => (st.1, false))
      else if s.needsRecord id o then (match st.1.moveObj id o true with | some s1 => (s1, true) | none => (st.1, false))
      else st) (s, true)

/-- Erase a crate: its lane blocks return, its objects and the entries only it holds are gone; space may have returned with them (R83). -/
def State.eraseCrate (s : State) (id : Nat) : State :=
  match s.crate? id with
  | none => s
  | some c =>
    let s1 := (c.lanes.zipIdx.filter (fun p => !c.lostLanes.contains p.2)).foldl (fun s p => (s.releaseLane p.1).retireWeak p.1) s
    let s2 := (c.lanes.zipIdx.filter (fun p => c.lostLanes.contains p.2)).foldl (fun s p => s.setLane p.1 { s.lane p.1 with used := false }) s1
    State.spaceBack { s2 with
      flash := { s2.flash with crates := s2.flash.crates.filter (fun x => !(x.id == id && x.state != .prepared)), refreshQueue := s2.flash.refreshQueue.filter (· != id) }
      tabs := { s2.tabs with
        entries := s2.tabs.entries.filter (fun e => e.inCrate != id || id == 0)
        marks := (s2.tabs.entries.filter (fun e => e.inCrate == id && id != 0)).foldl (fun m e => m.set noMark e.hdr.tab ((m.get noMark e.hdr.tab).see e)) s2.tabs.marks } }

/-- Relocate what `p` picks, check once more just before the erase (R284), and erase. Where copies cannot be placed nothing is erased. -/
def State.moveAndErase (s : State) (id : Nat) (p : State → Obj → Bool) : State :=
  let r := s.moveAll id (p s)
  if !r.2 then r.1
  else
    let r2 := r.1.moveAll id (p r.1)
    if r2.2 then r2.1.eraseCrate id else r2.1

/-- Mark the entries whose rows lack three lanes LOST (R281, R299). -/
def State.loseEntries (s : State) (id : Nat) (keys : List (Nat × Nat)) : State :=
  let hit := fun e : Entry => !e.lost && e.inCrate == id && keys.contains (e.hdr.tab, e.hdr.seq)
  let n := s.tabs.entries.countP hit
  let s1 := { s with
    tabs := { s.tabs with entries := s.tabs.entries.map (fun e => if hit e then { e with lost := true } else e) }
    flash := { s.flash with lost := sat 32 (s.flash.lost + n) } }
  if 0 < n then s1.logFault { cls := 0x36, outcome := 0x7, unit := 0x8000, detail := id } else s1

/-- A lane of a crate is lost (R279, R299). -/
def State.loseLane (s : State) (id lane : Nat) : State :=
  match s.crate? id with
  | none => s
  | some c =>
    if c.lostLanes.contains lane then s
    else
      let wasOpen := c.takes
      let s1 := s.modCrate id (fun c => { c with lostLanes := c.lostLanes ++ [lane] })
      let s2 :=
        if c.state = .opened then (if wasOpen then s1.summarise id else s1)
        else
          let first := decide (c.lostLanes.length = 1) && !(s.flash.crates.any (fun x => x.state == .exposed))
          let s2 := s1.modCrate id (fun c => { c with state := c.closedState })
          if first then s2.devEvent 5 else s2
      if 2 ≤ c.lostLanes.length then s2.loseEntries id ((c.objects.filter (fun o => o.type ≤ 2 && o.retained && !o.old && o.programmed)).map (fun o => (o.tab, o.key))) else s2

/-- A prepared crate that loses a lane holds nothing yet: it is formed anew, and what is promised in it stays promised (log 24). -/
def State.reform (s : State) (c : Crate) : State :=
  let s1 := s.setCrates (s.flash.crates.filter (fun x => !(x.state == .prepared && x.stream == c.stream)))
  let s2 := c.lanes.foldl (fun s l => s.setLane l { s.lane l with used := false }) s1
  (s2.prepare c.stream).modPrepared c.stream (fun x => { x with reservedSlots := c.reservedSlots })

/-- A target leaves service (R299): its lanes are lost and its free lane blocks leave the pool. -/
def State.loseTarget (s : State) (t : Nat) : State :=
  let hit := s.flash.crates.filter (fun c => c.lanes.any (fun l => l.target == t))
  State.spaceBack <| hit.foldl (fun s c =>
    if c.state = .prepared then s.reform c
    else (c.lanes.zipIdx.filter (fun p => p.1.target == t)).foldl (fun s p => s.loseLane c.id p.2) s) s

/-! Programs and erases that fail (R279, R298). -/

/-- A physical block whose program or erase failed is a grown bad block; the failure is logged (R298, R421). -/
def State.blockFails (s : State) (t lun plane block : Nat) : State :=
  (s.addBad t lun plane (s.physical t lun plane block) true).logFault { cls := 0x31, outcome := 6, unit := 0x8000, detail := 16 * t + lun }

/-- Lanes of an opened crate show FAIL for a row: each is lost for the crate (R279). -/
def State.failLanes (s : State) (id : Nat) (failed : List Nat) : State :=
  match s.crate? id with
  | none => s
  | some c => ((failed.filter (fun i => !c.lostLanes.contains i)).dedup).foldl (fun s i => match c.lanes[i]? with
      | some l => (s.blockFails l.target 0 0 l.block).loseLane id i
      | none => s) s

/-- Move what a crate can program no more, up to a slot, to the relocation or ledger crate from staging; what that cannot take waits in staging with its tokens (R279, R139). -/
def State.moveRow (s : State) (id below : Nat) : State :=
  match s.crate? id with
  | none => s
  | some c => (c.objects.filter (fun o => !o.programmed && !o.dead && o.type != 7 && decide (o.slot < below))).foldl (fun s o => match s.moveObj id o false with
      | some s1 =>
        let s2 := s1.modCrate id (fun x => { x with objects := x.objects.map (fun q => if q.slot = o.slot then { q with staging := 0 } else q) })
        if 0 < o.staging then s2.setStagingPool (s2.stagingPool.give o.staging) else s2
      | none => s) s

/-- Does a crate hold something below a slot that is neither programmed nor moved? -/
def Crate.waits (c : Crate) (below : Nat) : Bool := c.objects.any (fun o => !o.programmed && !o.dead && o.type != 7 && decide (o.slot < below))

/-- The next full row of a crate, or the last one of a crate that has its summary, is programmed on its lanes; lanes in `failed` show FAIL and are lost for the crate. A row whose lanes lack
three is moved instead (R278, R279). -/
def State.programRow (s : State) (id : Nat) (failed : List Nat) : State :=
  match s.crate? id with
  | none => s
  | some c =>
    if c.state != .opened || decide (c.nextSlot ≤ c.rowsProgrammed * c.rowSlots) || (!c.sealedUp && decide (c.nextSlot < (c.rowsProgrammed + 1) * c.rowSlots)) then s
    else
      let s1 := s.failLanes id failed
      let low := (s1.crate? id).any (fun x => decide (2 < x.lostLanes.length))
      let below := (c.rowsProgrammed + 1) * c.rowSlots
      let s2 := if low then s1.moveRow id below else s1
      if low && (s2.crate? id).any (fun x => x.waits below) then s2
      else ((s2.modCrate id (fun x => x.advance s.lifeCount (c.rowsProgrammed + 1))).settleCrate id).closeDone id

/-- Program every placed row of a crate, of which lanes in `failed` show FAIL: as `programAll`, or what is placed moves where three lanes lack. -/
def State.programLanes (s : State) (id : Nat) (failed : List Nat) : State :=
  let s1 := (s.padRow id).failLanes id failed
  match s1.crate? id with
  | none => s1
  | some c => if 2 < c.lostLanes.length then s1.moveRow id c.dataSlots else s1.programAll id

end Sys2Proof.Machine
end

