-- ==== Sys2Proof/Machine/VaultOps.lean ====
section
/-! DEFINITION. The key vault's shared operations: root keys, handles, epochs, escrow wraps, signer certificates, authority records, vault images (chapter 09). -/

namespace Sys2Proof.Machine

/-! Root and identity keys (R240, R241). -/

/-- The vault key derived from an enclosure key. -/
def State.vaultKeyOf (s : State) (enclosure : Bytes) : Bytes :=
  kdf108 s.guard.otp.deviceSecret (ascii "BRUXEL VAULT") (enclosure ++ leBytes 1 s.lifeCount) 256

/-- The identity seed. -/
def State.identitySeed (s : State) : Bytes := kdf108 s.guard.otp.deviceSecret (ascii "BRUXEL IDENT") s.unitId 768

/-- The identity pair: the P-384 scalar from bits 767 to 320 of the seed, the ML-DSA-65 seed from bits 255 to 0. -/
def State.identityScalar (s : State) : Nat := p384.scalarOf (s.identitySeed.take 56)
def State.identityMldsa (s : State) : Bytes × Bytes := dsaKeyGen mlDsa65 (s.identitySeed.drop 64)

/-! Handles (R242). -/

/-- Type and index of a handle. -/
def handleType (h : Nat) : Nat := h / 2 ^ 28
def handleIndex (h : Nat) : Nat := h % 2 ^ 28

/-- The number of working-set slots; the slots of the current and the previous epoch of every group come first (DESIGN CHOICE, log 25). -/
def workSlots : Nat := 8192
def firstCache : Nat := 128
def epochSlot (group epoch : Nat) : Nat := group * 2 + epoch % 2
def slotHandle (slot : Nat) : Nat := 2 ^ 28 + slot

def State.epochKey? (s : State) (g n : Nat) : Option EpochKey := s.vault.epochs.find? (fun e => e.group == g && e.epoch == n)

/-- What a working-set slot holds. -/
def State.workAt (s : State) (i : Nat) : Option EpochKey := (s.vault.work.find? (fun w => w.slot == i)).bind (fun w => s.epochKey? w.group w.epoch)

/-- The symmetric key of a handle; none where the handle is unissued or empty. -/
def State.keyOf (s : State) (h : Nat) : Option Bytes :=
  match handleType h with
  | 1 => if handleIndex h < workSlots then (s.workAt (handleIndex h)).map EpochKey.key else none
  | 6 => if handleIndex h < 4096 then (s.vault.pairing.find? (fun p => p.index == handleIndex h)).map PairKey.key else none
  | _ => none

/-- The P-384 secret of a handle. -/
def State.ecKeyOf (s : State) (h : Nat) : Option Nat :=
  match handleType h with
  | 2 => if handleIndex h = 0 then s.vault.signing.map SignPair.d else none
  | 4 => if handleIndex h = 0 then some s.identityScalar else none
  | _ => none

/-- The ephemeral key of a handle, as the key bus brought it. -/
def State.ephKeyOf (s : State) (h : Nat) : Option Bytes :=
  if handleIndex h < 16 ∧ SMap.has s.vault.eph (handleIndex h) then some (s.vault.eph.get (fun _ => []) (handleIndex h)) else none

/-- The ML-DSA-65 secret key of a handle. -/
def State.dsaKeyOf (s : State) (h : Nat) : Option Bytes :=
  match handleType h with
  | 3 => if handleIndex h = 0 then s.vault.signing.map SignPair.mldsaSk else none
  | 5 => if handleIndex h = 0 then some s.identityMldsa.2 else none
  | _ => none

/-- May the vault generate keys (R239)? -/
def State.entropyOk (s : State) : Bool := decide (s.vault.entropyFails < 3)

/-! Epochs (R246, R247). -/

/-- The epoch under which a group seals: none until its start-up epoch has begun (R23, R246). -/
def State.currentEpoch (s : State) (g : Nat) : Option EpochKey := if s.vault.unopened.contains g then none else s.vault.epochs.find? (fun e => e.group == g && e.state == .current)

/-- The epochs of a group that the durable ledger opens (R135, R246). -/
def State.ledgerEpochs (s : State) (g : Nat) : List Nat :=
  (((s.ledger.records.filter (fun r => decide (r.at_.tick ≤ s.ledger.durableTick))).flatMap TickRecord.events).filter (fun e => e.type == 0xA && fld e.body 0 1 == g)).map (fun e => fld e.body 4 4)

/-- The number of a group's next epoch: above every number with a wrap, a key or an EPOCH_OPEN (R246). -/
def State.nextEpoch (s : State) (g : Nat) : Nat :=
  ((s.vault.wraps.filter (fun w => w.group == g)).map Wrap.epoch ++ (s.vault.epochs.filter (fun e => e.group == g)).map EpochKey.epoch ++
    (s.vault.prepared.filter (fun e => e.group == g)).map PrepEpoch.epoch ++ s.ledgerEpochs g).foldl max 0 + 1

/-- An entry sealed under an epoch key raises its LAST_TICK. -/
def State.touchEpoch (s : State) (g n tick : Nat) : State :=
  { s with vault := { s.vault with epochs := s.vault.epochs.map (fun e => if e.group = g ∧ e.epoch = n then { e with lastTick := max e.lastTick tick } else e) } }

/-! Authority records (R244, R245). -/

def Authority.timeAuthority (a : Authority) : Bool := bit (fld a.bytes 2 1) 0
def Authority.escrowCount (a : Authority) : Nat := fld a.bytes 3 1
def Authority.serial (a : Authority) : Nat := fld a.bytes 4 4
def Authority.root (a : Authority) : Bytes := slice a.bytes 32 2048
def Authority.applet (a : Authority) : Bytes := slice a.bytes 2080 2048
def Authority.time (a : Authority) : Bytes := slice a.bytes 4128 2048
/-- The time-authority keys of a record, where it installs them. -/
def timeKeysOf (a : Option Authority) : Option Bytes := match a with | some a => if a.timeAuthority then some a.time else none | none => none
def Authority.escrow (a : Authority) (i : Nat) : Bytes := slice a.bytes (6176 + 1280 * i) 1280
def Authority.signedLen (a : Authority) : Nat := 6176 + 1280 * a.escrowCount
def Authority.wellLen (a : Authority) : Bool := decide (a.bytes.length = a.signedLen + 3408)

/-- Verify both signatures of a 2,048-byte key pair (ECDSA P-384 x ‖ y, then ML-DSA-65) over a message. -/
def pairVerify (keys msg sigE sigM : Bytes) : Bool :=
  (match p384.decode (keys.take 96) with
   | some q => p384.verify q (sha384 msg) (beNat (sigE.take 48)) (beNat (slice sigE 48 48))
   | none => false) &&
  dsaVerify mlDsa65 (keys.drop 96) [] msg sigM

/-- Both signatures that follow a signed part: 96 bytes, then 3,309. -/
def pairVerifyAt (keys b : Bytes) (signed : Nat) : Bool := pairVerify keys (b.take signed) (slice b signed 96) (slice b (signed + 96) 3309)

/-- Are an object's UNIT_ID (or zeros) and LIFECYCLE this device's? -/
def State.unitMatches (s : State) (id : Bytes) : Bool := decide (id = s.unitId) || allZero id

/-- The digest of the owner root burnt for the generation in force (R375). -/
def State.rootDigest (s : State) : Bytes := s.guard.otp.roots.get (fun _ => []) (s.lifeCount - 2)

/-- Are the fields of an authority record in range (R244)? -/
def Authority.formOk (a : Authority) : Bool :=
  decide (6176 ≤ a.bytes.length) && decide (fld a.bytes 0 2 = 1) && decide (fld a.bytes 2 1 / 2 = 0) && decide (1 ≤ a.escrowCount) && decide (a.escrowCount ≤ 4) &&
    allZero (slice a.bytes 25 7) && a.wellLen && (a.timeAuthority || allZero a.time) && allZero (slice a.bytes (a.signedLen + 3405) 3)

/-- The checks of R245 on a record for the life-cycle count it is to serve. `burnt` is the root digest it must match, none at an owner transition that burns it. -/
def State.authorityOk (s : State) (a : Authority) (count : Nat) (burnt : Option Bytes) (fresh : Bool) : Bool :=
  a.formOk &&
    (match burnt with | some d => decide (sha384 a.root = d) | none => true) &&
    s.unitMatches (slice a.bytes 8 16) && decide (fld a.bytes 24 1 = count) &&
    (fresh || (match s.vault.authorityCopy with | some o => decide (o.serial < a.serial) | none => true)) &&
    pairVerifyAt a.root a.bytes a.signedLen &&
    (List.range a.escrowCount).all (fun i => kemEkOk ((a.escrow i).take 1184) && (p384.decode ((a.escrow i).drop 1184)).isSome)

/-! Escrow wraps (R248). -/

/-- The 64-byte header of a wrap. -/
def State.wrapHead (s : State) (g epoch planned : Nat) (a : Authority) : Bytes :=
  leBytes 2 1 ++ leBytes 1 g ++ leBytes 1 a.escrowCount ++ leBytes 4 epoch ++ s.unitId ++ leBytes 1 s.lifeCount ++ zeros 3 ++ leBytes 4 a.serial ++ leBytes 8 planned ++
    leBytes 4 (64 + 1272 * a.escrowCount) ++ zeros 20

/-- Place and program an object that must be durable at once: an escrow wrap in its stream's crate with a copy in the ledger crate (R246, R289). -/
def State.programWrap (s : State) (g epoch : Nat) (len : Nat) : State :=
  let o : Obj := { type := 3, tab := g, key := epoch, length := len }
  let s1 := s.ensureStream (g % 4)
  match (s1.streamOpen (g % 4)).find? (fun c => decide (o.slots ≤ c.room 1)) with
  | none => s1
  | some c =>
    let s2 := ((s1.placeIn c o s1.ledger.current).programAll c.id).maybeClose c.id
    match s2.placeKind .ledger o s2.ledger.current with
    | some (s3, id, _) => s3.programAll id
    | none => s2

/-! The working set (R242, R247). -/

/-- Keys of some handles leave every engine key slot (R250). -/
def State.dropHandles (s : State) (gone : Nat → Bool) : State :=
  let hit := fun k : KeySrc => match k with | .handle h => gone h | .rom _ => false
  { s with crypto := { s.crypto with rows := s.crypto.rows.foldl (fun m p =>
      m.set noRow p.1 { p.2 with keys := p.2.keys.filter (fun k => !hit k.src), hmacKeys := p.2.hmacKeys.filter (fun k => !hit k.src) }) s.crypto.rows } }

/-- A key enters a slot of the working set as the most recently used; the key that the slot held goes, from the engines' slots too. -/
def State.setWork (s : State) (w : WorkKey) : State :=
  let s1 := if s.vault.work.contains w then s else s.dropHandles (fun h => h == slotHandle w.slot)
  { s1 with vault := { s1.vault with work := s1.vault.work.filter (fun x => x.slot != w.slot) ++ [w] } }

/-- The cache slot that a key takes: a free one, else the least recently used. -/
def State.cacheSlot (s : State) : Nat :=
  let used := (s.vault.work.map WorkKey.slot).filter (fun i => decide (firstCache ≤ i))
  ((List.range' firstCache (min (used.length + 1) (workSlots - firstCache))).find? (fun i => !used.contains i)).getD (used.headD firstCache)

/-- A readout uses a key: the vault reads its page where the working set does not hold it (R247). -/
def State.useKey (s : State) (g n : Nat) : State :=
  match s.vault.work.find? (fun w => w.group == g && w.epoch == n) with
  | some w => s.setWork w
  | none => if (s.epochKey? g n).isSome then s.setWork { slot := s.cacheSlot, group := g, epoch := n } else s

/-! The key table (R247). -/

/-- The entries that the table can hold. -/
def tableSize : Nat := 8388608

/-- The page of an epoch: a page holds 256 epoch numbers of one group. Pages are numbered group by group (DESIGN CHOICE, log 112). -/
def pageNumber (group epoch : Nat) : Nat := group * 2 ^ 24 + epoch / 256

/-- STATE of an entry. -/
def EpochState.code : EpochState → Nat
  | .current => 1 | .ended => 2 | .deferred => 3

/-- An entry's 64 bytes. -/
def EpochKey.entry (k : EpochKey) : Bytes :=
  fitTo 32 k.key ++ leBytes 4 k.epoch ++ leBytes 1 k.group ++ leBytes 1 k.state.code ++ leBytes 2 k.days ++ leBytes 8 k.firstTick ++ leBytes 8 k.lastTick ++ leBytes 8 k.endTime

/-- A page's header, which is also its nonce: page number, then version (log 112). -/
def KeyPage.header (p : KeyPage) : Bytes := leBytes 4 p.page ++ leBytes 8 p.version

/-- A page's 256 entries. -/
def KeyPage.body (p : KeyPage) : Bytes :=
  (List.range 256).flatMap (fun i => match p.entries.find? (fun e => e.epoch % 256 == i) with | some e => e.entry | none => zeros 64)

/-- A page as it stands in flash: its header, and its entries and tag under AES-256-GCM. -/
def KeyPage.stored (p : KeyPage) : Bytes := p.header ++ aesGcmEnc p.key p.header p.header p.body

/-- The entry of an epoch that has been prepared: STATE 1, as in the chapter's worked example. -/
def State.prepRow (s : State) (p : PrepEpoch) : EpochKey := { group := p.group, epoch := p.epoch, key := p.key, days := s.days p.group }

/-- The entries of a page. -/
def State.pageRows (s : State) (n : Nat) : List EpochKey := (s.vault.epochs ++ s.vault.prepared.map s.prepRow).filter (fun e => pageNumber e.group e.epoch == n)

/-- Write a page with its entries as they stand, at the next version: under a new page key where `anew`, and where it has none. -/
def State.savePage (anew : Bool) (s : State) (n : Nat) : State :=
  let v := s.vault
  let held := if anew then none else (v.pageKeys.find? (fun p => p.page == n)).map PageKey.key
  let key := held.getD (s.drawBytes 32)
  let s1 := if held.isSome then s else s.drewBytes 32
  let page : KeyPage := { page := n, version := ((v.pages.filter (fun p => p.page == n)).map KeyPage.version).foldl max 0 + 1, key := key, entries := s.pageRows n }
  { s1 with vault := { v with pageKeys := v.pageKeys.filter (fun p => p.page != n) ++ [{ page := n, key := key }], pages := v.pages ++ [page] } }

def State.savePages (s : State) (anew : Bool) (l : List Nat) : State := l.dedup.foldl (State.savePage anew) s

/-- The entries of a page that its key opens: those of its newest version written under that key. -/
def Vault.openPage (v : Vault) (k : PageKey) : List EpochKey :=
  match (v.pages.filter (fun p => p.page == k.page && p.key == k.key)).getLast? with
  | some p => p.entries
  | none => []

/-! Opening an epoch (R246). -/

/-- A prepared epoch whose wrap is durable becomes current; the one before it ends at this instant. Both entries are written, and the new key stands in the working set. -/
def State.openEpoch (s : State) (g : Nat) : State :=
  match s.vault.prepared.find? (fun e => e.group == g) with
  | none => s
  | some p =>
    match s.vault.wraps.find? (fun w => w.group == g && w.epoch == p.epoch && w.durable) with
    | none => s
    | some w =>
      let ends := s.vault.epochs.filter (fun e => e.group == g && e.state == .current)
      let old := s.vault.epochs.map (fun e => if e.group = g ∧ e.state = .current then { e with state := .ended, endTime := s.now } else e)
      let k : EpochKey := { (s.prepRow p) with firstTick := s.ledger.current }
      let s1 : State := { s with vault := { s.vault with
        epochs := old ++ [k], prepared := s.vault.prepared.filter (fun e => e.group != g), unopened := s.vault.unopened.filter (· != g), late := s.vault.late.filter (· != g) } }
      let s2 := (s1.setWork { slot := epochSlot g p.epoch, group := g, epoch := p.epoch }).savePages false ((ends ++ [k]).map (fun e => pageNumber e.group e.epoch))
      s2.addEvent 0xA (leBytes 1 g ++ zeros 3 ++ leBytes 4 p.epoch ++ sha384 w.bytes)

/-! The vault image (R251). -/

/-- What an image persists, as bytes (DESIGN CHOICE, log 112). -/
def VaultImage.plain (i : VaultImage) : Bytes :=
  let counted := fun l : List Bytes => leBytes 4 l.length ++ l.flatMap (fun b => leBytes 4 b.length ++ pad8 b)
  leBytes 8 i.lastIssued ++ counted (i.pages.map (fun p => leBytes 4 p.page ++ p.key)) ++
    counted ((i.signing.map (fun p => beBytes 48 p.d ++ p.ecdsaPub ++ p.mldsaSk ++ p.mldsaPub)).toList) ++ counted (i.certs.map SignerCert.bytes) ++
    counted (i.pairing.map (fun p => leBytes 4 p.index ++ leBytes 4 p.maker ++ leBytes 8 p.serial ++ p.key)) ++ counted ((i.authority.map Authority.bytes).toList) ++
    (List.range 64).flatMap (fun g => leBytes 2 (i.days.get days30 g))

/-- The nonce of an image: VAUL, then its serial. -/
def VaultImage.nonce (i : VaultImage) : Bytes := ascii "VAUL" ++ leBytes 8 i.serial

/-- An image as it stands in its slot: under AES-256-GCM with the vault key. -/
def VaultImage.stored (i : VaultImage) : Bytes := aesGcmEnc i.vaultKey i.nonce [] i.plain

/-- Step 4: the slot of the superseded image is erased; page versions that newer ones have replaced go with it (log 112). -/
def State.eraseOld (s : State) : State :=
  let v := s.vault
  { s with vault := { v with
    image0 := v.image0.filter (fun i => i.serial == v.imageSerial), image1 := v.image1.filter (fun i => i.serial == v.imageSerial)
    pages := v.pages.filter (fun p => !v.pages.any (fun q => q.page == p.page && decide (p.version < q.version))) } }

/-- The destruction of keys ends with step 4: their SHRED events are recorded (R250). -/
def State.shred (s : State) : State :=
  if s.vault.shredding = [] then s
  else
    let s1 := s.vault.shredding.foldl (fun s p => s.addEvent 0xB (leBytes 1 p.1 ++ zeros 3 ++ leBytes 4 p.2)) s.eraseOld
    { s1 with vault := { s1.vault with shredding := [] } }

/-- The image that holds what the vault persists now. -/
def State.nextImage (s : State) (k : Bytes) : VaultImage :=
  let v := s.vault
  { serial := v.imageSerial + 1, vaultKey := k, pages := v.pageKeys, certs := v.certs.filter (fun c => !c.durable), signing := v.signing, pairing := v.pairing, authority := v.authority
    days := s.tabs.days, lastIssued := v.lastIssued }

/-- Steps 1 to 3: the new image goes into the slot that does not hold the valid one, which an unfinished step 4 leaves first, and the backup domain takes its serial. -/
def State.programImage (s : State) : State :=
  match s.vault.vaultKey with
  | none => s
  | some k =>
    let s1 := s.shred
    let v := s1.vault
    let im := s1.nextImage k
    let in0 := v.image0.any (fun i => i.serial == v.imageSerial)
    { s1 with vault := { v with image0 := if in0 then v.image0 else some im, image1 := if in0 then some im else v.image1, imageSerial := im.serial, imageDue := false } }

/-- Write a new image, steps 1 to 4. -/
def State.writeImage (s : State) : State := if s.vault.vaultKey.isNone then s else s.programImage.eraseOld

/-- The image that an accepted time-set record has left to be written. -/
def State.dueImage (s : State) : State := if s.vault.imageDue then s.writeImage else s

/-! Key destruction (R250). -/

/-- Counts in one day. -/
def dayCounts : Nat := 2831155200

/-- Does a live hold's tick range meet the range of the key? -/
def State.heldKey (s : State) (e : EpochKey) : Bool := s.tabs.holds.any (fun h => decide (h.first ≤ e.lastTick) && decide (e.firstTick ≤ h.last))

/-- Is an ended key due now? -/
def State.keyDue (s : State) (e : EpochKey) : Bool := e.state != .current && decide (e.endTime + e.days * dayCounts ≤ s.now)

/-- Take keys from the table, the working set and every engine key slot (step 1). -/
def State.takeKeys (s : State) (gone : EpochKey → Bool) : State :=
  let work := s.vault.work.filter (fun w => (s.epochKey? w.group w.epoch).any gone)
  let s1 := s.dropHandles (fun h => work.any (fun w => h == slotHandle w.slot))
  { s1 with vault := { s1.vault with epochs := s.vault.epochs.filter (fun e => !gone e), work := s.vault.work.filter (fun w => !work.contains w) } }

/-- The test of every ended key at a tick boundary: a held one is deferred, the others due are destroyed together. Steps 1 to 3 end here; SHRED is step 4. Page keys are generated
for step 2, so the destruction waits while the vault generates none (log 112). -/
def State.testKeys (s : State) : State :=
  let hold := fun e : EpochKey => decide (e.lastTick ≠ 0) && s.heldKey e
  let defers := fun e : EpochKey => s.keyDue e && hold e && e.state != .deferred
  let go := fun e : EpochKey => s.keyDue e && !hold e && s.entropyOk
  let gone := s.vault.epochs.filter go
  let put := (s.vault.epochs.filter defers).map (fun e => pageNumber e.group e.epoch)
  let s1 := { s with vault := { s.vault with epochs := s.vault.epochs.map (fun e => if defers e then { e with state := .deferred } else e) } }
  if gone = [] then s1.savePages false put
  else
    let torn := gone.map (fun e => pageNumber e.group e.epoch)
    let s2 := (((s1.shred.takeKeys go).savePages true torn).savePages false (put.filter (fun n => !torn.contains n))).programImage
    { s2 with vault := { s2.vault with shredding := gone.map (fun (e : EpochKey) => (e.group, e.epoch)) } }

/-! The signing pair (R243). -/

/-- SIGNER_ID of a pair (R134). -/
def SignPair.id (p : SignPair) : Bytes := sha384 (p.ecdsaPub ++ p.mldsaPub)

/-- ECDSA P-384 with SHA-384 under RFC 6979 with 32 extra random bytes (R223). -/
def signEcdsa (d : Nat) (msg extra : Bytes) : Bytes := p384.sign hmacSha384 48 d (sha384 msg) extra

/-! Clearing (R210, R253, R357). -/

/-- Every key slot, context and operation of every row engine cleared (R210); the calls that wait stay. -/
def State.clearEngines (s : State) : State :=
  { s with crypto := { s.crypto with rows := s.crypto.rows.foldl (fun m p =>
      m.set noRow p.1 { p.2 with ctxs := [], keys := [], run := none, hctxs := [], hmacKeys := [], laneA := none, laneB := none }) s.crypto.rows } }

/-- Every PKE memory and session cleared (R234). -/
def State.clearPke (s : State) : State := { s with crypto := { s.crypto with pke := { s.crypto.pke with engines := [], queue := [], deferred := [] } } }

/-- The vault SRAM and its registers zeroised. What stands in the flash system area stays. -/
def State.zeroiseVault (s : State) : State :=
  { s with vault := { s.vault with vaultKey := none, epochs := [], prepared := [], pageKeys := [], work := [], unopened := [], late := [], signing := none, pairing := [], eph := [], authority := none, lastIssued := 0
                                   imageDue := false, shredding := [] } }

end Sys2Proof.Machine
end

