-- ==== Sys2Proof/Machine/UnitOps.lean ====
section
/-! DEFINITION. Stalls, rows and their items: re-runs, the spare, skipped rows, aborts of engine requests, the engine that serves a row (chapters 06, 07, 08, 17). -/

namespace Sys2Proof.Machine

/-! What the engines do for an owner, and its end (R205, R210, R234). -/

/-- The latest answer of each context. -/
def pushAns (l : List EngDone) (d : EngDone) : List EngDone := l.filter (fun x => x.owner != d.owner || x.ctx != d.ctx) ++ [d]

/-- A status reaches the caller of a cipher or hash engine. ABORTED, KEY_CLEARED and PAD_FAIL are logged as INFO; of CHECK_FAULT the log holds the entry of the
engine's own class, and LENGTH and MODE_REFUSED are handled with the item (R205, R428, log 109). -/
def State.report (s : State) (hash : Bool) (d : EngDone) : State :=
  let c := s.crypto
  let s1 := { s with crypto := if hash then { c with hashDone := pushAns c.hashDone d } else { c with cipherDone := pushAns c.cipherDone d } }
  if d.status = .aborted ∨ d.status = .keyCleared ∨ d.status = .padFail then s1.logFault { cls := 0x11, unit := d.engine, detail := d.status.code } else s1

/-- The contexts of a row's cipher engine as (owner, context), open or in the operation that runs. -/
def RowEng.cipherOpen (e : RowEng) : List (Nat × Nat) :=
  (e.ctxs.map (fun c => (c.owner, c.ctx.val)) ++ e.run.toList.map (fun r => (r.call.req.owner, r.call.req.ctx.val))).dedup

/-- What the two lanes of a hash engine run. -/
def RowEng.lanes (e : RowEng) : List HashRun := e.laneA.toList ++ e.laneB.toList

/-- The contexts of a row's hash engine. -/
def RowEng.hashOpen (e : RowEng) : List (Nat × Nat) :=
  (e.hctxs.map (fun c => (c.owner, c.ctx.val)) ++ e.lanes.map (fun r => (r.call.req.owner, r.call.req.ctx.val))).dedup

/-- Free the contexts of a row's cipher engine that `p` picks, stop their operation, and report `st` for each (R210, R211). -/
def State.strikeCipher (s : State) (row : Nat) (p : Nat × Nat → Bool) (st : EngStatus) : State :=
  let e := s.rowEng row
  let hit := e.cipherOpen.filter p
  if hit = [] then s
  else
    let s1 := s.setRowEng row { e with ctxs := e.ctxs.filter (fun c => !p (c.owner, c.ctx.val)), run := e.run.filter (fun r => !p (r.call.req.owner, r.call.req.ctx.val)) }
    hit.foldl (fun s o => s.report false { engine := cipherAddr row, owner := o.1, ctx := o.2, status := st }) s1

/-- The same for a row's hash engine. -/
def State.strikeHash (s : State) (row : Nat) (p : Nat × Nat → Bool) (st : EngStatus) : State :=
  let e := s.rowEng row
  let hit := e.hashOpen.filter p
  if hit = [] then s
  else
    let stay := fun (r : HashRun) => !p (r.call.req.owner, r.call.req.ctx.val)
    let s1 := s.setRowEng row { e with hctxs := e.hctxs.filter (fun c => !p (c.owner, c.ctx.val)), laneA := e.laneA.filter stay, laneB := e.laneB.filter stay }
    hit.foldl (fun s o => s.report true { engine := hashAddr row, owner := o.1, ctx := o.2, status := st }) s1

/-- Clear the contexts of a set of owners in every row engine, reporting `st` for each; their calls that wait are gone with them. -/
def State.abortCtx (s : State) (owners : List Nat) (st : EngStatus) : State :=
  let s1 := s.crypto.rows.foldl (fun s r => (s.strikeCipher r.1 (fun o => owners.contains o.1) st).strikeHash r.1 (fun o => owners.contains o.1) st) s
  { s1 with crypto := { s1.crypto with
      cipherQueue := s1.crypto.cipherQueue.filter (fun c => !owners.contains c.req.owner)
      hashQueue := s1.crypto.hashQueue.filter (fun c => !owners.contains c.req.owner) } }

/-- Who sent a request to the pool: owner identity, work slot, ticket (R220). -/
def PkeWait.from_ (w : PkeWait) : Nat × Nat × Nat := (w.req.owner, w.req.slot.val, w.req.ticket)

/-- The latest completion of each requester. -/
def pushDone (l : List PkeDone) (d : PkeDone) : List PkeDone := l.filter (fun x => x.owner != d.owner || x.slot != d.slot || x.ticket != d.ticket) ++ [d]

/-- The completion ABORTED of a request (R234). -/
def PkeWait.aborted (w : PkeWait) (engine : Nat) (fault : Bool) : PkeDone :=
  { op := w.op, owner := w.req.owner, slot := w.req.slot.val, ticket := w.req.ticket, status := .aborted, fault := fault, engine := engine }

/-- Stop the requests of the requesters that `p` picks: memory zeroed, sessions ended, ABORTED reported for each request not completed (R234). -/
def State.abortPke (s : State) (p : Nat × Nat × Nat → Bool) (fault : Bool) : State :=
  let q := s.crypto.pke
  let mine := q.engines.filter (fun e => e.2.owner.any p)
  let d1 := mine.foldl (fun l e => match e.2.run with | some r => pushDone l (r.wait.aborted (0x6000 + e.1) fault) | none => l) q.done
  let d2 := ((q.queue ++ q.deferred).filter (fun w => p w.from_)).foldl (fun l w => pushDone l (w.aborted 0 fault)) d1
  { s with crypto := { s.crypto with pke := { q with
      engines := q.engines.filter (fun e => !e.2.owner.any p), queue := q.queue.filter (fun w => !p w.from_), deferred := q.deferred.filter (fun w => !p w.from_), done := d2 } } }

/-- A ticket's work is withdrawn: its engine requests are aborted, those of its item and those made for the ticket itself (R81, R210, R234). -/
def State.abortWork (s : State) (ids : List Nat) : State :=
  let items := s.units.items.filter (fun i => ids.contains i.ticket)
  (s.abortCtx ids .aborted).abortPke (fun o => items.any (fun i => i.unit == o.1 && i.slot == o.2.1) || (o.2.2 != 0 && ids.contains o.2.2)) false

/-- Withdraw tickets with the requests of their work (R81, R111). -/
def State.withdrawAll (s : State) (p : Tk → Bool) (status : Nat) (post : Bool) : State :=
  let ids := (s.host.tickets.filter (fun t => p t && t.stage != .done)).map Tk.id
  (s.abortWork ids).withdraw p status post

/-- Does the machine run at all: the reads gave the segment, and the template has its applet? -/
def Tk.runs (t : Tk) : Bool := decide (t.ing.cause = 0) && t.templ.isSome && t.applet.isSome

/-- Does the ticket's item run no program: on a built-in applet, which holds no code, or on none at all (R178, R190)? -/
def Tk.plain (t : Tk) : Bool := !t.runs || t.applet.any (fun a => a.code.isEmpty)

/-- Does the item wait for an engine result or for its data (R171)? One whose program has ended, or that has none, waits for the engines of its hand-over. -/
def State.waits (s : State) (i : Item) : Bool :=
  let c := s.crypto
  let mine := fun (w : PkeWait) => w.req.owner == i.unit && w.req.slot.val == i.slot
  (s.tk? i.ticket).any (fun t => t.repull || t.plain) || (i.vm.ended != .running && decide (i.vm.cycles ≤ i.vm.worst)) || c.cipherQueue.any (fun w => w.req.owner == i.ticket) || c.hashQueue.any (fun w => w.req.owner == i.ticket) ||
    c.rows.any (fun r => r.2.run.any (fun x => x.call.req.owner == i.ticket) || r.2.lanes.any (fun x => x.call.req.owner == i.ticket)) ||
    (c.pke.queue ++ c.pke.deferred).any mine || c.pke.engines.any (fun e => e.2.run.any (fun r => mine r.wait))

/-- May the stall's cores turn to another of its items: they run none, or one that waits (R171)? -/
def State.coreFree (s : State) (unit : Nat) : Bool := s.units.items.all (fun i => i.unit != unit || !i.core || s.waits i)

/-- The cores of a stall run the item of a ticket, and no other. -/
def State.onCore (s : State) (unit w : Nat) : State :=
  { s with units := { s.units with items := s.units.items.map (fun i => if i.unit = unit then { i with core := i.ticket == w } else i) } }

/-- Rows of a device, market or row address. -/
def rowsUnder (a : Nat) : List Nat :=
  match a / 4096 with
  | 0 => List.range 64
  | 1 => (List.range 8).map (fun r => a / 256 % 16 * 8 + r)
  | _ => [rowNo a]

/-! The grinders (R208). -/

/-- A grinder takes a fresh seed, which takes effect at the next block. A seed has 32 bytes (log 110). -/
def State.seedGrinder (s : State) (row : Nat) : State :=
  (s.drewBytes 32).setRowEng row { s.rowEng row with grinderSeed := s.drawBytes 32, grinderPos := 0, grinderReseeds := (s.rowEng row).grinderReseeds + 1, grinderFails := 0, grinderOk := true }

/-- Every row's grinder is seeded. -/
def State.seedGrinders (s : State) : State := (List.range 64).foldl State.seedGrinder s

/-! Rows (R171 to R174). -/

def spareAddr (row : Nat) : Nat := stallAddr row 8

/-- Is the unit out for a test: it drains, or is under test (R197)? -/
def State.inTest (s : State) (a : Nat) : Bool := (s.unitSt a).state == .draining || (s.unitSt a).state == .underTest

/-- Set a unit's state; a fault under a SELF_TEST breaks that test (R427). -/
def State.setUState (s : State) (a : Nat) (st : UnitState) : State :=
  s.setUnit a { s.unitSt a with state := st, broke := (s.unitSt a).broke || (st == .faulted && s.inTest a) }

/-- An ingest ticket ends SKIPPED, cause REPEATED_FAULT: its item is gone and its result goes to the till (R113, R174). -/
def State.skipFault (s : State) (t : Tk) : State :=
  let s1 := (((s.abortWork [t.id]).noteLeave t).skip t 2).pruneRot
  { s1 with units := { s1.units with items := s1.units.items.filter (fun i => i.ticket != t.id) } }

/-- Every ingest ticket of a row without a working stall that waits for a stall ends SKIPPED (R174). -/
def State.skipRow (s : State) (row : Nat) : State :=
  if s.rowWorks row then s
  else
    (s.host.tickets.filter (fun t => (t.tk.opcode == 1 || t.tk.opcode == 2) && rowNo (s.tab (t.tab.getD 0)).affinity == row &&
      ((t.stage == .ladder && t.need.head? == some .stall) || t.stage == .staged))).foldl State.skipFault s

/-- An item is discarded and its ticket waits to be started again from its start; a second fault ends it (R113, R423). `keep` says that it keeps its work slot (R81). -/
def State.rerunItem (s : State) (i : Item) (keep fault : Bool) : State :=
  let s1 := { s.abortWork [i.ticket] with units := { s.units with items := s.units.items.filter (fun x => x.ticket != i.ticket) } }
  match s1.tk? i.ticket with
  | none => s1
  | some t =>
    if fault && decide (1 ≤ t.reruns) then s1.skipFault t
    else s1.setTk { t with stage := .staged, stall := if keep then t.stall else none, reruns := t.reruns + b2n fault, retried := t.retried || fault, epoch := some i.epoch }

/-- A change of a row's spare, or the loss of its last stall, is signalled, the latter in FAULT.EVENTS too (R174, R429, R449). -/
def State.rowEvent (s old : State) (row : Nat) : State :=
  let last := !s.rowWorks row && old.rowWorks row
  let s1 := if last then s.faultEvent 6 else s
  if s.spareFor (rowAddr row) ≠ old.spareFor (rowAddr row) ∨ last then s1.devEvent 2 else s1

/-- The spare, holding no item, turns to the lowest stall of the row that is out, or rests (R173). -/
def State.spareNext (s : State) (row : Nat) : State :=
  let sp := spareAddr row
  let cur := s.spareFor (rowAddr row)
  let busy := s.units.items.any (fun i => i.unit == sp)
  if (s.unitSt sp).state == .standingIn && !busy && (s.unitSt (stallAddr row cur)).state == .active then
    match (List.range 8).find? (fun i => (s.unitSt (stallAddr row i)).state == .faulted || (s.unitSt (stallAddr row i)).state == .retired) with
    | some i => (s.setSpareFor (rowAddr row) i).devEvent 2
    | none => ((s.setSpareFor (rowAddr row) 0xF).setUState sp .idle).devEvent 2
  else s

/-- The stall that the spare of a row is to stand in for: the one it stood for while that is still out, else the lowest that is (R173). -/
def State.outStall (s : State) (row : Nat) : Option Nat :=
  let out := fun i => (s.unitSt (stallAddr row i)).state == .faulted || (s.unitSt (stallAddr row i)).state == .retired
  let cur := s.spareFor (rowAddr row)
  if cur < 8 ∧ out cur then some cur else (List.range 8).find? out

/-- A spare that has passed its tests stands in for a stall that is out, or rests (R173, log 37). -/
def State.spareBack (s : State) (row : Nat) : State :=
  match s.outStall row with
  | some i => (s.setUState (spareAddr row) .standingIn).setSpareFor (rowAddr row) i
  | none => (s.setUState (spareAddr row) .idle).setSpareFor (rowAddr row) 0xF

/-- TS25's count of lockstep mismatches within its window (R354, R374). -/
def State.countMismatch (s : State) : State :=
  { s with tamper := { s.tamper with mismatches := (s.tamper.mismatches.filter (fun t => decide (s.now < t + msCounts s.tamper.windowMs + 1))) ++ [s.now] } }

/-- Items of a row that a fault stopped are not running again yet (R420). -/
def State.recoveringRow (s : State) (row : Nat) : Bool :=
  s.power.pllSwitching || s.host.tickets.any (fun t => t.stage == .staged && decide (0 < t.reruns) && rowNo (s.tab (t.tab.getD 0)).affinity == row)

/-- Tickets that hold a work slot of a stall whose slots nobody takes over hold none: the row's other stalls take them up as slots free (R174). -/
def State.freeSlotsOf (s : State) (a : Nat) : State :=
  { s with host := { s.host with tickets := s.host.tickets.map (fun t => if t.stall = some a then { t with stall := none } else t) } }

/-- A stall faults (R172, R174, R175): its items re-run on the spare, or on the row's other stalls where the spare is taken or is itself the one that faults. -/
def State.stallFault (s : State) (a cls detail interrupt : Nat) (escalated : Bool) : State :=
  let row := rowNo a
  let idx := a % 16
  let items := s.units.items.filter (fun i => i.unit == a)
  let s1 := s.setUState a .faulted
  let second := s.recoveringRow row
  let stood := stallAddr row (s.spareFor (rowAddr row))
  let s2 :=
    if idx = 8 then
      let s2 := items.foldl (fun s i => s.rerunItem i false true) s1 |>.setSpareFor (rowAddr row) 0xF
      if (s.unitSt stood).state == .active then s2 else s2.freeSlotsOf stood
    else if (s.unitSt (spareAddr row)).state == .idle then items.foldl (fun s i => s.rerunItem i true true) ((s1.setUState (spareAddr row) .standingIn).setSpareFor (rowAddr row) idx)
    else if s.spareFor (rowAddr row) = idx ∧ (s.unitSt (spareAddr row)).state == .standingIn then items.foldl (fun s i => s.rerunItem i true true) s1
    else (items.foldl (fun s i => s.rerunItem i false true) s1).freeSlotsOf a
  let skipped := items.any (fun i => (s.tk? i.ticket).any (fun t => decide (1 ≤ t.reruns)))
  let s3 := s2.logFault { cls := cls, outcome := if skipped then 5 else if items = [] then 0 else 2, unit := a, interrupt := interrupt, detail := detail, escalated := escalated, double := second }
  (s3.skipRow row).rowEvent s row

/-! Which engine serves a row (R212). -/

/-- The row whose engine of a kind (base address 0x4000 or 0x5000) serves row `r`: its own, row r xor 1, the lowest working in the market, the lowest in the device. -/
def State.serving (s : State) (base : Nat → Nat) (r : Nat) : Option Nat :=
  let ok := fun x => (s.unitSt (base x)).state == .active
  if ok r then some r
  else if ok (r ^^^ 1) then some (r ^^^ 1)
  else match ((List.range 8).map (fun i => r / 8 * 8 + i)).find? ok with
    | some x => some x
    | none => (List.range 64).find? ok

/-- Items of owners whose engine operation was discarded run again from their start (R211). -/
def State.rerunOwners (s : State) (owners : List Nat) (fault : Bool) : State :=
  (s.units.items.filter (fun i => owners.contains i.ticket)).foldl (fun s i => s.rerunItem i true fault) s

/-- An engine check fails (R211): the engine is FAULTED, its contexts, operations and keys are cleared, and the items that it served run again. -/
def State.engineFault (s : State) (a cls interrupt : Nat) : State :=
  let row := rowNo a
  let e := s.rowEng row
  let owners := ((if a / 4096 = 4 then e.cipherOpen else e.hashOpen).map (·.1)).dedup
  let s1 := if a / 4096 = 4 then s.strikeCipher row (fun _ => true) .checkFault else s.strikeHash row (fun _ => true) .checkFault
  let s2 := s1.setRowEng row (if a / 4096 = 4 then { s1.rowEng row with keys := [] } else { s1.rowEng row with hmacKeys := [] })
  ((s2.setUState a .faulted).rerunOwners owners true).logFault { cls := cls, outcome := if owners = [] then 0 else 2, unit := a, interrupt := interrupt, detail := 0 }

/-- Working engines of the PKE pool, in number order. -/
def State.pkeWorking (s : State) : List Nat := (List.range 16).filter (fun e => (s.unitSt (0x6000 + e)).state == .active)

/-- Working ledger hashers (R217): without one no record can be sealed. -/
def State.hashersWorking (s : State) : List Nat := (List.range 8).filter (fun e => (s.unitSt (0x7000 + e)).state == .active)

/-- The pool falls below four working engines (R230). -/
def State.poolLow (s old : State) : State :=
  if s.pkeWorking.length < 4 ∧ 4 ≤ old.pkeWorking.length then s.logFault { cls := 0x19, unit := 0x6000, detail := s.pkeWorking.length } else s

end Sys2Proof.Machine
end

