-- ==== Sys2Proof/Machine/Cipher.lean ====
section
/-! DEFINITION. The row cipher and hash engines (R199 to R219): keys, contexts, the calls that wait, the operations that run and what they yield. A call waits until
an engine takes it up; its operation is done when the engine's cycles have passed in secure time (log 110). -/

namespace Sys2Proof.Machine

/-! Cycles and the grinder (R206 to R209, R214). -/

/-- Cycles at 1.6 GHz in counts of secure time, rounded up. -/
def cycleCounts (n : Nat) : Nat := ceilDiv (n * 32768) 1600000000

/-- Dummy rounds of a block, and how many of them come before its real rounds (R206). -/
def dummyRounds (seed : Bytes) (block : Nat) : Nat := (Config.dummyDraw seed block).val
def dummyBefore (seed : Bytes) (block : Nat) : Nat := (Config.splitDraw seed block (dummyRounds seed block)).val

/-- The order in which a block's 16 bytes pass SubBytes: a Fisher-Yates shuffle (R207). -/
def byteOrder (seed : Bytes) (block : Nat) : List Nat :=
  (List.range 15).foldl (fun l k =>
    let i := 15 - k
    let j := (Config.shuffleDraw seed block i).val
    (l.set i (l.getD j 0)).set j (l.getD i 0)) (List.range 16)

/-- Real rounds of a key in a mode (FIPS 197); XTS has two keys. -/
def keyRounds (m : CipherMode) (n : Nat) : Nat := (if m = .xts then n / 8 else n / 4) + 6

/-- Cycles of one block (R208). -/
def blockCycles (seed : Bytes) (block rounds : Nat) : Nat := rounds + dummyRounds seed block

/-- The longest that an operation takes: set-up, 6 dummy rounds in every block, E(J0) and AAD of a GCM message (R208). -/
def cipherCycles (m : CipherMode) (key aad data : Nat) : Nat := 8 + (data / 16 + 1 + b2n (m == .gcm)) * (keyRounds m key + 6) + 4 * ceilDiv aad 16

/-- Bytes and cycles of a block of a hash (R214). -/
def hashBlock (a : HashAlg) : Nat × Nat :=
  match a with
  | .sha256 => (64, 64) | .sha384 => (128, 80) | .sha512 => (128, 80) | .sha3_256 => (136, 24) | .sha3_384 => (104, 24)

/-- The longest that a hash operation takes, the padding and HMAC's outer block with it. -/
def hashCycles (a : HashAlg) (data : Nat) (keyed : Bool) : Nat := (ceilDiv (data + 17) (hashBlock a).1 + b2n keyed) * (hashBlock a).2

/-- Largest operation, message and AAD of R199 and R202. -/
def maxOp : Nat := 65536
def maxMessage : Nat := 16777216
def maxAad : Nat := 65536

/-! Key slots (R200, R201). -/

/-- A key as a cipher slot holds it, with the GCM subkey and the CMAC subkeys; two XTS keys have none. -/
def KeySlot.of (src : KeySrc) (key : Bytes) : KeySlot :=
  let h := if key.length = 16 ∨ key.length = 24 ∨ key.length = 32 then aesBlock key (zeros 16) else []
  { src := src, key := key, h := h, k1 := cmacK1 h, k2 := cmacDouble (cmacK1 h) }

/-- The chaining words of an HMAC over a hash for a padded key. -/
def hmacWords (a : HashAlg) (pad : Byte) (key : Bytes) : List Nat :=
  match a with
  | .sha256 => (hmac256Keyed pad key).map BitVec.toNat | .sha384 => (hmac384Keyed pad key).map BitVec.toNat | _ => (hmac512Keyed pad key).map BitVec.toNat

/-- A key as an HMAC slot holds it (R214). -/
def HmacSlot.of (src : KeySrc) (a : HashAlg) (key : Bytes) : HmacSlot := { src := src, alg := a, inner := hmacWords a 0x36 key, outer := hmacWords a 0x5C key }

/-- The MAC of a message from a slot's two states. -/
def HmacSlot.mac (k : HmacSlot) (m : Bytes) : Bytes :=
  match k.alg with
  | .sha256 => sha2Small.mac 32 (k.inner.map (BitVec.ofNat 32)) (k.outer.map (BitVec.ofNat 32)) m
  | .sha384 => sha2Big.mac 48 (k.inner.map (BitVec.ofNat 64)) (k.outer.map (BitVec.ofNat 64)) m
  | _ => sha2Big.mac 64 (k.inner.map (BitVec.ofNat 64)) (k.outer.map (BitVec.ofNat 64)) m

/-- The key of a source: a vault key by handle, or a ROM key on the self-test path (R201). -/
def State.engineKey (s : State) (k : KeySrc) (selfTest : Bool) : Option Bytes :=
  match k with
  | .handle h => s.keyOf h
  | .rom b => if selfTest then some b else none

/-- A slot used becomes the most recently used; a miss takes a free slot, or replaces the least recently used one that is not `busy`. None when every slot is (R201). -/
def useSlot {α : Type} (cap : Nat) (slots : List α) (same busy : α → Bool) (k : α) : Option (List α) :=
  if slots.any same ∨ slots.length < cap then some (slots.filter (fun x => !same x) ++ [k])
  else if slots.any (fun x => !busy x) then some (slots.eraseP (fun x => !busy x) ++ [k])
  else none

/-- No key of the vault can be loaded any more: a response has zeroised it (R210). -/
def State.vaultGone (s : State) : Bool := s.power.mode == .lockdown && s.vault.vaultKey.isNone

/-! What a cipher operation yields (R202 to R204). -/

/-- Does a key length suit the mode: not, where R203 refuses it. -/
def keyFits (m : CipherMode) (n : Nat) : Bool :=
  match m with
  | .xts => n == 32 || n == 64
  | _ => n == 16 || n == 24 || n == 32

/-- The lengths of R202 for a message of a mode other than GCM, whole (`last`) or so far, and its IV. -/
def lengthsOk (m : CipherMode) (enc last : Bool) (iv data : Nat) : Bool :=
  decide (data ≤ maxMessage) &&
  match m with
  | .ctr => iv == 16
  | .cbc => iv == 16 && (enc || !last || (decide (16 ≤ data) && decide (data % 16 = 0)))
  | .xts => iv == 16 && (!last || decide (16 ≤ data))
  | .ecb => !last || decide (data % 16 = 0)
  | _ => true

/-- May the piece `b` of AAD stand at `at_` of `total` bytes: whole blocks but for the last, apart from the pieces taken in already (R202). -/
def aadFits (old : SMap Bytes) (at_ : Nat) (b : Bytes) (total : Nat) : Bool :=
  b == [] || (decide (at_ % 16 = 0) && decide (at_ + b.length ≤ total) && (decide (b.length % 16 = 0) || decide (at_ + b.length = total)) &&
    old.all (fun p => decide (p.1 + p.2.length ≤ at_) || decide (at_ + b.length ≤ p.1)))

def aadLength (l : SMap Bytes) : Nat := (l.map (fun p => p.2.length)).sum
def aadBytes (l : SMap Bytes) : Bytes := l.flatMap (·.2)

/-- A context with the input of one more operation. -/
def CipherCtx.feed (c : CipherCtx) (r : CipherReq) : CipherCtx :=
  { c with aad := if r.aad = [] then c.aad else c.aad.ins r.aadAt r.aad, data := c.data ++ r.data, tag := r.tag.orElse (fun _ => c.tag) }

/-- Has a GCM context taken in every AAD and data block (R202)? -/
def CipherCtx.full (c : CipherCtx) : Bool := decide (aadLength c.aad = c.aadLen) && decide (c.data.length = c.dataLen)

/-- Is the operation the last of its message? -/
def CipherCtx.last (c : CipherCtx) (r : CipherReq) : Bool := !r.more && (c.mode != .gcm || c.full)

/-- Are the lengths of the message so far those of R202? `old` is the AAD before the operation. -/
def CipherCtx.lengths (c : CipherCtx) (old : SMap Bytes) (r : CipherReq) : Bool :=
  if c.mode = .gcm then
    decide (c.iv.length = 12) && decide (c.aadLen ≤ maxAad) && decide (c.dataLen ≤ maxMessage) && decide (c.data.length ≤ c.dataLen) && aadFits old r.aadAt r.aad c.aadLen
  else lengthsOk c.mode c.encrypt (c.last r) c.iv.length c.data.length

/-- Does a tag given to compare, cut by the caller, agree? No tag agrees with none. -/
def tagAgrees (want : Option Bytes) (tag : Bytes) : Bool := match want with | some w => w != [] && tag.take w.length == w | none => false

/-- The result of a whole message under the key of a slot: status and output. Decryption releases nothing unless its check passes (R204). -/
def cipherResult (k : KeySlot) (c : CipherCtx) : EngStatus × Bytes :=
  match c.mode with
  | .gcm =>
    let rks := roundKeys k.key
    let out := gcmRun rks c.iv 2 (toBlocks c.data)
    if c.encrypt then (.ok, out ++ gcmTagWith rks k.h c.iv (aadBytes c.aad) out)
    else if tagAgrees c.tag (gcmTagWith rks k.h c.iv (aadBytes c.aad) c.data) then (.ok, out) else (.tagFail, [])
  | .ctr => (.ok, aesCtr k.key c.iv c.data)
  | .cbc =>
    if c.encrypt then (.ok, aesCbcEnc k.key c.iv c.data)
    else match aesCbcDec k.key c.iv c.data with | some p => (.ok, p) | none => (.padFail, [])
  | .cmac =>
    let t := cmacRun (roundKeys k.key) k.k1 k.k2 c.data
    if c.tag.isNone then (.ok, t) else if tagAgrees c.tag t then (.ok, []) else (.tagFail, [])
  | .xts => (.ok, aesXts k.key c.encrypt c.iv c.data)
  | .ecb => (.ok, aesEcb k.key c.encrypt c.data)

/-- What may be released of a message that goes on: what later data cannot change, and nothing of a GCM or CBC decryption (R204). -/
def cipherSoFar (k : KeySlot) (c : CipherCtx) : Bytes :=
  let n := c.data.length / 16
  match c.mode with
  | .gcm => if c.encrypt then gcmRun (roundKeys k.key) c.iv 2 (toBlocks c.data) else []
  | .ctr => aesCtr k.key c.iv c.data
  | .cbc => if c.encrypt then cbcEncRun (roundKeys k.key) c.iv (toBlocks (c.data.take (16 * n))) else []
  | .cmac => []
  | .xts => if n ≤ 1 then [] else aesXts k.key c.encrypt c.iv (c.data.take (16 * (n - 1)))
  | .ecb => aesEcb k.key c.encrypt (c.data.take (16 * n))

/-- One operation on a context: status, what it releases, and the context it leaves open. -/
def cipherStep (k : KeySlot) (c : CipherCtx) (r : CipherReq) : EngStatus × Bytes × Option CipherCtx :=
  let c1 := c.feed r
  if !c1.lengths c.aad r then (.length, [], none)
  else if c1.last r then let x := cipherResult k c1; (x.1, x.2.drop c.given, none)
  else
    let out := (cipherSoFar k c1).drop c.given
    (.ok, out, some { c1 with given := c.given + out.length })

/-! Calls that wait (R199, R200, R210 to R212). -/

/-- The engines are paused: the supply warning, or the PLLs' switch (R213, R425). -/
def State.enginesPaused (s : State) : Bool := s.power.warn || s.power.pllSwitching

/-- The class of a caller's ticket; 3 for self-test (R67). -/
def State.callClass (s : State) (owner : Nat) : Fin 4 := match s.tk? owner with | some t => t.cls | none => 3

/-- An engine that finishes what it holds. -/
def State.holdsOpen (s : State) (a : Nat) : Bool := (s.unitSt a).state == .active || (s.unitSt a).state == .draining

/-- The row whose cipher engine takes the call: the one that holds its context, or the one that serves its row (R197, R212). -/
def State.cipherEngine (s : State) (r : CipherReq) : Option Nat :=
  match s.crypto.rows.find? (fun p => s.holdsOpen (cipherAddr p.1) && p.2.cipherOpen.contains (r.owner, r.ctx.val)) with
  | some p => some p.1
  | none => s.serving cipherAddr (rowNo r.row)

/-- The open context of a call in an engine. -/
def RowEng.cipherCtx (e : RowEng) (r : CipherReq) : Option CipherCtx := e.ctxs.find? (fun c => c.owner == r.owner && c.ctx == r.ctx)

/-- The context a call works on, opened now where it has none. -/
def RowEng.openCtx (e : RowEng) (c : CipherCall) : CipherCtx :=
  (e.cipherCtx c.req).getD
    { owner := c.req.owner, ctx := c.req.ctx, mode := c.mode, src := c.req.key, encrypt := c.req.encrypt, iv := c.req.iv, aadLen := c.req.aadLen, dataLen := c.req.dataLen
      aad := [], data := [], tag := none, given := 0 }

/-- The key slot of a call: the one loaded, or one to be loaded now. -/
def State.cipherKey (s : State) (e : RowEng) (r : CipherReq) : Option KeySlot :=
  match e.keys.find? (fun k => k.src == r.key) with
  | some k => some k
  | none => (s.engineKey r.key r.selfTest).map (KeySlot.of r.key)

/-- The slots once the call's key is used. -/
def RowEng.keysWith (e : RowEng) (k : KeySlot) : Option (List KeySlot) := useSlot 16 e.keys (fun x => x.src == k.src) (fun x => e.ctxs.any (fun c => c.src == x.src)) k

/-- Has the engine a context for the call: its own, or a free one, of which 4 are kept for self-test (R200)? A work slot's one context serves one message at a time. -/
def RowEng.cipherRoom (e : RowEng) (c : CipherCall) : Bool :=
  match e.cipherCtx c.req with
  | some o => o.mode == c.mode && o.src == c.req.key
  | none => if c.req.selfTest then decide (e.ctxs.countP (fun x => x.owner == 0) < 4) else decide (e.ctxs.countP (fun x => x.owner != 0) < 36)

/-- Does R203 refuse the call? -/
def cipherRefused (c : CipherCall) (k : Option KeySlot) : Bool := (c.mode == .ecb && !c.req.selfTest) || k.any (fun k => !keyFits c.mode k.key.length)

/-- Can the engine take up the call now? A call whose key is gone for good waits for ever (R210). -/
def State.cipherMay (s : State) (eng : Nat) (c : CipherCall) : Bool :=
  let e := s.rowEng eng
  let k := s.cipherKey e c.req
  cipherRefused c k || (e.cipherRoom c && (match k with | some k => (e.keysWith k).isSome | none => !s.vaultGone))

/-- A caller names a key that the vault has not issued: a datapath fault of the caller, whose item runs again (R242, log 109). -/
def State.callerFault (s : State) (row owner : Nat) : State :=
  let unit := match s.units.items.find? (fun i => i.ticket == owner) with | some i => i.unit | none => row
  (s.rerunOwners [owner] true).logFault { cls := 0x11, outcome := 2, unit := unit, detail := EngStatus.checkFault.code }

/-- The engine takes up a call: its operation runs for the cycles it needs. -/
def State.cipherBegin (s0 : State) (eng : Nat) (c : CipherCall) : State :=
  let s := State.wakeRow { s0 with crypto := { s0.crypto with cipherQueue := s0.crypto.cipherQueue.erase c } } eng
  let e := s.rowEng eng
  let k := s.cipherKey e c.req
  if cipherRefused c k then s.setRowEng eng { e with run := some { call := c, ready := s.now + cycleCounts 8, status := .modeRefused, out := [], after := none } }
  else match k with
    | none => s.callerFault c.req.row c.req.owner
    | some k =>
      let x := cipherStep k (e.openCtx c) c.req
      s.setRowEng eng { e with
        keys := (e.keysWith k).getD e.keys
        run := some { call := c, ready := s.now + cycleCounts (cipherCycles c.mode k.key.length c.req.aad.length c.req.data.length), status := x.1, out := x.2.1, after := x.2.2 }
        grinderPos := e.grinderPos + c.req.data.length / 16 + 1 }

/-- An engine that is free takes up the call that the arbitration gives it (R68, R199). -/
def State.cipherTake (s : State) (eng : Nat) : State :=
  if (s.rowEng eng).run.isSome then s
  else
    let q := s.crypto.cipherQueue
    let first := fun (c : CipherCall) => q.find? (fun d => d.req.owner == c.req.owner && d.req.ctx == c.req.ctx) == some c
    let cands := q.filter (fun c => s.cipherEngine c.req == some eng && first c && s.cipherMay eng c)
    match s.pickClass (16 + eng) (fun k => cands.any (fun c => c.cls.val == k)) (fun _ => 1) with
    | none => s
    | some (k, s1) => match cands.find? (fun c => c.cls.val == k) with | some c => s1.cipherBegin eng c | none => s

/-- A status that is answered; LENGTH and MODE_REFUSED are handled as CHECK_FAULT: the item runs again (R205). -/
def State.answer (s : State) (hash : Bool) (d : EngDone) : State :=
  let s1 := s.report hash d
  if d.status = .length ∨ d.status = .modeRefused then (s1.rerunOwners [d.owner] true).logFault { cls := 0x11, outcome := 2, unit := d.engine, detail := d.status.code } else s1

/-- The operation of a row's cipher engine ends once its time has passed. -/
def State.cipherEnd (s : State) (row : Nat) : State :=
  let e := s.rowEng row
  match e.run with
  | none => s
  | some r =>
    if s.now < r.ready then s
    else
      let q := r.call.req
      (s.setRowEng row { e with run := none, ctxs := e.ctxs.filter (fun c => c.owner != q.owner || c.ctx != q.ctx) ++ r.after.toList }).answer false
        { engine := cipherAddr row, owner := q.owner, ctx := q.ctx.val, status := r.status, out := r.out }

/-! The hash engines (R199, R200, R214). -/

/-- The digest of an algorithm. -/
def hashOf (a : HashAlg) (b : Bytes) : Bytes :=
  match a with
  | .sha256 => sha256 b | .sha384 => sha384 b | .sha512 => sha512 b | .sha3_256 => sha3_256 b | .sha3_384 => sha3_384 b

def hmacAlgOf (a : HmacAlg) : HashAlg := match a with | .sha256 => .sha256 | .sha384 => .sha384 | .sha512 => .sha512

/-- The row whose hash engine takes the call. -/
def State.hashEngine (s : State) (r : HashReq) : Option Nat :=
  match s.crypto.rows.find? (fun p => s.holdsOpen (hashAddr p.1) && p.2.hashOpen.contains (r.owner, r.ctx.val)) with
  | some p => some p.1
  | none => s.serving hashAddr (rowNo r.row)

def RowEng.hashCtx (e : RowEng) (r : HashReq) : Option HashCtx := e.hctxs.find? (fun c => c.owner == r.owner && c.ctx == r.ctx)

/-- The HMAC slot of a call; the self-test is owner 0. -/
def State.hmacKey (s : State) (e : RowEng) (c : HashCall) (src : KeySrc) : Option HmacSlot :=
  match e.hmacKeys.find? (fun k => k.src == src && k.alg == c.alg) with
  | some k => some k
  | none => (s.engineKey src (decide (c.req.owner = 0))).map (HmacSlot.of src c.alg)

def RowEng.hmacWith (e : RowEng) (k : HmacSlot) : Option (List HmacSlot) :=
  useSlot 8 e.hmacKeys (fun x => x.src == k.src && x.alg == k.alg) (fun x => e.hctxs.any (fun c => c.src == some x.src && c.alg == x.alg)) k

/-- Has the engine a context for the call: its own, or one of the 72 (R200)? -/
def RowEng.hashRoom (e : RowEng) (c : HashCall) : Bool :=
  match e.hashCtx c.req with
  | some o => o.alg == c.alg && o.src == c.key
  | none => decide (e.hctxs.length < 72)

def State.hashMay (s : State) (eng : Nat) (c : HashCall) : Bool :=
  let e := s.rowEng eng
  e.hashRoom c && (match c.key with
    | none => true
    | some src => match s.hmacKey e c src with | some k => (e.hmacWith k).isSome | none => !s.vaultGone)

/-- Put an operation on the lane that is free (R214). -/
def RowEng.onLane (e : RowEng) (r : HashRun) : RowEng := if e.laneA.isNone then { e with laneA := some r } else { e with laneB := some r }

/-- One hash operation on a context: what it releases and the context it leaves open. -/
def hashStep (k : Option HmacSlot) (c : HashCall) (data : Bytes) : Bytes × Option HashCtx :=
  if c.req.more then ([], some { owner := c.req.owner, ctx := c.req.ctx, alg := c.alg, src := c.key, data := data })
  else (match k with | some k => k.mac data | none => hashOf c.alg data, none)

/-- A lane takes up a call. -/
def State.hashBegin (s0 : State) (eng : Nat) (c : HashCall) : State :=
  let s := State.wakeRow { s0 with crypto := { s0.crypto with hashQueue := s0.crypto.hashQueue.erase c } } eng
  let e := s.rowEng eng
  let data := ((e.hashCtx c.req).map HashCtx.data).getD [] ++ c.req.data
  let go := fun (k : Option HmacSlot) (ks : List HmacSlot) =>
    let x := hashStep k c data
    s.setRowEng eng (RowEng.onLane { e with hmacKeys := ks }
      { call := c, ready := s.now + cycleCounts (hashCycles c.alg c.req.data.length k.isSome), status := .ok, out := x.1, after := x.2 })
  match c.key with
  | none => go none e.hmacKeys
  | some src => match s.hmacKey e c src with
    | some k => go (some k) ((e.hmacWith k).getD e.hmacKeys)
    | none => s.callerFault c.req.row c.req.owner

/-- A hash engine with a free lane takes up the call that the arbitration gives it. -/
def State.hashTake (s : State) (eng : Nat) : State :=
  let e := s.rowEng eng
  if e.laneA.isSome && e.laneB.isSome then s
  else
    let q := s.crypto.hashQueue
    let first := fun (c : HashCall) => q.find? (fun d => d.req.owner == c.req.owner && d.req.ctx == c.req.ctx) == some c && !e.lanes.any (fun r => r.call.req.owner == c.req.owner && r.call.req.ctx == c.req.ctx)
    let cands := q.filter (fun c => s.hashEngine c.req == some eng && first c && s.hashMay eng c)
    match s.pickClass (128 + eng) (fun k => cands.any (fun c => c.cls.val == k)) (fun _ => 1) with
    | none => s
    | some (k, s1) => match cands.find? (fun c => c.cls.val == k) with | some c => s1.hashBegin eng c | none => s

/-- The operation of a lane ends once its time has passed. -/
def State.laneEnd (s : State) (row : Nat) (b : Bool) : State :=
  let e := s.rowEng row
  match if b then e.laneB else e.laneA with
  | none => s
  | some r =>
    if s.now < r.ready then s
    else
      let q := r.call.req
      let e1 := if b then { e with laneB := none } else { e with laneA := none }
      (s.setRowEng row { e1 with hctxs := e1.hctxs.filter (fun c => c.owner != q.owner || c.ctx != q.ctx) ++ r.after.toList }).answer true
        { engine := hashAddr row, owner := q.owner, ctx := q.ctx.val, status := r.status, out := r.out }

/-! Both engines. -/

/-- Operations whose time has passed end, and the engines take up what waits. -/
def State.settleRows (s : State) : State :=
  if s.enginesPaused then s
  else
    let s1 := s.crypto.rows.foldl (fun s p => ((s.cipherEnd p.1).laneEnd p.1 false).laneEnd p.1 true) s
    let s2 := (s1.crypto.cipherQueue.filterMap (fun c => s1.cipherEngine c.req)).dedup.foldl State.cipherTake s1
    let es := (s2.crypto.hashQueue.filterMap (fun c => s2.hashEngine c.req)).dedup
    (es ++ es).foldl State.hashTake s2

/-- The operations that run are discarded, to run again from the contexts they began with, before the calls that wait (R213, R425). -/
def State.pauseRows (s : State) : State :=
  let c := s.crypto
  { s with crypto := { c with
      cipherQueue := c.rows.flatMap (fun p => (p.2.run.map CipherRun.call).toList) ++ c.cipherQueue
      hashQueue := c.rows.flatMap (fun p => p.2.lanes.map HashRun.call) ++ c.hashQueue
      rows := c.rows.foldl (fun m p => m.set noRow p.1 { p.2 with run := none, laneA := none, laneB := none }) c.rows } }

/-- A caller closes a context early (R210). -/
def State.closeCipher (s : State) (r : CipherReq) : State :=
  let mine := fun (o : Nat × Nat) => o == (r.owner, r.ctx.val)
  let s1 := s.crypto.rows.foldl (fun s p => s.strikeCipher p.1 mine .aborted) s
  { s1 with crypto := { s1.crypto with cipherQueue := s1.crypto.cipherQueue.filter (fun c => !mine (c.req.owner, c.req.ctx.val)) } }

def State.closeHash (s : State) (r : HashReq) : State :=
  let mine := fun (o : Nat × Nat) => o == (r.owner, r.ctx.val)
  let s1 := s.crypto.rows.foldl (fun s p => s.strikeHash p.1 mine .aborted) s
  { s1 with crypto := { s1.crypto with hashQueue := s1.crypto.hashQueue.filter (fun c => !mine (c.req.owner, c.req.ctx.val)) } }

/-- A call of a row's cipher engine (R199 to R205): it waits, and runs at once where an engine is free for it. A call names a row, and an operation has at most 64 KiB. -/
def State.cipherCall (s : State) (m : CipherMode) (r : CipherReq) : State :=
  if unitLevel r.row ≠ some 2 ∨ maxOp < r.data.length then s
  else if r.close then (s.closeCipher r).settleRows
  else State.settleRows { s with crypto := { s.crypto with cipherQueue := s.crypto.cipherQueue ++ [{ mode := m, req := r, cls := s.callClass r.owner }] } }

/-- A call of a row's hash engine (R199, R200, R214), keyed for HMAC. -/
def State.hashCall (s : State) (a : HashAlg) (key : Option KeySrc) (r : HashReq) : State :=
  if unitLevel r.row ≠ some 2 ∨ maxOp < r.data.length then s
  else if r.close then (s.closeHash r).settleRows
  else State.settleRows { s with crypto := { s.crypto with hashQueue := s.crypto.hashQueue ++ [{ alg := a, key := key, req := r, cls := s.callClass r.owner }] } }

/-- GCM (R202). -/
def execGcm (r : CipherReq) (s : State) : Host.Outcome State Fault Refusal := .next (s.cipherCall .gcm r)
/-- CTR (R202). -/
def execCtr (r : CipherReq) (s : State) : Host.Outcome State Fault Refusal := .next (s.cipherCall .ctr r)
/-- CBC (R202, R204). -/
def execCbc (r : CipherReq) (s : State) : Host.Outcome State Fault Refusal := .next (s.cipherCall .cbc r)
/-- CMAC (R202). -/
def execCmac (r : CipherReq) (s : State) : Host.Outcome State Fault Refusal := .next (s.cipherCall .cmac r)
/-- XTS (R202, R203). -/
def execXts (r : CipherReq) (s : State) : Host.Outcome State Fault Refusal := .next (s.cipherCall .xts r)
/-- ECB (R203). -/
def execEcb (r : CipherReq) (s : State) : Host.Outcome State Fault Refusal := .next (s.cipherCall .ecb r)

/-! The hash commands (R214). -/

/-- SHA-256 (R214). -/
def execSha256 (r : HashReq) (s : State) : Host.Outcome State Fault Refusal := .next (s.hashCall .sha256 none r)
/-- SHA-384 (R214). -/
def execSha384 (r : HashReq) (s : State) : Host.Outcome State Fault Refusal := .next (s.hashCall .sha384 none r)
/-- SHA-512 (R214). -/
def execSha512 (r : HashReq) (s : State) : Host.Outcome State Fault Refusal := .next (s.hashCall .sha512 none r)
/-- SHA3-256 (R214). -/
def execSha3x256 (r : HashReq) (s : State) : Host.Outcome State Fault Refusal := .next (s.hashCall .sha3_256 none r)
/-- SHA3-384 (R214). -/
def execSha3x384 (r : HashReq) (s : State) : Host.Outcome State Fault Refusal := .next (s.hashCall .sha3_384 none r)
/-- HMAC (R214). -/
def execHmac (r : HashReq) (alg : HmacAlg) (key : KeySrc) (s : State) : Host.Outcome State Fault Refusal := .next (s.hashCall (hmacAlgOf alg) (some key) r)

end Sys2Proof.Machine
end

