-- ==== Sys2Proof/Machine/Pke.lean ====
section
/-! DEFINITION. The public-key pool (R220 to R238): validation, the operations of R221, queueing, sessions. -/

namespace Sys2Proof.Machine

/-- A curve's data: field bytes, validation time, and the times of verify, sign, ECDH and key generation. -/
structure CurveTimes where
  c : Curve
  flen : Nat
  valid : Nat
  verify : Nat
  sign : Nat
  dh : Nat
  gen : Nat
  mac : Bytes → Bytes → Bytes
  hlen : Nat

def ct256 : CurveTimes := ⟨p256, 32, 20, 1250, 950, 900, 880, hmacSha256, 32⟩
def ct384 : CurveTimes := ⟨p384, 48, 31, 1900, 1500, 1400, 1360, hmacSha384, 48⟩
def ct521 : CurveTimes := ⟨p521, 66, 44, 4200, 3300, 3100, 3000, hmacSha512, 64⟩

/-- The first failure in the order of R224: BAD_LENGTH, BAD_SCALAR, BAD_POINT, BAD_INPUT. -/
def firstBad (len scalar point input : Bool) : Option PkeStatus :=
  if len then some .badLength else if scalar then some .badScalar else if point then some .badPoint else if input then some .badInput else none

def inp (r : PkeReq) (i : Nat) : Bytes := r.inputs.getD i []
def digestBad (b : Bytes) : Bool := decide (b.length < 20) || decide (64 < b.length)
def verdict (ok : Bool) : PkeStatus := if ok then .ok else .verifyFail

def ecVerify (t : CurveTimes) (r : PkeReq) : PkeOut :=
  let bad := firstBad (decide (r.inputs.length ≠ 3) || decide ((inp r 0).length ≠ 2 * t.flen) || digestBad (inp r 1) || decide ((inp r 2).length ≠ 2 * t.flen))
    false (t.c.decode (inp r 0)).isNone false
  match bad, t.c.decode (inp r 0) with
  | some st, _ => { status := st, time := t.valid }
  | none, some q => { status := verdict (t.c.verify q (inp r 1) (beNat ((inp r 2).take t.flen)) (beNat ((inp r 2).drop t.flen))), time := t.verify }
  | none, none => { status := .badPoint, time := t.valid }

def scalarBad (t : CurveTimes) (key : Bytes) : Bool := decide (beNat key = 0) || decide (t.c.n ≤ beNat key)

def ecSign (t : CurveTimes) (r : PkeReq) (key extra : Bytes) : PkeOut :=
  match firstBad (decide (r.inputs.length ≠ 1) || digestBad (inp r 0) || decide (key.length ≠ t.flen)) (scalarBad t key) false false with
  | some st => { status := st, time := t.valid }
  | none => { result := t.c.sign t.mac t.hlen (beNat key) (inp r 0) extra, time := t.sign, drawn := 32 }

def ecDh (t : CurveTimes) (r : PkeReq) (key : Bytes) : PkeOut :=
  match firstBad (decide (r.inputs.length ≠ 1) || decide ((inp r 0).length ≠ 2 * t.flen) || decide (key.length ≠ t.flen)) (scalarBad t key) (t.c.decode (inp r 0)).isNone false with
  | some st => { status := st, time := t.valid }
  | none => { secret := some ((t.c.encode (t.c.mul (beNat key) (t.c.decode (inp r 0)))).take t.flen), time := t.dh }

def ecGen (t : CurveTimes) (rand : Bytes) : PkeOut :=
  let d := t.c.scalarOf (rand.take t.c.seedBytes)
  { result := t.c.encode (t.c.mul d t.c.g), secret := some (beBytes t.flen d), time := t.gen, drawn := t.c.seedBytes }

def edVerifyOp (r : PkeReq) : PkeOut :=
  let a := edDecode (inp r 0)
  let bad := firstBad (decide (r.inputs.length ≠ 3) || decide ((inp r 0).length ≠ 32) || decide ((inp r 1).length ≠ 64) || decide ((inp r 2).length ≠ 64)) false
    (match a with | some q => edSmall q | none => true) false
  match bad, a with
  | some st, _ => { status := st, time := 12 }
  | none, none => { status := .badPoint, time := 12 }
  | none, some q =>
    let sv := leNat ((inp r 1).drop 32)
    { status := verdict (match edDecode ((inp r 1).take 32) with | some rp => decide (sv < edL) && edVerify q rp sv (inp r 2) | none => false), time := 1100 }

def edSignOp (r : PkeReq) (key : Bytes) : PkeOut :=
  if r.inputs ≠ [] ∨ key.length ≠ 32 ∨ 4096 < r.msg.length then { status := .badLength, time := 12 } else { result := edSign key r.msg, time := 750 }

def xDh (r : PkeReq) (key : Bytes) : PkeOut :=
  if r.inputs.length ≠ 1 ∨ (inp r 0).length ≠ 32 ∨ key.length ≠ 32 then { status := .badLength, time := 12 }
  else
    let z := x25519Fn key (inp r 0)
    if allZero z then { status := .badPoint, time := 600 } else { secret := some z, time := 600 }

def xGen (rand : Bytes) : PkeOut := { result := x25519Fn (rand.take 32) x25519Base, secret := some (rand.take 32), time := 550, drawn := 32 }

/-- RSA public operation on integers at the modulus length. -/
def rsaPub (bytes valid total : Nat) (r : PkeReq) : PkeOut :=
  let n := beNat (inp r 0)
  let e := beNat (inp r 1)
  let x := beNat (inp r 2)
  match firstBad (decide (r.inputs.length ≠ 3) || r.inputs.any (fun b => decide (b.length ≠ bytes)) || decide (n < 2 ^ (8 * bytes - 1))) false false
      (decide (n % 2 = 0) || decide (e % 2 = 0) || decide (e < 3) || decide (2 ^ 32 ≤ e) || decide (x = 0) || decide (n ≤ x)) with
  | some st => { status := st, time := valid }
  | none => { result := beBytes bytes (powMod x e n), time := if e = 65537 then total else Config.rsaPublicTime (8 * bytes) e }

/-- RSA private operation: the key is p, q, dp, dq, qinv at half length, then e at the modulus length. -/
def rsaPriv (bytes valid total : Nat) (r : PkeReq) (key : Bytes) : PkeOut :=
  let h := bytes / 2
  let f := fun i => beNat (slice key (h * i) h)
  let x := beNat (inp r 0)
  let e := beNat (key.drop (5 * h))
  match firstBad (decide (r.inputs.length ≠ 1) || decide ((inp r 0).length ≠ bytes) || decide (key.length ≠ 5 * h + bytes) || decide (f 0 < 2 ^ (8 * h - 1)) || decide (f 1 < 2 ^ (8 * h - 1)))
      false false (decide (f 0 ≤ f 2) || decide (f 1 ≤ f 3) || decide (f 0 ≤ f 4) || decide (x = 0) || decide (f 0 * f 1 ≤ x)) with
  | some st => { status := st, time := valid }
  | none =>
    let m := rsaCrt (f 0) (f 1) (f 2) (f 3) (f 4) e x
    if m.2 then { result := beBytes bytes m.1, time := total } else { status := .aborted, fault := true, time := total }

def kibTime (n : Nat) : Nat := 7 * n / 1024

def dsaVerifyOp (p : DsaSet) (valid total : Nat) (r : PkeReq) : PkeOut :=
  if r.inputs.length ≠ 3 ∨ (inp r 0).length ≠ p.pkLen ∨ (inp r 1).length ≠ p.sigLen ∨ 255 < (inp r 2).length ∨ 1048576 < r.msg.length then { status := .badLength, time := valid }
  else { status := verdict (dsaVerify p (inp r 0) (inp r 2) r.msg (inp r 1)), time := total + kibTime r.msg.length }

def dsaSignOp (p : DsaSet) (valid base each : Nat) (r : PkeReq) (key rand : Bytes) : PkeOut :=
  if r.inputs.length ≠ 1 ∨ 255 < (inp r 0).length ∨ 1048576 < r.msg.length ∨ key.length ≠ p.skLen then { status := .badLength, time := valid }
  else
    let g := dsaSign p key (inp r 0) r.msg (rand.take 32)
    { result := g.1, attempts := g.2, time := base + each * g.2 + kibTime r.msg.length, drawn := 32 }

def dsaGenOp (p : DsaSet) (time : Nat) (rand : Bytes) : PkeOut :=
  let k := dsaKeyGen p (rand.take 32)
  { result := k.1, secret := some k.2, time := time, drawn := 32 }

def kemGenOp (rand : Bytes) : PkeOut :=
  let k := kemKeyGen (rand.take 32) (slice rand 32 32)
  { result := k.1, secret := some k.2, time := 5000, drawn := 64 }

def kemEncOp (r : PkeReq) (rand : Bytes) : PkeOut :=
  match firstBad (decide (r.inputs.length ≠ 1) || decide ((inp r 0).length ≠ 1184)) false false (!kemEkOk (inp r 0)) with
  | some st => { status := st, time := 8 }
  | none => let k := kemEncaps (inp r 0) (rand.take 32); { result := k.2, secret := some k.1, time := 3500, drawn := 32 }

def kemDecOp (r : PkeReq) (key : Bytes) : PkeOut :=
  match firstBad (decide (r.inputs.length ≠ 1) || decide ((inp r 0).length ≠ 1088) || decide (key.length ≠ 2400)) false false (!kemDkOk key) with
  | some st => { status := st, time := 8 }
  | none => { secret := some (kemDecaps key (inp r 0)), time := 4500 }

/-- Does the operation take a private input by handle? -/
def opKeyed (op : Nat) : Bool := [0x20, 0x21, 0x22, 0x30, 0x31, 0x32, 0x51, 0x60, 0x80, 0x81, 0x82, 0xA0, 0xA1, 0xA2, 0xC2].contains op

/-- The object that the key bus delivers for a handle, as it is kept; none where the handle is unissued or empty (R242). -/
def State.keyObject (s : State) (h : Nat) : Option Bytes :=
  match handleType h with
  | 2 => (s.ecKeyOf h).map (beBytes 48)
  | 4 => (s.ecKeyOf h).map (beBytes 48)
  | 7 => s.ephKeyOf h
  | 3 => s.dsaKeyOf h
  | 5 => s.dsaKeyOf h
  | _ => s.keyOf h

/-- The private input of a request: from the vault, or from the self-test ROM. -/
def State.pkeKey (s : State) (k : KeySrc) : Option Bytes := match k with | .rom b => some b | .handle h => s.keyObject h

/-- Run an operation of R221 with its private input and the random bytes it may draw. -/
def pkeRun (op : Nat) (r : PkeReq) (key rand : Bytes) : PkeOut :=
  match op with
  | 0x10 => ecVerify ct256 r | 0x11 => ecVerify ct384 r | 0x12 => ecVerify ct521 r
  | 0x20 => ecSign ct256 r key (rand.take 32) | 0x21 => ecSign ct384 r key (rand.take 32) | 0x22 => ecSign ct521 r key (rand.take 32)
  | 0x30 => ecDh ct256 r key | 0x31 => ecDh ct384 r key | 0x32 => ecDh ct521 r key
  | 0x40 => ecGen ct256 rand | 0x41 => ecGen ct384 rand | 0x42 => ecGen ct521 rand
  | 0x50 => edVerifyOp r | 0x51 => edSignOp r key
  | 0x60 => xDh r key | 0x61 => xGen rand
  | 0x70 => rsaPub 256 6 180 r | 0x71 => rsaPub 384 10 380 r | 0x72 => rsaPub 512 15 660 r
  | 0x80 => rsaPriv 256 6 11000 r key | 0x81 => rsaPriv 384 10 34000 r key | 0x82 => rsaPriv 512 15 78000 r key
  | 0x90 => dsaVerifyOp mlDsa44 3 1100 r | 0x91 => dsaVerifyOp mlDsa65 4 1600 r | 0x92 => dsaVerifyOp mlDsa87 5 2400 r
  | 0xA0 => dsaSignOp mlDsa44 3 39000 900 r key rand | 0xA1 => dsaSignOp mlDsa65 4 57900 1200 r key rand | 0xA2 => dsaSignOp mlDsa87 5 82000 1700 r key rand
  | 0xB0 => dsaGenOp mlDsa44 45000 rand | 0xB1 => dsaGenOp mlDsa65 68000 rand | 0xB2 => dsaGenOp mlDsa87 96000 rand
  | 0xC0 => kemGenOp rand | 0xC1 => kemEncOp r rand | 0xC2 => kemDecOp r key
  | _ => { status := .badLength }

/-- Is the total time of R221 at most 150 µs (R230)? An ML-DSA message and an RSA exponent count. -/
def opShort (op : Nat) (r : PkeReq) : Bool :=
  [0x10, 0x20, 0x21, 0x30, 0x31, 0x40, 0x41, 0x50, 0x51, 0x60, 0x61].contains op || (op == 0x90 && decide (1100 + kibTime r.msg.length ≤ 1500)) ||
    ([0x70, 0x71, 0x72].contains op && decide (beNat (inp r 1) = 65537))

/-! Requesters (R220). -/

/-- Who may submit requests. -/
inductive Requester where
  | stall | ledger | verifier | vault | board | selfTest
deriving DecidableEq, Repr

/-- The requester of an owner identity: a unit address, or 0xF000 and a number (log 111). -/
def requesterOf (owner : Nat) : Option Requester :=
  match owner with
  | 0xF000 => some .ledger
  | 0xF001 => some .verifier
  | 0xF002 => some .vault
  | 0xF003 => some .selfTest
  | _ => match unitLevel owner with
    | some 3 => some .stall
    | some 6 => some .selfTest
    | some 10 => some .board
    | some 11 => some .board
    | _ => none

/-- The operations that a requester uses. -/
def Requester.uses (q : Requester) (op : Nat) : Bool :=
  match q with
  | .stall => [0x10, 0x11, 0x50, 0x90].contains op
  | .ledger => [0x21, 0xA1].contains op
  | .verifier => [0x11, 0x91].contains op
  | .vault => [0x30, 0x31, 0x41, 0xB1, 0xC1].contains op
  | .board => [0x10, 0x11, 0x30, 0x40, 0x91].contains op
  | .selfTest => true

/-- The item of a work slot. -/
def State.slotItem (s : State) (r : PkeReq) : Option Item := s.units.items.find? (fun i => i.unit == r.owner && i.slot == r.slot.val)

/-- The class of the work a request serves (R67, R220); the work of a stall without an item and of a ticket that is gone is of class 3. -/
def State.pkeClass (s : State) (q : Requester) (op : Nat) (r : PkeReq) : Fin 4 :=
  let mine := s.callClass r.ticket
  match q with
  | .stall => match s.slotItem r with | some i => s.callClass i.ticket | none => mine
  | .ledger => 0
  | .verifier => mine
  | .vault => if mine = 0 then 0 else if op = 0x31 ∨ op = 0xC1 ∨ (op = 0x41 ∧ handleType r.keyOut = 7) then 1 else 3
  | .board => 2
  | .selfTest => 3

/-! Engines and their memory (R229 to R232, R234). -/

/-- The sizes of an engine's regions. -/
def inputSize : Nat := 14336
def resultSize : Nat := 6144
def workSize : Nat := 12288

/-- INPUT as a request lays it out: the key-bus object first, then the public inputs, each from a multiple of 8 on (R221, R231). -/
def inputRegion (op : Nat) (key : Bytes) (r : PkeReq) : Bytes := (((if opKeyed op then [key] else []) ++ r.inputs).flatMap pad8).take inputSize

/-- The 32-byte descriptor of a request (R232). -/
def PkeWait.descriptor (w : PkeWait) : Bytes :=
  leBytes 1 w.op ++ leBytes 1 w.cls.val ++ leBytes 2 w.req.owner ++ leBytes 4 (b2n w.req.keep + 2 * b2n w.req.stream) ++ leBytes 8 w.req.msgAddr.toNat ++ leBytes 4 w.req.msg.length ++
    leBytes 4 (w.req.inputs.flatMap pad8).length ++ leBytes 4 (match w.req.key with | .handle h => h | .rom _ => 0) ++ zeros 4

/-- The 16-byte completion (R232). -/
def PkeDone.bytes (d : PkeDone) : Bytes :=
  leBytes 1 d.status.code ++ leBytes 1 (b2n d.fault + 2 * b2n d.keyBus) ++ leBytes 2 d.result.length ++ leBytes 2 d.engine ++ leBytes 2 d.attempts ++ leBytes 4 d.time ++ zeros 4

/-- The class-0 engines: the four highest-numbered working ones; every working one when there are fewer. -/
def State.class0Engines (s : State) : List Nat := let w := s.pkeWorking; w.drop (w.length - 4)
def State.pkeFree (s : State) (e : Nat) : Bool := (s.pke e).owner.isNone

/-- The free engine that a request of a class takes, other than those of `taken` (R230). -/
def State.poolEngine (s : State) (cls : Fin 4) (short : Bool) (taken : List Nat) : Option Nat :=
  let c0 := s.class0Engines
  let free := fun e => s.pkeFree e && !taken.contains e
  let general := s.pkeWorking.filter (fun e => !c0.contains e)
  if cls = 0 then (c0.find? free).orElse (fun _ => general.find? free)
  else (general.find? free).orElse (fun _ => if short && !s.crypto.pke.queue.any (fun q => q.cls == 0) then c0.find? free else none)

/-- The engine a request takes now: the session that its owner holds (R234), or a free one. -/
def State.pkeEngine (s : State) (w : PkeWait) : Option Nat :=
  match (List.range 16).find? (fun e => s.holdsOpen (0x6000 + e) && (s.pke e).owner == some w.from_) with
  | some e => if (s.pke e).run.isNone && decide ((s.pke e).requests < 4) then some e else none
  | none => s.poolEngine w.cls (opShort w.op w.req) []

/-- A secret result goes to the vault over the key bus: an ephemeral handle receives it; other uses take it inside their own command (log 27). -/
def State.keyBus (s : State) (h : Nat) (b : Bytes) : State :=
  if handleType h = 7 ∧ handleIndex h < 16 then { s with vault := { s.vault with eph := s.vault.eph.set (fun _ => []) (handleIndex h) b } } else s

/-- The ephemeral key of an ECDH is cleared as soon as it has run (R248). -/
def State.clearEph (s : State) (w : PkeWait) : State :=
  match w.req.key with
  | .handle h => if [0x30, 0x31, 0x32].contains w.op && handleType h == 7 then { s with vault := { s.vault with eph := s.vault.eph.del (handleIndex h) } } else s
  | .rom _ => s

def State.pushPke (s : State) (d : PkeDone) : State := { s with crypto := { s.crypto with pke := { s.crypto.pke with done := pushDone s.crypto.pke.done d } } }
def State.queuePke (s : State) (w : PkeWait) : State := { s with crypto := { s.crypto with pke := { s.crypto.pke with queue := s.crypto.pke.queue ++ [w] } } }

/-! Faults (R221, R227, R233, R235). -/

/-- A request comes back with a fault: it is submitted again once. The item of a stall whose request faults a second time ends SKIPPED, and until then it is marked as
recovered from a fault. OUTCOME follows: RESUBMITTED, or SKIPPED (R113, R235). -/
def State.resubmit (s : State) (w : PkeWait) : State × Nat :=
  let item := s.slotItem w.req
  let s1 := if w.resub ∧ item.isSome then s else s.queuePke { w with resub := true }
  match item.bind (fun i => s1.tk? i.ticket) with
  | some t => if w.resub then (s1.skipFault t, 5) else (s1.setTk { t with retried := true }, 3)
  | none => (s1, 3)

/-- A datapath check of an engine fails (R234, R235): the engine is FAULTED and wiped, the requester is answered ABORTED with FAULT and submits again. -/
def State.pkeFault (s : State) (e : Nat) (w : PkeWait) (interrupt : Nat) : State :=
  let a := 0x6000 + e
  let r := ((((s.setPke e {}).setUState a .faulted).poolLow s).pushPke (w.aborted a true)).resubmit w
  r.1.logFault { cls := 0x14, outcome := r.2, unit := a, interrupt := interrupt, detail := w.op }

/-- A request that only a fault of its requester explains (R221, R227, R233, R242): an operation or a handle that is not its own, a bad scalar, a corrupted camera key. It is a datapath
fault of the requester: the completion has FAULT set, no engine is FAULTED, and what can be mended by loading the inputs again is submitted again (log 111). -/
def State.requesterFault (s : State) (w : PkeWait) (d : PkeDone) (again : Bool) : State :=
  let s1 := s.pushPke { d with fault := true }
  let r := if again && !w.resub then s1.resubmit w
    else match (s1.slotItem w.req).bind (fun i => s1.tk? i.ticket) with | some t => (s1.skipFault t, 5) | none => (s1, 0)
  r.1.logFault { cls := 0x15, outcome := r.2, unit := if w.req.owner / 4096 = 15 then 0x6000 else w.req.owner, detail := w.op * 256 + d.status.code }

/-! Running (R231 to R235). -/

/-- The engine runs the operation of its session from validation on, with randomness drawn now (R234). -/
def State.pkeRunOn (s : State) (e : Nat) (w : PkeWait) (key : Bytes) : State :=
  let out := pkeRun w.op w.req key (s.drawBytes 80)
  (s.drewBytes out.drawn).setPke e { s.pke e with
    run := some { wait := w, ready := s.now + ceilDiv (out.time * 32768) 10000000, out := out }
    input := inputRegion w.op key w.req, result := [], work := (Config.pkeWork s.drawn).take workSize }

/-- An engine takes up a request: a new request of its owner's session. -/
def State.pkeBegin (s0 : State) (e : Nat) (w : PkeWait) : State :=
  let s := { s0 with crypto := { s0.crypto with pke := { s0.crypto.pke with queue := s0.crypto.pke.queue.erase w } } }
  match if opKeyed w.op then s.pkeKey w.req.key else some [] with
  | none => s.requesterFault w (w.aborted (0x6000 + e) true) true
  | some key => (s.setPke e { s.pke e with owner := some w.from_, requests := (s.pke e).requests + 1, last := some w }).pkeRunOn e w key

/-- Is a status of a request that its requester's fault alone explains? -/
def State.pkeInvalid (s : State) (w : PkeWait) (st : PkeStatus) : Bool :=
  st == .badScalar || ((st == .badPoint || st == .badInput || st == .badLength) && (s.slotItem w.req).any (fun i => !i.vm.search))

/-- The operation of an engine ends once its time has passed: RESULT is written, the completion reported, a secret sent over the key bus, and the session ended and the
memory zeroed unless KEEP holds it. The requester has RESULT with the completion, before the session ends (R232, R234, log 111). -/
def State.pkeEnd (s : State) (e : Nat) : State :=
  let x := s.pke e
  match x.run with
  | none => s
  | some r =>
    if s.now < r.ready then s
    else
      let w := r.wait
      let out := r.out
      if out.fault then s.pkeFault e w 0
      else
        let keep := w.req.keep && decide (x.requests < 4) && !(w.cls != 0 && s.class0Engines.contains e)
        let s1 := s.setPke e (if keep then { x with run := none, result := out.result.take resultSize, work := [] } else {})
        let ok := out.status == PkeStatus.ok
        let s2 := (match out.secret with | some b => if ok then s1.keyBus w.req.keyOut b else s1 | none => s1).clearEph w
        let d : PkeDone := { op := w.op, owner := w.req.owner, slot := w.req.slot.val, ticket := w.req.ticket, status := out.status, keyBus := out.secret.isSome && ok, result := out.result
                             engine := 0x6000 + e, attempts := out.attempts, time := sat 32 out.time }
        let s3 := if s2.pkeInvalid w out.status then s2.requesterFault w d true else s2.pushPke d
        if 120 < out.attempts then s3.logFault { cls := 0x1A, unit := 0x6000 + e, detail := out.attempts } else s3

/-! The queue (R68, R229, R230). -/

/-- The next queued request that an engine can take: class 0 first, then deficit round robin among the others (R68, R230). -/
def State.pkeNext (s : State) : Option (State × PkeWait × Nat) :=
  let ready := s.crypto.pke.queue.filterMap (fun w => (s.pkeEngine w).map (fun e => (w, e)))
  match s.pickClass 8 (fun c => ready.any (fun p => p.1.cls.val == c)) (fun _ => 1) with
  | none => none
  | some (c, s1) => (ready.find? (fun p => p.1.cls.val == c)).map (fun p => (s1, p.1, p.2))

/-- Take queued requests while an engine is free. -/
def pkeDrain : Nat → State → State
  | 0, s => s
  | n + 1, s => match s.pkeNext with | some (s1, w, e) => pkeDrain n (s1.pkeBegin e w) | none => s

/-- Operations whose time has passed end, and free engines take up what waits; nothing does while the engines are paused. -/
def State.drainPke (s : State) : State :=
  if s.enginesPaused then s
  else
    let s1 := s.crypto.pke.engines.foldl (fun s p => s.pkeEnd p.1) s
    pkeDrain s1.crypto.pke.queue.length s1

/-- Every engine: the operations whose time has passed end, and what waits is taken up. -/
def State.settle (s : State) : State := s.settleRows.drainPke

/-- What happens where no command waits: one count of secure time passes, and the engines whose operations it ends publish them and take up what waits; a vault image that a time-set record
has left to be written is written (log 1, log 110, R251). -/
def State.idle (s : State) : State := s.tickClock.settle.closeFullCrates.dueImage

/-- Requests of the pool's device-level requesters that wait: class 0 has 32 entries, the others share 224. -/
def State.deviceWaits (s : State) (c0 : Bool) : Nat := s.crypto.pke.queue.countP (fun w => decide (w.req.owner / 4096 ≠ 3) && (decide (w.cls = 0) == c0))

/-- Has the work slot a request queued, deferred or running (R229)? -/
def State.slotTaken (s : State) (w : PkeWait) : Bool :=
  decide (w.req.owner / 4096 = 3) && ((s.crypto.pke.queue ++ s.crypto.pke.deferred).any (fun v => v.from_ == w.from_) || s.crypto.pke.engines.any (fun e => e.2.run.isSome && e.2.owner == some w.from_))

/-- A request reaches the pool (R229): it runs where an engine is free for it, waits in one of its entries, or is answered BUSY and retries; a class-0 one that finds its 32 entries
taken waits for one without BUSY. A work slot has one request at a time. -/
def State.pkeSubmit (s : State) (w : PkeWait) : State :=
  let p := s.crypto.pke
  let later := { s with crypto := { s.crypto with pke := { p with deferred := p.deferred ++ [w] } } }
  if s.slotTaken w then s
  else if w.req.owner / 4096 = 3 then (s.queuePke w).drainPke
  else if w.cls = 0 then (if 32 ≤ s.deviceWaits true then later else (s.queuePke w).drainPke)
  else if 224 ≤ s.deviceWaits false then
    later.pushPke { op := w.op, owner := w.req.owner, slot := w.req.slot.val, ticket := w.req.ticket, status := .busy }
  else (s.queuePke w).drainPke

/-- A request of an operation of the table. Nothing comes of one from no requester of R220; an operation that its requester does not use is refused without running, as one with an
unassigned code is (R221, log 111). -/
def State.pkeCall (s : State) (op : Nat) (r : PkeReq) : State :=
  match requesterOf r.owner with
  | none => s
  | some q =>
    let w : PkeWait := { op := op, req := r, cls := s.pkeClass q op r }
    if !q.uses op || (match r.key, q with | .rom _, .selfTest => false | .rom _, _ => true | _, _ => false) then s.requesterFault w (w.aborted 0 true) false
    else s.pkeSubmit w

/-! Operations inside a command (R137, R220, R230). -/

/-- The engines that operations of a class take when they run together: different ones where `apart`, as long as more than one works. None where one finds no free engine. -/
def State.poolTake (s : State) (cls : Fin 4) (apart : Bool) : List (Nat × PkeReq) → List Nat → Option (List Nat)
  | [], l => some l.reverse
  | o :: r, l => (s.poolEngine cls (opShort o.1 o.2) (if apart && decide (1 < s.pkeWorking.length) then l else [])).bind (fun e => s.poolTake cls apart r (e :: l))

/-- The command of a requester runs operations to their end on the pool, as `outs` gives their results; each is completed on the engine it took. None where the pool has no
engine free for one, or is paused: the command's work then waits. -/
def State.poolRun (s : State) (owner ticket : Nat) (cls : Fin 4) (apart : Bool) (outs : List (Nat × PkeReq × PkeOut)) : Option State :=
  if s.enginesPaused then none
  else (s.poolTake cls apart (outs.map (fun o => (o.1, o.2.1))) []).map (fun es =>
    (es.zip outs).foldl (fun s p =>
      s.pushPke { op := p.2.1, owner := owner, slot := p.2.2.1.slot.val, ticket := ticket, status := p.2.2.2.status, engine := 0x6000 + p.1, attempts := p.2.2.2.attempts, time := sat 32 p.2.2.2.time }) s)

/-- A request with its result, for operations inside a command. -/
def opRun (op : Nat) (r : PkeReq) : Nat × PkeReq × PkeOut := (op, r, pkeRun op r [] [])

/-- The two operations by which the object verifier checks the signatures of an object: ECDSA P-384 and ML-DSA-65 (R220). -/
def verifierOps (base : PkeReq) (keys b : Bytes) (signed : Nat) : List (Nat × PkeReq × PkeOut) :=
  let m := b.take signed
  [opRun 0x11 { base with inputs := [keys.take 96, sha384 m, slice b signed 96] },
   opRun 0x91 { base with inputs := [slice keys 96 1952, slice b (signed + 96) 3309, []], stream := true, msg := m }]

/-- The object verifier works for a ticket: the signatures of its objects, each with its keys and the length that is signed, are checked on the pool, and the ticket waits where
no engine is free for them (R220). -/
def State.verifyOn (s : State) (t : Tk) (objs : List (Bytes × Bytes × Nat)) (f : State → State) : State :=
  if objs = [] then f s
  else match s.poolRun 0xF001 t.id t.cls false (objs.flatMap (fun o => verifierOps { owner := 0xF001 } o.1 o.2.1 o.2.2)) with
    | some s1 => f s1
    | none => s

/-- PKE operation 0x10 (R221). -/
def execEcdsaVerifyP256 (r : PkeReq) (s : State) : Host.Outcome State Fault Refusal := .next (s.pkeCall 0x10 r)
/-- PKE operation 0x11 (R221). -/
def execEcdsaVerifyP384 (r : PkeReq) (s : State) : Host.Outcome State Fault Refusal := .next (s.pkeCall 0x11 r)
/-- PKE operation 0x12 (R221). -/
def execEcdsaVerifyP521 (r : PkeReq) (s : State) : Host.Outcome State Fault Refusal := .next (s.pkeCall 0x12 r)
/-- PKE operation 0x20 (R221). -/
def execEcdsaSignP256 (r : PkeReq) (s : State) : Host.Outcome State Fault Refusal := .next (s.pkeCall 0x20 r)
/-- PKE operation 0x21 (R221). -/
def execEcdsaSignP384 (r : PkeReq) (s : State) : Host.Outcome State Fault Refusal := .next (s.pkeCall 0x21 r)
/-- PKE operation 0x22 (R221). -/
def execEcdsaSignP521 (r : PkeReq) (s : State) : Host.Outcome State Fault Refusal := .next (s.pkeCall 0x22 r)
/-- PKE operation 0x30 (R221). -/
def execEcdhP256 (r : PkeReq) (s : State) : Host.Outcome State Fault Refusal := .next (s.pkeCall 0x30 r)
/-- PKE operation 0x31 (R221). -/
def execEcdhP384 (r : PkeReq) (s : State) : Host.Outcome State Fault Refusal := .next (s.pkeCall 0x31 r)
/-- PKE operation 0x32 (R221). -/
def execEcdhP521 (r : PkeReq) (s : State) : Host.Outcome State Fault Refusal := .next (s.pkeCall 0x32 r)
/-- PKE operation 0x40 (R221). -/
def execEcKeyGenerationP256 (r : PkeReq) (s : State) : Host.Outcome State Fault Refusal := .next (s.pkeCall 0x40 r)
/-- PKE operation 0x41 (R221). -/
def execEcKeyGenerationP384 (r : PkeReq) (s : State) : Host.Outcome State Fault Refusal := .next (s.pkeCall 0x41 r)
/-- PKE operation 0x42 (R221). -/
def execEcKeyGenerationP521 (r : PkeReq) (s : State) : Host.Outcome State Fault Refusal := .next (s.pkeCall 0x42 r)
/-- PKE operation 0x50 (R221). -/
def execEd25519Verify (r : PkeReq) (s : State) : Host.Outcome State Fault Refusal := .next (s.pkeCall 0x50 r)
/-- PKE operation 0x51 (R221). -/
def execEd25519Sign (r : PkeReq) (s : State) : Host.Outcome State Fault Refusal := .next (s.pkeCall 0x51 r)
/-- PKE operation 0x60 (R221). -/
def execX25519 (r : PkeReq) (s : State) : Host.Outcome State Fault Refusal := .next (s.pkeCall 0x60 r)
/-- PKE operation 0x61 (R221). -/
def execX25519KeyGeneration (r : PkeReq) (s : State) : Host.Outcome State Fault Refusal := .next (s.pkeCall 0x61 r)
/-- PKE operation 0x70 (R221). -/
def execRsaPublic2048 (r : PkeReq) (s : State) : Host.Outcome State Fault Refusal := .next (s.pkeCall 0x70 r)
/-- PKE operation 0x71 (R221). -/
def execRsaPublic3072 (r : PkeReq) (s : State) : Host.Outcome State Fault Refusal := .next (s.pkeCall 0x71 r)
/-- PKE operation 0x72 (R221). -/
def execRsaPublic4096 (r : PkeReq) (s : State) : Host.Outcome State Fault Refusal := .next (s.pkeCall 0x72 r)
/-- PKE operation 0x80 (R221). -/
def execRsaPrivate2048 (r : PkeReq) (s : State) : Host.Outcome State Fault Refusal := .next (s.pkeCall 0x80 r)
/-- PKE operation 0x81 (R221). -/
def execRsaPrivate3072 (r : PkeReq) (s : State) : Host.Outcome State Fault Refusal := .next (s.pkeCall 0x81 r)
/-- PKE operation 0x82 (R221). -/
def execRsaPrivate4096 (r : PkeReq) (s : State) : Host.Outcome State Fault Refusal := .next (s.pkeCall 0x82 r)
/-- PKE operation 0x90 (R221). -/
def execMlDsa44Verify (r : PkeReq) (s : State) : Host.Outcome State Fault Refusal := .next (s.pkeCall 0x90 r)
/-- PKE operation 0x91 (R221). -/
def execMlDsa65Verify (r : PkeReq) (s : State) : Host.Outcome State Fault Refusal := .next (s.pkeCall 0x91 r)
/-- PKE operation 0x92 (R221). -/
def execMlDsa87Verify (r : PkeReq) (s : State) : Host.Outcome State Fault Refusal := .next (s.pkeCall 0x92 r)
/-- PKE operation 0xA0 (R221). -/
def execMlDsa44Sign (r : PkeReq) (s : State) : Host.Outcome State Fault Refusal := .next (s.pkeCall 0xA0 r)
/-- PKE operation 0xA1 (R221). -/
def execMlDsa65Sign (r : PkeReq) (s : State) : Host.Outcome State Fault Refusal := .next (s.pkeCall 0xA1 r)
/-- PKE operation 0xA2 (R221). -/
def execMlDsa87Sign (r : PkeReq) (s : State) : Host.Outcome State Fault Refusal := .next (s.pkeCall 0xA2 r)
/-- PKE operation 0xB0 (R221). -/
def execMlDsa44KeyGeneration (r : PkeReq) (s : State) : Host.Outcome State Fault Refusal := .next (s.pkeCall 0xB0 r)
/-- PKE operation 0xB1 (R221). -/
def execMlDsa65KeyGeneration (r : PkeReq) (s : State) : Host.Outcome State Fault Refusal := .next (s.pkeCall 0xB1 r)
/-- PKE operation 0xB2 (R221). -/
def execMlDsa87KeyGeneration (r : PkeReq) (s : State) : Host.Outcome State Fault Refusal := .next (s.pkeCall 0xB2 r)
/-- PKE operation 0xC0 (R221). -/
def execMlKem768KeyGeneration (r : PkeReq) (s : State) : Host.Outcome State Fault Refusal := .next (s.pkeCall 0xC0 r)
/-- PKE operation 0xC1 (R221). -/
def execMlKem768Encapsulation (r : PkeReq) (s : State) : Host.Outcome State Fault Refusal := .next (s.pkeCall 0xC1 r)
/-- PKE operation 0xC2 (R221). -/
def execMlKem768Decapsulation (r : PkeReq) (s : State) : Host.Outcome State Fault Refusal := .next (s.pkeCall 0xC2 r)

/-- BUSY_RETRY (R229): requests answered BUSY are submitted again, in order. -/
def execBusyRetry (s : State) : Host.Outcome State Fault Refusal :=
  let p := s.crypto.pke
  .next (p.deferred.foldl State.pkeSubmit { s with crypto := { s.crypto with pke := { p with deferred := [] } } })

end Sys2Proof.Machine
end

