-- ==== Sys2Proof/Machine/VmOps.lean ====
section
/-! DEFINITION. The Otnak machine of one work slot: what each instruction does to it, the interpreter, the verifier and its cost model (R177 to R186). -/

namespace Sys2Proof.Machine

/-! Registers, slot memory, input. -/

/-- v0 always reads 0 (R180). -/
def Vm.get (v : Vm) (r : Fin 16) : Word64 := if r = 0 then 0 else v.regs[r]
/-- Writes to v0 are discarded (R180). -/
def Vm.put (v : Vm) (r : Fin 16) (x : Word64) : Vm := if r = 0 then v else { v with regs := v.regs.set r x }

def zeroByte (_ : Nat) : Byte := 0
/-- The byte of slot memory at `a` mod 16,384 (R182). -/
def Vm.slotByte (v : Vm) (a : Nat) : Byte := v.slot.get zeroByte (a % 16384)
def Vm.slotBytes (v : Vm) (a n : Nat) : Bytes := (List.range n).map (fun i => v.slotByte (a + i))
/-- Bytes into slot memory, wrapping byte by byte. -/
def slotPut : SMap Byte → Nat → Bytes → SMap Byte
  | m, _, [] => m
  | m, a, b :: r => slotPut (m.set zeroByte (a % 16384) b) (a + 1) r
def Vm.setSlot (v : Vm) (a : Nat) (b : Bytes) : Vm := { v with slot := slotPut v.slot a b }

/-- Byte `a` of the input; 0 at or beyond its length. The offset wraps modulo 2^64. -/
def Vm.inByte (v : Vm) (a : Nat) : Byte := v.input.getD (a % 2 ^ 64) 0
def Vm.inBytes (v : Vm) (a n : Nat) : Bytes := (List.range n).map (fun i => v.inByte (a + i))

/-! The program counter and the loops. -/

/-- Where the pc stands at the end of the innermost body, the next iteration begins or the loop is over (R182, R185). -/
def landGo (v : Vm) : List LoopFrame → Vm
  | [] => { v with loops := [] }
  | f :: r =>
    if v.pc = f.start + f.len then
      if 0 < f.left then
        let v1 := { v with pc := f.start, cycles := v.cycles + 1, loops := { f with left := f.left - 1, iter := f.iter + 1 } :: r }
        match f.step with
        | some n => { v1 with regs := v1.regs.set 15 (BitVec.ofNat 64 (2 ^ n * f.iter)) }
        | none => v1
      else landGo v r
    else { v with loops := f :: r }

def Vm.land (v : Vm) : Vm := landGo v v.loops

/-- On to the next instruction after `c` cycles. -/
def Vm.next (v : Vm) (c : Nat) : Vm := ({ v with pc := v.pc + 1, cycles := v.cycles + c } : Vm).land

/-- A branch of distance `off`. -/
def Vm.jump (v : Vm) (off : Nat) : Vm := ({ v with pc := v.pc + off, cycles := v.cycles + 1 } : Vm).land

/-- Begin a loop of `n` iterations over a body of `len` instructions; `step` for LOOPB. -/
def Vm.loop (v : Vm) (n len : Nat) (step : Option Nat) : Vm :=
  if n = 0 then ({ v with pc := v.pc + 1 + len, cycles := v.cycles + 1 } : Vm).land
  else
    let v1 := { v with pc := v.pc + 1, cycles := v.cycles + 2, loops := { start := v.pc + 1, len := len, left := n - 1, iter := 1, step := step } :: v.loops }
    match step with
    | some _ => { v1 with regs := v1.regs.set 15 0 }
    | none => v1

/-! What the instructions do (R182). -/

/-- rd := f ra rb. -/
def Vm.alu (v : Vm) (f : Word64 → Word64 → Word64) (rd ra rb : Fin 16) (c : Nat) : Vm := (v.put rd (f (v.get ra) (v.get rb))).next c
/-- rd := f ra imm16, zero-extended. -/
def Vm.alui (v : Vm) (f : Word64 → Word64 → Word64) (rd ra : Fin 16) (imm : BitVec 16) : Vm := (v.put rd (f (v.get ra) (imm.zeroExtend 64))).next 1

def fShl (a b : Word64) : Word64 := a <<< (b.toNat % 64)
def fShr (a b : Word64) : Word64 := a >>> (b.toNat % 64)
def fSar (a b : Word64) : Word64 := a.sshiftRight (b.toNat % 64)
def fMinu (a b : Word64) : Word64 := if a.toNat ≤ b.toNat then a else b
def fMaxu (a b : Word64) : Word64 := if a.toNat ≤ b.toNat then b else a
def fSltu (a b : Word64) : Word64 := if a.toNat < b.toNat then 1 else 0
/-- The 8 bytes reversed. -/
def bswap64 (a : Word64) : Word64 := BitVec.ofNat 64 (beNat (leBytes 8 a.toNat))

def Vm.bswap (v : Vm) (rd ra : Fin 16) : Vm := (v.put rd (bswap64 (v.get ra))).next 1
def Vm.addi (v : Vm) (rd ra : Fin 16) (imm : BitVec 16) : Vm := (v.put rd (v.get ra + imm.signExtend 64)).next 1
/-- rd := ra with bits [16k+15:16k] replaced by imm16. -/
def ldh (k : Nat) (a : Word64) (imm : BitVec 16) : Word64 :=
  (a &&& ~~~(BitVec.ofNat 64 (0xFFFF * 2 ^ (16 * k)))) ||| BitVec.ofNat 64 (imm.toNat * 2 ^ (16 * k))
def Vm.ldh (v : Vm) (k : Nat) (rd ra : Fin 16) (imm : BitVec 16) : Vm := (v.put rd (Machine.ldh k (v.get ra) imm)).next 1

/-- ra + imm16, wrapping. -/
def Vm.addr (v : Vm) (ra : Fin 16) (imm : BitVec 16) : Nat := (v.get ra + imm.zeroExtend 64).toNat

/-- LD of `n` bytes. -/
def Vm.ld (v : Vm) (n : Nat) (rd ra : Fin 16) (imm : BitVec 16) : Vm := (v.put rd (BitVec.ofNat 64 (leNat (v.slotBytes (v.addr ra imm) n)))).next 2
/-- ST of `n` bytes. -/
def Vm.st (v : Vm) (n : Nat) (rd ra : Fin 16) (imm : BitVec 16) : Vm := (v.setSlot (v.addr ra imm) (leBytes n (v.get rd).toNat)).next 2
/-- IN of `n` bytes, big-endian or little-endian. -/
def Vm.inp (v : Vm) (n : Nat) (be : Bool) (rd ra : Fin 16) (imm : BitVec 16) : Vm :=
  let b := v.inBytes (v.addr ra imm) n
  (v.put rd (BitVec.ofNat 64 (if be then beNat b else leNat b))).next 4
def Vm.hmark (v : Vm) (rd ra : Fin 16) (imm : BitVec 16) : Vm :=
  let i := v.addr ra imm
  (v.put rd (if i < v.hostMarks.length then BitVec.ofNat 64 (v.hostMarks.getD i 0) else BitVec.allOnes 64)).next 2
/-- QLD64: search applets only. -/
def Vm.qld64 (v : Vm) (rd ra : Fin 16) (imm : BitVec 16) : Vm :=
  (v.put rd (BitVec.ofNat 64 (leNat ((List.range 8).map (fun i => v.query.getD ((v.addr ra imm + i) % 2 ^ 64) 0))))).next 4
def Vm.lds (v : Vm) (rd : Fin 16) (i : Fin 8) : Vm := (v.put rd v.words[i]).next 2
def Vm.sts (v : Vm) (rd : Fin 16) (i : Fin 8) : Vm := ({ v with words := v.words.set i (v.get rd) } : Vm).next 2
def Vm.infoRd (v : Vm) (rd : Fin 16) (i : Fin 12) : Vm := (v.put rd v.info[i]).next 2
/-- A conditional branch. -/
def Vm.branch (v : Vm) (p : Word64 → Word64 → Bool) (ra rb : Fin 16) (off : BitVec 12) : Vm :=
  if p (v.get ra) (v.get rb) then v.jump off.toNat else v.next 1
def Vm.jmp (v : Vm) (off : BitVec 12) : Vm := v.jump off.toNat
def Vm.loopN (v : Vm) (n len : BitVec 12) : Vm := v.loop n.toNat len.toNat none
/-- ⌈input length ÷ 2^n⌉ iterations. -/
def Vm.loopB (v : Vm) (n len : BitVec 12) : Vm := v.loop (ceilDiv v.input.length (2 ^ n.toNat)) len.toNat (some n.toNat)
/-- Leave the innermost loop; outside every loop the verifier allows none, and nothing is left. -/
def Vm.leave (v : Vm) : Vm :=
  match v.loops with
  | [] => v.next 1
  | f :: r => ({ v with pc := f.start + f.len, cycles := v.cycles + 1, loops := r } : Vm).land
def Vm.end_ (v : Vm) : Vm := { v with cycles := v.cycles + 1, ended := .ended }
/-- The first offset from `a` at which the pattern stands wholly within the `n` bytes left. -/
def findGo (v : Vm) (pat : Bytes) : Nat → Nat → Option Nat
  | _, 0 => none
  | a, n + 1 => if pat.length ≤ n + 1 ∧ v.inBytes a pat.length = pat then some a else findGo v pat (a + 1) n
/-- FIND: the offset is an offset of the input (log 30). -/
def Vm.find (v : Vm) (rd ra rb : Fin 16) (p k : Nat) : Vm :=
  let pat := beBytes p (v.get rb).toNat
  (v.put rd (match findGo v pat (v.get ra).toNat (2 ^ k) with | some a => BitVec.ofNat 64 a | none => BitVec.allOnes 64)).next (8 + 2 ^ (k - 4))
def Vm.hashm (v : Vm) (ra rb : Fin 16) (imm : BitVec 16) : Vm :=
  (v.setSlot imm.toNat (sha384 (v.slotBytes (v.get ra).toNat (min (v.get rb).toNat 16384)))).next 300
/-- EMARK (R184): a first mark above 0 brings a mark at 0 with it; marks of the host shut it out (R178). -/
def Vm.emark (v : Vm) (ra : Fin 16) : Vm :=
  let a := (v.get ra).toNat
  let v1 : Vm :=
    if v.search || v.marksFromHost || decide (v.input.length ≤ a) then v
    else match v.marks.getLast? with
      | some l => if l < a ∧ v.marks.length < 65535 then { v with marks := v.marks ++ [a] } else v
      | none => { v with marks := if a = 0 then [0] else [0, a] }
  v1.next 4
/-- EINDEX (R184): at most 1,024 records of a segment. -/
def Vm.eindex (v : Vm) (ra rb : Fin 16) (kind : BitVec 16) : Vm :=
  let v1 : Vm := if v.search || decide (1024 ≤ v.index.length) then v
    else { v with index := v.index ++ [{ kind := kind.toNat, frame := (v.get rb).toNat % 2 ^ 32, value := v.slotBytes (v.get ra).toNat 32 }] }
  v1.next 8
/-- EMATCH (R184): matches beyond MAX_MATCHES have no effect. -/
def Vm.ematch (v : Vm) (ra rb : Fin 16) : Vm :=
  let v1 : Vm := if !v.search || decide (v.maxMatches ≤ v.matchRecs.length) then v
    else { v with matchRecs := v.matchRecs ++ [{ frame := v.get rb, payload := v.slotBytes (v.get ra).toNat 32 }] }
  v1.next 8
def Vm.refuse (v : Vm) (code : BitVec 16) : Vm := { v with cycles := v.cycles + 1, ended := .refused code.toNat }

def pEq (a b : Word64) : Bool := a == b
def pNe (a b : Word64) : Bool := a != b
def pLtu (a b : Word64) : Bool := decide (a.toNat < b.toNat)
def pGeu (a b : Word64) : Bool := decide (b.toNat ≤ a.toNat)
def pLt (a b : Word64) : Bool := decide (a.toInt < b.toInt)
def pGe (a b : Word64) : Bool := decide (b.toInt ≤ a.toInt)

/-! Encoded instructions (R181). -/

structure Otn where
  op : Nat
  a : Nat
  b : Nat
  c : Nat
  imm : Nat
  n : Nat
  len : Nat
deriving DecidableEq, Repr

def otnOf (w : Word32) : Otn :=
  let v := w.toNat
  { op := bits v 24 8, a := bits v 20 4, b := bits v 16 4, c := bits v 12 4, imm := bits v 0 16, n := bits v 12 12, len := bits v 0 12 }

/-- A register field. -/
def fin16 (n : Nat) : Fin 16 := Fin.ofNat 16 n

/-- One encoded instruction of a verified program. -/
def Vm.run (v : Vm) (o : Otn) : Vm :=
  let a := fin16 o.a
  let b := fin16 o.b
  let c := fin16 o.c
  let imm := BitVec.ofNat 16 o.imm
  let off := BitVec.ofNat 12 o.len
  match o.op with
  | 0x01 => v.alu (· + ·) a b c 1 | 0x02 => v.alu (· - ·) a b c 1 | 0x03 => v.alu (· &&& ·) a b c 1 | 0x04 => v.alu (· ||| ·) a b c 1
  | 0x05 => v.alu (· ^^^ ·) a b c 1 | 0x06 => v.alu fShl a b c 1 | 0x07 => v.alu fShr a b c 1 | 0x08 => v.alu fSar a b c 1
  | 0x09 => v.alu (· * ·) a b c 3 | 0x0A => v.alu fMinu a b c 1 | 0x0B => v.alu fMaxu a b c 1 | 0x0C => v.alu fSltu a b c 1
  | 0x0D => v.bswap a b
  | 0x10 => v.addi a b imm | 0x11 => v.alui (· &&& ·) a b imm | 0x12 => v.alui (· ||| ·) a b imm | 0x13 => v.alui (· ^^^ ·) a b imm
  | 0x14 => v.alui fShl a b imm | 0x15 => v.alui fShr a b imm | 0x16 => v.alui (fun _ i => i) a 0 imm
  | 0x17 => v.ldh 1 a b imm | 0x18 => v.ldh 2 a b imm | 0x19 => v.ldh 3 a b imm
  | 0x20 => v.ld 1 a b imm | 0x21 => v.ld 2 a b imm | 0x22 => v.ld 4 a b imm | 0x23 => v.ld 8 a b imm
  | 0x24 => v.st 1 a b imm | 0x25 => v.st 2 a b imm | 0x26 => v.st 4 a b imm | 0x27 => v.st 8 a b imm
  | 0x28 => v.inp 1 true a b imm | 0x29 => v.inp 2 true a b imm | 0x2A => v.inp 4 true a b imm | 0x2B => v.inp 4 false a b imm
  | 0x2C => v.hmark a b imm | 0x2D => v.qld64 a b imm
  | 0x2E => v.lds a (Fin.ofNat 8 o.imm) | 0x2F => v.sts a (Fin.ofNat 8 o.imm) | 0x30 => v.infoRd a (Fin.ofNat 12 o.imm)
  | 0x40 => v.branch pEq a b off | 0x41 => v.branch pNe a b off | 0x42 => v.branch pLtu a b off | 0x43 => v.branch pGeu a b off
  | 0x44 => v.branch pLt a b off | 0x45 => v.branch pGe a b off | 0x46 => v.jmp off
  | 0x48 => v.loopN (BitVec.ofNat 12 o.n) off | 0x49 => v.loopB (BitVec.ofNat 12 o.n) off | 0x4A => v.leave
  | 0x50 => v.find (fin16 (bits o.imm 8 4)) a b (bits o.imm 12 4) (bits o.imm 0 4)
  | 0x51 => v.hashm a b imm
  | 0x60 => v.emark a | 0x61 => v.eindex a b imm | 0x62 => v.ematch a b | 0x63 => v.refuse imm
  | _ => v.end_

/-- Run a program to its end, or to the end of its cycle allowance (R175). -/
def Vm.runAll (code : List Word32) : Nat → Vm → Vm
  | 0, v => v
  | fuel + 1, v =>
    match v.ended with
    | .running =>
      match code[v.pc]? with
      | some w => Vm.runAll code fuel (v.run (otnOf w))
      | none => { v with ended := .ended }
    | _ => v

/-! The verifier (R185). -/

/-- The cycles of R182. -/
def cyclesOf (o : Otn) : Nat :=
  match o.op with
  | 0x09 => 3
  | 0x28 => 4 | 0x29 => 4 | 0x2A => 4 | 0x2B => 4 | 0x2C => 2 | 0x2D => 4 | 0x2E => 2 | 0x2F => 2 | 0x30 => 2
  | 0x50 => 8 + 2 ^ (bits o.imm 0 4 - 4) | 0x51 => 300
  | 0x60 => 4 | 0x61 => 8 | 0x62 => 8
  | n => if 0x20 ≤ n ∧ n ≤ 0x27 then 2 else 1

def isBranch (o : Otn) : Bool := decide (0x40 ≤ o.op) && decide (o.op ≤ 0x46)
def isLoop (o : Otn) : Bool := o.op == 0x48 || o.op == 0x49

/-- Rule 2: the opcode is assigned and its unused fields are 0. -/
def rule2 (o : Otn) : Bool :=
  if (0x01 ≤ o.op ∧ o.op ≤ 0x0C) then decide (o.len = 0)
  else if o.op = 0x0D then decide (o.len = 0) && decide (o.c = 0)
  else if o.op = 0x16 ∨ (0x2E ≤ o.op ∧ o.op ≤ 0x30) then decide (o.b = 0)
  else if (0x10 ≤ o.op ∧ o.op ≤ 0x19) ∨ (0x20 ≤ o.op ∧ o.op ≤ 0x2D) then true
  else if o.op = 0x46 then decide (o.a = 0) && decide (o.b = 0) && decide (o.c = 0)
  else if isBranch o then decide (o.c = 0)
  else if isLoop o then true
  else if o.op = 0x4A ∨ o.op = 0x4F then decide (o.a = 0) && decide (o.b = 0) && decide (o.imm = 0)
  else if o.op = 0x50 then decide (bits o.imm 4 4 = 0)
  else if o.op = 0x51 ∨ o.op = 0x61 then true
  else if o.op = 0x60 then decide (o.b = 0) && decide (o.imm = 0)
  else if o.op = 0x62 then decide (o.imm = 0)
  else if o.op = 0x63 then decide (o.a = 0) && decide (o.b = 0)
  else false

/-- Rule 3: every immediate is in its stated range; distances, lengths and iteration counts among them (log 31). -/
def rule3 (o : Otn) : Bool :=
  if o.op = 0x2E ∨ o.op = 0x2F then decide (o.imm ≤ 7)
  else if o.op = 0x30 then decide (o.imm ≤ 11)
  else if o.op = 0x14 ∨ o.op = 0x15 then decide (o.imm ≤ 63)
  else if o.op = 0x50 then decide (1 ≤ bits o.imm 12 4) && decide (bits o.imm 12 4 ≤ 4) && decide (6 ≤ bits o.imm 0 4) && decide (bits o.imm 0 4 ≤ 10)
  else if o.op = 0x63 then decide (o.imm = 1) || decide (o.imm = 2)
  else if isBranch o then decide (1 ≤ o.len)
  else if o.op = 0x48 then decide (1 ≤ o.n) && decide (1 ≤ o.len)
  else if o.op = 0x49 then decide (6 ≤ o.n) && decide (o.n ≤ 10) && decide (1 ≤ o.len)
  else true

/-- Rule 4: the instruction is allowed for the applet's kind. -/
def rule4 (search : Bool) (o : Otn) : Bool :=
  if o.op = 0x2D ∨ o.op = 0x62 then search
  else if o.op = 0x49 ∨ o.op = 0x60 ∨ o.op = 0x61 ∨ o.op = 0x63 then !search
  else true

/-- A program as (index, instruction). -/
abbrev Prog := List (Nat × Otn)

def progOf (code : List Word32) : Prog := code.zipIdx.map (fun p => (p.2, otnOf p.1))

/-- Loops whose body holds index `i`, as (index, length, is LOOPB), outermost first. -/
def enclosing (p : Prog) (i : Nat) : List (Nat × Nat × Bool) :=
  (p.filter (fun x => isLoop x.2 && decide (x.1 < i) && decide (i ≤ x.1 + x.2.len))).map (fun x => (x.1, x.2.len, x.2.op == 0x49))

/-- Rule 5: a branch goes no further than its innermost enclosing body end, or the program end. -/
def rule5 (p : Prog) (x : Nat × Otn) : Bool :=
  !isBranch x.2 ||
    (match (enclosing p x.1).getLast? with
     | some (j, l, _) => decide (x.1 + x.2.len ≤ j + l + 1)
     | none => decide (x.1 + x.2.len ≤ p.length))

/-- Rule 6: bodies lie within the program, nest wholly and at most 4 deep; LOOPB never inside LOOPB. -/
def rule6 (p : Prog) (x : Nat × Otn) : Bool :=
  !isLoop x.2 ||
    (let e := enclosing p x.1
     decide (x.1 + x.2.len < p.length) && e.all (fun y => decide (x.1 + x.2.len ≤ y.1 + y.2.1)) && decide (e.length ≤ 3) &&
       !(x.2.op == 0x49 && e.any (fun y => y.2.2)))

/-- Rule 7: LEAVE stands only inside a loop. -/
def rule7 (p : Prog) (x : Nat × Otn) : Bool := x.2.op != 0x4A || !(enclosing p x.1).isEmpty

/-- Rule 8: the last instruction is END, and no loop's end lets a path out at the program end (log 32). -/
def rule8 (p : Prog) (x : Nat × Otn) : Bool :=
  (x.1 + 1 != p.length || x.2.op == 0x4F) &&
    (match (enclosing p x.1).getLast? with
     | some (j, l, _) => !(decide (j + l + 1 = p.length) && (x.2.op == 0x4A || (isBranch x.2 && decide (x.1 + x.2.len = p.length))))
     | none => true)

/-! The cost model (R186). -/

/-- The longest path from each index to the end of its region, as (W_seg, W_kib). -/
abbrev Costs := SMap (Nat × Nat)

def noCost (_ : Nat) : Nat × Nat := (0, 0)
def maxCost (a b : Nat × Nat) : Nat × Nat := (max a.1 b.1, max a.2 b.2)
def addCost (a b : Nat × Nat) : Nat × Nat := (a.1 + b.1, a.2 + b.2)

/-- Costs of the indices `s` to `e` − 1 towards `e`, nested bodies to a depth of `d`, computed from the back. -/
def costs : Nat → Prog → Nat → Nat → Costs
  | 0, _, _, _ => []
  | d + 1, p, s, e =>
    (((p.drop s).take (e - s)).reverse).foldl (fun (t : Costs) x =>
      let i := x.1
      let o := x.2
      let at_ := fun j => if e ≤ j then (0, 0) else t.get noCost j
      let own := (cyclesOf o, 0)
      let c :=
        if o.op = 0x4F ∨ o.op = 0x63 ∨ o.op = 0x4A then own
        else if o.op = 0x46 then addCost own (at_ (i + o.len))
        else if isBranch o then addCost own (maxCost (at_ (i + 1)) (at_ (i + o.len)))
        else if isLoop o then
          let body := (costs d p (i + 1) (i + 1 + o.len)).get noCost (i + 1)
          let l := if o.op = 0x48 then (1 + o.n * (body.1 + 1), o.n * body.2) else (1 + (body.1 + 1), (body.1 + 1) * 2 ^ (10 - o.n))
          addCost l (at_ (i + 1 + o.len))
        else addCost own (at_ (i + 1))
      (i, c) :: t) []

/-- W_seg and W_kib of a program. -/
def worstOf (code : List Word32) : Nat × Nat := (costs 5 (progOf code) 0 code.length).get noCost 0

/-- The worst case of an applet on an input of `len` bytes (R186). -/
def Applet.worst (a : Applet) (len : Nat) : Nat := a.wSeg + a.wKib * ceilDiv len 1024

/-- The first instruction that breaks a rule. -/
def firstBroken (p : Prog) (ok : Nat × Otn → Bool) : Option Nat := (p.find? (fun x => !ok x)).map (·.1)

/-- The verifier: none where the program passes, else the refusal code of R188. -/
def verify (search : Bool) (code : List Word32) : Option Nat :=
  let p := progOf code
  let bad := fun (r : Nat) (ok : Nat × Otn → Bool) => (firstBroken p ok).map (fun i => 0x80000000 + r * 0x10000 + i)
  let w := worstOf code
  (bad 2 (fun x => rule2 x.2)).orElse fun _ =>
  (bad 3 (fun x => rule3 x.2)).orElse fun _ =>
  (bad 4 (fun x => rule4 search x.2)).orElse fun _ =>
  (bad 5 (rule5 p)).orElse fun _ =>
  (bad 6 (rule6 p)).orElse fun _ =>
  (bad 7 (rule7 p)).orElse fun _ =>
  (bad 8 (rule8 p)).orElse fun _ =>
  if w.1 ≤ (if search then 1000000 else 4000000) ∧ w.2 ≤ 4096 then none else some (0x80000000 + 9 * 0x10000)

/-! Applet images (R187, R188). -/

/-- The applet an image holds, with the status and RESULT of a refused load: the header checks of order 1, then UNIT_ID and LIFECYCLE, then the verifier.
The signature check of order 2 is `sigOk`. -/
def imageOf (img : Bytes) (number : Nat) (unitOk sigOk : Bool) : Except (Nat × Nat) Applet :=
  let n := fld img 8 4
  let cl := fld img 12 4
  let signed := roundUp (64 + 4 * n + cl) 8
  if ¬ (16 ≤ number ∧ number ≤ 1023 ∧ 64 ≤ img.length ∧ slice img 0 4 = [0x4F, 0x54, 0x4E, 0x4B] ∧ fld img 4 2 = 1 ∧ (fld img 6 1 = 1 ∨ fld img 6 1 = 2) ∧ fld img 7 1 = 0 ∧
      1 ≤ n ∧ n ≤ 4096 ∧ cl ≤ 16384 ∧ allZero (slice img 33 7) ∧ fld img 40 2 = number ∧ allZero (slice img 42 6) ∧ img.length = signed + 3408 ∧
      allZero (slice img (64 + 4 * n + cl) (signed - (64 + 4 * n + cl))) ∧ allZero (slice img (signed + 3405) 3)) then .error (0x10, 0)
  else if !unitOk || !sigOk then .error (0x13, 0)
  else
    let code := (List.range n).map (fun i => BitVec.ofNat 32 (fld img (64 + 4 * i) 4))
    let search := decide (fld img 6 1 = 2)
    match verify search code with
    | some r => .error (0x10, r)
    | none =>
      let w := worstOf code
      .ok { search := search, code := code, consts := slice img (64 + 4 * n) cl, wSeg := w.1, wKib := w.2, image := img }

/-- SIGNED_LENGTH of an image. -/
def imageSigned (img : Bytes) : Nat := roundUp (64 + 4 * fld img 8 4 + fld img 12 4) 8

/-! Built-in applet 0 (R190). -/

/-- Offsets of every start code 0x00 0x00 0x01, rising. -/
def startCodes : Nat → Bytes → List Nat
  | _, [] => []
  | i, a :: r => (if a = 0 ∧ r.headD 1 = 0 ∧ (r.drop 1).headD 0 = 1 then [i] else []) ++ startCodes (i + 1) r

/-- The delimiter form that follows a start code: 1 for H.264, 2 for H.265. -/
def delimiter (data : Bytes) (i : Nat) : Option Nat :=
  match (data.drop (i + 3)).take 2 with
  | x :: r => if x = 0x09 then some 1 else if x = 0x46 && r.any (fun y => y.toNat % 8 != 0) then some 2 else none
  | [] => none

/-- The mark of a start code: a zero byte before it belongs to it. -/
def markAt (data : Bytes) (i : Nat) : Nat := if 1 ≤ i ∧ (data.drop (i - 1)).headD 1 = 0 then i - 1 else i

/-- The marks that applet 0 emits; none where it refuses for want of a start code. -/
def frameMarks (data : Bytes) : Option (List Nat) :=
  let cs := startCodes 0 data
  let ds := cs.filterMap (fun i => (delimiter data i).map (fun k => (i, k)))
  let at_ := match ds with
    | (_, k) :: _ => (ds.filter (fun d => d.2 == k)).map (·.1)
    | [] => cs
  match at_ with
  | [] => none
  | _ =>
    let m := (at_.map (markAt data)).dedup
    some ((if m.headD 0 = 0 then m else 0 :: m).take 65535)

end Sys2Proof.Machine
end

