-- ==== Sys2Proof/Machine/TillOps.lean ====
section
/-! DEFINITION. Work items and tills: the set-up of an item, its outcome, sealing, the commit of a tab's oldest ready slots (chapters 04 and 06). -/

namespace Sys2Proof.Machine

/-! The reads of an ingest ticket (R45 to R47, R64). -/

/-- What the reads of an ingest ticket give: the first format cause in the order of R116, and the fields of a side block that passed R47. -/
def ingestOf (t : Ticket) (r : IngestRead) : Ingest :=
  let n := t.dataLen
  let slen := t.op 56 4
  let hasSide := decide (t.op 48 8 ≠ 0)
  let side : Option SideBlock := match r.side with
    | .ok b => if hasSide then sideOf slen n (decide (t.opcode = 2)) (b.take slen) else none
    | .err => none
  let sideErr := hasSide && decide (r.side = .err)
  let sideBad := hasSide && !sideErr && side.isNone
  let basketErr := t.basket && decide (r.basket = .err)
  let ext := t.extents r.basket
  let basketBad := !basketErr && ext.isNone
  let dataErr := !basketErr && !basketBad && (match r.data with | .ok b => decide (b.length ≠ n) | .err => true)
  let cause := if sideBad then 0x20 else if basketBad then 0x21 else if sideErr || basketErr || dataErr then 0x22 else 0
  let base : Ingest := { read := true, cause := cause, dataOk := decide (cause = 0), data := if cause = 0 then (match r.data with | .ok b => b | .err => []) else [] }
  match side with
  | some b => { base with captureStart := b.start, duration := b.duration, marks := b.marks, sigAlg := b.sigAlg, sig := b.sig }
  | none => base

/-! Outcome of an item (R109, R112, R114 to R116, R178). -/

/-- The camera's key: the key-list entry of the template with the tab's source (R108). -/
def Template.keyFor (p : Template) (src : BitVec 64) : Option CamKey := p.keys.find? (fun k => k.source == src)

/-- The operation on the pool that verifies a camera's signature over M (R108, R221). -/
def CamKey.op (k : CamKey) : Nat := match k.alg with | 1 => 0x10 | 2 => 0x11 | 3 => 0x50 | _ => 0x90

/-- The request that verifies it, of a work slot of a stall. -/
def CamKey.request (k : CamKey) (unit : Nat) (slot : Fin 4) (m sig : Bytes) : PkeReq :=
  let base : PkeReq := { owner := unit, slot := slot }
  match k.alg with
  | 1 => { base with inputs := [k.key, sha256 m, sig] }
  | 2 => { base with inputs := [k.key, sha384 m, sig] }
  | 3 => { base with inputs := [k.key, sig, sha512 (sig.take 32 ++ k.key ++ m)] }
  | _ => { base with inputs := [k.key, sig, []], stream := true, msg := m }

/-- What the pool makes of it. -/
def CamKey.verify (k : CamKey) (m sig : Bytes) : PkeOut := pkeRun k.op (k.request 0 0 m sig) [] []

/-- The message that a ticket's camera signed. -/
def Tk.cameraText (t : Tk) : Bytes := cameraMessage t.tk.source.toNat t.ing.captureStart t.ing.duration (sha384 t.ing.data)

/-- The first policy cause in the table's order, CAPTURE_ORDER apart (R109, R116); a dropped template gives APPLET_POLICY (R189). -/
def policyCause (t : Tk) (refused : Bool) : Nat :=
  match t.templ with
  | none => 0x37
  | some p =>
    if p.sigRequired ∧ t.ing.sigAlg = 0 then 0x30
    else if p.sigRequired ∧ ¬ bit p.sigAlgs (t.ing.sigAlg - 1) then 0x31
    else if p.sigRequired ∧ (p.keyFor t.tk.source).isNone then 0x32
    else if p.maxSegmentKib * 1024 < t.tk.dataLen then 0x33
    else if p.captureRequired ∧ t.ing.captureStart = 0 then 0x34
    else if p.marksRequired ∧ t.ing.marks = [] then 0x36
    else if refused || t.applet.isNone then 0x37 else 0

/-- The signature cause, 0 where the signature verifies or none is required. -/
def sigCause (t : Tk) : Nat :=
  match t.templ with
  | none => 0
  | some p =>
    if !p.sigRequired then 0
    else match p.keyFor t.tk.source with
      | none => 0
      | some k =>
        if k.alg ≠ t.ing.sigAlg then 0x11
        else if (k.verify t.cameraText t.ing.sig).status = .ok then 0 else 0x10

/-- The status of a cause (R116). -/
def causeStatus (c : Nat) : Nat := if c = 0 then 0x00 else if c < 0x10 then 0x01 else if c < 0x20 then 0x02 else if c < 0x30 then 0x03 else 0x04

/-- Is a signature recorded in the entry (R109, R114)? -/
def Tk.recordsSig (t : Tk) : Bool := t.templ.any Template.sigRequired && decide (t.ing.sigAlg ≠ 0)

/-- The header of an ingest ticket's entry (R114), for the number its till gave it. -/
def Tk.header (t : Tk) (r : TillResult) : Header :=
  { kind := r.kind, status := r.status, tab := t.tab.getD 0, seq := t.seq, source := t.tk.source, template := t.templNo, group := r.group
    sigAlg := if t.recordsSig then t.ing.sigAlg else 0, epoch := r.epoch, captureStart := t.ing.captureStart, duration := t.ing.duration
    frameCount := r.frameCount, marksFromHost := r.marksFromHost, sigVerified := t.ing.sigVerified, stored := r.stored, dataLength := t.tk.dataLen, cause := r.cause
    admitTime := t.admitTime, frameRoot := r.frameRoot, sigDigest := if t.recordsSig then sha384 t.ing.sig else zeros 48, applet := r.applet, indexCount := r.indexRecs.length }

/-- The GCM nonce of an entry (R10). -/
def gcmNonce (tab seq : Nat) : Bytes := leBytes 4 tab ++ leBytes 8 seq

/-- The retention group a ticket seals under. -/
def State.groupOf (s : State) (t : Tk) : Nat := match t.templ with | some p => p.group | none => (s.tab (t.tab.getD 0)).group

/-- The frame marks in force: the host's, or the applet's. -/
def Tk.marksOf (t : Tk) (v : Option Vm) : List Nat := if t.ing.marks ≠ [] then t.ing.marks else match v with | some v => v.marks | none => []

/-- How the applet ended; an item without one has nothing to refuse. -/
def endOf (v : Option Vm) : ItemEnd := match v with | some v => v.ended | none => .ended

/-- The format cause of an item (R109, R116). -/
def Tk.formatCause (t : Tk) (v : Option Vm) : Nat :=
  if t.ing.cause ≠ 0 then t.ing.cause
  else if endOf v = .refused 1 then 0x23
  else if endOf v = .refused 2 ∨ t.templ = none ∨ t.applet = none then 0
  else if t.marksOf v = [] then 0x23 else 0

/-- The camera key whose signature the item has verified on the pool: neither a format nor a policy cause stands, and the algorithm is the key's (R108, R116). -/
def Tk.verifies (t : Tk) (v : Option Vm) : Option CamKey :=
  if t.formatCause v ≠ 0 ∨ policyCause t (decide (endOf v = .refused 2)) ≠ 0 then none
  else (t.templ.filter Template.sigRequired).bind (fun p => (p.keyFor t.tk.source).filter (fun k => k.alg == t.ing.sigAlg))

/-- The outcome of a work item that ran on `key` of `epoch`: causes, frame tree, encryption (R10, R114, R178). Where the applet declares the data malformed no frame
tree is built, although host marks may give the frames: R114 does not name the case (DESIGN CHOICE, log 105). -/
def State.outcome (s : State) (t : Tk) (epoch : Nat) (key : Bytes) (v : Option Vm) : Tk :=
  let host := decide (t.ing.marks ≠ [])
  let marks := t.marksOf v
  let fmt := t.formatCause v
  let pol := policyCause t (decide (endOf v = .refused 2))
  let sc := if fmt = 0 ∧ pol = 0 then sigCause t else 0
  let cause := if fmt ≠ 0 then fmt else if pol ≠ 0 then pol else sc
  let verified := decide (cause = 0) && t.templ.any Template.sigRequired
  let leaves := if fmt = 0 ∧ marks ≠ [] then frameLeaves t.ing.data marks else []
  let stored := decide (cause = 0) || decide (cause = 0x10) || decide (cause = 0x11)
  let r : TillResult :=
    { kind := if cause = 0 then 1 else 3
      status := if cause = 0 ∧ t.retried then 0x30 else causeStatus cause
      cause := cause, epoch := if stored then epoch else 0, group := s.groupOf t, marks := if leaves = [] then [] else marks
      frameRoot := if leaves = [] then zeros 48 else mth leaves, frameCount := leaves.length, stored := stored, marksFromHost := host
      indexRecs := (v.map Vm.index).getD [], stateWords := (v.map (fun v => v.words.toList)).getD [], keepState := v.isSome
      applet := match t.templ with | some p => p.applet | none => 0xFFFF }
  let t1 := { t with ing := { t.ing with sigVerified := verified } }
  let cipher := if stored then aesGcmEnc key (gcmNonce (t.tab.getD 0) t.seq) (t1.header r).bytes t.ing.data else []
  { t1 with result := some { r with cipher := cipher } }

/-! Items (R171, R177). -/

/-- State words as the tab holds them. -/
def wordsOf (l : List Word64) : Vector Word64 8 := Vector.ofFn (fun i => l.getD i.val 0)

/-- The machine of an ingest item at its start (R177, R183). -/
def State.vmStart (s : State) (t : Tk) (a : Applet) : Vm :=
  let n := t.tab.getD 0
  let c := s.tab n
  let infos := [t.tk.dataLen, n, t.seq, t.ing.marks.length, t.ing.captureStart, t.ing.duration, t.templNo, t.tk.source.toNat, s.ledger.current, 0, 0, c.lastCapture]
  { slot := slotPut [] 0 a.consts, words := wordsOf c.appletState, input := t.ing.data, hostMarks := t.ing.marks
    info := Vector.ofFn (fun i => BitVec.ofNat 64 (infos.getD i.val 0)), marksFromHost := decide (t.ing.marks ≠ []), worst := a.worst t.ing.data.length }

/-- Applet 0 on an item: marks, or a refusal for want of a start code (R190). -/
def builtinRun (v : Vm) : Vm :=
  if v.marksFromHost then { v with ended := .ended }
  else match frameMarks v.input with
    | some m => { v with marks := m, ended := .ended }
    | none => { v with ended := .refused 1 }

/-- An item ends: its result goes to the till, its work slot returns (R78, R112). -/
def State.endItem (s : State) (t : Tk) (unit epoch : Nat) (v : Option Vm) : State :=
  let key := ((s.epochKey? (s.groupOf t) epoch).map EpochKey.key).getD []
  let t1 := { s.outcome t epoch key v with stage := .ready, stall := none, epoch := some epoch }
  let s1 := (s.setTk t1)
  let s2 := { s1 with units := { s1.units with items := s1.units.items.filter (fun i => i.ticket != t.id) } }
  s2.spareNext (rowNo unit)

/-- A camera key that was loaded fails its validation at ingest: it is corrupted, a datapath fault. The request is submitted again with the key as the table holds it, fails
again, and its item ends SKIPPED (R113, R227, R235). -/
def State.camFault (s : State) (t : Tk) (i : Item) (k : CamKey) (st : PkeStatus) : State :=
  let d := fun (o : Nat) (s : State) => s.logFault { cls := 0x15, outcome := o, unit := i.unit, detail := k.op * 256 + st.code }
  (d 5 ((d 3 s).skipFault t)).spareNext (rowNo i.unit)

/-- An item that has ended goes to the till. Its hashes and its encryption need the row's engines, its camera's signature an engine of the pool: it waits on its stall where
one cannot be had (R112, R212, R220). -/
def State.handOver (s : State) (t : Tk) (i : Item) (v : Option Vm) : State :=
  let row := rowNo i.unit
  if (s.serving cipherAddr row).isNone || (s.serving hashAddr row).isNone then s
  else match t.verifies v with
    | none => s.endItem t i.unit i.epoch v
    | some k =>
      let s := s.checkCopy (.key t.templNo (((t.templ.map Template.keys).getD []).findIdx (fun x => x.source == t.tk.source)))
      let out := k.verify t.cameraText t.ing.sig
      match s.poolRun i.unit 0 t.cls false [(k.op, k.request i.unit (Fin.ofNat 4 i.slot) t.cameraText t.ing.sig, out)] with
      | none => s
      | some s1 => if out.status = .ok ∨ out.status = .verifyFail then s1.endItem t i.unit i.epoch v else s1.camFault t i k out.status

/-- The lowest work slot of a stall that no item uses. -/
def State.lowSlot (s : State) (unit : Nat) : Nat := ((List.range 4).find? (fun n => s.units.items.all (fun i => i.unit != unit || i.slot != n))).getD 0

/-- The stall takes the item up (R171, R177): its machine stands ready at the applet's first instruction, on the cores where no other item is. -/
def State.startItem (s0 : State) (t : Tk) (unit epoch : Nat) : State :=
  let s := (t.templ.map (fun p => s0.checkCopy (.image p.applet))).getD s0
  let s1 := s.setTk { t with stage := .running, epoch := some epoch, repull := false }
  let vm := match t.applet with | some a => s.vmStart t a | none => {}
  { s1 with units := { s1.units with items := s1.units.items ++ [{ ticket := t.id, unit := unit, slot := s.lowSlot unit, core := s.units.items.all (fun i => i.unit != unit || !i.core), epoch := epoch, vm := vm }] } }

/-- The first item that `p` names and the cores can turn to hands its result over: one that runs no program, which is one act of the stall (R190), or one whose program has
ended and waited for an engine. A paused stall ends none. -/
def State.endPlain (s : State) (p : Item → Bool) : State :=
  if s.enginesPaused then s
  else match s.units.items.find? (fun i => p i && (i.core || s.coreFree i.unit)) with
  | some i =>
    match s.tk? i.ticket with
    | some t =>
      if t.stage ≠ .running then s
      else if t.plain then s.handOver t i (if t.runs then some (builtinRun i.vm) else none)
      else if i.vm.ended ≠ .running ∧ i.vm.cycles ≤ i.vm.worst then s.handOver t i (some i.vm) else s
    | none => s
  | none => s

/-- The machine of the item of a ticket becomes `v`. -/
def State.putVm (s : State) (w : Nat) (v : Vm) : State :=
  { s with units := { s.units with items := s.units.items.map (fun x => if x.ticket = w then { x with vm := v } else x) } }

/-- Can the item run an instruction: its program goes on within its worst case (R175), and the cores run it or can turn to it (R171)? -/
def State.mayRun (s : State) (i : Item) : Bool := decide (i.vm.ended = .running) && decide (i.vm.cycles ≤ i.vm.worst) && (i.core || s.coreFree i.unit)

/-- One Otnak instruction on the running item of ticket `w`; an item whose program has ended hands its result over, unless it has run past its worst case: then it stands
until WORST_CASE_OVERRUN. An instruction for no running item, or for one that runs no program, does nothing, and a paused stall runs none (R408, R425). -/
def State.otnak (s0 : State) (w : Nat) (f : Vm → Vm) : State :=
  if s0.enginesPaused then s0
  else match s0.units.items.find? (fun i => i.ticket == w), s0.tk? w with
  | some i, some t =>
    if t.plain || !s0.mayRun i then s0 else
    let s := if i.core then s0 else s0.onCore i.unit w
    let v := f i.vm
    let len := match t.applet with | some a => a.code.length | none => 0
    let v := if v.ended = .running ∧ len ≠ 0 ∧ len ≤ v.pc then { v with ended := .ended } else v
    if v.ended = .running ∨ v.worst < v.cycles then s.putVm w v else (s.putVm w v).handOver t i (some v)
  | _, _ => s0

/-- HASHM's operation runs on the hash engine that serves the stall's row, and waits where none does (R182, R212). -/
def State.otnakHash (s : State) (w : Nat) (f : Vm → Vm) : State :=
  if (s.units.items.find? (fun i => i.ticket == w)).any (fun i => (s.serving hashAddr (rowNo i.unit)).isSome) then s.otnak w f else s

/-! The commit (R9, R112, R117). -/

/-- The index of a source's key in the camera key table, the tables of the templates standing one after another; 0xFFFF_FFFF if none (R98). -/
def State.cameraKeyOf (s : State) (templ : Nat) (src : BitVec 64) : Nat :=
  match s.template? templ with
  | none => 0xFFFFFFFF
  | some p =>
    match p.keys.findIdx? (fun k => k.source == src) with
    | none => 0xFFFFFFFF
    | some i => ((s.tabs.templates.filter (fun q => decide (q.1 < templ))).map (fun q => q.2.keys.length)).sum + i

/-- All-zero state words are kept as the empty list. -/
def packWords (l : List Word64) : List Word64 := if l.all (· == 0) then [] else l

/-- Write one entry: record into its crate, CHAIN_HEAD, NEXT_SEQ, SEALED, APPLET_STATE in one step. None where no crate takes it now. -/
def State.putEntry (s : State) (e : Entry) (stream : Nat) (inPrepared : Bool) (staging : Nat) (keep : Option (List Word64)) : Option (State × Entry) :=
  let n := e.hdr.tab
  let c := s.tab n
  let tick := s.ledger.current
  let r := s.crateFor stream inPrepared (slotsOf e.objectLength)
  match r.2 with
  | none => none
  | some cr =>
    let head := chainNext (s.headOfTab n) e.hdr.bytes e.ctHash
    let words := match keep with | some w => packWords w | none => c.appletState
    let o : Obj := { type := 1, tab := n, key := e.hdr.seq, length := e.objectLength, staging := staging }
    let e1 := { e with chain := head, crate := cr.id, slot := cr.nextSlot, commitTick := tick, inCrate := cr.id, stateAfter := words }
    let s1 := (r.1.placeIn cr o tick).maybeClose cr.id
    let s2 := { s1 with tabs := { s1.tabs with entries := s1.tabs.entries ++ [e1] } }
    some (s2.setTab n { s2.tab n with
      chainHead := head, nextSeq := e.hdr.seq + 1, sealed := e.hdr.seq, lastTick := tick, appletState := words
      lastCapture := if e.hdr.kind = 1 then e.hdr.captureStart else c.lastCapture }, e1)

/-- An OPEN or CLOSE entry of a tab at its next number. -/
def State.recordEntry (s : State) (n kind : Nat) (src : BitVec 64) (templ : Nat) (auto rebind : Bool) (home : Nat) : Entry :=
  let group := match s.template? templ with | some p => p.group | none => (s.tab n).group
  { hdr := { kind := kind, status := 0, tab := n, seq := (s.tab n).nextSeq, source := src, template := templ, group := group, autoOpen := auto, rebind := rebind
             admitTime := 0, frameRoot := zeros 48, sigDigest := zeros 48 }
    ctHash := ctHash false [], chain := [], affinity := home }

/-- What a committed OPEN entry makes of the tab (R99, R102, R103). -/
def State.opened (s : State) (n templ : Nat) (src : BitVec 64) (home : Nat) : State :=
  let p := (s.template? templ).getD {}
  s.setTab n ({ s.tab n with isOpen := true, source := src, template := templ, applet := p.applet, group := p.group, cameraKey := s.cameraKeyOf templ src, affinityMove := false }.at_ home)

/-- CAPTURE_ORDER where it is the first applicable cause (R116): a REJECTED entry without ciphertext. -/
def State.captureOrder (s : State) (t : Tk) (r : TillResult) : Tk × TillResult :=
  let late := [0x00, 0x10, 0x11, 0x36, 0x37].contains r.cause && decide (r.kind ≠ 2)
  if late && t.templ.any Template.captureMonotonic && decide (t.ing.captureStart ≤ (s.tab (t.tab.getD 0)).lastCapture) then
    ({ t with ing := { t.ing with sigVerified := false } }, { r with kind := 3, status := 4, cause := 0x35, epoch := 0, stored := false, cipher := [] })
  else (t, r)

/-- Commit one ready ticket of a tab (R112). None where its crate space is not to be had yet. -/
def State.commitOne (s0 : State) (t : Tk) : Option State :=
  let n := t.tab.getD 0
  let s := s0.unreserve t
  let t0 := { t with crateTok := false }
  let stream := if t.crateTok then t.crateStream else s.streamOf n
  let ahead := t.crateTok && t.crateId == 0
  let low := s.ledger.current % 2 ^ 32
  match t.tk.opcode with
  | 0x08 =>
    let templ := t.tk.op 48 2
    let aff := t.newAffinity.getD (s.tab n).home
    let e := s.recordEntry n 4 t.tk.source templ false t.rebind aff
    let e := { e with hdr := { e.hdr with admitTime := t.admitTime } }
    (s.putEntry e stream ahead 0 none).map (fun p =>
      let s1 := p.1.opened n templ t.tk.source aff
      s1.finish t0 { t.receipt 0 with seq := e.hdr.seq + 1, tick := low, fixedTick := true, result := templ, entry := e.hdr.seq } 0)
  | 0x09 =>
    let e := s.recordEntry n 5 t.tk.source (s.tab n).template false false 0
    let e := { e with hdr := { e.hdr with admitTime := t.admitTime } }
    (s.putEntry e stream ahead 0 none).map (fun p =>
      let s1 := p.1.setTab n { p.1.tab n with isOpen := false, closing := false, ring := 0xFFFF }
      s1.finish t0 { t.receipt 0 with seq := e.hdr.seq, tick := low, fixedTick := true, entry := e.hdr.seq } 0)
  | _ =>
    match t.result with
    | none => none
    | some r0 =>
      let first : Option State :=
        if t.autoTab then
          let e := s.recordEntry n 4 t.tk.source 0 true false (s.tab n).home
          let e := { e with hdr := { e.hdr with admitTime := t.admitTime } }
          (s.putEntry e stream ahead 0 none).map (fun p => p.1.opened n 0 t.tk.source (s.tab n).home)
        else some s
      first.bind fun s1 =>
        let tr := s1.captureOrder { t0 with seq := (s1.tab n).nextSeq } r0
        let r := tr.2
        let hdr := tr.1.header r
        let e : Entry := { hdr := hdr, ctHash := ctHash r.stored r.cipher, chain := [], sig := if tr.1.recordsSig then t.ing.sig else [], cipher := r.cipher, marks := r.marks, indexRecs := r.indexRecs }
        let keepStaging := if r.stored then t.staging else 0
        (s1.putEntry e stream ahead keepStaging (if r.keepState then some r.stateWords else none)).map fun p =>
          let s2 := if r.stored then p.1.touchEpoch r.group r.epoch s.ledger.current else p.1
          s2.finish { t0 with staging := t.staging - keepStaging }
            { t.receipt r.status with
              flags := 4 * b2n t.autoTab, entry := hdr.seq, seq := hdr.seq, sealRef := if r.stored then sealRef p.2.crate p.2.slot else 0
              tick := low, fixedTick := true, result := r.frameCount } 0

/-- The oldest slot of a tab's window (R112). -/
def State.oldestSlot (s : State) (n : Nat) : Option Tk := s.host.tickets.find? (fun t => t.tabTok && t.tab == some n && t.stage != .done)

/-- Commit the oldest slot and every following slot whose result is ready. -/
def commitRun : Nat → State → Nat → State
  | 0, s, _ => s
  | k + 1, s, n =>
    match s.oldestSlot n with
    | some t => if t.stage = .ready then (match s.commitOne t with | some s1 => commitRun k s1 n | none => s) else s
    | none => s

/-- While the PLLs switch, the till is paused: a boundary held over the switch applies before any commit (R16, R425). -/
def State.commitTab (s : State) (n : Nat) : State := if s.power.pllSwitching then s else commitRun 9 s n

end Sys2Proof.Machine
end

