-- ==== Sys2Proof/Machine/Rings.lean ====
section
/-! DEFINITION. Ring pairs, bells, ports, fetching, token grants, items and commits as commands (chapters 02 and 03). -/

namespace Sys2Proof.Machine

/-! Bells (R37 to R40). -/

/-- A bell of ring pair `n` written through port `p`, if the ring pair is that port's (R28). -/
def State.bell (s : State) (p n : Nat) (f : Ring → State) : State :=
  let r := s.ring n
  if n < Config.ringPairs ∧ r.port.val = p then
    (if r.live then f r else s.setRing n { r with bellIgnored := true })
  else s

/-- The SQ_TAIL bell (R38, R39). -/
def State.bellSq (s : State) (p n : Nat) (v : Nat) : State :=
  s.bell p n (fun r =>
    let v := v % 65536
    if v = r.sqTail then s else if r.size ≤ v then s.ringError n .bellRange else s.setRing n { r with sqTail := v, bells := r.bells ++ [(v, s.now)] })

/-- The CQ_HEAD bell (R39, R40). -/
def State.bellCq (s : State) (p n : Nat) (v : Nat) : State :=
  s.bell p n (fun r =>
    let v := v % 65536
    if v = r.cqHead then s
    else if r.size ≤ v ∨ r.unreleased < (v + r.size - r.cqHead) % r.size then s.ringError n .cqHeadRange
    else s.setRing n { r with cqHead := v, unreleased := r.unreleased - (v + r.size - r.cqHead) % r.size })

/-- SQ_TAIL (R38). -/
def execSqTail (port : Fin 2) (ring : Nat) (value : BitVec 32) (s : State) : Host.Outcome State Fault Refusal := .next (s.bellSq port.val ring value.toNat)
/-- CQ_HEAD (R39). -/
def execCqHead (port : Fin 2) (ring : Nat) (value : BitVec 32) (s : State) : Host.Outcome State Fault Refusal := .next (s.bellCq port.val ring value.toNat)

/-! RING.CFG.ENABLE and ABORT (R35). -/

def Ring.sizeOk (r : Ring) : Bool := decide (4 ≤ r.sizeLog2.toNat) && decide (r.sizeLog2.toNat ≤ 16)

/-- From DISABLED to WAITING, or to ERROR where SIZE_LOG2 is out of range. -/
def Ring.start (r : Ring) : Ring :=
  { r with
    enable := true, sqHead := 0, cqTail := 0, cqPhase := true, sqTail := 0, cqHead := 0, bells := [], unreleased := 0, pending := 0, timer := false
    state := if r.sizeOk then .waiting else .error, err := if r.sizeOk then .none else .cfgInvalid }

/-- The ring pair becomes DISABLED and releases its tabs. -/
def State.disable (s : State) (n : Nat) : State :=
  ((s.setRing n { s.ring n with state := .disabled, enable := false, sqTail := (s.ring n).sqHead, bells := [] }).releaseTabs n).checkRest

/-- A write of RING.CFG.ENABLE. -/
def State.writeEnable (s : State) (n : Nat) (on : Bool) : State :=
  let r := s.ring n
  if Config.ringPairs ≤ n then s
  else if on then
    match r.state with
    | .disabled => s.setRing n r.start
    | .waiting => s.setRing n { r with enable := true, state := if r.sizeOk then .waiting else .error, err := if r.sizeOk then r.err else .cfgInvalid }
    | _ => s.setRing n { r with enable := true }
  else
    match r.state with
    | .disabled => s.setRing n { r with enable := false }
    | .waiting => if r.outstanding = 0 then s.disable n else s.setRing n { r with enable := false, state := .draining, sqTail := r.sqHead, bells := [] }
    | .active => s.setRing n { r with enable := false, state := .draining }
    | .draining => s.setRing n { r with enable := false }
    | .error => s.setRing n { r with enable := false }

/-- A life-cycle transition that a withdrawal can no longer stop: phase 2 has begun (R381). -/
def State.pastIntent (s : State) (id : Nat) : Bool := s.guard.transition.any (fun t => t.ticket == some id && decide (2 ≤ t.phase))

/-- A transition still in phase 1 whose ticket is withdrawn ends (R381). -/
def State.dropPhase1 (s : State) (p : Tk → Bool) : State :=
  match s.guard.transition with
  | some t => if t.phase == 1 && (t.ticket.bind s.tk?).any p then { s with guard := { s.guard with transition := none } } else s
  | none => s

/-! Units whose test is withdrawn (R197, R370). -/

/-- A unit that was out for a test is in service again. -/
def State.undrain (s : State) (a : Nat) : State :=
  let row := rowNo a
  if unitLevel a = some 3 then (if a % 16 = 8 then s.spareBack row else (s.setUState a .active).spareNext row).rowEvent s row
  else (s.setUState a .active).settle

/-- Does a SELF_TEST ticket in the device have the unit in hand? -/
def State.testing (s : State) (a : Nat) : Bool :=
  s.host.tickets.any (fun t => t.tk.opcode == 0x38 && t.stage != .done &&
    (if t.tk.op 50 1 = 5 then t.test.any (fun r => decide (r.left.head? = some a)) else decide (t.tk.op 48 2 = a)))

/-- Units and sources whose SELF_TEST has been withdrawn return to service, and the mask of a source is lifted. -/
def State.quitTests (s : State) : State :=
  let s1 := (s.units.st.filter (fun p => s.inTest p.1 && !s.testing p.1)).foldl (fun s p => s.undrain p.1) s
  ((List.range 32).filter (fun n => (s1.src n).masked && !s1.testing (0xC000 + n))).foldl (fun s n => s.setSrc n { s.src n with masked := false }) s1

/-- ABORT written 1: uncommitted tickets are withdrawn with ABORTED_RESET. -/
def State.writeAbort (s : State) (n : Nat) : State :=
  let r := s.ring n
  if Config.ringPairs ≤ n ∨ r.state = .disabled then s
  else
    let mine := fun t : Tk => t.ring == n && !s.pastIntent t.id
    (((s.setRing n { r with state := .draining, enable := false }).dropPhase1 mine).withdrawAll mine 0x09 true).quitTests

/-- ENABLE (R35). -/
def execEnable (ring : Nat) (on : Bool) (s : State) : Host.Outcome State Fault Refusal := .next (s.writeEnable ring on)
/-- ABORT (R35). -/
def execAbort (ring : Nat) (s : State) : Host.Outcome State Fault Refusal := .next (s.writeAbort ring)

/-- The conditions of R35 under which a WAITING ring pair becomes ACTIVE. -/
def State.canActivate (s : State) (n : Nat) : Bool :=
  let r := s.ring n
  let p := s.port r.port.val
  r.state == .waiting && r.sqBase != 0 && r.cqBase != 0 && r.sizeOk && p.wmtBase != 0 && p.bme &&
    (s.dev.ready || (r.cls == 0 && decide (s.dev.holdCause = 2)))

/-- RING_ACTIVATION (R35): the ring pair is ACTIVE, and an OWNED device leaves REST for SERVICE (R394). Bells kept while WAITING are checked against the ring (R39). -/
def State.activate (s : State) (n : Nat) : State :=
  if s.canActivate n then
    let r := s.ring n
    if r.size ≤ r.sqTail then s.ringError n .bellRange
    else
      let s1 := s.setRing n { r with state := .active }
      if s.power.mode == .rest && s.owned && s.dev.ready then s1.changeMode .service 2 else s1
  else s

def execRingActivation (ring : Nat) (s : State) : Host.Outcome State Fault Refusal := .next (s.activate ring)

/-- RING_DRAIN_COMPLETE (R35). -/
def State.drained (s : State) (n : Nat) : State :=
  let r := s.ring n
  if (r.state == .draining || r.state == .error) && decide (r.outstanding = 0) && !r.enable then s.disable n else s

def execRingDrainComplete (ring : Nat) (s : State) : Host.Outcome State Fault Refusal := .next (s.drained ring)

/-- BUS_MASTER_ENABLE_CLEARED (R35): the port's live ring pairs wait. -/
def State.bmeOff (s : State) (p : Nat) : State :=
  s.ringNos.foldl (fun s n => let r := s.ring n; if r.port.val = p ∧ r.state = .active then s.setRing n { r with state := .waiting } else s)
    (s.setPort p { s.port p with bme := false })

def execBusMasterEnableCleared (port : Fin 2) (s : State) : Host.Outcome State Fault Refusal := .next (s.bmeOff port.val)
/-- BUS_MASTER_ENABLE_SET (R35): held receipts, messages and marked table entries go out. -/
def execBusMasterEnableSet (port : Fin 2) (s : State) : Host.Outcome State Fault Refusal :=
  .next ((s.setPort port.val { s.port port.val with bme := true }).portReturns port.val)

/-! Fetching and grants (R71, R72, R77, R95). -/

/-- TICKET_FETCH (R72): one turn of the ring pair that the arbitration serves next; otherwise nothing. -/
def State.fetch (s : State) (n us : Nat) (reads : List HostRead) : State :=
  match s.pickClass 0 (fun c => (s.nextRing c).isSome) (fun _ => s.fetchBurst n) with
  | some (c, s1) =>
    if s.nextRing c = some n then
      let s2 := { s1 with classes := { s1.classes with lastRing := s1.classes.lastRing.set zeroOf c n } }
      (s2.fetchRun n (reads.take (s.fetchBurst n))).noteWait c 0 us
    else s
  | none =>
    let r := s.ring n
    if r.cls = 0 ∧ r.state = .active ∧ 0 < r.waiting ∧ s.classes.fetchFree = 0 then s.markWaiting 0 0 else s

def execTicketFetch (ring : Nat) (waitedUs : Nat) (reads : List HostRead) (s : State) : Host.Outcome State Fault Refusal := .next (s.fetch ring waitedUs reads)

/-- The rungs that TOKEN_GRANT names. -/
def rungOf (r : Fin 4) : Rung := match r with | 0 => .tab | 1 => .stall | 2 => .staging | 3 => .crate

/-- Is a class-0 ticket waiting at a rung whose pool is empty? -/
def State.class0Starved (s : State) (r : Rung) : Bool :=
  r == .staging && s.host.tickets.any (fun t => t.cls == 0 && t.stage == .ladder && t.need.head? == some r && !s.stagingPool.can 0 t.tk.units)

/-- Tokens that a grant at a rung takes: staging units, or one (R68, R78). -/
def State.tokensAt (_ : State) (r : Rung) (t : Tk) : Nat := if r = .staging then (if t.tk.readout then t.tk.readUnits else t.tk.units) else 1

/-- TOKEN_GRANT (R77): the rung is granted to the ticket that the arbitration serves next; a gated row it needs wakes (R414). -/
def State.tokenGrant (s0 : State) (rung : Fin 4) (us : Nat) : State :=
  let r := rungOf rung
  let s := if s0.class0Starved r then s0.markWaiting 0 r.code else s0
  match s.pickClass r.code (fun c => (s.nextAt r State.crateOk c).isSome) (fun c => match s.nextAt r State.crateOk c with | some (_, t) => s.tokensAt r t | none => 1) with
  | none => s
  | some (c, s1) =>
    match s1.nextAt r State.crateOk c with
    | none => s
    | some (k, t) =>
      let s2 := ((s1.grant State.reserve t).rotate k).noteWait c r.code (max us (s.waitUs t))
      if r == .stall then (match s1.stallFor t with | some a => s2.wakeRow (rowNo a) | none => s2) else s2

def execTokenGrant (rung : Fin 4) (waitedUs : Nat) (s : State) : Host.Outcome State Fault Refusal := .next (s.tokenGrant rung waitedUs)

/-- Does the ticket wait at the crate-slot rung with a segment? -/
def Tk.atCrate (t : Tk) : Bool := t.stage == .ladder && t.need.head? == some .crate && (t.tk.opcode == 1 || t.tk.opcode == 2)

/-- SPACE_WAIT_EXPIRY (R83): CLASS.SPACE_WAIT.MS have passed since the ticket reached the crate-slot rung; without space, it and every other ingest ticket at the
rung end SKIPPED, NO_SPACE. -/
def State.spaceWait (s0 : State) (id : Nat) : State :=
  match s0.tk? id with
  | some t =>
    if t.atCrate && !s0.crateOk t && !s0.ringSpace then
      let s := s0.reach (t.waitSince + msCounts s0.classes.spaceWaitMs)
      let s1 := { s with classes := { s.classes with exhausted := true } }
      ((s.host.tickets.filter Tk.atCrate).foldl (fun s t => (s.noteLeave t).skip t 1) s1).pruneRot
    else s0
  | none => s0

def execSpaceWaitExpiry (id : Nat) (s : State) : Host.Outcome State Fault Refusal := .next (s.spaceWait id)

/-- Does the ticket's opcode read host memory after admission: an object, a destination basket, or the request of an EXPORT (R51, R64)? -/
def Ticket.readsHost (t : Ticket) : Bool := decide (t.opcode = 0x23) || !(t.sequenced || t.noData)

/-- COMPLETION_ERROR (R64): a failed read of an admitted ticket, or the failed repeat of an ingest ticket's reads (R312); a segment is REJECTED with cause
HOST_READ, any other object ends its ticket with BAD_TICKET. The error of the first reads leaves the entry no field of a side block and no signature: whether
the side block had been read is not told (DESIGN CHOICE, log 100). -/
def State.completionError (s : State) (a : TkArg) : State :=
  match s.tk? a.id with
  | some t =>
    if !s.masters t then s
    else
      let s1 := s.aer (s.portOf t) [.err]
      if t.tk.opcode = 1 ∨ t.tk.opcode = 2 then
        if t.stage = .admitted then s1.setTk { t with stage := .staged, ing := { read := true, cause := 0x22 } }
        else if t.stage = .staged ∧ t.repull then s1.setTk { t with repull := false, ing := { t.ing with cause := 0x22, data := [], dataOk := false, sigVerified := false } }
        else s
      else if t.stage = .admitted ∧ t.tk.readsHost then s1.finishWith t 0x10 a.us
      else s
  | none => s

def execCompletionError (a : TkArg) (s : State) : Host.Outcome State Fault Refusal := .next (s.completionError a)

/-! Items and commits. -/

/-- The stall whose work slots a unit runs now: itself, or the one the spare stands in for (R171, R173). A stall that drains has left its slots to a spare that stands in for it (R197). -/
def State.standsFor (s : State) (unit : Nat) : Option Nat :=
  if unitLevel unit = some 3 then
    let row := rowNo unit
    if unit % 16 < 8 then
      (if (s.unitSt unit).state = .active ∨ ((s.unitSt unit).state = .draining ∧ s.spareFor (rowAddr row) ≠ unit % 16) then some unit else none)
    else if ((s.unitSt unit).state = .standingIn ∨ (s.unitSt unit).state = .draining) ∧ s.spareFor (rowAddr row) < 8 ∧ (s.unitSt (stallAddr row (s.spareFor (rowAddr row)))).state ≠ .active then
      some (stallAddr row (s.spareFor (rowAddr row)))
    else none
  else none

/-- The staged ticket that a unit takes up next: one whose slot it runs, or one without a slot where its stall is the one with the most free slots (R171, R174). -/
def State.nextItem (s : State) (unit : Nat) : Option (Tk × Nat) :=
  match s.standsFor unit with
  | none => none
  | some st =>
    match s.host.tickets.find? (fun t => t.stage == .staged && t.stall == some st) with
    | some t => some (t, st)
    | none =>
      if s.stallWorks (rowNo unit) (st % 16) ∧ (s.bestStall (rowNo unit)).map (stallAddr (rowNo unit)) = some st then
        (s.host.tickets.find? (fun t => t.stage == .staged && t.stall == none && rowNo (s.tab (t.tab.getD 0)).affinity == rowNo unit)).map (fun t => (t, st))
      else none

/-- ITEM_START (R171): nothing where the unit's cores run an item that does not wait, it has no item to take up, is paused, or its group has no epoch yet. An item that can be handed over is, before the unit's next one starts. -/
def State.itemStart (s : State) (unit : Nat) : State :=
  let s1 := s.endPlain (fun i => i.unit == unit)
  if s1.enginesPaused || !s1.coreFree unit || decide (4 ≤ s1.units.items.countP (fun i => i.unit == unit)) then s1
  else match s1.nextItem unit with
    | none => s1
    | some (t, st) =>
      let t1 := { t with stall := some st }
      match t.epoch, (s1.currentEpoch (s1.groupOf t)).map EpochKey.epoch with
      | some e, _ => s1.startItem t1 unit e
      | none, some e => s1.startItem t1 unit e
      | none, none => s1

def execItemStart (unit : Nat) (s : State) : Host.Outcome State Fault Refusal := .next (s.itemStart unit)

/-- TILL_COMMIT (R112): an item of the ticket that runs no program has ended by then. -/
def State.tillCommit (s0 : State) (a : TkArg) : State :=
  let s := s0.endPlain (fun i => i.ticket == a.id)
  match s.tk? a.id with
  | some t => match t.tab with | some n => if t.tabTok then s.commitTab n else s | none => s
  | none => s

def execTillCommit (a : TkArg) (s : State) : Host.Outcome State Fault Refusal := .next (s.tillCommit a)

/-- MOD_TIME_EXPIRY (R59). -/
def State.modTime (s : State) (n : Nat) : State := if (s.ring n).timer then s.ringMessage n else s

def execModTimeExpiry (ring : Nat) (s : State) : Host.Outcome State Fault Refusal := .next (s.modTime ring)

/-- VECTOR_UNMASK (R60): one vector unmasked, or MSI-X Enable set; the messages held for it are sent. -/
def State.unmask (s : State) (p : Nat) (v : Option (BitVec 12)) : State :=
  let q := s.port p
  let q1 := match v with
    | some v => { q with msix := q.msix.upd noMsix v.toNat (fun e => { e with mask := false }) }
    | none => { q with msixEn := true }
  (s.setPort p q1).releaseMsgs

def execVectorUnmask (port : Fin 2) (vector : Option (BitVec 12)) (s : State) : Host.Outcome State Fault Refusal := .next (s.unmask port.val vector)

/-! Links and port resets (R25, R65, R66, R404, R448). -/

/-- The port is in use: both in x8x8 operation, port 0 alone in x16. -/
def State.portUsed (s : State) (p : Nat) : Bool := p == 0 || s.host.twoPorts

/-- LINK_DOWN (R66): the port's ACTIVE ring pairs enter ERROR. -/
def State.linkDown (s : State) (p : Nat) : State :=
  if (s.port p).link.l0 then
    let q := s.port p
    let s1 := s.setPort p { q with link := { q.link with l0 := false, downSince := s.now } }
    (s.ringNos.foldl (fun s n => let r := s.ring n; if r.port.val = p ∧ r.state = .active then s.ringError n .portDown else s) s1).devEvent 6
  else s

def execLinkDown (port : Fin 2) (s : State) : Host.Outcome State Fault Refusal := .next (s.linkDown port.val)

/-- LINK_UP (R448): the link is in L0. Only a link that had left L0 returns to it, which PORT_LINK reports (R449, log 97). -/
def State.linkUp (s : State) (p speed width : Nat) : State :=
  let q := s.port p
  if s.portUsed p && !q.inReset then
    let was := q.link.l0
    let s1 := s.setPort p { q with link := { q.link with l0 := true, trained := true, speed := speed % 8, width := width % 32 } }
    (if !was && q.link.trained then s1.devEvent 6 else s1).portReturns p
  else s

def execLinkUp (port : Fin 2) (speed width : Nat) (s : State) : Host.Outcome State Fault Refusal := .next (s.linkUp port.val speed width)

/-- A reset of a port's function (R65, R447): uncommitted tickets are withdrawn without receipts, the ring-table entries and the table base return to reset. -/
def State.functionReset (s : State) (p : Nat) : State :=
  let nos := s.ringNos.filter (fun n => (s.ring n).port.val == p)
  let mine := fun t : Tk => nos.contains t.ring
  let keep := fun t : Tk => mine t && !s.pastIntent t.id
  let s0 := ((s.dropPhase1 mine).withdrawAll keep 0 false).quitTests
  -- a transition that goes on keeps no token of its ticket (R81, R97)
  let s1 := (s0.host.tickets.filter mine).foldl State.returnTokens s0
  let s2 := { s1 with host := { s1.host with tickets := s1.host.tickets.filter (fun t => !mine t) }
                      guard := { s1.guard with transition := s1.guard.transition.map (fun (t : Transition) => if (t.ticket.bind s.tk?).any mine then { t with ticket := none } else t) } }
  let s3 := nos.foldl (fun s n => (s.setRing n (Ring.reset n)).releaseTabs n) s2
  let q := s3.port p
  (s3.setPort p { q with bme := false, msixEn := false, d3hot := false, wmtBase := 0, msix := [], bar0 := 0, bar2 := 0, bar4 := 0, aerLogged := 0 }).checkRest

/-- FLR (R65). -/
def execFlr (port : Fin 2) (s : State) : Host.Outcome State Fault Refusal := .next (s.functionReset port.val)

/-- PORT_RESET (R65): the link leaves L0 with it. -/
def State.portReset (s : State) (p : Nat) : State :=
  let s1 := s.functionReset p
  if (s1.port p).link.l0 then
    let q := s1.port p
    (s1.setPort p { q with link := { q.link with l0 := false, downSince := s.now } }).devEvent 6
  else s1

def execPortReset (port : Fin 2) (s : State) : Host.Outcome State Fault Refusal := .next (s.portReset port.val)

/-- POWER_STATE_D3HOT (R25). -/
def State.d3 (s : State) (p : Nat) (d3 : Bool) : State :=
  let s1 := s.setPort p { s.port p with d3hot := d3 }
  if d3 then s1 else s1.portReturns p

def execPowerStateD3hot (port : Fin 2) (d3 : Bool) (s : State) : Host.Outcome State Fault Refusal := .next (s.d3 port.val d3)

/-- PERST_RELEASE (R404): the port leaves reset, and its link can train. -/
def execPerstRelease (port : Fin 2) (s : State) : Host.Outcome State Fault Refusal := .next (s.setPort port.val { s.port port.val with inReset := false })

/-- WMT_BASE_WRITE (R447): accepted while every ring pair of the port is DISABLED or WAITING; a table that becomes available takes the marked entries (R62). -/
def State.writeWmtBase (s : State) (p : Nat) (v : BitVec 64) : State :=
  if s.portUsed p && s.ringNos.all (fun n => let r := s.ring n; r.port.val != p || r.state == .disabled || r.state == .waiting) then
    (s.setPort p { s.port p with wmtBase := v &&& ~~~(0xFFF : BitVec 64) }).flushMarked
  else s

def execWmtBaseWrite (port : Fin 2) (value : BitVec 64) (s : State) : Host.Outcome State Fault Refusal := .next (s.writeWmtBase port.val value)

end Sys2Proof.Machine
end

