-- ==== Sys2Proof/Machine/Tickets.lean ====
section
/-! DEFINITION. The tickets that change tabs, holds, watermarks, modes, time, templates and applets (chapters 04 to 06, 16). -/

namespace Sys2Proof.Machine

/-- The admitted ticket a command names, if it carries the opcode. -/
def State.ready? (s : State) (a : TkArg) (op : Nat) : Option Tk :=
  match s.tk? a.id with
  | some t => if t.stage = .admitted ∧ t.tk.opcode = op then some t else none
  | none => none

/-- Run an admitted ticket of an opcode; nothing where there is none, and nothing while the fabric is paused for its PLLs (R413, R425). -/
def State.withTk (s : State) (a : TkArg) (op : Nat) (f : Tk → State) : State :=
  if s.power.pllSwitching then s else match s.ready? a op with | some t => f t | none => s

/-- The object of a ticket, or its end with BAD_TICKET (R45, R64); in D3hot nothing is read, and the ticket waits (R25). -/
def State.withObj (s : State) (t : Tk) (a : TkArg) (o : ObjRead) (f : State → Bytes → State) : State :=
  if !s.masters t then s
  else
    let s1 := s.aer (s.portOf t) [o.basket, o.data]
    match objectOf t.tk o with
    | some b => f s1 b
    | none => s1.finishWith t 0x10 a.us

/-- A ticket takes effect with an event of the open tick, or ends with NO_SPACE for want of event space (R136). -/
def State.withEvent (s : State) (t : Tk) (a : TkArg) (type : Nat) (body : Bytes) (f : State → State) : State :=
  if s.eventFits body.length then (f s).addEvent type body else s.finishWith t 0x12 a.us

/-! INGEST, OPEN_TAB, CLOSE_TAB (R11, R99, R101). -/

/-- An admitted ingest ticket's reads are done; it waits for a stall to take it up. In D3hot nothing is read (R25). -/
def State.ingest (s : State) (a : TkArg) (op : Nat) (r : IngestRead) : State :=
  s.withTk a op (fun t => if s.masters t then (s.aer (s.portOf t) [r.basket, r.side, r.data]).setTk { t with stage := .staged, ing := ingestOf t.tk r } else s)

/-- INGEST (R11). -/
def execIngest (a : TkArg) (reads : IngestRead) (s : State) : Host.Outcome State Fault Refusal := .next (s.ingest a 0x01 reads)
/-- INGEST_SIGNED (R11). -/
def execIngestSigned (a : TkArg) (reads : IngestRead) (s : State) : Host.Outcome State Fault Refusal := .next (s.ingest a 0x02 reads)

/-- A record ticket's result reaches the till at once. -/
def State.record (s : State) (a : TkArg) (op : Nat) : State :=
  s.withTk a op (fun t => (s.setTk { t with stage := .ready }).commitTab (t.tab.getD 0))

/-- OPEN_TAB (R99). -/
def execOpenTab (a : TkArg) (s : State) : Host.Outcome State Fault Refusal := .next (s.record a 0x08)
/-- CLOSE_TAB (R101). -/
def execCloseTab (a : TkArg) (s : State) : Host.Outcome State Fault Refusal := .next (s.record a 0x09)

/-! HOLD, RELEASE_HOLD, MARK_UPLOADED (R13, R120 to R122). -/

def Hold.body (h : Hold) : Bytes := leBytes 4 h.id ++ leBytes 4 (h.tab.getD 0xFFFFFFFF) ++ leBytes 8 h.first ++ leBytes 8 h.last

/-- HOLD (R121). -/
def State.hold (s : State) (a : TkArg) : State :=
  s.withTk a 0x10 (fun t =>
    let h : Hold := { id := s.tabs.holdHigh + 1, tab := t.tab, first := t.tk.op 48 8, last := t.tk.op 56 8 }
    if 4096 ≤ s.tabs.holds.length then s.finishWith t 0x12 a.us
    else s.withEvent t a 6 h.body (fun s =>
      { s with tabs := { s.tabs with holds := s.tabs.holds ++ [h], holdHigh := h.id } }.finish t { t.receipt 0 with result := h.id } a.us))

def execHold (a : TkArg) (s : State) : Host.Outcome State Fault Refusal := .next (s.hold a)

/-- RELEASE_HOLD (R122). -/
def State.releaseHold (s : State) (a : TkArg) : State :=
  s.withTk a 0x11 (fun t =>
    let id := t.tk.op 48 4
    if s.tabs.holds.any (fun h => h.id == id) then
      s.withEvent t a 7 (leBytes 4 id ++ zeros 4) (fun s =>
        { s with tabs := { s.tabs with holds := s.tabs.holds.filter (fun h => h.id != id) } }.finish t { t.receipt 0 with result := id } a.us)
    else s.finishWith t 0x13 a.us)

def execReleaseHold (a : TkArg) (s : State) : Host.Outcome State Fault Refusal := .next (s.releaseHold a)

/-- MARK_UPLOADED (R13, R120): above SEALED it is refused, at or below UPLOADED it changes nothing. -/
def State.markUploaded (s : State) (a : TkArg) : State :=
  s.withTk a 0x12 (fun t =>
    let n := t.tab.getD 0
    let v := t.tk.op 48 8
    let c := s.tab n
    if c.sealed < v then s.finishWith t 0x10 a.us
    else
      let up := max c.uploaded v
      ((s.setTab n { c with uploaded := up }).checkBacklog).finish t { t.receipt 0 with seq := up } a.us)

def execMarkUploaded (a : TkArg) (s : State) : Host.Outcome State Fault Refusal := .next (s.markUploaded a)

/-! HEARTBEAT, HOLDOVER, FENCE (R75, R394 to R397). -/

/-- The heartbeat timer starts again. -/
def State.restartTimer (s : State) : State := { s with power := { s.power with hbStart := some s.now, hbStopped := none } }

/-- What the admission of a HEARTBEAT does to the mode. -/
def State.beat (s : State) : State :=
  if !s.owned then s
  else match s.power.mode with
    | .rest => if s.dev.ready then s.changeMode .service 1 else s
    | .service => s.restartTimer
    | .catchup => s.restartTimer
    | .holdover =>
      let behind := s.tabs.ctx.any (fun p => decide (p.2.uploaded < p.2.sealed))
      if behind then (s.changeMode .catchup 6).restartTimer else s.changeMode .service 7
    | _ => s

def State.heartbeat (s : State) (a : TkArg) : State :=
  s.withTk a 0x18 (fun t => let s1 := s.beat; s1.finish t { t.receipt 0 with result := s1.power.mode.code } a.us)

/-- HEARTBEAT (R396). -/
def execHeartbeat (a : TkArg) (s : State) : Host.Outcome State Fault Refusal := .next (s.heartbeat a)

def State.holdover (s : State) (a : TkArg) : State :=
  s.withTk a 0x19 (fun t =>
    let s1 := if s.power.mode.timed then s.changeMode .holdover 5 else s
    s1.finish t { t.receipt 0 with result := s1.power.mode.code } a.us)

/-- HOLDOVER (R394). -/
def execHoldover (a : TkArg) (s : State) : Host.Outcome State Fault Refusal := .next (s.holdover a)

/-- FENCE (R75): its receipt waits for every earlier ticket of its ring. -/
def execFence (a : TkArg) (s : State) : Host.Outcome State Fault Refusal := .next (s.withTk a 0x1A (fun t => s.finishWith t 0 a.us))

/-! SET_TIME (R152 to R156). -/

/-- The correction of a time-set record. -/
def State.correction (s : State) (b : Bytes) : Int := toSigned 64 (fld b 24 8) - (s.ledger.applied - toSigned 64 (fld b 16 8))

/-- The checks of R153, with the time-authority keys in force at the record's admission: 0 where it is accepted. -/
def State.timeCheck (s : State) (keys : Option Bytes) (b : Bytes) : Nat :=
  let flags := fld b 2 1
  let signed := bit flags 0
  let step := bit flags 1
  let c := s.correction b
  let ref := fld b 8 8
  let issued := fld b 48 8
  let max := msCounts s.ledger.slewMaxMs
  let limit := msCounts s.ledger.unsignedMs
  let freed := !signed && s.ledger.uncertain && keys.isNone
  if ¬ (b.length = (if signed then 3469 else 64) ∧ fld b 0 2 = 1 ∧ flags / 4 = 0 ∧ fld b 3 1 ≤ 4 ∧ allZero (slice b 56 8) ∧ (signed ∨ issued = 0)) then 0x10
  else if slice b 32 16 ≠ s.unitId then 0x13
  else if s.now < ref ∨ ref + 524288 < s.now then 0x13
  else if signed && !(match keys with
      | some k => pairVerifyAt k b 64 && decide (s.vault.lastIssued < issued) && decide (s.ledger.current ≤ issued + 16) && decide (issued ≤ s.ledger.current)
      | none => false) then 0x13
  else if ¬ signed ∧ (s.ledger.unsignedMs = 0 ∨ (¬ freed ∧ (limit : Int) < c.natAbs)) then 0x13
  else if ¬ (c.natAbs ≤ max ∨ ((max : Int) < c ∧ step ∧ (signed ∨ freed))) then 0x13
  else 0

/-- The TIME_SET event of an accepted record; its STEP bit says that the record was stepped (log 34). -/
def State.timeEvent (s : State) (keys : Option Bytes) (b : Bytes) : Bytes :=
  let c := s.correction b
  let signed := bit (fld b 2 1) 0
  let clears := s.ledger.uncertain && (signed || keys.isNone)
  leBytes 8 (ofSigned 64 c) ++ leBytes 1 (b2n signed + 2 * b2n (decide ((msCounts s.ledger.slewMaxMs : Int) < c)) + 4 * b2n clears) ++ leBytes 1 (fld b 3 1) ++ zeros 2 ++
    leBytes 4 (fld b 4 4) ++ sha384 b

/-- What an accepted record does (R154 to R156). The vault image is written after the receipt (R251). A slew accepted while a step is pending leaves that step pending (DESIGN CHOICE, log 106). -/
def State.applyTime (s : State) (keys : Option Bytes) (b : Bytes) : State :=
  let c := s.correction b
  let signed := bit (fld b 2 1) 0
  let l := s.ledger
  let l1 := if (msCounts l.slewMaxMs : Int) < c then { l with slewRemain := 0, stepPending := some c.toNat } else { l with slewRemain := c, slewLast := s.now }
  let l2 := { l1 with uncertain := l.uncertain && !(signed || keys.isNone) }
  let s1 := { s with ledger := l2 }
  if signed then { s1 with vault := { s1.vault with lastIssued := fld b 48 8, imageDue := true } } else s1

/-- The checks and the effect of a time-set record. -/
def State.judgeTime (s : State) (t : Tk) (a : TkArg) (keys : Option Bytes) (b : Bytes) : State :=
  let st := s.timeCheck keys b
  if st ≠ 0 then s.finishWith t st a.us
  else
    let r := satSigned 32 (s.correction b)
    s.withEvent t a 3 (s.timeEvent keys b) (fun s => (s.applyTime keys b).finish t { t.receipt 0 with result := r } a.us)

/-- SET_TIME: a signed record has its signatures checked on the pool. -/
def State.setTime (s : State) (a : TkArg) (o : ObjRead) : State :=
  s.withTk a 0x1B (fun t => s.withObj t a o (fun s b =>
    let keys := timeKeysOf t.auth
    s.verifyOn t (if bit (fld b 2 1) 0 ∧ b.length = 3469 then keys.toList.map (fun k => (k, b, 64)) else []) (fun s => s.judgeTime t a keys b)))

/-- SET_TIME (R153). -/
def execSetTime (a : TkArg) (obj : ObjRead) (s : State) : Host.Outcome State Fault Refusal := .next (s.setTime a obj)

/-! LOAD_TEMPLATE (R105 to R107, R227). -/

def keyLen (alg : Nat) : Nat := match alg with | 1 => 64 | 2 => 96 | 3 => 32 | 4 => 1312 | _ => 0

/-- Is a camera key well formed under R227? -/
def CamKey.valid (k : CamKey) : Bool :=
  match k.alg with
  | 1 => (p256.decode k.key).isSome
  | 2 => (p384.decode k.key).isSome
  | 3 => (match edDecode k.key with | some q => !edSmall q | none => false)
  | _ => true

/-- The request that validates it: the inputs of a verification, of which only the key is looked at; an ML-DSA-44 key is checked by its length alone (R227). -/
def CamKey.check (k : CamKey) (unit : Nat) : List (Nat × PkeReq × PkeOut) :=
  let sig := match k.alg with | 2 => 96 | _ => 64
  if k.alg = 4 then []
  else [(k.op, k.request unit 0 [] (zeros sig), { status := if k.valid then .ok else .badPoint, time := match k.alg with | 1 => ct256.valid | 2 => ct384.valid | _ => 12 })]

/-- The stall whose firmware submits the validations of a LOAD_TEMPLATE: the one that would take a readout (log 111). -/
def State.checkStall (s : State) : Option Nat := (s.bestRow).bind (fun r => (s.bestStall r).map (stallAddr r))

/-- A key list of `n` entries that fills the bytes exactly. -/
def keyList : Nat → Bytes → Option (List CamKey)
  | 0, b => if b = [] then some [] else none
  | n + 1, b =>
    let alg := fld b 8 1
    let len := fld b 10 2
    let total := 16 + roundUp len 8
    if 1 ≤ alg ∧ alg ≤ 4 ∧ fld b 9 1 = 0 ∧ len = keyLen alg ∧ fld b 12 4 = 0 ∧ total ≤ b.length ∧ allZero (slice b (16 + len) (total - 16 - len)) then
      let k : CamKey := { source := BitVec.ofNat 64 (fld b 0 8), alg := alg, key := slice b 16 len }
      (keyList n (b.drop total)).map (fun r => k :: r)
    else none

def noTwice : List (BitVec 64) → Bool
  | [] => true
  | a :: r => !r.contains a && noTwice r

/-- A template record with the retention period it sets; none where it is malformed. -/
def templateOf (b : Bytes) : Option (Template × Nat) :=
  let keys := if fld b 20 4 ≤ 65536 then keyList (fld b 20 4) (b.drop 64) else none
  match keys with
  | none => none
  | some ks =>
    if 64 ≤ b.length ∧ fld b 2 1 ≤ 1 ∧ fld b 3 1 ≤ 15 ∧ fld b 4 1 ≤ 63 ∧ fld b 5 1 ≤ 7 ∧ 1 ≤ fld b 6 2 ∧ fld b 6 2 ≤ 4096 ∧ fld b 8 2 ≤ 3650 ∧ fld b 10 2 = 0 ∧
        allZero (slice b 24 40) ∧ noTwice (ks.map CamKey.source) then
      some ({ applet := fld b 0 2, sigRequired := decide (fld b 2 1 = 1), sigAlgs := fld b 3 1, group := fld b 4 1, captureRequired := bit (fld b 5 1) 0, captureMonotonic := bit (fld b 5 1) 1
              marksRequired := bit (fld b 5 1) 2, maxSegmentKib := fld b 6 2, budgetSegment := fld b 12 4, budgetKib := fld b 16 4, keys := ks, fixed := b.take 64 }, fld b 8 2)
    else none

/-- Does the applet pass the template (R106, R186)? -/
def State.appletFits (s : State) (p : Template) : Bool :=
  match s.applet? p.applet with
  | some a => !a.search && decide (a.wSeg ≤ p.budgetSegment) && decide (a.wKib ≤ p.budgetKib)
  | none => false

/-- The tabs on a template take its applet, group and camera key (R98, R107); other tabs' key indices follow the table. -/
def State.retemplate (s : State) (n : Nat) : State :=
  let p := (s.template? n).getD {}
  { s with tabs := { s.tabs with ctx := s.tabs.ctx.foldl (fun m q =>
      let c := q.2
      let c1 := if c.template = n ∧ 0 < c.sealed then { c with applet := p.applet, group := p.group } else c
      m.set Tab.closed q.1 { c1 with cameraKey := if 0 < c.sealed then s.cameraKeyOf c.template c.source else c.cameraKey }) s.tabs.ctx } }

/-- Keys of the camera key table. -/
def TabStore.keyCount (t : TabStore) : Nat := (t.templates.map (fun p => p.2.keys.length)).sum

/-- Every key of a template's list is validated on the pool; the ticket waits where no engine, or no stall, is free for it (R220, R227). -/
def State.validateKeys (s : State) (t : Tk) (p : Template) (f : State → State) : State :=
  let go := fun unit => s.poolRun unit t.id t.cls false (p.keys.flatMap (fun k => k.check unit))
  if p.keys.all (fun k => k.alg == 4) then f s
  else match s.checkStall.bind go with
    | some s1 => f s1
    | none => s

def State.loadTemplate (s : State) (a : TkArg) (o : ObjRead) : State :=
  s.withTk a 0x31 (fun t => s.withObj t a o (fun s b =>
    let n := t.tk.op 48 2
    match templateOf b with
    | none => s.finishWith t 0x10 a.us
    | some (p, days) => s.validateKeys t p (fun s =>
      if !p.keys.all CamKey.valid then s.finishWith t 0x10 a.us
      else if !s.appletFits p then s.finishWith t 0x13 a.us
      else if 131072 < s.tabs.keyCount - (s.tabs.templates.get noTempl n).keys.length + p.keys.length then s.finishWith t 0x12 a.us
      else s.withEvent t a 8 (leBytes 2 n ++ zeros 6 ++ sha384 b) (fun s =>
        let s1 := { s with tabs := { s.tabs with templates := s.tabs.templates.ins n p, days := if days = 0 then s.tabs.days else s.tabs.days.set days30 p.group days } }
        let s2 := if s1.tabs.days = s.tabs.days then s1 else s1.writeImage
        ((s2.retemplate n).templateStored n p).finish t { t.receipt 0 with result := n } a.us))))

/-- LOAD_TEMPLATE (R105). A changed retention period changes what the vault image holds, so a new image is written (R251, log 89). -/
def execLoadTemplate (a : TkArg) (obj : ObjRead) (s : State) : Host.Outcome State Fault Refusal := .next (s.loadTemplate a obj)

/-! LOAD_APPLET (R187 to R189). -/

def State.loadApplet (s : State) (a : TkArg) (o : ObjRead) : State :=
  s.withTk a 0x30 (fun t => s.withObj t a o (fun s b =>
    let n := t.tk.op 48 2
    let sigOk := match t.auth with | some k => pairVerifyAt k.applet b (imageSigned b) | none => false
    let mine := s.unitMatches (slice b 16 16) && decide (fld b 32 1 = s.lifeCount)
    let signed := match imageOf b n mine true with | .error r => decide (65536 ≤ r.2) | .ok _ => true
    s.verifyOn t (if signed then t.auth.toList.map (fun k => (k.applet, b, imageSigned b)) else []) fun s =>
    match imageOf b n mine sigOk with
    | .error (st, r) => s.finish t { t.receipt st with result := r } a.us
    | .ok ap =>
      let users := s.tabs.templates.filter (fun p => p.2.applet == n)
      if users.any (fun p => ap.search || decide (p.2.budgetSegment < ap.wSeg) || decide (p.2.budgetKib < ap.wKib)) then s.finish t { t.receipt 0x13 with result := sat 32 ap.wSeg } a.us
      else s.withEvent t a 9 (leBytes 2 n ++ zeros 6 ++ sha384 b) (fun s =>
        (State.appletStored { s with tabs := { s.tabs with applets := s.tabs.applets.ins n ap } } n ap).finish t { t.receipt 0 with result := sat 32 ap.wSeg } a.us)))

/-- LOAD_APPLET (R188). -/
def execLoadApplet (a : TkArg) (obj : ObjRead) (s : State) : Host.Outcome State Fault Refusal := .next (s.loadApplet a obj)

end Sys2Proof.Machine
end

