-- ==== Sys2Proof/Machine/Time.lean ====
section
/-! DEFINITION. Tick boundaries, sealing and durability, slewing, epochs and crypto-shredding (chapters 05 and 09). -/

namespace Sys2Proof.Machine

/-! Ride-through (R287, R302). -/

/-- Ten minutes and one minute in counts. -/
def tenMinutes : Nat := 600 * hz
def minute : Nat := 60 * hz

/-- Lane blocks that LEDGER crates use. -/
def State.ledgerLanes (s : State) : Nat := 16 * s.flash.crates.countP (fun c => c.kind == .ledger)

/-- The space that reclaim can free: crates less the reserve, the ledger crates and what is protected. -/
def State.reclaimable (s : State) : Nat := s.dataSpace (s.poolTotal - s.reserveLanes - s.ledgerLanes) - (s.ringCrates.map s.protectedBytes).sum

/-- FLASH.RIDE at an instant. -/
def State.rideAt (s : State) (now : Nat) : Nat :=
  match s.flash.fillStart with
  | none => 0xFFFFFFFF
  | some b =>
    let bytes := (s.flash.fills.map (·.2)).sum
    let span := now - max b (now - tenMinutes)
    if bytes = 0 ∨ span = 0 then 0xFFFFFFFF else sat 32 (s.reclaimable * span / (bytes * minute))

/-- RIDE is recomputed at a boundary; falling below RIDE_WARN raises RIDE_LOW. -/
def State.newRide (s : State) (now : Nat) : State :=
  let fl := (s.flash.fills ++ [(now, s.flash.fillNow)]).filter (fun p => decide (now < p.1 + tenMinutes))
  let s1 := { s with flash := { s.flash with fills := fl, fillNow := 0 } }
  let r := s1.rideAt now
  let s2 := { s1 with flash := { s1.flash with ride := r } }
  if r < s.flash.rideWarn ∧ s.flash.rideWarn ≤ s.flash.ride then s2.devEvent 3 else s2

/-! Epochs and the signing pair (R243, R246, R248): the vault's operations run on the pool. -/

/-- Counts in one hour. -/
def hour : Nat := 117964800

/-- May the vault make and open epochs: an owner generation whose vault is open? -/
def State.vaultOpen (s : State) : Bool := s.owned && s.vault.vaultKey.isSome && s.power.mode.ticking

/-- The three operations of a wrap's entry for one recipient, from 32 random bytes for the encapsulation and 56 for the ephemeral key. -/
def wrapOps (recipient rndK rndE : Bytes) : List (Nat × PkeReq × PkeOut) :=
  let base : PkeReq := { owner := 0xF002 }
  let kem := { base with inputs := [recipient.take 1184] }
  let gen := { base with keyOut := 0x70000000 }
  let dh := { base with inputs := [recipient.drop 1184], key := .handle 0x70000000 }
  [(0xC1, kem, pkeRun 0xC1 kem [] rndK), (0x41, gen, pkeRun 0x41 gen [] rndE), (0x31, dh, pkeRun 0x31 dh (beBytes 48 (p384.scalarOf rndE)) [])]

/-- A wrap's entry for one recipient from the results of its operations. -/
def wrapEntry (head recipient key : Bytes) (ops : List (Nat × PkeReq × PkeOut)) : Bytes :=
  let out : Nat → PkeOut := fun i => ((ops.map (fun o => o.2.2))[i]?).getD {}
  let rid := sha384 recipient
  let info := ascii "BRUXEL ESCROW" ++ head ++ rid ++ (out 0).result ++ (out 1).result
  rid ++ (out 0).result ++ (out 1).result ++ aesKeyWrap (hkdfSha384 (zeros 48) ((out 0).secret.getD [] ++ (out 2).secret.getD []) info 32) key

/-- Generate a group's next epoch key, wrap it and program the wrap, with the key's entry in its page (R246 to R248). A key whose wrap is still not durable has it programmed again.
It waits while the table is full, the vault generates no key, or the pool has no engine free. -/
def State.prepareEpoch (s : State) (g planned : Nat) : State :=
  match s.vault.prepared.find? (fun e => e.group == g) with
  | some p =>
    if s.vault.wraps.any (fun w => w.group == g && w.epoch == p.epoch && w.durable) then s
    else s.programWrap g p.epoch ((s.vault.wraps.find? (fun w => w.group == g && w.epoch == p.epoch)).map (fun w => w.bytes.length) |>.getD 0)
  | none =>
    match s.vault.authority with
    | none => s
    | some a =>
      if !s.entropyOk || decide (tableSize ≤ s.vault.epochs.length + s.vault.prepared.length) then s
      else
        let n := s.nextEpoch g
        let key := s.drawBytes 32
        let head := s.wrapHead g n planned a
        let at_ := fun i : Nat => s.drewBytes (32 + 88 * i)
        let ops := (List.range a.escrowCount).map (fun i => wrapOps (a.escrow i) ((at_ i).drawBytes 32) (((at_ i).drewBytes 32).drawBytes 56))
        match (s.drewBytes (32 + 88 * a.escrowCount)).poolRun 0xF002 0 1 false ops.flatten with
        | none => s
        | some s1 =>
          let w : Wrap := { group := g, epoch := n, bytes := head ++ (List.range a.escrowCount).flatMap (fun i => wrapEntry head (a.escrow i) key (ops.getD i [])) }
          let s2 := { s1 with vault := { s1.vault with prepared := s1.vault.prepared ++ [({ group := g, epoch := n, key := key, planned := planned } : PrepEpoch)], wraps := s1.vault.wraps ++ [w] } }
          (s2.programWrap g n w.bytes.length).savePage false (pageNumber g n)

/-- A signer certificate that is not durable goes into the ledger crate, where it has room (R243). -/
def State.programCert (s : State) (c : SignerCert) : State :=
  if c.durable then s
  else match s.placeKind .ledger { type := 6, key := c.index, length := c.bytes.length } (fld c.bytes 24 8) with
    | some (s1, id, _) =>
      let s2 := s1.programAll id
      { s2 with vault := { s2.vault with certs := s2.vault.certs.map (fun x => if x.index = c.index then { x with durable := true } else x) } }
    | none => s

def State.programCerts (s : State) : State := s.vault.certs.foldl State.programCert s

/-- Generate a new signing pair and its certificate, for a ticket or for none; `authorised` is H of the release, or zeros. The identity key's signatures count as the ledger
unit's (log 111). -/
def State.newSigner (s : State) (ticket firstTick : Nat) (authorised : Bytes) : State :=
  let base : PkeReq := { owner := 0xF002 }
  let re := s.drawBytes 56
  let rm := (s.drewBytes 56).drawBytes 32
  let kp := dsaKeyGen mlDsa65 rm
  let s1 := s.drewBytes 88
  let s2 := (s1.poolRun 0xF002 ticket (if s.callClass ticket = 0 then 0 else 3) false [(0x41, base, pkeRun 0x41 base [] re), (0xB1, base, pkeRun 0xB1 base [] rm)]).getD s1
  let d := p384.scalarOf re
  let pair : SignPair := { d := d, ecdsaPub := p384.encode (p384.mul d p384.g), mldsaSk := kp.2, mldsaPub := kp.1 }
  let idx := (s.vault.certs.map SignerCert.index).foldl max 0 + 1
  let body := leBytes 2 1 ++ leBytes 1 1 ++ leBytes 1 s.lifeCount ++ leBytes 4 idx ++ s.unitId ++ leBytes 8 firstTick ++ fitTo 48 authorised ++ pair.ecdsaPub ++ pair.mldsaPub
  let se := signEcdsa s.identityScalar body (s2.drawBytes 32)
  let sm := dsaSign mlDsa65 s.identityMldsa.2 [] body ((s2.drewBytes 32).drawBytes 32)
  let s3 := s2.drewBytes 64
  let s4 := (s3.poolRun 0xF000 ticket 0 false
    [(0x21, { owner := 0xF000, inputs := [sha384 body], key := .handle 0x40000000 }, { result := se, time := ct384.sign }),
     (0xA1, { owner := 0xF000, inputs := [[]], stream := true, msg := body, key := .handle 0x50000000 },
      { result := sm.1, attempts := sm.2, time := 57900 + 1200 * sm.2 + kibTime body.length })]).getD s3
  State.programCerts { s4 with vault := { s4.vault with signing := some pair, certs := s4.vault.certs ++ [{ index := idx, bytes := body ++ se ++ sm.1 ++ zeros 3 }] } }

/-! The boundary (R129, R130, R143, R155). -/

/-- The PERIOD event of a boundary, where the period changes (R130). -/
def Ledger.periodEvent (l : Ledger) : List TickEvent :=
  if l.periodMs = l.periodInForce then [] else [{ type := 5, body := leBytes 4 l.periodInForce ++ leBytes 4 l.periodMs }]

/-- The present tabs of the open tick with their heads, in tab order (R17, R132). -/
def State.openHeads (s : State) : List (Nat × Bytes) :=
  (s.tabs.ctx.filter (fun p => p.2.lastTick == s.ledger.current && decide (0 < p.2.sealed))).map (fun p => (p.1, s.headOfTab p.1))

/-- Freeze the open tick for its record, journal its boundary, apply a pending step, and open the next tick. -/
def State.turnTick (s : State) : State :=
  let l := s.ledger
  let b := l.nextBoundary
  let c := l.stepPending.getD 0
  let evs := l.events ++ l.periodEvent
  let j := s.boundaryNow l.current b c l.periodMs (evs.filter TickEvent.journalled)
  let build : TickBuild := { at_ := j, prevBoundary := l.began, heads := s.openHeads, entryCount := s.tabs.entries.countP (fun e => e.commitTick == l.current), events := evs, restart := l.restart }
  { s with
    ledger := { l with
      rtc := BitVec.ofNat 48 (max s.now b + c), applied := l.applied + c, stepPending := none, current := l.current + 1, began := b + c
      periodInForce := l.periodMs, nextBoundary := boundaryAfter l.periodMs (b + c), events := [], restart := false, boundaryHeld := false
      builds := l.builds ++ [build], journal := l.journal ++ [j] }
    tabs := { s.tabs with ctx := (s.tabs.ctx.map (fun p => (p.1, { p.2 with uploadedPersist := p.2.uploaded }))).filter (fun p => decide (p.2 ≠ Tab.closed p.1)) } }

/-- A group whose start-up epoch or hourly epoch is due has it prepared, if it is not yet, and opened once its wrap is durable (R246). -/
def State.openDue (s : State) (g : Nat) : State :=
  (s.prepareEpoch g (if s.vault.late.contains g then s.vault.lastHour else s.now)).openEpoch g

/-- The epochs that are due become current at a tick boundary (R246). -/
def State.openOverdue (s : State) : State :=
  let l := s.vault.unopened ++ s.vault.late
  if l = [] || !s.vaultOpen then s else (l.foldl State.openDue s).writeImage

/-- A tick boundary with everything that happens at it. -/
def State.tickBoundary (s : State) : State :=
  if !s.ledger.running then s
  else if s.power.pllSwitching then { s with ledger := { s.ledger with boundaryHeld := true } }
  else
    let b := s.ledger.nextBoundary
    let s1 := (s.reach b).turnTick
    ((((((s1.padBoundary.closeFullCrates.boundaryWmt).newRide b).testKeys).openOverdue).dueImage).flushTamper).flushFaults

/-- TICK_BOUNDARY (R129). -/
def execTickBoundary (s : State) : Host.Outcome State Fault Refusal := .next s.tickBoundary

/-! Sealing and durability (R137 to R141). -/

/-- The unsigned record of a build. -/
def State.recordOf (s : State) (t : TickBuild) (signer : SignPair) : TickRecord :=
  { resealed := t.resealed, restart := t.restart, at_ := t.at_, prevBoundary := t.prevBoundary, lifecycle := s.lifeCount, presentCount := t.heads.length, entryCount := t.entryCount
    prevHash := s.recordHash (t.at_.tick - 1), root := tickRoot t.heads t.at_.tick, signerId := signer.id
    events := t.events ++ (match s.ledger.signerDue with | some h => [{ type := 0xC, body := signer.id ++ h }] | none => [])
    sigEcdsa := [], sigMldsa := [], heads := t.heads }

/-- Seal the oldest tick that waits, once the certificate of its signer is durable (R243): assemble its record and sign it on two engines of the pool at once; it waits where they cannot be had, as through a supply warning (R137,
R213, R230). `delay` is the time from its boundary in units of 100 µs,
`extra` the signing attempts of runs that a fault discarded (R228). -/
def State.sealTick (s0 : State) (delay extra : Nat) : State :=
  let s := s0.programCerts
  match s.ledger.builds, s.vault.signing with
  | t :: rest, some k =>
    if s.power.mode == .lockdown || s.hashersWorking == [] || s.vault.certs.any (fun c => !c.durable) then s
    else
      let r := s.recordOf t k
      let m := r.message s.unitId
      let se := signEcdsa k.d m (s.drawBytes 32)
      let sm := dsaSign mlDsa65 k.mldsaSk [] m ((s.drewBytes 32).drawBytes 32)
      let base : PkeReq := { owner := 0xF000 }
      let ops : List (Nat × PkeReq × PkeOut) :=
        [(0x21, { base with inputs := [sha384 m], key := .handle 0x20000000 }, { result := se, time := ct384.sign }),
         (0xA1, { base with inputs := [[]], stream := true, msg := m, key := .handle 0x30000000 }, { result := sm.1, attempts := sm.2, time := 57900 + 1200 * sm.2 + kibTime m.length })]
      match (s.drewBytes 64).poolRun 0xF000 0 0 true ops with
      | none => s
      | some s2 =>
      let s3 := { s2 with
        ledger := { s2.ledger with builds := rest, sealedTick := t.at_.tick, records := s2.ledger.records ++ [{ r with sigEcdsa := se, sigMldsa := sm.1 }], signerDue := none }
        classes := { s2.classes with tickMax := max s2.classes.tickMax (sat 16 delay) } }
      let s4 := if 120 < sm.2 + extra then s3.logFault { cls := 0x1A, unit := 0x6000 + s.class0Engines.headD 0, detail := sm.2 + extra } else s3
      if 400 < delay then s4.logFault { cls := 0x52, detail := delay } else s4
  | _, _ => s

/-- TICK_RECORD_SEALED (R137). -/
def execTickRecordSealed (delay100us attempts : Nat) (s : State) : Host.Outcome State Fault Refusal := .next (s.sealTick delay100us attempts)

/-- Is every entry that a tick covers durable (R15)? An entry lost with its row waits no longer. -/
def State.rowsIn (s : State) (tick : Nat) : Bool := s.tabs.entries.all (fun e => e.commitTick != tick || e.programmed || e.lost)

/-- Put an object into the ledger crate and program it. -/
def State.ledgerPut (s : State) (o : Obj) (tick : Nat) (failed : List Nat) : State :=
  match s.flash.crates.find? (fun c => c.kind == .ledger && c.objects.any (fun x => x.type == o.type && x.key == o.key && !x.old && !x.dead && !x.programmed)) with
  | some c => s.programLanes c.id failed
  | none => match s.placeKind .ledger o tick with
    | some (s1, id, _) => s1.programLanes id failed
    | none => s

/-- Does the ledger hold a programmed object of a type and key? -/
def State.inLedger (s : State) (type key : Nat) : Bool :=
  s.flash.crates.any (fun c => c.kind == .ledger && c.objects.any (fun x => x.type == type && x.key == key && !x.old && !x.dead && x.programmed))

/-- The journal needs the boundaries of ticks that are not durable, and the last one (R128, R143). -/
def Ledger.prune (l : Ledger) : Ledger := { l with journal := l.journal.filter (fun j => decide (l.durableTick < j.tick)) ++ (newest 1 l.journal).filter (fun j => decide (j.tick ≤ l.durableTick)) }

/-- The oldest sealed record becomes durable, once its entries are and the ledger crate takes it (R139, R301). -/
def State.durableTick (s : State) (failed : List Nat) : State :=
  let n := s.ledger.durableTick + 1
  match s.record? n with
  | none => s
  | some r =>
    if !s.rowsIn n then s
    else
      let s1 := if s.inLedger 4 n then s else s.ledgerPut { type := 4, key := n, length := (r.bytes s.unitId).length } n failed
      let s2 := if !s1.inLedger 4 n || s1.inLedger 5 n then s1 else s1.ledgerPut { type := 5, key := n, length := 16 + Config.tabs / 8 + 48 * r.presentCount } n []
      if s2.inLedger 4 n && s2.inLedger 5 n then { s2 with ledger := { s2.ledger with durableTick := n }.prune } else s2.logFault { cls := 0x38, unit := 0x8000, detail := n }

/-- TICK_RECORD_DURABLE (R139). -/
def execTickRecordDurable (failedLanes : List Nat) (s : State) : Host.Outcome State Fault Refusal := .next (s.durableTick failedLanes)

/-! Slewing and its settings (R154, R160). -/

/-- One act of the slew, 2^SHIFT counts of the oscillator after the one before it: at the last of them the RTC gains or holds one count (log 106). A count that the
RTC passes over in gaining may be a multiple of the period: the boundary then falls at the first count above it (R129). -/
def State.slewAct (s : State) : State :=
  if (s.power.mode == .off && !s.power.pwrOk) || s.ledger.slewRemain == 0 then s
  else
    let l := (s.reach (s.ledger.slewLast + 2 ^ s.ledger.slewShift - 1)).ledger
    if 0 < l.slewRemain then
      let next := if l.running ∧ l.rtc.toNat + 1 = l.nextBoundary then l.nextBoundary + 1 else l.nextBoundary
      { s with ledger := { l with rtc := l.rtc + 2, slewRemain := l.slewRemain - 1, applied := l.applied + 1, slewLast := l.rtc.toNat + 2, nextBoundary := next } }
    else { s with ledger := { l with slewRemain := l.slewRemain + 1, applied := l.applied - 1, slewLast := l.rtc.toNat } }

/-- SLEW (R154). -/
def execSlew (s : State) : Host.Outcome State Fault Refusal := .next s.slewAct

/-- The TIME_CONFIG event of the values in force. -/
def State.timeConfigEvent (s : State) : State := s.addEvent 4 (leBytes 4 s.ledger.slewWord ++ leBytes 4 s.ledger.unsignedMs)

/-- A write of TICK.SLEW. -/
def State.writeSlew (s : State) (v : Nat) : State :=
  if s.power.mode == .lockdown then s
  else State.timeConfigEvent { s with ledger := { s.ledger with slewShift := clamp (bits v 16 4) 10 16, slewMaxMs := clamp (bits v 0 16) 100 60000 } }

/-- A write of TICK.UNSIGNED. -/
def State.writeUnsigned (s : State) (v : Nat) : State :=
  if s.power.mode == .lockdown then s
  else State.timeConfigEvent { s with ledger := { s.ledger with unsignedMs := clamp (bits v 0 16) 0 2000 } }

/-! Epochs and shredding (R246 to R251). -/

/-- The whole hour at which epochs change next: one that has passed, or the next one. -/
def State.nextHour (s : State) : Nat := max (s.now / hour * hour) (s.vault.lastHour + hour)

/-- The group's epoch for the next whole hour, from 60 s before it on; one that is due already is prepared at once (R246). The entry and its page key are
persisted (R251). -/
def State.prepareNext (s : State) (g : Nat) : State :=
  if !s.vaultOpen then s
  else if s.vault.unopened.contains g || s.vault.late.contains g then (s.openDue g).writeImage
  else
    let s1 := s.reach (s.nextHour - minute)
    let s2 := s1.prepareEpoch g s.nextHour
    if s2.vault.prepared = s1.vault.prepared then s2 else s2.writeImage

/-- EPOCH_PREPARATION (R246). -/
def execEpochPreparation (group : Fin 64) (s : State) : Host.Outcome State Fault Refusal := .next (s.prepareNext group.val)

/-- At the hour a group's next epoch becomes current, or the delay is logged and the epoch stays due. A group whose start-up epoch has not begun waits for that. -/
def State.changeEpoch (s : State) (g : Nat) : State :=
  if s.vault.unopened.contains g then s
  else if s.vault.prepared.any (fun e => e.group == g && decide (e.planned ≤ s.vault.lastHour) && s.vault.wraps.any (fun w => w.group == g && w.epoch == e.epoch && w.durable)) then s.openEpoch g
  else
    let n := match s.vault.prepared.find? (fun e => e.group == g) with | some p => p.epoch | none => s.nextEpoch g
    { s with vault := { s.vault with late := s.vault.late.filter (· != g) ++ [g] } }.logFault { cls := 0x51, detail := g * 2 ^ 24 + n % 2 ^ 24 }

/-- The whole hour is reached; where it is a tick boundary, the tick that closes there has closed, and the events stand in the next one. -/
def State.hourChange (s : State) : State :=
  let h := s.nextHour
  let s1 := (if s.ledger.running && s.ledger.nextBoundary == h then s.tickBoundary else s).reach h
  ((List.range 64).foldl State.changeEpoch { s1 with vault := { s1.vault with lastHour := h } }).writeImage

/-- EPOCH_CHANGE (R246). -/
def execEpochChange (s : State) : Host.Outcome State Fault Refusal := .next (if s.vaultOpen then s.hourChange else s)

/-- SHRED (R250): the slot of the superseded image is erased and the events are recorded. -/
def execShred (s : State) : Host.Outcome State Fault Refusal := .next s.shred

end Sys2Proof.Machine
end

