-- ==== Sys2Proof/Machine/GuardOps.lean ====
section
/-! DEFINITION. Life-cycle burns and wipes, SCRUB, LOCKDOWN and KILL responses, tamper detections, crossings, the loss of the main and backup domains (chapters 14 to 16). -/

namespace Sys2Proof.Machine

/-! The counter (R376). -/

/-- Burn the intent bit of a step, and its done bit. -/
def Otp.burnIntent (o : Otp) (k : Nat) : Otp := { o with counter := o.counter ||| BitVec.ofNat 128 (2 ^ (2 * (k - 1))) }
def Otp.burnDone (o : Otp) (k : Nat) : Otp := { o with counter := o.counter ||| BitVec.ofNat 128 (2 ^ (2 * (k - 1) + 1)) }

/-- SCRAP burns both bits of every step from 21 to 64 (R381). -/
def Otp.burnRest (o : Otp) : Otp := (List.range 44).foldl (fun o i => (o.burnIntent (21 + i)).burnDone (21 + i)) o

/-- Is the counter consistent: no done without intent, at most one step torn, and that one above the count (R376)? -/
def Otp.consistent (o : Otp) : Bool :=
  (List.range 64).all (fun k => !o.counter.getLsbD (2 * k + 1) || o.counter.getLsbD (2 * k)) &&
    decide ((List.range 64).countP (fun k => o.counter.getLsbD (2 * k) && !o.counter.getLsbD (2 * k + 1)) ≤ 1) &&
    (match o.torn with | some t => decide (o.count < t) | none => true)

def State.setOtp (s : State) (o : Otp) : State := { s with guard := { s.guard with otp := o } }
def State.scrapped (s : State) : Bool := decide (20 ≤ s.lifeCount)

/-- The pass in force ends (R392). -/
def State.endPass (s : State) : State := { s with guard := { s.guard with passRights := 0, passActive := false, passVendor := false, passEnds := 0 } }

/-! SCRUB (R356). -/

/-- Owners with an open context, or an operation that runs, in any engine. -/
def State.ctxOwners (s : State) : List Nat := (s.crypto.rows.flatMap (fun p => (p.2.cipherOpen ++ p.2.hashOpen).map (·.1))).dedup

/-- Every PKE engine stops: ABORTED to each requester with a session, all memory zeroed (R234). -/
def State.stopPke (s : State) : State :=
  let p := s.crypto.pke
  let done := p.engines.foldl (fun l e => match e.2.last with | some w => pushDone l (w.aborted (0x6000 + e.1) false) | none => l) p.done
  { s with crypto := { s.crypto with pke := { p with engines := [], done := done } } }

/-- Fresh entropy for the DRBG, the grinders and the pool generator. -/
def State.reseedAll (s : State) : State :=
  let s1 := s.seedGrinders
  { s1 with vault := { s1.vault with drbgReseeds := s1.vault.drbgReseeds + 1 }, crypto := { s1.crypto with pke := { s1.crypto.pke with reseeds := s1.crypto.pke.reseeds + 1 } } }

/-- Everything a SCRUB clears: contexts report KEY_CLEARED, key slots and PKE memories are zeroed, generators reseed, passes end. -/
def State.scrubClear (s : State) : State := ((((s.abortCtx s.ctxOwners .keyCleared).clearEngines).stopPke).reseedAll).endPass

/-- The SCRUB response: items whose operations were cleared run again from their start (R81, R356). -/
def State.scrub (s : State) : State :=
  let owners := s.ctxOwners
  let pke := s.crypto.pke.engines.filterMap (fun e => e.2.owner)
  let items := s.units.items.filter (fun i => owners.contains i.ticket || pke.any (fun o => i.unit == o.1 && i.slot == o.2.1))
  (items.foldl (fun s i => s.rerunItem i true false) s.scrubClear).settle

/-! DDR4 and sessions at LOCKDOWN (R314, R352). -/

/-- Program every committed object still in write staging: partly filled rows are padded as at a boundary. -/
def State.programStaged (s : State) : State :=
  (s.flash.crates.filter (fun c => c.state == .opened && c.kind != .system)).foldl (fun s c => s.programAll c.id) s

/-- New XTS and MAC keys; the regions are refilled (R305, R314). -/
def State.rekeyDdr (s : State) : State :=
  if s.ddrRuns then State.fillCopies { (s.drewBytes 96) with ddr := { s.ddr with keys := s.drawBytes 96, state := .rekeying } } else s

/-- Every open session stops and waits (R352). -/
def State.stopSessions (s : State) : State :=
  { s with boards := { s.boards with
      sessions := s.boards.sessions.map (fun x => ({ x with state := .waiting } : Session))
      hx := if s.boards.hx = 3 then 4 else s.boards.hx } }

/-! LOCKDOWN (R357, R400). -/

/-- The LOCKDOWN count rises in both places. -/
def State.countLockdown (s : State) : State :=
  let n := sat 32 (max s.power.lockCountBd s.power.lockCountSa + 1)
  { s with power := { s.power with lockCountBd := n, lockCountSa := n } }

/-- Ticks stop: builds wait to be resealed, the open tick stays open (R141). -/
def State.stopTicks (s : State) : State :=
  { s with ledger := { s.ledger with running := false, boundaryHeld := false, builds := s.ledger.builds.map (fun (b : TickBuild) => { b with resealed := true }) } }

/-- The mode changes to LOCKDOWN with what R400 lays down; `cause` is CLKPWR.LOCKDOWN.CAUSE. -/
def State.enterLockdown (s : State) (cause : Nat) : State :=
  let mine := fun t : Tk => !s.pastIntent t.id
  let s1 := s.stopTicks
  let stopped := if s.power.mode.timed then s.power.hbStart.map (fun b => s.now - b) else s.power.hbStopped
  let s2 := { s1 with power := { s1.power with mode := .lockdown, lockCause := cause, hbStopped := stopped, lossInLockdown := false } }
  let s3 := ((s2.countLockdown.dropPhase1 (fun _ => true)).withdrawAll mine 0x08 true).quitTests
  (((s3.programStaged).rekeyDdr).stopSessions.wakeAll).devEvent 1

/-- BBRAM is cleared, then the vault and everything a SCRUB clears (R357). -/
def State.clearKeys (s : State) : State :=
  let s1 := s.scrubClear
  State.zeroiseVault { s1 with vault := { s1.vault with enclosure := none }, power := { s1.power with tamperBehind := true } }

/-- A LOCKDOWN response. -/
def State.lockdownResponse (s : State) : State := if s.power.mode == .lockdown then s.clearKeys else s.clearKeys.enterLockdown 1

/-! Wipes (R382). -/

/-- What a new owner generation, RETURN or SCRAP removes on chip. -/
def State.wipeCommon (s : State) : State :=
  let s1 := ((s.clearEngines.clearPke).zeroiseVault).endPass
  { s1 with
    crypto := { s1.crypto with cipherQueue := [], hashQueue := [] }
    vault := { s1.vault with enclosure := none, image0 := none, image1 := none, authorityCopy := none, wraps := [], certs := [] }
    tabs := {}
    units := { s1.units with items := [] }
    host := { s1.host with wmtMarked := [] }
    boards := { s1.boards with sessions := [], lastSession := 0, abandoned := [], continued := [], slots := (s1.boards.slots.map (fun p => (p.1, { p.2 with enrolled := false }))).filter (fun p => decide (p.2 ≠ noSlot p.1)) }
    ledger := { s1.ledger with
      applied := 0, stepPending := none, running := false, current := 0, sealedTick := 0, durableTick := 0, nextBoundary := 0, began := 0, events := [], restart := false, boundaryHeld := false
      builds := [], records := [], journal := (newest 1 s1.ledger.journal).map (fun (j : Boundary) => { j with tick := 0, events := [] }), signerDue := none } }

/-- What stands in the crates stays readable there when the structures that name it are wiped (R288). -/
def State.keepBodies (s : State) : State :=
  s.setCrates (s.flash.crates.map (fun c => { c with objects := c.objects.map (fun o => { o with kept := s.objBody c o }) }))

/-- Evidence of the generation left is unprotected ciphertext (R288). -/
def State.orphanEvidence (s : State) : State :=
  s.setCrates (s.flash.crates.map (fun c => { c with reservedSlots := 0, objects := c.objects.map (fun o => { o with old := true, staging := 0 }) }))

/-- The array is logically erased: the crate index keeps only SYSTEM crates (R288). -/
def State.eraseArray (s : State) : State :=
  let gone := s.flash.crates.filter (fun c => c.kind != .system)
  let s1 := gone.foldl (fun s c => c.lanes.foldl State.releaseLane s) s
  State.spaceBack { s1 with flash := { s1.flash with crates := s1.flash.crates.filter (fun c => c.kind == .system), refreshQueue := [], fills := [], fillNow := 0, fillStart := none } }

/-- Tokens of the tickets that a wipe takes with it return. -/
def State.wipeStaging (s : State) : State :=
  let free := 1024 * s.classes.stagingSize - (s.host.tickets.map Tk.staging).sum
  { s with classes := { s.classes with fetchFree := 16384 - (s.host.tickets.countP (fun t => t.fetchTok)), stagingFree := free, stagingRes := min (1024 * s.classes.reserve0) free } }

/-- The wipes for a transition of a kind: 2 OWNER_CHANGE, 3 RETURN, 4 SCRAP or KILL. -/
def State.wipe (s : State) (kind : Nat) : State :=
  let s1 := s.keepBodies.wipeCommon
  match kind with
  | 2 => s1.orphanEvidence.wipeStaging.rekeyDdr
  | 3 => s1.eraseArray.wipeStaging.rekeyDdr
  | _ => { s1.orphanEvidence with
           ddr := { s1.ddr with keys := [], state := .off, images := [], fixed := [], keyEntries := [] }
           guard := { s1.guard with otp := { s1.guard.otp with deviceSecret := List.replicate 32 0xFF, trim := List.replicate 256 0xFF } } }

/-! The loss of the main domains (R405, R410). -/

/-- What of a boards slot outlives a reset: whether a cartridge is seated. -/
def Slot.afterReset (c : Slot) : Slot :=
  { seated := c.seated, rpaCounter := c.rpaCounter, rpaMac := c.rpaMac, rpaSent := c.rpaSent, rpaWriting := c.rpaWriting, rpaAddr := c.rpaAddr, rpaMaker := c.rpaMaker, rpaSerial := c.rpaSerial }

/-- A session as its last checkpoint in the system area has it (R349). -/
def Session.atCheckpoint (x : Session) : Session := { x with state := .waiting, confirmed := x.checkpoint, recent := [] }

/-- Backup-domain fields of TS00 to TS09 (R361). -/
def keptSrcs (m : SMap Src) : SMap Src :=
  (List.range 10).foldl (fun k n =>
    let c := m.get Src.at_ n
    k.set Src.at_ n { level := c.level, backupErase := c.backupErase, debounce := c.debounce, active := c.active }) []

/-- A SIGNER event that stood in a record which has not become durable is due again (R141). -/
def dueAgain (gone : List TickRecord) (due : Option Bytes) : Option Bytes :=
  gone.foldl (fun d r => match r.events.find? (fun e => e.type == 0xC) with | some e => some (e.body.drop 48) | none => d) due

/-- Reset the main domains: only the backup domain, the OTP, the flash array with its system area, and the pins keep what they hold.
`cause` is RESET_CAUSE as the next start-up latches it, `again` the CAUSE of its RESTART event, `mode` the mode that follows. -/
def State.mainReset (s : State) (cause again : Nat) (mode : Mode) : State :=
  let l := s.ledger
  let v := s.vault
  { host := { twoPorts := s.host.twoPorts, port0 := { inReset := s.host.port0.inReset, link := { downSince := s.now } }, port1 := { inReset := s.host.port1.inReset, link := { downSince := s.now } }, nextId := s.host.nextId, out := s.host.out }
    tabs := { ctx := (s.tabs.ctx.map (fun p => (p.1, ({ uploadedPersist := p.2.uploadedPersist, durable := p.2.durable } : Tab)))).filter (fun p => decide (p.2 ≠ Tab.closed p.1))
              templates := s.tabs.templates, entries := s.tabs.entries.filter Entry.programmed, marks := s.tabs.marks, holdHigh := s.tabs.holdHigh, applets := s.tabs.applets }
    ledger := { rtc := l.rtc, uncertain := l.uncertain, slewShift := l.slewShift, slewMaxMs := l.slewMaxMs, unsignedMs := l.unsignedMs, applied := l.applied, slewRemain := l.slewRemain, slewLast := l.slewLast
                durableTick := l.durableTick, sealedTick := l.durableTick, records := l.records.filter (fun r => decide (r.at_.tick ≤ l.durableTick)), journal := l.journal
                signerDue := dueAgain (l.records.filter (fun r => decide (l.durableTick < r.at_.tick))) l.signerDue }
    vault := { enclosure := v.enclosure, imageSerial := v.imageSerial, image0 := v.image0, image1 := v.image1, pages := v.pages, shredding := v.shredding
               wraps := v.wraps.filter Wrap.durable, certs := v.certs.filter SignerCert.durable, authorityCopy := v.authorityCopy, idCerts := v.idCerts }
    flash := { desc := s.flash.desc, lanes := s.flash.lanes, bad := s.flash.bad, subs := s.flash.subs, system := s.flash.system
               crates := s.flash.crates.map (fun c => { c with reservedSlots := 0, objects := c.objects.map (fun o => { o with staging := 0 }) })
               targets := (s.flash.targets.filter (fun p => p.2.state == .retired)).map (fun p => (p.1, ({ state := .retired } : Target)))
               nextCrate := s.flash.nextCrate, grown := s.flash.grown, worn := s.flash.worn, lost := s.flash.lost, refreshQueue := s.flash.refreshQueue }
    boards := { slots := (s.boards.slots.map (fun p => (p.1, p.2.afterReset))).filter (fun p => decide (p.2 ≠ noSlot p.1))
                cards := (s.boards.cards.map (fun p => (p.1, ({ present := p.2.present } : Card)))).filter (fun p => decide (p.2 ≠ noCard p.1))
                sessions := s.boards.sessions.map Session.atCheckpoint, lastSession := s.boards.lastSession, abandoned := s.boards.abandoned, continued := s.boards.continued, out := s.boards.out }
    tamper := { srcs := keptSrcs s.tamper.srcs, ring := s.tamper.ring, overflow := s.tamper.overflow, log := s.tamper.log, modeLog := s.tamper.modeLog, next := (s.tamper.log.map TamperEntry.seq).foldl max 0 + 1 }
    guard := { otp := s.guard.otp, request0 := s.guard.request0, request1 := s.guard.request1 }
    power := { mode := mode, pwrOk := s.power.pwrOk, warn := s.power.warn, resetCause := cause, restartCause := again, lockCountBd := s.power.lockCountBd, lockCountSa := s.power.lockCountSa, vbat := s.power.vbat, onVbat := s.power.onVbat
               fresh := s.power.fresh, xtalRc := s.power.xtalRc, tamperBehind := s.power.tamperBehind, lossInLockdown := s.power.lossInLockdown || s.power.mode == .lockdown }
    fault := { log := s.fault.log, next := (s.fault.log.map FaultEntry.seq).foldl max 0 + 1 }
    drawn := s.drawn
    pending := s.pending }

/-- The backup domain loses its supply (R240, R361, R404): RTC, BBRAM, event ring and every setting it held. -/
def State.loseBackup (s : State) : State :=
  { s with
    ledger := { s.ledger with rtc := 0, uncertain := false, slewShift := 11, slewMaxMs := 2000, unsignedMs := 250, applied := 0, slewRemain := 0, slewLast := 0 }
    vault := { s.vault with enclosure := none, imageSerial := 0 }
    tabs := { s.tabs with holdHigh := 0 }
    tamper := { s.tamper with srcs := s.tamper.srcs.filter (fun p => decide (10 ≤ p.1)), ring := [], overflow := 0 }
    power := { s.power with lockCountBd := 0, fresh := true, xtalRc := false } }

/-- The core is held in reset after SCRAPPED (R377, R381): the main domains stand at reset and nothing starts them. -/
def State.holdCore (s : State) : State := let r := s.mainReset s.power.resetCause s.power.restartCause .rest; { r with guard := { r.guard with killBurnt := s.guard.killBurnt } }

/-! KILL (R357, R384). -/

/-- The burns of a KILL: a torn step is completed, then SCRAPPED is reached and the core held in reset. -/
def State.killBurns (s : State) : State :=
  let o1 := match s.guard.otp.torn with | some k => s.guard.otp.burnDone k | none => s.guard.otp
  let s1 := (s.setOtp ((o1.burnIntent 20))).wipe 4
  let s2 := s1.setOtp ((s1.guard.otp.burnDone 20).burnRest)
  State.holdCore { s2 with guard := { s2.guard with transition := none, killBurnt := true } }

/-- A KILL response: after the LOCKDOWN effects the burns, which wait while the supply warning is asserted (R384, R408). -/
def State.killResponse (s : State) : State :=
  let s1 := s.lockdownResponse
  if s1.power.warn then { s1 with guard := { s1.guard with transition := some { kind := 4, target := 20, phase := 2, kill := true } } } else s1.killBurns

/-! Tamper detections with main power (R355 to R368). -/

/-- Does the source watch a lasting condition (R355)? -/
def lasting (n : Nat) : Bool := decide (n ≤ 19) || (decide (22 ≤ n) && decide (n ≤ 24))

def State.fused (s : State) (n : Nat) : Bool := s.guard.otp.fuses.getLsbD n

/-- A tamper log entry is queued, or lost when the queue is full (R368). -/
def State.logTamper (s : State) (e : TamperEntry) : State :=
  if 256 ≤ s.tamper.queue.length then { s with tamper := { s.tamper with logLost := sat 16 (s.tamper.logLost + 1) } }
  else { s with tamper := { s.tamper with queue := s.tamper.queue ++ [{ e with seq := s.tamper.next }], next := s.tamper.next + 1 } }

/-- Write an event-ring entry (R362). -/
def State.ringPut (s : State) (e : RingEvent) : State :=
  if s.tamper.ring.length < 16 then { s with tamper := { s.tamper with ring := s.tamper.ring ++ [e] } }
  else { s with tamper := { s.tamper with ring := s.tamper.ring.take 15 ++ [e], overflow := sat 8 (s.tamper.overflow + 1) } }

/-- The TAMPER event of a detection: in the open tick, or waiting for ticks to resume, at most 512 of them (R366). -/
def State.tamperEvent (s : State) (source level time : Nat) : State :=
  let b := leBytes 1 source ++ leBytes 1 level ++ zeros 6 ++ leBytes 8 time
  if s.ledger.running then s.addEvent 0xD b
  else if 512 ≤ s.tamper.waiting.length then s
  else { s with tamper := { s.tamper with waiting := s.tamper.waiting ++ [{ type := 0xD, body := b }] } }

/-- One detection with what is known of it. -/
structure Seen where
  source : Nat
  detail : Nat := 0
  level : Nat
  /-- FLAGS of R368. -/
  flags : Nat := 0
  time : Nat
  fraction : Nat := 0
  main : Bool := true
deriving DecidableEq, Repr

/-- Log, notify and record one detection; `applied` is the level of the effects carried out, `kill` that it caused a KILL. -/
def State.recordSeen (s : State) (d : Seen) (applied : Nat) (kill : Bool) : State :=
  if d.level = 0 ∧ d.main then s
  else
    let code := if d.main then d.level else 0x11 + b2n (decide (d.flags / 256 = 1))
    let s1 := s.logTamper { seq := 0, time := d.time, fraction := d.fraction, source := d.source, level := code, applied := applied, flags := d.flags % 256 + 16 * b2n kill
                            mode := if d.main then s.power.mode.code else 0, detail := d.detail % 2 ^ 24, tick := if d.main then s.tickLow else 0 }
    let s2 := s1.tamperEvent d.source code d.time
    if 2 ≤ d.level then s2.notify d.source else s2

/-- The highest level among detections, and the first source that has it. -/
def topSeen (l : List Seen) : Nat × Nat := l.foldl (fun b d => if b.1 < d.level then (d.level, d.source) else b) (0, 0)

/-- The event-ring entries of detections with main power (R362). -/
def State.ringSeen (s : State) (l : List Seen) (top : Nat × Nat) (acts : Bool) : State :=
  l.foldl (fun s d =>
    let big := acts && decide (4 ≤ d.level) && (d.level != 4 || s.power.mode != .lockdown)
    let act := if 4 ≤ d.level then d.level else 1
    if d.source ≤ 9 then (if d.level = 0 then s else s.ringPut { main := true, erased := big && s.vault.enclosure.isSome, action := act, source := d.source, rtc := d.time })
    else if big && d.source == top.2 then s.ringPut { main := true, erased := s.vault.enclosure.isSome, action := act, source := d.source, rtc := d.time }
    else s) s

/-- One response for the detections of a monitor cycle (R359, R360). In LOCKDOWN only a KILL acts. -/
def State.respond (s : State) (l : List Seen) (ringToo : Bool) : State :=
  let top := topSeen l
  let lock := s.power.mode == .lockdown
  let acts := !lock || top.1 == 5
  let s1 := if ringToo then s.ringSeen l top acts else s
  let s2 := l.foldl (fun s d => s.recordSeen d (if acts then top.1 else min 2 d.level) (acts && top.1 == 5 && d.source == top.2)) s1
  if top.1 = 0 then s2
  else
    let s3 := { s2 with tamper := { s2.tamper with lastLevel := if acts then top.1 else min 2 top.1, lastSource := top.2 } }
    if !acts then s3
    else match top.1 with
      | 3 => s3.scrub
      | 4 => s3.lockdownResponse
      | 5 => s3.killResponse
      | _ => s3

/-- Count a detection of a source and show it as ACTIVE where its condition lasts. -/
def State.countSeen (s : State) (n : Nat) : State :=
  let c := s.src n
  s.setSrc n { c with count := sat 16 (c.count + 1), active := c.active || lasting n }

/-- Can the source detect now: not fused off, not masked, armed, and its last condition over (R355, R364, R370, R405)? -/
def State.armed (s : State) (n : Nat) : Bool := decide (n < 31) && !s.fused n && !(s.src n).masked && !(lasting n && (s.src n).active)

/-- Sources that detect in one monitor cycle, with main power present. -/
def State.detect (s : State) (dets : List Det) (fraction flags : Nat) : State :=
  let hit := dets.filter (fun d => s.armed d.source)
  if hit = [] then s
  else
    let s1 := hit.foldl (fun s d => s.countSeen d.source) s
    -- TS09: the RTC goes on from the RC oscillator, and secure time is uncertain (R156, R354)
    let s2 := if hit.any (fun d => d.source == 9) then { s1 with ledger := { s1.ledger with uncertain := s1.ledger.uncertain || decide (0 < (s1.src 9).level) }, power := { s1.power with xtalRc := true } } else s1
    s2.respond (hit.map (fun d => { source := d.source, detail := d.detail, level := (s.src d.source).level, flags := flags, time := s.now, fraction := fraction })) true

/-- A detection that the device makes of itself (R429). -/
def State.raise (s : State) (n detail : Nat) : State := s.detect [{ source := n, detail := detail }] 0 0

/-! H crossings (R416, R417). -/

/-- A pulse reaches an H crossing. It is delivered at once while the fabric runs; while the fabric is paused for SYSCLK it waits, and the 16th is lost. -/
def State.pulse (s : State) (c : Nat) : State :=
  let p := s.power
  if !p.pllSwitching then { s with power := { p with hTotal := p.hTotal.set zeroOf c ((p.hTotal.get zeroOf c + 1) % 65536) } }
  else if p.hPending.get zeroOf c < 15 then { s with power := { p with hPending := p.hPending.set zeroOf c (p.hPending.get zeroOf c + 1) } }
  else (({ s with power := { p with xovr := setBit p.xovr (c - 1) true } }).logFault { cls := 0x41, outcome := 0, escalated := true, detail := c }).raise 28 c

end Sys2Proof.Machine
end

