-- ==== Sys2Proof/Machine/Link.lean ====
section
/-! DEFINITION. Frames of the Mahano link: commands, answers and data blocks with their checks (R317, R320). -/

namespace Sys2Proof.Machine

/-- The `n` low bits of a number, most significant first. -/
def bitsDown (n v : Nat) : List Bool := (List.range n).map (fun i => v.testBit (n - 1 - i))

/-- CRC7, x^7 + x^3 + 1 from 0, over bits in the order sent (R317). -/
def crc7 (l : List Bool) : BitVec 7 := l.foldl (fun c b => (c <<< 1) ^^^ (if c.msb != b then 0x09 else 0)) 0

/-- CRC16, x^16 + x^12 + x^5 + 1 from 0 (R320). -/
def crc16 (l : List Bool) : BitVec 16 := l.foldl (fun c b => (c <<< 1) ^^^ (if c.msb != b then 0x1021 else 0)) 0

/-! Commands and answers (R317). -/

/-- A frame of `n` bits before its CRC7, with the CRC7 over its `k` lowest and the end bit. -/
def frameOf (k body : Nat) : Nat := body * 256 + (crc7 (bitsDown k body)).toNat * 2 + 1

/-- A command frame. -/
def commandFrame (index arg : Nat) : BitVec 48 := BitVec.ofNat 48 (frameOf 40 (2 ^ 38 + index % 64 * 2 ^ 32 + arg % 2 ^ 32))

/-- A short answer. -/
def shortAnswer (index : Nat) (payload : BitVec 32) : BitVec 48 := BitVec.ofNat 48 (frameOf 40 (index % 64 * 2 ^ 32 + payload.toNat))

/-- A long answer. -/
def longAnswer (payload : BitVec 120) : BitVec 136 := BitVec.ofNat 136 ((0x3F * 2 ^ 120 + payload.toNat) * 256 + (crc7 (bitsDown 120 payload.toNat)).toNat * 2 + 1)

/-- The payload of a short answer to a command; none for a frame that is not one or fails its CRC7. -/
def shortPayload (index : Nat) (f : BitVec 48) : Option (BitVec 32) :=
  let p := BitVec.ofNat 32 (f.toNat / 256)
  if f = shortAnswer index p then some p else none

/-- The payload of a long answer. -/
def longPayload (f : BitVec 136) : Option (BitVec 120) :=
  let p := BitVec.ofNat 120 (f.toNat / 256)
  if f = longAnswer p then some p else none

/-! Data blocks (R320). -/

/-- The data lines of a mode (R323). -/
def lineCount (mode : Nat) : Nat := if mode = 0 then 1 else if mode ≤ 2 then 4 else 8

/-- The data bits that each of `w` lines carries for a block, D0 first. -/
def lineData (w : Nat) (b : Bytes) : List (List Bool) :=
  match w with
  | 8 => (List.range 8).map (fun j => b.map (fun x => x.getLsbD j))
  | 4 => (List.range 4).map (fun j => b.flatMap (fun x => [x.getLsbD (4 + j), x.getLsbD j]))
  | _ => [b.flatMap (fun x => (List.range 8).map (fun i => x.getLsbD (7 - i)))]

/-- What a line sends: start bit, data, CRC16, end bit. -/
def lineFrame (d : List Bool) : List Bool := false :: (d ++ bitsDown 16 (crc16 d).toNat ++ [true])

/-- A block on its lines. -/
def blockLines (w : Nat) (b : Bytes) : LineBits := (lineData w b).map lineFrame

/-- The data of a line that carries `n` data bits; none where its start bit, CRC16 or end bit fails. -/
def lineRead (n : Nat) (l : List Bool) : Option (List Bool) :=
  let d := (l.drop 1).take n
  if d.length = n ∧ l = lineFrame d then some d else none

/-- Bit `k` of byte `i` of a block, from the data bits of its lines. -/
def lineBit (w : Nat) (d : List (List Bool)) (i k : Nat) : Bool :=
  match w with
  | 8 => (d.getD k []).getD i false
  | 4 => (d.getD (k % 4) []).getD (2 * i + (1 - k / 4)) false
  | _ => (d.getD 0 []).getD (8 * i + (7 - k)) false

/-- A byte from its bits. -/
def byteOf (f : Nat → Bool) : Byte := BitVec.ofNat 8 (((List.range 8).map (fun k => if f k then 2 ^ k else 0)).sum)

/-- The bytes of a block of `len` bytes from its lines; none where a line fails. -/
def blockRead (w len : Nat) (l : LineBits) : Option Bytes :=
  let d := l.filterMap (lineRead (8 * len / w))
  if l.length = w ∧ d.length = w then some ((List.range len).map (fun i => byteOf (lineBit w d i))) else none

/-- Every block of a list. -/
def blocksRead (w len : Nat) (l : List LineBits) : Option (List Bytes) :=
  let d := l.filterMap (blockRead w len)
  if d.length = l.length then some d else none

end Sys2Proof.Machine
end

