-- ==== Sys2Proof/Machine/Readout.lean ====
section
/-! DEFINITION. The readouts: sealed and clear entries, tab status, proofs of absence, ledger, key records and logs (R52, R124, R144 to R151, R249, R286, R369, R433). -/

namespace Sys2Proof.Machine

/-- One whole item of a readout (R52): its bytes, and the value SEQUENCE takes once it is delivered. `tail` is the bundle that follows it where it is the last
item delivered of its covering tick, and `more` says that another item of that tick comes after it (R146). -/
structure OutItem where
  bytes : Bytes
  seq : Nat
  tail : Bytes := []
  more : Bool := false
deriving DecidableEq, Repr

/-- How a readout ends where its destination holds everything: a status, and TRUNCATED. -/
structure OutEnd where
  status : Nat := 0
  truncated : Bool := false
deriving DecidableEq, Repr

/-- The items that fit, in order. The last item delivered of a tick carries the tick's bundle, which must fit with it. -/
def fitItems : Nat → List OutItem → List OutItem
  | _, [] => []
  | cap, i :: r =>
    let rest := if i.more ∧ i.bytes.length ≤ cap then fitItems (cap - i.bytes.length) r else []
    let closed : OutItem := { bytes := i.bytes ++ i.tail, seq := i.seq }
    if rest ≠ [] then i :: rest
    else if closed.bytes.length ≤ cap then (if i.more then [closed] else closed :: fitItems (cap - closed.bytes.length) r)
    else []

/-- The destination of an admitted readout, or its end with BAD_TICKET; nothing while the port cannot master writes. -/
def State.withDest (s : State) (t : Tk) (a : TkArg) (o : ObjRead) (f : State → List Extent → State) : State :=
  let p := s.port (s.ring t.ring).port.val
  if !p.bme || p.d3hot then s
  else
    let s1 := s.aer (s.portOf t) [o.basket]
    match t.tk.extents o.basket with
    | some es => f s1 es
    | none => s1.finishWith t 0x10 a.us

/-- Write bytes to a destination; a link that is down loses them (R66). -/
def State.writeOut (s : State) (t : Tk) (es : List Extent) (b : Bytes) : State :=
  let p := (s.ring t.ring).port.val
  if (s.port p).link.l0 then { s with host := { s.host with out := s.host.out ++ scatter p es b } } else s

/-- Deliver a readout and post its receipt (R52). -/
def State.deliver (s : State) (t : Tk) (a : TkArg) (es : List Extent) (items : List OutItem) (e : OutEnd) : State :=
  let fit := fitItems (extentsLen es) items
  let b := (fit.map OutItem.bytes).flatten
  let last := (fit.getLast?.map OutItem.seq).getD 0
  if fit.length < items.length ∧ fit = [] then s.finishWith t 0x12 a.us
  else
    let cut := decide (fit.length < items.length)
    let st := if cut then 0 else e.status
    (s.writeOut t es b).finish t { t.receipt st with flags := 8 * b2n (cut || (e.truncated && decide (st = 0))), seq := last, result := sat 32 b.length } a.us

/-! READ_SEALED of a tab (R146, R281, R286). -/

/-- The kept entries of a span, in sequence order; reclaimed ones are passed over. -/
def State.span (s : State) (t first count : Nat) : List Entry :=
  s.tabs.entries.filter (fun e => e.hdr.tab == t && !e.recordOnly && decide (first ≤ e.hdr.seq) && decide (e.hdr.seq < first + count))

/-- Chain record and ciphertext items of an entry. -/
def sealedItems (e : Entry) (content : Nat) : Bytes :=
  (if bit content 1 then item 2 0 e.hdr.seq e.record else []) ++ (if bit content 0 && e.hdr.stored then item 1 0 e.hdr.seq e.cipher else [])

/-- Entries of one covering tick stand together. -/
def tickRuns : List Entry → List (List Entry)
  | [] => []
  | e :: r =>
    match tickRuns r with
    | (n :: g) :: gs => if n.commitTick = e.commitTick then (e :: n :: g) :: gs else [e] :: (n :: g) :: gs
    | _ => [[e]]

/-- The items of one tick's entries: records and ciphertexts, with the bundle for whichever of them is delivered last. -/
def runItems (content : Nat) (tail : Bytes) : List Entry → List OutItem
  | [] => []
  | e :: r => { bytes := sealedItems e content, seq := e.hdr.seq, tail := tail, more := !r.isEmpty } :: runItems content tail r

/-- The items of READ_SEALED over the entries of a span, tick by tick, and how they end. Each covering tick's run is checked before anything of it is delivered. -/
def State.sealedGo (s : State) (t content : Nat) : List (List Entry) → List OutItem × OutEnd
  | [] => ([], {})
  | [] :: rs => s.sealedGo t content rs
  | (e :: g) :: rs =>
    let tick := e.commitTick
    let start := e.hdr.seq
    let good := (e :: g).takeWhile (fun x => !x.lost)
    if bit content 2 && !s.covered tick then ([], { truncated := true })
    else match s.checkRun t tick start (bit content 2) with
      | .media => ([], { status := 0x20 })
      | .proof => ([], { status := 0x21 })
      | .ok =>
        let tail := if bit content 2 then ((s.entryBundle t tick start 1 (s.runFrom t tick start) [] []).map (fun b => item 3 0 start b.bytes)).getD [] else []
        if good.length < (e :: g).length then (runItems content tail good, { status := 0x20 })
        else
          let rest := s.sealedGo t content rs
          (runItems content tail good ++ rest.1, rest.2)

/-- Does an item hold anything? -/
def OutItem.some_ (i : OutItem) : Bool := decide (i.bytes ≠ []) || decide (i.tail ≠ [])

/-- A readout that builds bundles waits until the covering records are durable; in LOCKDOWN it stops instead (R146). -/
def State.mustAwait (s : State) (bundles : Bool) (es : List Entry) : Bool := bundles && s.power.mode != .lockdown && es.any (fun e => !e.lost && !s.covered e.commitTick)

def State.readSealed (s : State) (a : TkArg) (o : ObjRead) : State :=
  s.withTk a 0x20 (fun t =>
    let c := t.tk.op 60 1
    if t.tk.tab < Config.tabs ∧ 1 ≤ c ∧ c ≤ 7 then
      let es := s.span t.tk.tab (t.tk.op 48 8) (t.tk.op 56 4)
      if s.mustAwait (bit c 2) es then s
      else s.withDest t a o (fun s d =>
        let r := s.sealedGo t.tk.tab c (tickRuns es)
        s.deliver t a d (r.1.filter OutItem.some_) r.2)
    else s)

/-- READ_SEALED (R146). -/
def execReadSealed (a : TkArg) (obj : ObjRead) (s : State) : Host.Outcome State Fault Refusal := .next (s.readSealed a obj)

/-! Tab status (R124). -/

/-- Occupied reorder-window slots. -/
def State.inFlight (s : State) (n : Nat) : Nat := s.host.tickets.countP (fun t => t.tabTok && t.tab == some n && t.stage != .done)

/-- The status record of a tab. -/
def State.statusRecord (s : State) (n : Nat) : Bytes :=
  let c := s.tab n
  leBytes 4 n ++ leBytes 1 (b2n c.isOpen + 2 * b2n (decide (0 < s.holdCount n)) + 4 * b2n (decide (c.uploaded < c.sealed)) + 8 * b2n c.auto + 16 * b2n c.closing) ++
    leBytes 1 c.group ++ leBytes 2 c.template ++ leBytes 8 c.source.toNat ++ leBytes 8 c.nextSeq ++ leBytes 8 c.sealed ++ leBytes 8 c.durable ++ leBytes 8 c.uploaded ++
    leBytes 2 c.ring ++ leBytes 2 c.affinity ++ leBytes 4 (s.holdCount n) ++ leBytes 4 (s.inFlight n) ++ leBytes 4 c.lastTick

/-- The tab-status read: its items carry no sequence number, and SEQUENCE of the receipt takes the number of the last tab delivered (DESIGN CHOICE, log 100). -/
def State.tabStatus (s : State) (a : TkArg) (o : ObjRead) : State :=
  s.withTk a 0x20 (fun t =>
    if t.tk.tab < Config.tabs ∧ t.tk.op 60 1 = 0 then
      s.withDest t a o (fun s d => s.deliver t a d ((List.range (t.tk.op 56 4)).map (fun i => { bytes := s.statusRecord (t.tk.tab + i), seq := t.tk.tab + i })) {})
    else s)

/-- TAB_STATUS_READ (R124). -/
def execTabStatusRead (a : TkArg) (obj : ObjRead) (s : State) : Host.Outcome State Fault Refusal := .next (s.tabStatus a obj)

/-! Presence and absence by tick (R147). -/

/-- The item of one durable tick, or none where a link of it fails. -/
def State.absenceItem (s : State) (t tick : Nat) : Option OutItem :=
  let gone : OutItem := { bytes := item 6 1 tick [], seq := tick }
  match s.record? tick with
  | none => some gone
  | some r =>
    if r.sheetGone then some gone
    else if r.heads.any (fun p => p.1 == t) then
      let run := s.entriesOf t tick
      match run.head? with
      | none => some gone
      | some e =>
        match s.checkRun t tick e.hdr.seq true with
        | .media => some gone
        | .proof => none
        | .ok => some (match s.entryBundle t tick e.hdr.seq 1 run [] [] with
          | some b => { bytes := item 3 0 e.hdr.seq b.bytes, seq := tick }
          | none => gone)
    else if r.leafHolds t (absent t tick) && s.checkRecord r && s.checkLink r then some { bytes := item 3 0 tick (s.absenceBundle t r).bytes, seq := tick }
    else none

/-- The ticks a ledger or absence read delivers, and whether it stops at one that is not durable. -/
def State.tickSpan (s : State) (first count : Nat) : List Nat × Bool :=
  ((List.range (min count (s.ledger.durableTick + 1 - first))).map (fun i => first + i), decide (s.ledger.durableTick < first + count - 1))

/-- Items tick by tick, up to the first that fails a link (R58). -/
def proofRun (f : Nat → Option OutItem) : List Nat → List OutItem × Bool
  | [] => ([], false)
  | n :: r =>
    match f n with
    | some i => let q := proofRun f r; (i :: q.1, q.2)
    | none => ([], true)

/-- How a read over ticks ends: a failed link, or the first tick that is not durable. -/
def tickEndOf (failed truncated : Bool) : OutEnd := if failed then { status := 0x21 } else { truncated := truncated }

def State.absenceRead (s : State) (a : TkArg) (o : ObjRead) : State :=
  s.withTk a 0x20 (fun t =>
    if t.tk.tab < Config.tabs ∧ t.tk.op 60 1 = 8 then
      s.withDest t a o (fun s d =>
        let p := s.tickSpan (t.tk.op 48 8) (t.tk.op 56 4)
        let q := proofRun (s.absenceItem t.tk.tab) p.1
        s.deliver t a d q.1 (tickEndOf q.2 p.2))
    else s)

/-- ABSENCE_PROOF_READ (R147). -/
def execAbsenceProofRead (a : TkArg) (obj : ObjRead) (s : State) : Host.Outcome State Fault Refusal := .next (s.absenceRead a obj)

/-! The ledger (R149). -/

/-- The record and sheet of a tick, or none where the record's signatures or its link to its predecessor fail. -/
def State.ledgerItem (s : State) (content tick : Nat) : Option OutItem :=
  match s.record? tick with
  | none => some { bytes := [], seq := tick }
  | some r =>
    if !s.checkRecord r || !s.checkLink r then none
    else some
      { bytes := (if bit content 0 then item 5 0 tick (r.bytes s.unitId) else []) ++
          (if bit content 1 then (if r.sheetGone then item 6 1 tick [] else item 6 0 tick r.sheet) else []), seq := tick }

def State.ledgerRead (s : State) (a : TkArg) (o : ObjRead) : State :=
  s.withTk a 0x20 (fun t =>
    if t.tk.tab = 0xFFFFFFFE then
      s.withDest t a o (fun s d =>
        let p := s.tickSpan (t.tk.op 48 8) (t.tk.op 56 4)
        let q := proofRun (s.ledgerItem (t.tk.op 60 1)) p.1
        s.deliver t a d q.1 (tickEndOf q.2 p.2))
    else s)

/-- LEDGER_READ (R149). -/
def execLedgerRead (a : TkArg) (obj : ObjRead) (s : State) : Host.Outcome State Fault Refusal := .next (s.ledgerRead a obj)

/-! Key records (R249). -/

/-- The 8-byte header and the padded object. -/
def keyItem (kind seq : Nat) (b : Bytes) : OutItem := { bytes := leBytes 2 kind ++ zeros 2 ++ leBytes 4 b.length ++ pad8 b, seq := seq }

/-- Consecutive objects from a number on, up to the first that is missing. -/
def keyRun (get : Nat → Option Bytes) (kind : Nat) : Nat → Nat → List OutItem × Bool
  | _, 0 => ([], false)
  | n, k + 1 =>
    match get n with
    | some b => let r := keyRun get kind (n + 1) k; (keyItem kind n b :: r.1, r.2)
    | none => ([], true)

def State.keyRead (s : State) (a : TkArg) (o : ObjRead) (kind : Nat) (f : State → Tk → List OutItem × Bool) : State :=
  s.withTk a 0x20 (fun t =>
    if t.tk.tab = 0xFFFFFFFD ∧ t.tk.op 60 1 = kind then
      s.withDest t a o (fun s d => let r := f s t; s.deliver t a d r.1 { truncated := r.2 })
    else s)

def State.wrapOf (s : State) (g n : Nat) : Option Bytes := (s.vault.wraps.find? (fun w => w.group == g && w.epoch == n && w.durable)).map Wrap.bytes
def State.certOf (s : State) (n : Nat) : Option Bytes := (s.vault.certs.find? (fun c => c.index == n && c.durable)).map SignerCert.bytes

/-- ESCROW_WRAP_READ (R249). -/
def execEscrowWrapRead (a : TkArg) (obj : ObjRead) (s : State) : Host.Outcome State Fault Refusal :=
  .next (s.keyRead a obj 1 (fun s t => keyRun (s.wrapOf (t.tk.op 52 1)) 1 (t.tk.op 48 4) (t.tk.op 56 4)))
/-- SIGNER_CERTIFICATE_READ (R249). -/
def execSignerCertificateRead (a : TkArg) (obj : ObjRead) (s : State) : Host.Outcome State Fault Refusal :=
  .next (s.keyRead a obj 2 (fun s t => keyRun s.certOf 2 (t.tk.op 48 4) (t.tk.op 56 4)))
/-- IDENTITY_CERTIFICATE_READ (R249). -/
def execIdentityCertificateRead (a : TkArg) (obj : ObjRead) (s : State) : Host.Outcome State Fault Refusal :=
  .next (s.keyRead a obj 3 (fun s _ => (s.vault.idCerts.map (keyItem 3 0), decide (s.vault.idCerts.length < 2))))

/-! The logs (R369, R433). -/

/-- A tamper log entry (R368). -/
def TamperEntry.bytes (e : TamperEntry) : Bytes :=
  leBytes 8 e.seq ++ leBytes 8 e.time ++ leBytes 2 e.fraction ++ leBytes 1 e.source ++ leBytes 1 e.level ++ leBytes 1 e.applied ++ leBytes 1 e.flags ++ leBytes 1 e.mode ++ zeros 1 ++
    leBytes 3 e.detail ++ zeros 1 ++ leBytes 4 e.tick

/-- A fault log entry (R430). -/
def FaultEntry.bytes (e : FaultEntry) : Bytes :=
  leBytes 8 e.seq ++ leBytes 8 e.time ++ leBytes 1 e.cls ++ leBytes 1 e.outcome ++ leBytes 2 e.unit ++ leBytes 2 e.count ++ leBytes 2 e.interrupt ++ leBytes 4 e.tick ++ leBytes 4 e.detail

/-- A log's written entries from the oldest kept at or above `first`, at most `count`; TRUNCATED where fewer are written. -/
def logItems (l : List OutItem) (first count : Nat) : List OutItem × Bool :=
  let k := (l.filter (fun i => decide (first ≤ i.seq))).take count
  (k, decide (k.length < count))

def State.logRead (s : State) (a : TkArg) (o : ObjRead) (tab : Nat) (l : List OutItem) : State :=
  s.withTk a 0x20 (fun t =>
    if t.tk.tab = tab then
      s.withDest t a o (fun s d => let r := logItems l (t.tk.op 48 8) (t.tk.op 56 4); s.deliver t a d r.1 { truncated := r.2 })
    else s)

/-- TAMPER_LOG_READ (R369). -/
def execTamperLogRead (a : TkArg) (obj : ObjRead) (s : State) : Host.Outcome State Fault Refusal :=
  .next (s.logRead a obj 0xFFFFFFFC (s.tamper.log.map (fun e => { bytes := e.bytes, seq := e.seq })))
/-- FAULT_LOG_READ (R433). -/
def execFaultLogRead (a : TkArg) (obj : ObjRead) (s : State) : Host.Outcome State Fault Refusal :=
  .next (s.logRead a obj 0xFFFFFFFB (s.fault.log.map (fun e => { bytes := e.bytes, seq := e.seq })))

/-! READ_CLEAR (R18, R146). -/

/-- The key that opens an entry's ciphertext for the host: none where the entry is withheld (R18). -/
def State.openKey (s : State) (e : Entry) : Option Bytes :=
  match s.epochKey? e.hdr.group e.hdr.epoch with
  | some k => if k.state = .deferred ∧ ¬ s.heldAt e.hdr.tab e.commitTick then none else some k.key
  | none => none

/-- The key of an entry that is opened enters the working set (R247). -/
def State.useEntryKey (s : State) (e : Entry) : State := if e.hdr.stored ∧ (s.openKey e).isSome then s.useKey e.hdr.group e.hdr.epoch else s

/-- The clear segment of an entry: none where the tag fails. -/
def clearOf (key : Bytes) (e : Entry) : Option Bytes :=
  let n := e.cipher.length - 16
  aesGcmDec key (gcmNonce e.hdr.tab e.hdr.seq) e.hdr.bytes (e.cipher.take n) (e.cipher.drop n)

/-- The frame marks that split a clear segment so that its tree has the header's root. The marks stand with the till's result; the tree over them is checked (R12). -/
def framesMatch (data : Bytes) (marks : List Nat) (h : Header) : Bool :=
  decide (marks.length = h.frameCount) && decide (mth (frameLeaves data marks) = h.frameRoot)

/-- What READ_CLEAR writes for one entry, or why it cannot. -/
inductive ClearOut where
  | out (b : Bytes)
  | withheld
  | notDurable
  | media
  | proof
deriving DecidableEq, Repr

/-- Items of one entry: frames by the selector, then its bundle. Its links are checked before any of it is delivered. -/
def State.clearEntry (s : State) (content sel : Nat) (e : Entry) : ClearOut :=
  let t := e.hdr.tab
  let key := s.openKey e
  if e.lost then .media
  else if e.hdr.stored && key.isNone then .withheld
  else if bit content 2 && !s.covered e.commitTick then .notDurable
  else match s.checkRun t e.commitTick e.hdr.seq (bit content 2) with
  | .media => .media
  | .proof => .proof
  | .ok =>
    let data := if e.hdr.stored then key.bind (fun k => clearOf k e) else some []
    match data with
    | none => .proof
    | some d =>
      let frames := framesOf d.length e.marks
      let leaves := frameLeaves d e.marks
      let hasFrames := e.hdr.stored && (decide (sel = 0) || decide (sel ≤ frames.length))
      if e.hdr.stored && decide (e.hdr.frameCount ≠ 0) && !framesMatch d e.marks e.hdr then .proof
      else
        let body := if sel = 0 then d else let f := frames.getD (sel - 1) (0, 0); slice d f.1 f.2
        let fi := if bit content 0 && hasFrames then item 4 0 e.hdr.seq body else []
        if !bit content 2 then .out fi
        else
          let run := s.runFrom t e.commitTick e.hdr.seq
          let kind := if hasFrames && decide (e.hdr.frameCount ≠ 0) then (if sel = 0 then 4 else 2) else 1
          let lv := if kind = 4 then leaves else if kind = 2 then [leaves.getD (sel - 1) []] else []
          let path := if kind = 2 then mthPath (sel - 1) leaves else []
          match s.entryBundle t e.commitTick e.hdr.seq kind run lv path with
          | some b => .out (fi ++ item 3 0 e.hdr.seq b.bytes)
          | none => .media

/-- The items of READ_CLEAR; `first` says that nothing has been delivered yet. An entry without ciphertext that yields no item (content bit 0 only) counts as
delivered: a withheld entry after it ends the ticket OK with TRUNCATED (DESIGN CHOICE, log 105). -/
def State.clearGo (s : State) (content sel : Nat) : Bool → List Entry → List OutItem × OutEnd
  | _, [] => ([], {})
  | first, e :: r =>
    match s.clearEntry content sel e with
    | .out b => let rest := s.clearGo content sel false r; ({ bytes := b, seq := e.hdr.seq } :: rest.1, rest.2)
    | .withheld => ([], if first then { status := 0x13 } else { truncated := true })
    | .notDurable => ([], { truncated := true })
    | .media => ([], { status := 0x20 })
    | .proof => ([], { status := 0x21 })

def State.readClear (s : State) (a : TkArg) (o : ObjRead) : State :=
  s.withTk a 0x21 (fun t =>
    let c := t.tk.op 60 1
    let es := s.span t.tk.tab (t.tk.op 48 8) (t.tk.op 56 4)
    if s.mustAwait (bit c 2) es then s
    else s.withDest t a o (fun s d =>
      let r := s.clearGo c (t.tk.op 62 2) true es
      ((es.take r.1.length).foldl State.useEntryKey s).deliver t a d (r.1.filter (fun i => i.bytes ≠ [])) r.2))

/-- READ_CLEAR (R146). -/
def execReadClear (a : TkArg) (obj : ObjRead) (s : State) : Host.Outcome State Fault Refusal := .next (s.readClear a obj)

end Sys2Proof.Machine
end

