-- ==== Sys2Proof/Machine/CartOps.lean ====
section
/-! DEFINITION. Shared operations on cartridges, cards and sessions: manifests, RPA requests, the session stream, parts, head-less status (chapter 13). -/

namespace Sys2Proof.Machine

/-! Manifests and headers (R341, R343, R345). -/

def mfState (b : Bytes) : Nat := fld b 6 1
def mfPart (b : Bytes) : Nat := fld b 7 1
def mfSession (b : Bytes) : Nat := fld b 8 4

/-- The manifest names a session of this device and owner generation. -/
def State.mfOurs (s : State) (b : Bytes) : Bool := decide (slice b 0 4 = [0x4D, 0x48, 0x4E, 0x58]) && decide (slice b 16 16 = s.unitId) && decide (fld b 13 1 = s.lifeCount)

/-- Blank (R341): all zeros, or an abandoned session, or a closed part whose session has since gone on to another cartridge. -/
def State.blankMf (s : State) (b : Bytes) : Bool :=
  allZero b || (s.mfOurs b && (s.boards.abandoned.contains (mfSession b) || (decide (mfState b = 2) && s.boards.continued.contains (mfSession b, mfPart b))))

def State.slotBlank (s : State) (n : Nat) : Bool := (s.slot n).manifest.any s.blankMf

/-- The open session whose part stands in a slot. -/
def State.sessionOn (s : State) (n : Nat) : Option Session := s.boards.sessions.find? (fun x => x.state == .opened && x.slot == n)

/-- A slot that takes commands: READY, or asleep, from which the device wakes it (R328). -/
def Slot.usable (c : Slot) : Bool := c.state == .ready || c.state == .sleep

/-- The device issues link commands: started, no supply warning, the fabric running (R352). -/
def State.linkRuns (s : State) : Bool := s.dev.ready && !s.power.warn && !s.power.pllSwitching

/-- Wake a slot for use (R328). -/
def State.rouse (s : State) (n : Nat) : State :=
  let c := s.slot n
  s.setSlot n { c with ck := true, cmd := if c.link = .sleep then commandFrame 41 0 else c.cmd, state := if c.state = .sleep then .ready else c.state, link := if c.link = .sleep then .transfer else c.link }

/-- The slot and the 512-byte blocks of a write, in order (R320, R332, R343). -/
def CartWrite.slot : CartWrite → Nat
  | .unit n _ _ => n | .rpa n _ => n | .pair n _ => n
def CartWrite.blocks : CartWrite → List Bytes
  | .unit _ _ b => (List.range (ceilDiv b.length 512)).map (fun i => fitTo 512 (slice b (512 * i) 512))
  | .rpa _ l => l
  | .pair _ b => [b]

/-- Write to a cartridge: each block goes out on the lines of its slot's mode. -/
def State.cartOut (s : State) (w : CartWrite) : State :=
  let c := s.slot w.slot
  State.setSlot { s with boards := { s.boards with out := s.boards.out ++ [w] } } w.slot { c with lines := blockLines (lineCount c.mode) (w.blocks.getLastD []) }

/-! Identity (R319). -/

/-- The READ_IDENT answer in its fields. -/
def identOf (v : BitVec 120) : CartIdent :=
  let n := v.toNat
  { maker := bits n 104 16, serial := bits n 40 64, gen := bits n 36 4, modes := bits n 32 4, capacityGib := bits n 8 24, atomicLog2 := bits n 4 4 }

/-- GEN, MODES and ATOMIC_LOG2 form one of the two columns. -/
def CartIdent.known (i : CartIdent) : Bool := (decide (i.gen = 2) && decide (i.modes = 7) && decide (i.atomicLog2 = 4)) || (decide (i.gen = 1) && decide (i.modes = 1) && decide (i.atomicLog2 = 0))

def Slot.gen (c : Slot) : Nat := match c.ident with | some i => i.gen | none => 0
def Slot.maker (c : Slot) : Nat := match c.ident with | some i => i.maker | none => 0
def Slot.serial (c : Slot) : Nat := match c.ident with | some i => i.serial | none => 0
/-- Stream units that fit beside unit 0 in the general area. -/
def Slot.room (c : Slot) : Nat := match c.ident with | some i => i.capacityGib * 65536 - 1 | none => 0

/-- The pairing key of the cartridge in a slot (R331). -/
def State.cartKey (s : State) (n : Nat) : Option Bytes :=
  let c := s.slot n
  (s.vault.pairing.find? (fun p => p.maker == c.maker && p.serial == c.serial)).map PairKey.key

/-- The vault holds the cartridge's key and a counter read under it has verified (R331). -/
def State.enrolled (s : State) (n : Nat) : Bool := (s.slot n).enrolled && (s.cartKey n).isSome

/-! RPA frames (R332, R333). A request field that its operation does not use is 0 (log 60). -/

/-- Bytes 0 to 479 of a frame. -/
def rpaPart (data nonce : Bytes) (counter addr count type : Nat) : Bytes :=
  fitTo 256 data ++ fitTo 16 nonce ++ leBytes 4 counter ++ leBytes 4 addr ++ leBytes 2 count ++ zeros 2 ++ leBytes 2 type ++ zeros 194

def rpaMac (key : Bytes) (parts : List Bytes) : Bytes := hmacSha256 key parts.flatten

/-- The frames of one operation, the MAC in the last. -/
def rpaFrames (key : Bytes) (parts : List Bytes) : List Bytes := parts.dropLast.map (fun p => p ++ zeros 32) ++ (match parts.getLast? with | some p => [p ++ rpaMac key parts] | none => [])

/-- Does a response verify: its frames whole, of one TYPE, with the request's NONCE and the MAC? -/
def rpaVerify (key nonce : Bytes) (type : Nat) (frames : List Bytes) : Bool :=
  decide (frames ≠ []) && frames.all (fun f => decide (f.length = 512) && decide (slice f 256 16 = nonce) && decide (fld f 284 2 = type)) &&
    decide (frames.getLast?.map (fun f => f.drop 480) = some (rpaMac key (frames.map (fun f => f.take 480))))

/-- The RESULT is OK in every frame. -/
def rpaOk (frames : List Bytes) : Bool := frames.all (fun f => decide (fld f 282 2 = 0))

/-- Send an RPA write and its RESULT_READ; the write is under way until its response is read. -/
def State.rpaSend (s : State) (n addr : Nat) (units : List Bytes) : State :=
  match s.cartKey n with
  | none => s
  | some key =>
    let c := s.slot n
    let nonce := s.drawBytes 16
    let ask := (s.drewBytes 16).drawBytes 16
    let parts := units.map (fun u => rpaPart u nonce c.rpaCounter addr units.length 2)
    let s1 := ((s.drewBytes 32).cartOut (.rpa n (rpaFrames key parts))).cartOut (.rpa n (rpaFrames key [rpaPart [] ask 0 0 0 4]))
    s1.setSlot n { s1.slot n with rpaMac := rpaMac key parts, rpaSent := units, rpaNonce := ask, rpaWriting := true, rpaAddr := addr, rpaMaker := c.maker, rpaSerial := c.serial }

/-- The write under way has happened: the counter is one up, and what was written to the manifest is known. -/
def State.rpaDone (s : State) (n : Nat) : State :=
  let c := s.slot n
  s.setSlot n { c with rpaCounter := c.rpaCounter + 1, rpaWriting := false, manifest := if c.rpaAddr = 0 ∧ c.rpaSent.length = 16 then some c.rpaSent.flatten else c.manifest }

/-- A whole RPA write. -/
def State.rpaWrite (s : State) (n addr : Nat) (units : List Bytes) : State := if (s.cartKey n).isSome then (s.rpaSend n addr units).rpaDone n else s

/-- Cut bytes into pieces of `k`, the last padded with zeros; `fuel` bounds the pieces. -/
def pieces (k : Nat) : Nat → Bytes → List Bytes
  | 0, _ => []
  | _, [] => []
  | f + 1, b => fitTo k b :: pieces k f (b.drop k)

/-- Groups of at most 16. -/
def groups16 : Nat → List Bytes → List (List Bytes)
  | 0, _ => []
  | _, [] => []
  | f + 1, l => l.take 16 :: groups16 f (l.drop 16)

def ExpRange.bytes (r : ExpRange) : Bytes := leBytes 4 r.tab ++ leBytes 8 r.first ++ leBytes 4 r.count

/-- Write the ranges to RPA units 16 onwards (R342). -/
def State.writeRanges (s : State) (n : Nat) (rs : List ExpRange) : State :=
  let us := pieces 256 rs.length (rs.map ExpRange.bytes).flatten
  let gs := groups16 us.length us
  (List.range gs.length).foldl (fun s i => s.rpaWrite n (16 + 16 * i) (gs.getD i [])) s

/-! The stream (R344). -/

/-- What one entry puts into the stream. -/
structure StreamItem where
  range : Nat
  seq : Nat
  bytes : Bytes
  items : Nat
deriving DecidableEq, Repr

/-- The entries of a range that the stream takes: retained ones up to the last tick of the hold. Lost entries are passed over (log 61). -/
def State.exported (s : State) (last : Nat) (r : ExpRange) : List Entry := (s.span r.tab r.first r.count).filter (fun e => !e.lost && decide (e.commitTick ≤ last))

def State.exportGo (s : State) (content idx t : Nat) : Option Nat → List Entry → List StreamItem
  | _, [] => []
  | start, e :: r =>
    let from_ := start.getD e.hdr.seq
    let lastOfTick := match r with | n :: _ => decide (n.commitTick ≠ e.commitTick) | [] => true
    let ct := bit content 0 && e.hdr.stored
    let own := item 2 0 e.hdr.seq e.record ++ (if ct then item 1 0 e.hdr.seq e.cipher else [])
    let bundle := if bit content 1 && lastOfTick && s.checkRun t e.commitTick from_ true == .ok then s.entryBundle t e.commitTick from_ 1 (s.runFrom t e.commitTick from_) [] [] else none
    match bundle with
    | some b => { range := idx, seq := e.hdr.seq, bytes := own ++ item 3 0 from_ b.bytes, items := 2 + b2n ct } :: s.exportGo content idx t none r
    | none => { range := idx, seq := e.hdr.seq, bytes := own, items := 1 + b2n ct } :: s.exportGo content idx t (if lastOfTick then none else some from_) r

/-- The hold of a session: its last tick. -/
def State.holdLast (s : State) (x : Session) : Nat := match s.tabs.holds.find? (fun h => h.id == x.hold) with | some h => h.last | none => 0

def State.streamItems (s : State) (x : Session) : List StreamItem :=
  (List.range x.ranges.length).flatMap (fun i =>
    match x.ranges[i]? with
    | some r => s.exportGo x.content i r.tab none (s.exported (s.holdLast x) r)
    | none => [])

/-- The key items of CONTENT bit 2. -/
def State.streamKeys (s : State) (x : Session) : List Bytes :=
  let es := x.ranges.flatMap (s.exported (s.holdLast x))
  let wraps := (List.range 64).flatMap (fun g => s.vault.wraps.filter (fun w => w.group == g && w.durable && es.any (fun e => e.hdr.stored && e.hdr.group == g && e.hdr.epoch == w.epoch)))
  let ids := if bit x.content 1 then es.filterMap (fun e => (s.record? e.commitTick).map TickRecord.signerId) else []
  let certs := s.vault.certs.filter (fun c => c.durable && ids.contains (sha384 (slice c.bytes 80 2048)))
  wraps.map (fun w => item 16 w.group w.epoch w.bytes) ++ certs.map (fun c => item 17 0 c.index c.bytes) ++
    (List.range s.vault.idCerts.length).map (fun i => item 18 0 (i + 1) (s.vault.idCerts.getD i []))

/-- The whole stream, without the padding of the last unit. The stream-end item has KEY 0 (log 62). -/
def State.stream (s : State) (x : Session) : Bytes :=
  let l := s.streamItems x
  let keys := if bit x.content 2 then s.streamKeys x else []
  (l.map StreamItem.bytes).flatten ++ keys.flatten ++ item 19 0 0 (leBytes 8 l.length ++ leBytes 8 ((l.map StreamItem.items).sum + keys.length))

/-- Stream unit `u` ≥ 1 of the current part. -/
def State.unitData (s : State) (x : Session) (u : Nat) : Bytes := fitTo 16384 (slice (s.stream x) (x.offset + (u - 1) * 16384) 16384)

/-- s_k of the part (R343). -/
def State.partHash (s : State) (x : Session) (k : Nat) : Bytes := (List.range k).foldl (fun h i => sha384 (h ++ s.unitData x (i + 1))) (zeros 48)

/-- Stream bytes confirmed, and the per cent of the stream (R351, R353). -/
def State.streamPos (s : State) (x : Session) : Nat := min (s.stream x).length (x.offset + x.confirmed * 16384)
def State.percent (s : State) (x : Session) : Nat := 100 * s.streamPos x / max 1 (s.stream x).length

/-- Range, entry and bytes of its items already written, at stream byte `pos`: the entry that holds the byte before it, or the last one (log 63). -/
def resumeAt : Nat → Nat → Nat × Nat × Nat → List StreamItem → Nat × Nat × Nat
  | _, _, b, [] => b
  | pos, start, b, i :: r =>
    if pos ≤ start then b else resumeAt pos (start + i.bytes.length) (i.range, i.seq, min i.bytes.length (pos - start)) r

/-! Parts (R342, R343, R345, R346, R348). -/

/-- Header values of the current part: state 1 OPEN, 2 CLOSED, 3 ABANDONED. -/
def State.partHeader (s : State) (x : Session) (st : Nat) (closed : Nat) (cont : Bool) : Bytes :=
  [0x4D, 0x48, 0x4E, 0x58] ++ leBytes 2 1 ++ leBytes 1 st ++ leBytes 1 x.part ++ leBytes 4 x.id ++ leBytes 1 (1 + b2n x.headless) ++ leBytes 1 s.lifeCount ++ leBytes 1 (b2n cont) ++ zeros 1 ++
    fitTo 16 s.unitId ++ leBytes 8 x.started ++ leBytes 8 closed ++ leBytes 4 x.confirmed ++ zeros 4 ++ leBytes 8 x.offset ++ s.partHash x x.confirmed ++ fitTo 16 x.operatorId ++ fitTo 48 x.certHash ++ zeros 336

/-- The manifest, 4,096 bytes. -/
def State.manifestOf (s : State) (x : Session) (st : Nat) (closed : Nat) (cont : Bool) : Bytes :=
  let r := resumeAt (s.streamPos x) 0 (0, 0, 0) (s.streamItems x)
  s.partHeader x st closed cont ++ leBytes 4 x.ranges.length ++ leBytes 4 r.1 ++ leBytes 8 r.2.1 ++ leBytes 4 r.2.2 ++ leBytes 1 x.content ++ zeros 3 ++
    (if x.confirmed = 0 then zeros 48 else sha384 (s.unitData x x.confirmed)) ++ zeros 3512

def State.writeManifest (s : State) (n : Nat) (b : Bytes) : State := s.rpaWrite n 0 (pieces 256 16 b)

/-- Write unit 0 and the manifest. -/
def State.writePart (s : State) (x : Session) (st : Nat) (closed : Nat) (cont : Bool) : State :=
  (s.cartOut (.unit x.slot 0 (fitTo 16384 (s.partHeader x st closed cont)))).writeManifest x.slot (s.manifestOf x st closed cont)

def State.putSession (s : State) (x : Session) : State := { s with boards := { s.boards with sessions := s.boards.sessions.map (fun y => if y.id = x.id then x else y) } }

/-- Open the session's current part on a slot: header, ranges, manifest with STATE OPEN. -/
def State.openPart (s : State) (x : Session) (n : Nat) : State :=
  let c := s.slot n
  let y := { x with state := .opened, slot := n, maker := c.maker, serial := c.serial, needNext := false, removedAt := none, started := s.now, confirmed := 0, recent := [], checkpoint := 0 }
  let s1 := (s.rouse n).putSession y
  ((s1.cartOut (.unit n 0 (fitTo 16384 (s1.partHeader y 1 0 false)))).writeRanges n y.ranges).writeManifest n (s1.manifestOf y 1 0 false)

/-- A cartridge on which a part may open. -/
def State.freshSlot (s : State) (n : Nat) : Bool := (s.slot n).usable && s.enrolled n && s.slotBlank n && (s.sessionOn n).isNone

/-- A session that waits for its next part takes the lowest blank enrolled cartridge (R348); the part before it is continued (R341). -/
def State.takeNext (s : State) : State :=
  match s.boards.sessions.find? (fun x => x.needNext), (List.range 4).find? s.freshSlot with
  | some x, some n =>
    if !s.linkRuns || s.power.mode == .lockdown then s
    else
      let s1 := s.openPart x n
      { s1 with boards := { s1.boards with continued := s1.boards.continued ++ [(x.id, x.part - 1)] } }
  | _, _ => s

/-! The end of a session (R342, R348). -/

/-- Its hold is released with the event, and the registers keep what they showed. -/
def State.endSession (s : State) (x : Session) (st : SessState) : State :=
  let s1 := { s with tabs := { s.tabs with holds := s.tabs.holds.filter (fun h => h.id != x.hold) } }.addEvent 7 (leBytes 4 x.hold ++ zeros 4)
  { s1 with boards := { s1.boards with sessions := s1.boards.sessions.filter (fun y => y.id != x.id)
                                       shownId := x.id, shownState := st, shownPart := x.part, shownSlot := x.slot, shownPercent := s.percent x } }

/-- Abandon a session: a present part gets STATE 3 in unit 0 and in the manifest. -/
def State.abandonSession (s : State) (x : Session) : State :=
  let s1 := if x.state = .opened then (s.rouse x.slot).writePart x 3 0 false else s
  let s2 := s1.endSession x .abandoned
  ({ s2 with boards := { s2.boards with abandoned := s2.boards.abandoned ++ [x.id], hx := if x.headless then 6 else s2.boards.hx } }).cartEvent 13

/-! Cards and the head-less status (R339, R350, R351). -/

/-- In LOCKDOWN, and while secure time is uncertain, no card is authorised (R339). -/
def State.cardsBarred (s : State) : Bool := s.power.mode == .lockdown || s.ledger.uncertain
def State.authorised (s : State) (i : Nat) : Bool := (s.card i).state == .authorised && !s.cardsBarred
/-- The card is authorised and has a right of R338: 0 EXPORT, 1 HEADLESS, 2 ENROL, 3 WIPE. -/
def State.hasRight (s : State) (i r : Nat) : Bool := s.authorised i && bit (s.card i).rights r

/-- The links' condition of R350. -/
def State.linksDown (s : State) : Bool :=
  (if s.host.twoPorts then [0, 1] else [0]).all (fun p => !(s.port p).link.l0 && decide ((s.port p).link.downSince + 30 * hz ≤ s.now))

/-- Head-less export is available. -/
def State.headlessOk (s : State) : Bool := s.dev.ready && s.boards.headlessEn && s.power.mode.ticking && s.boards.sessions.isEmpty && s.linksDown

/-- Codes 0 to 4 of HX_ST. -/
def State.hxBase (s : State) : Nat :=
  match s.boards.sessions.find? Session.headless with
  | some x => if x.state = .opened then 3 else 4
  | none => if !s.headlessOk then 0 else if s.hasRight 0 1 || s.hasRight 1 1 then 2 else 1

/-- HX_ST follows the condition, but for codes 5 to 7, which are held. -/
def State.settleHx (s : State) : State := if 5 ≤ s.boards.hx then s else { s with boards := { s.boards with hx := s.hxBase } }

/-- Code 7 for 5 s, where head-less export is under way or available (log 64). -/
def State.showSeven (s : State) : State :=
  let h := s.settleHx
  if h.boards.hx = 7 ∨ h.hxBase = 0 then h else { h with boards := { h.boards with hx := 7, hxBefore := h.boards.hx, hxAt := h.now } }

/-- HX_PROG (R351): milliseconds of each second for which the pin is high. -/
def State.hxProg (s : State) : Nat :=
  match s.boards.sessions.find? Session.headless with
  | some x => 10 * s.percent x
  | none => if s.boards.hx = 5 ∨ s.boards.hx = 6 then 10 * s.boards.shownPercent else 0

/-- A cartridge has left: held codes end. -/
def State.hxRemoved (s : State) : State :=
  let b := s.boards
  let clr := fun c : Nat => if c = 5 ∨ c = 6 then 0 else c
  State.settleHx { s with boards := { b with hx := clr b.hx, hxBefore := clr b.hxBefore } }

/-- The slot fails. -/
def State.slotFail (s : State) (n : Nat) : State :=
  let s1 := (s.setSlot n { s.slot n with state := .failed }).cartEvent n
  if s1.hxBase = 0 then s1.settleHx else { s1 with boards := { s1.boards with hx := 6 } }

/-! Bring-up (R323, R325, R331, R333, R334, R347, R349). -/

/-- Supply and clock on. -/
def Slot.powered (c : Slot) : Slot := { c with dschg := false, pwren := true, ck := true, drive := true }

/-- The steps of a removal: clock stopped, lines floating, supply off, then discharged (R329). -/
def Slot.unpowered (c : Slot) : Slot :=
  { c with state := .empty, ck := false, drive := false, pwren := false, dschg := true, link := .idle, mode := 0, ident := none, identified := false, count := none, status := 0
           repeats := 0, checked := false, enrolled := false, keyBlock := [], manifest := none }

/-- A torn write of the cartridge in slot `n`: the slot that keeps what was sent. -/
def State.tornSlot (s : State) (n : Nat) : Option Nat :=
  let c := s.slot n
  (List.range 4).find? (fun m => let d := s.slot m; d.rpaWriting && d.rpaMaker == c.maker && d.rpaSerial == c.serial)

/-- Settle the torn write that slot `m` keeps, on the cartridge in slot `n` (R334); `kept` is the counter kept for it. The Bool says that the cartridge can be used. -/
def State.settleRpa (s : State) (n m kept : Nat) (units : List Bytes) : State × Bool :=
  let d := s.slot m
  let now := (s.slot n).rpaCounter
  let s1 := s.setSlot m { d with rpaWriting := false }
  if !(s.enrolled n) then (s1, false)
  else if now = kept then (s1.rpaWrite n d.rpaAddr d.rpaSent, true)
  else (s1, decide (now = kept + 1) && decide (units = d.rpaSent) && (s.slot n).manifest.isSome)

/-- The units read back from a Mahano-1 cartridge that match their stored hashes, before the first that differs. -/
def matching : List Bytes → List Bytes → Nat
  | h :: hs, b :: bs => if sha384 b = h then 1 + matching hs bs else 0
  | _, _ => 0

/-- The session that waits for the cartridge in a slot (R347). -/
def State.waitsFor (s : State) (n : Nat) : Option Session :=
  let c := s.slot n
  match c.manifest with
  | none => none
  | some b => s.boards.sessions.find? (fun x => x.state == .waiting && !x.needNext && x.maker == c.maker && x.serial == c.serial && x.id == mfSession b && x.part == mfPart b && s.mfOurs b)

/-- A waiting session goes on with its own cartridge. -/
def State.resume (s : State) (n : Nat) (blocks : List Bytes) : State :=
  match s.waitsFor n with
  | none => s
  | some x =>
    if s.power.mode == .lockdown then s
    else
      let k := if (s.slot n).gen = 1 then matching x.recent blocks else x.recent.length
      s.putSession { x with state := .opened, slot := n, removedAt := none, confirmed := x.checkpoint + k, recent := x.recent.take k }

/-- A cartridge with the open part of an abandoned session is marked (R349). -/
def State.markAbandoned (s : State) (n : Nat) : State :=
  match (s.slot n).manifest with
  | none => s
  | some b =>
    if s.mfOurs b && decide (mfState b = 1) && s.boards.abandoned.contains (mfSession b) then
      let b3 := b.take 6 ++ [3] ++ b.drop 7
      (s.cartOut (.unit n 0 (fitTo 16384 (b3.take 512)))).writeManifest n b3
    else s

/-- The slot is READY: the event, a mark, a session that goes on, a session that takes the cartridge. -/
def State.slotReady (s : State) (n : Nat) (blocks : List Bytes) : State :=
  let s1 := (((s.setSlot n { s.slot n with state := .ready, link := .transfer, retried := false }).cartEvent n).markAbandoned n).resume n blocks
  let s2 := s1.takeNext
  if (s2.sessionOn n).isNone && !(s2.enrolled n && s2.slotBlank n) then s2.showSeven else s2.settleHx

/-- The RPA counter read and the manifest read of step 9: ENROLLED, the counter, the manifest. -/
def State.readRpa (s : State) (n : Nat) (a : BringAns) : State :=
  match s.cartKey n with
  | none => s.setSlot n { s.slot n with enrolled := false, manifest := none }
  | some key =>
    let n1 := s.drawBytes 16
    let n2 := (s.drewBytes 16).drawBytes 16
    let asked := (s.cartOut (.rpa n (rpaFrames key [rpaPart [] n1 0 0 0 1]))).cartOut (.rpa n (rpaFrames key [rpaPart [] n2 0 0 16 3]))
    let ok := rpaVerify key n1 0x0101 [a.counter] && rpaOk [a.counter]
    let mf := ok && decide (a.manifest.length = 16) && rpaVerify key n2 0x0103 a.manifest && rpaOk a.manifest
    let s1 := asked.drewBytes 32
    s1.setSlot n { s1.slot n with enrolled := ok, rpaCounter := if ok then fld a.counter 272 4 else (s1.slot n).rpaCounter, manifest := if mf then some (a.manifest.map (fun f => f.take 256)).flatten else none }

/-- Bring a slot up; `last` says that no further attempt follows. -/
def State.slotUp (s : State) (n : Nat) (a : BringAns) (last : Bool) : State :=
  let c := (s.slot n).powered
  match a.ident with
  | none => if last then (s.setSlot n { c with state := .failed }).slotFail n else s.setSlot n { (s.slot n).unpowered with state := .bringup, retried := true }
  | some v =>
    let i := identOf v
    let m := min a.mode (if i.gen = 1 then 2 else 4)
    let c1 := { c with ident := some i, identified := true, link := .transfer, mode := m, checked := decide (1 ≤ m), state := .bringup }
    if !i.known || decide (m = 0) then (s.setSlot n c1).slotFail n
    else
      let s1 := s.setSlot n c1
      match s1.tornSlot n with
      | none => (s1.readRpa n a).slotReady n a.blocks
      | some m =>
        let r := (s1.readRpa n a).settleRpa n m (s1.slot m).rpaCounter a.units
        if r.2 then r.1.slotReady n a.blocks else r.1.slotFail n

/-- A slot loses its cartridge: removal or an exceeded limit (R327, R329, R347). -/
def State.slotDown (s : State) (n : Nat) : State :=
  let s1 := s.setSlot n (s.slot n).unpowered
  State.settleHx { s1 with boards := { s1.boards with
    sessions := s1.boards.sessions.map (fun x => if x.state = .opened ∧ x.slot = n then { x with state := .waiting, removedAt := some s1.now } else x) } }

end Sys2Proof.Machine
end

