-- ==== Sys2Proof/Machine/Cards.lean ====
section
/-! DEFINITION. Operator cards: activation, the exchange of R337, authorisation, removal (R335 to R339). -/

namespace Sys2Proof.Machine

/-- CARD_INSERTION (R336): the debounce of 50 ms begins. -/
def execCardInsertion (card : Fin 2) (s : State) : Host.Outcome State Fault Refusal := .next (s.setCard card.val { s.card card.val with present := true })

/-- The card becomes REFUSED for a cause. -/
def State.refuseCard (s : State) (i cause : Nat) : State :=
  ((s.setCard i { s.card i with state := .refused, refusal := cause, rights := 0, getPending := false, buf := [] }).cartEvent (8 + i)).showSeven

/-- OC_VSEL of a class: 1 class C, 2 class B, 3 class A. -/
def vselOf (cls : Nat) : Nat := 4 - cls

/-- Activation after the debounce: the class at which the card answered, T=1 where it is offered. Without PPS the card runs at Fi 372 and Di 1 (R336). -/
def State.cardActivate (s : State) (i : Nat) (atr : Option AtrAns) (ppsOk : Bool) : State :=
  let c := s.card i
  if !s.linkRuns || !c.present || decide (c.state ≠ .empty) then s
  else
    let s1 := s.pulse (49 + i)
    match atr with
    | none => (s1.setCard i { present := true, state := .activating }).refuseCard i 1
    | some a =>
      if ¬ (1 ≤ a.cls ∧ a.cls ≤ 3) then (s1.setCard i { present := true, state := .activating }).refuseCard i 1
      else
        let on : Card := {
          present := true, state := .authenticating, vsel := vselOf a.cls, cls := a.cls, t1 := a.t1, pps := ppsOk, fi := if ppsOk then a.fi else 372, di := if ppsOk then min 16 a.di else 1
          clockKhz := if ppsOk then min 5000 a.maxKhz else 4000, ifsd := if a.t1 then 254 else 0, crc := a.t1 && a.crc }
        if a.t1 || a.t0 then s1.setCard i on else (s1.setCard i on).refuseCard i 2

/-- CARD_ACTIVATION (R336). -/
def execCardActivation (card : Fin 2) (atr : Option AtrAns) (ppsOk : Bool) (s : State) : Host.Outcome State Fault Refusal := .next (s.cardActivate card.val atr ppsOk)

/-! The exchange (R337). -/

/-- A card whose exchange is under way, or whose authorisation has expired and which is authenticated again. -/
def Card.inExchange (c : Card) : Bool := c.state == .authenticating || c.state == .expired

/-- The response to the command of step `step`: 90 00 completes it with what it returned; under T=0, 61 xx asks for GET RESPONSE and 6C xx repeats the command; any other
status ends the authentication. No response within the time allowed is a failure of the protocol (log 67). -/
def State.apduAnswer (s : State) (i : Nat) (data : Bytes) (sw : Option (BitVec 16)) (f : State → Card → Bytes → State) : State :=
  let c := { s.card i with state := .authenticating }
  match sw with
  | none => (s.setCard i c).refuseCard i 2
  | some v =>
    let c1 := { c with lastSw := v.toNat, getPending := false }
    if v = 0x9000 then f s { c1 with buf := [] } (c.buf ++ data)
    else if !c.t1 && decide (v.toNat / 256 = 0x61) then s.setCard i { c1 with getPending := true, buf := c.buf ++ data }
    else if !c.t1 && decide (v.toNat / 256 = 0x6C) then s.setCard i { c1 with buf := [] }
    else (s.setCard i c1).refuseCard i 3

/-- The APDU of the card's step: SELECT by name, READ BINARY from offset 256 k after k reads, INTERNAL AUTHENTICATE; `le` replaces the last byte where the command is repeated after 6C xx. -/
def Card.command (c : Card) (le : Option Nat) : Bytes :=
  let b : Bytes := match c.step with
    | 0 => [0x00, 0xA4, 0x04, 0x0C, 0x07, 0xF0, 0x53, 0x45, 0x4C, 0x59, 0x54, 0x48]
    | 1 => if c.reads = 0 then [0x00, 0xB0, 0x81, 0x00, 0x00] else [0x00, 0xB0, BitVec.ofNat 8 c.reads, 0x00, 0x00]
    | _ => [0x00, 0x88, 0x00, 0x00, 0x20] ++ c.challenge ++ [0x00]
  match le with | some n => b.dropLast ++ [BitVec.ofNat 8 n] | none => b

/-- SELECT by name is done. -/
def selected (i : Nat) (s : State) (c : Card) (_ : Bytes) : State := s.setCard i { c with step := 1 }

/-- A READ BINARY is done: after 3,568 bytes, or the 14th read, the challenge is drawn. -/
def certRead (i : Nat) (s : State) (c : Card) (data : Bytes) : State :=
  let cert := c.cert ++ data.take 256
  if 3568 ≤ cert.length ∨ 14 ≤ c.reads + 1 then
    (s.drewBytes 16).setCard i { c with reads := c.reads + 1, cert := cert.take 3568, step := 2, challenge := s.drawBytes 16 ++ s.unitId }
  else s.setCard i { c with reads := c.reads + 1, cert := cert }

/-! Authorisation (R338, R339). -/

def certAlg (b : Bytes) : Nat := fld b 2 1
def certKey (b : Bytes) : Bytes := if certAlg b = 1 then slice b 64 64 else slice b 64 96

/-- Is the certificate well formed? -/
def certForm (b : Bytes) : Bool :=
  decide (b.length = 3568) && decide (fld b 0 2 = 1) && (decide (certAlg b = 1) || decide (certAlg b = 2)) && decide (fld b 3 1 = 0) && decide (fld b 4 4 < 16) && allZero (slice b 41 7) &&
    (decide (certAlg b = 2) || allZero (slice b 128 32)) && allZero (slice b 3565 3)

/-- Does the card's signature over the challenge verify? -/
def cardSigned (cert challenge sig : Bytes) : Bool :=
  let go := fun (c : Curve) (n : Nat) (d : Bytes) => match c.decode (certKey cert) with
    | some q => decide (sig.length = 2 * n) && c.verify q d (beNat (sig.take n)) (beNat (slice sig n n))
    | none => false
  if certAlg cert = 1 then go p256 32 (sha256 challenge) else go p384 48 (sha384 challenge)

/-- The REFUSAL code of the first check that fails; 0 where all hold. -/
def State.cardCheck (s : State) (cert challenge sig : Bytes) : Nat :=
  if !certForm cert then 4
  else if !(match s.vault.authority with | some a => pairVerifyAt a.root cert 160 | none => false) then 5
  else if !(s.unitMatches (slice cert 24 16) && decide (fld cert 40 1 = s.lifeCount)) then 6
  else if ¬ (fld cert 48 8 ≤ s.now ∧ s.now ≤ fld cert 56 8) then 7
  else if !(if certAlg cert = 1 then (p256.decode (certKey cert)).isSome else (p384.decode (certKey cert)).isSome) then 8
  else if !cardSigned cert challenge sig then 9
  else if s.cardsBarred then 10 else 0

/-- The verifications that the checks come to before they end with REFUSAL `r`, in the pool's class 2: the certificate under the owner root, then the card's signature (R220). -/
def State.cardOps (s : State) (i : Nat) (cert challenge sig : Bytes) (r : Nat) : List (Nat × PkeReq × PkeOut) :=
  let base : PkeReq := { owner := 0xB000 + i }
  let root := match s.vault.authority with | some a => if r = 0 ∨ 5 ≤ r then verifierOps base a.root cert 160 else [] | none => []
  let own := if certAlg cert = 1 then opRun 0x10 { base with inputs := [certKey cert, sha256 challenge, sig] } else opRun 0x11 { base with inputs := [certKey cert, sha384 challenge, sig] }
  root ++ (if r = 0 ∨ 9 ≤ r then [own] else [])

/-- INTERNAL AUTHENTICATE is done: AUTHORISED, or REFUSED with the first check that failed. The answer waits while the pool has no engine for its checks (log 111). -/
def authAnswered (i : Nat) (s0 : State) (c : Card) (sig : Bytes) : State :=
  let r := s0.cardCheck c.cert c.challenge sig
  match s0.poolRun (0xB000 + i) 0 2 false (s0.cardOps i c.cert c.challenge sig r) with
  | none => s0
  | some s =>
    let s1 := s.setCard i { c with step := 3 }
    if r ≠ 0 then s1.refuseCard i r
    else ((s1.setCard i { c with step := 3, state := .authorised, refusal := 0, rights := fld c.cert 4 4, authAt := s.now }).cartEvent (8 + i)).settleHx

/-- What the command of the card's step does once it is complete. -/
def stepDone (i step : Nat) : State → Card → Bytes → State := match step with | 0 => selected i | 1 => certRead i | _ => authAnswered i

/-- The APDU of a step, where the exchange has come to it. -/
def State.apdu (s : State) (i step : Nat) (data : Bytes) (sw : Option (BitVec 16)) : State :=
  let c := s.card i
  let again := !c.t1 && decide (c.lastSw / 256 = 0x6C) && c.sent != []
  if s.linkRuns && c.inExchange && decide (c.step = step) && !c.getPending then
    (s.setCard i { c with sent := c.command (if again then some (c.lastSw % 256) else none) }).apduAnswer i data sw (stepDone i step)
  else s

/-- SELECT_BY_NAME (R337). -/
def execApduSelectByName (card : Fin 2) (sw : Option (BitVec 16)) (s : State) : Host.Outcome State Fault Refusal := .next (s.apdu card.val 0 [] sw)
/-- READ_BINARY (R337). -/
def execApduReadBinary (card : Fin 2) (data : Bytes) (sw : Option (BitVec 16)) (s : State) : Host.Outcome State Fault Refusal := .next (s.apdu card.val 1 data sw)
/-- INTERNAL_AUTHENTICATE (R337). -/
def execApduInternalAuthenticate (card : Fin 2) (data : Bytes) (sw : Option (BitVec 16)) (s : State) : Host.Outcome State Fault Refusal := .next (s.apdu card.val 2 data sw)

/-- GET RESPONSE under T=0: the rest of the response of the command under way. -/
def State.apduGet (s : State) (i : Nat) (data : Bytes) (sw : Option (BitVec 16)) : State :=
  let c := s.card i
  if s.linkRuns && c.inExchange && c.getPending then
    (s.setCard i { c with sent := [0x00, 0xC0, 0x00, 0x00, BitVec.ofNat 8 c.lastSw] }).apduAnswer i data sw (stepDone i c.step)
  else s

/-- GET_RESPONSE (R337). -/
def execApduGetResponse (card : Fin 2) (data : Bytes) (sw : Option (BitVec 16)) (s : State) : Host.Outcome State Fault Refusal := .next (s.apduGet card.val data sw)

/-! Removal and expiry (R336, R339). -/

/-- The card leaves: deactivated, VSEL 00, its authorisation over. -/
def State.cardLeaves (s : State) (i : Nat) : State :=
  let c := s.card i
  if !c.present then s
  else if c.state = .empty then s.setCard i {}
  else (((s.pulse (49 + i)).setCard i {}).cartEvent (10 + i)).settleHx

/-- CARD_REMOVAL (R336). -/
def execCardRemoval (card : Fin 2) (s : State) : Host.Outcome State Fault Refusal := .next (s.cardLeaves card.val)

/-- CARD_MIN minutes after the authentication the authorisation ends; the card is to be authenticated again from SELECT. -/
def State.expire (s0 : State) (i : Nat) : State :=
  let c := s0.card i
  let s := s0.reach (c.authAt + s0.boards.cardMin * 60 * hz)
  if c.state = .authorised then
    (s.setCard i { c with state := .expired, rights := 0, step := 0, reads := 0, cert := [], challenge := [], getPending := false, buf := [], sent := [] }).settleHx
  else s0

/-- AUTHORISATION_EXPIRY (R339). -/
def execAuthorisationExpiry (card : Fin 2) (s : State) : Host.Outcome State Fault Refusal := .next (s.expire card.val)

end Sys2Proof.Machine
end

