-- ==== Sys2Proof/Machine/Cartridges.lean ====
section
/-! DEFINITION. Slots and the Mahano link (R316 to R334): insertion, bring-up, removal, and the link commands of R322. -/

namespace Sys2Proof.Machine

/-! Insertion, bring-up, removal (R325, R327 to R329). -/

/-- CARTRIDGE_INSERTION (R325): the debounce of 50 ms begins. -/
def execCartridgeInsertion (slot : Fin 4) (s : State) : Host.Outcome State Fault Refusal := .next (s.setSlot slot.val { s.slot slot.val with seated := true })

/-- Bring up a seated slot. The falling edge that ends the debounce crosses to the fabric (R416); slots come up only once READY is set (R352). -/
def State.slotStart (s : State) (n : Nat) (a : BringAns) : State :=
  let c := s.slot n
  if !s.linkRuns || !c.seated then s
  else if c.state = .empty then ((s.setSlot n { c with crcErrors := 0, retried := false }).pulse (41 + n)).slotUp n a false
  else if c.state = .bringup then s.slotUp n a c.retried
  else s

/-- SLOT_BRINGUP (R325). -/
def execSlotBringup (slot : Fin 4) (ans : BringAns) (s : State) : Host.Outcome State Fault Refusal := .next (s.slotStart slot.val ans)

/-- DET_N rises (R329). An EMPTY slot only stops being seated (R416). -/
def State.slotRemoved (s : State) (n : Nat) : State :=
  let c := s.slot n
  if !c.seated then s
  else
    let s1 := s.setSlot n { c with seated := false }
    if c.state = .empty then s1 else (((s1.pulse (41 + n)).slotDown n).cartEvent (4 + n)).hxRemoved

/-- REMOVAL (R329). -/
def execRemoval (slot : Fin 4) (s : State) : Host.Outcome State Fault Refusal := .next (s.slotRemoved slot.val)

/-- An exceeded maximum of R326: as a removal, then one new bring-up (R327). -/
def State.slotTimeout (s : State) (n : Nat) (a : BringAns) : State :=
  let c := s.slot n
  if !s.linkRuns || !c.seated || decide (c.state = .empty) || decide (c.state = .failed) then s else (s.slotDown n).slotUp n a true

/-- LINK_TIMEOUT (R327). -/
def execLinkTimeout (slot : Fin 4) (ans : BringAns) (s : State) : Host.Outcome State Fault Refusal := .next (s.slotTimeout slot.val ans)

/-- A READY slot idle for 100 ms: C40 to a Mahano-2 cartridge, and CK stops (R328). -/
def State.slotIdle (s : State) (n : Nat) : State :=
  let c := s.slot n
  if !s.linkRuns || decide (c.state ≠ .ready) || decide (c.link ≠ .transfer) then s
  else if c.gen = 2 then s.setSlot n { c with state := .sleep, link := .sleep, ck := false, cmd := commandFrame 40 0 }
  else s.setSlot n { c with ck := false }

/-- SLOT_IDLE (R328). -/
def execSlotIdle (slot : Fin 4) (s : State) : Host.Outcome State Fault Refusal := .next (s.slotIdle slot.val)

/-! The link commands (R318, R322, R327). -/

/-- The link follows a command; a READY slot is BUSY while data moves. -/
def Slot.at_ (c : Slot) (l : LinkState) : Slot :=
  let moving := l == .sending || l == .receiving || l == .programming
  { c with link := l, state := if c.state = .ready ∧ moving then .busy else if c.state = .busy ∧ !moving then .ready else c.state }

/-- A failed answer, block or token; the fourth in a row at one mode steps the link down (R323, R327). -/
def State.linkFail (s : State) (n : Nat) (crc : Bool) : State :=
  let c := s.slot n
  let c1 := { c with crcErrors := if crc then sat 16 (c.crcErrors + 1) else c.crcErrors }
  if c.repeats < 3 then s.setSlot n { c1 with repeats := c.repeats + 1 }
  else if c.mode ≤ 1 then (s.setSlot n { c1 with repeats := 0 }).slotFail n
  else s.setSlot n { c1 with repeats := 0, mode := c.mode - 1, checked := false }

/-- A command goes out on a powered slot as its frame, with its index and argument (R317); in a state that the table does not allow for it the cartridge reports ILLEGAL_COMMAND and nothing
else changes. -/
def State.onLink (s : State) (n index arg : Nat) (ok : LinkState → Bool) (f : State → Slot → State) : State :=
  let c := { s.slot n with cmd := commandFrame index arg }
  if s.linkRuns && c.pwren && decide (c.state ≠ .failed) then (let s1 := s.setSlot n c; if ok c.link then f s1 c else s1) else s

/-- A short answer with a status word: one that is no answer to the command, or fails its CRC7, repeats it; a reported ILLEGAL_COMMAND or COM_CRC_ERROR leaves the cartridge as it was. -/
def State.withStatus (s : State) (n index : Nat) (ans : BitVec 48) (f : Slot → State) : State :=
  match shortPayload index ans with
  | none => s.linkFail n true
  | some v =>
    let c := { s.slot n with status := v }
    if v.getLsbD 28 then s.setSlot n c
    else if v.getLsbD 29 then (s.setSlot n c).linkFail n true
    else f { c with repeats := 0 }

/-- A short answer and the blocks that follow it: one that fails a CRC16 is read again (R327). -/
def State.withBlocks (s : State) (n index : Nat) (ans : BitVec 48) (l : List LineBits) (f : State → Slot → List Bytes → State) : State :=
  s.withStatus n index ans (fun c =>
    match blocksRead (lineCount c.mode) 512 l with
    | none => (s.setSlot n { c with repeats := (s.slot n).repeats, lines := l.getLastD [] }).linkFail n true
    | some b => f s { c with lines := l.getLastD [], block := b.getLastD [] } b)

/-- The last of the 512-byte blocks that carry some bytes, filled with zeros. -/
def lastBlock (b : Bytes) : Bytes := fitTo 512 (b.drop (512 * (ceilDiv b.length 512 - 1)))

def inTransfer (l : LinkState) : Bool := l == .transfer

/-- GO_IDLE, C00: power where it is off; IDLE and mode 0. -/
def State.mhGoIdle (s : State) (n : Nat) : State :=
  let c := s.slot n
  if !s.linkRuns || !c.seated || decide (c.state = .failed) || (s.sessionOn n).isSome then s
  else s.setSlot n { c.powered with state := .bringup, link := .idle, mode := 0, checked := false, identified := false, count := none, manifest := none, cmd := commandFrame 0 0 }

def execMhGoIdle (slot : Fin 4) (s : State) : Host.Outcome State Fault Refusal := .next (s.mhGoIdle slot.val)

/-- IDENTIFY, C01: IDLE goes to READY once READY is reported (R319). -/
def State.mhIdentify (s : State) (n : Nat) (ans : BitVec 48) : State :=
  s.onLink n 1 0x01000000 (· == .idle) (fun s c =>
    match shortPayload 1 ans with
    | none => s.linkFail n true
    | some v => if v.getLsbD 31 then s.setSlot n { c with link := .ready, identified := true, repeats := 0 } else s.setSlot n { c with repeats := 0 })

def execMhIdentify (slot : Fin 4) (answer : BitVec 48) (s : State) : Host.Outcome State Fault Refusal := .next (s.mhIdentify slot.val answer)

/-- READ_IDENT, C02: an identity outside the two columns of R319 fails the slot. -/
def State.mhReadIdent (s : State) (n : Nat) (ans : BitVec 136) : State :=
  s.onLink n 2 0 (· == .ready) (fun s c =>
    match longPayload ans with
    | none => s.linkFail n true
    | some v =>
      let i := identOf v
      let s1 := s.setSlot n { c with ident := some i, repeats := 0 }
      if i.known then s1 else s1.slotFail n)

def execMhReadIdent (slot : Fin 4) (answer : BitVec 136) (s : State) : Host.Outcome State Fault Refusal := .next (s.mhReadIdent slot.val answer)

/-- SELECT, C03: READY goes to TRANSFER. -/
def State.mhSelect (s : State) (n : Nat) (st : BitVec 48) : State := s.onLink n 3 0 (· == .ready) (fun s _ => s.withStatus n 3 st (fun c => s.setSlot n (c.at_ .transfer)))

def execMhSelect (slot : Fin 4) (answer : BitVec 48) (s : State) : Host.Outcome State Fault Refusal := .next (s.mhSelect slot.val answer)

/-- SWITCH, C06: the new mode applies and is to be checked (R323). Mode 0 is for identification, and a Mahano-1 cartridge has no mode above 2. -/
def State.mhSwitch (s : State) (n m : Nat) (st : BitVec 48) : State :=
  if m = 0 ∨ ((s.slot n).gen ≠ 2 ∧ 2 < m) then s
  else s.onLink n 6 m inTransfer (fun s _ => s.withStatus n 6 st (fun c => s.setSlot n { c with mode := m, checked := false }))

def execMhSwitch (slot : Fin 4) (mode : Fin 5) (answer : BitVec 48) (s : State) : Host.Outcome State Fault Refusal := .next (s.mhSwitch slot.val mode.val answer)

/-- The check pattern (R324). -/
def checkPattern : Bytes :=
  [0x01, 0x02, 0x04, 0x08, 0x10, 0x20, 0x40, 0x80, 0xFE, 0xFD, 0xFB, 0xF7, 0xEF, 0xDF, 0xBF, 0x7F] ++
    (List.replicate 8 [0xFF, 0x00]).flatten ++ (List.replicate 8 [0x55, 0xAA]).flatten ++ (List.range 16).map (fun k => BitVec.ofNat 8 (0x11 * k))

/-- READ_CHECK, C08: a failed check switches down one mode; at mode 1 the slot fails (R323, R324). -/
def State.mhReadCheck (s : State) (n : Nat) (st : BitVec 48) (lines : LineBits) : State :=
  s.onLink n 8 0 inTransfer (fun s _ => s.withStatus n 8 st (fun d =>
    let got := blockRead (lineCount d.mode) 64 lines
    let c := { d with lines := lines, repeats := 0 }
    if got = some checkPattern then s.setSlot n { c with checked := true }
    else
      let c1 := { c with crcErrors := if got.isSome then c.crcErrors else sat 16 (c.crcErrors + 1), checked := false }
      if c.mode ≤ 1 then (s.setSlot n c1).slotFail n else s.setSlot n { c1 with mode := c.mode - 1 }))

def execMhReadCheck (slot : Fin 4) (answer : BitVec 48) (lines : LineBits) (s : State) : Host.Outcome State Fault Refusal := .next (s.mhReadCheck slot.val answer lines)

/-- STOP, C12: ends an uncounted transfer; after a write, busy continues. -/
def State.mhStop (s : State) (n : Nat) (st : BitVec 48) : State :=
  s.onLink n 12 0 (fun l => l == .sending || l == .receiving) (fun s d => s.withStatus n 12 st (fun c => s.setSlot n (c.at_ (if d.link = .receiving then .programming else .transfer))))

def execMhStop (slot : Fin 4) (answer : BitVec 48) (s : State) : Host.Outcome State Fault Refusal := .next (s.mhStop slot.val answer)

/-- The STATE field of a status word; values 7 to 15 are never sent. -/
def linkOf (v : BitVec 32) (l : LinkState) : LinkState :=
  match bits v.toNat 12 4 with
  | 0 => .idle | 1 => .ready | 2 => .transfer | 3 => .sending | 4 => .receiving | 5 => .programming | 6 => .sleep | _ => l

/-- STATUS, C13: the status word tells the cartridge's state (R318). -/
def State.mhStatus (s : State) (n : Nat) (st : BitVec 48) : State :=
  s.onLink n 13 0 (fun _ => true) (fun s d =>
    match shortPayload 13 st with
    | none => s.linkFail n true
    | some v => s.setSlot n { d.at_ (linkOf v d.link) with status := v, repeats := 0 })

def execMhStatus (slot : Fin 4) (answer : BitVec 48) (s : State) : Host.Outcome State Fault Refusal := .next (s.mhStatus slot.val answer)

/-- READ_BLOCKS, C17: an uncounted read stays SENDING until C12; a counted one is back in TRANSFER. A status with OUT_OF_RANGE starts no transfer. A block that fails a CRC16 is read again. -/
def State.mhReadBlocks (s : State) (n block : Nat) (st : BitVec 48) (blocks : List LineBits) : State :=
  s.onLink n 17 block inTransfer (fun s _ => s.withStatus n 17 st (fun c =>
    if c.status.getLsbD 31 then s.setSlot n { c with count := none }
    else match blocksRead (lineCount c.mode) 512 blocks with
      | none => (s.setSlot n { c with repeats := (s.slot n).repeats, lines := blocks.getLastD [] }).linkFail n true
      | some l => s.setSlot n { c.at_ (if c.count.isSome then .transfer else .sending) with count := none, lines := blocks.getLastD [], block := l.getLastD [] }))

def execMhReadBlocks (slot : Fin 4) (block : BitVec 32) (answer : BitVec 48) (blocks : List LineBits) (s : State) : Host.Outcome State Fault Refusal :=
  .next (s.mhReadBlocks slot.val block.toNat answer blocks)

/-- The status bits of a write token between its start and end bits; none for what is no token (R321). -/
def tokenOf (t : BitVec 5) : Option (BitVec 3) := if t.getLsbD 4 = false ∧ t.getLsbD 0 then some (t.extractLsb' 1 3) else none

/-- WRITE_BLOCKS, C18: token 010 accepts; 101 is a CRC error and 110 a write error, after which C12 is sent and the unit written again (R321, R327). -/
def State.mhWriteBlocks (s : State) (n block : Nat) (data : Bytes) (st : BitVec 48) (token : BitVec 5) : State :=
  s.onLink n 18 block inTransfer (fun s _ => s.withStatus n 18 st (fun d =>
    let c := { d with lines := blockLines (lineCount d.mode) (lastBlock data) }
    if c.status.getLsbD 31 || c.status.getLsbD 30 then s.setSlot n { c with count := none }
    else if tokenOf token ≠ some 2 then (s.setSlot n { c with count := none, repeats := (s.slot n).repeats, cmd := commandFrame 12 0 }).linkFail n (decide (tokenOf token = some 5))
    else s.setSlot n { c.at_ (if c.count.isSome then .transfer else .receiving) with count := none }))

def execMhWriteBlocks (slot : Fin 4) (block : BitVec 32) (data : Bytes) (answer : BitVec 48) (token : BitVec 5) (s : State) : Host.Outcome State Fault Refusal :=
  .next (s.mhWriteBlocks slot.val block.toNat data answer token)

/-- SET_COUNT, C23: a count of 1 to 65,535 for the next C17 or C18. -/
def State.mhSetCount (s : State) (n k : Nat) (st : BitVec 48) : State :=
  if k = 0 then s else s.onLink n 23 k inTransfer (fun s _ => s.withStatus n 23 st (fun c => s.setSlot n { c with count := some k }))

def execMhSetCount (slot : Fin 4) (count : BitVec 16) (answer : BitVec 48) (s : State) : Host.Outcome State Fault Refusal := .next (s.mhSetCount slot.val count.toNat answer)

/-! The replay-protected area (R330 to R333). -/

/-- A slot in bring-up that has passed a check read is READY once its RPA has been read, or cannot be read for want of a key (R325). -/
def State.readyAfterRpa (s : State) (n : Nat) : State :=
  let c := s.slot n
  if c.state = .bringup ∧ c.checked ∧ (c.manifest.isSome ∨ !c.enrolled) then s.slotReady n [] else s

/-- COUNTER_READ: a response whose MAC or NONCE is wrong is no response. -/
def State.mhCounterRead (s : State) (n : Nat) (st : BitVec 48) (lines : LineBits) : State :=
  s.onLink n 32 1 inTransfer (fun s c =>
    match s.cartKey n with
    | none => (s.setSlot n { c with enrolled := false }).readyAfterRpa n
    | some key => ((s.cartOut (.rpa n (rpaFrames key [rpaPart [] (s.drawBytes 16) 0 0 0 1]))).drewBytes 16).withBlocks n 32 st [lines] (fun s1 c frames =>
      if rpaVerify key (s.drawBytes 16) 0x0101 frames && rpaOk frames then s1.setSlot n { c with enrolled := true, rpaCounter := fld (frames.headD []) 272 4 } else s1.setSlot n c))

def execMhCounterRead (slot : Fin 4) (answer : BitVec 48) (lines : LineBits) (s : State) : Host.Outcome State Fault Refusal := .next (s.mhCounterRead slot.val answer lines)

/-- RPA_READ, C32: the result of the write under way, or else the units of a read request of the manifest, sent with a fresh NONCE. -/
def State.mhRpaRead (s : State) (n : Nat) (st : BitVec 48) (blocks : List LineBits) : State :=
  s.onLink n 32 (if (s.slot n).rpaWriting then 1 else 16) inTransfer (fun s c =>
    match s.cartKey n with
    | none => s
    | some key =>
      if c.rpaWriting then s.withBlocks n 32 st blocks (fun s c frames =>
        if frames.length = 1 ∧ rpaVerify key c.rpaNonce 0x0104 frames then
          if rpaOk frames && decide (fld (frames.headD []) 272 4 = c.rpaCounter + 1) then (s.setSlot n c).rpaDone n else s.setSlot n { c with rpaWriting := false }
        else s.setSlot n c)
      else ((s.cartOut (.rpa n (rpaFrames key [rpaPart [] (s.drawBytes 16) 0 0 16 3]))).drewBytes 16).withBlocks n 32 st blocks (fun s1 c frames =>
        if frames.length = 16 ∧ rpaVerify key (s.drawBytes 16) 0x0103 frames ∧ rpaOk frames then
          (s1.setSlot n { c with manifest := some (frames.map (fun f => f.take 256)).flatten }).readyAfterRpa n
        else s1.setSlot n c))

def execMhRpaRead (slot : Fin 4) (answer : BitVec 48) (blocks : List LineBits) (s : State) : Host.Outcome State Fault Refusal := .next (s.mhRpaRead slot.val answer blocks)

/-- RPA_WRITE, C33: 1 to 16 units, authenticated, with the counter last read. -/
def State.mhRpaWrite (s : State) (n addr : Nat) (units : List Bytes) (st : BitVec 48) : State :=
  if (s.slot n).enrolled ∧ ¬ (s.slot n).rpaWriting ∧ 1 ≤ units.length ∧ units.length ≤ 16 ∧ addr + units.length ≤ 16384 then
    s.onLink n 33 units.length inTransfer (fun s _ => s.withStatus n 33 st (fun c => (s.setSlot n c).rpaSend n addr (units.map (fitTo 256))))
  else s

def execMhRpaWrite (slot : Fin 4) (address : Nat) (units : List Bytes) (answer : BitVec 48) (s : State) : Host.Outcome State Fault Refusal := .next (s.mhRpaWrite slot.val address units answer)

/-! Enrolment (R331). -/

/-- The pairing key of a cartridge from the shared x. -/
def State.pairingKey (s : State) (maker serial : Nat) (shared qCart qEph : Bytes) : Bytes :=
  hkdfSha256 s.unitId shared (ascii "BRUXEL PAIR" ++ leBytes 2 maker ++ leBytes 8 serial ++ qCart ++ qEph) 32

/-- The lowest pairing index that no key has. -/
def Vault.freePair (v : Vault) : Nat := ((List.range 4096).find? (fun i => !v.pairing.any (fun p => p.index == i))).getD 0

/-- Keep a cartridge's key, in place of one already held for it. -/
def State.keepPair (s : State) (maker serial : Nat) (key : Bytes) : State :=
  let idx := match s.vault.pairing.find? (fun p => p.maker == maker && p.serial == serial) with | some p => p.index | none => s.vault.freePair
  { s with vault := { s.vault with pairing := s.vault.pairing.filter (fun p => !(p.maker == maker && p.serial == serial)) ++ [{ index := idx, maker := maker, serial := serial, key := key }] } }

/-- The PAIR block, the key it leads to, and the state after the ephemeral key is drawn; none where the cartridge's key fails validation, or while the pool has
no engine for the two operations (log 111). -/
def State.pairWith (s : State) (n : Nat) (block : Bytes) : Option (State × Bytes) :=
  let c := s.slot n
  match p256.decode (block.take 64) with
  | none => none
  | some q =>
    let d := p256.scalarOf (s.drawBytes p256.seedBytes)
    let eph := p256.encode (p256.mul d p256.g)
    let shared := (p256.encode (p256.mul d (some q))).take 32
    let out := eph ++ fitTo 16 s.unitId ++ leBytes 8 c.serial ++ zeros 424
    let gen : PkeReq := { owner := 0xA000 + n }
    let dh : PkeReq := { owner := 0xA000 + n, inputs := [block.take 64] }
    ((s.drewBytes p256.seedBytes).poolRun (0xA000 + n) 0 2 false [(0x40, gen, { status := .ok, time := ct256.gen }), (0x30, dh, { status := .ok, time := ct256.dh })]).map
      (fun s1 => (s1.cartOut (.pair n out), s.pairingKey c.maker c.serial shared (block.take 64) eph))

/-- A fresh pairing: every RPA byte and the counter are 0. -/
def State.paired (s : State) (n : Nat) (key : Bytes) : State :=
  let c := s.slot n
  (s.keepPair c.maker c.serial key).setSlot n { c with enrolled := false, rpaCounter := 0, rpaWriting := false, manifest := some (zeros 4096) }

/-- PAIR, C36, with the key block of the last READ_KEY. A cartridge that reports ILLEGAL_COMMAND keeps its pairing; the vault keeps no more than 4,096 pairing keys. -/
def State.mhPair (s : State) (n : Nat) (st : BitVec 48) : State :=
  if (s.slot n).keyBlock = [] ∨ s.vault.vaultKey = none ∨ s.entropyOk = false ∨ (s.cartKey n = none ∧ 4096 ≤ s.vault.pairing.length) then s
  else s.onLink n 36 0 inTransfer (fun s c =>
    match s.pairWith n c.keyBlock with
    | none => s
    | some (s1, key) => s1.withStatus n 36 st (fun c1 => ((s1.setSlot n c1).paired n key).writeImage))

def execMhPair (slot : Fin 4) (answer : BitVec 48) (s : State) : Host.Outcome State Fault Refusal := .next (s.mhPair slot.val answer)

/-- READ_KEY, C37: one block with the cartridge's public key. -/
def State.mhReadKey (s : State) (n : Nat) (st : BitVec 48) (lines : LineBits) : State :=
  s.onLink n 37 0 inTransfer (fun s _ => s.withBlocks n 37 st [lines] (fun s c blocks => s.setSlot n { c with keyBlock := blocks.headD [] }))

def execMhReadKey (slot : Fin 4) (answer : BitVec 48) (lines : LineBits) (s : State) : Host.Outcome State Fault Refusal := .next (s.mhReadKey slot.val answer lines)

/-! Sleep (R322, R328). -/

/-- SLEEP, C40: Mahano-2 only; the clock may stop after its answer. -/
def State.mhSleep (s : State) (n : Nat) (st : BitVec 48) : State :=
  if (s.slot n).gen ≠ 2 then s else s.onLink n 40 0 inTransfer (fun s _ => s.withStatus n 40 st (fun c => s.setSlot n { c with link := .sleep, ck := false, state := if c.state = .ready then .sleep else c.state }))

def execMhSleep (slot : Fin 4) (answer : BitVec 48) (s : State) : Host.Outcome State Fault Refusal := .next (s.mhSleep slot.val answer)

/-- WAKE, C41: the clock restarts, and the cartridge is back in TRANSFER. -/
def State.mhWake (s : State) (n : Nat) (st : BitVec 48) : State :=
  if (s.slot n).gen ≠ 2 then s else s.onLink n 41 0 (· == .sleep) (fun s _ => s.withStatus n 41 st (fun c => s.setSlot n { c with link := .transfer, ck := true, state := if c.state = .sleep then .ready else c.state }))

def execMhWake (slot : Fin 4) (answer : BitVec 48) (s : State) : Host.Outcome State Fault Refusal := .next (s.mhWake slot.val answer)

end Sys2Proof.Machine
end

