-- ==== Sys2Proof/Machine/Kat.lean ====
section
/-! DEFINITION. The known-answer tests of the engines: the sub-tests of R218 and R237, the short sets, the vectors of the self-test ROM, and the detail of a test's
record (R219, R238). -/

namespace Sys2Proof.Machine

/-- The sub-tests of a kind of engine, as (bit, in the short set): cipher, hash, PKE, ledger hasher, by the level of its unit address (R218, R237). -/
def subTests (level : Nat) : List (Nat × Bool) :=
  match level with
  | 4 => [(0, true), (1, true), (2, true), (3, false), (4, false), (5, false), (6, true), (7, true), (8, false), (9, false), (10, true), (11, false), (12, true)]
  | 5 => [(0, true), (1, true), (2, false), (3, false), (4, false), (5, false), (6, true), (7, true), (8, true)]
  | 6 => [(0, true), (1, true), (2, false), (3, false), (4, false), (5, false), (6, false), (7, false), (8, false), (9, false), (10, false), (11, false), (12, true), (13, true), (14, true)]
  | 7 => [(1, true), (7, true), (9, true)]
  | _ => []

/-- The bits of a kind's full set, and of its short set. -/
def fullBits (level : Nat) : Nat := ((subTests level).map (fun p => 2 ^ p.1)).sum
def shortBits (level : Nat) : Nat := (((subTests level).filter (·.2)).map (fun p => 2 ^ p.1)).sum

/-- The sub-tests of an engine that a set of bits says failed. -/
def failedOf (mask d : Nat) : Nat := d &&& mask

/-- The detail of a test's record for an engine (R219, R238): FAILED; for a cipher engine the dummy counts seen and its own GRINDER_OK, for a hash engine the lanes that failed, for a
PKE engine SKEW. Every other bit is 0. -/
def detailOf (level : Nat) (grinderOk : Bool) (d : Nat) : Nat :=
  failedOf (fullBits level) d +
    (match level with
     | 4 => put (bits d 16 7) 16 7 + 2 ^ 23 * b2n grinderOk
     | 5 => put (bits d 16 2) 16 2
     | 6 => put (bits d 16 8) 16 8
     | _ => 0)

/-- RESULT 1 of an engine, from its detail. -/
def detailFails (level d : Nat) : Bool :=
  match level with
  | 4 => decide (bits d 0 13 ≠ 0) || !bit d 23 || decide (bits d 16 7 ≠ 0x7F)
  | 6 => decide (bits d 0 15 ≠ 0) || decide (bits d 16 8 ≠ 0)
  | _ => decide (bits d 0 13 ≠ 0)

/-! The self-test ROM (R218): vectors of FIPS 197, SP 800-38A, SP 800-38B, the GCM specification, FIPS 180-4, FIPS 202 and RFC 4231. -/

/-- A vector of the cipher engine: sub-test, mode, direction, key, IV, AAD, input, output. -/
structure CipherVector where
  bit : Nat
  mode : CipherMode
  encrypt : Bool
  key : Bytes
  iv : Bytes
  aad : Bytes
  data : Bytes
  tag : Option Bytes
  want : EngStatus × Bytes
deriving DecidableEq, Repr

/-- A vector of the hash engine. -/
structure HashVector where
  bit : Nat
  alg : HashAlg
  key : Option Bytes
  data : Bytes
  want : Bytes
deriving DecidableEq, Repr

def romKey (n : Nat) : Bytes := (List.range n).map (BitVec.ofNat 8)
/-- The key and the first block of the examples of SP 800-38A. -/
def romKey256 : Bytes := beBytes 32 0x603deb1015ca71be2b73aef0857d77811f352c073b6108d72d9810a30914dff4
def romBlock : Bytes := beBytes 16 0x6bc1bee22e409f96e93d7e117393172a
def romPlain : Bytes := beBytes 16 0x00112233445566778899aabbccddeeff
/-- Ciphertext and tag of the GCM specification's case 14: key, IV and one block of zeros. -/
def romGcmText : Bytes := beBytes 16 0xcea7403d4d606b6e074ec5d3baf39d18
def romGcmTag : Bytes := beBytes 16 0xd0d1c8a799996bf0265b98b5d48ab919

def cipherRom : List CipherVector :=
  [⟨0, .ecb, true, romKey 16, [], [], romPlain, none, .ok, beBytes 16 0x69c4e0d86a7b0430d8cdb78070b4c55a⟩,
   ⟨0, .ecb, false, romKey 16, [], [], beBytes 16 0x69c4e0d86a7b0430d8cdb78070b4c55a, none, .ok, romPlain⟩,
   ⟨1, .ecb, true, romKey 24, [], [], romPlain, none, .ok, beBytes 16 0xdda97ca4864cdfe06eaf70a0ec0d7191⟩,
   ⟨2, .ecb, true, romKey 32, [], [], romPlain, none, .ok, beBytes 16 0x8ea2b7ca516745bfeafc49904b496089⟩,
   ⟨3, .ctr, true, romKey256, (List.range 16).map (fun i => BitVec.ofNat 8 (0xF0 + i)), [], romBlock, none, .ok, beBytes 16 0x601ec313775789a5b7a7f504bbf3d228⟩,
   ⟨5, .cmac, true, romKey256, [], [], romBlock, none, .ok, beBytes 16 0x28a7023f452e8f82bd4bf28d8c37c35c⟩,
   ⟨6, .gcm, true, zeros 32, zeros 12, [], zeros 16, none, .ok, romGcmText ++ romGcmTag⟩,
   ⟨7, .gcm, false, zeros 32, zeros 12, [], romGcmText, some romGcmTag, .ok, zeros 16⟩,
   ⟨8, .gcm, false, zeros 32, zeros 12, [], romGcmText, some (romGcmTag.map (· ^^^ 1)), .tagFail, []⟩]

def hashRom : List HashVector :=
  [⟨0, .sha256, none, ascii "abc", beBytes 32 0xba7816bf8f01cfea414140de5dae2223b00361a396177a9cb410ff61f20015ad⟩,
   ⟨1, .sha384, none, ascii "abc", beBytes 48 0xcb00753f45a35e8bb5a03d699ac65007272c32ab0eded1631a8b605a43ff5bed8086072ba1e7cc2358baeca134c825a7⟩,
   ⟨3, .sha3_256, none, ascii "abc", beBytes 32 0x3a985da74fe225b2045c172d6bd390bd855f086e3e9d525b46bfe24511431532⟩,
   ⟨5, .sha256, some (ascii "Jefe"), ascii "what do ya want for nothing?", beBytes 32 0x5bdcc146bf60754e6a042426089575c75a003f089d2739839dec58b964ec3843⟩,
   ⟨6, .sha384, some (ascii "Jefe"), ascii "what do ya want for nothing?", beBytes 48 0xaf45d2e376484031617f78d2b58a6b1b9c7ef464f5a01b47e42ec3736322445e8e2240ca5e69e2c78b3239ecfab21649⟩]

/-- What a cipher engine makes of a vector: one operation on a fresh context. -/
def CipherVector.run (v : CipherVector) : EngStatus × Bytes × Option CipherCtx :=
  let r : CipherReq := { row := 0, owner := 0, key := .rom v.key, encrypt := v.encrypt, iv := v.iv, aadLen := v.aad.length, dataLen := v.data.length, aad := v.aad, data := v.data, tag := v.tag, selfTest := true }
  cipherStep (KeySlot.of r.key v.key) (RowEng.openCtx {} { mode := v.mode, req := r, cls := 3 }) r

/-- What a hash lane makes of a vector. -/
def HashVector.run (v : HashVector) : Bytes :=
  match v.key with
  | none => hashOf v.alg v.data
  | some k => (HmacSlot.of (.rom k) v.alg k).mac v.data

/-- The engine gives the answers that the ROM holds. -/
def CipherVector.passes (v : CipherVector) : Bool := v.run == (v.want.1, v.want.2, none)
def HashVector.passes (v : HashVector) : Bool := v.run == v.want

end Sys2Proof.Machine
end

