-- ==== Sys2Proof/Machine/LifeCycle.lean ====
section
/-! DEFINITION. Life-cycle requests and their phases, debug passes, the nonce, LOCKDOWN releases (chapters 15 and 16). -/

namespace Sys2Proof.Machine

/-! Starting the ledger (R140 to R142). -/

/-- The RESTART event of a cause: it names the last durable tick (R135). -/
def State.restartEvent (s : State) (cause : Nat) : TickEvent :=
  { type := 1, body := leBytes 8 s.ledger.durableTick ++ fitTo 48 (s.recordHash s.ledger.durableTick) ++ leBytes 1 cause ++ zeros 7 }

/-- Ticks close from now on, the first after `ms`, the period in force during the open tick: the open tick takes `evs`, a RESTART event first, and after them the
TAMPER events that waited (R366; the order of the two is a DESIGN CHOICE, log 77). -/
def State.runTicks (s : State) (ms : Nat) (evs : List TickEvent) : State :=
  let l := s.ledger
  { s with
    ledger := { l with running := true, periodInForce := ms, nextBoundary := boundaryAfter ms s.now, events := l.events ++ evs ++ s.tamper.waiting }
    tamper := { s.tamper with waiting := [] } }

/-- A new epoch for every retention group, prepared and opened before the first seal; a group whose wrap is not durable seals nothing until its epoch has begun (R23, R246,
log 112). -/
def State.openAllEpochs (s : State) : State := (List.range 64).foldl (fun s g => (s.prepareEpoch g s.now).openEpoch g) { s with vault := { s.vault with unopened := List.range 64, late := [], lastHour := s.now / hour * hour } }

/-! The request object (R379). -/

/-- Fields of a life-cycle request. -/
def reqKind (b : Bytes) : Nat := fld b 2 1
def reqSigner (b : Bytes) : Nat := fld b 3 1
def reqFrom (b : Bytes) : Nat := fld b 4 1
def reqTo (b : Bytes) : Nat := fld b 5 1
def reqMask (b : Bytes) : Nat := fld b 40 4
def reqAuthLen (b : Bytes) : Nat := fld b 44 4
def reqAuthority (b : Bytes) : Authority := { bytes := slice b 2112 (reqAuthLen b) }

/-- Check 1 of R380. -/
def reqForm (b : Bytes) : Bool :=
  let k := reqKind b
  let al := reqAuthLen b
  decide (2112 ≤ b.length) && decide (fld b 0 2 = 1) && decide (1 ≤ k) && decide (k ≤ 6) && decide (1 ≤ reqSigner b) && decide (reqSigner b ≤ 2) && decide (fld b 6 2 = 0) &&
    allZero (slice b 48 16) && (k == 6 || decide (reqMask b = 0)) && (if k = 1 ∨ k = 2 ∨ k = 5 then decide (0 < al) && decide (al % 8 = 0) else decide (al = 0)) &&
    decide (b.length = 5520 + al) && allZero (slice b (b.length - 3) 3)

/-- The kind's target step from a count, none where the kind is not allowed from the state (R378). -/
def reqTarget (kind count : Nat) : Option Nat :=
  let owned := decide (3 ≤ count) && decide (count ≤ 18)
  match kind with
  | 1 => if count = 2 then some 3 else none
  | 2 => if 3 ≤ count ∧ count < 18 then some (count + 1) else none
  | 3 => if owned then some 19 else none
  | 4 => if count = 2 ∨ count = 19 ∨ owned then some 20 else none
  | 5 => if owned then some count else none
  | _ => if count = 2 ∨ owned then some count else none

/-- A torn step whose request slots cannot be read holds READY back (R383). -/
def State.tornHeld (s : State) : Bool := s.dev.holdCause == 2

/-- Is SIGNER the kind's signer in the state (R378)? -/
def State.signerFits (s : State) (kind signer : Nat) : Bool :=
  if s.tornHeld && kind == 4 then true
  else if kind = 1 then signer == 1
  else if s.owned then signer == 2 else signer == 1

/-- Does the signer's key match its digest: the owner's in the OTP, the vendor's in ROM (R380)? -/
def State.keyFits (s : State) (signer : Nat) (vendor : BitVec 384) (key : Bytes) : Bool :=
  if signer = 2 then decide (s.owned) && decide (sha384 key = s.rootDigest) else decide (sha384 key = leBytes 48 vendor.toNat)

/-- Does the nonce match the device nonce, which is not 0 (R388)? -/
def State.nonceFits (s : State) (n : Bytes) : Bool := decide (n = s.guard.nonce) && !allZero n && decide (n.length = 16)

/-- The checks of R380: refusal code and status, (0, 0) where the request is accepted. -/
def State.reqCheck (s : State) (b : Bytes) : Nat × Nat :=
  let k := reqKind b
  let c := s.lifeCount
  let key := slice b 64 2048
  let a := reqAuthority b
  if !reqForm b then (1, 0x10)
  else if slice b 8 16 ≠ s.unitId then (2, 0x13)
  else if reqFrom b ≠ c ∨ reqTarget k c ≠ some (reqTo b) then (3, 0x13)
  else if s.guard.transition.isSome || !s.guard.otp.consistent then (4, 0x13)
  else if !s.nonceFits (slice b 24 16) then (5, 0x13)
  else if !(s.signerFits k (reqSigner b) && s.keyFits (reqSigner b) Config.vendorLifecycleKey key) then (6, 0x13)
  else if !pairVerifyAt key b (2112 + reqAuthLen b) then (7, 0x13)
  else if (k = 1 ∨ k = 2 ∨ k = 5) ∧ !(s.authorityOk a (reqTo b) (if k = 5 then some s.rootDigest else none) (k != 5)) then (8, 0x13)
  else if (k = 2 ∨ k = 3 ∨ k = 4) ∧ !(s.ringNos.all (fun n => (s.ring n).cls == 0 || (s.ring n).state == .disabled) && s.boards.sessions.isEmpty) then (9, 0x13)
  else if k = 6 ∧ s.tamper.lock ∧ reqMask b ≠ 2 ^ 31 then (10, 0x13)
  else (0, 0)

/-- The LIFECYCLE event (R135). -/
def lifeEvent (count : Nat) (b : Bytes) : Bytes := leBytes 1 count ++ zeros 7 ++ sha384 b

/-- A refused object: its code is shown and its ticket ends (R380). -/
def State.refuse (s : State) (t : Tk) (a : TkArg) (r : Nat × Nat) : State := { s with guard := { s.guard with lastRefusal := r.1 } }.finishWith t r.2 a.us

/-- Phase 1 of a transition: the request is stored, the nonce consumed, the LIFECYCLE event stands in the open tick (R381). -/
def State.beginTransition (s : State) (t : Tk) (b : Bytes) : State :=
  let l := s.ledger
  let tr : Transition := { kind := reqKind b, target := reqTo b, request := b, ticket := some t.id
                           waitTick := if l.running then some l.current else none, eventTick := if l.running then l.current else if reqKind b = 1 then 1 else 0 }
  ({ s with guard := { s.guard with transition := some tr, nonce := [], request0 := some b, request1 := some b } }.setTk { t with stage := .running }).addEvent 0xE (lifeEvent (reqTo b) b)

/-- The signed objects that the checks of R380 come to verify before they end with code `r`: the request, and the authority record in it. -/
def reqObjects (b : Bytes) (r : Nat) : List (Bytes × Bytes × Nat) :=
  let a := reqAuthority b
  (if r = 0 ∨ 7 ≤ r then [(slice b 64 2048, b, 2112 + reqAuthLen b)] else []) ++ (if (r = 0 ∨ 8 ≤ r) ∧ a.bytes ≠ [] then [(a.root, a.bytes, a.signedLen)] else [])

/-- A request of the kind that the command names; nothing where the ticket carries a well-formed request of another kind. -/
def State.lifeRequest (s : State) (a : TkArg) (o : ObjRead) (kind : Nat) (f : State → Tk → Bytes → State) : State :=
  s.withTk a 0x41 (fun t => s.withObj t a o (fun s b =>
    if reqForm b && reqKind b != kind then s
    else
      let r := s.reqCheck b
      s.verifyOn t (reqObjects b r.1) (fun s =>
        if r.2 ≠ 0 then s.refuse t a r
        else if !s.eventFits 56 then s.finishWith t 0x12 a.us
        else f s t b)))

/-- CLAIM (R381). -/
def execClaim (a : TkArg) (obj : ObjRead) (s : State) : Host.Outcome State Fault Refusal := .next (s.lifeRequest a obj 1 State.beginTransition)
/-- OWNER_CHANGE (R381). -/
def execOwnerChange (a : TkArg) (obj : ObjRead) (s : State) : Host.Outcome State Fault Refusal := .next (s.lifeRequest a obj 2 State.beginTransition)
/-- RETURN (R381). -/
def execReturnDevice (a : TkArg) (obj : ObjRead) (s : State) : Host.Outcome State Fault Refusal := .next (s.lifeRequest a obj 3 State.beginTransition)
/-- SCRAP (R381). -/
def execScrap (a : TkArg) (obj : ObjRead) (s : State) : Host.Outcome State Fault Refusal := .next (s.lifeRequest a obj 4 State.beginTransition)

/-- A record comes into force, with its clear copy in the system area (R245). -/
def State.setAuthority (s : State) (a : Authority) : State := { s with vault := { s.vault with authority := some a, authorityCopy := some a } }

/-- An AUTHORITY_UPDATE takes effect (R385). In LOCKDOWN there is no vault, and only the clear copy changes. -/
def State.updateAuthority (s : State) (t : Tk) (b : Bytes) (us : Nat) : State :=
  let s1 := s.setAuthority (reqAuthority b)
  let s2 := if s.vault.vaultKey.isSome then s1.writeImage else { s1 with vault := { s1.vault with authority := none } }
  ({ s2 with guard := { s2.guard with nonce := [] } }.finish t { t.receipt 0 with result := s.lifeCount } us).addEvent 0xE (lifeEvent s.lifeCount b)

/-- AUTHORITY_UPDATE (R385). -/
def execAuthorityUpdate (a : TkArg) (obj : ObjRead) (s : State) : Host.Outcome State Fault Refusal :=
  .next (s.lifeRequest a obj 5 (fun s t b => s.updateAuthority t b a.us))

/-- A CONFIG entry of the tamper log (R365, R385, R391). -/
def State.logConfig (s : State) (source level detail : Nat) : State :=
  s.logTamper { seq := 0, time := s.now, source := source, level := level, flags := 8, mode := s.power.mode.code, detail := detail % 2 ^ 24, tick := s.tickLow }

/-- Burn one fuse: KILL_ALLOWED for bit 31, else the source's, which then reads 0 (R364). Where no tick runs the burn stands in the tamper log. -/
def State.burnFuse (s : State) (n : Nat) : State :=
  let o := s.guard.otp
  let had := if n = 31 then o.killAllowed else o.fuses.getLsbD n
  if had then s
  else
    let s1 := s.setOtp (if n = 31 then { o with killAllowed := true } else { o with fuses := setBit o.fuses n true })
    let s2 := if n = 31 then s1 else s1.setSrc n { (s1.src n) with level := 0, active := false, count := 0, backupErase := false, debounce := 0 }
    if s.tickOpen then s2 else s2.logConfig n 0 0

/-- A FUSE request burns its bits, lowest first (R385); `stuck` are those that do not read 1 after the last repeat, and each raises TS30 (R375, log 117). -/
def State.burnFuses (s : State) (t : Tk) (b : Bytes) (stuck : List (Fin 32)) (us : Nat) : State :=
  let mask := (List.range 32).filter (bit (reqMask b))
  let bad := fun n => stuck.any (fun k => k.val == n)
  let s0 := (mask.filter (fun n => !bad n)).foldl State.burnFuse s
  let s1 := (mask.filter bad).foldl (fun s _ => s.raise 30 s.lifeCount) s0
  ({ s1 with guard := { s1.guard with nonce := [] } }.finish t { t.receipt 0 with result := s.lifeCount } us).addEvent 0xE (lifeEvent s.lifeCount b)

/-- FUSE (R385); no burn starts while the supply warning is asserted (R384). -/
def execFuse (a : TkArg) (obj : ObjRead) (stuck : List (Fin 32)) (s : State) : Host.Outcome State Fault Refusal :=
  .next (if s.power.warn then s else s.lifeRequest a obj 6 (fun s t b => s.burnFuses t b stuck a.us))

/-! The phases (R381). -/

/-- Work with the counter as it will stand after the transition: new keys are derived from TO_COUNT (R240, R383). -/
def State.withCount (s : State) (target : Nat) (f : State → State) : State :=
  let o := s.guard.otp
  let s1 := f (s.setOtp ((o.burnIntent target).burnDone target))
  s1.setOtp { s1.guard.otp with counter := o.counter }

/-- The keys of a new generation: enclosure key, vault with the authority record, signing pair with its certificate, vault image. -/
def State.newVault (s : State) (a : Authority) (ticket firstTick : Nat) (authorised : Bytes) : State :=
  let k := s.drawBytes 32
  let s1 := (s.drewBytes 32).setAuthority a
  let s2 := { s1 with vault := { s1.vault with enclosure := some k, vaultKey := some (s1.vaultKeyOf k) }, power := { s1.power with tamperBehind := false } }
  (s2.newSigner ticket firstTick authorised).writeImage

/-- Phase 3: wipes, and for CLAIM and OWNER_CHANGE the root digest and the new keys. -/
def State.phase3 (s : State) (t : Transition) : State :=
  match t.kind with
  | 1 =>
    let a := reqAuthority t.request
    (s.setOtp { s.guard.otp with roots := s.guard.otp.roots.ins (t.target - 2) (sha384 a.root) }).withCount t.target (fun s => s.newVault a (t.ticket.getD 0) 1 (zeros 48))
  | 2 =>
    let a := reqAuthority t.request
    ((s.setOtp { s.guard.otp with roots := s.guard.otp.roots.ins (t.target - 2) (sha384 a.root) }).wipe 2).withCount t.target (fun s => s.newVault a (t.ticket.getD 0) 1 (zeros 48))
  | k => s.wipe k

/-- The first tick of a new generation is open (R156, R381); `resumed` when a start-up lies between. -/
def State.startGeneration (s : State) (t : Transition) : State :=
  let s1 := { s with ledger := { s.ledger with uncertain := true, current := 1, began := s.now, events := [] } }
  (s1.runTicks s1.ledger.periodMs [{ type := 0xE, body := lifeEvent t.target t.request }]).openAllEpochs.writeImage

/-- The receipt of a transition, where a ticket still waits for it. -/
def State.lifeReceipt (s : State) (t : Transition) : State :=
  match t.ticket.bind s.tk? with
  | some tk => s.finish tk { tk.receipt 0 with result := s.lifeCount, tick := t.eventTick % 2 ^ 32, fixedTick := true } 0
  | none => s

/-- Phase 4: the done bit, and what follows it. Outside OWNED the device stays in REST; a new generation starts as at a start-up (R377, R381). -/
def State.phase4 (s : State) (t : Transition) : State :=
  let s1 := (s.setOtp (s.guard.otp.burnDone t.target)).endPass
  let s2 := { s1 with guard := { s1.guard with transition := none, request0 := none, request1 := none } }
  match t.kind with
  | 4 => State.holdCore ((s2.setOtp s2.guard.otp.burnRest).lifeReceipt t)
  | 3 => (({ s2 with power := { s2.power with mode := .rest, lockCause := 0, hbStopped := none } }).devEvent 1).lifeReceipt t
  | _ => ((if s2.power.mode == .rest then s2 else { s2 with power := { s2.power with mode := .rest, lockCause := 0, hbStopped := none } }.devEvent 1).startGeneration t).lifeReceipt t

/-- One phase of the transition in progress; a KILL whose burns waited is carried out. `stuck` says that a bit of the phase does not read 1 after the last repeat: TS30 is raised,
and the phase has not ended (R375, log 117). -/
def State.advance (s : State) (stuck : Bool) : State :=
  match s.guard.transition with
  | none => s
  | some t =>
    if s.power.warn then s
    else if stuck then s.raise 30 t.target
    else if t.kill then s.killBurns
    else match t.phase with
      | 1 =>
        if (match t.waitTick with | some n => decide (n ≤ s.ledger.durableTick) | none => true) then
          { s with guard := { s.guard with otp := s.guard.otp.burnIntent t.target, transition := some { t with phase := 2 } } }
        else s
      | 2 => if t.kind ≤ 2 ∧ !s.entropyOk then s else { (s.phase3 t) with guard := { (s.phase3 t).guard with transition := some { t with phase := 3 } } }
      | _ => s.phase4 t

/-- TRANSITION_PHASES (R381). -/
def execTransitionPhases (stuck : Bool) (s : State) : Host.Outcome State Fault Refusal :=
  let s1 := s.advance stuck
  -- a device reset that was requested meanwhile follows at the end of phase 4 (R446)
  .next (if s1.guard.transition.isNone && s1.power.resetPending && !s1.scrapped then s1.mainReset 3 1 .rest else s1)

/-! Debug passes (R387 to R392). -/

/-- Rights that a state allows (R390). -/
def State.allowedRights (s : State) : Nat := if s.lifeCount = 2 then 0x12 else if s.owned then 0xDF else if s.lifeCount = 19 then 0xFF else 0

/-- The checks of R391: refusal code and status. -/
def State.passCheck (s : State) (b : Bytes) : Nat × Nat :=
  let signer := fld b 2 1
  let rights := fld b 4 4
  let expiry := fld b 40 4
  let key := slice b 48 2048
  if ¬ (b.length = 5504 ∧ fld b 0 2 = 1 ∧ 1 ≤ signer ∧ signer ≤ 2 ∧ 1 ≤ expiry ∧ expiry ≤ 2592000 ∧ rights < 256 ∧ fld b 44 4 = 0 ∧ allZero (slice b 5501 3)) then (1, 0x10)
  else if slice b 8 16 ≠ s.unitId ∨ fld b 3 1 ≠ s.lifeCount then (2, 0x13)
  else if s.allowedRights = 0 ∨ signer ≠ (if s.owned then 2 else 1) then (3, 0x13)
  else if s.guard.transition.isSome then (4, 0x13)
  else if !s.nonceFits (slice b 24 16) then (5, 0x13)
  else if !s.keyFits signer Config.vendorDebugKey key then (6, 0x13)
  else if !pairVerifyAt key b 2096 then (7, 0x13)
  else if rights &&& s.allowedRights = 0 then (11, 0x13)
  else (0, 0)

/-- An accepted pass replaces the one before it. Where no tick runs it stands in the tamper log as a CONFIG entry of the debug port's source (log 36). -/
def State.takePass (s : State) (t : Tk) (b : Bytes) (us : Nat) : State :=
  let rights := fld b 4 4 &&& s.allowedRights
  let s1 := { s with guard := { s.guard with nonce := [], passRights := BitVec.ofNat 32 rights, passActive := true, passVendor := fld b 2 1 == 1
                                             passEnds := s.now + fld b 40 4 * periodCounts s.ledger.periodInForce } }
  let s2 := if s.tickOpen then s1 else s1.logConfig 29 0 rights
  (s2.finish t { t.receipt 0 with result := rights } us).addEvent 0xF (leBytes 4 rights ++ zeros 4 ++ sha384 b)

/-- DEBUG_PASS (R391). -/
def execDebugPass (a : TkArg) (obj : ObjRead) (s : State) : Host.Outcome State Fault Refusal :=
  .next (s.withTk a 0x42 (fun t => s.withObj t a obj (fun s b =>
    let r := s.passCheck b
    s.verifyOn t (if r.1 = 0 ∨ 7 ≤ r.1 then [(slice b 48 2048, b, 2096)] else []) (fun s =>
      if r.2 ≠ 0 then s.refuse t a r
      else if !s.eventFits 56 then s.finishWith t 0x12 a.us
      else s.takePass t b a.us))))

/-- A new device nonce replaces any earlier one (R388). -/
def State.drawNonce (s : State) : State := { (s.drewBytes 16) with guard := { s.guard with nonce := s.drawBytes 16 } }

/-- NEW_NONCE (R388). -/
def execNewNonce (s : State) : Host.Outcome State Fault Refusal := .next s.drawNonce
/-- END_PASS (R392). -/
def execEndPass (s : State) : Host.Outcome State Fault Refusal := .next s.endPass
/-- PASS_EXPIRY (R392): secure time has reached the end of the pass. -/
def execPassExpiry (s : State) : Host.Outcome State Fault Refusal := .next (if s.guard.passActive then (s.reach s.guard.passEnds).endPass else s)

/-! The counter (R376). -/

/-- COUNTER_CHECK: an inconsistent counter raises TS30 with the step. `damaged` is the step that damage shows. -/
def State.counterCheck (s : State) (damaged : Option Nat) : State :=
  match damaged with
  | some k => s.raise 30 k
  | none => if s.guard.otp.consistent then s else s.raise 30 (s.guard.otp.torn.getD s.lifeCount)

def execCounterCheck (damaged : Option Nat) (s : State) : Host.Outcome State Fault Refusal := .next (s.counterCheck damaged)

/-! LOCKDOWN release (R401 to R403). -/

/-- The checks of R402: refusal code and status. -/
def State.releaseCheck (s : State) (b : Bytes) : Nat × Nat :=
  let al := fld b 24 4
  let key := slice b 64 2048
  let a : Authority := { bytes := slice b 2112 al }
  if ¬ (2112 ≤ b.length ∧ b.length = 5520 + al ∧ 10864 ≤ al ∧ fld b 0 2 = 1 ∧ fld b 2 1 = 0 ∧ allZero (slice b 28 36) ∧ allZero (slice b (b.length - 3) 3)) then (1, 0x10)
  else if slice b 8 16 ≠ s.unitId ∨ fld b 3 1 ≠ s.lifeCount then (2, 0x13)
  else if s.power.mode ≠ .lockdown ∨ fld b 4 4 ≠ max s.power.lockCountBd s.power.lockCountSa then (3, 0x13)
  else if !(s.owned && decide (sha384 key = s.rootDigest)) then (4, 0x13)
  else if !pairVerifyAt key b (2112 + al) then (5, 0x13)
  else if !s.authorityOk a s.lifeCount (some s.rootDigest) true then (6, 0x13)
  else if (List.range 31).any (fun n => (s.src n).active && decide (4 ≤ (s.src n).level) && !s.fused n) || !s.entropyOk then (7, 0x13)
  else (0, 0)

/-- The first tick that waits for a signature: the oldest build, or the open tick. -/
def State.firstUnsigned (s : State) : Nat := match s.ledger.builds with | t :: _ => t.at_.tick | [] => s.ledger.current

/-- An accepted release (R403, R141). -/
def State.releaseLockdown (s : State) (ticket : Nat) (b : Bytes) : State :=
  let a : Authority := { bytes := slice b 2112 (fld b 24 4) }
  let s0 := if s.power.lossInLockdown then { s with tabs := { s.tabs with days := [] } } else s
  let s1 := s0.newVault a ticket s.firstUnsigned (sha384 b)
  let s2 := { s1 with ledger := { s1.ledger with signerDue := some (sha384 b), restart := true }
                      power := { s1.power with mode := .rest, lockCause := 0, hbStopped := none, tamperBehind := false, lossInLockdown := false } }
  (((s2.runTicks s2.ledger.periodInForce [s2.restartEvent 2]).openAllEpochs).writeImage).devEvent 1

/-- LOCKDOWN_RELEASE (R403). -/
def execLockdownRelease (a : TkArg) (obj : ObjRead) (s : State) : Host.Outcome State Fault Refusal :=
  .next (s.withTk a 0x40 (fun t => s.withObj t a obj (fun s b =>
    let r := s.releaseCheck b
    let c : Authority := { bytes := slice b 2112 (fld b 24 4) }
    s.verifyOn t ((if r.1 = 0 ∨ 5 ≤ r.1 then [(slice b 64 2048, b, 2112 + fld b 24 4)] else []) ++ (if r.1 = 0 ∨ 6 ≤ r.1 then [(c.root, c.bytes, c.signedLen)] else [])) fun s =>
    if r.2 ≠ 0 then { s with power := { s.power with lockRefusal := r.1 } }.finishWith t r.2 a.us
    else (s.releaseLockdown t.id b).finishWith t 0 a.us)))

end Sys2Proof.Machine
end

