-- ==== Sys2Proof/Machine/Faults.lean ====
section
/-! DEFINITION. Detected faults and what follows them: stalls, cipher and hash engines, ledger hashers, PKE engines, random generators (chapters 06 to 09 and 17). -/

namespace Sys2Proof.Machine

/-- A unit that works, drains or is under test can show a fault; one that is out shows none. -/
def UnitState.inService (u : UnitState) : Bool := u == .active || u == .draining || u == .underTest || u == .standingIn

/-! Stalls (R172 to R175). -/

/-- Work slots that a stall's fault discards: those it runs (R171, R431). -/
def State.slotsOf (s : State) (a : Nat) : Nat := match s.standsFor a with | some st => s.slotsHeld st | none => 0

/-- A mismatch reaches the monitor on crossing 53 and is counted for TS25; it escalates where the count is reached (R354, R429). -/
def State.escalate25 (s : State) (a : Nat) : State :=
  if s.tamper.lockstepCount ≤ s.tamper.mismatches.length then s.raise 25 a else s

/-- A stall's lockstep mismatch, or an overrun handled as one. -/
def State.mismatch (s : State) (a cls detail interrupt : Nat) : State :=
  let s1 := (s.pulse 53).countMismatch
  (s1.stallFault a cls detail interrupt (decide (s1.tamper.lockstepCount ≤ s1.tamper.mismatches.length))).escalate25 a

/-- LOCKSTEP_MISMATCH (R172). -/
def execLockstepMismatch (unit interrupt : Nat) (s : State) : Host.Outcome State Fault Refusal :=
  .next (if unitLevel unit = some 3 ∧ (s.unitSt unit).state.inService then s.mismatch unit 0x01 (s.slotsOf unit) interrupt else s)

/-- The applet of the item with which the unit has run past a worst case (R175). -/
def State.overrunApplet (s : State) (unit : Nat) : Option Nat :=
  (s.units.items.find? (fun i => i.unit == unit && decide (i.vm.worst < i.vm.cycles))).map (fun i => match (s.tk? i.ticket).bind Tk.templ with | some p => p.applet | none => 0)

/-- WORST_CASE_OVERRUN (R175): an item has run past its worst case. -/
def execWorstCaseOverrun (unit interrupt : Nat) (s : State) : Host.Outcome State Fault Refusal :=
  .next (match s.overrunApplet unit with
    | some ap => if unitLevel unit = some 3 ∧ (s.unitSt unit).state.inService then s.mismatch unit 0x02 ap interrupt else s
    | none => s)

/-- A stall fails its tests: RETIRED, and logged with the code that failed; a spare stands in for none any more (R168, R173, R198). -/
def State.retireStall (s : State) (a code : Nat) : State :=
  let row := rowNo a
  let s1 := (s.setUState a .retired).logFault { cls := 0x03, outcome := 6, unit := a, detail := code }
  let s2 :=
    if a % 16 = 8 then s1.setSpareFor (rowAddr row) 0xF
    else if (s1.unitSt (spareAddr row)).state = .idle then (s1.setUState (spareAddr row) .standingIn).setSpareFor (rowAddr row) (a % 16)
    else s1
  s2.skipRow row

/-- The tests of a FAULTED stall end. -/
def State.stallTested (s : State) (a : Nat) (failed : Option Nat) : State :=
  let row := rowNo a
  let s1 := match failed with
    | some code => s.retireStall a code
    | none => if a % 16 = 8 then s.spareBack row else (s.setUState a .active).spareNext row
  s1.rowEvent s row

/-- STALL_TEST_COMPLETE (R173). -/
def execStallTestComplete (unit : Nat) (failedCode : Option Nat) (s : State) : Host.Outcome State Fault Refusal :=
  .next (if unitLevel unit = some 3 ∧ (s.unitSt unit).state = .faulted then s.stallTested unit failedCode else s)

/-! Engines (R211, R217, R234, R235). -/

/-- CHECK_FAULT of a row's cipher or hash engine (R211). -/
def execCheckFault (unit interrupt : Nat) (s : State) : Host.Outcome State Fault Refusal :=
  .next (if !(s.unitSt unit).state.inService then s
    else match unitLevel unit with
      | some 4 => s.engineFault unit 0x10 interrupt
      | some 5 => s.engineFault unit 0x12 interrupt
      | _ => s)

def hasherAddr (e : Nat) : Nat := 0x7000 + e

/-- LEDGER_HASHER_CHECK (R217): hasher e xor 1 takes the subtree; where that one is out too, the recovery meets a second fault (R427). -/
def State.hasherFault (s : State) (e subtree interrupt : Nat) : State :=
  let a := hasherAddr e
  (s.setUState a .faulted).logFault
    { cls := 0x13, outcome := 2, unit := a, interrupt := interrupt, detail := subtree, double := (s.unitSt (hasherAddr (e ^^^ 1))).state != .active }

def execLedgerHasherCheck (hasher subtree : Fin 8) (interrupt : Nat) (s : State) : Host.Outcome State Fault Refusal :=
  .next (if (s.unitSt (hasherAddr hasher.val)).state.inService then s.hasherFault hasher.val subtree.val interrupt else s)

/-- A datapath check of a PKE engine fails: the operation that runs there is answered ABORTED with FAULT and submitted again (R234, R235). -/
def State.pkeChecked (s : State) (e interrupt : Nat) : State :=
  match (s.pke e).run with
  | some r => (s.pkeFault e r.wait interrupt).drainPke
  | none => ((((s.setPke e {}).setUState (0x6000 + e) .faulted).poolLow s).logFault { cls := 0x14, unit := 0x6000 + e, interrupt := interrupt }).drainPke

/-- PKE_CHECK (R234). -/
def execPkeCheck (engine : Fin 16) (interrupt : Nat) (s : State) : Host.Outcome State Fault Refusal :=
  .next (if (s.unitSt (0x6000 + engine.val)).state.inService then s.pkeChecked engine.val interrupt else s)

/-- An engine fails its tests: RETIRED, and logged (R211, R219, R235, R238). -/
def State.retireEngine (s : State) (a : Nat) : State := (((s.setUState a .retired).poolLow s).logFault { cls := 0x18, outcome := 6, unit := a, detail := a }).settle

/-- The short set of a FAULTED engine ends; the entry of its fault takes the bits of the sub-tests that failed, of those in the engine's short set (R218, R237, R431). -/
def State.shortSet (s : State) (a bits_ : Nat) : State :=
  let failed := failedOf (shortBits (a / 4096)) bits_
  let s1 := match a / 4096 with
    | 4 => s.patchFault 0x10 a failed 0
    | 5 => s.patchFault 0x12 a failed 0
    | _ => s
  if failed = 0 then (s1.setUState a .active).settle else s1.retireEngine a

/-- SHORT_SET_COMPLETE (R211, R235). -/
def execShortSetComplete (unit failedBits : Nat) (s : State) : Host.Outcome State Fault Refusal :=
  .next (match unitLevel unit with
    | some l => if 4 ≤ l ∧ l ≤ 7 ∧ (s.unitSt unit).state = .faulted then s.shortSet unit failedBits else s
    | none => s)

/-! Random generators (R208, R236, R239). -/

/-- DRBG_RESEED (R239): three failures of the source's health tests in a row stop key generation, and each further one is logged. -/
def State.reseedDrbg (s : State) (healthy : Bool) : State :=
  let v := s.vault
  if healthy then { s with vault := { v with drbgReseeds := v.drbgReseeds + 1, entropyFails := 0 } }
  else
    let n := v.entropyFails + 1
    let s1 := { s with vault := { v with entropyFails := n } }
    if 3 ≤ n then s1.logFault { cls := 0x17, unit := 0, detail := n } else s1

def execDrbgReseed (healthy : Bool) (s : State) : Host.Outcome State Fault Refusal := .next (s.reseedDrbg healthy)

/-- GRINDER_RESEED (R208): a fresh seed; or a failed health test, which is logged while the grinder runs on from its seed; every third in a row is a datapath fault of the row's cipher engine. -/
def State.reseedGrinder (s : State) (row : Nat) (healthy : Bool) : State :=
  let e := s.rowEng row
  if healthy then s.seedGrinder row
  else
    let n := e.grinderFails + 1
    let s1 := (s.setRowEng row { e with grinderFails := n, grinderOk := false }).logFault { cls := 0x16, unit := cipherAddr row, detail := n }
    if n % 3 = 0 ∧ (s1.unitSt (cipherAddr row)).state.inService then s1.engineFault (cipherAddr row) 0x10 0 else s1

def execGrinderReseed (row : Fin 64) (healthy : Bool) (s : State) : Host.Outcome State Fault Refusal := .next (s.reseedGrinder row.val healthy)

/-- Engines that run a private-key operation. -/
def State.privateEngines (s : State) : List Nat :=
  (List.range 16).filter (fun e => (s.unitSt (0x6000 + e)).state.inService && (s.pke e).run.any (fun r => opKeyed r.wait.op))

/-- POOL_RESEED (R236): every third failure in a row is a datapath fault of each engine that runs a private-key operation. -/
def State.reseedPool (s : State) (healthy : Bool) : State :=
  let p := s.crypto.pke
  if healthy then { s with crypto := { s.crypto with pke := { p with reseeds := p.reseeds + 1, fails := 0 } } }
  else
    let n := p.fails + 1
    let s1 := ({ s with crypto := { s.crypto with pke := { p with fails := n } } }).logFault { cls := 0x16, unit := 0x6000, detail := n }
    if n % 3 = 0 then s1.privateEngines.foldl (fun s e => s.pkeChecked e 0) s1 else s1

def execPoolReseed (healthy : Bool) (s : State) : Host.Outcome State Fault Refusal := .next (s.reseedPool healthy)

end Sys2Proof.Machine
end

