-- ==== Sys2Proof/Machine/Ddr.lean ====
section
/-! DEFINITION. DDR4: capacity, the elastic region, errors and the recovery of lost lines, patrol scrub, self-refresh (chapter 12). -/

namespace Sys2Proof.Machine

/-! Lines (R305 to R307, R309). -/

/-- A line in DDR4: its ciphertext under the XTS pair with its address as tweak, and its MAC over address and ciphertext. The keys are 64 bytes of XTS pair and 32 of MAC key. -/
def State.lineStored (s : State) (addr : Nat) (data : Bytes) : Bytes × Bytes :=
  let c := aesXts (s.ddr.keys.take 64) true (leBytes 16 addr) data
  (c, (aesCmac (s.ddr.keys.drop 64) (leBytes 8 addr ++ c)).take 8)

/-- The data of a line as read, after ECC: released only where the MAC matches. -/
def State.lineRead (s : State) (addr : Nat) (c mac : Bytes) : Option Bytes :=
  if (aesCmac (s.ddr.keys.drop 64) (leBytes 8 addr ++ c)).take 8 = mac then some (aesXts (s.ddr.keys.take 64) false (leBytes 16 addr) c) else none

/-- Where the MAC of a channel's line stands: in its top ninth, eight to a line (R306). -/
def DdrChan.macAt (c : DdrChan) (line : Nat) : Nat := c.gib * 2 ^ 30 / 9 / 64 * 64 * 8 + 8 * line

/-- The channel that holds a byte of an ordinary region, and a byte of copy 0 or 1 of a duplicated one (R309). -/
def State.channelOf (s : State) (b : Nat) : Nat := (s.ddrPopulated).getD (b / 4096 % s.ddrPopulated.length) 0
def State.copyChannel (s : State) (copy b : Nat) : Nat := if s.ddrPopulated.length = 2 then 2 * copy else 2 * copy + b / 4096 % 2

/-! The elastic region (R309, R315). -/

/-- A share in whole per cent. -/
def State.elasticPct (s : State) (n : Nat) : Nat := if s.elasticBytes = 0 then 0 else min 100 (n * 100 / s.elasticBytes)

/-! Lost lines (R312). -/

/-- Clear data of an item that is not committed is pulled again, and the item runs again from its start. -/
def State.repullItem (s : State) (t : Tk) : State :=
  match s.units.items.find? (fun i => i.ticket == t.id) with
  | some i =>
    let s1 := s.rerunItem i true true
    match s1.tk? t.id with | some u => if u.stage = .staged then s1.setTk { u with repull := true } else s1 | none => s1
  | none =>
    if 1 ≤ t.reruns then s.skipFault t
    else s.setTk { t with repull := true, stage := .staged, stall := if t.stage = .staged then t.stall else none, result := none, reruns := t.reruns + 1, retried := true }

/-- A committed object that cannot be rebuilt: its chain record is programmed as RECORD_ONLY and its entry is LOST. -/
def State.dropObject (s : State) (e : Entry) : State :=
  let s1 := s.loseEntries e.inCrate [(e.hdr.tab, e.hdr.seq)]
  let s2 := s1.modCrate e.inCrate (fun c => { c with objects := c.objects.map (fun o => if o.type = 1 ∧ ¬ o.old ∧ o.tab = e.hdr.tab ∧ o.key = e.hdr.seq then { o with type := 2, length := e.recordLength } else o) })
  { s2 with tabs := { s2.tabs with entries := s2.tabs.entries.map (fun x =>
      if x.hdr.tab = e.hdr.tab ∧ x.hdr.seq = e.hdr.seq ∧ x.inCrate = e.inCrate then { x with recordOnly := true, cipher := [], marks := [], indexRecs := [] } else x) } }

/-- The recovery of a lost line by what it held, and its OUTCOME code. -/
def State.recoverLine (s : State) (h : LineHeld) : State × Nat :=
  match h with
  | .duplicated => (s, 4)
  | .basket => (s, 4)
  | .tabIndex => (s, 4)
  | .mirror => ({ s with ddr := { s.ddr with mirrorLost := s.ddr.mirrorLost + 1 } }, 0)
  | .clear id =>
    match s.tk? id with
    | some t => if (t.tk.opcode = 1 ∨ t.tk.opcode = 2) ∧ (t.stage = .staged ∨ t.stage = .running ∨ t.stage = .ready ∧ t.result.any (fun r => r.kind != 2)) then (s.repullItem t, if 1 ≤ t.reruns then 5 else 2) else (s, 0)
    | none => (s, 0)
  | .committed tab seq rebuilt =>
    match s.entry? tab seq with
    | some e => if e.programmed ∨ ¬ e.hdr.stored ∨ e.lost then (s, 0) else if rebuilt then (s, 4) else (s.dropObject e, 7)
    | none => (s, 0)

/-! Errors (R311). -/

/-- A TS26 event reaches the monitor on crossing 54. -/
def State.raise26 (s : State) (chan what : Nat) : State := (s.pulse 54).raise 26 (16 * chan + what)

def ddrDetail (chan page : Nat) : Nat := chan * 2 ^ 24 + page % 2 ^ 24

/-- A page is retired; each retirement beyond the spare pages raises TS26. -/
def State.retirePage (s : State) (chan page : Nat) : State :=
  let c := s.ddrChan chan
  if c.retiredPages.contains page then s
  else
    let s1 := s.setDdrChan chan { c with spares := c.spares - 1, retiredPages := c.retiredPages ++ [page], ce := c.ce.filter (fun p => p.1 != page) }
    let s2 := State.logFault { s1 with ddr := { s1.ddr with retired := sat 16 (s1.ddr.retired + 1) } } { cls := 0x23, outcome := 6, unit := 0x9000, detail := ddrDetail chan page, escalated := decide (c.spares = 0) }
    if c.spares = 0 then s2.raise26 chan 2 else s2

/-- A corrected error: the page is retired once it has COUNT of them within 24 h. -/
def State.correctedError (s : State) (chan page : Nat) : State :=
  let c := s.ddrChan chan
  let ce := c.ce.filter (fun p => decide (s.now < p.2 + 86400 * hz)) ++ [(page, s.now)]
  let s1 := State.setDdrChan { s with ddr := { s.ddr with ce := sat 16 (s.ddr.ce + 1) } } chan { c with ce := ce }
  let s2 := s1.logFault { cls := 0x20, outcome := 1, unit := 0x9000, detail := ddrDetail chan page }
  if max 1 s.ddr.ceRetire ≤ ce.countP (fun p => p.1 == page) then s2.retirePage chan page else s2

/-- A channel on which more than 64 pages lose lines within 1 s is FAILED. -/
def State.checkDdrChan (s : State) (chan : Nat) : State :=
  let c := s.ddrChan chan
  if 64 < ((c.lostPages.filter (fun p => decide (s.now < p.2 + hz + 1))).map (·.1)).dedup.length then
    ((s.setDdrChan chan { c with state := .failed, rate := 0 }).logFault { cls := 0x24, outcome := 6, unit := 0x9000, detail := chan, escalated := true }).raise26 chan 3
  else s

/-- The recovery of lines, with the gravest of their OUTCOME codes. -/
def State.recoverLines (s : State) (l : List LineHeld) : State × Nat := l.foldl (fun r h => let q := r.1.recoverLine h; (q.1, max r.2 q.2)) (s, 0)

/-- A lost line, or all that a lost line of MACs covers: recovered, its page retired. -/
def State.lostLine (s : State) (chan page : Nat) (mac : Bool) (held : List LineHeld) (interrupt : Nat) : State :=
  let d := s.ddr
  let s1 := { s with ddr := if mac then { d with macFail := sat 16 (d.macFail + 1) } else { d with ue := sat 16 (d.ue + 1) } }
  let c := s1.ddrChan chan
  let s2 := s1.setDdrChan chan { c with lostPages := c.lostPages.filter (fun p => decide (s.now < p.2 + hz + 1)) ++ [(page, s.now)] }
  let r := s2.recoverLines held
  let s3 := r.1.logFault { cls := if mac then 0x22 else 0x21, outcome := r.2, unit := 0x9000, interrupt := interrupt, detail := ddrDetail chan page, escalated := mac }
  let s4 := (s3.retirePage chan page).checkDdrChan chan
  if mac then s4.raise26 chan 1 else s4

/-- The channel takes an access: it leaves self-refresh (R314). -/
def State.touchDdr (s : State) (chan : Nat) : State :=
  let c := s.ddrChan chan
  if c.state = .selfRefresh ∨ c.state = .active then s.setDdrChan chan { c with state := .active, usedAt := s.now } else s

/-- A read of a page shows an error. No read completes while the supply warning or a lost clock pauses the controller (R313, R425). -/
def State.ddrErr (s : State) (chan page : Nat) (e : DdrErr) (held : List LineHeld) (interrupt : Nat) : State :=
  let c := s.ddrChan chan
  if !s.ddrRuns || s.power.warn || s.power.pllSwitching || !(c.state == .active || c.state == .selfRefresh) || c.retiredPages.contains page || decide (c.gib * 262144 ≤ page) then s
  else
    let s1 := s.touchDdr chan
    match e with
    | .corrected => s1.correctedError chan page
    | .uncorrectable => s1.lostLine chan page false (held.take 1) interrupt
    | .mac => s1.lostLine chan page true (held.take 1) interrupt
    | .macLine => s1.lostLine chan page false (held.take 8) interrupt

/-- DDR_ERROR (R311). -/
def execDdrError (chan : Fin 4) (page : Nat) (err : DdrErr) (held : List LineHeld) (interrupt : Nat) (s : State) : Host.Outcome State Fault Refusal :=
  .next (s.ddrErr chan.val page err held interrupt)

/-- PATROL_SCRUB (R313): one pass over every line, with the errors it meets; after the first, each ends DDR.SCRUB.HOURS after the one before it. -/
def State.patrol (s : State) (errors : List PatrolErr) : State :=
  if !s.ddrRuns || s.power.warn || s.power.pllSwitching then s
  else
    let s0 := if 0 < s.ddr.patrols then s.reach (s.ddr.patrolledAt + s.ddr.scrubHours * 3600 * hz) else s
    let s1 := (List.range 4).foldl State.touchDdr s0
    let s2 := errors.foldl (fun s e => s.ddrErr e.chan.val e.page e.err e.held 0) s1
    { s2 with ddr := { s2.ddr with patrols := s2.ddr.patrols + 1, patrolledAt := s2.now } }

def execPatrolScrub (errors : List PatrolErr) (s : State) : Host.Outcome State Fault Refusal := .next (s.patrol errors)

/-- SELF_REFRESH (R314): in REST a channel enters it once it has been idle for DDR.PWR.IDLE_MS; the next access leaves it. -/
def State.selfRefresh (s : State) (chan : Nat) (enter : Bool) : State :=
  if enter then
    (if s.power.mode == .rest && decide (s.ddr.idleMs ≠ 0) && s.ddrRuns && (s.ddrChan chan).state == .active then
      (let s1 := s.reach ((s.ddrChan chan).usedAt + msCounts s.ddr.idleMs); s1.setDdrChan chan { s1.ddrChan chan with state := .selfRefresh }) else s)
  else s.touchDdr chan

def execSelfRefresh (chan : Fin 4) (enter : Bool) (s : State) : Host.Outcome State Fault Refusal := .next (s.selfRefresh chan.val enter)

/-- ELASTIC_FILL_COMPLETE (R310). -/
def execElasticFillComplete (s : State) : Host.Outcome State Fault Refusal :=
  .next (if s.ddr.state = .filling ∨ s.ddr.state = .rekeying then { s with ddr := { s.ddr with state := .ready } } else s)

end Sys2Proof.Machine
end

