-- ==== Sys2Proof/Machine/Monitors.lean ====
section
/-! DEFINITION. Tamper detections, the backup domain's actions, the levels and their lock, the two logs' writes to flash (chapters 14 and 17). -/

namespace Sys2Proof.Machine

/-- Main power runs the monitor domain, and the core is not held in reset for good. -/
def State.mainOn (s : State) : Bool := s.power.pwrOk && s.power.mode != .backup && s.power.mode != .off && !s.scrapped

/-- A TS27 event has come to the monitor over crossing 55 (R416). -/
def State.arrived27 (s : State) (dets : List Det) : State :=
  if s.armed 27 && dets.any (fun d => d.source == 27) then { s with power := { s.power with hTotal := s.power.hTotal.set zeroOf 55 ((s.power.hTotal.get zeroOf 55 + 1) % 65536) } } else s

/-- TAMPER_DETECTION (R355 to R360): the sources that detect in one monitor cycle, and the fraction of the RTC count in monitor cycles. -/
def execTamperDetection (dets : List Det) (fraction : Nat) (s : State) : Host.Outcome State Fault Refusal :=
  .next (if s.mainOn then (s.arrived27 dets).detect dets fraction 0 else s)

/-- One detection in BACKUP: LOG, or ERASE of BBRAM (R361). A stopped crystal leaves secure time uncertain (R156, R354). -/
def State.backupOne (s : State) (n : Nat) : State :=
  let c := s.src n
  let s1 := s.setSrc n { c with active := true }
  let s2 := s1.ringPut { main := false, erased := c.backupErase && s.vault.enclosure.isSome, action := if c.backupErase then 2 else 1, source := n, rtc := s.now }
  let s3 := if c.backupErase then { s2 with vault := { s2.vault with enclosure := none } } else s2
  if n = 9 then { s3 with ledger := { s3.ledger with uncertain := true }, power := { s3.power with xtalRc := true } } else s3

/-- BACKUP_DETECTION (R361): only TS00 to TS09 are powered. -/
def State.backupDetect (s : State) (dets : List Det) : State :=
  if s.power.mode = .backup then (dets.filter (fun d => decide (d.source ≤ 9))).foldl (fun s d => if s.armed d.source then s.backupOne d.source else s) s else s

def execBackupDetection (dets : List Det) (s : State) : Host.Outcome State Fault Refusal := .next (s.backupDetect dets)

/-- CONDITION_CLEARED (R355): the condition of a source is absent, and the source can detect again. -/
def State.clearCondition (s : State) (n : Nat) : State :=
  let s1 := s.setSrc n { s.src n with active := false }
  if n = 9 then { s1 with power := { s1.power with xtalRc := false } } else s1

def execConditionCleared (source : Fin 32) (s : State) : Host.Outcome State Fault Refusal := .next (s.clearCondition source.val)

/-- TAMPER_LOG_FLUSH (R362, R368). -/
def execTamperLogFlush (s : State) : Host.Outcome State Fault Refusal := .next s.flushTamper
/-- FAULT_LOG_FLUSH (R430). -/
def execFaultLogFlush (s : State) : Host.Outcome State Fault Refusal := .next s.flushFaults

/-! Levels (R358, R365, R374). -/

/-- TAMPER.CTRL.LOCK written 1. -/
def State.lockTamper (s : State) : State := if s.power.mode == .lockdown then s else { s with tamper := { s.tamper with lock := true } }

def execLock (s : State) : Host.Outcome State Fault Refusal := .next s.lockTamper

/-- The LEVEL that a write leaves: 5 needs the KILL_ALLOWED fuse, 6 and 7 change nothing. -/
def levelStored (old new : Nat) (kill : Bool) : Nat := if new = 5 then (if kill then 5 else 4) else if 6 ≤ new then old else new

/-- A source's fields as a write of TAMPER.SRC sets them. -/
def Src.write (c : Src) (n v : Nat) (kill : Bool) : Src :=
  { c with level := levelStored c.level (bits v 29 3) kill, backupErase := if n ≤ 9 then bit v 28 else c.backupErase, debounce := if n ≤ 9 then min 64 (bits v 16 8) else c.debounce }

/-- Does the change lower protection (R365)? -/
def Src.lowers (old new : Src) : Bool := decide (new.level < old.level) || (old.backupErase && !new.backupErase) || decide (old.debounce < new.debounce)

/-- A write of TAMPER.SRC: nothing for a fused source, in LOCKDOWN, or where LOCK forbids it; each change is logged. -/
def State.writeSrc (s : State) (n v : Nat) : State :=
  let c := s.src n
  let d := c.write n v s.guard.otp.killAllowed
  if s.power.mode == .lockdown || s.fused n || (s.tamper.lock && c.lowers d) || c == d then s
  else (s.setSrc n d).logConfig n d.level 0

/-- TAMPER_SRC_WRITE (R365). -/
def execTamperSrcWrite (source : Fin 32) (value : BitVec 32) (s : State) : Host.Outcome State Fault Refusal := .next (s.writeSrc source.val value.toNat)

/-- A write of TAMPER.LOCKSTEP; 0 is stored as 1. A change is logged as a CONFIG entry of TS25 (log 39). -/
def State.writeLockstep (s : State) (v : Nat) : State :=
  let w := max 1 (bits v 16 16)
  let c := max 1 (bits v 0 16)
  if s.power.mode == .lockdown || (w == s.tamper.windowMs && c == s.tamper.lockstepCount) then s
  else State.logConfig { s with tamper := { s.tamper with windowMs := w, lockstepCount := c } } 25 (s.src 25).level 0

end Sys2Proof.Machine
end

