-- ==== Sys2Proof/Machine/FlashCmds.lean ====
section
/-! DEFINITION. Flash targets: lost operations, recovery and loss of targets, and the ONFI commands of R264 (chapters 10 and 11). -/

namespace Sys2Proof.Machine

/-- The bytes of a target's parameter page (R260). -/
def State.pageByte (s : State) (t off : Nat) : Nat := fld (s.page t) off 1

/-- A target that takes commands: present, not lost, and not being recovered (R266). -/
def State.answers (s : State) (t : Nat) : Bool := s.serves t && (s.target t).state != .recovering

/-- A lane of the live crates that stands on a lane block: crate and lane number. -/
def State.laneUser (s : State) (t block : Nat) : Option (Nat × Nat) :=
  (s.flash.crates.filter (fun c => c.state != .prepared)).findSome? (fun c => (c.lanes.findIdx? (fun l => l.target == t && l.block == block)).map (fun i => (c.id, i)))

/-- A program or erase on a lane block has not been done: the lane is lost for its crate (R279). -/
def State.loseOp (s : State) (t block : Nat) : State :=
  match s.flash.crates.find? (fun c => c.state == .prepared && c.lanes.contains { target := t, block := block }) with
  | some c => s.reform c
  | none => match s.laneUser t block with | some (id, lane) => s.loseLane id lane | none => s

/-- FLASH_OP_FAIL: status FAIL of a program or erase; the block is a grown bad block (R298, R421). -/
def State.opFail (s : State) (t lun plane block : Nat) : State :=
  (s.blockFails t lun plane block).loseOp t block

/-! Features and read levels (R260, R264, R280, R294). -/

/-- A register of a target set as a kind-1 or kind-2 parameter is: by SET FEATURES by LUN at an address, or by a vendor opcode with a feature index (R260). -/
def Target.setParam (x : Target) (kind fa op lun index v : Nat) : Target :=
  match kind with
  | 1 => { x with features := x.features.set zeroOf (256 * lun + fa + index) v }
  | 2 => { x with vendor := x.vendor.set zeroOf ((8 * op + lun) * 256 + index) v }
  | _ => x

/-- Set a LUN's retry level to an entry of RETRY_TABLE (R280). -/
def State.setRetry (s : State) (t lun level : Nat) : State :=
  let b := s.pageByte t
  let x := (s.target t).setParam (b 36) (b 37) (b 39) lun 0 (fld (s.page t) (40 + 4 * level) 4)
  s.setTarget t { x with retry := x.retry.set zeroOf lun level }

/-- Four read-level offsets as P1 to P4. -/
def levelWord (l : List (BitVec 8)) (k : Nat) : Nat := leNat ((List.range 4).map (fun i => l.getD (4 * k + i) 0))

/-- The calibrated offsets of a LUN are applied through LEVEL_KIND, four for each command, as before every read (R260, R294). -/
def State.applyLevels (s : State) (t lun : Nat) : State :=
  let b := s.pageByte t
  let l := (s.target t).offsets.get (fun _ => []) lun
  s.setTarget t ((List.range (ceilDiv (b 171) 4)).foldl (fun x k => x.setParam (b 168) (b 169) (b 170) lun k (levelWord l k)) (s.target t))

/-! Decoding (R280, R281). -/

/-- The step of R280 at which a codeword comes out, with so many retry levels to try; a good codeword is one whose CRC matches. -/
def stepOf (levels : Nat) (c : Codeword) : Nat :=
  if c.hard = .good then 1
  else if c.minSum = .good then 2
  else if (c.retry.take levels).contains .good then 3
  else if c.soft1 = .good ∨ c.soft2 = .good then 4 else 5

/-- The retry levels that step 3 may try on a target: up to RETRY_MAX, and no more than it has (R280, R302). -/
def State.retryLevels (s : State) (t : Nat) : Nat := if s.pageByte t 36 = 0 then 0 else min s.flash.retryMax (s.pageByte t 38)

/-- Codewords that reached step 4 or step 5 are counted in FLASH.ECC, and for the target's next calibration (R280, R294). -/
def State.countSoft (s : State) (t n : Nat) : State :=
  let s1 := s.setTarget t { (s.target t) with softSince := (s.target t).softSince + n }
  { s1 with flash := { s1.flash with soft := sat 16 (s1.flash.soft + n) } }

/-- Codewords of a lane block have been reconstructed: they are counted, for its retirement too, and logged (R280, R281, R298). -/
def State.reconstructed (s : State) (t block id n : Nat) : State :=
  let s1 := { s with flash := { s.flash with reconstructed := sat 16 (s.flash.reconstructed + n), step5 := s.flash.step5 ++ List.replicate n (t, block, s.now) } }
  s1.logFault { cls := 0x35, outcome := 4, unit := 0x8000, detail := id }

/-- Codewords of a read that no step gave are reconstructed while at most two lanes lack there (R281). -/
def State.reconstruct (s : State) (t block n : Nat) : State :=
  match s.laneUser t block with
  | none => s
  | some (id, lane) =>
    let lost := ((s.crate? id).map Crate.lostLanes).getD []
    if n = 0 ∨ 2 ≤ (lost.filter (· != lane)).length then s else s.reconstructed t block id n

/-- A read is done: its codewords are decoded, level 0 is set again where step 3 was tried, and what no step gives is reconstructed. `failed` says that no codeword came. -/
def State.readDone (s : State) (t : Nat) (o : LunOp) (failed : Bool) : State :=
  let n := s.retryLevels t
  let steps := o.cws.map (fun c => if failed then 5 else stepOf n c)
  let s1 := s.countSoft t (steps.countP (fun k => decide (4 ≤ k)))
  let s2 := if steps.any (fun k => decide (3 ≤ k)) && decide (0 < n) then s1.setRetry t o.lun 0 else s1
  let l : Lane := { target := t, block := o.block }
  (s2.setLane l { s2.lane l with reads := (s2.lane l).reads + 1 }).reconstruct t o.block (steps.countP (fun k => decide (k = 5)))

/-! Operations of a LUN (R263 to R266). -/

/-- Milliseconds and microseconds as counts of secure time, rounded up. -/
def msUp (n : Nat) : Nat := ceilDiv (n * 32768) 1000
def usUp (n : Nat) : Nat := ceilDiv (n * 32768) 1000000

/-- The timeout of an operation (R264). -/
def LunKind.timeout : LunKind → Nat
  | .read => msUp 2 | .program => msUp 10 | .erase => msUp 30

/-- The operation that a LUN works on. -/
def Target.opOf (x : Target) (lun : Nat) : Option LunOp := x.ops.find? (fun o => o.lun == lun && !o.suspended)

/-- May a waiting operation start: its LUN works on nothing, and a suspended erase there lets reads by, up to 8 of them (R265)? -/
def Target.mayStart (x : Target) (o : LunOp) : Bool :=
  (x.opOf o.lun).isNone && x.ops.all (fun e => e.lun != o.lun || (o.kind == .read && decide (e.served < 8)))

/-- May operations start on a target: it answers, no work of its own waits, and nothing holds the array back (R263, R266, R267, R413)? -/
def State.opsRun (s : State) (t : Nat) : Bool := s.answers t && (s.target t).work.isNone && !s.power.warn && !s.power.pllSwitching

/-- A waiting operation starts. -/
def State.startOp (s0 : State) (t : Nat) (o : LunOp) : State :=
  let s := if o.kind = .read then s0.applyLevels t o.lun else s0
  let x := s.target t
  s.setTarget t { x with
    queue := x.queue.erase o
    ops := x.ops.map (fun e => if e.lun = o.lun then { e with served := e.served + 1 } else e) ++ [{ o with deadline := s.now + o.kind.timeout }] }

/-- A suspended erase on whose LUN nothing more is to be read for now resumes (R265). -/
def Target.resumed (now : Nat) (x : Target) : Target :=
  { x with ops := x.ops.map (fun e =>
      if e.suspended && (x.opOf e.lun).isNone && (x.work.isSome || !x.queue.any (fun o => o.lun == e.lun && x.mayStart o)) then { e with suspended := false, served := 0, deadline := now + e.left } else e) }

/-- Start what may start, class 0 first, then in turn among the other classes (R68). -/
def startGo : Nat → State → Nat → State
  | 0, s, _ => s
  | n + 1, s, t =>
    let ready := (s.target t).queue.filter (s.target t).mayStart
    match s.pickClass (4096 + t) (fun c => ready.any (fun o => o.cls.val == c)) (fun _ => 1) with
    | none => s
    | some (c, s1) => match ready.find? (fun o => o.cls.val == c) with | some o => startGo n (s1.startOp t o) t | none => s

def State.startOps (s : State) (t : Nat) : State :=
  let s1 := if s.opsRun t then startGo (s.target t).queue.length s t else s
  if s1.answers t && !s1.power.warn && !s1.power.pllSwitching then s1.setTarget t ((s1.target t).resumed s1.now) else s1

/-- A program or erase has failed; a read has brought nothing. -/
def State.opLost (s : State) (t : Nat) (o : LunOp) : State := if o.kind = .read then s.readDone t o true else s.loseOp t o.block

/-- Take the operations that `p` picks from a target: its programs and erases have failed, its reads are issued again (R266). -/
def State.abortOps (s : State) (t : Nat) (p : LunOp → Bool) : State :=
  let x := s.target t
  let gone := x.ops.filter p
  (gone.filter (fun o => o.kind != .read)).foldl (fun s o => s.opLost t o)
    (s.setTarget t { x with ops := x.ops.filter (fun o => !p o), queue := gone.filter (fun o => o.kind == .read) ++ x.queue })

/-- Every present target of a channel has become NON_RESPONSIVE within 1 s: the channel is RETIRED (R266). -/
def State.checkChannel (s : State) (c : Nat) : State :=
  let ts := (chanTargets c).filter s.present
  let at_ := ts.filterMap (fun t => (s.target t).lostAt)
  if (s.chan c).state != .retired && ts != [] && ts.all (fun t => (s.target t).state == .nonResponsive) && decide (at_.foldl max 0 ≤ at_.foldl min (at_.headD 0) + hz) then
    (s.setChan c { s.chan c with state := .retired, rate := 0 }).logFault { cls := 0x34, outcome := 6, unit := 0x8000, detail := c }
  else s

/-- A target becomes NON_RESPONSIVE until the next power-up: its operations and those queued fail, and its lanes are lost (R266, R299). -/
def State.targetDown (s : State) (t : Nat) : State :=
  let x := s.target t
  let s0 := s.setTarget t { x with state := .nonResponsive, ops := [], queue := [], work := none, lostAt := some s.now }
  let s1 := (x.ops ++ x.queue).foldl (fun s o => s.opLost t o) s0
  ((s1.loseTarget t).logFault { cls := 0x33, outcome := 6, unit := 0x8000, detail := t }).checkChannel (t / 16)

/-- One step of R266 in the fault log. -/
def State.logStep (s : State) (t step outcome : Nat) : State := s.logFault { cls := 0x32, outcome := outcome, unit := 0x8000, detail := 16 * t + step }

/-- What a RESET leaves of a target: no operation, no feature, no training (R264). -/
def Target.afterReset (x : Target) : Target :=
  { x with ops := [], features := [], vendor := [], retry := [], zqLong := false, zqShort := false, dqTrained := false, txTrained := false, rxTrained := false, resets := sat 8 (x.resets + 1) }

/-- What the trainings of a recovery or bring-up leave. -/
def Target.trained (x : Target) : Target := { x with zqLong := true, zqShort := true, dqTrained := true, txTrained := true, rxTrained := true, idOk := true, paramOk := true }

/-- Steps 4 and 5 of R266: features are applied again, and what waited starts. A target that cannot be retrained is lost as one that fails a retraining is (R263). -/
def State.recoverTarget (s : State) (t : Nat) (idOk trainOk : Bool) (feats vend : SMap Nat) : State :=
  let s1 := s.logStep t 4 (if idOk && trainOk then 1 else 0)
  if idOk && trainOk then (s1.setTarget t { (s1.target t).trained with state := .inService, features := feats, vendor := vend, trainedAt := s.now, trainDue := false, work := none }).startOps t
  else (s1.logStep t 5 0).targetDown t

/-- Steps 2 to 5 of R266 on a target that is RECOVERING. The operands are how they go. -/
def State.recovery (s1 : State) (t : Nat) (lunOk targetOk idOk trainOk : Bool) : State :=
  let x := s1.target t
  let s2 := s1.logStep t 2 0
  if lunOk then s2.recoverTarget t idOk trainOk x.features x.vendor
  else
    let s3 := (s2.abortOps t (fun _ => true)).logStep t 3 0
    let s4 := s3.setTarget t (s3.target t).afterReset
    if targetOk then s4.recoverTarget t idOk trainOk x.features x.vendor else (s4.logStep t 5 0).targetDown t

/-- FLASH_TIMEOUT (R266): secure time has reached the timeout of a LUN's operation, which has failed. -/
def State.timeout (s0 : State) (t lun : Nat) (lunOk targetOk idOk trainOk : Bool) : State :=
  let s := match (s0.target t).opOf lun with | some o => s0.reach o.deadline | none => s0
  let x := s.target t
  let mine := x.ops.filter (fun o => o.lun == lun)
  let s1 := (s.setTarget t { x with state := .recovering, timeouts := sat 8 (x.timeouts + 1), ops := x.ops.filter (fun o => o.lun != lun) }).logFault { cls := 0x30, unit := 0x8000, detail := 16 * t + lun }
  (mine.foldl (fun s o => s.opLost t o) s1).recovery t lunOk targetOk idOk trainOk

/-- A timeout that expires during the supply warning waits for its end (R267). -/
def execFlashTimeout (target lun : Nat) (lunResetOk targetResetOk idOk trainOk : Bool) (s : State) : Host.Outcome State Fault Refusal :=
  .next (if !s.answers target || decide ((s.geo target).luns ≤ lun) then s
    else if s.power.warn then { s with flash := { s.flash with overdue := s.flash.overdue ++ [{ target := target, lun := lun, lunResetOk := lunResetOk, targetResetOk := targetResetOk, idOk := idOk, trainOk := trainOk }] } }
    else s.timeout target lun lunResetOk targetResetOk idOk trainOk)

/-! The ONFI commands (R255, R264, R265). -/

/-- The CE pin of a target, by channel × 4 + pin; does it carry more than one volume (R254, R255)? -/
def cePin (t : Nat) : Nat := t / 4
def State.shared (s : State) (t : Nat) : Bool := decide (1 < (List.range 4).countP (fun v => s.present (4 * cePin t + v)))

/-- VOLUME SELECT comes before each command to a target whose CE pin carries more volumes (R255). -/
def State.selectVolume (s : State) (t : Nat) : State :=
  if s.shared t then { s with flash := { s.flash with selected := s.flash.selected.set zeroOf (cePin t) (t % 4) } } else s

/-- A command goes to a target that answers; none starts during the supply warning or while the group's domain is paused, and a gated group wakes (R267, R413, R414). -/
def State.fc (s : State) (t : Nat) (f : State → Target → State) : State :=
  if !s.answers t || s.power.warn || s.power.pllSwitching then s
  else let s1 := (s.wakeGroup (t / 128)).selectVolume t; f s1 (s1.target t)

/-- Change the target. -/
def State.fcSet (s : State) (t : Nat) (f : Target → Target) : State := s.fc t (fun s x => s.setTarget t (f x))

/-- RESET (R264): it aborts every operation of the target. -/
def execFcReset (target : Nat) (s : State) : Host.Outcome State Fault Refusal :=
  .next (s.fc target (fun s _ => let s1 := s.abortOps target (fun _ => true); s1.setTarget target (s1.target target).afterReset))
/-- RESET LUN (R264). -/
def execFcResetLun (target lun : Nat) (s : State) : Host.Outcome State Fault Refusal := .next (s.fc target (fun s _ => s.abortOps target (fun o => o.lun == lun)))
/-- VOLUME SELECT (R255): volume v of the CE pin. -/
def execFcVolumeSelect (target : Nat) (s : State) : Host.Outcome State Fault Refusal :=
  .next (s.fc target (fun s _ => { s with flash := { s.flash with selected := s.flash.selected.set zeroOf (cePin target) (target % 4) } }))
/-- ODT CONFIGURE with the ODT value of the parameter page (R255). -/
def execFcOdtConfigure (target : Nat) (s : State) : Host.Outcome State Fault Refusal := .next (s.fcSet target (fun x => { x with odt := some (s.pageByte target 29) }))

/-- Does READ ID agree with the page in its first ID_LENGTH bytes (R261)? -/
def idAgrees (page id : Bytes) : Bool := decide (id.take (fld page 24 1) = slice page 16 (fld page 24 1))

/-- READ ID (R261). -/
def execFcReadId (target : Nat) (id : Bytes) (s : State) : Host.Outcome State Fault Refusal := .next (s.fcSet target (fun x => { x with idOk := idAgrees (s.page target) id }))
/-- READ PARAMETER PAGE (R261). -/
def execFcReadParameterPage (target : Nat) (agrees : Bool) (s : State) : Host.Outcome State Fault Refusal := .next (s.fcSet target (fun x => { x with paramOk := agrees }))

/-- The retry level whose entry of RETRY_TABLE holds P1 to P4. -/
def levelOf (page : Bytes) (v : Nat) : Option Nat := (List.range (fld page 38 1 + 1)).find? (fun i => fld page (40 + 4 * i) 4 = v)

/-- A feature is set; at RETRY_FA it sets the retry level of the LUN, or of every LUN (R260, R280). `key` is 8 for the whole target, else the LUN. -/
def State.setFeature (s : State) (t key fa v : Nat) : State :=
  s.fcSet t (fun x =>
    let x1 := { x with features := x.features.set zeroOf (256 * key + fa) v }
    if s.pageByte t 36 = 1 ∧ fa = s.pageByte t 37 then (match levelOf (s.page t) v with
      | some i => { x1 with retry := (if key = 8 then List.range (s.geo t).luns else [key]).foldl (fun m l => m.set zeroOf l i) x1.retry }
      | none => x1) else x1)

def State.getFeature (s : State) (t key fa : Nat) : State := s.fcSet t (fun x => { x with lastValue := x.features.get zeroOf (256 * key + fa) })

/-- SET FEATURES (R264). -/
def execFcSetFeatures (target : Nat) (fa : BitVec 8) (value : BitVec 32) (s : State) : Host.Outcome State Fault Refusal := .next (s.setFeature target 8 fa.toNat value.toNat)
/-- GET FEATURES (R264). -/
def execFcGetFeatures (target : Nat) (fa : BitVec 8) (s : State) : Host.Outcome State Fault Refusal := .next (s.getFeature target 8 fa.toNat)
/-- SET FEATURES by LUN (R264). -/
def execFcSetFeaturesByLun (target lun : Nat) (fa : BitVec 8) (value : BitVec 32) (s : State) : Host.Outcome State Fault Refusal :=
  .next (if lun < 8 then s.setFeature target lun fa.toNat value.toNat else s)
/-- GET FEATURES by LUN (R264). -/
def execFcGetFeaturesByLun (target lun : Nat) (fa : BitVec 8) (s : State) : Host.Outcome State Fault Refusal := .next (if lun < 8 then s.getFeature target lun fa.toNat else s)
/-- ZQ CALIBRATION LONG (R262). -/
def execFcZqCalibrationLong (target : Nat) (s : State) : Host.Outcome State Fault Refusal := .next (s.fcSet target (fun x => { x with zqLong := true }))
/-- ZQ CALIBRATION SHORT (R263). -/
def execFcZqCalibrationShort (target : Nat) (s : State) : Host.Outcome State Fault Refusal := .next (s.fcSet target (fun x => { x with zqShort := true }))
/-- READ DQ TRAINING (R262). -/
def execFcReadDqTraining (target : Nat) (passes : Bool) (s : State) : Host.Outcome State Fault Refusal := .next (s.fcSet target (fun x => { x with dqTrained := passes }))
/-- WRITE TRAINING TX (R262). -/
def execFcWriteTrainingTx (target : Nat) (passes : Bool) (s : State) : Host.Outcome State Fault Refusal := .next (s.fcSet target (fun x => { x with txTrained := passes }))
/-- WRITE TRAINING RX (R262). -/
def execFcWriteTrainingRx (target : Nat) (passes : Bool) (s : State) : Host.Outcome State Fault Refusal := .next (s.fcSet target (fun x => { x with rxTrained := passes }))

/-- Does an operation name a LUN, block and page that the target has? -/
def State.opFits (s : State) (t : Nat) (o : LunOp) : Bool := decide (o.lun < (s.geo t).luns) && decide (o.page < (s.geo t).pages) && decide (o.block < (s.geo t).blocks)

/-- Suspend the erase of a LUN: SUSPEND_KIND 1, for a class-0 or class-2 read, at most four times for each erase (R265). It is ready within T_SUSPEND_US + 100 µs, or times out. -/
def State.askSuspend (s : State) (t lun : Nat) (cls : Nat) : State :=
  let may := fun o : LunOp => o.lun == lun && o.kind == .erase && !o.suspended && !o.asked && decide (o.suspends < 4)
  let x := s.target t
  if (cls = 0 ∨ cls = 2) ∧ s.pageByte t 172 = 1 then
    s.setTarget t { x with ops := x.ops.map (fun o => if may o then { o with asked := true, suspends := o.suspends + 1, left := o.deadline - s.now, deadline := s.now + usUp (fld (s.page t) 176 2 + 100) } else o) }
  else s

/-- An operation is queued for its LUN, and starts when it may. A read of class 0 or 2 has an erase there suspended (R265). -/
def State.flashOp (s : State) (t : Nat) (o : LunOp) : State :=
  s.fc t (fun s x =>
    if !s.opFits t o then s
    else
      let s1 := s.setTarget t { x with queue := x.queue ++ [o] }
      (if o.kind = .read then s1.askSuspend t o.lun o.cls.val else s1).startOps t)

/-- READ (R264, R280). -/
def execFcRead (target lun block page cls : Nat) (cws : List Codeword) (s : State) : Host.Outcome State Fault Refusal :=
  .next (if h : cls < 4 then s.flashOp target { lun := lun, kind := .read, block := block, page := page, cls := ⟨cls, h⟩, cws := cws } else s)
/-- Multi-plane READ (R264): the page in every plane, one lane-page read. -/
def execFcMultiPlaneRead (target lun block page cls : Nat) (cws : List Codeword) (s : State) : Host.Outcome State Fault Refusal :=
  .next (if h : cls < 4 then s.flashOp target { lun := lun, kind := .read, planes := (s.geo target).planes, block := block, page := page, cls := ⟨cls, h⟩, cws := cws } else s)
/-- CHANGE READ COLUMN ENHANCED (R264): part of a data transfer, which a supply warning does not stop (R267). -/
def execFcChangeReadColumnEnhanced (target lun column : Nat) (s : State) : Host.Outcome State Fault Refusal :=
  .next (if s.answers target ∧ ¬ s.power.pllSwitching ∧ lun < (s.geo target).luns ∧ column < (s.geo target).pageBytes + (s.geo target).spare then
    (s.selectVolume target).setTarget target { s.target target with column := column } else s)

/-- A read-level calibration of a target: the best offsets of each LUN are kept; its RESULT code (R294, R295). -/
def State.calibrate (s : State) (o : CalOut) : State × Nat :=
  if s.pageByte o.target 168 = 0 then (s, 3)
  else if o.fail then (s, 2)
  else
    let x := s.target o.target
    (s.setTarget o.target { x with
      offsets := o.offsets.foldl (fun m p => m.set (fun _ => []) p.1 (p.2.take (s.pageByte o.target 171))) x.offsets, softSince := 0, calibratedAt := s.now }, 0)

/-- The work of a target is done: it is in service again and what waited starts, or it is lost (R263, R294). -/
def State.finishWork (s : State) (t : Nat) (w : TargetWork) : State :=
  let s1 := s.setTarget t { (s.target t) with state := .inService, work := none }
  match w with
  | .training true => (s1.setTarget t { (s1.target t) with zqShort := true, dqTrained := true, trainedAt := s.now, trainDue := false }).startOps t
  | .training false => s1.targetDown t
  | .levels o => (s1.calibrate o).1.startOps t

/-- Work on a target begins: at once, or, with the target PAUSED, when its operations in flight have completed (R263, R294). -/
def State.beginWork (s : State) (t : Nat) (w : TargetWork) : State :=
  s.fc t (fun s x =>
    if x.work.isSome then s
    else if x.ops = [] then s.finishWork t w
    else let y := { x with state := .paused, work := some w }; s.setTarget t (y.resumed s.now))

/-- What follows the end of an operation: work that waited for it, or what waits in the queue. -/
def State.opEnded (s : State) (t : Nat) : State :=
  let s1 := s.startOps t
  match (s1.target t).work with
  | some w => if (s1.target t).ops = [] ∧ !s1.power.warn then s1.finishWork t w else s1
  | none => s1

/-- The supply or SYSCLK is back: timeouts that expired meanwhile are acted on, and what waits starts (R267). -/
def State.flashAgain (s : State) : State :=
  let l := s.flash.overdue
  let s1 := l.foldl (fun s o => if s.answers o.target then s.timeout o.target o.lun o.lunResetOk o.targetResetOk o.idOk o.trainOk else s) { s with flash := { s.flash with overdue := [] } }
  s1.flash.targets.foldl (fun s p => s.opEnded p.1) s1

/-- READ STATUS ENHANCED (R264): the operation of a ready LUN ends, well or with FAIL; an erase that was to be suspended is. Polls continue during the supply warning (R267). -/
def State.poll (s : State) (t lun : Nat) (ready fail : Bool) : State :=
  if !s.answers t || s.power.pllSwitching || !ready then s
  else
    let x := s.target t
    match x.opOf lun with
    | none => s
    | some o =>
      if o.asked && !fail then (s.setTarget t { x with ops := x.ops.map (fun q => if q = o then { q with asked := false, suspended := true } else q) }).opEnded t
      else
        let s1 := s.setTarget t { x with ops := x.ops.erase o }
        (if o.kind = .read then s1.readDone t o fail else if fail then s1.opFail t lun 0 o.block else s1).opEnded t

def execFcReadStatusEnhanced (target lun : Nat) (ready fail : Bool) (s : State) : Host.Outcome State Fault Refusal := .next (s.poll target lun ready fail)

/-- The class of a program or erase: that of the crate whose lane block it is, by its kind; reclaim's erases are class-3 work (R67, R274). -/
def State.laneClass (s : State) (t block : Nat) : Fin 4 :=
  match (s.laneUser t block).bind (fun p => s.crate? p.1) with
  | some c => match c.kind with | .evidence => 1 | .ledger => 0 | _ => 3
  | none => 3

/-- PAGE PROGRAM (R264). -/
def execFcPageProgram (target lun block page : Nat) (s : State) : Host.Outcome State Fault Refusal :=
  .next (s.flashOp target { lun := lun, kind := .program, block := block, page := page, cls := s.laneClass target block })
/-- Multi-plane PAGE PROGRAM (R264). -/
def execFcMultiPlaneProgram (target lun block page : Nat) (s : State) : Host.Outcome State Fault Refusal :=
  .next (s.flashOp target { lun := lun, kind := .program, planes := (s.geo target).planes, block := block, page := page, cls := s.laneClass target block })
/-- BLOCK ERASE (R264). -/
def execFcBlockErase (target lun block : Nat) (s : State) : Host.Outcome State Fault Refusal :=
  .next (s.flashOp target { lun := lun, kind := .erase, block := block, cls := s.laneClass target block })
/-- Multi-plane BLOCK ERASE (R264). -/
def execFcMultiPlaneErase (target lun block : Nat) (s : State) : Host.Outcome State Fault Refusal :=
  .next (s.flashOp target { lun := lun, kind := .erase, planes := (s.geo target).planes, block := block, cls := s.laneClass target block })

/-- Erase suspend (R265). -/
def execFcEraseSuspend (target lun cls : Nat) (s : State) : Host.Outcome State Fault Refusal := .next (s.fc target (fun s _ => s.askSuspend target lun cls))
/-- Erase resume (R265). -/
def execFcEraseResume (target lun : Nat) (s : State) : Host.Outcome State Fault Refusal :=
  .next (s.fcSet target (fun x => { x with ops := x.ops.map (fun o =>
    if o.lun == lun && o.suspended && (x.opOf lun).isNone then { o with suspended := false, served := 0, deadline := s.now + o.left } else o) }))

end Sys2Proof.Machine
end

