-- ==== Sys2Proof/Machine/FlashCare.lean ====
section
/-! DEFINITION. Array builds and bring-up, the programming of rows, the percolator, read-level calibration, CALIBRATE (chapters 10 and 11). -/

namespace Sys2Proof.Machine

/-! Interfaces and rates (R256 to R258). -/

/-- Rungs of an interface, highest first. -/
def rungs (lp : Bool) : List Nat := if lp then [2400, 2000, 1600] else [1600, 1200, 800]

/-- The load cap: 0 where the interface is not supported with so many loads. -/
def loadCap (lp : Bool) (loads : Nat) : Nat :=
  if loads ≤ 4 then (if lp then 2400 else 1600) else if loads ≤ 8 then (if lp then 1600 else 1200) else if loads ≤ 16 then (if lp then 0 else 800) else 0

/-- Present targets of a channel in a description. -/
def descTargets (d : Bytes) (c : Nat) : List Nat := (chanTargets c).filter (fun t => descPageNo d t != 0xFF)
def descByte (d : Bytes) (t off : Nat) : Nat := fld (descPage d t) off 1

/-- A channel runs NV-LPDDR4 where every present target and the load count allow it. -/
def descLp (d : Bytes) (c : Nat) : Bool := (descTargets d c).all (fun t => bit (descByte d t 25) 1) && decide (0 < loadCap true (descLoads d c))
def descAllows (d : Bytes) (c : Nat) : Bool := descLp d c || ((descTargets d c).all (fun t => bit (descByte d t 25) 0) && decide (0 < loadCap false (descLoads d c)))
/-- No rate above the cap or any of the given targets' MAX_MTS. -/
def descLimit (d : Bytes) (c : Nat) (ts : List Nat) : Nat := ts.foldl (fun m t => min m (fld (descPage d t) 26 2)) (loadCap (descLp d c) (descLoads d c))

/-- The highest rung at which the targets train; `at_` gives the highest rate each of them passes. -/
def chanRate (d : Bytes) (c : Nat) (ts : List Nat) (at_ : Nat → Nat) : Nat :=
  ((rungs (descLp d c)).find? (fun r => decide (r ≤ descLimit d c ts) && ts.all (fun t => decide (r ≤ at_ t)))).getD 0
def trainsAny (d : Bytes) (c : Nat) (ts : List Nat) (r : Nat) : Bool := (rungs (descLp d c)).any (fun x => decide (x ≤ descLimit d c ts) && decide (x ≤ r))

/-! The checks of a build (R259 to R261): code and target, (0, 0) where it passes. -/

def pageOk (p : Bytes) : Bool :=
  let b := fun off => fld p off 1
  decide (fld p 0 2 = 1) && decide (1 ≤ b 2) && decide (b 2 ≤ 8) && [1, 2, 4].contains (b 3) && decide (4096 ≤ fld p 4 4) && decide (fld p 4 4 ≤ 32768) && decide (fld p 4 4 % 4096 = 0) &&
    decide (64 ≤ fld p 10 2) && decide (fld p 10 2 ≤ 4096) && decide (4194304 ≤ fld p 4 4 * fld p 10 2) && decide (272 ≤ fld p 8 2 / (fld p 4 4 / 4096)) && decide (1 ≤ fld p 12 4) && decide (2 ≤ b 24) && decide (b 24 ≤ 8) && decide (1 ≤ b 25) && decide (b 25 ≤ 3) && decide (b 30 < 8) &&
    decide (b 36 ≤ 2) && decide (b 38 ≤ 31) && decide (b 168 ≤ 2) && (if b 168 = 0 then decide (b 171 = 0) else decide (1 ≤ b 171) && decide (b 171 ≤ 15)) && decide (b 172 ≤ 1) &&
    decide (b 175 = 0) && allZero (slice p 188 324)

def descOk (d : Bytes) : Bool :=
  let n := fld d 2 2
  decide (fld d 0 2 = 1) && decide (1 ≤ n) && decide (n ≤ 64) && decide (fld d 4 4 = 2176 + 512 * n) && decide (2176 + 512 * n ≤ d.length) && allZero (slice d 80 48) &&
    (List.range 1024).all (fun t => descPageNo d t == 0xFF || decide (descPageNo d t < n)) && (List.range n).all (fun i => pageOk (slice d (2176 + 512 * i) 512))

/-- The first present target that `p` finds wrong. -/
def wrongTarget (d : Bytes) (p : Nat → Bool) : Option Nat := (List.range 1024).find? (fun t => descPageNo d t != 0xFF && p t)

def answerOf (l : List TargetAns) (t : Nat) : TargetAns := (l.find? (fun a => a.target == t)).getD { target := t, responds := false }

/-- Load counts and indices, and a channel whose interfaces have no rung. -/
def loadsBad (d : Bytes) (t : Nat) : Bool := decide (16 < descLoads d (t / 16)) || decide (descLoads d (t / 16) ≤ fld d (129 + 2 * t) 1) || !descAllows d (t / 16)

/-- An entry of a target already in the array differs from the stored one. -/
def conflicts (old d : Bytes) (t : Nat) : Bool := descPageNo old t != 0xFF && (slice old (128 + 2 * t) 2 != slice d (128 + 2 * t) 2 || descPage old t != descPage d t)

def buildCheck (old : Bytes) (extend : Bool) (d : Bytes) (l : List TargetAns) : Nat × Nat :=
  let a := answerOf l
  if !descOk d then (1, 0)
  else match (List.range 64).find? (fun c => decide (16 < descLoads d c)), wrongTarget d (loadsBad d) with
    | some c, _ => (2, 16 * c)
    | none, some t => (2, t)
    | none, none =>
      match wrongTarget d (fun t => !(a t).responds) with
      | some t => (4, t)
      | none => match wrongTarget d (fun t => !idAgrees (descPage d t) (a t).id) with
        | some t => (5, t)
        | none => match wrongTarget d (fun t => !(a t).paramOk) with
          | some t => (6, t)
          | none => match wrongTarget d (fun t => !trainsAny d (t / 16) (descTargets d (t / 16)) (a t).trainsAt) with
            | some t => (7, t)
            | none =>
              if (List.range 64).countP (fun c => descTargets d c != []) < 16 then (8, 0)
              else if extend then (match (List.range 1024).find? (conflicts old d) with | some t => (9, t) | none => (0, 0)) else (0, 0)

/-! Bring-up (R262). -/

/-- A channel after its targets have trained. -/
def broughtUp (d : Bytes) (c : Nat) (ts : List Nat) (at_ : Nat → Nat) : Chan :=
  let r := chanRate d c ts at_
  { state := .active, lpddr4 := descLp d c, rate := r, limited := decide (r < loadCap (descLp d c) (descLoads d c)) }

/-- The features that a bring-up sets on a target, by ONFI's feature addresses: timing mode and interface, interface configuration with ODT, drive strength, and the volume where
its CE pin carries more than one (R255, R262, log 113). -/
def upFeatures (d : Bytes) (c : Chan) (t : Nat) (shared : Bool) : SMap Nat :=
  let l := [(0x01, Config.timingMode c.lpddr4 c.rate), (0x02, descByte d t 29), (0x10, descByte d t 28)] ++ (if shared then [(0x58, t % 4)] else [])
  l.foldl (fun m p => m.set zeroOf (256 * 8 + p.1) p.2) []

/-- A target in service after bring-up. Its counters run on, and what waited for it waits (R269). -/
def targetUp (d : Bytes) (now : Nat) (c : Chan) (shared : Bool) (t : Nat) (old : Target) : Target :=
  { ({} : Target).trained with
    state := .inService, timeouts := old.timeouts, resets := old.resets, queue := old.queue, features := upFeatures d c t shared
    volume := if shared then some (t % 4) else none, odt := if shared then some (descByte d t 29) else none, trainedAt := now, calibratedAt := now }

/-- Bring up every channel of the stored description; targets in `dead` fail and are lost, and those that train at no rung; retired ones stay out, and those that an extension finds
NON_RESPONSIVE (R258, R262, R266). -/
def State.bringUp (s : State) (dead : List Nat) (at_ : Nat → Nat) : State :=
  let d := s.flash.desc
  let out := fun t : Nat => (s.target t).state == .retired || (s.target t).state == .nonResponsive
  let alive := fun c => (descTargets d c).filter (fun t => !dead.contains t && !out t)
  let trains := fun c => (alive c).filter (fun t => trainsAny d c (alive c) (at_ t))
  let s1 := (List.range 64).foldl (fun s c =>
    if descTargets d c = [] then s
    else
      let ch := broughtUp d c (trains c) at_
      (trains c).foldl (fun s0 t => let s := s0.abortOps t (fun _ => true); s.setTarget t (targetUp d s.now ch (s.shared t) t (s.target t))) (s.setChan c ch)) s
  (((List.range 64).flatMap (fun c => (descTargets d c).filter (fun t => !out t && !(trains c).contains t)))).foldl State.targetDown s1

/-! BUILD and EXTENSION (R261, R297). -/

/-- TOTAL_LENGTH of a description. -/
def descLen (d : Bytes) : Nat := fld d 4 4

/-- The flash state of a new array. -/
def Flash.emptied (f : Flash) : Flash := { f with lanes := [], bad := [], subs := [], system := [], crates := [], targets := [], chans := [], grown := 0, worn := 0, lost := 0, refreshQueue := [], step5 := [] }

/-- The cause NO_ARRAY no longer withholds READY. -/
def State.arrayStands (s : State) : State := if s.dev.holdCause = 4 then { s with dev := { s.dev with holdCause := 0, holdDetail := 0 } } else s

/-- The SYSTEM crates of an array: index k of the lowest present target of each of 16 channels, for each of the first whole sixteens of channels and k below 8 (R271; how the area's lane blocks
form crates is the model's choice, log 114). -/
def State.systemCrates (s : State) : List Crate :=
  let ts := (List.range 64).filterMap s.areaTarget
  (List.range (ts.length / 16)).flatMap (fun g => (List.range 8).map (fun k =>
    let lanes := ((ts.drop (16 * g)).take 16).map (fun t => { target := t, block := k : Lane })
    { id := 0, kind := .system, state := .opened, lanes := lanes
      lanePage := least (lanes.map (fun l => (s.geo l.target).lanePage)), rows := least (lanes.map (fun l => (s.geo l.target).pages)) }))

/-- A build passes: the description is stored, the new targets' factory markers are imported, the channels stand. -/
def State.buildPass (s : State) (d : Bytes) (l : List TargetAns) (extend : Bool) : State :=
  let old := s.flash.desc
  let fresh := (List.range 1024).filter (fun t => descPageNo d t != 0xFF && (!extend || descPageNo old t == 0xFF))
  let f := s.flash
  let base : Flash := if extend then f else f.emptied
  let s0 := if extend then s else { s with tabs := { s.tabs with entries := [] } }
  let s1 := { s0 with flash := { base with desc := d.take (descLen d), buildState := .built, buildErr := 0, failedTarget := 0 } }
  let s1 := { s1 with flash := { s1.flash with system := if extend then f.system else s1.systemCrates } }
  let s2 := fresh.foldl (fun s t => (answerOf l t).bad.foldl (fun s b => s.addBad t b.1 b.2.1 b.2.2 false) s) s1
  ((s2.bringUp [] (fun t => (answerOf l t).trainsAt)).arrayStands.logFault { cls := 0x39, unit := 0x8000, detail := fld d 8 4 }).spaceBack

/-- A failed build writes nothing to flash; before READY it withholds READY (R445). -/
def State.buildFail (s : State) (r : Nat × Nat) : State :=
  let s1 := { s with flash := { s.flash with buildState := .failed, buildErr := r.1, failedTarget := r.2 } }
  if !s.dev.ready && s.dev.holdCause == 4 then { s1 with dev := { s1.dev with holdDetail := r.1 } } else s1

def State.runBuild (s : State) (extend : Bool) (desc : HostRead) (l : List TargetAns) : State :=
  match desc with
  | .err => s.buildFail (3, 0)
  | .ok d =>
    let r := buildCheck s.flash.desc extend d l
    if r.1 = 0 then s.buildPass d l extend else s.buildFail r

/-- May START run a build now: while NONE or FAILED, or with EXTEND while BUILT in REST? -/
def State.mayBuild (s : State) : Bool := s.flash.buildState == .none || s.flash.buildState == .failed
def State.mayExtend (s : State) : Bool := s.flash.extend && s.flash.buildState == .built && s.power.mode == .rest

/-- START of FLASH.BUILD_CTRL: the build runs until BUILD or EXTENSION brings its end. -/
def State.startBuild (s : State) : State := if s.mayBuild || s.mayExtend then { s with flash := { s.flash with buildState := .running } } else s

/-- BUILD (R261): the first array. -/
def execBuild (desc : HostRead) (answers : List TargetAns) (s : State) : Host.Outcome State Fault Refusal :=
  .next (if s.scrapped || s.power.warn then s
    else if s.mayBuild || (s.flash.buildState == .running && !(s.flash.extend && s.flash.desc != [])) then s.runBuild (s.flash.extend && s.flash.desc != []) desc answers else s)

/-- EXTENSION (R261): new targets for an array that stands. -/
def execExtension (desc : HostRead) (answers : List TargetAns) (s : State) : Host.Outcome State Fault Refusal :=
  .next (if s.scrapped || s.power.warn then s
    else if s.mayExtend || (s.flash.buildState == .running && s.flash.extend && s.flash.desc != []) then s.runBuild true desc answers else s)

/-! Retraining (R263). -/

/-- RETRAIN: secure time has reached PERIOD_S after the target's last training, or its group's clock was gated for more than 60 s. `passes` is how it ends, the repetition after a
first failure included. -/
def State.retrain (s : State) (t : Nat) (passes : Bool) : State :=
  if !s.answers t || s.power.warn || s.power.pllSwitching then s
  else
    let s1 := s.wakeGroup (t / 128)
    let x := s1.target t
    (if x.trainDue then s1 else s1.reach (x.trainedAt + s1.flash.retrainS * hz)).beginWork t (.training passes)

def execRetrain (target : Nat) (passes : Bool) (s : State) : Host.Outcome State Fault Refusal := .next (s.retrain target passes)

/-! Rows (R278, R279). -/

/-- ROW_PROGRAMMED (R278). -/
def execRowProgrammed (crate : Nat) (failedLanes : List Nat) (s : State) : Host.Outcome State Fault Refusal := .next (s.programRow crate failedLanes).closeFullCrates

/-! The percolator (R283 to R285, R289, R292 to R300). -/

/-- Has a tick's sheet passed R150 and R285? -/
def State.sheetPassed (s : State) (r : TickRecord) : Bool :=
  let longest := ((List.range 64).map s.days).foldl max 0
  decide (r.at_.boundary + longest * dayCounts ≤ s.now) && !(s.tabs.holds.any (fun h => decide (h.first ≤ r.at_.tick) && decide (r.at_.tick ≤ h.last))) &&
    s.tabs.entries.all (fun e => e.commitTick != r.at_.tick || decide (e.hdr.seq ≤ (s.tab e.hdr.tab).uploaded))

/-- A ledger crate that reclaim may examine: closed, every sheet in it passed. -/
def State.ledgerFree (s : State) (c : Crate) : Bool :=
  c.kind == .ledger && c.complete && c.objects.any (fun o => o.type == 5) &&
    c.objects.all (fun o => o.type != 5 || o.dead || (match s.record? o.key with | some r => s.sheetPassed r | none => true))

/-- Reclaim a ledger crate: its sheets are gone, its other objects move (R289). -/
def State.reclaimLedger (s : State) (c : Crate) : State :=
  let ticks := (c.objects.filter (fun o => o.type == 5)).map Obj.key
  let s1 := s.moveAndErase c.id (fun _ o => o.retained && o.type != 5)
  if (s1.crate? c.id).isSome then s1
  else { s1 with ledger := { s1.ledger with records := s1.ledger.records.map (fun r => if ticks.contains r.at_.tick then { r with sheetGone := true } else r) } }

/-- Case 3: the crate with the fewest protected bytes, if that is below 90 %. -/
def State.caseThree (s : State) : Option Crate :=
  let best := s.reclaimables.foldl (fun b c => match b with | none => some c | some x => if s.protectedBytes c < s.protectedBytes x then some c else b) (none : Option Crate)
  match best with
  | some c => if s.percolates && !s.evidenceSpace && decide (s.protectedBytes c * 10 < 9 * c.dataBytes) then some c else none
  | none => none

/-- Does reclaim have work: the free lane blocks outside the reserve cannot supply a crate for each stream? -/
def State.reclaimDue (s : State) : Bool := s.flash.desc != [] && (!s.canForm s.outside 4 || s.indexFull)

/-- The relocations and erase of one crate that reclaim takes. -/
def State.reclaim (s : State) : State :=
  if !s.reclaimDue || s.power.warn || s.power.pllSwitching || s.power.mode == .lockdown then s
  else
    match s.reclaimables.find? s.caseOneTwo with
    | some c => s.moveAndErase c.id (fun s o => s.protects o)
    | none => match s.caseThree with
      | some c => s.moveAndErase c.id (fun s o => s.protects o)
      | none => match s.flash.crates.find? s.ledgerFree with
        | some c => if s.percolates then s.reclaimLedger c else s
        | none => s

/-- RECLAIM (R283). -/
def execReclaim (s : State) : Host.Outcome State Fault Refusal := .next s.reclaim

/-- Relocate every retained object of a crate and erase it. -/
def State.refreshCrate (s : State) (id : Nat) : State := s.moveAndErase id (fun _ o => o.retained)

/-- REBUILD (R300): EXPOSED crates first, the oldest first. -/
def State.rebuild (s : State) : State :=
  if !s.scrubs then s
  else
    let live := s.flash.crates.filter (fun c => c.kind != .system)
    match live.find? (fun c => c.state == .exposed) with
    | some c => s.refreshCrate c.id
    | none => match live.find? (fun c => c.state == .degraded) with | some c => s.refreshCrate c.id | none => s

def execRebuild (s : State) : Host.Outcome State Fault Refusal := .next s.rebuild

/-- Is the crate due for refresh: scheduled, closed without a summary, or old with retained objects (R291, R293)? -/
def State.refreshDue (s : State) (c : Crate) : Bool :=
  c.complete && c.kind != .system &&
    (s.flash.refreshQueue.contains c.id || c.noSummary || (c.objects.any Obj.retained && decide (c.closedAt + s.flash.ageDays * dayCounts ≤ s.now)))

/-- REFRESH (R293): the oldest crate that is due. -/
def State.refresh (s : State) : State :=
  if !s.scrubs then s else match s.flash.crates.find? s.refreshDue with | some c => s.refreshCrate c.id | none => s

def execRefresh (s : State) : Host.Outcome State Fault Refusal := .next s.refresh

/-- A codeword that a scrub reports, with the step of R280 at which it came out, on a lane that its crate still has. -/
def State.scrubbed (s : State) (c : Crate) (o : ScrubOut) : List (CodewordAt × Nat) :=
  (o.cws.filter (fun x => decide (x.lane < c.lanes.length) && !c.lostLanes.contains x.lane)).map (fun x => (x, stepOf (s.retryLevels ((c.lanes.map Lane.target).getD x.lane 0)) x.cw))

/-- Lanes that lack at one position of a row: those lost to the crate and those whose codeword no step gives (R281). -/
def lacking (c : Crate) (l : List (CodewordAt × Nat)) (row index : Nat) : Nat :=
  c.lostLanes.length + ((l.filter (fun p => p.1.row == row && p.1.index == index && p.2 == 5)).map (fun p => p.1.lane)).dedup.length

/-- The objects of a crate with a byte in a codeword of a data lane (R272). -/
def Crate.objectsAt (c : Crate) (row lane index : Nat) : List Obj :=
  let b := (row * 14 + lane) * c.lanePage + 4096 * index
  if lane < 14 then c.objects.filter (fun o => decide (512 * o.slot < b + 4096) && decide (b < 512 * (o.slot + o.slots))) else []

/-- What one codeword of a scrub leaves: its step is counted, and level 0 is set again where step 3 was tried; reconstructed codewords are counted, those that two lanes lack beside too are
lost with the entries they touch (R280, R281). -/
def State.scrubCodeword (s : State) (c : Crate) (l : List (CodewordAt × Nat)) (p : CodewordAt × Nat) : State :=
  let lane := (c.lanes[p.1.lane]?).getD { target := 0, block := 0 }
  let t := lane.target
  let g := s.geo t
  let s1 := if 4 ≤ p.2 then s.countSoft t 1 else s
  let s2 := if 3 ≤ p.2 ∧ 0 < s.retryLevels t then s1.setRetry t (p.1.index * 4096 / (g.planes * g.pageBytes)) 0 else s1
  if p.2 < 5 then s2
  else if lacking c l p.1.row p.1.index ≤ 2 then s2.reconstructed t lane.block c.id 1
  else s2.loseEntries c.id ((c.objectsAt p.1.row p.1.lane p.1.index).filter (fun o => o.type ≤ 2 && o.retained && !o.old) |>.map (fun o => (o.tab, o.key)))

/-- A scrub of a crate (R293): every row, both parity lanes included. Its lane blocks' read counts start again (log 41). A codeword with many corrected bits, one that needed step 3 or more,
or a reconstructed lane, schedules the crate for refresh. -/
def State.scrubCrate (s : State) (o : ScrubOut) : State :=
  match s.crate? o.crate with
  | none => s
  | some c =>
    if !c.complete then s
    else
      let l := s.scrubbed c o
      let s1 := c.lanes.foldl (fun s l => s.setLane l { s.lane l with reads := 0 }) (s.modCrate c.id (fun c => { c with scrubbedAt := s.now }))
      let s2 := l.foldl (fun s p => s.scrubCodeword c l p) s1
      let weak := c.lostLanes != [] || l.any (fun p => decide (s.flash.refreshBits < p.1.cw.bits) || decide (3 ≤ p.2))
      if weak && !s2.flash.refreshQueue.contains c.id then { s2 with flash := { s2.flash with refreshQueue := s2.flash.refreshQueue ++ [c.id] } } else s2

/-- PERIODIC_SCRUB (R293). -/
def execPeriodicScrub (out : ScrubOut) (s : State) : Host.Outcome State Fault Refusal := .next (if s.scrubs then s.scrubCrate out else s)

/-- Has a lane block of the crate reached READ_LIMIT_K thousand reads? -/
def State.disturbed (s : State) (c : Crate) : Bool := c.lanes.any (fun l => decide (s.flash.readLimitK * 1000 ≤ (s.lane l).reads))

/-- READ_DISTURB_SCRUB (R293). -/
def execReadDisturbScrub (out : ScrubOut) (s : State) : Host.Outcome State Fault Refusal :=
  .next (if s.scrubs && (s.crate? out.crate).any s.disturbed then s.scrubCrate out else s)

/-- The least and the highest erase count of the lane blocks of a channel; a block that the list does not name has 0 (R296). -/
def State.chanWear (s : State) (c : Nat) : Nat × Nat :=
  let ts := (chanTargets c).filter s.serves
  let ls := ts.flatMap (fun t => (s.listed t).map (fun p => p.2.erases))
  (if ts.any (fun t => decide ((s.listed t).length < (s.geo t).lanes)) then 0 else least ls, ls.foldl max 0)

/-- WEAR_LEVELLING (R296): on a channel whose erase counts differ too much, the oldest complete crate on the least-worn lane block moves. HOLDOVER defers it. -/
def State.levelWear (s : State) : State :=
  if !s.percolates || s.power.mode == .holdover then s
  else
    let pick := (List.range 64).findSome? (fun ch =>
      let w := s.chanWear ch
      if w.1 + s.flash.wearSpread < w.2 then
        s.flash.crates.find? (fun c => c.complete && c.kind != .system && c.lanes.any (fun l => l.target / 16 == ch && (s.lane l).erases == w.1))
      else none)
    match pick with
    | some c => s.refreshCrate c.id
    | none => s

def execWearLevelling (s : State) : Host.Outcome State Fault Refusal := .next s.levelWear

/-! Calibration (R294, R295). -/

/-- READ_LEVEL_CALIBRATION (R294): by period, or after 16 codewords at step 4; class-3 work that REST and LOCKDOWN pause. -/
def State.calibrateDue (s : State) (o : CalOut) : State :=
  let x := s.target o.target
  if s.percolates && x.state == .inService && (decide (x.calibratedAt + s.flash.calPeriodH * hour ≤ s.now) || decide (16 ≤ x.softSince)) then s.beginWork o.target (.levels o) else s

def execReadLevelCalibration (out : CalOut) (s : State) : Host.Outcome State Fault Refusal := .next (s.calibrateDue out)

/-- The INTERFACE kind for a target: training as R263; a failing target is recovered under R266. -/
def State.calInterface (s : State) (o : CalOut) : State × Nat :=
  let x := s.target o.target
  if o.fail then ((s.setTarget o.target { x with state := .recovering }).recovery o.target o.lunResetOk o.targetResetOk o.idOk o.trainOk, 2)
  else (s.setTarget o.target { x with zqShort := true, dqTrained := true, trainedAt := s.now, trainDue := false }, 0)

/-- The SCRUB kind for a target: every complete crate with a lane on it. -/
def State.calScrub (s : State) (t : Nat) (outs : List ScrubOut) : State × Nat :=
  let cs := s.flash.crates.filter (fun c => c.complete && c.lanes.any (fun l => l.target == t))
  let s1 := cs.foldl (fun s c => s.scrubCrate ((outs.find? (fun o => o.crate == c.id)).getD { crate := c.id })) s
  (s1, if cs.any (fun c => s1.flash.refreshQueue.contains c.id && !s.flash.refreshQueue.contains c.id) then 2 else 0)

/-- CALIBRATE of a kind: per-target codes, the highest of which is RESULT (R295). It waits while a target it names has operations in flight. -/
def State.calTicket (s : State) (a : TkArg) (kind : Nat) (f : State → Nat → State × Nat) : State :=
  s.withTk a 0x39 (fun t =>
    if t.tk.op 50 1 ≠ kind ∨ s.power.warn ∨ s.power.pllSwitching then s
    else
      let n := t.tk.op 48 2
      let ts := if n = 0xFFFF then s.presentTargets else [n]
      if ts.any (fun x => (s.target x).ops != []) then s
      else
      let r := ts.foldl (fun (st : State × Nat) x => if (st.1.target x).state = .inService then (let q := f st.1 x; (q.1, max st.2 q.2)) else (st.1, max st.2 1)) (s, 0)
      r.1.finish t { t.receipt 0 with result := r.2 } a.us)

def calOf (l : List CalOut) (t : Nat) : CalOut := (l.find? (fun o => o.target == t)).getD { target := t }

/-- READ_LEVEL (R295). -/
def execReadLevelCal (a : TkArg) (outs : List CalOut) (s : State) : Host.Outcome State Fault Refusal := .next (s.calTicket a 1 (fun s t => s.calibrate (calOf outs t)))
/-- INTERFACE (R295). -/
def execInterfaceCal (a : TkArg) (outs : List CalOut) (s : State) : Host.Outcome State Fault Refusal := .next (s.calTicket a 2 (fun s t => s.calInterface (calOf outs t)))
/-- SCRUB (R295). -/
def execScrubCal (a : TkArg) (outs : List ScrubOut) (s : State) : Host.Outcome State Fault Refusal := .next (s.calTicket a 3 (fun s t => s.calScrub t outs))

end Sys2Proof.Machine
end

