-- ==== Sys2Proof/Machine/Otnak.lean ====
section
/-! DEFINITION. The Otnak instructions as commands: each acts on the running item of the ticket that its first operand names (R180 to R184).
The sender issues the instruction that stands at the item's pc (log 33). -/

namespace Sys2Proof.Machine

/-- ADD (R182). Otnak ADD sets rd to ra + rb. -/
def execOAdd (w : Nat) (rd ra rb : Fin 16) (s : State) : Host.Outcome State Fault Refusal := .next (s.otnak w (fun v => v.alu (· + ·) rd ra rb 1))
/-- SUB (R182). Otnak SUB sets rd to ra − rb. -/
def execOSub (w : Nat) (rd ra rb : Fin 16) (s : State) : Host.Outcome State Fault Refusal := .next (s.otnak w (fun v => v.alu (· - ·) rd ra rb 1))
/-- AND (R182). Otnak AND sets rd to ra and rb. -/
def execOAnd (w : Nat) (rd ra rb : Fin 16) (s : State) : Host.Outcome State Fault Refusal := .next (s.otnak w (fun v => v.alu (· &&& ·) rd ra rb 1))
/-- OR (R182). Otnak OR sets rd to ra or rb. -/
def execOOr (w : Nat) (rd ra rb : Fin 16) (s : State) : Host.Outcome State Fault Refusal := .next (s.otnak w (fun v => v.alu (· ||| ·) rd ra rb 1))
/-- XOR (R182). Otnak XOR sets rd to ra xor rb. -/
def execOXor (w : Nat) (rd ra rb : Fin 16) (s : State) : Host.Outcome State Fault Refusal := .next (s.otnak w (fun v => v.alu (· ^^^ ·) rd ra rb 1))
/-- SHL (R182). Otnak SHL shifts ra left by rb mod 64. -/
def execOShl (w : Nat) (rd ra rb : Fin 16) (s : State) : Host.Outcome State Fault Refusal := .next (s.otnak w (fun v => v.alu fShl rd ra rb 1))
/-- SHR (R182). Otnak SHR shifts ra right logically by rb mod 64. -/
def execOShr (w : Nat) (rd ra rb : Fin 16) (s : State) : Host.Outcome State Fault Refusal := .next (s.otnak w (fun v => v.alu fShr rd ra rb 1))
/-- SAR (R182). Otnak SAR shifts ra right arithmetically by rb mod 64. -/
def execOSar (w : Nat) (rd ra rb : Fin 16) (s : State) : Host.Outcome State Fault Refusal := .next (s.otnak w (fun v => v.alu fSar rd ra rb 1))
/-- MUL (R182). Otnak MUL sets rd to the low 64 bits of ra × rb. -/
def execOMul (w : Nat) (rd ra rb : Fin 16) (s : State) : Host.Outcome State Fault Refusal := .next (s.otnak w (fun v => v.alu (· * ·) rd ra rb 3))
/-- MINU (R182). Otnak MINU sets rd to the unsigned minimum of ra and rb. -/
def execOMinu (w : Nat) (rd ra rb : Fin 16) (s : State) : Host.Outcome State Fault Refusal := .next (s.otnak w (fun v => v.alu fMinu rd ra rb 1))
/-- MAXU (R182). Otnak MAXU sets rd to the unsigned maximum of ra and rb. -/
def execOMaxu (w : Nat) (rd ra rb : Fin 16) (s : State) : Host.Outcome State Fault Refusal := .next (s.otnak w (fun v => v.alu fMaxu rd ra rb 1))
/-- SLTU (R182). Otnak SLTU sets rd to 1 if ra < rb unsigned, otherwise 0. -/
def execOSltu (w : Nat) (rd ra rb : Fin 16) (s : State) : Host.Outcome State Fault Refusal := .next (s.otnak w (fun v => v.alu fSltu rd ra rb 1))
/-- BSWAP (R182). Otnak BSWAP reverses the 8 bytes of ra. -/
def execOBswap (w : Nat) (rd ra : Fin 16) (s : State) : Host.Outcome State Fault Refusal := .next (s.otnak w (fun v => v.bswap rd ra))
/-- ADDI (R182). Otnak ADDI adds a sign-extended immediate to ra. -/
def execOAddi (w : Nat) (rd ra : Fin 16) (imm : BitVec 16) (s : State) : Host.Outcome State Fault Refusal := .next (s.otnak w (fun v => v.addi rd ra imm))
/-- ANDI (R182). Otnak ANDI ands ra with an immediate. -/
def execOAndi (w : Nat) (rd ra : Fin 16) (imm : BitVec 16) (s : State) : Host.Outcome State Fault Refusal := .next (s.otnak w (fun v => v.alui (· &&& ·) rd ra imm))
/-- ORI (R182). Otnak ORI ors ra with an immediate. -/
def execOOri (w : Nat) (rd ra : Fin 16) (imm : BitVec 16) (s : State) : Host.Outcome State Fault Refusal := .next (s.otnak w (fun v => v.alui (· ||| ·) rd ra imm))
/-- XORI (R182). Otnak XORI xors ra with an immediate. -/
def execOXori (w : Nat) (rd ra : Fin 16) (imm : BitVec 16) (s : State) : Host.Outcome State Fault Refusal := .next (s.otnak w (fun v => v.alui (· ^^^ ·) rd ra imm))
/-- SHLI (R182). Otnak SHLI shifts ra left by an immediate. -/
def execOShli (w : Nat) (rd ra : Fin 16) (imm : Fin 64) (s : State) : Host.Outcome State Fault Refusal := .next (s.otnak w (fun v => v.alui fShl rd ra (BitVec.ofNat 16 imm.val)))
/-- SHRI (R182). Otnak SHRI shifts ra right logically by an immediate. -/
def execOShri (w : Nat) (rd ra : Fin 16) (imm : Fin 64) (s : State) : Host.Outcome State Fault Refusal := .next (s.otnak w (fun v => v.alui fShr rd ra (BitVec.ofNat 16 imm.val)))
/-- LDI (R182). Otnak LDI loads a 16-bit immediate into rd. -/
def execOLdi (w : Nat) (rd : Fin 16) (imm : BitVec 16) (s : State) : Host.Outcome State Fault Refusal := .next (s.otnak w (fun v => v.alui (fun _ i => i) rd 0 imm))
/-- LDH1 (R182). Otnak LDH1 replaces bits [31:16] of ra with an immediate. -/
def execOLdh1 (w : Nat) (rd ra : Fin 16) (imm : BitVec 16) (s : State) : Host.Outcome State Fault Refusal := .next (s.otnak w (fun v => v.ldh 1 rd ra imm))
/-- LDH2 (R182). Otnak LDH2 replaces bits [47:32] of ra with an immediate. -/
def execOLdh2 (w : Nat) (rd ra : Fin 16) (imm : BitVec 16) (s : State) : Host.Outcome State Fault Refusal := .next (s.otnak w (fun v => v.ldh 2 rd ra imm))
/-- LDH3 (R182). Otnak LDH3 replaces bits [63:48] of ra with an immediate. -/
def execOLdh3 (w : Nat) (rd ra : Fin 16) (imm : BitVec 16) (s : State) : Host.Outcome State Fault Refusal := .next (s.otnak w (fun v => v.ldh 3 rd ra imm))
/-- LD8 (R182). Otnak LD8 loads one byte of slot memory. -/
def execOLd8 (w : Nat) (rd ra : Fin 16) (imm : BitVec 16) (s : State) : Host.Outcome State Fault Refusal := .next (s.otnak w (fun v => v.ld 1 rd ra imm))
/-- LD16 (R182). Otnak LD16 loads two bytes of slot memory. -/
def execOLd16 (w : Nat) (rd ra : Fin 16) (imm : BitVec 16) (s : State) : Host.Outcome State Fault Refusal := .next (s.otnak w (fun v => v.ld 2 rd ra imm))
/-- LD32 (R182). Otnak LD32 loads four bytes of slot memory. -/
def execOLd32 (w : Nat) (rd ra : Fin 16) (imm : BitVec 16) (s : State) : Host.Outcome State Fault Refusal := .next (s.otnak w (fun v => v.ld 4 rd ra imm))
/-- LD64 (R182). Otnak LD64 loads eight bytes of slot memory. -/
def execOLd64 (w : Nat) (rd ra : Fin 16) (imm : BitVec 16) (s : State) : Host.Outcome State Fault Refusal := .next (s.otnak w (fun v => v.ld 8 rd ra imm))
/-- ST8 (R182). Otnak ST8 stores one byte to slot memory. -/
def execOSt8 (w : Nat) (rd ra : Fin 16) (imm : BitVec 16) (s : State) : Host.Outcome State Fault Refusal := .next (s.otnak w (fun v => v.st 1 rd ra imm))
/-- ST16 (R182). Otnak ST16 stores two bytes to slot memory. -/
def execOSt16 (w : Nat) (rd ra : Fin 16) (imm : BitVec 16) (s : State) : Host.Outcome State Fault Refusal := .next (s.otnak w (fun v => v.st 2 rd ra imm))
/-- ST32 (R182). Otnak ST32 stores four bytes to slot memory. -/
def execOSt32 (w : Nat) (rd ra : Fin 16) (imm : BitVec 16) (s : State) : Host.Outcome State Fault Refusal := .next (s.otnak w (fun v => v.st 4 rd ra imm))
/-- ST64 (R182). Otnak ST64 stores eight bytes to slot memory. -/
def execOSt64 (w : Nat) (rd ra : Fin 16) (imm : BitVec 16) (s : State) : Host.Outcome State Fault Refusal := .next (s.otnak w (fun v => v.st 8 rd ra imm))
/-- IN8 (R182). Otnak IN8 reads one input byte. -/
def execOIn8 (w : Nat) (rd ra : Fin 16) (imm : BitVec 16) (s : State) : Host.Outcome State Fault Refusal := .next (s.otnak w (fun v => v.inp 1 true rd ra imm))
/-- IN16B (R182). Otnak IN16B reads two input bytes big-endian. -/
def execOIn16b (w : Nat) (rd ra : Fin 16) (imm : BitVec 16) (s : State) : Host.Outcome State Fault Refusal := .next (s.otnak w (fun v => v.inp 2 true rd ra imm))
/-- IN32B (R182). Otnak IN32B reads four input bytes big-endian. -/
def execOIn32b (w : Nat) (rd ra : Fin 16) (imm : BitVec 16) (s : State) : Host.Outcome State Fault Refusal := .next (s.otnak w (fun v => v.inp 4 true rd ra imm))
/-- IN32L (R182). Otnak IN32L reads four input bytes little-endian. -/
def execOIn32l (w : Nat) (rd ra : Fin 16) (imm : BitVec 16) (s : State) : Host.Outcome State Fault Refusal := .next (s.otnak w (fun v => v.inp 4 false rd ra imm))
/-- HMARK (R182). Otnak HMARK reads a host frame mark. -/
def execOHmark (w : Nat) (rd ra : Fin 16) (imm : BitVec 16) (s : State) : Host.Outcome State Fault Refusal := .next (s.otnak w (fun v => v.hmark rd ra imm))
/-- QLD64 (R182). Otnak QLD64 reads 8 bytes of the query parameters in a search applet. -/
def execOQld64 (w : Nat) (rd ra : Fin 16) (imm : BitVec 16) (s : State) : Host.Outcome State Fault Refusal := .next (s.otnak w (fun v => v.qld64 rd ra imm))
/-- LDS (R182). Otnak LDS reads a state word. -/
def execOLds (w : Nat) (rd : Fin 16) (imm : Fin 8) (s : State) : Host.Outcome State Fault Refusal := .next (s.otnak w (fun v => v.lds rd imm))
/-- STS (R179). Otnak STS writes the working copy of a state word. -/
def execOSts (w : Nat) (rd : Fin 16) (imm : Fin 8) (s : State) : Host.Outcome State Fault Refusal := .next (s.otnak w (fun v => v.sts rd imm))
/-- INFO (R183). Otnak INFO reads an item-information value. -/
def execOInfo (w : Nat) (rd : Fin 16) (imm : Fin 12) (s : State) : Host.Outcome State Fault Refusal := .next (s.otnak w (fun v => v.infoRd rd imm))
/-- BEQ (R182). Otnak BEQ branches forward if ra = rb. -/
def execOBeq (w : Nat) (ra rb : Fin 16) (off : BitVec 12) (s : State) : Host.Outcome State Fault Refusal := .next (s.otnak w (fun v => v.branch pEq ra rb off))
/-- BNE (R182). Otnak BNE branches forward if ra ≠ rb. -/
def execOBne (w : Nat) (ra rb : Fin 16) (off : BitVec 12) (s : State) : Host.Outcome State Fault Refusal := .next (s.otnak w (fun v => v.branch pNe ra rb off))
/-- BLTU (R182). Otnak BLTU branches forward if ra < rb unsigned. -/
def execOBltu (w : Nat) (ra rb : Fin 16) (off : BitVec 12) (s : State) : Host.Outcome State Fault Refusal := .next (s.otnak w (fun v => v.branch pLtu ra rb off))
/-- BGEU (R182). Otnak BGEU branches forward if ra ≥ rb unsigned. -/
def execOBgeu (w : Nat) (ra rb : Fin 16) (off : BitVec 12) (s : State) : Host.Outcome State Fault Refusal := .next (s.otnak w (fun v => v.branch pGeu ra rb off))
/-- BLT (R182). Otnak BLT branches forward if ra < rb signed. -/
def execOBlt (w : Nat) (ra rb : Fin 16) (off : BitVec 12) (s : State) : Host.Outcome State Fault Refusal := .next (s.otnak w (fun v => v.branch pLt ra rb off))
/-- BGE (R182). Otnak BGE branches forward if ra ≥ rb signed. -/
def execOBge (w : Nat) (ra rb : Fin 16) (off : BitVec 12) (s : State) : Host.Outcome State Fault Refusal := .next (s.otnak w (fun v => v.branch pGe ra rb off))
/-- JMP (R182). Otnak JMP branches forward always. -/
def execOJmp (w : Nat) (off : BitVec 12) (s : State) : Host.Outcome State Fault Refusal := .next (s.otnak w (fun v => v.jmp off))
/-- LOOP (R182). Otnak LOOP runs its body n times. -/
def execOLoop (w : Nat) (n len : BitVec 12) (s : State) : Host.Outcome State Fault Refusal := .next (s.otnak w (fun v => v.loopN n len))
/-- LOOPB (R182). Otnak LOOPB runs its body once per 2^n input bytes, with v15 set at each iteration. -/
def execOLoopb (w : Nat) (n len : BitVec 12) (s : State) : Host.Outcome State Fault Refusal := .next (s.otnak w (fun v => v.loopB n len))
/-- LEAVE (R182). Otnak LEAVE leaves the innermost loop. -/
def execOLeave (w : Nat) (s : State) : Host.Outcome State Fault Refusal := .next (s.otnak w (fun v => v.leave))
/-- END (R182). Otnak END ends the item, and the stall hands its result to the till. -/
def execOEnd (w : Nat) (s : State) : Host.Outcome State Fault Refusal := .next (s.otnak w (fun v => v.end_))
/-- FIND (R182). Otnak FIND finds the first occurrence of a pattern in an input window. -/
def execOFind (w : Nat) (rd ra rb : Fin 16) (p k : Nat) (s : State) : Host.Outcome State Fault Refusal := .next (s.otnak w (fun v => v.find rd ra rb p k))
/-- HASHM (R182). Otnak HASHM writes SHA-384 of slot memory into slot memory, using the row's hash engine. -/
def execOHashm (w : Nat) (ra rb : Fin 16) (imm : BitVec 16) (s : State) : Host.Outcome State Fault Refusal := .next (s.otnakHash w (fun v => v.hashm ra rb imm))
/-- EMARK (R184). Otnak EMARK emits a frame mark. -/
def execOEmark (w : Nat) (ra : Fin 16) (s : State) : Host.Outcome State Fault Refusal := .next (s.otnak w (fun v => v.emark ra))
/-- EINDEX (R184). Otnak EINDEX emits an index record. -/
def execOEindex (w : Nat) (ra rb : Fin 16) (kind : BitVec 16) (s : State) : Host.Outcome State Fault Refusal := .next (s.otnak w (fun v => v.eindex ra rb kind))
/-- EMATCH (R184). Otnak EMATCH emits a search match. -/
def execOEmatch (w : Nat) (ra rb : Fin 16) (s : State) : Host.Outcome State Fault Refusal := .next (s.otnak w (fun v => v.ematch ra rb))
/-- REFUSE (R182). Otnak REFUSE ends the item refused, as malformed or as policy. -/
def execORefuse (w : Nat) (code : BitVec 16) (s : State) : Host.Outcome State Fault Refusal := .next (s.otnak w (fun v => v.refuse code))

end Sys2Proof.Machine
end

