-- ==== Sys2Proof/Machine/PowerCmds.lean ====
section
/-! DEFINITION. Modes, resets, supplies, clock gating, SYSCLK loss, crossings (chapter 16). -/

namespace Sys2Proof.Machine

/-! Modes (R394, R396). -/

/-- The heartbeat timer reaches TIMEOUT_S. -/
def State.timeout_ (s : State) : State :=
  match s.power.hbStart with
  | some b => if s.power.mode.timed then (s.reach (b + s.power.timeoutS * hz)).changeMode .holdover 4 else s
  | none => s

/-- HEARTBEAT_TIMEOUT (R396). -/
def execHeartbeatTimeout (s : State) : Host.Outcome State Fault Refusal := .next s.timeout_

/-- CATCHUP_END written 1 (R394): it acts only in CATCH-UP. -/
def State.endCatchup (s : State) : State := if s.power.mode = .catchup then s.changeMode .service 9 else s

/-- CATCHUP_END (R394). -/
def execCatchupEnd (s : State) : Host.Outcome State Fault Refusal := .next s.endCatchup

/-! Resets of the main domains (R405, R410, R411). -/

/-- The mode without main power (R394). -/
def State.downMode (s : State) : Mode := if s.power.vbat then .backup else .off

/-- PWR_OK falls. Both ports are held in reset; without VBAT the backup domain goes too. -/
def State.losePower (s : State) : State :=
  if !s.power.pwrOk then s
  else
    let s1 := s.mainReset 1 0 s.downMode
    let s2 := { s1 with
      power := { s1.power with pwrOk := false, warn := false }
      host := { s1.host with port0 := { s1.host.port0 with inReset := true }, port1 := { s1.host.port1 with inReset := true } } }
    if s.power.vbat then s2 else s2.loseBackup

/-- POWER_LOSS (R405). -/
def execPowerLoss (s : State) : Host.Outcome State Fault Refusal := .next s.losePower

/-- BROWN_OUT (R410): the backup domain is kept, since VDD_IO18 stands. -/
def execBrownOut (s : State) : Host.Outcome State Fault Refusal := .next (if s.power.pwrOk then s.mainReset 2 0 s.downMode else s)

/-- A device reset; one requested in phases 2 to 4 of a transition waits for its end (R446). -/
def State.deviceReset (s : State) : State :=
  if !s.mainOn then s
  else if s.guard.transition.any (fun t => decide (2 ≤ t.phase)) then { s with power := { s.power with resetPending := true } }
  else s.mainReset 3 1 .rest

/-- DEVICE_RESET (R411). -/
def execDeviceReset (s : State) : Host.Outcome State Fault Refusal := .next s.deviceReset

/-- EXTEST (R387): available in every state but SCRAPPED, it counts as a device reset. -/
def execExtest (s : State) : Host.Outcome State Fault Refusal := .next (if s.mainOn then s.mainReset 4 1 .rest else s)

/-! VBAT (R404, R406, R460). -/

/-- VBAT_SWITCHOVER (R406): no count is lost and nothing detects. -/
def execVbatSwitchover (toVbat : Bool) (s : State) : Host.Outcome State Fault Refusal :=
  .next { s with power := { s.power with onVbat := toVbat && s.power.vbat } }

/-- VBAT is gone. With main power TS08 detects the removal once (R461); without it the backup domain loses its supply. -/
def State.loseVbat (s : State) : State :=
  let s1 := { s with power := { s.power with vbat := false, onVbat := false } }
  if s.power.pwrOk then (if s.mainOn then s1.raise 8 0 else s1) else State.loseBackup { s1 with power := { s1.power with mode := .off } }

/-- VBAT_LOSS (R460). -/
def execVbatLoss (s : State) : Host.Outcome State Fault Refusal := .next s.loseVbat

/-- A cell is applied, which clears TS08 (R461); an unpowered device starts its backup domain FRESH. -/
def State.applyVbat (s : State) : State :=
  let p := s.power
  if p.pwrOk then State.setSrc { s with power := { p with vbat := true } } 8 { s.src 8 with active := false }
  else { s with power := { p with vbat := true, onVbat := true, mode := if p.mode = .off then .backup else p.mode } }

/-- VBAT_APPLIED (R404). -/
def execVbatApplied (s : State) : Host.Outcome State Fault Refusal := .next s.applyVbat

/-! The supply warning (R408, R409). -/

/-- Every PKE engine loses WORK and RESULT and keeps INPUT (R234). -/
def State.pkePause (s : State) : State :=
  { s with crypto := { s.crypto with pke := { s.crypto.pke with engines := s.crypto.pke.engines.foldl (fun m p => m.set noPke p.1 { p.2 with work := [], result := [] }) s.crypto.pke.engines } } }

/-- The operations that the engines of the pool hold run again, from validation on and with fresh randomness (R234). -/
def State.pkeAgain (s : State) : State :=
  s.crypto.pke.engines.foldl (fun s p => match p.2.run with
    | some r => match if opKeyed r.wait.op then s.pkeKey r.wait.req.key else some [] with | some k => s.pkeRunOn p.1 r.wait k | none => s.setPke p.1 {}
    | none => s) s

/-- VDD_CORE falls below VWARN: the engines pause, one dip more, and TS21 at the 8th within 1 s. -/
def State.warnOn (s : State) : State :=
  if !s.mainOn || s.power.warn then s
  else
    let falls := s.tamper.falls.filter (fun t => decide (s.now < t + hz + 1)) ++ [s.now]
    let s1 := { s with power := { s.power with warn := true, dips := sat 32 (s.power.dips + 1) }, tamper := { s.tamper with falls := falls } }
    let s2 := s1.pauseRows.pkePause
    if 8 ≤ falls.length then s2.raise 21 falls.length else s2

/-- SUPPLY_WARNING (R408). -/
def execSupplyWarning (s : State) : Host.Outcome State Fault Refusal := .next s.warnOn

/-- The warning is released after `us` microseconds: TS20 for more than 1 ms, and what waited runs. -/
def State.warnOff (s : State) (us : Nat) : State :=
  if !s.power.warn then s
  else
    let s1 := { s with power := { s.power with warn := false, lastDipUs := sat 16 us } }
    (if 1000 < us then s1.raise 20 (sat 24 (us / 1000)) else s1).pkeAgain.settle.flashAgain

/-- WARNING_RELEASE (R409). -/
def execWarningRelease (us : Nat) (s : State) : Host.Outcome State Fault Refusal := .next (s.warnOff us)

/-! Clock gating (R414). -/

/-- Has a row work: items, held work slots, open contexts, operations that run? -/
def State.rowBusy (s : State) (row : Nat) : Bool :=
  s.units.items.any (fun i => rowNo i.unit == row) || s.host.tickets.any (fun t => t.stall.any (fun a => rowNo a == row)) ||
    (s.rowEng row).cipherOpen != [] || (s.rowEng row).hashOpen != []

/-- Rows stay in rising order. -/
def insertRow (row : Nat) : List Nat → List Nat
  | [] => [row]
  | a :: r => if row < a then row :: a :: r else a :: insertRow row r

/-- ROW_GATE: in REST a row without work. -/
def State.gateRow (s : State) (row : Nat) : State :=
  if s.mainOn && s.power.mode == .rest && !s.rowBusy row && !s.power.rowsGated.contains row then { s with power := { s.power with rowsGated := insertRow row s.power.rowsGated } } else s

def execRowGate (row : Fin 64) (s : State) : Host.Outcome State Fault Refusal := .next (s.gateRow row.val)

def groupChans (g : Nat) : List Nat := (List.range 8).map (fun i => 8 * g + i)

/-- May the group's clock stop: in REST with no operation in flight, in other modes with no ACTIVE channel? -/
def State.mayGate (s : State) (g : Nat) : Bool :=
  if s.power.mode == .rest then (groupChans g).all (fun c => (chanTargets c).all (fun t => (s.target t).ops == []))
  else (groupChans g).all (fun c => (s.chan c).state != .active)

/-- FLASH_GROUP_GATE: the group's clock stops, its ACTIVE channels show GATED. -/
def State.gateGroup (s : State) (g : Nat) : State :=
  if s.mainOn && s.mayGate g && !s.power.groupGated.getLsbD g then
    (groupChans g).foldl (fun s c => if (s.chan c).state = .active then s.setChan c { s.chan c with state := .gated } else s)
      { s with power := { s.power with groupGated := setBit s.power.groupGated g true, groupGatedAt := s.power.groupGatedAt.set zeroOf g s.now } }
  else s

def execFlashGroupGate (group : Fin 8) (s : State) : Host.Outcome State Fault Refusal := .next (s.gateGroup group.val)

/-! SYSCLK (R413, R425). -/

/-- The domains of TS23 that run ungated from SYSCLK, by the numbers of its DETAIL. -/
def State.stoppedDomains (s : State) : List Nat :=
  ((List.range 8).filter (fun g => !s.power.groupGated.getLsbD g)).map (· + 2) ++ (if s.ddrRuns then [10] else []) ++ ((List.range 4).filter (fun n => (s.slot n).ck)).map (· + 11) ++
    ((List.range 2).filter (fun n => (s.card n).present)).map (· + 15)

/-- SYSCLK stops: the PLLs switch to the internal reference for good, and TS22 and TS23 record it. TS23 detects once, with the lowest of its domains (log 70). -/
def State.loseSysclk (s : State) : State :=
  if !s.mainOn || s.power.sysclkBackup then s
  else
    let d23 : List Det := match s.stoppedDomains with | d :: _ => [{ source := 23, detail := 16 * d + 1 }] | [] => []
    State.detect (State.pauseRows { s with power := { s.power with sysclkBackup := true, pllSwitching := true } }) ({ source := 22, detail := 1 } :: d23) 0 0

/-- SYSCLK_LOSS (R413). -/
def execSysclkLoss (s : State) : Host.Outcome State Fault Refusal := .next s.loseSysclk

/-- Pulses that waited in the H crossings are delivered. -/
def State.deliverPulses (s : State) : State :=
  let p := s.power
  { s with power := { p with hTotal := p.hPending.foldl (fun m q => m.set zeroOf q.1 ((m.get zeroOf q.1 + q.2) % 65536)) p.hTotal, hPending := [] } }

/-- The operations in progress in the pool end ABORTED with FAULT and are submitted again, those of an item with it (R425). -/
def State.pkeDisturbed (s : State) : State :=
  s.crypto.pke.engines.foldl (fun s p => match p.2.run with
    | some r =>
      let s1 := (s.setPke p.1 {}).pushPke (r.wait.aborted (0x6000 + p.1) true)
      if (s1.slotItem r.wait.req).isSome then s1 else (s1.resubmit r.wait).1
    | none => s) s

/-- Every PLL has locked: the held boundary applies before any commit, the items that ran start again, requests that waited run. -/
def State.resumeSysclk (s : State) (interrupt : Nat) : State :=
  if !s.power.pllSwitching then s
  else
    let s1 := { s with power := { s.power with pllSwitching := false } }
    let s2 := if s1.ledger.boundaryHeld then s1.tickBoundary else s1
    let n := s2.units.items.length
    let s3 := s2.units.items.foldl (fun s i => s.rerunItem i true true) s2.pkeDisturbed
    (s3.deliverPulses.logFault { cls := 0x40, outcome := if n = 0 then 0 else 2, interrupt := interrupt, detail := sat 32 n, escalated := true }).settle.flashAgain

/-- SYSCLK_RESUME (R425). -/
def execSysclkResume (interrupt : Nat) (s : State) : Host.Outcome State Fault Refusal := .next (s.resumeSysclk interrupt)

/-! Crossings (R416, R426). -/

/-- The H crossings. -/
def hCrossings : List Nat := [41, 42, 43, 44, 49, 50, 53, 54, 55, 66]

/-- RECONCILIATION: the destination takes the source's running total. -/
def execReconciliation (crossing : Nat) (total : BitVec 16) (s : State) : Host.Outcome State Fault Refusal :=
  .next (if hCrossings.contains crossing then { s with power := { s.power with hTotal := s.power.hTotal.set zeroOf crossing total.toNat } } else s)

end Sys2Proof.Machine
end

