-- ==== Sys2Proof/Machine/StartUp.lean ====
section
/-! DEFINITION. Start-up: the release of the core reset, bring-up and tests, torn steps, the vault, the ring, the tabs, the ledger, READY (chapters 04, 05, 09, 11, 12, 15, 16). -/

namespace Sys2Proof.Machine

/-! Step 1: the core reset is released (R363, R373, R407). -/

/-- Ring entries that BACKUP left, as detections, from the highest main-power level to the lowest. -/
def State.backupSeen (s : State) : List Seen :=
  let one := fun e : RingEvent => ({ source := e.source, level := (s.src e.source).level, flags := 1 + 256 * b2n e.erased, time := e.rtc, main := false } : Seen)
  ((s.tamper.ring.filter (fun e => !e.main)).map one).mergeSort (fun a b => decide (b.level ≤ a.level))

/-- The event ring is read and answered as one response; an ERASE in BACKUP stands behind the loss of the keys (R400). -/
def State.readRing (s : State) : State :=
  let erased := s.tamper.ring.any (fun e => !e.main && e.erased)
  let s1 := { s with power := { s.power with tamperBehind := s.power.tamperBehind || erased } }
  if s1.backupSeen = [] then s1 else s1.respond s1.backupSeen false

/-- TEST_MODE high at the release of the core reset: ignored outside BLANK and TRIMMED, and an access on the debug port without a pass (R455). Which right it lacks the spec
does not say: a free value (log 118). -/
def State.testModeUp (s : State) (high : Bool) : State :=
  if high && !(decide (s.lifeCount < 2)) && !s.scrapped then (s.pulse 66).raise 29 Config.testModeRight.toNat else s

/-- Straps, supplies and the reset cause as the core reset is released. -/
def State.coreUp (s : State) (two high : Bool) : State :=
  let cause := if s.power.fresh then 0 else s.power.resetCause
  State.testModeUp (high := high) <| State.readRing { s with
    host := { s.host with twoPorts := two, port0 := { s.host.port0 with link := { s.host.port0.link with downSince := s.now } }, port1 := { s.host.port1 with link := { s.host.port1.link with downSince := s.now } } }
    power := { s.power with pwrOk := true, mode := .rest, resetCause := cause }
    dev := { s.dev with stage := 1 } }

/-! Steps 3 to 5: flash, DDR4, units (R176, R218, R237, R262, R303, R304, R310). -/

/-- The stored array comes up; nothing where none is stored or it is up. -/
def State.flashUp (s : State) (a : StartAns) : State :=
  if s.flash.desc = [] ∨ s.flash.buildState ≠ .none then s
  else
    let rate := fun t => match a.trains.find? (fun p => p.1 == t) with | some p => p.2 | none => 2400
    let s1 := s.bringUp a.deadTargets rate
    { s1 with flash := { s1.flash with buildState := .built } }

/-- Raw bytes of the build, and the GiB of DDR4 it asks for (R304). -/
def State.rawBytes (s : State) : Nat := ((if s.flash.desc = [] then [] else (List.range 1024).filter s.present).map (fun t => let g := s.geo t; g.luns * g.pageBytes * g.pages * g.blocksPerLun)).sum
def State.ddrNeed (s : State) : Nat := max 32 (64 * ceilDiv s.rawBytes (2 ^ 50))

/-- The rates of R303, highest first. -/
def ddrRungs (l : List DdrAns) : List Nat := if l.any (fun x => decide (2 ≤ x.dimms)) then [2933, 2666, 2400] else [3200, 2933, 2666, 2400]
/-- The rate at which every channel trains; 0 for none. -/
def ddrRate (l : List DdrAns) : Nat := ((ddrRungs l).find? (fun r => l.all (fun x => decide (r ≤ x.trainsAt)))).getD 0

/-- One channel's configuration (R303). -/
def DdrAns.fits (x : DdrAns) : Bool := x.supported && decide (x.dimms ≤ 2) && (x.gbit == 8 || x.gbit == 16) && decide (1 ≤ x.ranks) && decide (x.ranks ≤ 4) && decide (16 ≤ x.gib) && decide (x.gib ≤ 128)
def DdrAns.same (x y : DdrAns) : Bool := x.dimms == y.dimms && x.ranks == y.ranks && x.x8 == y.x8 && x.gbit == y.gbit && x.gib == y.gib
/-- Which of the four channels hold memory. -/
def ddrSet (l : List DdrAns) : List Nat := (List.range 4).filter (fun c => l.any (fun x => x.chan == c))

/-- DDR.STATUS.ERR, 0 where the memory can be used. -/
def ddrCheck (l : List DdrAns) (need : Nat) : Nat :=
  let total := (l.map DdrAns.gib).sum
  if !l.all DdrAns.spdOk then 4
  else if ddrSet l ≠ [0, 1, 2, 3] ∧ ddrSet l ≠ [0, 2] then 1
  else if !(l.all DdrAns.fits && decide (32 ≤ total) && decide (total ≤ 512)) then 2
  else if !(l.all (fun x => l.all (DdrAns.same x))) then 3
  else if ddrRate l = 0 then 5
  else if total < need then 6 else 0

/-- One channel comes up. -/
def State.ddrChanUp (s : State) (rate : Nat) (x : DdrAns) : State :=
  s.setDdrChan x.chan { state := .active, rate := rate, usedAt := s.now, dimms := x.dimms, ranks := x.ranks, x8 := x.x8, gib := x.gib }

/-- DDR4 comes up with new keys, or FAILED with its ERR. -/
def State.ddrUp (s : State) (l : List DdrAns) : State :=
  if s.ddr.state ≠ .off ∧ s.ddr.state ≠ .failed then s
  else
    let e := ddrCheck l s.ddrNeed
    if e ≠ 0 then { s with ddr := { s.ddr with state := .failed, err := e } }
    else
      let s1 := l.foldl (fun s x => s.ddrChanUp (ddrRate l) x) s
      { (s1.drewBytes 96) with ddr := { s1.ddr with state := .filling, err := 0, keys := s1.drawBytes 96 } }

/-- One unit fails its start-up tests. -/
def State.retireUnit (s : State) (p : Nat × Nat) : State :=
  if (s.unitSt p.1).state = .retired then s
  else match unitLevel p.1 with
    | some 3 => s.retireStall p.1 p.2
    | some 4 => s.retireEngine p.1
    | some 5 => s.retireEngine p.1
    | some 6 => s.retireEngine p.1
    | some 7 => s.retireEngine p.1
    | _ => s

/-- Seeds of the grinders, firmware, and the tests of every unit (R208, R218, R237): spares first, so that a failed spare stands in for no one. -/
def State.unitsUp (s : State) (a : StartAns) : State :=
  let spare := fun p : Nat × Nat => decide (unitLevel p.1 = some 3) && p.1 % 16 == 8
  let s0 := if s.entropyOk then s.seedGrinders else s
  let s1 := if a.firmware = 0 then { s0 with units := { s0.units with fw := a.fw } } else s0
  (a.failed.filter spare ++ a.failed.filter (fun p => !spare p)).foldl State.retireUnit s1

/-- Why READY is withheld after steps 3 to 5: cause and detail (R445). -/
def State.holdFor (s : State) (firmware : Nat) : Nat × Nat :=
  if s.flash.desc = [] ∨ s.flash.buildState ≠ .built then (4, s.flash.buildErr)
  else if s.ddr.err ≠ 0 then (5, s.ddr.err)
  else if firmware ≠ 0 then (3, firmware)
  else if s.hashersWorking = [] then (6, 0)
  else if s.pkeWorking = [] then (7, 0)
  else (0, 0)

/-- The highest of steps 2 to 5 that has ended; they run side by side. -/
def State.stageOf (s : State) (firmware : Nat) : Nat :=
  if firmware = 0 ∧ s.hashersWorking ≠ [] ∧ s.pkeWorking ≠ [] then 5
  else if s.ddr.err = 0 then 4
  else if s.flash.desc ≠ [] ∧ s.flash.buildState = .built then 3 else 2

/-- READY is withheld. -/
def State.withhold (s : State) (cause detail : Nat) : State := { s with dev := { s.dev with holdCause := cause, holdDetail := detail } }
/-- Step `n` has ended. -/
def State.staged (s : State) (n : Nat) : State := { s with dev := { s.dev with stage := max s.dev.stage n } }

/-! A torn step (R383). -/

/-- The request of a torn step, from the first slot that holds one. -/
def State.storedRequest (s : State) : Option Bytes := match s.guard.request0 with | some b => some b | none => s.guard.request1

/-- Phases 3 and 4 once more; the ledger of a new generation starts with the rest of start-up. -/
def State.resumeTorn (s : State) (k : Nat) (b : Bytes) : State :=
  let s1 := s.phase3 { kind := reqKind b, target := k, phase := 3, request := b }
  let s2 := s1.setOtp (s1.guard.otp.burnDone k)
  let s3 := { s2 with
    guard := { s2.guard with tornResumed := true, request0 := none, request1 := none }
    ledger := { s2.ledger with uncertain := s2.ledger.uncertain || decide (reqKind b ≤ 2) } }
  if s3.power.mode = .rest then s3 else State.devEvent { s3 with power := { s3.power with mode := .rest, lockCause := 0 } } 1

/-! Step 6: the vault (R252, R400). -/

/-- The image whose serial the backup domain names. -/
def State.validImage (s : State) : Option VaultImage :=
  match s.vault.image0 with
  | some i => if i.serial = s.vault.imageSerial then some i else s.vault.image1.filter (fun j => j.serial == s.vault.imageSerial)
  | none => s.vault.image1.filter (fun j => j.serial == s.vault.imageSerial)

/-- The vault is unwrapped from an image: its page keys open the pages of the key table, and the current keys enter the working set (R252). A slot left with another image is
erased. -/
def State.loadImage (s : State) (k : Bytes) (i : VaultImage) : State :=
  let epochs := i.pages.flatMap s.vault.openPage
  State.eraseOld { s with
    vault := { s.vault with
      vaultKey := some k, epochs := epochs, pageKeys := i.pages, signing := i.signing, pairing := i.pairing, authority := i.authority, lastIssued := i.lastIssued
      work := (epochs.filter (fun e => e.state == .current)).map (fun e => { slot := epochSlot e.group e.epoch, group := e.group, epoch := e.epoch })
      certs := s.vault.certs ++ i.certs.filter (fun c => !s.vault.certs.any (fun d => d.index == c.index)) }
    tabs := { s.tabs with days := i.days } }

/-- LAST_TICK of every key as the restored entries give it (R247). -/
def State.keyTicks (s : State) : State :=
  { s with vault := { s.vault with epochs := s.vault.epochs.map (fun k =>
      { k with lastTick := ((s.tabs.entries.filter (fun e => e.hdr.stored && e.hdr.group == k.group && e.hdr.epoch == k.epoch)).map Entry.commitTick).foldl max k.lastTick }) } }

/-- An unwrap failure enters LOCKDOWN. -/
def State.unwrapFails (s : State) : State :=
  let s1 := s.enterLockdown (if s.power.tamperBehind then 1 else 2)
  { s1 with power := { s1.power with lossInLockdown := true } }

/-- Step 6. A LOCKDOWN that the event ring has brought finds no vault to open. -/
def State.vaultUp (s : State) (imageOk : Bool) : State :=
  if !s.owned then s
  else if s.power.mode = .lockdown then { s with power := { s.power with lossInLockdown := true } }
  else match s.vault.enclosure, s.validImage with
    | some e, some i => if imageOk && i.vaultKey == s.vaultKeyOf e then s.loadImage (s.vaultKeyOf e) i else s.unwrapFails
    | _, _ => s.unwrapFails

/-! Step 7: secure time and the ring (R128, R291). -/

/-- The highest boundary of the journal, with its step. -/
def Ledger.highest (l : Ledger) : Nat := (l.journal.map (fun j => j.boundary + j.step)).foldl max 0

/-- Secure time never falls below the ledger. With an empty journal there is nothing to compare (log 71). -/
def State.timeUp (s : State) : State :=
  let l := s.ledger
  let h := l.highest
  let f := s.power.fresh
  if l.journal = [] then { s with ledger := { l with uncertain := l.uncertain || f } }
  else if f ∨ s.now ≤ h then
    { s with ledger := { l with rtc := BitVec.ofNat 48 (h + 32768), uncertain := true, applied := if f then l.applied else l.applied + (h + 32768 - s.now : Nat) } }
  else s

/-- The rows of an open crate that its scan finds programmed. -/
def scanOf (scans : List ScanAns) (c : Crate) : Nat := match scans.find? (fun p => p.crate == c.id) with | some p => min p.row c.rowsProgrammed | none => c.rowsProgrammed

/-- The slots of an open crate at which its scan meets a TYPE that is never written, within the rows it finds (R276). -/
def oddOf (scans : List ScanAns) (c : Crate) : List Nat :=
  match scans.find? (fun p => p.crate == c.id) with | some p => p.badTypes.filter (fun k => decide (k < scanOf scans c * c.rowSlots)) | none => []

/-- Is an object of an open crate within the rows that its scan found? From a TYPE that is never written on, the rest of its row holds none (R276). -/
def Crate.scanned (c : Crate) (rows : Nat) (odd : List Nat) (o : Obj) : Bool :=
  o.programmed && decide (o.slot + o.slots ≤ rows * c.rowSlots) && !odd.any (fun k => decide (k ≤ o.slot) && o.slot / c.rowSlots == k / c.rowSlots)

/-- An open crate after its scan: closed without a summary (R291). -/
def Crate.restored (c : Crate) (rows : Nat) (odd : List Nat) (now : Nat) : Crate :=
  { c with state := c.closedState, objects := c.objects.filter (c.scanned rows odd), rowsProgrammed := rows, nextSlot := rows * c.rowSlots, noSummary := true, closedAt := now, scrubbedAt := now, reservedSlots := 0 }

/-- Live objects that the scans do not find, with their crates. -/
def State.scannedOut (s : State) (scans : List ScanAns) : List (Nat × Obj) :=
  (s.flash.crates.filter (fun c => c.state == .opened)).flatMap (fun c => (c.objects.filter (fun o => !c.scanned (scanOf scans c) (oddOf scans c) o && !o.dead && !o.old)).map (fun o => (c.id, o)))

/-- Does a kept crate still hold an object of a type, key and group? -/
def State.holdsObj (s : State) (type tab key : Nat) : Bool := s.flash.crates.any (fun c => c.objects.any (fun o => o.type == type && o.tab == tab && o.key == key && o.programmed && !o.old))

/-- The ring is restored: prepared crates return their lane blocks, open ones are closed as scanned, and what the lost objects held goes. -/
def State.ringUp (s0 : State) (scans : List ScanAns) : State :=
  let s := (s0.flash.crates.filter (fun c => c.state == .opened && oddOf scans c != [])).foldl (fun s c => s.logFault { cls := 0x37, outcome := 0, unit := 0x8000, detail := c.id }) s0
  let gone := s.scannedOut scans
  let free := (s.flash.crates.filter (fun c => c.state == .prepared)).flatMap Crate.lanes
  let s1 := free.foldl (fun s l => s.setLane l { s.lane l with used := false }) s
  let s2 := s1.setCrates ((s1.flash.crates.filter (fun c => c.state != .prepared)).map (fun c => if c.state = .opened then c.restored (scanOf scans c) (oddOf scans c) s.now else c))
  let lostRec := (gone.filter (fun p => p.2.type == 4)).map (fun p => p.2.key)
  let l := lostRec.foldl (fun m k => min m (k - 1)) s2.ledger.durableTick
  { s2 with
    tabs := { s2.tabs with entries := s2.tabs.entries.filter (fun e => !gone.any (fun p => p.1 == e.inCrate && decide (p.2.type ≤ 2) && p.2.tab == e.hdr.tab && p.2.key == e.hdr.seq)) }
    vault := { s2.vault with
      wraps := s2.vault.wraps.filter (fun w => !gone.any (fun p => p.2.type == 3 && p.2.tab == w.group && p.2.key == w.epoch) || s2.holdsObj 3 w.group w.epoch)
      certs := s2.vault.certs.filter (fun c => !gone.any (fun p => p.2.type == 6 && p.2.key == c.index) || s2.holdsObj 6 0 c.index) }
    ledger := { s2.ledger with durableTick := l, sealedTick := l, records := s2.ledger.records.filter (fun r => decide (r.at_.tick ≤ l))
                               signerDue := dueAgain (s2.ledger.records.filter (fun r => decide (l < r.at_.tick))) s2.ledger.signerDue } }

/-! Step 8: tabs, holds, ledger, applets, sessions, epochs (R22, R123, R125, R142, R189, R246, R349). -/

/-- The highest durable contiguous entry of a tab: below the first that is missing (R22). -/
def State.restoredSeq (s : State) (t : Nat) : Nat :=
  let d := (s.tab t).durable
  let top := (s.tabs.marks.get noMark t).topSeq
  (List.range (d - top)).foldl (fun b i => if b = top + i ∧ (s.entry? t (top + i + 1)).isSome then b + 1 else b) (min top d)

/-- What the entries up to `n` make of a tab. -/
def State.restoredMark (s : State) (t n : Nat) : TabMark :=
  (s.tabs.entries.filter (fun e => e.hdr.tab == t && decide (e.hdr.seq ≤ n))).foldl TabMark.see (s.tabs.marks.get noMark t)

/-- The context of a tab as its durable entries give it (R22, R125). STATE.AUTO follows AUTO_OPEN of the last OPEN entry while the tab is open (DESIGN CHOICE, log 105). -/
def State.restoredTab (s : State) (t n : Nat) : Tab :=
  let m := s.restoredMark t n
  let old := s.tab t
  if n = 0 then {}
  else
    Tab.at_ {
      chainHead := m.head, nextSeq := n + 1, sealed := n, durable := n, uploaded := min old.uploadedPersist n, source := m.source, template := m.template
      applet := match s.template? m.template with | some p => p.applet | none => 0
      cameraKey := s.cameraKeyOf m.template m.source, group := match s.template? m.template with | some p => p.group | none => m.group
      isOpen := decide (m.closeSeq < m.openSeq), auto := m.auto && decide (m.closeSeq < m.openSeq),
      lastTick := m.lastTick, lastCapture := m.capture, durableHead := m.head, appletState := m.words, uploadedPersist := old.uploadedPersist } m.affinity

/-- Every tab context is rebuilt; entries above a tab's last contiguous one are gone, and their objects are dead. -/
def State.tabsUp (s : State) : State :=
  let nos := (s.tabs.ctx.map (·.1) ++ s.tabs.entries.map (fun e => e.hdr.tab)).dedup
  let last := nos.map (fun t => (t, s.restoredSeq t))
  let kept := fun (t n : Nat) => last.any (fun p => p.1 == t && decide (n ≤ p.2))
  let ctx := last.foldl (fun m p => m.set Tab.closed p.1 (s.restoredTab p.1 p.2)) s.tabs.ctx
  { s with
    tabs := { s.tabs with ctx := ctx, entries := s.tabs.entries.filter (fun e => kept e.hdr.tab e.hdr.seq) }
    flash := { s.flash with crates := s.flash.crates.map (fun c => { c with objects := c.objects.map (fun o => if o.type ≤ 2 ∧ ¬ o.old ∧ ¬ kept o.tab o.key then { o with dead := true } else o) }) } }

/-- A HOLD or RELEASE_HOLD event replayed (R123, R135). -/
def replayHold (st : List Hold × Nat) (e : TickEvent) : List Hold × Nat :=
  let id := fld e.body 0 4
  if e.type = 6 then
    let tb := fld e.body 4 4
    (st.1 ++ [{ id := id, tab := if tb = 0xFFFFFFFF then none else some tb, first := fld e.body 8 8, last := fld e.body 16 8 }], max st.2 id)
  else if e.type = 7 then (st.1.filter (fun h => h.id != id), st.2)
  else st

/-- The holds that the durable records leave. -/
def State.holdsUp (s : State) : State :=
  let r := (s.ledger.records.flatMap TickRecord.events).foldl replayHold ([], s.tabs.holdHigh)
  { s with tabs := { s.tabs with holds := r.1, holdHigh := r.2 } }

def State.journal? (s : State) (n : Nat) : Option Boundary := s.ledger.journal.find? (fun j => j.tick == n)

/-- BOUNDARY + STEP of a tick, from its record or the journal; 0 where neither has it. -/
def State.tickEnd (s : State) (n : Nat) : Nat :=
  match s.record? n, s.journal? n with
  | some r, _ => r.at_.boundary + r.at_.step
  | none, some j => j.boundary + j.step
  | none, none => 0

/-- The tabs present in a tick with their heads, from the restored entries. -/
def State.headsAt (s : State) (tick : Nat) : List (Nat × Bytes) :=
  let es := s.tabs.entries.filter (fun e => e.commitTick == tick)
  let nos := (s.tabs.ctx.map (·.1)).filter (fun t => es.any (fun e => e.hdr.tab == t))
  nos.map (fun t => (t, ((es.filter (fun e => e.hdr.tab == t)).getLast?.map Entry.chain).getD []))

/-- A tick to be resealed from the journal (R142, R143). -/
def State.resealed (s : State) (n : Nat) : Option TickBuild :=
  (s.journal? n).map (fun j =>
    { at_ := j, prevBoundary := s.tickEnd (n - 1), heads := s.headsAt n, entryCount := s.tabs.entries.countP (fun e => e.commitTick == n), events := j.events, resealed := true })

/-- The journal after a restart in tick `m`: the boundaries still to be sealed, and the highest one as a mark (R128). -/
def Ledger.restartJournal (l : Ledger) (m : Nat) : List Boundary :=
  let top := l.journal.find? (fun j => j.boundary + j.step == l.highest)
  l.journal.filter (fun j => decide (l.durableTick < j.tick) && decide (j.tick < m)) ++
    (match top with | some j => if l.durableTick < j.tick ∧ j.tick < m then [] else [{ j with tick := if m ≤ j.tick then 0 else j.tick, events := [] }] | none => [])

/-- The ledger is restored (R142): ticks L + 1 to M − 1 wait to be resealed, tick M is open. -/
def State.ledgerUp (s : State) : State :=
  let l := s.ledger
  let m := (s.tabs.entries.map Entry.commitTick).foldl max (l.durableTick + 1)
  let builds := (List.range (m - 1 - l.durableTick)).filterMap (fun i => s.resealed (l.durableTick + 1 + i))
  { s with ledger := { l with builds := builds, current := m, began := if m = 1 then s.now else s.tickEnd (m - 1), events := [], restart := true, journal := l.restartJournal m } }

/-- Does a stored image still verify (R189)? In LOCKDOWN the clear copy of the authority record serves. -/
def State.imageHolds (s : State) (n : Nat) (a : Applet) : Bool :=
  let k := match s.vault.authority with | some k => some k | none => s.vault.authorityCopy
  let sigOk := match k with | some k => pairVerifyAt k.applet a.image (imageSigned a.image) | none => false
  match imageOf a.image n (s.unitMatches (slice a.image 16 16) && decide (fld a.image 32 1 = s.lifeCount)) sigOk with
  | .ok _ => true
  | .error _ => false

/-- Images that no longer verify are dropped, and the templates that name them. -/
def State.appletsUp (s : State) : State :=
  let bad := (s.tabs.applets.filter (fun p => !s.imageHolds p.1 p.2)).map (·.1)
  let hit := fun p : Nat × Template => bad.contains p.2.applet
  { s with
    tabs := { s.tabs with applets := s.tabs.applets.filter (fun p => !bad.contains p.1), templates := s.tabs.templates.filter (fun p => !hit p) }
    dev := { s.dev with appletsDropped := s.dev.appletsDropped || bad != [], templatesDropped := s.dev.templatesDropped || s.tabs.templates.any hit } }

/-- A session whose hold was not restored is abandoned; there is no hold to release (R349). -/
def State.sessionUp (s : State) (x : Session) : State :=
  if s.tabs.holds.any (fun h => h.id == x.hold) then s
  else
    State.cartEvent { s with boards := { s.boards with
      sessions := s.boards.sessions.filter (fun y => y.id != x.id), shownId := x.id, shownState := .abandoned, shownPart := x.part, shownSlot := x.slot, shownPercent := s.percent x
      abandoned := s.boards.abandoned ++ [x.id], hx := if x.headless then 6 else s.boards.hx } } 13

/-- Step 8 of an owned device. In LOCKDOWN the ledger stands restored and no tick runs. -/
def State.evidenceUp (s : State) (evs : List TickEvent) : State :=
  let s1 := ((((s.appletsUp.copiesUp).tabsUp).holdsUp).ledgerUp).keyTicks
  let s2 := s1.boards.sessions.foldl State.sessionUp s1
  if s2.power.mode = .lockdown then s2
  else (((s2.runTicks s2.ledger.periodMs ([s2.restartEvent s2.power.restartCause] ++ evs)).shred).openAllEpochs).writeImage

/-- READY is set: messages of causes already set go out with it (R445, R450). -/
def State.becomeReady (s : State) : State :=
  let s1 := { s with dev := { s.dev with ready := true, stage := 8, holdCause := 0, holdDetail := 0 }, power := { s.power with fresh := false } }
  ([0, 1, 2, 3].foldl (fun s c => if s.causeSet c then s.signal c else s) s1).devEvent 0

/-! START_UP (R407). -/

/-- Steps 6 to 8, after a torn step has been settled. `scanned` says that the ring stands restored already, `evs` are events of tick 1 of a generation
that a resumed step begins. Without entropy no start-up epoch can be made, and start-up waits (log 72). -/
def State.finishUp (s : State) (a : StartAns) (scanned : Bool) (evs : List TickEvent) : State :=
  if s.scrapped then s
  else if s.owned && !s.entropyOk then s
  else
    let s1 := ((s.vaultUp a.imageOk).staged 6)
    let s2 := (if scanned then s1.timeUp else s1.timeUp.ringUp a.scans).staged 7
    (if s2.owned then s2.evidenceUp evs else s2).becomeReady

/-- A torn step, then steps 6 to 8. The ring is restored before the step's phase 3 writes to it. -/
def State.tornUp (s : State) (a : StartAns) : State :=
  match s.guard.otp.torn with
  | none => s.finishUp a false []
  | some k =>
    match s.storedRequest with
    | none => s.withhold 2 k
    | some b =>
      if !a.requestsReadable then s.withhold 2 k
      else if reqKind b ≤ 2 ∧ !s.entropyOk then s
      else ((s.ringUp a.scans).resumeTorn k b).finishUp a true (if reqKind b ≤ 2 then [{ type := 0xE, body := lifeEvent k b }] else [])

/-- Steps 3 to 5 and what follows them. The entropy source's test is this start-up's. -/
def State.stepsUp (s : State) (a : StartAns) : State :=
  let s0 := { s with vault := { s.vault with entropyFails := if a.entropyOk then 0 else max 3 s.vault.entropyFails } }
  let s1 := if a.entropyOk then s0 else s0.logFault { cls := 0x17, detail := s0.vault.entropyFails }
  let s2 := (((s1.flashUp a).ddrUp a.ddr).unitsUp a)
  let h := s2.holdFor a.firmware
  let s3 := (s2.staged (s2.stageOf a.firmware)).withhold h.1 h.2
  if h.1 ≠ 0 then s3 else s3.tornUp a

/-- Step 2 and what follows it: a torn SCRAP is completed before anything else (R376, R377, R383). -/
def State.otpUp (s : State) (a : StartAns) : State :=
  let s1 := (s.counterCheck a.counterBad).staged 2
  match s1.guard.otp.torn with
  | some k => if 20 ≤ k then (let t : Transition := { kind := 4, target := k, phase := 3 }; (s1.phase3 t).phase4 t) else if s1.lifeCount < 2 then s1.withhold 1 s1.lifeCount else s1.stepsUp a
  | none => if s1.scrapped then s1 else if s1.lifeCount < 2 then s1.withhold 1 s1.lifeCount else s1.stepsUp a

/-- START_UP: from the release of the core reset, or on from where READY was withheld. Nothing where the device is READY, SCRAPPED, or its supply is below VWARN. -/
def State.startUp (s : State) (a : StartAns) : State :=
  if s.dev.ready || s.scrapped || s.power.warn then s
  else
    let s1 := if s.dev.stage = 0 then s.coreUp a.twoPorts a.testMode else s
    if s1.scrapped then s1 else s1.otpUp a

def execStartUp (ans : StartAns) (s : State) : Host.Outcome State Fault Refusal := .next (s.startUp ans)

end Sys2Proof.Machine
end

