-- ==== Sys2Proof/Machine/RegRead.lean ====
section
/-! DEFINITION. What every register of BAR0 reads as, block by block (R436 to R449 and the register tables of each chapter), and the latched reads of R438. -/

namespace Sys2Proof.Machine

/-- What a register reads as: its value, and whether it permits 64-bit access. -/
structure RegVal where
  value : Nat
  wide : Bool := false
deriving DecidableEq, Repr

def r32 (v : Nat) : Option RegVal := some { value := v }
def r64 (v : Nat) : Option RegVal := some { value := v, wide := true }

/-- A word whose bit `i` says `p i`, for `i` below `n`. -/
def bitsOf (n : Nat) (p : Nat → Bool) : Nat := ((List.range n).map (fun i => 2 ^ i * b2n (p i))).sum

/-! DEV and INTR (R442 to R449). -/

/-- DEV.PORT_STATUS of a port; the time since the link left L0 saturates. -/
def State.portStatus (s : State) (p : Nat) : Nat :=
  let l := (s.port p).link
  if !s.portUsed p then 0
  else if l.l0 then 2 ^ 31 + put l.speed 28 3 + put l.width 22 6
  else sat 16 ((s.now - l.downSince) / hz)

def State.devStatus (s : State) : Nat :=
  2 ^ 31 * b2n s.dev.ready + 2 ^ 30 * b2n s.host.twoPorts + put s.dev.stage 24 5 + put s.dev.holdCause 16 8 + put s.dev.holdDetail 8 8 +
    2 ^ 7 * b2n s.dev.appletsDropped + 2 ^ 6 * b2n s.dev.templatesDropped

def State.devReg (s : State) (o : Nat) : Option RegVal :=
  match o with
  | 0x00 => r32 (0xB512 * 65536 + Config.vendorId.toNat)
  | 0x04 => r32 (0x09010000 + Config.stepping.toNat * 256)
  | 0x10 => r32 (fld s.unitId 0 4)
  | 0x14 => r32 (fld s.unitId 4 4)
  | 0x18 => r32 (fld s.unitId 8 4)
  | 0x1C => r32 (fld s.unitId 12 4)
  | 0x20 => r32 0x08080801
  | 0x24 => r32 0x10080402
  | 0x28 => r32 0x100C4048
  | 0x2C => r32 0x04000404
  | 0x30 => r32 0x10000800
  | 0x40 => r32 s.devStatus
  | 0x80 => r64 (s.port 0).wmtBase.toNat
  | 0x88 => if s.host.twoPorts then r64 (s.port 1).wmtBase.toNat else none
  | 0x90 => r32 (s.portStatus 0)
  | 0x94 => r32 (s.portStatus 1)
  | _ => none

def State.vectorReg (s : State) (c : Nat) : Nat :=
  let v := s.causeVec c
  put v.1 31 1 + put v.2 0 12

def State.intrReg (s : State) (o : Nat) : Option RegVal :=
  if 0x10 ≤ o ∧ o < 0x20 ∧ o % 4 = 0 then r32 (s.vectorReg ((o - 0x10) / 4))
  else match o with
    | 0x00 => r32 (bitsOf 4 s.causeSet)
    | 0x04 => r32 s.dev.events.toNat
    | 0x08 => r32 s.dev.enable.toNat
    | _ => none

/-! CLASS (R89 to R96). -/

def Weights.word (w : Weights) : Nat := put w.w3.toNat 8 4 + put w.w2.toNat 4 4 + w.w1.toNat

/-- CLASS.ACTIVE: the weights of the mode. -/
def State.activeWeights (s : State) : Nat :=
  match s.power.mode with
  | .catchup => s.classes.catchup.word
  | .lockdown => 0x190
  | _ => s.classes.service.word

def State.classReg (s : State) (o : Nat) : Option RegVal :=
  let c := s.classes
  match o with
  | 0x00 => r32 c.service.word
  | 0x04 => r32 c.catchup.word
  | 0x08 => r32 (put s.power.mode.code 16 8 + s.activeWeights)
  | 0x10 => r32 (put c.reserve0 16 16 + put c.stagingSize 0 16)
  | 0x14 => r32 c.spaceWaitMs
  | 0x20 => r32 (put (sat 16 c.fetchFree) 16 16 + sat 16 (((List.range 64).map s.rowFree).sum))
  | 0x24 => r32 (put (sat 16 c.readbufFree) 16 16 + sat 16 (c.stagingFree / 16))
  | 0x30 => r32 c.waiting.toNat
  | 0x40 => r32 (put c.tickMax 16 16 + put c.receiptMax 0 16)
  | _ => none

/-! TICK (R158 to R161). -/

def State.tickStatus (s : State) : Nat :=
  let l := s.ledger
  2 ^ 31 * b2n l.running + 2 ^ 30 * b2n l.uncertain + 2 ^ 29 * b2n (decide (l.slewRemain ≠ 0)) + 2 ^ 28 * b2n l.stepPending.isSome +
    2 ^ 27 * b2n (s.vault.authority.any Authority.timeAuthority) + sat 16 (l.sealedTick - l.durableTick)

def State.tickReg (s : State) (o : Nat) : Option RegVal :=
  let l := s.ledger
  match o with
  | 0x00 => r32 l.periodMs
  | 0x04 => r32 s.tickStatus
  | 0x08 => r32 l.slewWord
  | 0x0C => r32 (put l.unsignedMs 0 16)
  | 0x10 => r64 s.now
  | 0x18 => r64 (ofSigned 64 l.applied)
  | 0x20 => r64 l.current
  | 0x28 => r64 l.sealedTick
  | 0x30 => r64 l.durableTick
  | 0x38 => r64 l.nextShown
  | 0x40 => r32 (ofSigned 32 l.slewRemain)
  | _ => none

/-! TAMPER (R362, R374). -/

/-- An event-ring entry as a word (R362). -/
def RingEvent.word (e : RingEvent) : Nat := 2 ^ 57 * b2n e.main + 2 ^ 56 * b2n e.erased + put e.action 53 3 + put e.source 48 5 + e.rtc % 2 ^ 48

def State.srcReg (s : State) (n : Nat) : Nat :=
  let c := if s.fused n then { level := 0 } else s.src n
  put c.level 29 3 + 2 ^ 28 * b2n c.backupErase + 2 ^ 27 * b2n (s.fused n) + 2 ^ 26 * b2n c.active + 2 ^ 25 * b2n c.masked + 2 ^ 24 * b2n c.testFail + put c.debounce 16 8 + c.count % 65536

def State.tamperStatus (s : State) : Nat :=
  let t := s.tamper
  2 ^ 31 * b2n s.guard.otp.killAllowed + 2 ^ 30 * b2n s.vault.enclosure.isSome + put t.lastLevel 27 3 + put t.lastSource 22 5 + t.logLost % 65536

def State.tamperReg (s : State) (o : Nat) : Option RegVal :=
  let t := s.tamper
  if 0x100 ≤ o ∧ o < 0x180 ∧ o % 4 = 0 then r32 (s.srcReg ((o - 0x100) / 4))
  else if 0x40 ≤ o ∧ o < 0xC0 ∧ o % 8 = 0 then r64 (match t.ring[(o - 0x40) / 8]? with | some e => e.word | none => 0)
  else match o with
    | 0x00 => r32 (b2n t.lock)
    | 0x04 => r32 s.tamperStatus
    | 0x08 => r32 (bitsOf 32 (fun n => (s.src n).active))
    | 0x0C => r32 t.notified.toNat
    | 0x10 => r32 s.guard.otp.fuses.toNat
    | 0x14 => r32 (bitsOf 32 (fun n => (s.src n).masked))
    | 0x18 => r32 (t.next % 2 ^ 32)
    | 0x20 => r32 (put t.windowMs 16 16 + put t.lockstepCount 0 16)
    | 0x30 => r32 (put t.overflow 8 8 + t.ring.length % 32)
    | _ => none

/-! LCDBG (R393). -/

/-- The state's code and the owner generation. -/
def lifeCode (count : Nat) : Nat := if count < 3 then count else if count ≤ 18 then 3 else if count = 19 then 4 else 5
def lifeGen (count : Nat) : Nat := if 3 ≤ count ∧ count ≤ 18 then count - 2 else 0

/-- PHASE and TARGET; a torn step that is held shows phase 3 (R383). -/
def State.phaseShown (s : State) : Nat := match s.guard.transition with | some t => t.phase | none => if s.tornHeld then 3 else 0
def State.targetShown (s : State) : Nat := match s.guard.transition with | some t => t.target | none => if s.tornHeld then s.guard.otp.torn.getD 0 else 0

/-- Ticks of a pass's lifetime that are left. -/
def State.passLeft (s : State) : Nat := if s.guard.passActive then min (2 ^ 30 - 1) (ceilDiv (s.guard.passEnds - s.now) (periodCounts s.ledger.periodInForce)) else 0

def State.lcdbgReg (s : State) (o : Nat) : Option RegVal :=
  let g := s.guard
  let c := s.lifeCount
  match o with
  | 0x00 => r32 (put c 24 8 + put (lifeCode c) 21 3 + put (lifeGen c) 16 5 + 2 ^ 15 * b2n g.tornResumed + 2 ^ 14 * b2n g.killBurnt + put s.targetShown 0 8)
  | 0x08 => r32 (put s.phaseShown 29 3 + put g.lastRefusal 24 5)
  | 0x10 => r32 (fld g.nonce 0 4)
  | 0x14 => r32 (fld g.nonce 4 4)
  | 0x18 => r32 (fld g.nonce 8 4)
  | 0x1C => r32 (fld g.nonce 12 4)
  | 0x20 => r32 g.passRights.toNat
  | 0x24 => r32 (2 ^ 31 * b2n g.passActive + 2 ^ 30 * b2n g.passVendor + s.passLeft)
  | 0x30 => r32 (bits g.otp.counter.toNat 0 32)
  | 0x34 => r32 (bits g.otp.counter.toNat 32 32)
  | 0x38 => r32 (bits g.otp.counter.toNat 64 32)
  | 0x3C => r32 (bits g.otp.counter.toNat 96 32)
  | _ => none

/-! CART (R353). -/

/-- The session that CART.SESSION shows: the open one, else the latest that waits. -/
def State.shownSession (s : State) : Option Session :=
  match s.boards.sessions.find? (fun x => x.state == .opened) with
  | some x => some x
  | none => s.boards.sessions.getLast?

def State.progress (s : State) : Nat :=
  let b := s.boards
  let (pc, st, part, slot) := match s.shownSession with
    | some x => (s.percent x, x.state.code, x.part, x.slot)
    | none => (b.shownPercent, b.shownState.code, b.shownPart, b.shownSlot)
  put pc 24 8 + put st 21 3 + put part 8 8 + put slot 0 2

def State.slotReg (s : State) (n : Nat) : Nat :=
  let c := s.slot n
  let up := c.state == .bringup || c.usable || c.state == .busy
  put c.state.code 29 3 + put c.gen 27 2 + put (if up && c.identified then c.mode + 1 else 0) 24 3 + 2 ^ 23 * b2n (s.enrolled n) + 2 ^ 22 * b2n (s.slotBlank n) +
    2 ^ 21 * b2n (s.sessionOn n).isSome + c.crcErrors % 65536

def State.cardReg (s : State) (i : Nat) : Nat :=
  let c := s.card i
  put c.state.code 29 3 + put c.cls 27 2 + 2 ^ 26 * b2n c.t1 + put c.rights 20 4 + put c.refusal 16 4 + c.lastSw % 65536

def State.cartReg (s : State) (o : Nat) : Option RegVal :=
  let b := s.boards
  if 0x20 ≤ o ∧ o < 0x30 ∧ o % 4 = 0 then r32 (s.slotReg ((o - 0x20) / 4))
  else if 0x40 ≤ o ∧ o < 0x48 ∧ o % 4 = 0 then r32 (s.cardReg ((o - 0x40) / 4))
  else match o with
    | 0x00 => r32 (2 ^ 31 * b2n b.headlessEn + put b.cardMin 16 8 + put b.hours 0 8)
    | 0x04 => r32 (put b.hx 29 3 + 2 ^ 28 * b2n s.linksDown)
    | 0x08 => r32 (match s.shownSession with | some x => x.id % 2 ^ 32 | none => b.shownId % 2 ^ 32)
    | 0x0C => r32 s.progress
    | 0x10 => r32 b.events.toNat
    | _ => none

/-! FLASH and FLCH (R268, R269, R302). -/

/-- Targets IN_SERVICE of a list. -/
def State.inServiceOf (s : State) (ts : List Nat) : Nat := ts.countP (fun t => (s.target t).state == .inService)

/-- Raw bytes of the targets in service. -/
def State.rawInService (s : State) : Nat := ((s.presentTargets.filter s.serves).map (fun t => let g := s.geo t; g.luns * g.pageBytes * g.pages * g.blocksPerLun)).sum

/-- A share in whole per cent. -/
def pct (n d : Nat) : Nat := if d = 0 then 0 else min 100 (n * 100 / d)

/-- Held bytes of a crate: entries that a live hold covers. -/
def State.heldBytes (s : State) (c : Crate) : Nat :=
  ((c.objects.filter (fun o => o.retained && !o.old && decide (o.type ≤ 2) && (s.entry? o.tab o.key).any (fun e => s.heldAt o.tab e.commitTick))).map Obj.bytes).sum

/-- Crates that hold something or can: all but the prepared ones and the system's. -/
def State.liveCrates (s : State) : List Crate := s.flash.crates.filter (fun c => c.kind != .system && c.state != .prepared)

def State.spaceReg (s : State) : Nat :=
  let space := s.dataSpace s.poolTotal
  put (pct s.freeTotal s.poolTotal) 24 8 + put (pct ((s.liveCrates.map s.protectedBytes).sum) space) 16 8 +
    put (pct (s.liveCrates.countP (fun c => c.kind == .ledger)) s.liveCrates.length) 8 8 + put (pct ((s.liveCrates.map s.heldBytes).sum) space) 0 8

/-- The highest erase count of a lane block in service. -/
def State.maxErases (s : State) : Nat := ((s.flash.lanes.filter (fun q => s.serves (q.1 / 2 ^ 19))).map (fun q => q.2.erases)).foldl max 0

def State.flashReg (s : State) (o : Nat) : Option RegVal :=
  let f := s.flash
  match o with
  | 0x000 => r64 f.buildAddr.toNat
  | 0x008 => r32 (2 * b2n f.extend)
  | 0x00C => r32 (put f.buildState.code 30 2 + put f.buildErr 24 6 + put f.failedTarget 0 10)
  | 0x010 => r32 (put (s.inServiceOf (List.range 1024)) 16 16 + put ((List.range 64).countP (fun c => (s.chan c).state == .active)) 8 8 + put ((List.range 64).countP (fun c => (s.chan c).state == .retired)) 0 8)
  | 0x014 => r32 (sat 32 (s.rawInService / 2 ^ 30))
  | 0x018 => r32 f.retrainS
  | 0x100 => r32 (put f.rebuildW3 16 8 + put f.compactPct 8 8 + put f.reservePct 0 8)
  | 0x104 => r32 (put f.refreshBits 16 8 + put f.scrubDays 0 8)
  | 0x108 => r32 (put f.readLimitK 16 16 + put f.ageDays 0 16)
  | 0x10C => r32 (put f.wearSpread 16 16 + put f.retryMax 8 8 + put f.calPeriodH 0 8)
  | 0x110 => r32 (match s.ringCrates with | c :: _ => c.id | [] => 0)
  | 0x114 => r32 f.nextCrate
  | 0x118 => r32 s.spaceReg
  | 0x11C => r32 f.ride
  | 0x120 => r32 f.rideWarn
  | 0x124 => r32 (put (sat 16 (f.crates.countP (fun c => c.state == .degraded))) 16 16 + sat 16 (f.crates.countP (fun c => c.state == .exposed)))
  | 0x128 => r32 (put f.grown 16 16 + put f.worn 0 16)
  | 0x12C => r32 (put f.soft 16 16 + put f.reconstructed 0 16)
  | 0x130 => r32 f.lost
  | 0x134 => r32 (put (sat 16 s.maxErases) 16 16 + sat 16 s.wearMean)
  | _ => none

def State.flchStatus (s : State) (c : Nat) : Nat :=
  let x := s.chan c
  put x.state.code 29 3 + 2 ^ 28 * b2n x.lpddr4 + put (if x.state = .active then x.rate else 0) 16 12 + put (if s.flash.desc = [] then 0 else descLoads s.flash.desc c) 8 8 + 2 ^ 5 * b2n x.limited +
    put (s.inServiceOf (chanTargets c)) 0 5

def State.targetReg (s : State) (t : Nat) : Nat :=
  let x := s.target t
  put x.state.code 29 3 + put (if s.present t then (s.geo t).luns else 0) 25 4 + put (sat 8 x.timeouts) 8 8 + sat 8 x.resets

def State.flchReg (s : State) (c o : Nat) : Option RegVal :=
  if o = 0 then r32 (s.flchStatus c)
  else if 0x100 ≤ o ∧ o < 0x140 ∧ o % 4 = 0 then r32 (s.targetReg (c * 16 + (o - 0x100) / 4))
  else none

/-! DDR (R315). -/

def State.ddrChanReg (s : State) (c : Nat) : Nat :=
  let x := s.ddrChan c
  put x.state.code 29 3 + put (if x.state = .active ∨ x.state = .selfRefresh then x.rate else 0) 16 13 + put x.dimms 14 2 + put x.ranks 11 3 + 2 ^ 10 * b2n x.x8 + put x.gib 0 9

def State.ddrReg (s : State) (o : Nat) : Option RegVal :=
  let d := s.ddr
  if 0x40 ≤ o ∧ o < 0x50 ∧ o % 4 = 0 then r32 (s.ddrChanReg ((o - 0x40) / 4))
  else match o with
    | 0x00 => r32 (put d.state.code 29 3 + put d.err 24 5 + bitsOf 4 (fun c => (s.ddrChan c).state != .absent))
    | 0x04 => r32 (put s.ddrInstalled 16 16 + s.ddrUsable / 2 ^ 30 % 65536)
    | 0x08 => r32 d.scrubHours
    | 0x0C => r32 d.idleMs
    | 0x10 => r32 d.ceRetire
    | 0x14 => r32 (put d.ce 16 16 + put d.ue 0 16)
    | 0x18 => r32 (put d.macFail 16 16 + put d.retired 0 16)
    | 0x1C => r32 (put (s.elasticPct s.tabIndexBytes) 8 8 + put (s.elasticPct s.mirrorBytes) 0 8)
    | _ => none

/-! FAULT (R435). -/

/-- A recovery is in progress: the PLLs switch, or an item that a fault stopped does not run again yet (R420). -/
def State.recovering (s : State) : Bool := s.power.pllSwitching || s.host.tickets.any (fun t => t.stage == .staged && decide (0 < t.reruns))

def State.faultReg (s : State) (o : Nat) : Option RegVal :=
  let f := s.fault
  match o with
  | 0x00 => r32 (2 ^ 31 * b2n s.recovering + put f.lastClass 16 8 + put f.lastUnit 0 16)
  | 0x04 => r32 f.total
  | 0x08 => r32 f.maxInterrupt
  | 0x10 => r32 (f.next % 2 ^ 32)
  | 0x14 => r32 f.lost
  | 0x18 => r32 f.events.toNat
  | _ => none

/-! CLKPWR (R419). -/

/-- Seconds on the heartbeat timer; 0xFFFF before the first SERVICE. -/
def State.sinceS (s : State) : Nat :=
  match s.power.hbStart, s.power.hbStopped with
  | none, _ => 0xFFFF
  | some _, some v => sat 16 (v / hz)
  | some b, none => sat 16 ((s.now - b) / hz)

def State.dipsNow (s : State) : Nat := sat 5 (s.tamper.falls.countP (fun t => decide (s.now < t + hz + 1)))

def State.clkReg (s : State) (o : Nat) : Option RegVal :=
  let p := s.power
  match o with
  | 0x00 => r32 (put p.mode.code 29 3 + put p.lastCause 24 5)
  | 0x08 => r32 (put s.sinceS 16 16 + put p.timeoutS 0 16)
  | 0x0C => r32 (if p.mode = .catchup then s.backlog else 0)
  | 0x10 => r32 (2 ^ 31 * b2n p.pwrOk + 2 ^ 30 * b2n p.warn + put s.dipsNow 24 5 + put p.lastDipUs 0 16)
  | 0x14 => r32 p.dips
  | 0x18 => r32 (2 ^ 31 * b2n p.sysclkBackup + 2 ^ 30 * b2n p.xtalRc + put p.groupGated.toNat 16 8 + put p.rowsGated.length 0 7)
  | 0x1C => r32 (put p.resetCause 29 3)
  | 0x20 => r32 (bits p.xovr.toNat 0 32)
  | 0x24 => r32 (bits p.xovr.toNat 32 32)
  | 0x28 => r32 (bits p.xovr.toNat 64 32)
  | 0x30 => r32 (put p.lockCause 28 4 + put p.lockRefusal 24 4)
  | 0x34 => r32 (max p.lockCountBd p.lockCountSa)
  | _ => none

/-! UNITTREE (R167 to R170). -/

/-- STATE of a unit: a device, market or row is RETIRED when it has no working stall; a monitor source shows its own test. -/
def State.infoState (s : State) (a : Nat) : Nat :=
  let l := a / 4096
  if l ≤ 2 then (if (rowsUnder a).any s.rowWorks then 0 else 6)
  else if l = 12 then (if (s.src (a % 256)).masked then 2 else 0)
  else (s.unitSt a).state.code

/-- Open tabs homed in a unit; for a stall, those pinned to it. -/
def State.infoTabs (s : State) (a : Nat) : Nat :=
  let l := a / 4096
  if l ≤ 2 then s.tabs.ctx.countP (fun p => p.2.isOpen && (rowsUnder a).contains (rowNo p.2.affinity))
  else if l = 3 then s.tabs.ctx.countP (fun p => p.2.isOpen && decide (p.2.pin = a)) else 0

def State.infoReg (s : State) (a : Nat) : Nat :=
  if unitLevel a = none then 0
  else
    let l := a / 4096
    let sp := if l = 2 ∨ (l = 3 ∧ a % 16 = 8) then s.spareFor (rowAddr (rowNo a)) else 0xF
    2 ^ 31 + put (s.infoState a) 28 3 + put sp 24 4 + put (if l ≤ 1 then 8 else if l = 2 then 9 else 0) 16 4 + sat 16 (s.infoTabs a)

/-- Does unit `b` lie in the subtree of unit `a`? -/
def under (a b : Nat) : Bool :=
  match a / 4096 with
  | 0 => true
  | 1 => decide (3 ≤ b / 4096) && decide (b / 4096 ≤ 5) && decide (b / 256 % 16 = a / 256 % 16)
  | 2 => decide (3 ≤ b / 4096) && decide (b / 4096 ≤ 5) && decide (rowNo b = rowNo a)
  | _ => a == b

def State.loadReg (s : State) (a : Nat) : Nat :=
  if unitLevel a = none then 0
  else
    put (sat 16 (s.host.tickets.countP (fun t => t.stall.any (under a)))) 16 16 + sat 16 (((s.units.st.filter (fun p => under a p.1)).map (fun p => p.2.faults)).sum)

def State.unitReg (s : State) (o : Nat) : Option RegVal :=
  let a := s.units.select.toNat
  let stalls := s.units.st.filter (fun p => p.1 / 4096 == 3)
  match o with
  | 0x00 => r32 a
  | 0x04 => r32 (s.infoReg a)
  | 0x08 => r32 (s.loadReg a)
  | 0x0C => r32 s.units.fw.toNat
  | 0x10 => r32 (put (stalls.countP (fun p => p.2.state == .standingIn)) 16 16 + sat 16 (stalls.countP (fun p => p.2.state == .retired)))
  | 0x14 => r32 (sat 16 (s.units.st.countP (fun p => p.2.state == .draining || p.2.state == .underTest) + (List.range 32).countP (fun n => (s.src n).masked)))
  | _ => none

/-! The ring table (R29 to R34). -/

def Ring.cfgWord (r : Ring) : Nat := 2 ^ 31 * b2n r.enable + put r.port.val 29 1 + put r.cls.val 25 2 + put r.sizeLog2.toNat 20 5 + r.vector.toNat
def Ring.statusWord (r : Ring) : Nat := put r.state.code 29 3 + put r.err.code 24 5 + 2 ^ 17 * b2n r.cqPhase + 2 ^ 16 * b2n r.bellIgnored + sat 16 r.outstanding

def State.ringReg (s : State) (n o : Nat) : Option RegVal :=
  let r := s.ring n
  match o with
  | 0x00 => r64 r.sqBase.toNat
  | 0x08 => r64 r.cqBase.toNat
  | 0x10 => r32 r.cfgWord
  | 0x14 => r32 (put r.modCount.toNat 16 8 + r.modTime.toNat)
  | 0x18 => r32 r.statusWord
  | 0x1C => r32 (put r.cqTail 16 16 + put r.sqHead 0 16)
  | _ => none

/-! The map (R436) and its availability (R439). -/

/-- Blocks that can be read before READY. -/
def earlyBlock (b : Nat) : Bool := b == 0 || b == 4 || b == 5 || b == 7 || b == 0xA

/-- The register that begins at a BAR0 offset, as it reads now; none at a reserved offset. -/
def State.regAt (s : State) (off : Nat) : Option RegVal :=
  let b := off / 4096
  let o := off % 4096
  if 0x40 ≤ b ∧ b < 0x80 then s.flchReg (b - 0x40) o
  else if !s.dev.ready && !earlyBlock b then none
  else if 0x10 ≤ b ∧ b < 0x30 then s.ringReg ((off - 0x10000) / 32) (off % 32)
  else match b with
    | 0x0 => s.devReg o
    | 0x1 => s.intrReg o
    | 0x2 => s.classReg o
    | 0x3 => s.tickReg o
    | 0x4 => s.tamperReg o
    | 0x5 => s.lcdbgReg o
    | 0x6 => s.cartReg o
    | 0x7 => s.flashReg o
    | 0x8 => s.ddrReg o
    | 0x9 => s.faultReg o
    | 0xA => s.clkReg o
    | 0xB => s.unitReg o
    | _ => none

/-- The 32-bit word at an aligned offset as it stands, no latch counted. -/
def State.wordAt (s : State) (off : Nat) : Nat :=
  match s.regAt off with
  | some r => r.value % 2 ^ 32
  | none => match s.regAt (off - 4) with
    | some r => if r.wide && decide (4 ≤ off) then r.value / 2 ^ 32 % 2 ^ 32 else 0
    | none => 0

/-! Reads (R437, R438, R161). -/

def noWord (_ : Nat) : Word32 := 0

/-- A latched word, or the word as it stands. -/
def State.latched (s : State) (off : Nat) : Nat := if s.dev.latchedHigh.has off then (s.dev.latchedHigh.get noWord off).toNat else s.wordAt off

def State.latch (s : State) (off v : Nat) : State := { s with dev := { s.dev with latchedHigh := s.dev.latchedHigh.ins off (BitVec.ofNat 32 v) } }
def State.unlatch (s : State) (off : Nat) : State := { s with dev := { s.dev with latchedHigh := s.dev.latchedHigh.del off } }
def State.readOut (s : State) (v : Nat) : State := { s with dev := { s.dev with readData := BitVec.ofNat 64 v } }

/-- TICK.NOW takes TICK.APPLIED along at the same instant (R161). -/
def State.latchApplied (s : State) (off : Nat) : State :=
  if off = 0x3010 ∧ s.dev.ready then (s.latch 0x3018 (s.wordAt 0x3018)).latch 0x301C (s.wordAt 0x301C) else s

/-- Does a 64-bit register begin at the offset? -/
def State.wideAt (s : State) (off : Nat) : Bool := match s.regAt off with | some r => r.wide | none => false

/-- A 32-bit read: the low word of a 64-bit register latches the high word; a latched word is delivered once. -/
def State.read32 (s : State) (off : Nat) : State :=
  let v := s.latched off
  let was := s.dev.latchedHigh.has off
  let s1 := (s.latchApplied off).unlatch off
  let s2 := if s.wideAt off && !was then s1.latch (off + 4) (s.wordAt (off + 4)) else s1
  s2.readOut v

/-- A 64-bit read of a register that permits it: the whole register in one instant. TICK.APPLIED as a read of TICK.NOW has latched it is delivered once, and a
64-bit read of TICK.NOW latches its own high word as well (R161). -/
def State.read64 (s : State) (off : Nat) : State :=
  if s.dev.latchedHigh.has off then ((s.unlatch off).unlatch (off + 4)).readOut (s.latched off + 2 ^ 32 * s.latched (off + 4))
  else
    let high := s.wordAt (off + 4)
    let s1 := if off = 0x3010 ∧ s.dev.ready then (s.latchApplied off).latch 0x3014 high else s
    s1.readOut (s.wordAt off + 2 ^ 32 * high)

/-! The debug port (R387, R390, R439). -/

/-- An access on the debug port that needs a right: served under the pass in force, or refused and TS29 raised with the right's bit number (R387). READ_PUBLIC_STATE reads a
word of BAR0 and latches nothing; SCAN zeroes the on-chip memories and holds the core in reset (log 79). In BLANK, TRIMMED and SCRAPPED no pass applies and TS29 does not
fire. -/
def State.debugAccess (s : State) (r off : Nat) : State :=
  if s.lifeCount < 2 || s.scrapped then s
  else if s.guard.passActive && s.guard.passRights.getLsbD r then
    (match r with
    | 1 => s.readOut (if off % 4 = 0 ∧ off < 0x100000 then s.wordAt off else 0)
    | 5 => s.mainReset s.power.resetCause 1 .rest
    | _ => s)
  else (s.pulse 66).raise 29 r

def execDebugAccess (right : Fin 8) (offset : Nat) (s : State) : Host.Outcome State Fault Refusal := .next (s.debugAccess right.val offset)

/-! The function's configuration header, its BAR2 and BAR4 (R24 to R26, R37). -/

/-- The MSI-X pending bit of a vector: a message of a ring or of an INTR cause is held for it (R60, R451). -/
def State.pendingBit (s : State) (p v : Nat) : Bool :=
  s.ringNos.any (fun n => (s.ring n).heldOn (p, v)) || [0, 1, 2, 3].any (fun c => s.dev.heldMsg.getLsbD c && decide (s.causeVec c = (p, v)))

/-- A word of BAR4: the MSI-X table from 0x0_0000, 16 bytes for each vector, and the pending-bit array from 0x1_0000 (R25). -/
def State.msixWord (s : State) (p off : Nat) : Nat :=
  let e := (s.port p).msix.get noMsix (off / 16)
  if off < 0x10000 then
    (match off % 16 with
     | 0 => e.addr.toNat % 2 ^ 32
     | 4 => e.addr.toNat / 2 ^ 32
     | 8 => e.data.toNat
     | _ => b2n e.mask)
  else if off < 0x10000 + Config.vectors / 8 then bitsOf 32 (fun i => s.pendingBit p ((off - 0x10000) * 8 + i))
  else 0

/-- The low word of a BAR: its base with the type bits of a 64-bit non-prefetchable BAR (R26). -/
def barLow (b : BitVec 64) : Nat := b.toNat % 2 ^ 32 + 4

/-- A word of a function's configuration header (R24 to R26); its layout is that of the PCI type 0 header (PRESUMED, log 101). -/
def State.headerWord (s : State) (p off : Nat) : Nat :=
  let q := s.port p
  match off with
  | 0x00 => 0xB512 * 65536 + Config.vendorId.toNat
  | 0x04 => 2 ^ 20 * b2n (capabilities ≠ []) + 4 * b2n q.bme
  | 0x08 => 0x108000 * 256 + Config.stepping.toNat
  | 0x0C => 0
  | 0x10 => barLow q.bar0
  | 0x14 => q.bar0.toNat / 2 ^ 32
  | 0x18 => barLow q.bar2
  | 0x1C => q.bar2.toNat / 2 ^ 32
  | 0x20 => barLow q.bar4
  | 0x24 => q.bar4.toNat / 2 ^ 32
  | _ => 0

/-- The Device Serial Number capability: the low 64 bits of the unit identifier (R25). -/
def State.serialNumber (s : State) : Nat := fld s.unitId 0 8

/-- The number by which a command names the configuration space where BAR0, BAR2 and BAR4 go by 0, 2 and 4 (log 101). -/
def cfgSpace : Nat := 6

/-- A read of BAR0: an access of a width or alignment that the register does not permit reads 0 and latches nothing. -/
def State.readReg (s : State) (off width : Nat) : State :=
  if 0x100000 ≤ off then s.readOut 0
  else if width = 4 ∧ off % 4 = 0 then s.read32 off
  else if width = 8 ∧ off % 8 = 0 ∧ s.wideAt off then s.read64 off
  else s.readOut 0

/-- A read through a BAR of a port or of its configuration space: BAR0 is the registers, a bell page reads 0 everywhere (R37), BAR4 is the port's MSI-X table. -/
def State.readBar (s : State) (p bar off width : Nat) : State :=
  if bar = 0 then s.readReg off width
  else if !s.portUsed p then s.readOut 0
  else if bar = 4 ∧ off < barSize 4 ∧ width = 4 ∧ off % 4 = 0 then s.readOut (s.msixWord p off)
  else if bar = 4 ∧ off < barSize 4 ∧ width = 8 ∧ off % 8 = 0 then s.readOut (s.msixWord p off + 2 ^ 32 * s.msixWord p (off + 4))
  else if bar = cfgSpace ∧ width = 4 ∧ off % 4 = 0 then s.readOut (s.headerWord p off)
  else s.readOut 0

/-- LATCHED_READ (R438): both ports reach the same registers (R28). -/
def execLatchedRead (port : Fin 2) (bar offset width : Nat) (s : State) : Host.Outcome State Fault Refusal := .next (s.readBar port.val bar offset width)

end Sys2Proof.Machine
end

