-- ==== Sys2Proof/Machine/Sessions.lean ====
section
/-! DEFINITION. EXPORT tickets, the writing of the session stream, head-less export (R340 to R351). -/

namespace Sys2Proof.Machine

/-! The request (R340). -/

structure ExpReq where
  kind : Nat
  card : Nat
  session : Nat
  content : Nat
  ranges : List ExpRange
deriving DecidableEq, Repr

def rangeAt (b : Bytes) (i : Nat) : ExpRange := { tab := fld b (64 + 16 * i) 4, first := fld b (64 + 16 * i + 4) 8, count := fld b (64 + 16 * i + 12) 4 }

/-- A request that keeps R340, of the length the ticket gives. -/
def exportReq (b : Bytes) (len : Nat) : Option ExpReq :=
  let k := fld b 2 1
  let n := fld b 4 4
  let rs := (List.range (if n ≤ 261888 then n else 0)).map (rangeAt b)
  if b.length = len ∧ 64 ≤ len ∧ fld b 0 2 = 1 ∧ 1 ≤ k ∧ k ≤ 4 ∧ fld b 3 1 ≤ 1 ∧ len = 64 + 16 * n ∧ (if k = 2 then 1 ≤ n ∧ n ≤ 261888 else n = 0) ∧ (k = 4 ∨ fld b 8 4 = 0) ∧
      (if k = 2 then fld b 12 1 < 8 else fld b 12 1 = 0) ∧ allZero (slice b 13 51) ∧ rs.all (fun r => decide (r.tab < Config.tabs) && decide (1 ≤ r.first) && decide (1 ≤ r.count)) then
    some { kind := k, card := fld b 3 1, session := fld b 8 4, content := fld b 12 1, ranges := rs }
  else none

/-- The right of R338 that a kind needs. -/
def ExpReq.right (r : ExpReq) : Nat := match r.kind with | 1 => 2 | 3 => 3 | _ => 0

/-- Rows 2 and 3 of R341, without what is particular to a kind. ABANDON asks nothing of the slot (log 65). -/
def State.exportMay (s : State) (n : Nat) (r : ExpReq) : Bool :=
  s.hasRight r.card r.right &&
    (if r.kind = 4 then s.boards.sessions.any (fun x => x.id == r.session)
     else (s.slot n).usable && (s.sessionOn n).isNone && (decide (r.kind = 1) || s.enrolled n) && (decide (r.kind ≠ 2) || s.slotBlank n))

/-- An admitted EXPORT ticket of one kind. A request of another kind belongs to another command; one that cannot be read or breaks R340 ends here. -/
def State.withExport (s : State) (a : TkArg) (req : HostRead) (kind : Nat) (f : State → Tk → Nat → ExpReq → State) : State :=
  s.withTk a 0x23 (fun t =>
    let n := t.tk.op 60 1
    let s1 := s.aer (s.portOf t) [req]
    if !s.masters t then s else
    match req with
    | .err => s1.finishWith t 0x10 a.us
    | .ok b =>
      match exportReq b (t.tk.op 56 4) with
      | none => s1.finishWith t 0x10 a.us
      | some r =>
        if r.kind ≠ kind ∨ s.power.warn then s
        else if !s1.exportMay n r then s1.finishWith t 0x13 a.us
        else f s1 t n r)

/-! ENROL, WIPE, ABANDON (R331, R341, R348). -/

/-- The cartridge's own key is held already, or there is room for one more (R341). -/
def State.pairRoom (s : State) (n : Nat) : Bool := (s.cartKey n).isSome || decide (s.vault.pairing.length < 4096)

def State.enrol (s : State) (a : TkArg) (req : HostRead) (c : CartAns) : State :=
  s.withExport a req 1 (fun s t n _ =>
    if !s.pairRoom n then s.finishWith t 0x12 a.us
    else if !c.ok || decide (c.keyBlock.length ≠ 512) || !s.entropyOk then s.finishWith t 0x20 a.us
    else
      let r := s.rouse n
      let r1 := r.setSlot n { r.slot n with keyBlock := c.keyBlock }
      match r1.pairWith n c.keyBlock with
      | none => r1.finishWith t 0x20 a.us
      | some (s1, key) =>
        let s2 := (s1.paired n key).writeImage
        let nonce := s2.drawBytes 16
        let s3 := s2.drewBytes 16
        if rpaVerify key nonce 0x0101 [c.counter] && rpaOk [c.counter] then
          let s4 := s3.setSlot n { s3.slot n with enrolled := true, rpaCounter := fld c.counter 272 4 }
          s4.takeNext.settleHx.finish t { t.receipt 0 with result := 0 } a.us
        else s3.finishWith t 0x20 a.us)

/-- ENROL (R331): the receipt follows the vault image. -/
def execEnrol (a : TkArg) (req : HostRead) (cart : CartAns) (s : State) : Host.Outcome State Fault Refusal := .next (s.enrol a req cart)

def State.wipeCart (s : State) (a : TkArg) (req : HostRead) (c : CartAns) : State :=
  s.withExport a req 3 (fun s t n _ =>
    if !c.ok then s.finishWith t 0x20 a.us
    else (((s.rouse n).writeManifest n (zeros 4096)).takeNext.settleHx).finishWith t 0 a.us)

/-- WIPE (R341): an all-zero manifest. -/
def execWipe (a : TkArg) (req : HostRead) (cart : CartAns) (s : State) : Host.Outcome State Fault Refusal := .next (s.wipeCart a req cart)

def State.abandon (s : State) (a : TkArg) (req : HostRead) : State :=
  s.withExport a req 4 (fun s t _ r =>
    match s.boards.sessions.find? (fun x => x.id == r.session) with
    | none => s.finishWith t 0x13 a.us
    | some x => ((s.abandonSession x).settleHx).finishWith t 0 a.us)

/-- ABANDON (R348). -/
def execAbandon (a : TkArg) (req : HostRead) (_cart : CartAns) (s : State) : Host.Outcome State Fault Refusal := .next (s.abandon a req)

/-! EXPORT (R342). -/

/-- The hold of a selection: its tab where all ranges name one, and its ticks. -/
def State.selectionHold (s : State) (rs : List ExpRange) : Hold :=
  let ticks := rs.flatMap (fun r => (s.span r.tab r.first r.count).map Entry.commitTick)
  let tab := match rs with | r :: l => if l.all (fun q => q.tab == r.tab) then some r.tab else none | [] => none
  { id := s.tabs.holdHigh + 1, tab := tab, first := (ticks.min?).getD s.ledger.current, last := ticks.foldl max s.ledger.current }

/-- Place a device hold, with its event (R121). -/
def State.placeHold (s : State) (h : Hold) : State := { s with tabs := { s.tabs with holds := s.tabs.holds ++ [h], holdHigh := h.id } }.addEvent 6 h.body

/-- Open a session on a slot: hold, unit 0, ranges, manifest. -/
def State.openSession (s : State) (n card : Nat) (rs : List ExpRange) (content : Nat) (headless : Bool) : State :=
  let h := s.selectionHold rs
  let cert := (s.card card).cert
  let id := s.boards.lastSession + 1
  let x : Session := { id := id, state := .opened, headless := headless, slot := n, hold := h.id, ranges := rs, content := content, operatorId := slice cert 8 16, certHash := sha384 cert, started := s.now }
  let s1 := s.placeHold h
  ({ s1 with boards := { s1.boards with sessions := s1.boards.sessions ++ [x], lastSession := id } }).openPart x n

def State.exportOpen (s : State) (a : TkArg) (req : HostRead) (c : CartAns) : State :=
  s.withExport a req 2 (fun s t n r =>
    if 4096 ≤ s.tabs.holds.length ∨ !s.eventFits 24 then s.finishWith t 0x12 a.us
    else if !c.ok then
      -- the cartridge fails at the opening: the hold placed first is released (log 66)
      let h := s.selectionHold r.ranges
      let s1 := s.placeHold h
      (({ s1 with tabs := { s1.tabs with holds := s1.tabs.holds.filter (fun q => q.id != h.id) } }).addEvent 7 (leBytes 4 h.id ++ zeros 4)).finishWith t 0x20 a.us
    else
      let s1 := (s.openSession n r.card r.ranges r.content false).settleHx
      s1.finish t { t.receipt 0 with result := s1.boards.lastSession } a.us)

/-- EXPORT (R342). -/
def execExportOpen (a : TkArg) (req : HostRead) (cart : CartAns) (s : State) : Host.Outcome State Fault Refusal := .next (s.exportOpen a req cart)

/-! The stream (R344, R346, R348). -/

/-- The session's last part closes, and the session with it. -/
def State.closeLast (s : State) (x : Session) : State :=
  let y := { x with checkpoint := x.confirmed, recent := [] }
  let s1 := ((s.putSession y).writePart y 2 s.now false).endSession y .closed
  ({ s1 with boards := { s1.boards with hx := if x.headless then 5 else s1.boards.hx } }).cartEvent 12

/-- The part is full: it closes with CONTINUED, and the next begins at the stream byte after it. -/
def State.closeFull (s : State) (x : Session) : State :=
  let y := { x with checkpoint := x.confirmed, recent := [] }
  let s1 := (s.putSession y).writePart y 2 s.now true
  let z := { y with state := .waiting, needNext := true, part := x.part + 1, offset := x.offset + x.confirmed * 16384, confirmed := 0, checkpoint := 0 }
  (s1.putSession z).takeNext.settleHx

/-- Every 256 confirmed units: the manifest with current values. -/
def State.checkpoint (s : State) (x : Session) : State :=
  let y := { x with checkpoint := x.confirmed, recent := [] }
  (s.putSession y).writeManifest x.slot (s.manifestOf y 1 0 false)

/-- A unit has been confirmed. -/
def State.unitConfirmed (s : State) (x : Session) (unit : Bytes) : State :=
  let y := { x with confirmed := x.confirmed + 1, recent := x.recent ++ [sha384 unit] }
  let s1 := s.putSession y
  if (s.stream y).length ≤ y.offset + y.confirmed * 16384 then s1.closeLast y
  else if (s.slot x.slot).room ≤ y.confirmed then s1.closeFull y
  else if y.confirmed % 256 = 0 then s1.checkpoint y
  else s1

/-- May the stream be read: every record up to the session's last tick is durable (R344)? -/
def State.streamReady (s : State) (x : Session) : Bool := decide (s.holdLast x ≤ s.ledger.durableTick)

/-- Write the next stream unit of the session on a slot. A unit that is not accepted, or that C13 reports as not stored, is written again (R327); on a Mahano-1
cartridge the read-back must match. -/
def State.streamUnit (s : State) (n : Nat) (token : BitVec 5) (writeFail : Bool) (readback : Bytes) : State :=
  match s.sessionOn n with
  | none => s
  | some x =>
    if !s.linkRuns || s.power.mode == .lockdown || !(s.slot n).usable || !s.streamReady x then s
    else
      let unit := s.unitData x (x.confirmed + 1)
      let s1 := (s.rouse n).cartOut (.unit n (x.confirmed + 1) unit)
      if tokenOf token ≠ some 2 then (s1.setSlot n { s1.slot n with cmd := commandFrame 12 0 }).linkFail n (decide (tokenOf token = some 5))
      else if writeFail then s1.linkFail n false
      else
        let s2 := s1.setSlot n { s1.slot n with repeats := 0 }
        if (s.slot n).gen = 1 ∧ readback ≠ unit then s2 else (s2.unitConfirmed x unit).settleHx

/-- STREAM_UNIT_WRITE (R346). -/
def execStreamUnitWrite (slot : Fin 4) (token : BitVec 5) (writeFail : Bool) (readback : Bytes) (s : State) : Host.Outcome State Fault Refusal :=
  .next (s.streamUnit slot.val token writeFail readback)

/-! Head-less export (R350, R351). -/

/-- HEADLESS_AVAILABLE (R350): the links' condition holds, which HX_ST shows. -/
def execHeadlessAvailable (s : State) : Host.Outcome State Fault Refusal := .next s.settleHx

/-- A tab's entries in the window: durable ticks whose boundary lies above secure time − W. -/
def State.inWindow (s : State) (tick : Nat) : Bool :=
  s.covered tick && (match s.record? tick with | some r => decide (s.now < r.at_.boundary + s.boards.hours * 117964800) | none => false)

/-- Runs of consecutive numbers as ranges of a tab. -/
def runsOf (t : Nat) : List Nat → List ExpRange
  | [] => []
  | a :: l =>
    match runsOf t l with
    | r :: rest => if r.first = a + 1 then { tab := t, first := a, count := r.count + 1 } :: rest else { tab := t, first := a, count := 1 } :: r :: rest
    | [] => [{ tab := t, first := a, count := 1 }]

/-- The selection of a head-less session: held entries of the window, then those above the uploaded watermark that the first pass did not take. -/
def State.headlessRanges (s : State) : List ExpRange :=
  let es := s.tabs.entries.filter (fun e => !e.recordOnly && s.inWindow e.commitTick)
  let held := fun e : Entry => s.heldAt e.hdr.tab e.commitTick
  let runs := fun p : Entry → Bool => (s.tabs.ctx.map (·.1)).flatMap (fun t => runsOf t ((es.filter (fun e => e.hdr.tab == t && p e)).map (fun e => e.hdr.seq)))
  (runs held ++ runs (fun e => !held e && decide ((s.tab e.hdr.tab).uploaded < e.hdr.seq))).take 261888

/-- HEADLESS_SESSION_OPEN: the lowest interface and slot that serve. -/
def State.headlessOpen (s : State) : State :=
  match [0, 1].find? (fun i => s.hasRight i 1), (List.range 4).find? s.freshSlot with
  | some i, some n =>
    if !s.headlessOk || !s.linkRuns || decide (4096 ≤ s.tabs.holds.length) || !s.eventFits 24 then s
    else (s.openSession n i s.headlessRanges 7 true).settleHx
  | _, _ => s

def execHeadlessSessionOpen (s : State) : Host.Outcome State Fault Refusal := .next s.headlessOpen

/-- CARTRIDGE_RETURN_TIMEOUT: 10 minutes after its removal a head-less session is abandoned. -/
def State.returnTimeout (s : State) : State :=
  match s.boards.sessions.find? (fun x => x.headless && x.state == .waiting && x.removedAt.isSome) with
  | some x => ((s.reach (x.removedAt.getD 0 + 600 * hz)).abandonSession x).settleHx
  | none => s

def execCartridgeReturnTimeout (s : State) : Host.Outcome State Fault Refusal := .next s.returnTimeout

/-- HX_ST_TIMEOUT: after 5 s code 7 gives way to the earlier code. -/
def State.hxTimeout (s : State) : State := if s.boards.hx = 7 then State.settleHx { s.reach (s.boards.hxAt + 5 * hz) with boards := { s.boards with hx := s.boards.hxBefore } } else s

def execHxStTimeout (s : State) : Host.Outcome State Fault Refusal := .next s.hxTimeout

end Sys2Proof.Machine
end

