-- ==== Sys2Proof/Machine/RegWrites.lean ====
section
/-! DEFINITION. Writes of every register of BAR0 by its access type, the bells of BAR2, the MSI-X table of BAR4, and INTR's messages (R7, R26, R37, R438, R439, R450). -/

namespace Sys2Proof.Machine

/-! DEV and INTR. -/

/-- Bits of a word cleared where `v` has a 1 (W1C). -/
def w1c {w : Nat} (x : BitVec w) (v : Nat) : BitVec w := x &&& ~~~(BitVec.ofNat w v)

def State.writeDev (s : State) (o v : Nat) : State :=
  match o with
  | 0x40 => { s with dev := { s.dev with appletsDropped := s.dev.appletsDropped && !bit v 7, templatesDropped := s.dev.templatesDropped && !bit v 6 } }
  | 0x44 => if bits v 16 16 = 0xD1E5 then s.deviceReset else s
  | _ => s

/-- INTR.ENABLE: a cause that is set sends its message when its bit turns from 0 to 1 (R450). -/
def State.writeEnables (s : State) (v : Nat) : State :=
  let old := s.dev.enable
  [0, 1, 2, 3].foldl (fun s c => if bit v c && !old.getLsbD c && s.causeSet c then s.sendIntr c else s) { s with dev := { s.dev with enable := BitVec.ofNat 4 v } }

/-- INTR.VECTOR: a message held for the old place goes out on the new one (R451). -/
def State.writeVector (s : State) (c v : Nat) : State :=
  State.releaseIntr { s with dev := { s.dev with vectors := s.dev.vectors.set noIntrVec c { port := if bit v 31 then 1 else 0, vector := BitVec.ofNat 12 v } } } (fun _ => false)

def State.writeIntr (s : State) (o v : Nat) : State :=
  if 0x10 ≤ o ∧ o < 0x20 then s.writeVector ((o - 0x10) / 4) v
  else match o with
    | 0x04 => State.settleHeld { s with dev := { s.dev with events := w1c s.dev.events v } } 3
    | 0x08 => s.writeEnables v
    | _ => s

/-! CLASS (R89 to R95). -/

def weightsOf (v : Nat) : Weights := ⟨BitVec.ofNat 4 (bits v 0 4), BitVec.ofNat 4 (bits v 4 4), BitVec.ofNat 4 (bits v 8 4)⟩

/-- Units of 64 MiB that DDR4 has for write staging after its fixed structures (R92, R309). -/
def State.stagingFits (s : State) : Nat := (s.ddrUsable - (s.ddrDuplicated + 512 * 2 ^ 20 + (s.ddrPopulated.map (fun c => (s.ddrChan c).spares)).sum * 4096)) / 2 ^ 26

/-- CLASS.STAGING: the pool's free units follow its size; units in use stay in use. -/
def State.writeStaging (s : State) (v : Nat) : State :=
  if s.power.mode ≠ .rest then s
  else
    let c := s.classes
    let res := clamp (bits v 16 16) 1 64
    let size := max (res + 1) (min (bits v 0 16) s.stagingFits)
    let free := 1024 * size - (1024 * c.stagingSize - c.stagingFree)
    { s with classes := { c with reserve0 := res, stagingSize := size, stagingFree := free, stagingRes := min (1024 * res) free } }

/-- LAT_CLEAR (R91). -/
def State.clearLat (s : State) : State := { s with classes := { s.classes with tickMax := 0, receiptMax := 0 } }

/-- WAITING's bits that exist are cleared by ones. -/
def State.writeClass (s : State) (o v : Nat) : State :=
  match o with
  | 0x00 => if bits v 0 12 = 0 then s else { s with classes := { s.classes with service := weightsOf v } }
  | 0x04 => if bits v 0 12 = 0 then s else { s with classes := { s.classes with catchup := weightsOf v } }
  | 0x0C => if bit v 0 then s.clearLat else s
  | 0x10 => s.writeStaging v
  | 0x14 => { s with classes := { s.classes with spaceWaitMs := clamp (bits v 0 16) 10 10000 } }
  | 0x30 => { s with classes := { s.classes with waiting := w1c s.classes.waiting v } }
  | _ => s

/-! TICK, TAMPER, LCDBG, CART. -/

/-- The TICK block (R157): in LOCKDOWN it takes no writes. -/
def State.writeTick (s : State) (o v : Nat) : State :=
  if s.power.mode = .lockdown then s
  else match o with
    | 0x00 => { s with ledger := { s.ledger with periodMs := periodStored (bits v 0 14) } }
    | 0x08 => s.writeSlew v
    | 0x0C => s.writeUnsigned v
    | _ => s

/-- The TAMPER block (R365, R374): in LOCKDOWN it takes no writes. -/
def State.writeTamper (s : State) (o v : Nat) : State :=
  if s.power.mode = .lockdown then s
  else if 0x100 ≤ o ∧ o < 0x180 then s.writeSrc ((o - 0x100) / 4) v
  else match o with
    | 0x00 => if bit v 0 then s.lockTamper else s
    | 0x0C => State.settleHeld { s with tamper := { s.tamper with notified := w1c s.tamper.notified v } } 0
    | 0x20 => s.writeLockstep v
    | _ => s

/-- LCDBG.CTRL (R388, R392). -/
def State.writeLcdbg (s : State) (o v : Nat) : State :=
  if o = 0x04 then
    let s1 := if bit v 1 then s.endPass else s
    if bit v 0 then s1.drawNonce else s1
  else s

def State.writeCart (s : State) (o v : Nat) : State :=
  match o with
  | 0x00 => if s.power.mode = .lockdown then s
      else State.settleHx { s with boards := { s.boards with headlessEn := bit v 31, cardMin := max 1 (bits v 16 8), hours := clamp (bits v 0 8) 1 168 } }
  | 0x10 => State.settleHeld { s with boards := { s.boards with events := w1c s.boards.events v } } 2
  | _ => s

/-! FLASH, DDR, FAULT, CLKPWR, UNITTREE. -/

/-- The settings of R302, which LOCKDOWN keeps as they are. -/
def State.writeRing302 (s : State) (o v : Nat) : State :=
  let f := s.flash
  match o with
  | 0x100 => State.spaceBack { s with flash := { f with rebuildW3 := clamp (bits v 16 8) 1 15, compactPct := min 90 (bits v 8 8), reservePct := clamp (bits v 0 8) 1 20 } }
  | 0x104 => { s with flash := { f with refreshBits := clamp (bits v 16 8) 8 200, scrubDays := clamp (bits v 0 8) 1 90 } }
  | 0x108 => { s with flash := { f with readLimitK := clamp (bits v 16 16) 10 10000, ageDays := clamp (bits v 0 16) 7 3650 } }
  | 0x10C => { s with flash := { f with wearSpread := clamp (bits v 16 16) 50 10000, retryMax := min 31 (bits v 8 8), calPeriodH := clamp (bits v 0 8) 1 168 } }
  | 0x120 => { s with flash := { f with rideWarn := bits v 0 16 } }
  | _ => s

def State.writeFlash (s : State) (o v : Nat) : State :=
  match o with
  | 0x08 =>
    let s1 := { s with flash := { s.flash with extend := bit v 1 } }
    if bit v 0 then s1.startBuild else s1
  | 0x18 => { s with flash := { s.flash with retrainS := clamp (bits v 0 16) 10 3600 } }
  | _ => if s.power.mode = .lockdown then s else s.writeRing302 o v

def State.writeDdr (s : State) (o v : Nat) : State :=
  match o with
  | 0x08 => { s with ddr := { s.ddr with scrubHours := clamp (bits v 0 8) 1 168 } }
  | 0x0C => { s with ddr := { s.ddr with idleMs := bits v 0 16 } }
  | 0x10 => { s with ddr := { s.ddr with ceRetire := max 1 (bits v 0 8) } }
  | _ => s

/-- MAX_CLEAR (R435). -/
def State.clearMax (s : State) : State := { s with fault := { s.fault with maxInterrupt := 0 } }

def State.writeFault (s : State) (o v : Nat) : State :=
  match o with
  | 0x0C => if bit v 0 then s.clearMax else s
  | 0x18 => State.settleHeld { s with fault := { s.fault with events := w1c s.fault.events v } } 1
  | _ => s

/-- CLKPWR (R419). -/
def State.writeClk (s : State) (o v : Nat) : State :=
  match o with
  | 0x04 => if bit v 0 then s.endCatchup else s
  | 0x08 => { s with power := { s.power with timeoutS := clamp (bits v 0 16) 1 3600 } }
  | 0x20 => { s with power := { s.power with xovr := w1c s.power.xovr v } }
  | 0x24 => { s with power := { s.power with xovr := w1c s.power.xovr (v * 2 ^ 32) } }
  | 0x28 => { s with power := { s.power with xovr := w1c s.power.xovr (v * 2 ^ 64) } }
  | _ => s

/-! The ring table (R29 to R33). -/

/-- Do PORT, CLASS, SIZE_LOG2, VECTOR and the bases take writes? -/
def Ring.takes (r : Ring) : Bool := r.state == .disabled || r.state == .waiting

/-- RING.CFG: the fields that the state lets in, then ABORT, which goes before ENABLE (R35). -/
def State.writeCfg (s : State) (n v : Nat) : State :=
  let r := s.ring n
  let s1 := if r.takes then
      s.setRing n { r with port := if bit v 29 && s.host.twoPorts then 1 else 0, cls := ⟨bits v 25 2 % 4, Nat.mod_lt _ (by decide)⟩, sizeLog2 := BitVec.ofNat 5 (bits v 20 5), vector := BitVec.ofNat 12 v }
    else s
  if bit v 30 then s1.writeAbort n else s1.writeEnable n (bit v 31)

def State.writeRing (s : State) (n o v : Nat) : State :=
  let r := s.ring n
  match o with
  | 0x10 => s.writeCfg n v
  | 0x14 => s.setRing n { r with modCount := BitVec.ofNat 8 (bits v 16 8), modTime := BitVec.ofNat 10 (bits v 0 10) }
  | 0x18 => if bit v 16 then s.setRing n { r with bellIgnored := false } else s
  | _ => s

/-! Whole-register writes of 64 bits (R438). -/

/-- Bits [63:12] of an address. -/
def page64 (v : Nat) : BitVec 64 := BitVec.ofNat 64 (v / 4096 * 4096)

/-- Does a 64-bit register that takes writes begin at the offset? -/
def wideWrite (off : Nat) : Bool :=
  off == 0x80 || off == 0x88 || off == 0x7000 || (decide (0x10000 ≤ off) && decide (off < 0x30000) && (off % 32 == 0 || off % 32 == 8))

def State.writeWide (s : State) (off v : Nat) : State :=
  if off = 0x80 then s.writeWmtBase 0 (BitVec.ofNat 64 v)
  else if off = 0x88 then s.writeWmtBase 1 (BitVec.ofNat 64 v)
  else if off = 0x7000 then (if s.flash.buildState = .running then s else { s with flash := { s.flash with buildAddr := page64 v } })
  else
    let n := (off - 0x10000) / 32
    let r := s.ring n
    if !r.takes then s
    else if off % 32 = 0 then s.setRing n { r with sqBase := page64 v } else s.setRing n { r with cqBase := page64 v }

/-! BAR0 (R7, R436 to R439). -/

/-- Blocks that take writes before READY (R439). -/
def earlyWrite (b : Nat) : Bool := b == 0 || b == 1 || b == 4 || b == 5 || b == 7 || b == 0xA || (decide (0x10 ≤ b) && decide (b < 0x30))

/-- A 32-bit write of a register that is no half of a 64-bit one. -/
def State.writeNarrow (s : State) (off v : Nat) : State :=
  let b := off / 4096
  let o := off % 4096
  if 0x10 ≤ b ∧ b < 0x30 then s.writeRing ((off - 0x10000) / 32) (off % 32) v
  else match b with
    | 0x0 => s.writeDev o v
    | 0x1 => s.writeIntr o v
    | 0x2 => s.writeClass o v
    | 0x3 => s.writeTick o v
    | 0x4 => s.writeTamper o v
    | 0x5 => s.writeLcdbg o v
    | 0x6 => s.writeCart o v
    | 0x7 => s.writeFlash o v
    | 0x8 => s.writeDdr o v
    | 0x9 => s.writeFault o v
    | 0xA => s.writeClk o v
    | 0xB => if o = 0 then { s with units := { s.units with select := BitVec.ofNat 16 v } } else s
    | _ => s

/-- Does the block at an offset take writes now? The core must run. -/
def State.accepts (s : State) (off : Nat) : Bool := s.mainOn && (s.dev.ready || earlyWrite (off / 4096))

/-- A 32-bit write: a low word of a 64-bit register is held, the high word completes it. -/
def State.write32 (s : State) (off v : Nat) : State :=
  let v := v % 2 ^ 32
  if off % 4 ≠ 0 ∨ 0x100000 ≤ off ∨ !s.accepts off then s
  else if wideWrite off then { s with dev := { s.dev with heldLow := s.dev.heldLow.ins off (BitVec.ofNat 32 v) } }
  else if 4 ≤ off ∧ wideWrite (off - 4) then
    let low := (s.dev.heldLow.get noWord (off - 4)).toNat
    State.writeWide { s with dev := { s.dev with heldLow := s.dev.heldLow.del (off - 4) } } (off - 4) (v * 2 ^ 32 + low)
  else s.writeNarrow off v

/-- A 64-bit write of a register that permits it; any other is ignored. -/
def State.write64 (s : State) (off v : Nat) : State :=
  if off % 8 ≠ 0 ∨ 0x100000 ≤ off ∨ !s.accepts off ∨ !wideWrite off then s else s.writeWide off (v % 2 ^ 64)

/-! BAR2 and BAR4 (R25, R26, R37, R60). -/

/-- A bell. -/
def State.writeBell (s : State) (p off v : Nat) : State :=
  match off % 4096 with
  | 0 => s.bellSq p (off / 4096) v
  | 4 => s.bellCq p (off / 4096) v
  | _ => s

/-- One 32-bit word of the MSI-X table; unmasking a vector sends what is held for it. -/
def State.writeMsix (s : State) (p off v : Nat) : State :=
  let n := off / 16
  let q := s.port p
  let up := fun f => s.setPort p { q with msix := q.msix.upd noMsix n f }
  if 0x10000 ≤ off then s
  else match off % 16 with
    | 0 => up (fun e => { e with addr := BitVec.ofNat 64 (e.addr.toNat / 2 ^ 32 * 2 ^ 32 + v % 2 ^ 32) })
    | 4 => up (fun e => { e with addr := BitVec.ofNat 64 (v % 2 ^ 32 * 2 ^ 32 + e.addr.toNat % 2 ^ 32) })
    | 8 => up (fun e => { e with data := BitVec.ofNat 32 v })
    | _ => if bit v 0 then up (fun e => { e with mask := true }) else s.unmask p (some (BitVec.ofNat 12 n))

/-- A base address as a BAR of the given size keeps it. -/
def barBase (n v : Nat) : BitVec 64 := BitVec.ofNat 64 (v / barSize n * barSize n)

/-- A word of a base address written: the low half keeps the high one and the other way round. -/
def putWord (b : BitVec 64) (high : Bool) (v : Nat) : Nat := if high then v % 2 ^ 32 * 2 ^ 32 + b.toNat % 2 ^ 32 else b.toNat / 2 ^ 32 * 2 ^ 32 + v % 2 ^ 32

/-- A write of the configuration header: Bus Master Enable in the Command register and the BARs; every other word is read-only (R24 to R26, R35, log 101). -/
def State.writeHeader (s : State) (p off v : Nat) : State :=
  let q := s.port p
  if off = 0x04 then
    (if bit v 2 = q.bme then s else if bit v 2 then (s.setPort p { q with bme := true }).portReturns p else s.bmeOff p)
  else if off = 0x10 ∨ off = 0x14 then s.setPort p { q with bar0 := barBase 0 (putWord q.bar0 (off = 0x14) v) }
  else if off = 0x18 ∨ off = 0x1C then s.setPort p { q with bar2 := barBase 2 (putWord q.bar2 (off = 0x1C) v) }
  else if off = 0x20 ∨ off = 0x24 then s.setPort p { q with bar4 := barBase 4 (putWord q.bar4 (off = 0x24) v) }
  else s

/-- A write through a BAR of a port, or to its configuration space. -/
def State.writeReg (s : State) (w : RegWrite) : State :=
  match w.bar, w.width with
  | 6, 4 => if s.mainOn && s.portUsed w.port.val && !(s.port w.port.val).inReset then s.writeHeader w.port.val w.offset w.value else s
  | 0, 4 => s.write32 w.offset w.value
  | 0, 8 => s.write64 w.offset w.value
  | 2, 4 => if s.mainOn && decide (w.offset % 4 = 0) then s.writeBell w.port.val w.offset w.value else s
  | 4, 4 => if s.mainOn && decide (w.offset % 4 = 0) then s.writeMsix w.port.val w.offset w.value else s
  | 4, 8 => if s.mainOn && decide (w.offset % 8 = 0) then (s.writeMsix w.port.val w.offset w.value).writeMsix w.port.val (w.offset + 4) (w.value / 2 ^ 32) else s
  | _, _ => s

/-- REGISTER_WRITE (R7). -/
def execRegisterWrite (wr : RegWrite) (s : State) : Host.Outcome State Fault Refusal := .next (s.writeReg wr)
/-- LAT_CLEAR (R91). -/
def execLatClear (s : State) : Host.Outcome State Fault Refusal := .next (s.write32 0x200C 1)
/-- TIME_CONFIG (R160): writes of TICK.SLEW and TICK.UNSIGNED, taken or ignored as any write of the TICK block (R439). -/
def execTimeConfig (slew unsigned : Option (BitVec 32)) (s : State) : Host.Outcome State Fault Refusal :=
  let s1 := match slew with | some v => s.write32 0x3008 v.toNat | none => s
  .next (match unsigned with | some v => s1.write32 0x300C v.toNat | none => s1)
/-- MAX_CLEAR (R435). -/
def execMaxClear (s : State) : Host.Outcome State Fault Refusal := .next (s.write32 0x900C 1)
/-- INTR_ENABLE_WRITE (R450). -/
def execIntrEnableWrite (value : BitVec 32) (s : State) : Host.Outcome State Fault Refusal := .next (s.write32 0x1008 value.toNat)
/-- INTR_VECTOR_WRITE (R451). -/
def execIntrVectorWrite (cause : Fin 4) (value : BitVec 32) (s : State) : Host.Outcome State Fault Refusal := .next (s.write32 (0x1010 + 4 * cause.val) value.toNat)

/-- A merged message goes out 1 µs after the one before it (R450). -/
def State.sendMerged (s : State) (c : Nat) : State :=
  if s.dev.merged.getLsbD c then
    State.sendIntr { s with dev := { s.dev with merged := setBit s.dev.merged c false, lastMsg := s.dev.lastMsg.set zeroOf c 0 } } c
  else s

/-- MERGED_MESSAGE (R450). -/
def execMergedMessage (cause : Fin 4) (s : State) : Host.Outcome State Fault Refusal := .next (s.sendMerged cause.val)

end Sys2Proof.Machine
end

