-- ==== Sys2Proof/Machine/Search.lean ====
section
/-! DEFINITION. SEARCH: the query, the items, the applets 1 and 2, match records and the summary (R191 to R196). -/

namespace Sys2Proof.Machine

/-- A query (R193). -/
structure Query where
  kind : Nat
  proofs : Bool
  clearFrame : Bool
  maxMatches : Nat
  first : Nat
  last : Nat
  params : Bytes
deriving DecidableEq, Repr

/-- The query of a ticket; none where it breaks R193. -/
def queryOf (len : Nat) (b : Bytes) : Option Query :=
  if b.length = len ∧ 64 ≤ len ∧ fld b 0 2 = 1 ∧ 1 ≤ fld b 2 1 ∧ fld b 2 1 ≤ 3 ∧ fld b 3 1 ≤ 3 ∧ 1 ≤ fld b 4 4 ∧ fld b 4 4 ≤ 65535 ∧ 1 ≤ fld b 8 8 ∧ fld b 8 8 ≤ fld b 16 8 ∧
      64 + fld b 24 4 = len ∧ allZero (slice b 28 36) then
    some { kind := fld b 2 1, proofs := bit (fld b 3 1) 0, clearFrame := bit (fld b 3 1) 1, maxMatches := fld b 4 4, first := fld b 8 8, last := fld b 16 8, params := b.drop 64 }
  else none

/-- May the applet run the query (R193)? -/
def queryApplet (n : Nat) (a : Option Applet) (q : Query) : Option Applet :=
  match a with
  | some a => if a.search ∧ (n = 1 → q.kind = 1) ∧ (n = 2 → q.kind = 3) then some a else none
  | none => none

/-- One item of a search: its input, the frame it stands for, and an index record's kind. -/
structure SItem where
  input : Bytes
  frame : Option Nat := none
  kind : Nat := 0
deriving DecidableEq, Repr

/-- What a search has done so far. -/
structure SState where
  words : List Word64 := []
  examined : Nat := 0
  lastTick : Nat := 0
  withheld : Nat := 0
  notDurable : Nat := 0
  matches_ : Nat := 0
  lastTab : Nat := 0
  lastSeq : Nat := 0
  /-- Bytes of match records so far. -/
  out : Bytes := []
  truncated : Bool := false
  /-- 0 while it goes on, else the status that ends it. -/
  stop : Nat := 0
  full : Bool := false
deriving DecidableEq, Repr

/-- Applet 1 (R191): KIND, MASK and PATTERN against an index record. -/
def indexMatch (params rec : Bytes) : List MatchRec :=
  let v := slice rec 32 32
  if fld params 0 2 = fld rec 4 2 ∧ andBytes v (fitTo 32 (slice params 8 32)) = fitTo 32 (slice params 40 32) then
    [{ frame := BitVec.ofNat 64 (fld rec 16 4), payload := v }] else []

/-- Applet 2 (R192): FROM and TO against an entry's header. -/
def rangeMatch (params h : Bytes) : List MatchRec :=
  let start := fld h 32 8
  if fld h 2 1 = 1 ∧ start ≠ 0 ∧ start < fld params 8 8 ∧ fld params 0 8 < start + fld h 40 4 then [{ frame := BitVec.allOnes 64, payload := h.take 32 }] else []

/-- Run the applet on one item: its matches and the state words it leaves. -/
def runSearch (n : Nat) (a : Applet) (q : Query) (e : Entry) (it : SItem) (words : List Word64) (room : Nat) : List MatchRec × List Word64 :=
  if n = 1 then (indexMatch q.params it.input, words)
  else if n = 2 then (rangeMatch q.params it.input, words)
  else
    let infos := [it.input.length, e.hdr.tab, e.hdr.seq, e.hdr.frameCount, e.hdr.captureStart, e.hdr.duration, e.hdr.template, e.hdr.source.toNat, e.commitTick,
      it.frame.getD (2 ^ 64 - 1), q.kind, it.kind]
    let v : Vm := { slot := slotPut [] 0 a.consts, words := wordsOf words, input := it.input, query := q.params, search := true, maxMatches := room
                    info := Vector.ofFn (fun i => BitVec.ofNat 64 (infos.getD i.val 0)), worst := a.worst it.input.length }
    let r := Vm.runAll a.code (a.worst it.input.length + 1) v
    (r.matchRecs, packWords r.words.toList)

/-- A match record (R195). -/
def matchBytes (tab seq tick frame flags : Nat) (frameBytes bundle payload : Bytes) : Bytes :=
  leBytes 4 (96 + roundUp frameBytes.length 8 + roundUp bundle.length 8) ++ leBytes 4 tab ++ leBytes 8 seq ++ leBytes 8 tick ++ leBytes 4 frame ++ leBytes 2 flags ++ zeros 2 ++
    leBytes 4 frameBytes.length ++ leBytes 4 bundle.length ++ zeros 24 ++ fitTo 32 payload ++ pad8 frameBytes ++ pad8 bundle

/-- Deliver one match of an entry whose clear segment is `data` (none where it is withheld or has none). -/
def State.oneMatch (s : State) (cap : Nat) (q : Query) (e : Entry) (data : Option Bytes) (st : SState) (m : MatchRec) : SState :=
  if st.full || decide (st.stop ≠ 0) then st
  else
    let f := m.frame.toNat % 2 ^ 32
    let frames := match data with | some d => framesOf d.length e.marks | none => []
    let named := decide (f < e.hdr.frameCount)
    if named && data.isNone then st
    else
      let fb := if named && (q.proofs || q.clearFrame) then (let p := frames.getD f (0, 0); slice (data.getD []) p.1 p.2) else []
      let run := s.runFrom e.hdr.tab e.commitTick e.hdr.seq
      let leaves := frameLeaves (data.getD []) e.marks
      let bundle := if !q.proofs then none
        else if named then s.entryBundle e.hdr.tab e.commitTick e.hdr.seq 2 run [leaves.getD f []] (mthPath f leaves)
        else s.entryBundle e.hdr.tab e.commitTick e.hdr.seq 1 run [] []
      if q.proofs && bundle.isNone then { st with stop := 0x20 }
      else
        let bb := (bundle.map Bundle.bytes).getD []
        let rec_ := matchBytes e.hdr.tab e.hdr.seq e.commitTick (if named then f else 0xFFFFFFFF) (2 * b2n (fb ≠ []) + 4 * b2n q.proofs) fb bb m.payload
        if cap < st.out.length + rec_.length + 96 then { st with truncated := true, full := true }
        else
          let n := st.matches_ + 1
          { st with out := st.out ++ rec_, matches_ := n, lastTab := e.hdr.tab, lastSeq := e.hdr.seq, truncated := st.truncated || decide (n = q.maxMatches), full := decide (n = q.maxMatches) }

/-- The items an entry yields (R194). -/
def itemsOf (q : Query) (e : Entry) (data : Option Bytes) : List SItem :=
  match q.kind with
  | 1 => if e.hdr.stored then e.indexRecs.map (fun r => { input := r.bytes e.hdr.tab e.hdr.seq e.commitTick, frame := some r.frame, kind := r.kind }) else []
  | 2 => match data with
    | some d => ((framesOf d.length e.marks).zipIdx).map (fun p => { input := slice d p.1.1 p.1.2, frame := some p.2 })
    | none => []
  | _ => [{ input := e.hdr.bytes }]

/-- One entry of a search. -/
def State.searchEntry (s : State) (cap n : Nat) (ap : Applet) (q : Query) (st : SState) (e : Entry) : SState :=
  if st.full || decide (st.stop ≠ 0) then st
  else if !s.covered e.commitTick then { st with notDurable := st.notDurable + 1 }
  else
    match s.checkRun e.hdr.tab e.commitTick e.hdr.seq true with
    | .media => { st with stop := 0x20 }
    | .proof => { st with stop := 0x21 }
    | .ok =>
        let key := s.openKey e
        let held := e.hdr.stored && key.isNone
        let data := if e.hdr.stored then key.bind (fun k => clearOf k e) else none
        if e.hdr.stored && !held && (match data with | some d => decide (e.hdr.frameCount ≠ 0) && !framesMatch d e.marks e.hdr | none => true) then { st with stop := 0x21 }
        else
          let st1 := { st with withheld := st.withheld + b2n held, lastTick := max st.lastTick e.commitTick }
          (itemsOf q e data).foldl (fun st it =>
            if st.full || decide (st.stop ≠ 0) then st
            else
              let m := runSearch n ap q e it st.words (q.maxMatches - st.matches_)
              m.1.foldl (s.oneMatch cap q e data) { st with words := m.2, examined := st.examined + 1 }) st1

/-- The summary record (R195). -/
def SState.summary (st : SState) : Bytes :=
  matchBytes 0 st.examined st.lastTick 0xFFFFFFFF 1 [] [] (leBytes 8 st.withheld ++ leBytes 8 st.notDurable ++ leBytes 8 st.matches_ ++ zeros 8)

/-- The entries a search examines, tab by tab and in sequence order. -/
def State.searchSpan (s : State) (tab : Option Nat) (q : Query) : List Entry :=
  let es := s.tabs.entries.filter (fun e => !e.recordOnly && (tab == none || tab == some e.hdr.tab) && decide (q.first ≤ e.commitTick) && decide (e.commitTick ≤ q.last))
  es.mergeSort (fun a b => decide (a.hdr.tab < b.hdr.tab) || (decide (a.hdr.tab = b.hdr.tab) && decide (a.hdr.seq ≤ b.hdr.seq)))

/-- SEARCH over its span. Where nothing matches, TAB and SEQUENCE of the receipt are 0, for a named tab too: R55 and R195 name the last match only (DESIGN CHOICE, log 100). -/
def State.search (s0 : State) (a : TkArg) (o : ObjRead) (qr : HostRead) : State :=
  s0.withTk a 0x22 (fun t =>
    let n := t.tk.op 60 2
    let s := s0.checkCopy (.image n)
    let q := match qr with | .ok b => queryOf (t.tk.op 56 4) b | .err => none
    match q, q.bind (queryApplet n t.applet) with
    | some q, some ap =>
      s.withDest t a o (fun s d =>
        let cap := extentsLen d
        if cap < 96 then s.finishWith t 0x12 a.us
        else
          let st := (s.searchSpan t.tab q).foldl (s.searchEntry cap n ap q) {}
          if st.stop ≠ 0 then
            ((s.writeOut t d st.out).writeOut t d (zeros 4)).finish t { t.receipt st.stop with tab := st.lastTab, seq := st.lastSeq } a.us
          else
            ((((s.searchSpan t.tab q).filter (fun e => s.covered e.commitTick)).foldl State.useEntryKey s).writeOut t d (st.out ++ st.summary)).finish t { t.receipt 0 with tab := st.lastTab, seq := st.lastSeq, flags := 8 * b2n st.truncated, result := st.matches_ } a.us)
    | _, _ => if s.masters t then (s.aer (s.portOf t) [qr]).finishWith t 0x10 a.us else s)

/-- SEARCH (R194). -/
def execSearch (a : TkArg) (dest : ObjRead) (query : HostRead) (s : State) : Host.Outcome State Fault Refusal := .next (s.search a dest query)

end Sys2Proof.Machine
end

