-- ==== Sys2Proof/Machine/SelfTest.lean ====
section
/-! DEFINITION. SELF_TEST: stalls, engines, monitor sources, and all of a unit's descendants (chapters 06 to 08 and 14). -/

namespace Sys2Proof.Machine

/-! What a unit's test shows (R198, R219, R238, R372). -/

/-- The detail of a result record: for an engine what R219 and R238 lay down. -/
def State.testDetail (s : State) (a : Nat) (d : Word64) : Word64 :=
  if 4 ≤ a / 4096 ∧ a / 4096 ≤ 7 then BitVec.ofNat 64 (detailOf (a / 4096) (s.rowEng (rowNo a)).grinderOk d.toNat) else d

/-- Does the test fail: for an engine what its detail says, for a stall what it shows? -/
def State.testFails (s : State) (a : Nat) (o : TestOut) : Bool :=
  if 4 ≤ a / 4096 ∧ a / 4096 ≤ 7 then detailFails (a / 4096) (s.testDetail a o.detail).toNat else o.fail

/-- A 16-byte result record. -/
def testRecord (a code result : Nat) (us : Nat) (detail : Word64) : Bytes := leBytes 2 a ++ leBytes 1 code ++ leBytes 1 result ++ leBytes 4 us ++ leBytes 8 detail.toNat

/-! Draining (R197). -/

/-- The unit holds work: items or held slots, open contexts, a session. A stall that drains has left its slots to a spare that stands in for it. -/
def State.holdsWork (s : State) (a : Nat) : Bool :=
  match unitLevel a with
  | some 3 => s.units.items.any (fun i => i.unit == a) || (match s.standsFor a with | some st => decide (0 < s.slotsHeld st) | none => false)
  | some 4 => (s.rowEng (rowNo a)).cipherOpen != []
  | some 5 => (s.rowEng (rowNo a)).hashOpen != []
  | some 6 => (s.pke (a % 16)).owner.isSome
  | _ => false

/-- May the unit start to drain within R197: one stall of its row, 2 cipher engines, 1 hash engine and 2 PKE engines of the device at one time, and never both engines of
rows r and r xor 1? -/
def State.mayDrain (s : State) (a : Nat) : Bool :=
  let r := rowNo a
  match unitLevel a with
  | some 3 => !(List.range 9).any (fun i => s.inTest (stallAddr r i))
  | some 4 => !s.inTest (cipherAddr (r ^^^ 1)) && decide ((List.range 64).countP (fun x => s.inTest (cipherAddr x)) < 2)
  | some 5 => (List.range 64).all (fun x => !s.inTest (hashAddr x))
  | some 6 => decide ((List.range 16).countP (fun e => s.inTest (0x6000 + e)) < 2)
  | _ => true

/-- A spare at rest stands in for a stall of its row from when that begins to drain (R197). -/
def State.lendSpare (s : State) (a : Nat) : State :=
  let row := rowNo a
  if unitLevel a = some 3 ∧ a % 16 < 8 ∧ (s.unitSt (spareAddr row)).state = .idle then ((s.setUState (spareAddr row) .standingIn).setSpareFor (rowAddr row) (a % 16)).rowEvent s row
  else s

/-- The unit takes no new work while it holds some, and is under test from then on; nothing where that would pass the limits of R197, and then the test waits. A unit
that recovers from a fault of its own runs the tests of that first. -/
def State.drain (s : State) (a : Nat) : State :=
  let st := (s.unitSt a).state
  if st = .draining then (if s.holdsWork a then s else s.setUState a .underTest)
  else if (st = .active ∨ st = .standingIn ∨ st = .idle) ∧ s.mayDrain a then (let s1 := s.lendSpare a; s1.setUState a (if s1.holdsWork a then .draining else .underTest))
  else s

/-- The test of a unit ends: in service again, or RETIRED. -/
def State.afterTest (s : State) (a code : Nat) (fail : Bool) : State :=
  if fail then (if a / 4096 = 3 then (s.retireStall a code).rowEvent s (rowNo a) else s.retireEngine a) else s.undrain a

/-- Test one unit of levels 3 to 7: its record and RESULT code once it is under test, and none before. A fault that has come meanwhile ends the test with RESULT 1, and
the unit follows the path of that fault (R427). -/
def State.testUnit (s : State) (a code : Nat) (o : TestOut) : Option (State × Bytes × Nat) :=
  let u := s.unitSt a
  if u.broke then some (s.setUnit a { u with broke := false }, testRecord a code 1 0 0, 1)
  else if u.state = .retired then some (s, testRecord a code 2 0 0, 2)
  else if u.state ≠ .underTest then none
  else
    let f := s.testFails a o
    some (s.afterTest a (if code = 5 then 1 else code) f, testRecord a code (b2n f) o.durationUs (s.testDetail a o.detail), b2n f)

/-! Monitor sources (R370 to R372). -/

/-- The source's response is masked for its test, one source at a time across the device. -/
def State.maskSource (s : State) (n : Nat) : State :=
  if (List.range 32).any (fun m => (s.src m).masked) then s else s.setSrc n { s.src n with masked := true }

/-- The longest mask, in microseconds: 200, or 10 ms under a debug pass with MONITOR_TEST_EXTENDED (R370, R390). -/
def State.maskLimit (s : State) : Nat := if s.guard.passActive && s.guard.passRights.getLsbD 4 then 10000 else 200

/-- The detail of a source's test: WAS_ACTIVE clear, MASK_US within its limit (R370, R372). -/
def State.sourceDetail (s : State) (d : Word64) : Word64 :=
  BitVec.ofNat 64 (bits d.toNat 0 32 + 2 ^ 32 * min s.maskLimit (bits d.toNat 32 16))

/-- A failed detector counts as a detection of its source, with TEST_FAIL. -/
def State.testFailed (s : State) (n detail : Nat) : State :=
  let c := s.src n
  (s.setSrc n { c with count := sat 16 (c.count + 1), testFail := true }).respond [{ source := n, detail := detail, level := c.level, flags := 4, time := s.now }] true

/-- Test a monitor source: its record and RESULT code once its response is masked, and none before. A source that is fused off or ACTIVE is not masked at all. `late` is a
condition that arose under the mask and is still there as it lifts. -/
def State.testSource (s : State) (a code : Nat) (o : TestOut) (late : Option Nat) : Option (State × Bytes × Nat) :=
  let n := a % 256
  if s.fused n then some (s, testRecord a code 3 0 0, 3)
  else if (s.src n).masked then
    let d := s.sourceDetail o.detail
    let f := decide (bits d.toNat 0 2 ≠ 0)
    let s0 := s.setSrc n { s.src n with masked := false }
    let s1 := if f then s0.testFailed n (d.toNat % 2 ^ 24) else s0.setSrc n { s0.src n with testFail := false }
    let s2 := match late with | some x => s1.detect [{ source := n, detail := x }] 0 2 | none => s1
    some (s2, testRecord a code (b2n f) o.durationUs d, b2n f)
  else if (s.src n).active then some (s, testRecord a code 1 o.durationUs (BitVec.ofNat 64 (2 ^ 63)), 1)
  else none

/-- Test the unit, or begin its test where that has still to drain it or to mask its source. -/
def State.testOne (s : State) (a code : Nat) (o : TestOut) (late : Option Nat) : Option (State × Bytes × Nat) :=
  if a / 4096 = 12 then s.testSource a code o late else s.testUnit a code o

/-- The test of the unit begins. -/
def State.beginTest (s : State) (a : Nat) : State := if a / 4096 = 12 then s.maskSource (a % 256) else s.drain a

/-! The ticket (R198). -/

/-- Units that a test of `a` covers, in tree order. -/
def rowUnits (r : Nat) : List Nat := (List.range 9).map (stallAddr r) ++ [cipherAddr r, hashAddr r]
def testedUnits (a : Nat) : List Nat :=
  match unitLevel a with
  | some 0 => (List.range 64).flatMap rowUnits ++ (List.range 16).map (fun e => 0x6000 + e) ++ (List.range 8).map (fun e => 0x7000 + e) ++ (List.range 32).map (fun n => 0xC000 + n)
  | some 1 => (List.range 8).flatMap (fun r => rowUnits (a / 256 % 16 * 8 + r))
  | some 2 => rowUnits (rowNo a)
  | some l => if (3 ≤ l ∧ l ≤ 7) ∨ l = 12 then [a] else []
  | none => []

/-- The SELF_TEST ticket of a code, waiting to be served, with its destination if it names one. -/
def State.withTest (s : State) (a : TkArg) (dest : ObjRead) (code : Nat) (f : State → Tk → Nat → Option (List Extent) → State) : State :=
  s.withTk a 0x38 (fun t =>
    if t.tk.op 50 1 ≠ code then s
    else if t.tk.noData then f s t (t.tk.op 48 2) none
    else s.withDest t a dest (fun s es => f s t (t.tk.op 48 2) (some es)))

/-- Write the whole records that fit and post RESULT; nothing where a response to the test has withdrawn the ticket. -/
def State.endTest (s : State) (a : TkArg) (es : Option (List Extent)) (recs : List Bytes) (result : Nat) : State :=
  s.withTk a 0x38 (fun t =>
    match es with
    | none => s.finish t { t.receipt 0 with result := result } a.us
    | some es =>
      let n := min recs.length (extentsLen es / 16)
      (s.writeOut t es (recs.take n).flatten).finish t { t.receipt 0 with result := result, flags := 8 * b2n (decide (n < recs.length)) } a.us)

/-- Codes 0x01 to 0x04: one unit. The ticket begins its test, and a later serving of it ends the test. -/
def State.oneTest (s : State) (a : TkArg) (dest : ObjRead) (out : TestOut) (late : Option Nat) (code : Nat) : State :=
  s.withTest a dest code (fun s _ u es =>
    match s.testOne u code out late with
    | none => s.beginTest u
    | some (s1, r, x) => s1.endTest a es [r] x)

/-- LOCKSTEP (R198). -/
def execLockstepTest (a : TkArg) (dest : ObjRead) (out : TestOut) (s : State) : Host.Outcome State Fault Refusal := .next (s.oneTest a dest out none 1)
/-- MEMORY (R198). -/
def execMemoryTest (a : TkArg) (dest : ObjRead) (out : TestOut) (s : State) : Host.Outcome State Fault Refusal := .next (s.oneTest a dest out none 2)
/-- KAT (R218, R237). -/
def execKatTest (a : TkArg) (dest : ObjRead) (out : TestOut) (s : State) : Host.Outcome State Fault Refusal := .next (s.oneTest a dest out none 3)

/-- MONITOR (R370). -/
def execMonitorTest (a : TkArg) (dest : ObjRead) (out : MonitorOut) (s : State) : Host.Outcome State Fault Refusal :=
  .next (s.oneTest a dest out.out out.late 4)

/-- Is the unit RETIRED: itself, or as a row, a market or the device without a working stall (R168)? -/
def State.unitRetired (s : State) (a : Nat) : Bool := if a / 4096 ≤ 2 then !(rowsUnder a).any s.rowWorks else (s.unitSt a).state == .retired

/-- What becomes of a FULL test over the units left: each is tested in turn, and the test of the first that is not under test yet begins. No test runs in LOCKDOWN, so a
response to a failed source ends it. -/
def State.fullGo (s : State) (recs : List Bytes) (bad : Bool) : List TestOut → List Nat → State × TestRun
  | _, [] => (s, { left := [], recs := recs, bad := bad })
  | outs, u :: rest =>
    let o := outs.headD {}
    if s.power.mode == .lockdown then (s, { left := u :: rest, recs := recs, bad := bad })
    else match s.testOne u 5 o none with
      | some (s1, r, c) => s1.fullGo (recs ++ [r]) (bad || c == 1) (if c = 2 ∨ c = 3 then outs else outs.drop 1) rest
      | none => (s.beginTest u, { left := u :: rest, recs := recs, bad := bad })

/-- FULL (R198): every unit in turn. Where the test of a unit has only begun, the ticket goes on with it when it is served again. Where the named unit is RETIRED or fused off, that is the
RESULT and the one record, and nothing is tested. -/
def State.fullTest (s : State) (a : TkArg) (dest : ObjRead) (outs : List TestOut) : State :=
  s.withTest a dest 5 (fun s t u es =>
    if s.unitRetired u then s.endTest a es [testRecord u 5 2 0 0] 2
    else
      let run := t.test.getD { left := testedUnits u }
      let r := s.fullGo run.recs run.bad outs run.left
      if r.2.left ≠ [] then r.1.withTk a 0x38 (fun t => r.1.setTk { t with test := some r.2 })
      else r.1.endTest a es r.2.recs (if u / 4096 = 12 ∧ s.fused (u % 256) then 3 else b2n r.2.bad))

def execFullTest (a : TkArg) (dest : ObjRead) (outs : List TestOut) (s : State) : Host.Outcome State Fault Refusal := .next (s.fullTest a dest outs)

end Sys2Proof.Machine
end

