-- ==== Sys2Proof/Machine/Dispatch.lean ====
section
/-! DEFINITION. What each command does: one arm per constructor, one meaning per arm. -/

namespace Sys2Proof.Machine

/-- The effect of a command on everything but the queue. -/
def exec (i : Instr) (s : State) : Host.Outcome State Fault Refusal :=
  match i with
  | .sqTail port ring value => Sys2Proof.Machine.execSqTail port ring value s
  | .cqHead port ring value => Sys2Proof.Machine.execCqHead port ring value s
  | .enable ring on => Sys2Proof.Machine.execEnable ring on s
  | .abort ring => Sys2Proof.Machine.execAbort ring s
  | .ringActivation ring => Sys2Proof.Machine.execRingActivation ring s
  | .ringDrainComplete ring => Sys2Proof.Machine.execRingDrainComplete ring s
  | .busMasterEnableCleared port => Sys2Proof.Machine.execBusMasterEnableCleared port s
  | .busMasterEnableSet port => Sys2Proof.Machine.execBusMasterEnableSet port s
  | .ticketFetch ring waitedUs reads => Sys2Proof.Machine.execTicketFetch ring waitedUs reads s
  | .completionError a => Sys2Proof.Machine.execCompletionError a s
  | .tokenGrant rung waitedUs => Sys2Proof.Machine.execTokenGrant rung waitedUs s
  | .spaceWaitExpiry id => Sys2Proof.Machine.execSpaceWaitExpiry id s
  | .itemStart unit => Sys2Proof.Machine.execItemStart unit s
  | .tillCommit a => Sys2Proof.Machine.execTillCommit a s
  | .modTimeExpiry ring => Sys2Proof.Machine.execModTimeExpiry ring s
  | .vectorUnmask port vector => Sys2Proof.Machine.execVectorUnmask port vector s
  | .ingest a reads => Sys2Proof.Machine.execIngest a reads s
  | .ingestSigned a reads => Sys2Proof.Machine.execIngestSigned a reads s
  | .openTab a => Sys2Proof.Machine.execOpenTab a s
  | .closeTab a => Sys2Proof.Machine.execCloseTab a s
  | .hold a => Sys2Proof.Machine.execHold a s
  | .releaseHold a => Sys2Proof.Machine.execReleaseHold a s
  | .markUploaded a => Sys2Proof.Machine.execMarkUploaded a s
  | .heartbeat a => Sys2Proof.Machine.execHeartbeat a s
  | .holdover a => Sys2Proof.Machine.execHoldover a s
  | .fence a => Sys2Proof.Machine.execFence a s
  | .setTime a obj => Sys2Proof.Machine.execSetTime a obj s
  | .readSealed a obj => Sys2Proof.Machine.execReadSealed a obj s
  | .tabStatusRead a obj => Sys2Proof.Machine.execTabStatusRead a obj s
  | .absenceProofRead a obj => Sys2Proof.Machine.execAbsenceProofRead a obj s
  | .ledgerRead a obj => Sys2Proof.Machine.execLedgerRead a obj s
  | .escrowWrapRead a obj => Sys2Proof.Machine.execEscrowWrapRead a obj s
  | .signerCertificateRead a obj => Sys2Proof.Machine.execSignerCertificateRead a obj s
  | .identityCertificateRead a obj => Sys2Proof.Machine.execIdentityCertificateRead a obj s
  | .tamperLogRead a obj => Sys2Proof.Machine.execTamperLogRead a obj s
  | .faultLogRead a obj => Sys2Proof.Machine.execFaultLogRead a obj s
  | .readClear a obj => Sys2Proof.Machine.execReadClear a obj s
  | .search a dest query => Sys2Proof.Machine.execSearch a dest query s
  | .loadApplet a obj => Sys2Proof.Machine.execLoadApplet a obj s
  | .loadTemplate a obj => Sys2Proof.Machine.execLoadTemplate a obj s
  | .lockstepTest a dest out => Sys2Proof.Machine.execLockstepTest a dest out s
  | .memoryTest a dest out => Sys2Proof.Machine.execMemoryTest a dest out s
  | .katTest a dest out => Sys2Proof.Machine.execKatTest a dest out s
  | .monitorTest a dest out => Sys2Proof.Machine.execMonitorTest a dest out s
  | .fullTest a dest outs => Sys2Proof.Machine.execFullTest a dest outs s
  | .readLevelCal a outs => Sys2Proof.Machine.execReadLevelCal a outs s
  | .interfaceCal a outs => Sys2Proof.Machine.execInterfaceCal a outs s
  | .scrubCal a outs => Sys2Proof.Machine.execScrubCal a outs s
  | .enrol a req cart => Sys2Proof.Machine.execEnrol a req cart s
  | .exportOpen a req cart => Sys2Proof.Machine.execExportOpen a req cart s
  | .wipe a req cart => Sys2Proof.Machine.execWipe a req cart s
  | .abandon a req cart => Sys2Proof.Machine.execAbandon a req cart s
  | .lockdownRelease a obj => Sys2Proof.Machine.execLockdownRelease a obj s
  | .claim a obj => Sys2Proof.Machine.execClaim a obj s
  | .ownerChange a obj => Sys2Proof.Machine.execOwnerChange a obj s
  | .returnDevice a obj => Sys2Proof.Machine.execReturnDevice a obj s
  | .scrap a obj => Sys2Proof.Machine.execScrap a obj s
  | .authorityUpdate a obj => Sys2Proof.Machine.execAuthorityUpdate a obj s
  | .fuse a obj stuck => Sys2Proof.Machine.execFuse a obj stuck s
  | .transitionPhases stuck => Sys2Proof.Machine.execTransitionPhases stuck s
  | .debugPass a obj => Sys2Proof.Machine.execDebugPass a obj s
  | .oAdd w rd ra rb => Sys2Proof.Machine.execOAdd w rd ra rb s
  | .oSub w rd ra rb => Sys2Proof.Machine.execOSub w rd ra rb s
  | .oAnd w rd ra rb => Sys2Proof.Machine.execOAnd w rd ra rb s
  | .oOr w rd ra rb => Sys2Proof.Machine.execOOr w rd ra rb s
  | .oXor w rd ra rb => Sys2Proof.Machine.execOXor w rd ra rb s
  | .oShl w rd ra rb => Sys2Proof.Machine.execOShl w rd ra rb s
  | .oShr w rd ra rb => Sys2Proof.Machine.execOShr w rd ra rb s
  | .oSar w rd ra rb => Sys2Proof.Machine.execOSar w rd ra rb s
  | .oMul w rd ra rb => Sys2Proof.Machine.execOMul w rd ra rb s
  | .oMinu w rd ra rb => Sys2Proof.Machine.execOMinu w rd ra rb s
  | .oMaxu w rd ra rb => Sys2Proof.Machine.execOMaxu w rd ra rb s
  | .oSltu w rd ra rb => Sys2Proof.Machine.execOSltu w rd ra rb s
  | .oBswap w rd ra => Sys2Proof.Machine.execOBswap w rd ra s
  | .oAddi w rd ra imm => Sys2Proof.Machine.execOAddi w rd ra imm s
  | .oAndi w rd ra imm => Sys2Proof.Machine.execOAndi w rd ra imm s
  | .oOri w rd ra imm => Sys2Proof.Machine.execOOri w rd ra imm s
  | .oXori w rd ra imm => Sys2Proof.Machine.execOXori w rd ra imm s
  | .oShli w rd ra imm => Sys2Proof.Machine.execOShli w rd ra imm s
  | .oShri w rd ra imm => Sys2Proof.Machine.execOShri w rd ra imm s
  | .oLdi w rd imm => Sys2Proof.Machine.execOLdi w rd imm s
  | .oLdh1 w rd ra imm => Sys2Proof.Machine.execOLdh1 w rd ra imm s
  | .oLdh2 w rd ra imm => Sys2Proof.Machine.execOLdh2 w rd ra imm s
  | .oLdh3 w rd ra imm => Sys2Proof.Machine.execOLdh3 w rd ra imm s
  | .oLd8 w rd ra imm => Sys2Proof.Machine.execOLd8 w rd ra imm s
  | .oLd16 w rd ra imm => Sys2Proof.Machine.execOLd16 w rd ra imm s
  | .oLd32 w rd ra imm => Sys2Proof.Machine.execOLd32 w rd ra imm s
  | .oLd64 w rd ra imm => Sys2Proof.Machine.execOLd64 w rd ra imm s
  | .oSt8 w rd ra imm => Sys2Proof.Machine.execOSt8 w rd ra imm s
  | .oSt16 w rd ra imm => Sys2Proof.Machine.execOSt16 w rd ra imm s
  | .oSt32 w rd ra imm => Sys2Proof.Machine.execOSt32 w rd ra imm s
  | .oSt64 w rd ra imm => Sys2Proof.Machine.execOSt64 w rd ra imm s
  | .oIn8 w rd ra imm => Sys2Proof.Machine.execOIn8 w rd ra imm s
  | .oIn16b w rd ra imm => Sys2Proof.Machine.execOIn16b w rd ra imm s
  | .oIn32b w rd ra imm => Sys2Proof.Machine.execOIn32b w rd ra imm s
  | .oIn32l w rd ra imm => Sys2Proof.Machine.execOIn32l w rd ra imm s
  | .oHmark w rd ra imm => Sys2Proof.Machine.execOHmark w rd ra imm s
  | .oQld64 w rd ra imm => Sys2Proof.Machine.execOQld64 w rd ra imm s
  | .oLds w rd imm => Sys2Proof.Machine.execOLds w rd imm s
  | .oSts w rd imm => Sys2Proof.Machine.execOSts w rd imm s
  | .oInfo w rd imm => Sys2Proof.Machine.execOInfo w rd imm s
  | .oBeq w ra rb off => Sys2Proof.Machine.execOBeq w ra rb off s
  | .oBne w ra rb off => Sys2Proof.Machine.execOBne w ra rb off s
  | .oBltu w ra rb off => Sys2Proof.Machine.execOBltu w ra rb off s
  | .oBgeu w ra rb off => Sys2Proof.Machine.execOBgeu w ra rb off s
  | .oBlt w ra rb off => Sys2Proof.Machine.execOBlt w ra rb off s
  | .oBge w ra rb off => Sys2Proof.Machine.execOBge w ra rb off s
  | .oJmp w off => Sys2Proof.Machine.execOJmp w off s
  | .oLoop w n len => Sys2Proof.Machine.execOLoop w n len s
  | .oLoopb w n len => Sys2Proof.Machine.execOLoopb w n len s
  | .oLeave w => Sys2Proof.Machine.execOLeave w s
  | .oEnd w => Sys2Proof.Machine.execOEnd w s
  | .oFind w rd ra rb p k => Sys2Proof.Machine.execOFind w rd ra rb p k s
  | .oHashm w ra rb imm => Sys2Proof.Machine.execOHashm w ra rb imm s
  | .oEmark w ra => Sys2Proof.Machine.execOEmark w ra s
  | .oEindex w ra rb kind => Sys2Proof.Machine.execOEindex w ra rb kind s
  | .oEmatch w ra rb => Sys2Proof.Machine.execOEmatch w ra rb s
  | .oRefuse w code => Sys2Proof.Machine.execORefuse w code s
  | .gcm r => Sys2Proof.Machine.execGcm r s
  | .ctr r => Sys2Proof.Machine.execCtr r s
  | .cbc r => Sys2Proof.Machine.execCbc r s
  | .cmac r => Sys2Proof.Machine.execCmac r s
  | .xts r => Sys2Proof.Machine.execXts r s
  | .ecb r => Sys2Proof.Machine.execEcb r s
  | .sha256 r => Sys2Proof.Machine.execSha256 r s
  | .sha384 r => Sys2Proof.Machine.execSha384 r s
  | .sha512 r => Sys2Proof.Machine.execSha512 r s
  | .sha3x256 r => Sys2Proof.Machine.execSha3x256 r s
  | .sha3x384 r => Sys2Proof.Machine.execSha3x384 r s
  | .hmac r alg key => Sys2Proof.Machine.execHmac r alg key s
  | .ecdsaVerifyP256 r => Sys2Proof.Machine.execEcdsaVerifyP256 r s
  | .ecdsaVerifyP384 r => Sys2Proof.Machine.execEcdsaVerifyP384 r s
  | .ecdsaVerifyP521 r => Sys2Proof.Machine.execEcdsaVerifyP521 r s
  | .ecdsaSignP256 r => Sys2Proof.Machine.execEcdsaSignP256 r s
  | .ecdsaSignP384 r => Sys2Proof.Machine.execEcdsaSignP384 r s
  | .ecdsaSignP521 r => Sys2Proof.Machine.execEcdsaSignP521 r s
  | .ecdhP256 r => Sys2Proof.Machine.execEcdhP256 r s
  | .ecdhP384 r => Sys2Proof.Machine.execEcdhP384 r s
  | .ecdhP521 r => Sys2Proof.Machine.execEcdhP521 r s
  | .ecKeyGenerationP256 r => Sys2Proof.Machine.execEcKeyGenerationP256 r s
  | .ecKeyGenerationP384 r => Sys2Proof.Machine.execEcKeyGenerationP384 r s
  | .ecKeyGenerationP521 r => Sys2Proof.Machine.execEcKeyGenerationP521 r s
  | .ed25519Verify r => Sys2Proof.Machine.execEd25519Verify r s
  | .ed25519Sign r => Sys2Proof.Machine.execEd25519Sign r s
  | .x25519 r => Sys2Proof.Machine.execX25519 r s
  | .x25519KeyGeneration r => Sys2Proof.Machine.execX25519KeyGeneration r s
  | .rsaPublic2048 r => Sys2Proof.Machine.execRsaPublic2048 r s
  | .rsaPublic3072 r => Sys2Proof.Machine.execRsaPublic3072 r s
  | .rsaPublic4096 r => Sys2Proof.Machine.execRsaPublic4096 r s
  | .rsaPrivate2048 r => Sys2Proof.Machine.execRsaPrivate2048 r s
  | .rsaPrivate3072 r => Sys2Proof.Machine.execRsaPrivate3072 r s
  | .rsaPrivate4096 r => Sys2Proof.Machine.execRsaPrivate4096 r s
  | .mlDsa44Verify r => Sys2Proof.Machine.execMlDsa44Verify r s
  | .mlDsa65Verify r => Sys2Proof.Machine.execMlDsa65Verify r s
  | .mlDsa87Verify r => Sys2Proof.Machine.execMlDsa87Verify r s
  | .mlDsa44Sign r => Sys2Proof.Machine.execMlDsa44Sign r s
  | .mlDsa65Sign r => Sys2Proof.Machine.execMlDsa65Sign r s
  | .mlDsa87Sign r => Sys2Proof.Machine.execMlDsa87Sign r s
  | .mlDsa44KeyGeneration r => Sys2Proof.Machine.execMlDsa44KeyGeneration r s
  | .mlDsa65KeyGeneration r => Sys2Proof.Machine.execMlDsa65KeyGeneration r s
  | .mlDsa87KeyGeneration r => Sys2Proof.Machine.execMlDsa87KeyGeneration r s
  | .mlKem768KeyGeneration r => Sys2Proof.Machine.execMlKem768KeyGeneration r s
  | .mlKem768Encapsulation r => Sys2Proof.Machine.execMlKem768Encapsulation r s
  | .mlKem768Decapsulation r => Sys2Proof.Machine.execMlKem768Decapsulation r s
  | .busyRetry => Sys2Proof.Machine.execBusyRetry s
  | .tickBoundary => Sys2Proof.Machine.execTickBoundary s
  | .tickRecordSealed delay100us attempts => Sys2Proof.Machine.execTickRecordSealed delay100us attempts s
  | .tickRecordDurable failedLanes => Sys2Proof.Machine.execTickRecordDurable failedLanes s
  | .slew => Sys2Proof.Machine.execSlew s
  | .timeConfig slew unsigned => Sys2Proof.Machine.execTimeConfig slew unsigned s
  | .epochPreparation group => Sys2Proof.Machine.execEpochPreparation group s
  | .epochChange => Sys2Proof.Machine.execEpochChange s
  | .shred => Sys2Proof.Machine.execShred s
  | .drbgReseed healthy => Sys2Proof.Machine.execDrbgReseed healthy s
  | .grinderReseed row healthy => Sys2Proof.Machine.execGrinderReseed row healthy s
  | .poolReseed healthy => Sys2Proof.Machine.execPoolReseed healthy s
  | .rowProgrammed crate failedLanes => Sys2Proof.Machine.execRowProgrammed crate failedLanes s
  | .reclaim => Sys2Proof.Machine.execReclaim s
  | .rebuild => Sys2Proof.Machine.execRebuild s
  | .periodicScrub out => Sys2Proof.Machine.execPeriodicScrub out s
  | .readDisturbScrub out => Sys2Proof.Machine.execReadDisturbScrub out s
  | .refresh => Sys2Proof.Machine.execRefresh s
  | .readLevelCalibration out => Sys2Proof.Machine.execReadLevelCalibration out s
  | .wearLevelling => Sys2Proof.Machine.execWearLevelling s
  | .build desc answers => Sys2Proof.Machine.execBuild desc answers s
  | .extension desc answers => Sys2Proof.Machine.execExtension desc answers s
  | .retrain target passes => Sys2Proof.Machine.execRetrain target passes s
  | .flashTimeout target lun lunResetOk targetResetOk idOk trainOk => Sys2Proof.Machine.execFlashTimeout target lun lunResetOk targetResetOk idOk trainOk s
  | .fcReset target => Sys2Proof.Machine.execFcReset target s
  | .fcResetLun target lun => Sys2Proof.Machine.execFcResetLun target lun s
  | .fcVolumeSelect target => Sys2Proof.Machine.execFcVolumeSelect target s
  | .fcOdtConfigure target => Sys2Proof.Machine.execFcOdtConfigure target s
  | .fcReadId target id => Sys2Proof.Machine.execFcReadId target id s
  | .fcReadParameterPage target agrees => Sys2Proof.Machine.execFcReadParameterPage target agrees s
  | .fcSetFeatures target fa value => Sys2Proof.Machine.execFcSetFeatures target fa value s
  | .fcGetFeatures target fa => Sys2Proof.Machine.execFcGetFeatures target fa s
  | .fcSetFeaturesByLun target lun fa value => Sys2Proof.Machine.execFcSetFeaturesByLun target lun fa value s
  | .fcGetFeaturesByLun target lun fa => Sys2Proof.Machine.execFcGetFeaturesByLun target lun fa s
  | .fcZqCalibrationLong target => Sys2Proof.Machine.execFcZqCalibrationLong target s
  | .fcZqCalibrationShort target => Sys2Proof.Machine.execFcZqCalibrationShort target s
  | .fcReadDqTraining target passes => Sys2Proof.Machine.execFcReadDqTraining target passes s
  | .fcWriteTrainingTx target passes => Sys2Proof.Machine.execFcWriteTrainingTx target passes s
  | .fcWriteTrainingRx target passes => Sys2Proof.Machine.execFcWriteTrainingRx target passes s
  | .fcRead target lun block page cls cws => Sys2Proof.Machine.execFcRead target lun block page cls cws s
  | .fcMultiPlaneRead target lun block page cls cws => Sys2Proof.Machine.execFcMultiPlaneRead target lun block page cls cws s
  | .fcChangeReadColumnEnhanced target lun column => Sys2Proof.Machine.execFcChangeReadColumnEnhanced target lun column s
  | .fcReadStatusEnhanced target lun ready fail => Sys2Proof.Machine.execFcReadStatusEnhanced target lun ready fail s
  | .fcPageProgram target lun block page => Sys2Proof.Machine.execFcPageProgram target lun block page s
  | .fcMultiPlaneProgram target lun block page => Sys2Proof.Machine.execFcMultiPlaneProgram target lun block page s
  | .fcBlockErase target lun block => Sys2Proof.Machine.execFcBlockErase target lun block s
  | .fcMultiPlaneErase target lun block => Sys2Proof.Machine.execFcMultiPlaneErase target lun block s
  | .fcEraseSuspend target lun cls => Sys2Proof.Machine.execFcEraseSuspend target lun cls s
  | .fcEraseResume target lun => Sys2Proof.Machine.execFcEraseResume target lun s
  | .ddrError chan page err held interrupt => Sys2Proof.Machine.execDdrError chan page err held interrupt s
  | .patrolScrub errors => Sys2Proof.Machine.execPatrolScrub errors s
  | .selfRefresh chan enter => Sys2Proof.Machine.execSelfRefresh chan enter s
  | .elasticFillComplete => Sys2Proof.Machine.execElasticFillComplete s
  | .cartridgeInsertion slot => Sys2Proof.Machine.execCartridgeInsertion slot s
  | .slotBringup slot ans => Sys2Proof.Machine.execSlotBringup slot ans s
  | .removal slot => Sys2Proof.Machine.execRemoval slot s
  | .linkTimeout slot ans => Sys2Proof.Machine.execLinkTimeout slot ans s
  | .slotIdle slot => Sys2Proof.Machine.execSlotIdle slot s
  | .mhGoIdle slot => Sys2Proof.Machine.execMhGoIdle slot s
  | .mhIdentify slot answer => Sys2Proof.Machine.execMhIdentify slot answer s
  | .mhReadIdent slot answer => Sys2Proof.Machine.execMhReadIdent slot answer s
  | .mhSelect slot answer => Sys2Proof.Machine.execMhSelect slot answer s
  | .mhSwitch slot mode answer => Sys2Proof.Machine.execMhSwitch slot mode answer s
  | .mhReadCheck slot answer lines => Sys2Proof.Machine.execMhReadCheck slot answer lines s
  | .mhStop slot answer => Sys2Proof.Machine.execMhStop slot answer s
  | .mhStatus slot answer => Sys2Proof.Machine.execMhStatus slot answer s
  | .mhReadBlocks slot block answer blocks => Sys2Proof.Machine.execMhReadBlocks slot block answer blocks s
  | .mhWriteBlocks slot block data answer token => Sys2Proof.Machine.execMhWriteBlocks slot block data answer token s
  | .mhSetCount slot count answer => Sys2Proof.Machine.execMhSetCount slot count answer s
  | .mhRpaRead slot answer blocks => Sys2Proof.Machine.execMhRpaRead slot answer blocks s
  | .mhRpaWrite slot address units answer => Sys2Proof.Machine.execMhRpaWrite slot address units answer s
  | .mhCounterRead slot answer lines => Sys2Proof.Machine.execMhCounterRead slot answer lines s
  | .mhPair slot answer => Sys2Proof.Machine.execMhPair slot answer s
  | .mhReadKey slot answer lines => Sys2Proof.Machine.execMhReadKey slot answer lines s
  | .mhSleep slot answer => Sys2Proof.Machine.execMhSleep slot answer s
  | .mhWake slot answer => Sys2Proof.Machine.execMhWake slot answer s
  | .streamUnitWrite slot token writeFail readback => Sys2Proof.Machine.execStreamUnitWrite slot token writeFail readback s
  | .headlessAvailable => Sys2Proof.Machine.execHeadlessAvailable s
  | .headlessSessionOpen => Sys2Proof.Machine.execHeadlessSessionOpen s
  | .cartridgeReturnTimeout => Sys2Proof.Machine.execCartridgeReturnTimeout s
  | .hxStTimeout => Sys2Proof.Machine.execHxStTimeout s
  | .cardInsertion card => Sys2Proof.Machine.execCardInsertion card s
  | .cardActivation card atr ppsOk => Sys2Proof.Machine.execCardActivation card atr ppsOk s
  | .apduSelectByName card sw => Sys2Proof.Machine.execApduSelectByName card sw s
  | .apduReadBinary card data sw => Sys2Proof.Machine.execApduReadBinary card data sw s
  | .apduInternalAuthenticate card data sw => Sys2Proof.Machine.execApduInternalAuthenticate card data sw s
  | .apduGetResponse card data sw => Sys2Proof.Machine.execApduGetResponse card data sw s
  | .cardRemoval card => Sys2Proof.Machine.execCardRemoval card s
  | .authorisationExpiry card => Sys2Proof.Machine.execAuthorisationExpiry card s
  | .tamperDetection dets fraction => Sys2Proof.Machine.execTamperDetection dets fraction s
  | .backupDetection dets => Sys2Proof.Machine.execBackupDetection dets s
  | .tamperLogFlush => Sys2Proof.Machine.execTamperLogFlush s
  | .faultLogFlush => Sys2Proof.Machine.execFaultLogFlush s
  | .counterCheck damaged => Sys2Proof.Machine.execCounterCheck damaged s
  | .lock => Sys2Proof.Machine.execLock s
  | .tamperSrcWrite source value => Sys2Proof.Machine.execTamperSrcWrite source value s
  | .newNonce => Sys2Proof.Machine.execNewNonce s
  | .endPass => Sys2Proof.Machine.execEndPass s
  | .passExpiry => Sys2Proof.Machine.execPassExpiry s
  | .debugAccess right offset => Sys2Proof.Machine.execDebugAccess right offset s
  | .extest => Sys2Proof.Machine.execExtest s
  | .heartbeatTimeout => Sys2Proof.Machine.execHeartbeatTimeout s
  | .catchupEnd => Sys2Proof.Machine.execCatchupEnd s
  | .startUp ans => Sys2Proof.Machine.execStartUp ans s
  | .powerLoss => Sys2Proof.Machine.execPowerLoss s
  | .brownOut => Sys2Proof.Machine.execBrownOut s
  | .deviceReset => Sys2Proof.Machine.execDeviceReset s
  | .portReset port => Sys2Proof.Machine.execPortReset port s
  | .flr port => Sys2Proof.Machine.execFlr port s
  | .linkDown port => Sys2Proof.Machine.execLinkDown port s
  | .linkUp port speed width => Sys2Proof.Machine.execLinkUp port speed width s
  | .vbatSwitchover toVbat => Sys2Proof.Machine.execVbatSwitchover toVbat s
  | .supplyWarning => Sys2Proof.Machine.execSupplyWarning s
  | .warningRelease us => Sys2Proof.Machine.execWarningRelease us s
  | .rowGate row => Sys2Proof.Machine.execRowGate row s
  | .flashGroupGate group => Sys2Proof.Machine.execFlashGroupGate group s
  | .sysclkLoss => Sys2Proof.Machine.execSysclkLoss s
  | .sysclkResume interrupt => Sys2Proof.Machine.execSysclkResume interrupt s
  | .reconciliation crossing total => Sys2Proof.Machine.execReconciliation crossing total s
  | .lockstepMismatch unit interrupt => Sys2Proof.Machine.execLockstepMismatch unit interrupt s
  | .worstCaseOverrun unit interrupt => Sys2Proof.Machine.execWorstCaseOverrun unit interrupt s
  | .stallTestComplete unit failedCode => Sys2Proof.Machine.execStallTestComplete unit failedCode s
  | .checkFault unit interrupt => Sys2Proof.Machine.execCheckFault unit interrupt s
  | .ledgerHasherCheck hasher subtree interrupt => Sys2Proof.Machine.execLedgerHasherCheck hasher subtree interrupt s
  | .pkeCheck engine interrupt => Sys2Proof.Machine.execPkeCheck engine interrupt s
  | .shortSetComplete unit failedBits => Sys2Proof.Machine.execShortSetComplete unit failedBits s
  | .latClear => Sys2Proof.Machine.execLatClear s
  | .maxClear => Sys2Proof.Machine.execMaxClear s
  | .wmtBaseWrite port value => Sys2Proof.Machine.execWmtBaseWrite port value s
  | .intrEnableWrite value => Sys2Proof.Machine.execIntrEnableWrite value s
  | .intrVectorWrite cause value => Sys2Proof.Machine.execIntrVectorWrite cause value s
  | .latchedRead port bar offset width => Sys2Proof.Machine.execLatchedRead port bar offset width s
  | .registerWrite wr => Sys2Proof.Machine.execRegisterWrite wr s
  | .powerStateD3hot port d3 => Sys2Proof.Machine.execPowerStateD3hot port d3 s
  | .perstRelease port => Sys2Proof.Machine.execPerstRelease port s
  | .conditionCleared source => Sys2Proof.Machine.execConditionCleared source s
  | .vbatLoss => Sys2Proof.Machine.execVbatLoss s
  | .vbatApplied => Sys2Proof.Machine.execVbatApplied s
  | .mergedMessage cause => Sys2Proof.Machine.execMergedMessage cause s

end Sys2Proof.Machine
end

