-- ==== Sys2Proof/Machine/Stripe.lean ====
section
/-! DEFINITION. What the array holds of a crate: the layout of its data space, parity, codewords, and the system area (R270 to R273, R276, R290). -/

namespace Sys2Proof.Machine

/-! The data space (R272, R276). -/

/-- A byte of a crate's data space: an object's header, its body, or zero. -/
def State.dataByte (s : State) (c : Crate) (b : Nat) : Byte :=
  match c.objects.find? (fun o => decide (512 * o.slot ≤ b) && decide (b < 512 * (o.slot + o.slots))) with
  | some o => (o.header ++ s.objBody c o).getD (b - 512 * o.slot) 0
  | none => 0

/-- Where a byte of the data space lies: row, lane, and place within the lane page (R272). -/
def Crate.place (c : Crate) (b : Nat) : Nat × Nat × Nat := (b / (14 * c.lanePage), b % (14 * c.lanePage) / c.lanePage, b % c.lanePage)

/-- Where a byte of a lane page lies on its target: LUN, plane, and place within the page; the planes of LUN 0 come first (R272). -/
def Geo.place (g : Geo) (b : Nat) : Nat × Nat × Nat := (b / (g.planes * g.pageBytes), b / g.pageBytes % g.planes, b % g.pageBytes)

/-! Parity (R272). -/

/-- Times g = 0x02 in GF(2^8) with the polynomial 0x11D. -/
def gfTimes2 (x : Byte) : Byte := (x <<< 1) ^^^ (if x.msb then 0x1D else 0)

/-- P and Q over the bytes of the data lanes at one position, lane 0 first. -/
def parityP (d : List Byte) : Byte := d.foldr (fun x p => x ^^^ p) 0
def parityQ (d : List Byte) : Byte := d.foldr (fun x q => x ^^^ gfTimes2 q) 0

/-- Do 16 bytes, of lanes 0 to 15 at one position, agree with their parity? -/
def stripeOk (l : List Byte) : Bool := decide (l.length = 16) && decide (l.getD 14 0 = parityP (l.take 14)) && decide (l.getD 15 0 = parityQ (l.take 14))

/-- The bytes of a position whose lanes `i` and `j` are missing: the ones that agree with the parity (R272, R281). -/
def solveStripe (l : List Byte) (i j : Nat) : Option (List Byte) :=
  ((List.range 65536).map (fun v => (l.set i (BitVec.ofNat 8 (v % 256))).set j (BitVec.ofNat 8 (v / 256)))).find? stripeOk

/-- The bytes of a row's data lanes at a place of their lane pages. -/
def State.rowBytes (s : State) (c : Crate) (row off : Nat) : List Byte := (List.range 14).map (fun i => s.dataByte c ((row * 14 + i) * c.lanePage + off))

/-- A byte of a lane page of a crate: data on lanes 0 to 13, P on lane 14, Q on lane 15 (R270). -/
def State.laneByte (s : State) (c : Crate) (row lane off : Nat) : Byte :=
  if lane < 14 then s.dataByte c ((row * 14 + lane) * c.lanePage + off)
  else if lane = 14 then parityP (s.rowBytes c row off) else parityQ (s.rowBytes c row off)

/-! Codewords (R273). -/

/-- One bit of a CRC-32 (IEEE 802.3), least significant bit first. -/
def crc32Bit (c : BitVec 32) : BitVec 32 := (c >>> 1) ^^^ (if c.getLsbD 0 then 0xEDB88320 else 0)
def crc32Byte (c : BitVec 32) (b : Byte) : BitVec 32 := (List.range 8).foldl (fun c _ => crc32Bit c) (c ^^^ b.setWidth 32)
/-- CRC-32 (IEEE 802.3). -/
def crc32 (l : Bytes) : BitVec 32 := ~~~(l.foldl crc32Byte 0xFFFFFFFF)

/-- LIFECYCLE of a row: the life-cycle count when it was written. -/
def Crate.lifeOf (c : Crate) (row : Nat) : Nat := (((c.lives.filter (fun p => decide (p.1 ≤ row))).getLast?).map (·.2)).getD 0

/-- A codeword's 16 bytes of metadata over its data. -/
def codewordMeta (crate row lane kind life index : Nat) (data : Bytes) : Bytes :=
  let m := leBytes 4 crate ++ leBytes 2 row ++ leBytes 1 lane ++ leBytes 1 kind ++ leBytes 1 life ++ leBytes 1 index ++ zeros 2
  m ++ leBytes 4 (crc32 (data ++ m)).toNat

/-- The length of a page's LDPC parity fields: the largest multiple of 32 bytes, 512 at the most, that fits in the spare bytes of a codeword after the metadata. -/
def Geo.parityBytes (g : Geo) : Nat := min 512 ((g.spare / (g.pageBytes / 4096) - 16) / 32 * 32)

/-- The data of a codeword of a lane page. -/
def State.codewordData (s : State) (c : Crate) (row lane index : Nat) : Bytes := (List.range 4096).map (fun k => s.laneByte c row lane (4096 * index + k))

/-- A codeword: data, metadata and LDPC parity. The spec gives no code, so the parity is a free value (log 115). -/
def State.codeword (s : State) (c : Crate) (row lane index : Nat) : Bytes :=
  let d := s.codewordData c row lane index
  let m := d ++ codewordMeta c.id row lane c.kind.code (c.lifeOf row) index d
  m ++ fitTo (((c.lanes[lane]?).map (fun l => (s.geo l.target).parityBytes)).getD 0) (Config.ldpcParity m)

/-- A lane-page program: what a plane of a LUN takes, and where (R270 to R273, R278). -/
structure PageProgram where
  target : Nat
  lun : Nat
  plane : Nat
  block : Nat
  page : Nat
  data : Bytes
deriving DecidableEq, Repr

/-- The programs of a row on the lanes a crate still has, one for each plane of each LUN of each lane (R278). -/
def State.rowPrograms (s : State) (c : Crate) (row : Nat) : List PageProgram :=
  (c.lanes.zipIdx.filter (fun p => !c.lostLanes.contains p.2)).flatMap (fun p =>
    let g := s.geo p.1.target
    let n := g.pageBytes / 4096
    (List.range g.luns).flatMap (fun u => (List.range g.planes).map (fun k =>
      { target := p.1.target, lun := u, plane := k, block := s.physical p.1.target u k p.1.block, page := row
        data := (List.range n).flatMap (fun i => s.codeword c row p.2 ((u * g.planes + k) * n + i)) })))

/-! The crate index, the map and the tab index (R290). -/

/-- An object's bytes that are live, and those that are protected, of a crate. -/
def Crate.liveBytes (c : Crate) : Nat := ((c.objects.filter Obj.retained).map Obj.bytes).sum

/-- A row of the crate index. -/
structure CrateRow where
  id : Nat
  kind : Nat
  state : Nat
  stream : Nat
  lanes : List Lane
  lostMask : Nat
  firstTick : Nat
  lastTick : Nat
  live : Nat
  kept : Nat
deriving DecidableEq, Repr

def State.crateRow (s : State) (c : Crate) : CrateRow :=
  { id := c.id, kind := c.kind.code, state := c.state.code, stream := c.stream, lanes := c.lanes, lostMask := (c.lostLanes.dedup.map (fun i => 2 ^ i)).sum
    firstTick := c.firstTick, lastTick := c.lastTick, live := c.liveBytes, kept := s.protectedBytes c }

def State.crateIndex (s : State) : List CrateRow := (s.flash.system ++ s.flash.crates).map s.crateRow

/-- An extent of the map: one MiB of a crate's data space. -/
structure MapRow where
  crate : Nat
  extent : Nat
  liveKib : Nat
  protectedKib : Nat
  lowTick : Nat
deriving DecidableEq, Repr

/-- Bytes of an object within an extent. -/
def Obj.within (o : Obj) (extent : Nat) : Nat := min (512 * (o.slot + o.slots)) ((extent + 1) * 1048576) - max (512 * o.slot) (extent * 1048576)

def State.mapRow (s : State) (c : Crate) (extent : Nat) : MapRow :=
  let l := c.objects.filter (fun o => o.retained && decide (0 < o.within extent))
  { crate := c.id, extent := extent, liveKib := (l.map (fun o => o.within extent)).sum / 1024, protectedKib := ((l.filter s.protects).map (fun o => o.within extent)).sum / 1024
    lowTick := least ((l.filterMap (fun o => if o.type ≤ 2 then (s.entry? o.tab o.key).map Entry.commitTick else none))) % 2 ^ 32 }

/-- The map. -/
def State.map_ (s : State) : List MapRow := s.ringCrates.flatMap (fun c => (List.range (ceilDiv (512 * c.dataSlots) 1048576)).map (s.mapRow c))

/-- A run of one tab's entries in one crate. -/
structure TabRun where
  first : Nat
  crate : Nat
  count : Nat
  lost : Bool
  recordOnly : Bool
deriving DecidableEq, Repr

/-- Join an entry to the runs before it: a run is split where a number is missing, the crate changes or a flag changes. -/
def addRun (l : List TabRun) (e : Entry) : List TabRun :=
  match l.getLast? with
  | some r =>
    if r.first + r.count = e.hdr.seq ∧ r.crate = e.inCrate ∧ r.lost = e.lost ∧ r.recordOnly = e.recordOnly then l.dropLast ++ [{ r with count := r.count + 1 }]
    else l ++ [{ first := e.hdr.seq, crate := e.inCrate, count := 1, lost := e.lost, recordOnly := e.recordOnly }]
  | none => [{ first := e.hdr.seq, crate := e.inCrate, count := 1, lost := e.lost, recordOnly := e.recordOnly }]

/-- The tab index of a tab. -/
def State.tabRuns (s : State) (t : Nat) : List TabRun := (s.tabs.entries.filter (fun e => e.hdr.tab == t)).foldl addRun []

/-! The system area (R271). -/

/-- What the system area holds (R271): objects of TYPE 8 in the SYSTEM crates. -/
inductive AreaObject where
  | build (desc : Bytes)
  | index (rows : List CrateRow) (grown worn lost : Nat)
  | badBlocks (bad : List BadBlock) (subs : List SubBlock)
  | image (slot : Nat) (image : VaultImage)
  | keyPage (page : KeyPage)
  | journal (l : List Boundary)
  | applet (id : Nat) (a : Applet)
  | template (id : Nat) (t : Template)
deriving DecidableEq, Repr

/-- The objects of the system area as they stand: each is written at every change of what it holds (R143, R189, R247, R251, R261, R271, R290). -/
def State.systemArea (s : State) : List AreaObject :=
  [.build s.flash.desc, .index s.crateIndex s.flash.grown s.flash.worn s.flash.lost, .badBlocks s.flash.bad s.flash.subs] ++ (s.vault.image0.toList.map (.image 0)) ++ (s.vault.image1.toList.map (.image 1)) ++
    s.vault.pages.map .keyPage ++ [.journal s.ledger.journal] ++ s.tabs.applets.map (fun p => .applet p.1 p.2) ++ s.tabs.templates.map (fun p => .template p.1 p.2)

end Sys2Proof.Machine
end

