-- ==== Sys2Proof/Safety.lean ====
section
/-! DEFINITION. What the statements speak of: which parts of the state a command may change, the canonical form of the stores, when work can run. -/

namespace Sys2Proof.Safety

open Sys2Proof.Machine

/-- Only the ring table differs. -/
def OnlyRings (s t : State) : Prop := t = { s with host := { s.host with rings := t.host.rings } }
/-- Only the host interface differs. -/
def OnlyHost (s t : State) : Prop := t = { s with host := t.host }
/-- Only the host interface and the traffic classes differ. -/
def OnlyTraffic (s t : State) : Prop := t = { s with host := t.host, classes := t.classes }
/-- Only the crypto units differ. -/
def OnlyCrypto (s t : State) : Prop := t = { s with crypto := t.crypto }
/-- Only the working set, the key slots of the row engines and the copies in DDR4 differ. -/
def OnlyKeys (s t : State) : Prop := t = { s with vault := { s.vault with work := t.vault.work }, crypto := { s.crypto with rows := t.crypto.rows }, ddr := t.ddr }
/-- Only the tamper monitor differs. -/
def OnlyTamper (s t : State) : Prop := t = { s with tamper := t.tamper }
/-- Only the flash channels, crates and targets differ. -/
def OnlyFlash (s t : State) : Prop := t = { s with flash := t.flash }
/-- Only the cartridge slots, cards and sessions differ. -/
def OnlyBoards (s t : State) : Prop := t = { s with boards := t.boards }
/-- Only the running items differ. -/
def OnlyItems (s t : State) : Prop := t = { s with units := { s.units with items := t.units.items } }

/-- The ring table is in its canonical form. -/
abbrev RingsCanonical (s : State) : Prop := s.host.rings.wf Ring.reset = true
/-- The tab store is in its canonical form. -/
abbrev TabsCanonical (s : State) : Prop := s.tabs.ctx.wf Tab.closed = true

/-- The MSI-X tables, units, spares, monitor sources, templates, targets, lane blocks, flash and DDR4 channels, row and PKE engines, message times, slots and cards are in their canonical form, and so is the slot memory of every running item;
every session's identifier has been issued. -/
def BoardsCanonical (s : State) : Prop :=
  s.host.port0.msix.wf noMsix = true ∧ s.host.port1.msix.wf noMsix = true ∧ s.units.st.wf UnitSt.reset = true ∧ s.units.spareFor.wf noSpare = true ∧ s.tamper.srcs.wf Src.at_ = true ∧ s.tabs.templates.sorted = true ∧
    s.flash.targets.wf noTarget = true ∧ s.flash.lanes.wf noLane = true ∧ s.flash.chans.wf noChan = true ∧ s.crypto.rows.wf noRow = true ∧
    s.crypto.pke.engines.wf noPke = true ∧ s.dev.lastMsg.wf zeroOf = true ∧ s.ddr.chans.wf noDdrChan = true ∧ s.boards.slots.wf noSlot = true ∧ s.boards.cards.wf noCard = true ∧
    (∀ x ∈ s.boards.sessions, x.id ≤ s.boards.lastSession) ∧ ∀ i ∈ s.units.items, i.vm.slot.wf zeroByte = true

/-- Every sparse store of the state is in its canonical form. -/
def Canonical (s : State) : Prop := RingsCanonical s ∧ TabsCanonical s ∧ BoardsCanonical s

/-- A slot is powered and its cartridge is in a state of the link, so that the command goes out. -/
abbrev OnLink (s : State) (n : Nat) (l : LinkState) : Prop := s.linkRuns = true ∧ (s.slot n).pwren = true ∧ (s.slot n).state ≠ .failed ∧ (s.slot n).link = l

/-- Only the flash array differs, and the credits of the classes at its queues. -/
def OnlyArray (s t : State) : Prop := t = { s with flash := t.flash, classes := { s.classes with drr := t.classes.drr } }

/-- The command leaves the slot as `x` and changes nothing else. -/
def SetsSlot (c : Instr) (s : State) (n : Nat) (x : Slot) : Prop := exec c s = .next (s.setSlot n x)

/-- A status word that reports neither COM_CRC_ERROR nor ILLEGAL_COMMAND. -/
abbrev Plain (v : BitVec 32) : Prop := v.getLsbD 28 = false ∧ v.getLsbD 29 = false

/-- No command waits. -/
abbrev Idle (s : State) : Prop := s.pending = []

/-- A stall runs Otnak instructions: neither the supply warning nor a switch of the PLLs pauses it (R408, R425). -/
abbrev Runs (s : State) : Prop := s.power.warn = false ∧ s.power.pllSwitching = false

/-- The item of ticket `w` whose applet's code can run an instruction, and its ticket: its program goes on within its worst case, and the cores of its stall run it or turn to it
(R171, R175). An item on a built-in applet, or with a format cause, runs no instruction. -/
abbrev Running (s : State) (w : Nat) (i : Item) (t : Tk) : Prop :=
  Runs s ∧ s.units.items.find? (fun x => x.ticket == w) = some i ∧ s.tk? w = some t ∧ t.plain = false ∧ i.vm.ended = .running ∧ i.vm.cycles ≤ i.vm.worst ∧
    (i.core = true ∨ s.coreFree i.unit = true)

/-- The running items once the cores of the item's stall run it, and no other item of that stall. -/
def onItsCores (s : State) (i : Item) (w : Nat) : List Item := if i.core then s.units.items else (s.onCore i.unit w).units.items

/-- A machine goes on: it has not ended, and its pc stands inside the applet's code. -/
def GoesOn (t : Tk) (v : Vm) : Prop :=
  v.ended = .running ∧ ∀ a, t.applet = some a → v.pc < a.code.length

/-- The items with the machine of ticket `w` replaced. -/
def itemsWith (l : List Item) (w : Nat) (v : Vm) : List Item := l.map (fun x => if x.ticket = w then { x with vm := v } else x)

/-- The command leaves the machine of the running item of ticket `w` as `v`, as long as the item goes on, and changes nothing else; the cores run the item. -/
def TurnsTo (c : Instr) (w : Nat) (s : State) (i : Item) (t : Tk) (v : Vm) : Prop :=
  Running s w i t → GoesOn t v → ∃ u, exec c s = .next u ∧ OnlyItems s u ∧ u.units.items = itemsWith (onItsCores s i w) w v

/-- The command turns the machine of a running item of ticket `w` from `v` into `f v`. -/
def Turns (c : Instr) (w : Nat) (f : Vm → Vm) : Prop := ∀ s i t, TurnsTo c w s i t (f i.vm)

/-- The little-endian number that `n` bytes give. -/
def littleEndian (b : Nat → Byte) (n : Nat) : Word64 := BitVec.ofNat 64 (∑ k ∈ Finset.range n, (b k).toNat * 256 ^ k)
/-- The big-endian number that `n` bytes give. -/
def bigEndian (b : Nat → Byte) (n : Nat) : Word64 := BitVec.ofNat 64 (∑ k ∈ Finset.range n, (b k).toNat * 256 ^ (n - 1 - k))

/-- No call of the row engines waits, and none of their operations runs. -/
abbrev RowsIdle (s : State) : Prop :=
  s.crypto.cipherQueue = [] ∧ s.crypto.hashQueue = [] ∧ s.crypto.rows.wf noRow = true ∧ ∀ p ∈ s.crypto.rows, p.2.run = none ∧ p.2.laneA = none ∧ p.2.laneB = none

/-- No request of the public-key pool waits, and none of its engines runs one. -/
abbrev PoolIdle (s : State) : Prop := s.crypto.pke.queue = [] ∧ s.crypto.pke.engines.wf noPke = true ∧ ∀ p ∈ s.crypto.pke.engines, p.2.run = none

/-- Every crate that takes objects has room for the largest, or keeps room for a reservation. -/
abbrev RoomLeft (s : State) : Prop := ∀ c ∈ s.flash.crates, c.takes = true → c.reservedSlots ≠ 0 ∨ closeSlots ≤ c.room 1

/-- A call of a row cipher engine that closes no context is taken up at once: engine `eng` takes it and has what it needs. -/
abbrev CipherTaken (s : State) (m : CipherMode) (r : CipherReq) (eng : Nat) : Prop :=
  Runs s ∧ RowsIdle s ∧ unitLevel r.row = some 2 ∧ r.data.length ≤ 65536 ∧ r.close = false ∧ s.cipherEngine r = some eng ∧
    s.cipherMay eng { mode := m, req := r, cls := s.callClass r.owner } = true

/-- The call brings a whole message, with its lengths stated, under the key that its engine holds or loads for it; no context of the caller is open for it. -/
abbrev WholeMessage (s : State) (r : CipherReq) (eng : Nat) (key : Bytes) : Prop :=
  r.more = false ∧ r.aadAt = 0 ∧ r.aadLen = r.aad.length ∧ r.dataLen = r.data.length ∧ (s.rowEng eng).cipherCtx r = none ∧
    s.cipherKey (s.rowEng eng) r = some (KeySlot.of r.key key)

/-- The IV and the lengths of a whole message are those of the table of R202. -/
def TableLengths (m : CipherMode) (r : CipherReq) : Prop :=
  r.data.length ≤ 16777216 ∧
  match m with
  | .gcm => r.iv.length = 12 ∧ r.aad.length ≤ 65536
  | .ctr => r.iv.length = 16
  | .cbc => r.iv.length = 16 ∧ (r.encrypt = false → 16 ≤ r.data.length ∧ r.data.length % 16 = 0)
  | .cmac => True
  | .xts => r.iv.length = 16 ∧ 16 ≤ r.data.length
  | .ecb => r.data.length % 16 = 0

/-- The key lengths of the table of R202, XTS with its two keys one after the other. -/
def TableKey (m : CipherMode) (n : Nat) : Prop := if m = .xts then n = 32 ∨ n = 64 else n = 16 ∨ n = 24 ∨ n = 32

/-- The commands of the row cipher engine, each with its mode. -/
def CipherCommand (c : Instr) (m : CipherMode) (r : CipherReq) : Prop :=
  (c, m) ∈ [(.gcm r, .gcm), (.ctr r, .ctr), (.cbc r, .cbc), (.cmac r, .cmac), (.xts r, .xts), (.ecb r, .ecb)]

/-- The call is taken up by engine `eng`, which runs it with this status and this output once its time has passed; the engines, their queues, the credits of the arbitration and the clock
of the row are all that change. -/
def CipherRuns (c : Instr) (s : State) (r : CipherReq) (eng : Nat) (st : EngStatus) (out : Bytes) : Prop :=
  ∃ u x, exec c s = .next u ∧ (u.rowEng eng).run = some x ∧ x.call.req = r ∧ x.status = st ∧ x.out = out ∧ x.after = none ∧ s.now ≤ x.ready ∧ u.crypto.cipherQueue = [] ∧
    u = { s with crypto := u.crypto, classes := { s.classes with drr := u.classes.drr }, power := { s.power with rowsGated := s.power.rowsGated.filter (· != eng) } }

/-- A call of a row hash engine for a whole message is taken up at once by engine `eng`. -/
abbrev HashTaken (s : State) (a : HashAlg) (key : Option KeySrc) (r : HashReq) (eng : Nat) : Prop :=
  Runs s ∧ RowsIdle s ∧ unitLevel r.row = some 2 ∧ r.data.length ≤ 65536 ∧ r.close = false ∧ r.more = false ∧ s.hashEngine r = some eng ∧
    (s.rowEng eng).hashCtx r = none ∧ s.hashMay eng { alg := a, key := key, req := r, cls := s.callClass r.owner } = true

/-- The call is taken up by lane A of engine `eng`, which yields this digest once its time has passed; nothing changes but what a cipher call changes. -/
def HashRuns (c : Instr) (s : State) (r : HashReq) (eng : Nat) (out : Bytes) : Prop :=
  ∃ u x, exec c s = .next u ∧ (u.rowEng eng).laneA = some x ∧ x.call.req = r ∧ x.status = .ok ∧ x.out = out ∧ x.after = none ∧ s.now ≤ x.ready ∧ u.crypto.hashQueue = [] ∧
    u = { s with crypto := u.crypto, classes := { s.classes with drr := u.classes.drr }, power := { s.power with rowsGated := s.power.rowsGated.filter (· != eng) } }

/-- The newest answer of the cipher engines is this one. -/
abbrev CipherAnswers (u : State) (d : EngDone) : Prop := u.crypto.cipherDone.getLast? = some d
/-- The newest answer of the hash engines is this one. -/
abbrev HashAnswers (u : State) (d : EngDone) : Prop := u.crypto.hashDone.getLast? = some d
/-- The newest completion of the public-key pool is this one. -/
abbrev PkeAnswers (u : State) (d : PkeDone) : Prop := u.crypto.pke.done.getLast? = some d

/-- A request that its requester may make finds nothing waiting or running in the pool and engine `e` free for it, and its private input is there where it takes one. A ROM key is
the self-test's. -/
abbrev PkeReady (s : State) (q : Requester) (op : Nat) (r : PkeReq) (e : Nat) (key : Bytes) : Prop :=
  Runs s ∧ PoolIdle s ∧ s.crypto.pke.deferred = [] ∧
    requesterOf r.owner = some q ∧ q.uses op = true ∧ (∀ b, r.key = .rom b → requesterOf r.owner = some .selfTest) ∧
    s.pkeEngine { op := op, req := r, cls := s.pkeClass q op r } = some e ∧ (if opKeyed op then s.pkeKey r.key = some key else key = [])

/-- The pool has an engine for every operation that a command of this class runs on it. -/
abbrev PoolServes (s : State) (cls : Fin 4) : Prop := Runs s ∧ ∀ short, (s.poolEngine cls short []).isSome = true

/-- The ticket that the command names is in the device, admitted, and carries the opcode; the fabric runs (R425). -/
abbrev Admitted (s : State) (a : TkArg) (op : Nat) (t : Tk) : Prop := s.power.pllSwitching = false ∧ s.tk? a.id = some t ∧ t.stage = .admitted ∧ t.tk.opcode = op

/-- Its object is there: the port reads host memory, and the reads delivered what DATA describes. -/
abbrev Carries (s : State) (t : Tk) (o : ObjRead) (b : Bytes) : Prop := s.masters t = true ∧ objectOf t.tk o = some b ∧ o.basket ≠ .err ∧ o.data ≠ .err

/-- Its destination can be written: the port may master writes, and DATA describes the extents. -/
abbrev Delivers (s : State) (t : Tk) (o : ObjRead) (es : List Extent) : Prop :=
  t.tk.extents o.basket = some es ∧ o.basket ≠ .err ∧ (s.port (s.ring t.ring).port.val).bme = true ∧ (s.port (s.ring t.ring).port.val).d3hot = false

/-- A flash target takes commands: it is present and in service, nothing pauses its domain, and its group's clock runs. -/
abbrev TakesCommands (s : State) (t : Nat) : Prop := Runs s ∧ s.answers t = true ∧ s.power.groupGated.getLsbD (t / 128) = false

/-- The command turns the target into `x` and changes nothing else; VOLUME SELECT goes before it where the target's CE pin carries more volumes (R255). -/
def SetsTarget (c : Instr) (s : State) (t : Nat) (x : Target) : Prop := exec c s = .next ((s.selectVolume t).setTarget t x)

/-- A LUN of a target can take an operation up at once: none of its own is in flight, nothing waits at the target, and no erase there is suspended. -/
abbrev LunFree (s : State) (t lun : Nat) : Prop :=
  TakesCommands s t ∧ s.flash.targets.wf noTarget = true ∧ (s.target t).work = none ∧ (s.target t).queue = [] ∧ ∀ e ∈ (s.target t).ops, e.lun ≠ lun ∧ e.suspended = false

/-- The command starts an operation on a LUN of a target, with its timeout running; a read has the LUN's read levels applied first (R260, R264). -/
def Starts (c : Instr) (s : State) (t : Nat) (o : LunOp) : Prop :=
  ∃ u v, exec c s = .next u ∧ OnlyArray s u ∧ v = (if o.kind = .read then s.applyLevels t o.lun else s).target t ∧
    u.target t = { v with ops := (s.target t).ops ++ [{ o with deadline := s.now + o.kind.timeout }] } ∧ ∀ k, k ≠ t → u.target k = s.target k

/-- No operation waits at a flash target, no erase is suspended, no target has other work before it, and no timeout waits to be acted on. -/
abbrev FlashIdle (s : State) : Prop :=
  s.flash.overdue = [] ∧ s.flash.targets.wf noTarget = true ∧ ∀ p ∈ s.flash.targets, p.2.queue = [] ∧ p.2.work = none ∧ ∀ e ∈ p.2.ops, e.suspended = false

/-- The one operation in flight on a target is this one, of this LUN, and nothing waits there. -/
abbrev OneOp (s : State) (t lun : Nat) (o : LunOp) : Prop :=
  TakesCommands s t ∧ s.flash.targets.wf noTarget = true ∧ (s.target t).work = none ∧ (s.target t).queue = [] ∧ (s.target t).ops = [o] ∧ o.lun = lun ∧ o.asked = false

end Sys2Proof.Safety
end

