-- ==== Sys2Proof/Certificates/Slice0/Obligations.lean ====
section
/-! DEFINITION. The statements about the BX512 model. -/

open Sys2Proof Sys2Proof.Machine Sys2Proof.Safety

/-- A step with a command at the front of the queue is exec of it with the queue's rest. -/
def Obligations.StepRunsFront : Prop :=
  ∀ (c : Instr) (rest : List Instr) (s : State), s.pending = c :: rest → step s = exec c { s with pending := rest }

/-- With no command waiting, no operation of an engine in progress or waiting, no vault image due and no crate to close, a step is one count of secure time and nothing else; a block with no supply does not
count (the model's idle step, log 1). -/
def Obligations.IdleStepCounts : Prop :=
  ∀ s : State, Idle s → RowsIdle s → PoolIdle s → s.vault.imageDue = false → RoomLeft s →
    step s = .next (if s.power.mode = .off ∧ s.power.pwrOk = false then s else { s with ledger := { s.ledger with rtc := s.ledger.rtc + 1 } })

/-- First in, first out: every step that goes on takes exactly the front command off the queue, for every command: no command is lost, added or reordered. -/
def Obligations.QueueFirstInFirstOut : Prop :=
  ∀ s t : State, step s = .next t → t.pending = s.pending.tail

/-- R182, forms R and I of opcodes 0x01 to 0x19: rd takes the stated value of ra, rb and the immediate, and the pc moves on after the stated cycles. -/
def Obligations.OtnakRegisterForms : Prop :=
  ∀ (w : Nat) (rd ra rb : Fin 16) (imm : BitVec 16) (n : Fin 64),
    Turns (.oAdd w rd ra rb) w (fun v => (v.put rd (v.get ra + v.get rb)).next 1) ∧
    Turns (.oSub w rd ra rb) w (fun v => (v.put rd (v.get ra - v.get rb)).next 1) ∧
    Turns (.oAnd w rd ra rb) w (fun v => (v.put rd (v.get ra &&& v.get rb)).next 1) ∧
    Turns (.oOr w rd ra rb) w (fun v => (v.put rd (v.get ra ||| v.get rb)).next 1) ∧
    Turns (.oXor w rd ra rb) w (fun v => (v.put rd (v.get ra ^^^ v.get rb)).next 1) ∧
    Turns (.oShl w rd ra rb) w (fun v => (v.put rd (v.get ra <<< ((v.get rb).toNat % 64))).next 1) ∧
    Turns (.oShr w rd ra rb) w (fun v => (v.put rd (v.get ra >>> ((v.get rb).toNat % 64))).next 1) ∧
    Turns (.oSar w rd ra rb) w (fun v => (v.put rd ((v.get ra).sshiftRight ((v.get rb).toNat % 64))).next 1) ∧
    Turns (.oMul w rd ra rb) w (fun v => (v.put rd (BitVec.ofNat 64 ((v.get ra).toNat * (v.get rb).toNat))).next 3) ∧
    Turns (.oMinu w rd ra rb) w (fun v => (v.put rd (BitVec.ofNat 64 (min (v.get ra).toNat (v.get rb).toNat))).next 1) ∧
    Turns (.oMaxu w rd ra rb) w (fun v => (v.put rd (BitVec.ofNat 64 (max (v.get ra).toNat (v.get rb).toNat))).next 1) ∧
    Turns (.oSltu w rd ra rb) w (fun v => (v.put rd (if v.get ra < v.get rb then 1 else 0)).next 1) ∧
    Turns (.oBswap w rd ra) w (fun v => (v.put rd (bigEndian (fun k => (v.get ra).extractLsb' (8 * k) 8) 8)).next 1) ∧
    Turns (.oAddi w rd ra imm) w (fun v => (v.put rd (v.get ra + imm.signExtend 64)).next 1) ∧
    Turns (.oAndi w rd ra imm) w (fun v => (v.put rd (v.get ra &&& imm.zeroExtend 64)).next 1) ∧
    Turns (.oOri w rd ra imm) w (fun v => (v.put rd (v.get ra ||| imm.zeroExtend 64)).next 1) ∧
    Turns (.oXori w rd ra imm) w (fun v => (v.put rd (v.get ra ^^^ imm.zeroExtend 64)).next 1) ∧
    Turns (.oShli w rd ra n) w (fun v => (v.put rd (v.get ra <<< n.val)).next 1) ∧
    Turns (.oShri w rd ra n) w (fun v => (v.put rd (v.get ra >>> n.val)).next 1) ∧
    Turns (.oLdi w rd imm) w (fun v => (v.put rd (imm.zeroExtend 64)).next 1) ∧
    Turns (.oLdh1 w rd ra imm) w (fun v => (v.put rd ((v.get ra).extractLsb' 32 32 ++ imm ++ (v.get ra).extractLsb' 0 16)).next 1) ∧
    Turns (.oLdh2 w rd ra imm) w (fun v => (v.put rd ((v.get ra).extractLsb' 48 16 ++ imm ++ (v.get ra).extractLsb' 0 32)).next 1) ∧
    Turns (.oLdh3 w rd ra imm) w (fun v => (v.put rd (imm ++ (v.get ra).extractLsb' 0 48)).next 1)

/-- R182, the reads: rd takes bytes of slot memory, of the input or of the query parameters, a host mark, a state word or an item-information value.
R182, the stores: the low bytes of rd go to slot memory, wrapping byte by byte at 16,384, every other byte of slot memory reads as before, and STS changes one state word. -/
def Obligations.OtnakMemory : Prop :=
  (∀ (w : Nat) (rd ra : Fin 16) (imm : BitVec 16) (k : Fin 8) (j : Fin 12),
    Turns (.oLd8 w rd ra imm) w (fun v => (v.put rd (littleEndian (fun i => v.slotByte ((v.get ra + imm.zeroExtend 64).toNat + i)) 1)).next 2) ∧
    Turns (.oLd16 w rd ra imm) w (fun v => (v.put rd (littleEndian (fun i => v.slotByte ((v.get ra + imm.zeroExtend 64).toNat + i)) 2)).next 2) ∧
    Turns (.oLd32 w rd ra imm) w (fun v => (v.put rd (littleEndian (fun i => v.slotByte ((v.get ra + imm.zeroExtend 64).toNat + i)) 4)).next 2) ∧
    Turns (.oLd64 w rd ra imm) w (fun v => (v.put rd (littleEndian (fun i => v.slotByte ((v.get ra + imm.zeroExtend 64).toNat + i)) 8)).next 2) ∧
    Turns (.oIn8 w rd ra imm) w (fun v => (v.put rd (bigEndian (fun i => v.inByte ((v.get ra + imm.zeroExtend 64).toNat + i)) 1)).next 4) ∧
    Turns (.oIn16b w rd ra imm) w (fun v => (v.put rd (bigEndian (fun i => v.inByte ((v.get ra + imm.zeroExtend 64).toNat + i)) 2)).next 4) ∧
    Turns (.oIn32b w rd ra imm) w (fun v => (v.put rd (bigEndian (fun i => v.inByte ((v.get ra + imm.zeroExtend 64).toNat + i)) 4)).next 4) ∧
    Turns (.oIn32l w rd ra imm) w (fun v => (v.put rd (littleEndian (fun i => v.inByte ((v.get ra + imm.zeroExtend 64).toNat + i)) 4)).next 4) ∧
    Turns (.oHmark w rd ra imm) w (fun v => (v.put rd (match v.hostMarks[(v.get ra + imm.zeroExtend 64).toNat]? with
      | some m => BitVec.ofNat 64 m | none => 0xFFFFFFFFFFFFFFFF)).next 2) ∧
    Turns (.oQld64 w rd ra imm) w (fun v => (v.put rd (littleEndian (fun i => v.query.getD (((v.get ra + imm.zeroExtend 64).toNat + i) % 2 ^ 64) 0) 8)).next 4) ∧
    Turns (.oLds w rd k) w (fun v => (v.put rd v.words[k]).next 2) ∧
    Turns (.oInfo w rd j) w (fun v => (v.put rd v.info[j]).next 2)) ∧
  ((∀ (w : Nat) (rd : Fin 16) (k : Fin 8), Turns (.oSts w rd k) w (fun v => ({ v with words := v.words.set k (v.get rd) } : Vm).next 2)) ∧
  ∀ (w : Nat) (rd ra : Fin 16) (imm : BitVec 16) (c : Instr) (n : Nat),
    (c, n) ∈ [(.oSt8 w rd ra imm, 1), (.oSt16 w rd ra imm, 2), (.oSt32 w rd ra imm, 4), (.oSt64 w rd ra imm, 8)] →
    ∀ s i t, Running s w i t → i.vm.slot.wf zeroByte = true → i.vm.loops = [] → (∀ a, t.applet = some a → i.vm.pc + 1 < a.code.length) →
      ∃ u m, exec c s = .next u ∧ OnlyItems s u ∧ u.units.items = itemsWith (onItsCores s i w) w { i.vm with slot := m, pc := i.vm.pc + 1, cycles := i.vm.cycles + 2 } ∧
        m.wf zeroByte = true ∧
        (∀ k, k < n → (m.get zeroByte (((i.vm.get ra + imm.zeroExtend 64).toNat + k) % 16384)) = (i.vm.get rd).extractLsb' (8 * k) 8) ∧
        (∀ a, (∀ k, k < n → a ≠ ((i.vm.get ra + imm.zeroExtend 64).toNat + k) % 16384) → m.get zeroByte a = i.vm.slot.get zeroByte a))

/-- R182 and R184, FIND, HASHM and the emissions: what they write, record or emit, and how they move on. HASHM waits where no hash engine can serve the stall's row (R212). -/
def Obligations.OtnakEmits : Prop :=
  ∀ (w : Nat) (rd ra rb : Fin 16) (imm : BitVec 16) (p k : Nat),
    (∀ s i t a, 1 ≤ p → p ≤ 4 → 6 ≤ k → k ≤ 10 → (i.vm.get ra).toNat ≤ a → a + p ≤ (i.vm.get ra).toNat + 2 ^ k →
      i.vm.inBytes a p = beBytes p (i.vm.get rb).toNat → (∀ b, (i.vm.get ra).toNat ≤ b → b < a → i.vm.inBytes b p ≠ beBytes p (i.vm.get rb).toNat) →
      TurnsTo (.oFind w rd ra rb p k) w s i t ((i.vm.put rd (BitVec.ofNat 64 a)).next (8 + 2 ^ (k - 4)))) ∧
    (∀ s i t, 1 ≤ p → p ≤ 4 → 6 ≤ k → k ≤ 10 →
      (∀ b, (i.vm.get ra).toNat ≤ b → b + p ≤ (i.vm.get ra).toNat + 2 ^ k → i.vm.inBytes b p ≠ beBytes p (i.vm.get rb).toNat) →
      TurnsTo (.oFind w rd ra rb p k) w s i t ((i.vm.put rd 0xFFFFFFFFFFFFFFFF).next (8 + 2 ^ (k - 4)))) ∧
    (∀ s i t, (s.serving hashAddr (rowNo i.unit)).isSome = true →
      TurnsTo (.oHashm w ra rb imm) w s i t ((i.vm.setSlot imm.toNat (sha384 (i.vm.slotBytes (i.vm.get ra).toNat (min (i.vm.get rb).toNat 16384)))).next 300)) ∧
    (∀ s i t, Running s w i t → s.serving hashAddr (rowNo i.unit) = none → exec (.oHashm w ra rb imm) s = .next s) ∧
    (∀ s i t l, i.vm.search = false → i.vm.marksFromHost = false → i.vm.marks.getLast? = some l → l < (i.vm.get ra).toNat →
      (i.vm.get ra).toNat < i.vm.input.length → i.vm.marks.length < 65535 →
      TurnsTo (.oEmark w ra) w s i t (({ i.vm with marks := i.vm.marks ++ [(i.vm.get ra).toNat] } : Vm).next 4)) ∧
    (∀ s i t, i.vm.search = false → i.vm.marksFromHost = false → i.vm.marks = [] → (i.vm.get ra).toNat < i.vm.input.length →
      TurnsTo (.oEmark w ra) w s i t (({ i.vm with marks := if i.vm.get ra = 0 then [0] else [0, (i.vm.get ra).toNat] } : Vm).next 4)) ∧
    (∀ s i t, (i.vm.search = true ∨ i.vm.marksFromHost = true ∨ i.vm.input.length ≤ (i.vm.get ra).toNat ∨
        ∃ l, i.vm.marks.getLast? = some l ∧ ((i.vm.get ra).toNat ≤ l ∨ 65535 ≤ i.vm.marks.length)) → TurnsTo (.oEmark w ra) w s i t (i.vm.next 4)) ∧
    (∀ s i t, (i.vm.search = true ∨ 1024 ≤ i.vm.index.length) → TurnsTo (.oEindex w ra rb imm) w s i t (i.vm.next 8)) ∧
    (∀ s i t, (i.vm.search = false ∨ i.vm.maxMatches ≤ i.vm.matchRecs.length) → TurnsTo (.oEmatch w ra rb) w s i t (i.vm.next 8)) ∧
    (∀ s i t, i.vm.search = false → i.vm.index.length < 1024 →
      TurnsTo (.oEindex w ra rb imm) w s i t
        (({ i.vm with index := i.vm.index ++ [{ kind := imm.toNat, frame := (i.vm.get rb).toNat % 2 ^ 32, value := i.vm.slotBytes (i.vm.get ra).toNat 32 }] } : Vm).next 8)) ∧
    (∀ s i t, i.vm.search = true → i.vm.matchRecs.length < i.vm.maxMatches →
      TurnsTo (.oEmatch w ra rb) w s i t
        (({ i.vm with matchRecs := i.vm.matchRecs ++ [{ frame := i.vm.get rb, payload := i.vm.slotBytes (i.vm.get ra).toNat 32 }] } : Vm).next 8))

/-- R182, branches and loops: a branch whose condition holds moves the pc by its distance, LOOP and LOOPB push a loop frame, LEAVE continues at the body end, where an enclosing loop's next iteration may begin.
R112, R175 and R182: END and REFUSE end the item's program. Within its worst case, and with a cipher and a hash engine to serve its row, an item that has no camera signature to verify leaves its
stall: its ticket stands ready for the till with a result and holds no work slot. Without an engine, or past its worst case, the ended item stays on its stall. -/
def Obligations.OtnakControl : Prop :=
  (∀ (w : Nat) (ra rb : Fin 16) (off n len : BitVec 12),
     Turns (.oBeq w ra rb off) w (fun v => if v.get ra = v.get rb then v.jump off.toNat else v.next 1) ∧
     Turns (.oBne w ra rb off) w (fun v => if v.get ra = v.get rb then v.next 1 else v.jump off.toNat) ∧
     Turns (.oBltu w ra rb off) w (fun v => if v.get ra < v.get rb then v.jump off.toNat else v.next 1) ∧
     Turns (.oBgeu w ra rb off) w (fun v => if v.get ra < v.get rb then v.next 1 else v.jump off.toNat) ∧
     Turns (.oBlt w ra rb off) w (fun v => if (v.get ra).slt (v.get rb) then v.jump off.toNat else v.next 1) ∧
     Turns (.oBge w ra rb off) w (fun v => if (v.get ra).slt (v.get rb) then v.next 1 else v.jump off.toNat) ∧
     Turns (.oJmp w off) w (fun v => v.jump off.toNat) ∧
     (n ≠ 0 → Turns (.oLoop w n len) w (fun v => { v with
       pc := v.pc + 1, cycles := v.cycles + 2, loops := { start := v.pc + 1, len := len.toNat, left := n.toNat - 1, iter := 1, step := none } :: v.loops })) ∧
     (∀ s i t k, 6 ≤ n.toNat → n.toNat ≤ 10 → 0 < k → (k - 1) * 2 ^ n.toNat < i.vm.input.length → i.vm.input.length ≤ k * 2 ^ n.toNat →
       TurnsTo (.oLoopb w n len) w s i t { i.vm with
         pc := i.vm.pc + 1, cycles := i.vm.cycles + 2, regs := i.vm.regs.set 15 0
         loops := { start := i.vm.pc + 1, len := len.toNat, left := k - 1, iter := 1, step := some n.toNat } :: i.vm.loops }) ∧
     (∀ s i t f r, i.vm.loops = f :: r →
       TurnsTo (.oLeave w) w s i t ({ i.vm with pc := f.start + f.len, cycles := i.vm.cycles + 1, loops := r } : Vm).land)) ∧
  (∀ (w : Nat) (code : BitVec 16) (c : Instr) (e : ItemEnd), (c, e) ∈ [(.oEnd w, .ended), (.oRefuse w code, .refused code.toNat)] →
     ∀ s i t v, Running s w i t → v = ({ i.vm with cycles := i.vm.cycles + 1, ended := e } : Vm) →
       (v.cycles ≤ v.worst → (s.serving cipherAddr (rowNo i.unit)).isSome = true → (s.serving hashAddr (rowNo i.unit)).isSome = true → t.verifies (some v) = none →
         ∃ u t', exec c s = .next u ∧ (∀ x ∈ u.units.items, x.ticket ≠ w) ∧ u.tk? w = some t' ∧ t'.stage = .ready ∧ t'.stall = none ∧ t'.epoch = some i.epoch ∧ t'.result.isSome = true ∧
           u.tabs = s.tabs ∧ u.vault = s.vault) ∧
       (v.worst < v.cycles ∨ s.serving cipherAddr (rowNo i.unit) = none ∨ s.serving hashAddr (rowNo i.unit) = none →
         ∃ u, exec c s = .next u ∧ OnlyItems s u ∧ u.units.items = itemsWith (onItsCores s i w) w v))

/-- R180: v0 reads 0 and discards writes, and a write of another register is read back and changes no other register.
R182: where the pc stands after an instruction: one on, or at the start of the innermost body for its next iteration, with v15 set anew for LOOPB, or past the body once its iterations are done. -/
def Obligations.OtnakMachine : Prop :=
  (∀ (v : Vm) (r q : Fin 16) (x : Word64),
    v.get 0 = 0 ∧ v.put 0 x = v ∧ (r ≠ 0 → (v.put r x).get r = x) ∧ (q ≠ r → (v.put r x).get q = v.get q)) ∧
  (∀ (v : Vm) (c off : Nat),
    v.next c = ({ v with pc := v.pc + 1, cycles := v.cycles + c } : Vm).land ∧ v.jump off = ({ v with pc := v.pc + off, cycles := v.cycles + 1 } : Vm).land ∧
    (v.loops = [] → v.land = v) ∧
    (∀ f r, v.loops = f :: r → v.pc ≠ f.start + f.len → v.land = v) ∧
    (∀ f r, v.loops = f :: r → v.pc = f.start + f.len → 0 < f.left → f.step = none →
      v.land = { v with pc := f.start, cycles := v.cycles + 1, loops := { f with left := f.left - 1, iter := f.iter + 1 } :: r }) ∧
    (∀ f r k, v.loops = f :: r → v.pc = f.start + f.len → 0 < f.left → f.step = some k →
      v.land = { v with pc := f.start, cycles := v.cycles + 1, regs := v.regs.set 15 (BitVec.ofNat 64 (2 ^ k * f.iter)), loops := { f with left := f.left - 1, iter := f.iter + 1 } :: r }) ∧
    (∀ f r, v.loops = f :: r → v.pc = f.start + f.len → f.left = 0 → v.land = ({ v with loops := r } : Vm).land))

/-- R181 and R182: the interpreter reads the encoded word of a form R, I or B instruction as the command of that mnemonic acts. -/
def Obligations.OtnakEncodings : Prop :=
  ∀ (v : Vm) (rd ra rb : Fin 16) (imm : BitVec 16) (off : BitVec 12),
    v.run (otnOf ((0x01 : BitVec 8) ++ BitVec.ofNat 4 rd.val ++ BitVec.ofNat 4 ra.val ++ BitVec.ofNat 4 rb.val ++ (0 : BitVec 12))) = (v.put rd (v.get ra + v.get rb)).next 1 ∧
    v.run (otnOf ((0x09 : BitVec 8) ++ BitVec.ofNat 4 rd.val ++ BitVec.ofNat 4 ra.val ++ BitVec.ofNat 4 rb.val ++ (0 : BitVec 12))) = (v.put rd (v.get ra * v.get rb)).next 3 ∧
    v.run (otnOf ((0x10 : BitVec 8) ++ BitVec.ofNat 4 rd.val ++ BitVec.ofNat 4 ra.val ++ imm)) = (v.put rd (v.get ra + imm.signExtend 64)).next 1 ∧
    v.run (otnOf ((0x16 : BitVec 8) ++ BitVec.ofNat 4 rd.val ++ (0 : BitVec 4) ++ imm)) = (v.put rd (imm.zeroExtend 64)).next 1 ∧
    v.run (otnOf ((0x20 : BitVec 8) ++ BitVec.ofNat 4 rd.val ++ BitVec.ofNat 4 ra.val ++ imm)) =
      (v.put rd ((v.slotByte (v.get ra + imm.zeroExtend 64).toNat).zeroExtend 64)).next 2 ∧
    v.run (otnOf ((0x40 : BitVec 8) ++ BitVec.ofNat 4 ra.val ++ BitVec.ofNat 4 rb.val ++ (0 : BitVec 4) ++ off)) =
      (if v.get ra = v.get rb then v.jump off.toNat else v.next 1) ∧
    v.run (otnOf (0x4F000000 : BitVec 32)) = { v with cycles := v.cycles + 1, ended := .ended }

/-- R204 and R205: a GCM decryption whose tag differs or is not given, a CMAC comparison that differs and a CBC decryption whose padding is bad release no output: their operations end with TAG_FAIL and
PAD_FAIL and an empty output. -/
def Obligations.CipherReleasesNothing : Prop :=
  ∀ (r : CipherReq) (s : State) (eng : Nat) (key : Bytes), WholeMessage s r eng key →
    (CipherTaken s .gcm r eng → r.encrypt = false → TableKey .gcm key.length → TableLengths .gcm r → (∀ tag, r.tag = some tag → tag = [] ∨ (gcmTag (roundKeys key) r.iv r.aad r.data).take tag.length ≠ tag) →
      CipherRuns (.gcm r) s r eng .tagFail []) ∧
    (∀ tag, CipherTaken s .cmac r eng → TableKey .cmac key.length → r.tag = some tag → (aesCmac key r.data).take tag.length ≠ tag → CipherRuns (.cmac r) s r eng .tagFail []) ∧
    (CipherTaken s .cbc r eng → r.encrypt = false → TableKey .cbc key.length → TableLengths .cbc r → aesCbcDec key r.iv r.data = none → CipherRuns (.cbc r) s r eng .padFail [])

/-- R203: ECB outside the self-test path is refused with MODE_REFUSED, whatever the key and the data, and so is XTS with 192-bit keys. A whole message whose IV or lengths are outside the table of R202 is
answered LENGTH, in every mode; among them an IV that is not 96 bits in GCM and an XTS data unit under 16 bytes. A refusal releases no output. -/
def Obligations.CipherRefuses : Prop :=
  ∀ (r : CipherReq) (s : State) (eng : Nat),
    (CipherTaken s .ecb r eng → r.selfTest = false → CipherRuns (.ecb r) s r eng .modeRefused []) ∧
    (∀ k, CipherTaken s .xts r eng → s.cipherKey (s.rowEng eng) r = some k → k.key.length = 48 → CipherRuns (.xts r) s r eng .modeRefused []) ∧
    (∀ (c : Instr) (m : CipherMode) (key : Bytes), CipherCommand c m r → CipherTaken s m r eng → WholeMessage s r eng key → TableKey m key.length → (m = .ecb → r.selfTest = true) →
      ¬ TableLengths m r → CipherRuns c s r eng .length [])

/-- R199, R202 and R203: a whole-message encryption, or a CMAC, whose engine takes it up yields the mode's output; a GCM decryption whose tag agrees, and a CTR, CBC, XTS or ECB decryption, yields the plaintext.
R214: a whole-message hash or HMAC yields the digest. What is yielded is answered once the operation's time has passed, and not before; the time itself is the model's (log 110). -/
def Obligations.EnginesAnswer : Prop :=
  (∀ (r : CipherReq) (s : State) (eng : Nat) (key : Bytes) (c : Instr) (m : CipherMode) (out : Bytes), CipherTaken s m r eng → WholeMessage s r eng key → TableKey m key.length → TableLengths m r →
    (m = .ecb → r.selfTest = true) →
    (r.encrypt = true → r.tag = none → (c, m, out) ∈ [(.gcm r, .gcm, aesGcmEnc key r.iv r.aad r.data), (.ctr r, .ctr, aesCtr key r.iv r.data), (.cbc r, .cbc, aesCbcEnc key r.iv r.data),
      (.cmac r, .cmac, aesCmac key r.data), (.xts r, .xts, aesXts key true r.iv r.data), (.ecb r, .ecb, aesEcb key true r.data)] → CipherRuns c s r eng .ok out) ∧
    (r.encrypt = false → (c, m, out) ∈ [(.ctr r, .ctr, aesCtr key r.iv r.data), (.xts r, .xts, aesXts key false r.iv r.data), (.ecb r, .ecb, aesEcb key false r.data)] → CipherRuns c s r eng .ok out) ∧
    (r.encrypt = false → m = .cbc → aesCbcDec key r.iv r.data = some out → CipherRuns (.cbc r) s r eng .ok out) ∧
    (r.encrypt = false → m = .gcm → (∃ tag, r.tag = some tag ∧ aesGcmDec key r.iv r.aad r.data tag = some out) → CipherRuns (.gcm r) s r eng .ok out)) ∧
  (∀ (r : HashReq) (s : State) (eng : Nat),
    (∀ (c : Instr) (a : HashAlg) (out : Bytes), HashTaken s a none r eng → (c, a, out) ∈ [(.sha256 r, .sha256, sha256 r.data), (.sha384 r, .sha384, sha384 r.data), (.sha512 r, .sha512, sha512 r.data),
      (.sha3x256 r, .sha3_256, sha3_256 r.data), (.sha3x384 r, .sha3_384, sha3_384 r.data)] → HashRuns c s r eng out) ∧
    (∀ (h : HmacAlg) (a : HashAlg) (src : KeySrc) (key out : Bytes), HashTaken s a (some src) r eng → s.hmacKey (s.rowEng eng) { alg := a, key := some src, req := r, cls := s.callClass r.owner } src = some (HmacSlot.of src a key) →
      (h, a, out) ∈ [(.sha256, .sha256, hmacSha256 key r.data), (.sha384, .sha384, hmacSha384 key r.data), (.sha512, .sha512, hmacSha512 key r.data)] → HashRuns (.hmac r h src) s r eng out)) ∧
  (∀ (s : State) (row : Nat),
    (∀ x, (s.rowEng row).run = some x → (s.now < x.ready → s.cipherEnd row = s) ∧ (x.ready ≤ s.now → x.status = .ok ∨ x.status = .tagFail ∨ x.status = .padFail →
      CipherAnswers (s.cipherEnd row) { engine := cipherAddr row, owner := x.call.req.owner, ctx := x.call.req.ctx.val, status := x.status, out := x.out })) ∧
    (∀ x, (s.rowEng row).laneA = some x → (s.now < x.ready → s.laneEnd row false = s) ∧ (x.ready ≤ s.now → x.status = .ok →
      HashAnswers (s.laneEnd row false) { engine := hashAddr row, owner := x.call.req.owner, ctx := x.call.req.ctx.val, status := .ok, out := x.out })))

/-- R220, R221, R230 to R232: a request of any operation that its requester may make and that finds a free engine runs there at once: the engine's INPUT holds its inputs, the queue is empty again, and only
the pool, the credits of the arbitration and the entropy drawn change. Once the operation's time has passed, and not before, the completion names the engine and carries the operation's status,
public result, attempts and time; a secret goes to the key bus and never stands in it; a session without KEEP is over and its memory zero. -/
def Obligations.PkeCompletes : Prop :=
  (∀ (r : PkeReq) (s : State) (c : Instr) (op e : Nat) (key : Bytes) (q : Requester) (out : PkeOut),
      (c, op) ∈ [(.ecdsaVerifyP256 r, 0x10), (.ecdsaVerifyP384 r, 0x11), (.ecdsaVerifyP521 r, 0x12), (.ecdsaSignP256 r, 0x20), (.ecdsaSignP384 r, 0x21), (.ecdsaSignP521 r, 0x22),
        (.ecdhP256 r, 0x30), (.ecdhP384 r, 0x31), (.ecdhP521 r, 0x32), (.ecKeyGenerationP256 r, 0x40), (.ecKeyGenerationP384 r, 0x41), (.ecKeyGenerationP521 r, 0x42),
        (.ed25519Verify r, 0x50), (.ed25519Sign r, 0x51), (.x25519 r, 0x60), (.x25519KeyGeneration r, 0x61), (.rsaPublic2048 r, 0x70), (.rsaPublic3072 r, 0x71), (.rsaPublic4096 r, 0x72),
        (.rsaPrivate2048 r, 0x80), (.rsaPrivate3072 r, 0x81), (.rsaPrivate4096 r, 0x82), (.mlDsa44Verify r, 0x90), (.mlDsa65Verify r, 0x91), (.mlDsa87Verify r, 0x92),
        (.mlDsa44Sign r, 0xA0), (.mlDsa65Sign r, 0xA1), (.mlDsa87Sign r, 0xA2), (.mlDsa44KeyGeneration r, 0xB0), (.mlDsa65KeyGeneration r, 0xB1), (.mlDsa87KeyGeneration r, 0xB2),
        (.mlKem768KeyGeneration r, 0xC0), (.mlKem768Encapsulation r, 0xC1), (.mlKem768Decapsulation r, 0xC2)] →
    PkeReady s q op r e key → out = pkeRun op r key (s.drawBytes 80) →
    ∃ u x, exec c s = .next u ∧ (u.pke e).run = some x ∧ x.wait.op = op ∧ x.wait.req = r ∧ x.out = out ∧ s.now ≤ x.ready ∧ (u.pke e).input = inputRegion op key r ∧ (u.pke e).result = [] ∧
      u.crypto.pke.queue = [] ∧ u = { s with crypto := u.crypto, classes := { s.classes with drr := u.classes.drr }, drawn := s.drawn + out.drawn }) ∧
  (∀ (s : State) (e : Nat) (x : PkeRun), (s.pke e).run = some x →
    (s.now < x.ready → s.pkeEnd e = s) ∧
    (x.ready ≤ s.now → x.out.fault = false → s.pkeInvalid x.wait x.out.status = false →
      PkeAnswers (s.pkeEnd e) { op := x.wait.op, owner := x.wait.req.owner, slot := x.wait.req.slot.val, ticket := x.wait.req.ticket, status := x.out.status, keyBus := x.out.secret.isSome && x.out.status == .ok
                                result := x.out.result, engine := 0x6000 + e, attempts := x.out.attempts, time := min x.out.time (2 ^ 32 - 1) } ∧
      (x.wait.req.keep = false → s.crypto.pke.engines.wf noPke = true → (s.pkeEnd e).pke e = {})))

/-- R221 and R224: what the operations answer on inputs of the lengths their encodings fix: an ECDSA verification tells whether the signature holds, an ECDH of valid inputs
gives its secret to the key bus and nothing to RESULT, and a point off the curve is BAD_POINT.
R224: a wrong length is reported before every other failure, by every operation that takes inputs, with nothing in RESULT and no secret.
R229: a device-level request of class 1 to 3 that finds the 224 shared entries taken is answered BUSY and kept for its retry; a class-0 request that finds its 32 entries taken waits without BUSY; nothing else
changes. BUSY_RETRY submits a kept request again, which then runs on an engine that is free. -/
def Obligations.PkeChecksAndRetries : Prop :=
  ((∀ (r : PkeReq) (key rand : Bytes) (op : Nat) (t : CurveTimes), (op, t) ∈ [(0x10, ct256), (0x11, ct384), (0x12, ct521)] →
     (∀ pub dig sg q, r.inputs = [pub, dig, sg] → pub.length = 2 * t.flen → 20 ≤ dig.length → dig.length ≤ 64 → sg.length = 2 * t.flen → t.c.decode pub = some q →
       (pkeRun op r [] rand).status = (if t.c.verify q dig (beNat (sg.take t.flen)) (beNat (sg.drop t.flen)) then .ok else .verifyFail) ∧ (pkeRun op r [] rand).result = []) ∧
     (∀ pub dig sg, r.inputs = [pub, dig, sg] → pub.length = 2 * t.flen → 20 ≤ dig.length → dig.length ≤ 64 → sg.length = 2 * t.flen → t.c.decode pub = none →
       (pkeRun op r [] rand).status = .badPoint ∧ (pkeRun op r [] rand).result = []) ∧
     (∀ pub, r.inputs = [pub] → pub.length = 2 * t.flen → key.length = t.flen → (beNat key = 0 ∨ t.c.n ≤ beNat key) →
       (pkeRun (op + 0x20) r key rand).status = .badScalar ∧ (pkeRun (op + 0x20) r key rand).secret = none) ∧
     (∀ pub q, r.inputs = [pub] → pub.length = 2 * t.flen → key.length = t.flen → 0 < beNat key → beNat key < t.c.n → t.c.decode pub = some q →
       (pkeRun (op + 0x20) r key rand).status = .ok ∧ (pkeRun (op + 0x20) r key rand).result = [] ∧
         (pkeRun (op + 0x20) r key rand).secret = some ((t.c.encode (t.c.mul (beNat key) (some q))).take t.flen))) ∧
   (∀ (r : PkeReq) (key rand : Bytes) (op : Nat),
     op ∈ [0x10, 0x11, 0x12, 0x20, 0x21, 0x22, 0x30, 0x31, 0x32, 0x50, 0x60, 0x70, 0x71, 0x72, 0x80, 0x81, 0x82, 0x90, 0x91, 0x92, 0xA0, 0xA1, 0xA2, 0xC1, 0xC2] →
     r.inputs = [] → (pkeRun op r key rand).status = .badLength ∧ (pkeRun op r key rand).result = [] ∧ (pkeRun op r key rand).secret = none)) ∧
  ((∀ (r : PkeReq) (s : State) (q : Requester), requesterOf r.owner = some q → r.owner / 4096 ≠ 3 → (∀ b, r.key = .rom b → requesterOf r.owner = some .selfTest) →
     (q.uses 0x10 = true → s.pkeClass q 0x10 r ≠ 0 → 224 ≤ s.deviceWaits false →
       ∃ u, exec (.ecdsaVerifyP256 r) s = .next u ∧ OnlyCrypto s u ∧ PkeAnswers u { op := 0x10, owner := r.owner, slot := r.slot.val, ticket := r.ticket, status := .busy } ∧
         u.crypto.pke.queue = s.crypto.pke.queue ∧ u.crypto.pke.engines = s.crypto.pke.engines ∧ u.crypto.pke.deferred = s.crypto.pke.deferred ++ [{ op := 0x10, req := r, cls := s.pkeClass q 0x10 r }]) ∧
     (q.uses 0x21 = true → s.pkeClass q 0x21 r = 0 → 32 ≤ s.deviceWaits true →
       exec (.ecdsaSignP384 r) s = .next { s with crypto := { s.crypto with pke := { s.crypto.pke with deferred := s.crypto.pke.deferred ++ [{ op := 0x21, req := r, cls := 0 }] } } })) ∧
   (∀ (w : PkeWait) (s s0 : State) (e : Nat) (key : Bytes) (q : Requester), s.crypto.pke.deferred = [w] → s0 = { s with crypto := { s.crypto with pke := { s.crypto.pke with deferred := [] } } } →
     PkeReady s0 q w.op w.req e key → w.cls = s0.pkeClass q w.op w.req →
     ∃ u x, exec .busyRetry s = .next u ∧ u.crypto.pke.deferred = [] ∧ u.crypto.pke.queue = [] ∧ (u.pke e).run = some x ∧ x.wait = w ∧ x.out = pkeRun w.op w.req key (s.drawBytes 80)))

/-- R37 to R39: a bell of a live ring pair through its own port takes a new value inside the ring; CQ_HEAD releases the receipts it passes; a repeated SQ_TAIL value has no effect. Only that ring-table entry
changes. R38 and R39: a new SQ_TAIL outside the ring puts a live ring pair in ERROR with BELL_RANGE, a CQ_HEAD outside it, or one that passes receipts not posted, with CQ_HEAD_RANGE; a bell of a ring pair
that is not live is only noted, and one through the other port does nothing. -/
def Obligations.RingBells : Prop :=
  ∀ (s : State) (n : Nat) (v : BitVec 32), RingsCanonical s → n < 4096 →
    ((s.ring n).live = true → v.toNat % 65536 < (s.ring n).size → v.toNat % 65536 ≠ (s.ring n).sqTail →
      ∃ u, exec (.sqTail (s.ring n).port n v) s = .next u ∧ OnlyRings s u ∧ u.ring n = { s.ring n with sqTail := v.toNat % 65536, bells := (s.ring n).bells ++ [(v.toNat % 65536, s.now)] } ∧ ∀ m, m ≠ n → u.ring m = s.ring m) ∧
    ((s.ring n).live = true → v.toNat % 65536 = (s.ring n).sqTail → exec (.sqTail (s.ring n).port n v) s = .next s) ∧
    ((s.ring n).live = true → v.toNat % 65536 < (s.ring n).size → (s.ring n).cqHead < (s.ring n).size → (v.toNat % 65536 + (s.ring n).size - (s.ring n).cqHead) % (s.ring n).size ≤ (s.ring n).unreleased →
      ∃ u, exec (.cqHead (s.ring n).port n v) s = .next u ∧ OnlyRings s u ∧
        u.ring n = { s.ring n with cqHead := v.toNat % 65536, unreleased := (s.ring n).unreleased - (v.toNat % 65536 + (s.ring n).size - (s.ring n).cqHead) % (s.ring n).size } ∧ ∀ m, m ≠ n → u.ring m = s.ring m) ∧
    ((s.ring n).live = true → (s.ring n).size ≤ v.toNat % 65536 → v.toNat % 65536 ≠ (s.ring n).sqTail →
      ∃ u, exec (.sqTail (s.ring n).port n v) s = .next u ∧ OnlyRings s u ∧ u.ring n = { s.ring n with state := .error, err := .bellRange } ∧ ∀ m, m ≠ n → u.ring m = s.ring m) ∧
    ((s.ring n).live = true → v.toNat % 65536 ≠ (s.ring n).cqHead →
      ((s.ring n).size ≤ v.toNat % 65536 ∨ (s.ring n).unreleased < (v.toNat % 65536 + (s.ring n).size - (s.ring n).cqHead) % (s.ring n).size) →
      ∃ u, exec (.cqHead (s.ring n).port n v) s = .next u ∧ OnlyRings s u ∧ u.ring n = { s.ring n with state := .error, err := .cqHeadRange } ∧ ∀ m, m ≠ n → u.ring m = s.ring m) ∧
    ((s.ring n).live = false → ∀ c ∈ [Instr.sqTail (s.ring n).port n v, .cqHead (s.ring n).port n v],
      ∃ u, exec c s = .next u ∧ OnlyRings s u ∧ u.ring n = { s.ring n with bellIgnored := true } ∧ ∀ m, m ≠ n → u.ring m = s.ring m) ∧
    (∀ p : Fin 2, p ≠ (s.ring n).port → exec (.sqTail p n v) s = .next s ∧ exec (.cqHead p n v) s = .next s)

/-- R35: ENABLE written 1 starts a DISABLED ring pair at its first slots with PHASE 1, in WAITING, or in ERROR with CFG_INVALID where SIZE_LOG2 is not 4 to 16; ENABLE written 0 makes an ACTIVE ring pair
DRAINING. A WAITING ring pair whose conditions all hold becomes ACTIVE, and takes an owned device in REST into SERVICE (R394); a DRAINING or ERROR ring pair without outstanding tickets and with ENABLE 0
becomes DISABLED and releases its tabs' ingest bindings, in REST with nothing else changed.
R35 and R81: ABORT drains its ring pair; no uncommitted ticket of the ring pair is left in the device, nor a work item of one, and the uncommitted tickets of other ring pairs stay as they were. No
life-cycle transition is under way here, and no unit or source is out for a test. -/
def Obligations.RingStates : Prop :=
  (∀ (s : State) (n : Nat), RingsCanonical s → n < 4096 →
     ((s.ring n).state = .disabled → ∃ u, exec (.enable n true) s = .next u ∧ OnlyRings s u ∧ (u.ring n).enable = true ∧ (u.ring n).sqHead = 0 ∧ (u.ring n).cqTail = 0 ∧
       (u.ring n).cqPhase = true ∧ (u.ring n).state = (if 4 ≤ (s.ring n).sizeLog2.toNat ∧ (s.ring n).sizeLog2.toNat ≤ 16 then .waiting else .error) ∧
       (u.ring n).err = (if 4 ≤ (s.ring n).sizeLog2.toNat ∧ (s.ring n).sizeLog2.toNat ≤ 16 then .none else .cfgInvalid) ∧ ∀ m, m ≠ n → u.ring m = s.ring m) ∧
     ((s.ring n).state = .active → ∃ u, exec (.enable n false) s = .next u ∧ OnlyRings s u ∧ u.ring n = { s.ring n with enable := false, state := .draining } ∧ ∀ m, m ≠ n → u.ring m = s.ring m) ∧
     ((s.ring n).state = .waiting → (s.ring n).sqBase ≠ 0 → (s.ring n).cqBase ≠ 0 → 4 ≤ (s.ring n).sizeLog2.toNat → (s.ring n).sizeLog2.toNat ≤ 16 → s.dev.ready = true →
       (s.port (s.ring n).port.val).wmtBase ≠ 0 → (s.port (s.ring n).port.val).bme = true → (s.ring n).sqTail < (s.ring n).size →
       ∃ u, exec (.ringActivation n) s = .next u ∧ u.ring n = { s.ring n with state := .active } ∧ (∀ m, m ≠ n → u.ring m = s.ring m) ∧
         u.power.mode = (if s.power.mode = .rest ∧ s.owned = true then .service else s.power.mode) ∧ (s.power.mode ≠ .rest → OnlyRings s u)) ∧
     (((s.ring n).state = .draining ∨ (s.ring n).state = .error) → (s.ring n).outstanding = 0 → (s.ring n).enable = false → s.power.mode = .rest → TabsCanonical s →
       ∃ u, exec (.ringDrainComplete n) s = .next u ∧ (u.ring n).state = .disabled ∧ (∀ m, m ≠ n → u.ring m = s.ring m) ∧
         (∀ k, u.tab k = { s.tab k with ring := if (s.tab k).ring = n then 0xFFFF else (s.tab k).ring }) ∧ u = { s with host := { s.host with rings := u.host.rings }, tabs := { s.tabs with ctx := u.tabs.ctx } }) ∧
     ((s.ring n).outstanding ≠ 0 → exec (.ringDrainComplete n) s = .next s)) ∧
  (∀ (s : State) (n : Nat), RingsCanonical s → n < 4096 → (s.ring n).state ≠ .disabled → s.guard.transition = none → (∀ p ∈ s.units.st, s.inTest p.1 = false) → (∀ k, (s.src k).masked = false) →
     ∃ u, exec (.abort n) s = .next u ∧ (u.ring n).enable = false ∧ (u.ring n).state = .draining ∧ (∀ t ∈ u.host.tickets, t.ring = n → t.stage = .done) ∧
       (∀ i ∈ u.units.items, ∀ t ∈ s.host.tickets, t.ring = n → t.stage ≠ .done → i.ticket ≠ t.id) ∧ (∀ t ∈ s.host.tickets, t.ring ≠ n → t.stage ≠ .done → t ∈ u.host.tickets) ∧
       u.vault = s.vault ∧ u.guard = s.guard ∧ u.ledger = s.ledger)

/-- R48, R64, R72 and R77: the class-0 ring pair whose turn it is fetches a ticket: SQ_HEAD moves on, and the ticket takes the next identifier. One that passes the checks is in the device and holds its
receipt slot; one that fails a check is answered with that check's status, alone in the device, in the next completion slot. A failed read puts the ring pair in ERROR with FETCH_ERROR, is counted as an
AER error of its port, and takes no ticket. A ring pair whose turn it is not fetches nothing while another of class 0 waits. -/
def Obligations.TicketsFetched : Prop :=
  ∀ (s : State) (n us : Nat), s.nextRing 0 = some n → RingsCanonical s →
    (∀ b, s.check n (Ticket.ofBytes b) = 0 → ∃ u, exec (.ticketFetch n us [.ok b]) s = .next u ∧ (∃ t ∈ u.host.tickets, t.id = s.host.nextId ∧ t.ring = n ∧ t.tk = Ticket.ofBytes b ∧ t.cls = 0) ∧
      u.host.nextId = s.host.nextId + 1 ∧ (u.ring n).sqHead = ((s.ring n).sqHead + 1) % (s.ring n).size ∧ (u.ring n).outstanding = (s.ring n).outstanding + 1 ∧ (∀ m, m ≠ n → u.ring m = s.ring m) ∧
      u.vault = s.vault ∧ u.ledger = s.ledger) ∧
    (∀ b, s.check n (Ticket.ofBytes b) ≠ 0 → s.host.tickets = [] → (s.ring n).err ≠ .portDown → ∃ u r rest, exec (.ticketFetch n us [.ok b]) s = .next u ∧ u.host.tickets = [] ∧
      u.host.out = s.host.out ++ .receipt (s.ring n).port.val ((s.ring n).cqBase.toNat + 32 * (s.ring n).cqTail) r :: rest ∧ fld r 0 2 = (Ticket.ofBytes b).tag % 2 ^ 16 ∧ fld r 2 1 = s.check n (Ticket.ofBytes b) ∧
      (u.ring n).sqHead = ((s.ring n).sqHead + 1) % (s.ring n).size ∧ u.classes.fetchFree = s.classes.fetchFree ∧ u.tabs = s.tabs ∧ u.vault = s.vault) ∧
    (∃ u, exec (.ticketFetch n us [.err]) s = .next u ∧ (u.ring n).state = .error ∧ (u.ring n).err = .fetchError ∧ (u.ring n).sqHead = (s.ring n).sqHead ∧
      (u.port (s.ring n).port.val).aerLogged = (s.port (s.ring n).port.val).aerLogged + 1 ∧ u.host.tickets = s.host.tickets ∧ u.host.nextId = s.host.nextId) ∧
    (∀ m reads, m ≠ n → exec (.ticketFetch m us reads) s = .next s)

/-- R48: the checks go in their order: an unassigned opcode, a reserved flag or a wrong field, a class that is not the ring's, and malformed DATA give BAD_TICKET before a wrong tab gives BAD_TAB, a mode or a
binding that does not allow the ticket NOT_PERMITTED, and the want of a tab NO_SPACE. A FENCE with every other field 0 passes in every mode, except at a torn step. -/
def Obligations.ChecksInOrder : Prop :=
  ∀ (s : State) (ring : Nat) (t : Ticket),
    (opClass t.opcode = none → s.check ring t = 0x10) ∧
    (4 ≤ t.flags → s.check ring t = 0x10) ∧
    (∀ c, opClass t.opcode = some c → c ≠ 4 → c ≠ (s.ring ring).cls.val → s.check ring t = 0x10) ∧
    (t.dataCheck = false → s.check ring t = 0x10) ∧
    (∀ c, opClass t.opcode = some c → (c = 4 ∨ c = (s.ring ring).cls.val) → s.fieldsOk t = true → t.dataCheck = true →
      (s.tabOk t = false → s.check ring t = 0x11) ∧
      (s.tabOk t = true → (s.modeAllows t = false ∨ s.bindingAllows ring t = false) → s.check ring t = 0x13) ∧
      (s.tabOk t = true → s.modeAllows t = true → s.bindingAllows ring t = true → s.check ring t = if s.tabSpace t then 0 else 0x12)) ∧
    (t.opcode = 0x1A → t.flags = 0 → t.tab = 0 → t.source = 0 → t.data = zeros 32 → t.oper = zeros 16 → s.dev.holdCause ≠ 2 → s.check ring t = 0)

/-- R71, R77 and R78: a rung that can be granted goes to the class-0 ticket that the arbitration serves next. A ticket that needs only that rung is then admitted with it: it holds the tab window, the work slot
of the stall chosen, its staging or read units, or its crate space, and has given its ticket buffer back. Where no ticket can be served, nothing is granted.
R83: an ingest ticket that has waited for a crate slot without space is skipped with every other one: none is left waiting there, each stands ready for the till with a result, and the device notes that
space is exhausted. -/
def Obligations.TokensGranted : Prop :=
  (∀ (s : State) (us : Nat) (r : Fin 4) (k : RotKey) (t : Tk), s.class0Starved (rungOf r) = false → s.nextAt (rungOf r) State.crateOk 0 = some (k, t) → s.tk? t.id = some t → t.need = [rungOf r] →
    ∃ u t', exec (.tokenGrant r us) s = .next u ∧ u.tk? t.id = some t' ∧ t'.stage = .admitted ∧ t'.need = [] ∧ t'.fetchTok = false ∧ t'.tk = t.tk ∧ t'.tab = t.tab ∧
      u.classes.fetchFree = s.classes.fetchFree + (if t.fetchTok then 1 else 0) ∧ (r = 0 → t'.tabTok = true) ∧ (r = 1 → t'.stall = s.stallFor t) ∧
      (r = 2 → t.tk.readout = false → t'.staging = t.tk.units ∧ u.classes.stagingFree = s.classes.stagingFree - t.tk.units) ∧
      (r = 2 → t.tk.readout = true → t'.readbuf = t.tk.readUnits ∧ u.classes.readbufFree = s.classes.readbufFree - t.tk.readUnits) ∧
      (r = 3 → t'.crateTok = true) ∧ u.vault = s.vault ∧ u.host.rings = s.host.rings) ∧
  (∀ (s : State) (us : Nat) (r : Fin 4), s.class0Starved (rungOf r) = false → (∀ c, s.nextAt (rungOf r) State.crateOk c = none) → exec (.tokenGrant r us) s = .next s) ∧
  (∀ (s : State) (t : Tk), s.tk? t.id = some t → t.atCrate = true → s.crateOk t = false → s.ringSpace = false →
    ∃ u, exec (.spaceWaitExpiry t.id) s = .next u ∧ u.classes.exhausted = true ∧ (∀ x ∈ u.host.tickets, x.atCrate = false) ∧ u.host.tickets.length = s.host.tickets.length ∧
      (∀ x ∈ s.host.tickets, x.atCrate = true → ∃ y ∈ u.host.tickets, y.id = x.id ∧ y.stage = .ready ∧ y.result.isSome = true))

/-- R59, R60: the MOD.TIME expiry sends the ring's message where its vector may signal, and holds it otherwise; without a running timer it does nothing. Unmasking a vector leaves it unmasked and sends the
message that a ring holds on it; setting MSI-X Enable sets it. -/
def Obligations.RingMessages : Prop :=
  ∀ (s : State) (n : Nat), RingsCanonical s →
    ((s.ring n).timer = true → s.canSignal (s.ring n).port.val (s.ring n).vector.toNat = true → ∃ u, exec (.modTimeExpiry n) s = .next u ∧ OnlyHost s u ∧
      u.host.out = s.host.out ++ [.msix (s.ring n).port.val (s.ring n).vector.toNat (.ring n)] ∧ u.ring n = { s.ring n with pending := 0, timer := false } ∧ ∀ m, m ≠ n → u.ring m = s.ring m) ∧
    ((s.ring n).timer = true → s.canSignal (s.ring n).port.val (s.ring n).vector.toNat = false → ∃ u, exec (.modTimeExpiry n) s = .next u ∧ OnlyRings s u ∧
      u.ring n = { s.ring n with pending := 0, timer := false, heldMsg := true } ∧ ∀ m, m ≠ n → u.ring m = s.ring m) ∧
    ((s.ring n).timer = false → exec (.modTimeExpiry n) s = .next s) ∧
    (∀ (p : Fin 2) (v : BitVec 12), (s.port p.val).msix.wf noMsix = true → ∃ u, exec (.vectorUnmask p (some v)) s = .next u ∧ ((u.port p.val).msix.get noMsix v.toNat).mask = false ∧
      ∀ w, w ≠ v.toNat → (u.port p.val).msix.get noMsix w = (s.port p.val).msix.get noMsix w) ∧
    (∀ p : Fin 2, ∃ u, exec (.vectorUnmask p none) s = .next u ∧ (u.port p.val).msixEn = true ∧ (u.port p.val).msix = (s.port p.val).msix) ∧
    (∀ p : Fin 2, (s.ring n).port = p → (s.ring n).heldMsg = true → (∀ m, m ≠ n → (s.ring m).heldMsg = false) → s.dev.heldMsg = 0 → s.portUp p.val = true → (s.port p.val).msixEn = true →
      (s.port p.val).msix.wf noMsix = true → ∃ u, exec (.vectorUnmask p (some (s.ring n).vector)) s = .next u ∧ u.host.out = s.host.out ++ [.msix p.val (s.ring n).vector.toNat (.ring n)] ∧ (u.ring n).heldMsg = false)

/-- R25 and R35: with Bus Master Enable cleared each ACTIVE ring pair of the port waits, and nothing else changes; with it set again, or in D0 again, the port may master writes: without held receipts, messages
and marked entries nothing else changes, and the receipt a ring pair holds is posted. D3hot is noted. R447: DEV.WMT_BASE takes a write, bits 11 to 0 dropped, while every ring pair of the port is DISABLED
or WAITING, and not otherwise; no marked entry waits here.
R65, R66, R404, R448 and R449: a link that leaves L0 puts the ACTIVE ring pairs of its port in ERROR with PORT_DOWN, notes the time and sets the event; a link of a port in use and out of reset comes up with
its speed and width. A reset of a function, by FLR or by its port, returns the port's ring-table entries and its table base to reset and leaves no ticket of the port; PERST# released lets the port train. -/
def Obligations.PortControl : Prop :=
  ((∀ (s : State) (p : Fin 2), RingsCanonical s →
     (∃ u, exec (.busMasterEnableCleared p) s = .next u ∧ OnlyHost s u ∧ u.port p.val = { s.port p.val with bme := false } ∧ u.host.tickets = s.host.tickets ∧ u.host.out = s.host.out ∧
       ∀ n, u.ring n = if (s.ring n).port = p ∧ (s.ring n).state = .active then { s.ring n with state := .waiting } else s.ring n) ∧
     (s.host.wmtMarked = [] → s.dev.heldMsg = 0 → (∀ n, (s.ring n).heldMsg = false ∧ (s.ring n).held = []) →
       exec (.busMasterEnableSet p) s = .next (s.setPort p.val { s.port p.val with bme := true }) ∧ exec (.powerStateD3hot p false) s = .next (s.setPort p.val { s.port p.val with d3hot := false })) ∧
     (∀ n rc, (s.ring n).port = p → (s.ring n).held = [rc] → (∀ m, m ≠ n → (s.ring m).held = []) → (s.ring n).err ≠ .portDown → (s.port p.val).d3hot = false → (s.port p.val).link.l0 = true →
       ∃ u r rest, exec (.busMasterEnableSet p) s = .next u ∧ u.host.out = s.host.out ++ .receipt p.val ((s.ring n).cqBase.toNat + 32 * (s.ring n).cqTail) r :: rest ∧ fld r 0 2 = rc.tag % 2 ^ 16 ∧
         fld r 2 1 = rc.status % 2 ^ 8 ∧ (u.ring n).held = [] ∧ (u.ring n).outstanding = (s.ring n).outstanding - 1) ∧
     exec (.powerStateD3hot p true) s = .next (s.setPort p.val { s.port p.val with d3hot := true })) ∧
   (∀ (s : State) (p : Fin 2) (v : BitVec 64), s.portUsed p.val = true →
     ((∀ n, (s.ring n).port = p → (s.ring n).state = .disabled ∨ (s.ring n).state = .waiting) → s.host.wmtMarked = [] →
       exec (.wmtBaseWrite p v) s = .next (s.setPort p.val { s.port p.val with wmtBase := v &&& 0xFFFFFFFFFFFFF000 })) ∧
     (∀ n ∈ s.ringNos, (s.ring n).port = p → (s.ring n).state ≠ .disabled → (s.ring n).state ≠ .waiting → exec (.wmtBaseWrite p v) s = .next s))) ∧
  (∀ (s : State) (p : Fin 2), RingsCanonical s →
     ((s.port p.val).link.l0 = true → ∃ u, exec (.linkDown p) s = .next u ∧ (u.port p.val).link.l0 = false ∧ (u.port p.val).link.downSince = s.now ∧ u.dev.events.getLsbD 6 = true ∧
       (∀ n, u.ring n = if (s.ring n).port = p ∧ (s.ring n).state = .active then { s.ring n with state := .error, err := .portDown } else s.ring n) ∧ u.host.tickets = s.host.tickets ∧ u.tabs = s.tabs) ∧
     ((s.port p.val).link.l0 = false → exec (.linkDown p) s = .next s) ∧
     (∀ speed width, speed < 8 → width < 32 → s.portUsed p.val = true → (s.port p.val).inReset = false → ∃ u, exec (.linkUp p speed width) s = .next u ∧
       (u.port p.val).link.l0 = true ∧ (u.port p.val).link.speed = speed ∧ (u.port p.val).link.width = width) ∧
     (∀ c ∈ [Instr.flr p, Instr.portReset p], ∃ u, exec c s = .next u ∧ (u.port p.val).bme = false ∧ (u.port p.val).wmtBase = 0 ∧ (u.port p.val).msixEn = false ∧ (u.port p.val).d3hot = false ∧
       (∀ n, (s.ring n).port = p → u.ring n = Ring.reset n) ∧ (∀ n, (s.ring n).port ≠ p → u.ring n = s.ring n) ∧ ∀ t ∈ u.host.tickets, (s.ring t.ring).port = p → t.ring ∉ s.ringNos) ∧
     exec (.perstRelease p) s = .next (s.setPort p.val { s.port p.val with inReset := false }))

/-- R11 and R171: the reads of an admitted ingest ticket stage its segment for a stall. R171, R177 and R183: ITEM_START puts the staged ticket whose turn it is on a stall that runs no item, its applet at the first
instruction, with the registers 0 and the tab's applet state. R64: a failed read of an admitted ingest ticket stages it with cause HOST_READ and is counted as an AER error; a failed read of another
ticket's object ends it with BAD_TICKET. -/
def Obligations.IngestRuns : Prop :=
  (∀ (s : State) (a : TkArg) (r : IngestRead) (t : Tk) (c : Instr) (op : Nat), (c, op) ∈ [(.ingest a r, 1), (.ingestSigned a r, 2)] → Admitted s a op t → s.masters t = true →
    ∃ u t', exec c s = .next u ∧ OnlyHost s u ∧ u.tk? a.id = some t' ∧ t' = { t with stage := .staged, ing := ingestOf t.tk r } ∧ u.host.tickets.length = s.host.tickets.length ∧ u.host.rings = s.host.rings ∧
      u.host.out = s.host.out) ∧
  (∀ (s : State) (t : Tk) (unit st e : Nat) (a : Applet), Runs s → s.units.items.any (fun i => i.unit == unit) = false → s.nextItem unit = some (t, st) → s.tk? t.id = some t → t.applet = some a →
    (t.epoch = some e ∨ (t.epoch = none ∧ (s.currentEpoch (s.groupOf t)).map EpochKey.epoch = some e)) →
    ∃ u v t', exec (.itemStart unit) s = .next u ∧ u.units.items = s.units.items ++ [{ ticket := t.id, unit := unit, slot := 0, core := true, epoch := e, vm := v }] ∧ v.pc = 0 ∧ v.loops = [] ∧ v.cycles = 0 ∧
      v.ended = .running ∧ (∀ r, v.get r = 0) ∧ v.input = t.ing.data ∧ v.hostMarks = t.ing.marks ∧ v.words = wordsOf (s.tab (t.tab.getD 0)).appletState ∧
      u.tk? t.id = some t' ∧ t'.stage = .running ∧ t'.stall = some st ∧ t'.epoch = some e ∧ u.tabs = s.tabs ∧ u.vault = s.vault) ∧
  (∀ (s : State) (a : TkArg) (t : Tk), s.tk? a.id = some t → t.stage = .admitted → s.masters t = true →
    ((t.tk.opcode = 1 ∨ t.tk.opcode = 2) → ∃ u t', exec (.completionError a) s = .next u ∧ OnlyHost s u ∧ u.tk? a.id = some t' ∧ t'.stage = .staged ∧ t'.ing.cause = 0x22 ∧
      (u.port (s.portOf t)).aerLogged = (s.port (s.portOf t)).aerLogged + 1) ∧
    (t.tk.opcode ≠ 1 → t.tk.opcode ≠ 2 → t.tk.readsHost = true → exec (.completionError a) s = .next ((s.aer (s.portOf t) [.err]).finishWith t 0x10 a.us)))

/-- R55 to R58, R78, R81: a ticket alone in the device that ends without holding crate space posts its receipt into the ring's next completion slot through its port, and returns its ticket buffer, its staging
and its read units. -/
def Obligations.FinishPosts : Prop :=
  ∀ (s : State) (t : Tk) (rc : Receipt) (us : Nat), RingsCanonical s → s.host.tickets = [t] → t.crateTok = false → (s.ring t.ring).err ≠ .portDown →
    (s.port (s.ring t.ring).port.val).bme = true → (s.port (s.ring t.ring).port.val).d3hot = false → (s.port (s.ring t.ring).port.val).link.l0 = true →
    ∃ rest, (s.finish t rc us).host.out = s.host.out ++
        .receipt (s.ring t.ring).port.val ((s.ring t.ring).cqBase.toNat + 32 * (s.ring t.ring).cqTail) (({ rc with flags := rc.flags + if rc.entry ≠ 0 ∧ rc.entry ≤ (s.tab rc.tab).durable then 2 else 0 } : Receipt).bytes (s.ring t.ring).cqPhase s.openTickLow) :: rest ∧
      (s.finish t rc us).host.tickets = [] ∧ ((s.finish t rc us).ring t.ring).cqTail = ((s.ring t.ring).cqTail + 1) % (s.ring t.ring).size ∧
      ((s.finish t rc us).ring t.ring).outstanding = (s.ring t.ring).outstanding - 1 ∧ (∀ n, n ≠ t.ring → (s.finish t rc us).ring n = s.ring n) ∧
      (s.finish t rc us).classes.fetchFree = s.classes.fetchFree + (if t.fetchTok then 1 else 0) ∧ (s.finish t rc us).classes.stagingFree = s.classes.stagingFree + t.staging ∧
      (s.finish t rc us).classes.readbufFree = s.classes.readbufFree + t.readbuf ∧ (s.finish t rc us).tabs = s.tabs ∧ (s.finish t rc us).vault = s.vault

/-- R99 to R102, R110, R112: an OPEN_TAB or CLOSE_TAB at the head of its tab's window commits its entry: the tab is open under the ticket's template and source, or closed and unbound, and the
tab's entries are one more. The window holds no other ticket, and the entry finds its crate.
R9, R112, R114, R117: the till commits a ready INGEST or INGEST_SIGNED at the head of its tab's window under the tab's next number, with the header that its result gives it and the chain value over the tab's
head. The tab need not be opened first, and its capture is in order. -/
def Obligations.TabsCommit : Prop :=
  (∀ (s : State) (a : TkArg) (t : Tk) (n : Nat), TabsCanonical s → t.tab = some n → t.tabTok = true → (∀ x ∈ s.host.tickets, x.tab = some n → x.id = t.id) →
    (Admitted s a 0x08 t → ((s.setTk { t with stage := .ready }).commitOne { t with stage := .ready }).isSome = true →
      ∃ u e, exec (.openTab a) s = .next u ∧ u.tabs.entries = s.tabs.entries ++ [e] ∧ e.hdr.kind = 4 ∧ e.hdr.seq = (s.tab n).nextSeq ∧ (u.tab n).isOpen = true ∧
        (u.tab n).source = t.tk.source ∧ (u.tab n).template = t.tk.op 48 2 ∧ (u.tab n).nextSeq = (s.tab n).nextSeq + 1 ∧ (u.tab n).sealed = (s.tab n).nextSeq) ∧
    (Admitted s a 0x09 t → ((s.setTk { t with stage := .ready }).commitOne { t with stage := .ready }).isSome = true →
      ∃ u e, exec (.closeTab a) s = .next u ∧ u.tabs.entries = s.tabs.entries ++ [e] ∧ e.hdr.kind = 5 ∧ e.hdr.seq = (s.tab n).nextSeq ∧ (u.tab n).isOpen = false ∧
        (u.tab n).closing = false ∧ (u.tab n).ring = 0xFFFF ∧ (u.tab n).sealed = (s.tab n).nextSeq)) ∧
  (∀ (s : State) (a : TkArg) (t : Tk) (n : Nat) (r : TillResult), TabsCanonical s → s.power.pllSwitching = false → s.tk? a.id = some t → t.stage = .ready → t.tk.opcode = 1 ∨ t.tk.opcode = 2 →
    t.tab = some n → t.tabTok = true → t.autoTab = false → t.result = some r → (t.templ.any Template.captureMonotonic = false ∨ (s.tab n).lastCapture < t.ing.captureStart) →
    (∀ x ∈ s.host.tickets, x.tab = some n → x.id = t.id) → (s.commitOne t).isSome = true →
    ∃ u e, exec (.tillCommit a) s = .next u ∧ u.tabs.entries = s.tabs.entries ++ [e] ∧ e.hdr = ({ t with seq := (s.tab n).nextSeq } : Tk).header r ∧ e.cipher = r.cipher ∧ e.hdr.seq = (s.tab n).nextSeq ∧
      (u.tab n).nextSeq = (s.tab n).nextSeq + 1 ∧ (u.tab n).sealed = (s.tab n).nextSeq ∧ e.chain = chainNext (s.headOfTab n) e.hdr.bytes e.ctHash)

/-- R121 and R122: HOLD adds a hold under the next identifier and RELEASE_HOLD takes the named one away, each with its event in the open tick; a HOLD beyond 4,096 and a release of an unknown hold change no hold.
R13 and R120: MARK_UPLOADED raises UPLOADED to the stated number, never lowers it, changes no other field of any tab, and is refused above SEALED. The device is not in CATCH-UP here. -/
def Obligations.HoldsAndUploaded : Prop :=
  (∀ (s : State) (a : TkArg) (t : Tk),
    (Admitted s a 0x10 t → s.tabs.holds.length < 4096 → s.eventFits 24 = true →
      ∃ u, exec (.hold a) s = .next u ∧ u.tabs = { s.tabs with
        holds := s.tabs.holds ++ [{ id := s.tabs.holdHigh + 1, tab := t.tab, first := t.tk.op 48 8, last := t.tk.op 56 8 }], holdHigh := s.tabs.holdHigh + 1 } ∧
        (s.tickOpen = true → ∃ e, u.ledger.events = s.ledger.events ++ [e] ∧ e.type = 6) ∧ u.vault = s.vault ∧ u.power = s.power) ∧
    (Admitted s a 0x10 t → 4096 ≤ s.tabs.holds.length → exec (.hold a) s = .next (s.finishWith t 0x12 a.us)) ∧
    (Admitted s a 0x11 t → (∃ h ∈ s.tabs.holds, h.id = t.tk.op 48 4) → s.eventFits 8 = true →
      ∃ u, exec (.releaseHold a) s = .next u ∧ u.tabs = { s.tabs with holds := s.tabs.holds.filter (fun h => h.id != t.tk.op 48 4) } ∧
        (s.tickOpen = true → ∃ e, u.ledger.events = s.ledger.events ++ [e] ∧ e.type = 7) ∧ u.vault = s.vault ∧ u.power = s.power) ∧
    (Admitted s a 0x11 t → (∀ h ∈ s.tabs.holds, h.id ≠ t.tk.op 48 4) → exec (.releaseHold a) s = .next (s.finishWith t 0x13 a.us))) ∧
  (∀ (s : State) (a : TkArg) (t : Tk) (n : Nat), Admitted s a 0x12 t → t.tab = some n → TabsCanonical s → s.power.mode ≠ .catchup →
    (t.tk.op 48 8 ≤ (s.tab n).sealed → ∃ u, exec (.markUploaded a) s = .next u ∧ u.tab n = { s.tab n with uploaded := max (s.tab n).uploaded (t.tk.op 48 8) } ∧
      (∀ m, m ≠ n → u.tab m = s.tab m) ∧ u.tabs = { s.tabs with ctx := u.tabs.ctx } ∧ u.power = s.power) ∧
    ((s.tab n).sealed < t.tk.op 48 8 → exec (.markUploaded a) s = .next (s.finishWith t 0x10 a.us)))

/-- R106, R107, R227: LOAD_TEMPLATE of a well-formed record whose keys are valid, whose applet fits and whose keys find room replaces the template, with its event; a malformed record ends with BAD_TICKET.
R188, R189: LOAD_APPLET of an image that the checks accept, and that no template uses yet, stores the applet under its number, with its event; an image that they refuse ends with the status and RESULT of the
check that refuses it. The engines of the pool are free for the checks. -/
def Obligations.TemplatesAndAppletsLoad : Prop :=
  ∀ (s : State) (a : TkArg) (o : ObjRead) (t : Tk) (b : Bytes), Carries s t o b →
    (Admitted s a 0x31 t → templateOf b = none → exec (.loadTemplate a o) s = .next (s.finishWith t 0x10 a.us)) ∧
    (∀ p days, Admitted s a 0x31 t → templateOf b = some (p, days) → p.keys.all CamKey.valid = true → s.appletFits p = true →
      (p.keys.all (fun k => k.alg == 4) = true ∨ (s.checkStall.isSome = true ∧ PoolServes s t.cls)) →
      s.tabs.keyCount - (s.tabs.templates.get noTempl (t.tk.op 48 2)).keys.length + p.keys.length ≤ 131072 → s.eventFits 56 = true → s.tabs.templates.sorted = true →
      ∃ u, exec (.loadTemplate a o) s = .next u ∧ u.tabs.templates.get noTempl (t.tk.op 48 2) = p ∧
        (∀ k, k ≠ t.tk.op 48 2 → u.tabs.templates.get noTempl k = s.tabs.templates.get noTempl k) ∧ u.tabs.entries = s.tabs.entries ∧ u.tabs.holds = s.tabs.holds ∧
        (s.tickOpen = true → ∃ l ev, u.ledger.events = s.ledger.events ++ l ++ [ev] ∧ ev.type = 8)) ∧
    (∀ e k, Admitted s a 0x30 t → t.auth = some k →
      imageOf b (t.tk.op 48 2) (s.unitMatches (slice b 16 16) && decide (fld b 32 1 = s.lifeCount)) (pairVerifyAt k.applet b (imageSigned b)) = e →
      PoolServes s t.cls → (∀ p ∈ s.tabs.templates, p.2.applet ≠ t.tk.op 48 2) → s.eventFits 56 = true →
      ∃ u, exec (.loadApplet a o) s = .next u ∧ (match e with
        | .ok ap => u.tabs = { s.tabs with applets := s.tabs.applets.ins (t.tk.op 48 2) ap, imageDigests := u.tabs.imageDigests } ∧ (s.tickOpen = true → ∃ ev, u.ledger.events = s.ledger.events ++ [ev] ∧ ev.type = 9)
        | .error x => ∃ v, OnlyCrypto s v ∧ u = v.finish t { t.receipt x.1 with result := x.2 } a.us))

/-- R52, R124, R146, R147, R149: each readout whose destination can be written delivers its items to it with the receipt: sealed and clear entries of the span tick by tick, the status of consecutive tabs, and the
proofs or records of consecutive durable ticks whose links hold.
R194 to R196: SEARCH folds the applet over the span and ends with its summary, or with a zero length where an entry stops it; a destination below 96 bytes is refused.
R249, R369 and R433: the key records are read in order up to the first that is missing, the logs from the first number asked for. -/
def Obligations.ReadoutsDeliver : Prop :=
  ∀ (s : State) (a : TkArg) (o : ObjRead) (t : Tk) (es : List Extent), Delivers s t o es →
    (Admitted s a 0x20 t → t.tk.tab < 65536 → 1 ≤ t.tk.op 60 1 → t.tk.op 60 1 ≤ 7 → s.mustAwait (bit (t.tk.op 60 1) 2) (s.span t.tk.tab (t.tk.op 48 8) (t.tk.op 56 4)) = false →
      ∃ r, r = s.sealedGo t.tk.tab (t.tk.op 60 1) (tickRuns (s.span t.tk.tab (t.tk.op 48 8) (t.tk.op 56 4))) ∧ exec (.readSealed a o) s = .next (s.deliver t a es (r.1.filter OutItem.some_) r.2)) ∧
    (Admitted s a 0x20 t → t.tk.tab < 65536 → t.tk.op 60 1 = 0 →
      exec (.tabStatusRead a o) s = .next (s.deliver t a es ((List.range (t.tk.op 56 4)).map (fun i => { bytes := s.statusRecord (t.tk.tab + i), seq := t.tk.tab + i })) {})) ∧
    (∀ f, Admitted s a 0x20 t → t.tk.tab < 65536 → t.tk.op 60 1 = 8 → 1 ≤ t.tk.op 48 8 → t.tk.op 48 8 + t.tk.op 56 4 ≤ s.ledger.durableTick + 1 →
      (∀ i < t.tk.op 56 4, s.absenceItem t.tk.tab (t.tk.op 48 8 + i) = some (f i)) → exec (.absenceProofRead a o) s = .next (s.deliver t a es ((List.range (t.tk.op 56 4)).map f) {})) ∧
    (∀ f, Admitted s a 0x20 t → t.tk.tab = 0xFFFFFFFE → 1 ≤ t.tk.op 48 8 → t.tk.op 48 8 + t.tk.op 56 4 ≤ s.ledger.durableTick + 1 →
      (∀ i < t.tk.op 56 4, s.ledgerItem (t.tk.op 60 1) (t.tk.op 48 8 + i) = some (f i)) → exec (.ledgerRead a o) s = .next (s.deliver t a es ((List.range (t.tk.op 56 4)).map f) {})) ∧
    (Admitted s a 0x21 t → s.mustAwait (bit (t.tk.op 60 1) 2) (s.span t.tk.tab (t.tk.op 48 8) (t.tk.op 56 4)) = false →
      ∃ r, r = s.clearGo (t.tk.op 60 1) (t.tk.op 62 2) true (s.span t.tk.tab (t.tk.op 48 8) (t.tk.op 56 4)) ∧
        exec (.readClear a o) s = .next ((((s.span t.tk.tab (t.tk.op 48 8) (t.tk.op 56 4)).take r.1.length).foldl State.useEntryKey s).deliver t a es (r.1.filter (fun i => i.bytes ≠ [])) r.2)) ∧
    (∀ (q : Bytes) (qr : HostRead) (ap : Query × Applet) (v : State) (st : SState), Admitted s a 0x22 t → qr = .ok q → queryOf (t.tk.op 56 4) q = some ap.1 →
      queryApplet (t.tk.op 60 2) t.applet ap.1 = some ap.2 → v = s.checkCopy (.image (t.tk.op 60 2)) → st = (v.searchSpan t.tab ap.1).foldl (v.searchEntry (extentsLen es) (t.tk.op 60 2) ap.2 ap.1) {} →
      (extentsLen es < 96 → exec (.search a o qr) s = .next (v.finishWith t 0x12 a.us)) ∧
      (96 ≤ extentsLen es → st.stop ≠ 0 →
        exec (.search a o qr) s = .next (((v.writeOut t es st.out).writeOut t es (zeros 4)).finish t { t.receipt st.stop with tab := st.lastTab, seq := st.lastSeq } a.us)) ∧
      (96 ≤ extentsLen es → st.stop = 0 → ∃ w, OnlyKeys s w ∧ exec (.search a o qr) s = .next ((w.writeOut t es (st.out ++ st.summary)).finish t
        { t.receipt 0 with tab := st.lastTab, seq := st.lastSeq, flags := if st.truncated then 8 else 0, result := st.matches_ } a.us))) ∧
    (∀ (k : Nat) (f : Nat → Bytes), Admitted s a 0x20 t → t.tk.tab = 0xFFFFFFFD → t.tk.op 60 1 = 1 → k ≤ t.tk.op 56 4 → (∀ i < k, s.wrapOf (t.tk.op 52 1) (t.tk.op 48 4 + i) = some (f i)) →
      (k < t.tk.op 56 4 → s.wrapOf (t.tk.op 52 1) (t.tk.op 48 4 + k) = none) →
      exec (.escrowWrapRead a o) s = .next (s.deliver t a es ((List.range k).map (fun i => keyItem 1 (t.tk.op 48 4 + i) (f i))) { truncated := decide (k < t.tk.op 56 4) })) ∧
    (∀ (k : Nat) (f : Nat → Bytes), Admitted s a 0x20 t → t.tk.tab = 0xFFFFFFFD → t.tk.op 60 1 = 2 → k ≤ t.tk.op 56 4 → (∀ i < k, s.certOf (t.tk.op 48 4 + i) = some (f i)) → (k < t.tk.op 56 4 → s.certOf (t.tk.op 48 4 + k) = none) →
      exec (.signerCertificateRead a o) s = .next (s.deliver t a es ((List.range k).map (fun i => keyItem 2 (t.tk.op 48 4 + i) (f i))) { truncated := decide (k < t.tk.op 56 4) })) ∧
    (Admitted s a 0x20 t → t.tk.tab = 0xFFFFFFFD → t.tk.op 60 1 = 3 →
      exec (.identityCertificateRead a o) s = .next (s.deliver t a es (s.vault.idCerts.map (keyItem 3 0)) { truncated := decide (s.vault.idCerts.length < 2) })) ∧
    (∀ l, Admitted s a 0x20 t → t.tk.tab = 0xFFFFFFFC → l = (s.tamper.log.filter (fun e => decide (t.tk.op 48 8 ≤ e.seq))).take (t.tk.op 56 4) →
      exec (.tamperLogRead a o) s = .next (s.deliver t a es (l.map (fun e => { bytes := e.bytes, seq := e.seq })) { truncated := decide (l.length < t.tk.op 56 4) })) ∧
    (∀ l, Admitted s a 0x20 t → t.tk.tab = 0xFFFFFFFB → l = (s.fault.log.filter (fun e => decide (t.tk.op 48 8 ≤ e.seq))).take (t.tk.op 56 4) →
      exec (.faultLogRead a o) s = .next (s.deliver t a es (l.map (fun e => { bytes := e.bytes, seq := e.seq })) { truncated := decide (l.length < t.tk.op 56 4) }))

/-- R255, R260 to R264: what each identification, feature, calibration and training command leaves in its target; nothing else changes. A feature at RETRY_FA sets the retry level of its LUN, or of every LUN. -/
def Obligations.FlashTargetCommands : Prop :=
  ∀ (s : State) (t lun column : Nat) (id : Bytes) (b : Bool) (fa : BitVec 8) (v : BitVec 32), TakesCommands s t → s.flash.selected.wf zeroOf = true →
    exec (.fcVolumeSelect t) s = .next { s with flash := { s.flash with selected := s.flash.selected.set zeroOf (t / 4) (t % 4) } } ∧
    SetsTarget (.fcOdtConfigure t) s t { s.target t with odt := some (fld (s.page t) 29 1) } ∧
    SetsTarget (.fcReadId t id) s t { s.target t with idOk := decide (id.take (fld (s.page t) 24 1) = slice (s.page t) 16 (fld (s.page t) 24 1)) } ∧
    SetsTarget (.fcReadParameterPage t b) s t { s.target t with paramOk := b } ∧
    SetsTarget (.fcZqCalibrationLong t) s t { s.target t with zqLong := true } ∧
    SetsTarget (.fcZqCalibrationShort t) s t { s.target t with zqShort := true } ∧
    SetsTarget (.fcReadDqTraining t b) s t { s.target t with dqTrained := b } ∧
    SetsTarget (.fcWriteTrainingTx t b) s t { s.target t with txTrained := b } ∧
    SetsTarget (.fcWriteTrainingRx t b) s t { s.target t with rxTrained := b } ∧
    (∃ r, SetsTarget (.fcSetFeatures t fa v) s t { s.target t with features := (s.target t).features.set zeroOf (2048 + fa.toNat) v.toNat, retry := r } ∧
      (fld (s.page t) 36 1 ≠ 1 ∨ fa.toNat ≠ fld (s.page t) 37 1 → r = (s.target t).retry) ∧
      (∀ i, fld (s.page t) 36 1 = 1 → fa.toNat = fld (s.page t) 37 1 → levelOf (s.page t) v.toNat = some i → r = (List.range (s.geo t).luns).foldl (fun m l => m.set zeroOf l i) (s.target t).retry)) ∧
    SetsTarget (.fcGetFeatures t fa) s t { s.target t with lastValue := (s.target t).features.get zeroOf (2048 + fa.toNat) } ∧
    (lun < 8 → ∃ r, SetsTarget (.fcSetFeaturesByLun t lun fa v) s t { s.target t with features := (s.target t).features.set zeroOf (256 * lun + fa.toNat) v.toNat, retry := r } ∧
      (fld (s.page t) 36 1 ≠ 1 ∨ fa.toNat ≠ fld (s.page t) 37 1 → r = (s.target t).retry) ∧
      (∀ i, fld (s.page t) 36 1 = 1 → fa.toNat = fld (s.page t) 37 1 → levelOf (s.page t) v.toNat = some i → r = (s.target t).retry.set zeroOf lun i)) ∧
    (lun < 8 → SetsTarget (.fcGetFeaturesByLun t lun fa) s t { s.target t with lastValue := (s.target t).features.get zeroOf (256 * lun + fa.toNat) }) ∧
    (lun < (s.geo t).luns → column < (s.geo t).pageBytes + (s.geo t).spare → SetsTarget (.fcChangeReadColumnEnhanced t lun column) s t { s.target t with column := column })

/-- R264: a RESET of a target with nothing but reads in flight clears its features and trainings and is counted, RESET LUN takes the operations of its LUN alone, and the reads that they abort wait to be issued again.
R264 and R265: a program or erase starts on a free LUN and ends when a poll finds it ready; an erase can be asked to suspend for a read of class 0 or 2 up to four times, and a suspended one resumes with the
time it had left.
R260 and R264: a read of a free LUN starts there with the calibrated read levels applied. R264, R280, R293: once a poll finds it ready, a read whose codewords all come out in the first two steps counts as
one read of its lane block, and no soft decoding and no reconstruction is counted. -/
def Obligations.FlashOperations : Prop :=
  ((∀ (s : State) (t lun : Nat), TakesCommands s t → s.flash.targets.wf noTarget = true → (∀ o ∈ (s.target t).ops, o.kind = .read) →
     (∃ u, exec (.fcReset t) s = .next u ∧ OnlyFlash s u ∧ u.target t = ({ s.target t with queue := (s.target t).ops ++ (s.target t).queue } : Target).afterReset ∧ ∀ k, k ≠ t → u.target k = s.target k) ∧
     (∃ u, exec (.fcResetLun t lun) s = .next u ∧ OnlyFlash s u ∧ u.target t = { s.target t with
       ops := (s.target t).ops.filter (fun o => o.lun != lun), queue := (s.target t).ops.filter (fun o => o.lun == lun) ++ (s.target t).queue } ∧ ∀ k, k ≠ t → u.target k = s.target k)) ∧
   (∀ (s : State) (t lun block page : Nat), LunFree s t lun → lun < (s.geo t).luns → block < (s.geo t).blocks → page < (s.geo t).pages →
     Starts (.fcPageProgram t lun block page) s t { lun := lun, kind := .program, block := block, page := page, cls := s.laneClass t block } ∧
     Starts (.fcMultiPlaneProgram t lun block page) s t { lun := lun, kind := .program, planes := (s.geo t).planes, block := block, page := page, cls := s.laneClass t block } ∧
     Starts (.fcBlockErase t lun block) s t { lun := lun, kind := .erase, block := block, cls := s.laneClass t block } ∧
     Starts (.fcMultiPlaneErase t lun block) s t { lun := lun, kind := .erase, planes := (s.geo t).planes, block := block, cls := s.laneClass t block }) ∧
   (∀ (s : State) (t lun : Nat) (o : LunOp), OneOp s t lun o → o.kind ≠ .read →
     (o.suspended = false → ∃ u, exec (.fcReadStatusEnhanced t lun true false) s = .next u ∧ OnlyFlash s u ∧ u.target t = { s.target t with ops := [] } ∧ ∀ k, k ≠ t → u.target k = s.target k) ∧
     exec (.fcReadStatusEnhanced t lun false false) s = .next s ∧
     (∀ cls, o.kind = .erase → o.suspended = false → o.suspends < 4 → fld (s.page t) 172 1 = 1 → cls = 0 ∨ cls = 2 →
       SetsTarget (.fcEraseSuspend t lun cls) s t { s.target t with
         ops := [{ o with asked := true, suspends := o.suspends + 1, left := o.deadline - s.now, deadline := s.now + usUp (fld (s.page t) 176 2 + 100) }] }) ∧
     (o.kind = .erase → o.suspended = true → SetsTarget (.fcEraseResume t lun) s t { s.target t with ops := [{ o with suspended := false, served := 0, deadline := s.now + o.left }] }))) ∧
  ((∀ (s : State) (t lun block page : Nat) (k : Fin 4) (cws : List Codeword), LunFree s t lun → lun < (s.geo t).luns → block < (s.geo t).blocks → page < (s.geo t).pages →
     Starts (.fcRead t lun block page k.val cws) s t { lun := lun, kind := .read, block := block, page := page, cls := k, cws := cws } ∧
     Starts (.fcMultiPlaneRead t lun block page k.val cws) s t { lun := lun, kind := .read, planes := (s.geo t).planes, block := block, page := page, cls := k, cws := cws }) ∧
   (∀ (s : State) (t lun : Nat) (o : LunOp), OneOp s t lun o → o.kind = .read → o.suspended = false → (∀ c ∈ o.cws, c.hard = .good ∨ c.minSum = .good) → s.flash.lanes.wf noLane = true → s.flash.soft < 65536 →
     ∃ u, exec (.fcReadStatusEnhanced t lun true false) s = .next u ∧ OnlyFlash s u ∧ u.target t = { s.target t with ops := [] } ∧ u.flash.soft = s.flash.soft ∧ u.flash.step5 = s.flash.step5 ∧
       u.flash.crates = s.flash.crates ∧ u.lane { target := t, block := o.block } = { s.lane { target := t, block := o.block } with reads := (s.lane { target := t, block := o.block }).reads + 1 }))

/-- R272, R281: at every position of a row, the bytes of any two of its 16 lanes follow from the others: whatever stands in the two lanes instead, solving for them gives back the one stripe that agrees with its
parity. -/
def Obligations.TwoLanesRestored : Prop :=
  ∀ (l : List Byte) (i j : Nat) (a b : Byte), stripeOk l = true → i < j → j < 16 → solveStripe ((l.set i a).set j b) i j = some l

/-- R261: a build or an extension ends in its state: BUILT with the description stored where every check passes, FAILED with the first failure's code and target otherwise, and nothing else of the array changes
then.
R263 and R266: a retraining that passes trains the target; after a timeout of a program or erase whose LUN reset and retraining pass the target is back in service with one more timeout counted, and one whose
target reset fails makes it NON_RESPONSIVE. No crate stands on the target here. -/
def Obligations.BuildsAndRecoveries : Prop :=
  (∀ (s : State) (d : Bytes) (l : List TargetAns) (r : Nat × Nat), s.scrapped = false → s.power.warn = false →
    (r = buildCheck s.flash.desc false d l → s.mayBuild = true → s.flash.extend = false →
      (r.1 ≠ 0 → ∃ u, exec (.build (.ok d) l) s = .next u ∧ u.flash = { s.flash with buildState := .failed, buildErr := r.1, failedTarget := r.2 } ∧ u = { s with flash := u.flash, dev := u.dev }) ∧
      (r.1 = 0 → ∃ u, exec (.build (.ok d) l) s = .next u ∧ u.flash.buildState = .built ∧ u.flash.desc = d.take (descLen d) ∧ u.flash.buildErr = 0 ∧ u.dev.holdCause ≠ 4) ∧
      (∃ u, exec (.build .err l) s = .next u ∧ u.flash = { s.flash with buildState := .failed, buildErr := 3, failedTarget := 0 })) ∧
    (r = buildCheck s.flash.desc true d l → s.mayExtend = true →
      (r.1 ≠ 0 → ∃ u, exec (.extension (.ok d) l) s = .next u ∧ u.flash = { s.flash with buildState := .failed, buildErr := r.1, failedTarget := r.2 }) ∧
      (r.1 = 0 → ∃ u, exec (.extension (.ok d) l) s = .next u ∧ u.flash.buildState = .built ∧ u.flash.desc = d.take (descLen d) ∧ u.flash.buildErr = 0))) ∧
  (∀ (s : State) (t : Nat), TakesCommands s t → s.flash.targets.wf noTarget = true → (s.target t).ops = [] → (s.target t).work = none → (s.target t).queue = [] →
    ∃ u, exec (.retrain t true) s = .next u ∧ u = { s with flash := u.flash, ledger := { s.ledger with rtc := u.ledger.rtc } } ∧
      u.target t = { s.target t with state := .inService, zqShort := true, dqTrained := true, trainedAt := u.now, trainDue := false }) ∧
  (∀ (s : State) (t lun : Nat) (o : LunOp), OneOp s t lun o → o.kind ≠ .read → o.suspended = false → lun < (s.geo t).luns → (∀ c ∈ s.flash.crates, ∀ l ∈ c.lanes, l.target ≠ t) →
    (∃ u, exec (.flashTimeout t lun true true true true) s = .next u ∧ (u.target t).state = .inService ∧ (u.target t).timeouts = sat 8 ((s.target t).timeouts + 1) ∧ (u.target t).ops = [] ∧
      (u.target t).features = (s.target t).features ∧ u.flash.crates = s.flash.crates) ∧
    (∃ u, exec (.flashTimeout t lun false false true true) s = .next u ∧ (u.target t).state = .nonResponsive ∧ (u.target t).ops = [] ∧ u.answers t = false))

/-- R278 and R279: the next full row of an open crate whose lanes all take it is programmed: one row more of the crate is programmed, and what it holds is settled.
R283, R292 to R296, R300: what each percolator job takes up: reclaim a crate with little or nothing protected, rebuild an EXPOSED crate before a DEGRADED one, refresh the oldest crate that is due, level a
channel's wear, scrub a complete crate and have it refreshed where a codeword is weak or a lane lost. -/
def Obligations.PercolatorTakesUp : Prop :=
  (∀ (s : State) (id : Nat) (c : Crate), s.crate? id = some c → c.state = .opened → c.lostLanes = [] → (c.sealedUp = true ∨ (c.rowsProgrammed + 1) * c.rowSlots ≤ c.nextSlot) →
    c.rowsProgrammed * c.rowSlots < c.nextSlot →
    exec (.rowProgrammed id []) s = .next ((((s.modCrate id (fun x => x.advance s.lifeCount (c.rowsProgrammed + 1))).settleCrate id).closeDone id).closeFullCrates)) ∧
  (∀ (s : State) (c : Crate), s.percolates = true →
    (s.reclaimDue = true → s.reclaimables.find? s.caseOneTwo = some c → exec .reclaim s = .next (s.moveAndErase c.id (fun s o => s.protects o))) ∧
    ((s.flash.crates.filter (fun c => c.kind != .system)).find? (fun c => c.state == .exposed) = some c → exec .rebuild s = .next (s.refreshCrate c.id)) ∧
    ((∀ x ∈ s.flash.crates, x.state ≠ .exposed) → (s.flash.crates.filter (fun c => c.kind != .system)).find? (fun c => c.state == .degraded) = some c → exec .rebuild s = .next (s.refreshCrate c.id)) ∧
    (s.flash.crates.find? s.refreshDue = some c → exec .refresh s = .next (s.refreshCrate c.id)) ∧
    (∀ ch, ch < 64 → (∀ k, k < ch → (s.chanWear k).2 ≤ (s.chanWear k).1 + s.flash.wearSpread) → (s.chanWear ch).1 + s.flash.wearSpread < (s.chanWear ch).2 → s.power.mode ≠ .holdover →
      s.flash.crates.find? (fun c => c.complete && c.kind != .system && c.lanes.any (fun l => l.target / 16 == ch && (s.lane l).erases == (s.chanWear ch).1)) = some c →
      exec .wearLevelling s = .next (s.refreshCrate c.id)) ∧
    (∀ out, out.crate = c.id → s.crate? c.id = some c → c.complete = true →
      ∃ u, exec (.periodicScrub out) s = .next u ∧
        (c.lostLanes ≠ [] ∨ (∃ p ∈ s.scrubbed c out, s.flash.refreshBits < p.1.cw.bits ∨ 3 ≤ p.2) → c.id ∈ u.flash.refreshQueue) ∧
        (c.lostLanes = [] → (∀ p ∈ s.scrubbed c out, p.1.cw.bits ≤ s.flash.refreshBits ∧ p.2 < 3) → u.flash.refreshQueue = s.flash.refreshQueue) ∧
        (s.disturbed c = true → exec (.readDisturbScrub out) s = .next u) ∧ (s.disturbed c = false → exec (.readDisturbScrub out) s = .next s)))

/-- R197, R198, R370: a SELF_TEST that is served takes an idle unit out for its test, or drains a busy one; the test of a unit that is under test and passes brings it back and reports RESULT 0, that of a RETIRED
one reports 2. A source is masked for its test, which then leaves TEST_FAIL clear. FULL goes through its units the same way.
R294 and R295: a read-level calibration sets the target's offsets and clears its soft count, when it is due or when a ticket asks for it; the CALIBRATE kinds answer 3 where the part cannot, else 0. -/
def Obligations.TestsAndCalibrations : Prop :=
  (∀ (s : State) (a : TkArg) (o : ObjRead) (out : TestOut) (t : Tk) (c : Instr) (k n : Nat), Admitted s a 0x38 t → t.tk.noData = true → t.tk.op 48 2 = n →
    ((c, k) ∈ [(.lockstepTest a o out, 1), (.memoryTest a o out, 2), (.katTest a o out, 3)] → t.tk.op 50 1 = k → n / 4096 ≠ 12 → (s.unitSt n).broke = false →
      ((s.unitSt n).state = .active → s.mayDrain n = true → ∃ v, v = s.lendSpare n ∧ exec c s = .next (v.setUState n (if v.holdsWork n then .draining else .underTest))) ∧
      ((s.unitSt n).state = .underTest → s.testFails n out = false → Admitted (s.undrain n) a 0x38 t → exec c s = .next ((s.undrain n).finish t { t.receipt 0 with result := 0 } a.us)) ∧
      ((s.unitSt n).state = .retired → exec c s = .next (s.finish t { t.receipt 0 with result := 2 } a.us))) ∧
    (∀ i, t.tk.op 50 1 = 4 → n = 0xC000 + i → i < 32 → s.tamper.srcs.wf Src.at_ = true →
      (s.fused i = true → exec (.monitorTest a o { out := out }) s = .next (s.finish t { t.receipt 0 with result := 3 } a.us)) ∧
      (s.fused i = false → (s.src i).active = false → (∀ m, m < 32 → (s.src m).masked = false) → exec (.monitorTest a o { out := out }) s = .next (s.setSrc i { s.src i with masked := true })) ∧
      (s.fused i = false → (s.src i).masked = true → bits out.detail.toNat 0 2 = 0 →
        ∃ v, OnlyTamper s v ∧ v.src i = { s.src i with masked := false, testFail := false } ∧ (∀ m, m ≠ i → v.src m = s.src m) ∧
          exec (.monitorTest a o { out := out }) s = .next (v.finish t { t.receipt 0 with result := 0 } a.us))) ∧
    (∀ e, t.tk.op 50 1 = 5 → n = 0x7000 + e → e < 8 → t.test = none → (s.unitSt n).broke = false → s.power.mode ≠ .lockdown →
      ((s.unitSt n).state = .active → ∃ v r, v = s.setUState n .underTest ∧ r.left = [n] ∧ exec (.fullTest a o [out]) s = .next (v.setTk { t with test := some r })) ∧
      ((s.unitSt n).state = .underTest → s.testFails n out = false → Admitted (s.undrain n) a 0x38 t →
        exec (.fullTest a o [out]) s = .next ((s.undrain n).finish t { t.receipt 0 with result := 0 } a.us)) ∧
      ((s.unitSt n).state = .retired → exec (.fullTest a o [out]) s = .next (s.finish t { t.receipt 0 with result := 2 } a.us)))) ∧
  (∀ (s : State) (n : Nat), TakesCommands s n → (s.target n).state = .inService → s.flash.targets.wf noTarget = true → (s.target n).ops = [] → (s.target n).work = none → (s.target n).queue = [] →
    (∀ out, out.target = n → out.fail = false → s.percolates = true → 16 ≤ (s.target n).softSince → fld (s.page n) 168 1 ≠ 0 →
      ∃ u, exec (.readLevelCalibration out) s = .next u ∧ OnlyFlash s u ∧ u.target n = { s.target n with
        offsets := out.offsets.foldl (fun m p => m.set (fun _ => []) p.1 (p.2.take (fld (s.page n) 171 1))) (s.target n).offsets, softSince := 0, calibratedAt := s.now }) ∧
    (∀ a t l, Admitted s a 0x39 t → t.tk.op 48 2 = n → n ≠ 0xFFFF → (calOf l n).fail = false →
      (t.tk.op 50 1 = 1 → fld (s.page n) 168 1 ≠ 0 → exec (.readLevelCal a l) s = .next ((s.setTarget n { s.target n with
        offsets := (calOf l n).offsets.foldl (fun m p => m.set (fun _ => []) p.1 (p.2.take (fld (s.page n) 171 1))) (s.target n).offsets, softSince := 0, calibratedAt := s.now }).finish t
          { t.receipt 0 with result := 0 } a.us)) ∧
      (t.tk.op 50 1 = 1 → fld (s.page n) 168 1 = 0 → exec (.readLevelCal a l) s = .next (s.finish t { t.receipt 0 with result := 3 } a.us)) ∧
      (t.tk.op 50 1 = 2 → exec (.interfaceCal a l) s = .next ((s.setTarget n { s.target n with zqShort := true, dqTrained := true, trainedAt := s.now, trainDue := false }).finish t
        { t.receipt 0 with result := 0 } a.us)) ∧
      (t.tk.op 50 1 = 3 → (∀ c ∈ s.flash.crates, c.complete = true → ∀ x ∈ c.lanes, x.target ≠ n) → exec (.scrubCal a []) s = .next (s.finish t { t.receipt 0 with result := 0 } a.us))))

/-- R310 to R314: a corrected error is counted and logged; a lost line of a duplicated region is counted, and its page retired; an idle channel enters self-refresh in REST once its idle time has passed; the elastic
fill ends in READY; a patrol pass is counted, and every channel it reads leaves self-refresh. -/
def Obligations.Ddr4Events : Prop :=
  ∀ (s : State) (c : Fin 4) (page i : Nat), s.ddrRuns = true → Runs s → s.ddr.chans.wf noDdrChan = true →
    ((s.ddrChan c.val).state = .active → page < (s.ddrChan c.val).gib * 262144 → (s.ddrChan c.val).retiredPages.contains page = false →
      ((s.ddrChan c.val).ce = [] → 1 < s.ddr.ceRetire → s.ddr.ce < 65535 →
        ∃ u, exec (.ddrError c page .corrected [.duplicated] i) s = .next u ∧ u.ddr.ce = s.ddr.ce + 1 ∧ u.fault.lastClass = 0x20 ∧ (u.ddrChan c.val).ce = [(page, s.now)] ∧
          (u.ddrChan c.val).retiredPages = (s.ddrChan c.val).retiredPages ∧ u.flash = s.flash ∧ u.vault = s.vault) ∧
      ((s.ddrChan c.val).lostPages = [] → 0 < (s.ddrChan c.val).spares → s.ddr.ue < 65535 →
        ∃ u, exec (.ddrError c page .uncorrectable [.duplicated] i) s = .next u ∧ u.ddr.ue = s.ddr.ue + 1 ∧ page ∈ (u.ddrChan c.val).retiredPages ∧ (u.ddrChan c.val).spares = (s.ddrChan c.val).spares - 1 ∧
          (u.ddrChan c.val).state = .active ∧ u.flash = s.flash ∧ u.vault = s.vault)) ∧
    ((s.ddrChan c.val).state = .active → s.power.mode = .rest → s.ddr.idleMs ≠ 0 →
      ∃ v, v = s.reach ((s.ddrChan c.val).usedAt + msCounts s.ddr.idleMs) ∧ exec (.selfRefresh c true) s = .next (v.setDdrChan c.val { s.ddrChan c.val with state := .selfRefresh })) ∧
    (s.ddr.state = .filling ∨ s.ddr.state = .rekeying → exec .elasticFillComplete s = .next { s with ddr := { s.ddr with state := .ready } }) ∧
    (∃ u, exec (.patrolScrub []) s = .next u ∧ u.ddr.patrols = s.ddr.patrols + 1 ∧ u.ddr.patrolledAt = u.now ∧ u = { s with ddr := u.ddr, ledger := { s.ledger with rtc := u.ledger.rtc } } ∧
      ∀ k, k < 4 → (u.ddrChan k).state ≠ .selfRefresh)

/-- R153 to R156: SET_TIME answers as the checks find, by the time authority in force at its admission; an accepted record within the slew limit sets what is left to slew, with its event, and RESULT is the
correction.
R129 to R131, R136, R138, R154, R155, R160: a boundary freezes the open tick with its present tabs, events and interval and opens the next, numbered one above, at BOUNDARY + STEP; one while the PLLs switch is
held. One act of the slew moves secure time, the remainder and APPLIED; TIME_CONFIG stores its values clamped. -/
def Obligations.TimeRuns : Prop :=
  (∀ (s : State) (a : TkArg) (o : ObjRead) (t : Tk) (b : Bytes) (keys : Option Bytes), Admitted s a 0x1B t → Carries s t o b → PoolServes s t.cls → keys = timeKeysOf t.auth →
    (∃ v, OnlyCrypto s v ∧ exec (.setTime a o) s = .next (if s.timeCheck keys b = 0 then
        (if s.eventFits (s.timeEvent keys b).length then ((v.applyTime keys b).finish t { t.receipt 0 with result := satSigned 32 (s.correction b) } a.us).addEvent 3 (s.timeEvent keys b) else v.finishWith t 0x12 a.us)
      else v.finishWith t (s.timeCheck keys b) a.us)) ∧
    (bit (fld b 2 1) 0 = false → s.correction b ≤ msCounts s.ledger.slewMaxMs →
      s.applyTime keys b = { s with ledger := { s.ledger with slewRemain := s.correction b, slewLast := s.now, uncertain := s.ledger.uncertain && !keys.isNone } })) ∧
  (∀ s : State,
    (s.ledger.running = false → exec .tickBoundary s = .next s) ∧
    (s.ledger.running = true → s.power.pllSwitching = true → exec .tickBoundary s = .next { s with ledger := { s.ledger with boundaryHeld := true } }) ∧
    (s.ledger.running = true → s.power.pllSwitching = false → ∃ u b, exec .tickBoundary s = .next u ∧ u.ledger.builds = s.ledger.builds ++ [b] ∧ u.ledger.current = s.ledger.current + 1 ∧
      u.ledger.began = s.ledger.nextBoundary + s.ledger.stepPending.getD 0 ∧ u.ledger.stepPending = none ∧ u.ledger.nextBoundary = boundaryAfter s.ledger.periodMs u.ledger.began ∧
      u.ledger.periodInForce = s.ledger.periodMs ∧ b.at_.tick = s.ledger.current ∧ b.at_.boundary = s.ledger.nextBoundary ∧ b.prevBoundary = s.ledger.began ∧ b.heads = s.openHeads ∧
      b.events = s.ledger.events ++ s.ledger.periodEvent ∧ u.ledger.records = s.ledger.records) ∧
    (∀ v, v = s.reach (s.ledger.slewLast + 2 ^ s.ledger.slewShift - 1) → (s.power.mode ≠ .off ∨ s.power.pwrOk = true) →
      (0 < s.ledger.slewRemain → exec .slew s = .next { v with
        ledger := { v.ledger with rtc := v.ledger.rtc + 2, slewRemain := s.ledger.slewRemain - 1, applied := s.ledger.applied + 1, slewLast := v.now + 2
                                  nextBoundary := if s.ledger.running ∧ v.now + 1 = s.ledger.nextBoundary then s.ledger.nextBoundary + 1 else s.ledger.nextBoundary } }) ∧
      (s.ledger.slewRemain < 0 → exec .slew s = .next { v with ledger := { v.ledger with slewRemain := s.ledger.slewRemain + 1, applied := s.ledger.applied - 1, slewLast := v.now } }) ∧
      (s.ledger.slewRemain = 0 → exec .slew s = .next s)) ∧
    (∀ v w : BitVec 32, s.mainOn = true → s.dev.ready = true → s.power.mode ≠ .lockdown → ∃ u, exec (.timeConfig (some v) (some w)) s = .next u ∧ u.ledger.slewMaxMs = clamp (v.toNat % 65536) 100 60000 ∧
      u.ledger.slewShift = clamp (v.toNat / 65536 % 16) 10 16 ∧ u.ledger.unsignedMs = min (w.toNat % 65536) 2000 ∧ u.ledger.rtc = s.ledger.rtc ∧ u.tabs = s.tabs ∧ u.vault = s.vault))

/-- R15, R134, R137, R139: the oldest waiting tick is sealed by a signed record with the hash of the record before it, and leaves the queue; the next sealed record becomes durable once its
entries are and the ledger crate has taken it, and waits while an entry of its tick is not durable. The certificates are durable, and the pool has its two engines. -/
def Obligations.RecordsSealInOrder : Prop :=
  ∀ (s : State) (b : TickBuild) (rest : List TickBuild) (k : SignPair) (delay extra : Nat), (∀ c ∈ s.vault.certs, c.durable = true) →
    (s.ledger.builds = b :: rest → s.vault.signing = some k → s.power.mode ≠ .lockdown → Runs s → (∀ l, l.length ≤ 1 → (s.poolEngine 0 false l).isSome = true ∧ (s.poolEngine 0 true l).isSome = true) →
      s.hashersWorking ≠ [] →
      ∃ u r, exec (.tickRecordSealed delay extra) s = .next u ∧ u.ledger.builds = rest ∧ u.ledger.records = s.ledger.records ++ [r] ∧ u.ledger.sealedTick = b.at_.tick ∧ r.at_ = b.at_ ∧
        r.prevHash = s.recordHash (b.at_.tick - 1) ∧ r.root = tickRoot b.heads b.at_.tick ∧ r.signerId = k.id ∧ r.presentCount = b.heads.length ∧ r.entryCount = b.entryCount ∧
        r.prevBoundary = b.prevBoundary ∧ r.heads = b.heads ∧ r.sigEcdsa = signEcdsa k.d ((s.recordOf b k).message s.unitId) (s.drawBytes 32) ∧ u.tabs = s.tabs ∧ u.flash = s.flash) ∧
    (s.ledger.builds = [] → exec (.tickRecordSealed delay extra) s = .next s) ∧
    (∀ r n failed, n = s.ledger.durableTick + 1 → s.record? n = some r →
      ((∃ e ∈ s.tabs.entries, e.commitTick = n ∧ e.programmed = false ∧ e.lost = false) → exec (.tickRecordDurable failed) s = .next s) ∧
      (∀ v w, s.rowsIn n = true → s.inLedger 4 n = false → v = s.ledgerPut { type := 4, key := n, length := (r.bytes s.unitId).length } n failed →
        (v.inLedger 4 n = true → v.inLedger 5 n = false → w = v.ledgerPut { type := 5, key := n, length := 16 + Config.tabs / 8 + 48 * r.presentCount } n [] → w.inLedger 4 n = true → w.inLedger 5 n = true →
          ∃ u, exec (.tickRecordDurable failed) s = .next u ∧ u = { w with ledger := u.ledger } ∧ u.ledger.durableTick = n ∧ u.ledger.records = s.ledger.records ∧ (∀ j ∈ u.ledger.journal, j ∈ s.ledger.journal) ∧
            ∀ j ∈ s.ledger.journal, n < j.tick → j ∈ u.ledger.journal) ∧
        (v.inLedger 4 n = false → ∃ u, exec (.tickRecordDurable failed) s = .next u ∧ u.ledger.durableTick = s.ledger.durableTick ∧ u.fault.lastClass = 0x38)))

/-- R208, R236, R239, R246, R250, R251: a group's next epoch is prepared from a minute before the hour, under the next number and a fresh key, and one whose wrap is durable is not prepared again; at the hour it
becomes current; the events of destroyed keys are recorded; a reseed clears the failures counted, and a failed one counts one more. -/
def Obligations.EpochsTurn : Prop :=
  ∀ s : State,
    (∀ g : Fin 64, s.vaultOpen = true → g.val ∉ s.vault.unopened → g.val ∉ s.vault.late →
      (∀ p, s.vault.prepared.find? (fun e => e.group == g.val) = some p → s.vault.wraps.any (fun w => w.group == g.val && w.epoch == p.epoch && w.durable) = true →
        exec (.epochPreparation g) s = .next (s.reach (s.nextHour - minute))) ∧
      (s.vault.prepared.find? (fun e => e.group == g.val) = none → s.vault.authority.isSome = true → s.entropyOk = true → s.vault.epochs.length + s.vault.prepared.length < tableSize → PoolServes s 1 →
        ∃ u p, exec (.epochPreparation g) s = .next u ∧ u.vault.prepared = s.vault.prepared ++ [p] ∧ p.group = g.val ∧ p.epoch = s.nextEpoch g.val ∧ p.planned = s.nextHour ∧ p.key = s.drawBytes 32)) ∧
    (s.vaultOpen = false → (∀ g, exec (.epochPreparation g) s = .next s) ∧ exec .epochChange s = .next s) ∧
    (∀ (p : PrepEpoch) (w : Wrap), s.vaultOpen = true → (s.ledger.running = false ∨ s.ledger.nextBoundary ≠ s.nextHour) → s.vault.unopened = [] → s.vault.prepared = [p] → p.group < 64 → p.planned ≤ s.nextHour →
      s.vault.wraps = [w] → w.group = p.group → w.epoch = p.epoch → w.durable = true → s.vault.epochs = [] →
      ∃ u, exec .epochChange s = .next u ∧ u.vault.prepared = [] ∧ u.vault.epochs = [{ s.prepRow p with firstTick := s.ledger.current }] ∧ u.vault.wraps = [w] ∧ u.vault.lastHour = s.nextHour ∧ u.tabs = s.tabs) ∧
    (∃ u, exec .shred s = .next u ∧ u.vault.shredding = [] ∧ u.vault.epochs = s.vault.epochs ∧ u.tabs = s.tabs ∧
      (s.tickOpen = true → u.ledger.events = s.ledger.events ++ s.vault.shredding.map (fun p => { type := 0xB, body := leBytes 1 p.1 ++ zeros 3 ++ leBytes 4 p.2 }))) ∧
    exec (.drbgReseed true) s = .next { s with vault := { s.vault with drbgReseeds := s.vault.drbgReseeds + 1, entropyFails := 0 } } ∧
    (s.vault.entropyFails < 2 → exec (.drbgReseed false) s = .next { s with vault := { s.vault with entropyFails := s.vault.entropyFails + 1 } }) ∧
    (∀ r : Fin 64, ∃ u, exec (.grinderReseed r true) s = .next u ∧ u = ({ s with drawn := s.drawn + 32 } : State).setRowEng r.val { s.rowEng r.val with
      grinderSeed := s.drawBytes 32, grinderPos := 0, grinderReseeds := (s.rowEng r.val).grinderReseeds + 1, grinderFails := 0, grinderOk := true }) ∧
    (∀ r : Fin 64, s.crypto.rows.wf noRow = true → ¬ 3 ∣ (s.rowEng r.val).grinderFails + 1 → ∃ u, exec (.grinderReseed r false) s = .next u ∧
      u.rowEng r.val = { s.rowEng r.val with grinderFails := (s.rowEng r.val).grinderFails + 1, grinderOk := false } ∧ u.fault.lastClass = 0x16) ∧
    exec (.poolReseed true) s = .next { s with crypto := { s.crypto with pke := { s.crypto.pke with reseeds := s.crypto.pke.reseeds + 1, fails := 0 } } } ∧
    (¬ 3 ∣ s.crypto.pke.fails + 1 → ∃ u, exec (.poolReseed false) s = .next u ∧ u.crypto.pke.fails = s.crypto.pke.fails + 1 ∧ u.fault.lastClass = 0x16)

/-- R379 to R381, R385, R402, R403: a life-cycle request of the kind its command names is answered by the first check that fails, whose code is shown; one that passes every check starts its
transition, replaces the authority record, or burns its fuses. A LOCKDOWN release and a debug pass are answered in the same way. The pool has engines for the signature checks. -/
def Obligations.RequestsAnswered : Prop :=
  ∀ (s : State) (a : TkArg) (o : ObjRead) (t : Tk) (b : Bytes), Carries s t o b → PoolServes s t.cls →
    (∀ (c : Instr) (k : Nat) (f : State → Tk → Bytes → State) (stuck : List (Fin 32)), (c, k, f) ∈ [(.claim a o, 1, State.beginTransition), (.ownerChange a o, 2, State.beginTransition), (.returnDevice a o, 3, State.beginTransition),
        (.scrap a o, 4, State.beginTransition), (.authorityUpdate a o, 5, fun s t b => s.updateAuthority t b a.us), (.fuse a o stuck, 6, fun s t b => s.burnFuses t b stuck a.us)] →
      Admitted s a 0x41 t → (reqForm b = true → reqKind b = k) →
      ∃ v, OnlyCrypto s v ∧ exec c s = .next (if (s.reqCheck b).2 = 0 then (if s.eventFits 56 then f v t b else v.finishWith t 0x12 a.us)
        else ({ v with guard := { s.guard with lastRefusal := (s.reqCheck b).1 } } : State).finishWith t (s.reqCheck b).2 a.us)) ∧
    (Admitted s a 0x40 t → ∃ v, OnlyCrypto s v ∧ exec (.lockdownRelease a o) s = .next (if (s.releaseCheck b).2 = 0 then (v.releaseLockdown t.id b).finishWith t 0 a.us
      else ({ v with power := { s.power with lockRefusal := (s.releaseCheck b).1 } } : State).finishWith t (s.releaseCheck b).2 a.us)) ∧
    (Admitted s a 0x42 t → ∃ v, OnlyCrypto s v ∧ exec (.debugPass a o) s = .next (if (s.passCheck b).2 = 0 then (if s.eventFits 56 then v.takePass t b a.us else v.finishWith t 0x12 a.us)
      else ({ v with guard := { s.guard with lastRefusal := (s.passCheck b).1 } } : State).finishWith t (s.passCheck b).2 a.us)) ∧
    (reqForm b = true → slice b 8 16 = s.unitId → reqFrom b = s.lifeCount → reqTarget (reqKind b) s.lifeCount = some (reqTo b) → s.guard.transition = none → s.guard.otp.consistent = true →
      slice b 24 16 ≠ s.guard.nonce → s.reqCheck b = (5, 0x13)) ∧
    ((s.beginTransition t b).guard.nonce = [] ∧ (s.beginTransition t b).guard.request0 = some b ∧ (s.beginTransition t b).guard.request1 = some b ∧ (s.beginTransition t b).guard.otp = s.guard.otp ∧
      ∃ tr, (s.beginTransition t b).guard.transition = some tr ∧ tr.phase = 1 ∧ tr.target = reqTo b)

/-- R375, R381, R384, R387, R388, R392, R376: the phases of a transition: phase 1 ends with the intent bit once the event's record is durable, phase 2 of a RETURN or SCRAP wipes, phase 4 burns the done bit;
nothing burns under a supply warning, and a bit that does not burn raises TS30. A nonce is 16 fresh bytes; a pass ends by command and at its expiry; an access under its right reads, and one without it raises
TS29; a consistent counter raises nothing. -/
def Obligations.TransitionsAndPasses : Prop :=
  ∀ s : State,
    (∀ t, s.guard.transition = some t → s.power.warn = false → t.kill = false → t.phase = 1 → (∀ n, t.waitTick = some n → n ≤ s.ledger.durableTick) →
      exec (.transitionPhases false) s = .next { s with guard := { s.guard with otp := s.guard.otp.burnIntent t.target, transition := some { t with phase := 2 } } }) ∧
    (∀ t n, s.guard.transition = some t → t.kill = false → t.phase = 1 → t.waitTick = some n → s.ledger.durableTick < n → exec (.transitionPhases false) s = .next s) ∧
    (∀ b, s.guard.transition.isSome = true → s.power.warn = true → exec (.transitionPhases b) s = .next s) ∧
    (∀ t, s.guard.transition = some t → s.power.warn = false → t.kill = false → t.phase = 2 → 3 ≤ t.kind →
      exec (.transitionPhases false) s = .next { s.wipe t.kind with guard := { (s.wipe t.kind).guard with transition := some { t with phase := 3 } } }) ∧
    (∀ t, s.guard.transition = some t → s.power.warn = false → t.kill = false → t.phase = 3 → t.kind = 3 → t.ticket = none → s.power.resetPending = false → t.target ≤ 64 → 1 ≤ t.target →
      ∃ u, exec (.transitionPhases false) s = .next u ∧ u.guard.otp = s.guard.otp.burnDone t.target ∧ u.guard.otp.counter.getLsbD (2 * (t.target - 1) + 1) = true ∧ u.guard.transition = none ∧
        u.guard.request0 = none ∧ u.guard.request1 = none ∧ u.guard.passActive = false ∧ u.power.mode = .rest ∧ u.flash = s.flash) ∧
    (∀ n, n = 30 ∨ n = 29 → s.armed n = true → (s.src n).level = 2 → s.tamper.queue.length < 256 → s.power.mode ≠ .lockdown →
      (∀ t, n = 30 → s.guard.transition = some t → s.power.warn = false →
        ∃ u e, exec (.transitionPhases true) s = .next u ∧ u.tamper.queue = s.tamper.queue ++ [e] ∧ e.source = 30 ∧ e.detail = t.target % 2 ^ 24 ∧ u.guard = s.guard) ∧
      (∀ k : Nat, n = 30 → ∃ u e, exec (.counterCheck (some k)) s = .next u ∧ u.tamper.queue = s.tamper.queue ++ [e] ∧ e.source = 30 ∧ e.detail = k % 2 ^ 24) ∧
      (∀ (r : Fin 8) (off : Nat), n = 29 → 2 ≤ s.lifeCount → s.scrapped = false → s.guard.passActive = false → s.power.pllSwitching = false →
        ∃ u e, exec (.debugAccess r off) s = .next u ∧ u.tamper.queue = s.tamper.queue ++ [e] ∧ e.source = 29 ∧ e.detail = r.val ∧ e.time = s.now ∧ u.tamper.notified.getLsbD 29 = true)) ∧
    (∃ u, exec .newNonce s = .next u ∧ u = { s with guard := { s.guard with nonce := s.drawBytes 16 }, drawn := s.drawn + 16 } ∧ u.guard.nonce.length = 16) ∧
    exec .endPass s = .next { s with guard := { s.guard with passRights := 0, passActive := false, passVendor := false, passEnds := 0 } } ∧
    (s.guard.passActive = true → s.guard.passEnds < 2 ^ 48 → ∃ u, exec .passExpiry s = .next u ∧ u.guard.passActive = false ∧ u.guard.passRights = 0 ∧ s.guard.passEnds ≤ u.now ∧ u.ledger.events = s.ledger.events) ∧
    (∀ (r : Fin 8) (off : Nat), 2 ≤ s.lifeCount → s.scrapped = false → s.guard.passActive = true → s.guard.passRights.getLsbD r.val = true →
      (r ≠ 1 → r ≠ 5 → exec (.debugAccess r off) s = .next s) ∧ (r = 1 → off % 4 = 0 → off < 0x100000 → exec (.debugAccess r off) s = .next (s.readOut (s.wordAt off))) ∧
      (r = 5 → exec (.debugAccess r off) s = .next (s.mainReset s.power.resetCause 1 .rest))) ∧
    (s.guard.otp.consistent = true → exec (.counterCheck none) s = .next s)

/-- R325 to R329: a cartridge is seated, brought up to READY, removed, timed out and put to sleep. A removed slot loses its power and its cartridge's identity, and the session that wrote to it waits;
an identity outside the table, or no mode whose check read passes, fails the slot. -/
def Obligations.SlotsComeAndGo : Prop :=
  ∀ (s : State) (n : Fin 4), s.boards.slots.wf noSlot = true →
    exec (.cartridgeInsertion n) s = .next (s.setSlot n.val { s.slot n.val with seated := true }) ∧
    (∀ ans, (s.slot n.val).seated = false → exec (.slotBringup n ans) s = .next s) ∧
    (∀ (ans : BringAns) (v : BitVec 120), s.linkRuns = true → (s.slot n.val).seated = true → (s.slot n.val).state = .bringup → ans.ident = some v → ((identOf v).known = false ∨ ans.mode = 0) →
      ∃ u, exec (.slotBringup n ans) s = .next u ∧ (u.slot n.val).state = .failed ∧ (∀ m, m ≠ n.val → u.slot m = s.slot m) ∧ u.boards.sessions = s.boards.sessions) ∧
    (∀ (ans : BringAns) (v : BitVec 120), s.linkRuns = true → (s.slot n.val).seated = true → (s.slot n.val).state = .empty → ans.ident = some v → (identOf v).known = true → ans.mode = 2 →
      s.boards.sessions = [] → s.vault.pairing = [] → (∀ m, (s.slot m).rpaWriting = false) →
      ∃ u, exec (.slotBringup n ans) s = .next u ∧ (u.slot n.val).state = .ready ∧ (u.slot n.val).link = .transfer ∧ (u.slot n.val).mode = 2 ∧ (u.slot n.val).ident = some (identOf v) ∧
        (u.slot n.val).pwren = true ∧ u.boards.events.getLsbD n.val = true ∧ (∀ m, m ≠ n.val → u.slot m = s.slot m) ∧ u.power.hTotal = s.power.hTotal.set zeroOf (41 + n.val) ((s.power.hTotal.get zeroOf (41 + n.val) + 1) % 65536)) ∧
    ((s.slot n.val).seated = true → (s.slot n.val).state ≠ .empty → s.power.pllSwitching = false → ∃ u, exec (.removal n) s = .next u ∧ u.slot n.val = { (s.slot n.val).unpowered with seated := false } ∧
      (∀ m, m ≠ n.val → u.slot m = s.slot m) ∧ u.boards.events.getLsbD (4 + n.val) = true ∧ (∀ x ∈ u.boards.sessions, x.slot = n.val → x.state ≠ .opened) ∧ u.tabs = s.tabs) ∧
    (∀ ans : BringAns, s.linkRuns = true → (s.slot n.val).seated = true → (s.slot n.val).state = .ready → ans.ident = none →
      ∃ u, exec (.linkTimeout n ans) s = .next u ∧ (u.slot n.val).state = .failed ∧ (∀ x ∈ u.boards.sessions, x.slot = n.val → x.state ≠ .opened) ∧ u.tabs = s.tabs) ∧
    (s.linkRuns = true → (s.slot n.val).state = .ready → (s.slot n.val).link = .transfer →
      SetsSlot (.slotIdle n) s n.val (if (s.slot n.val).gen = 2 then { s.slot n.val with state := .sleep, link := .sleep, ck := false, cmd := commandFrame 40 0 } else { s.slot n.val with ck := false }))

/-- R317, R318, R320, R322 to R324: a short answer, a long answer and a block are read back from the frames and lines that carry them. Each link command of the bring-up and the transfers goes out as
its frame and leaves this in its slot, with a status word that reports no error: no other slot, session or pairing changes. A frame that is no answer to the command is counted and the command repeated;
a cartridge whose link state does not allow the command leaves the slot as it was, but for the frame; an unpowered slot sends nothing. -/
def Obligations.LinkCommands : Prop :=
  (∀ (k : Fin 64) (v : BitVec 32) (i : BitVec 120), shortPayload k.val (shortAnswer k.val v) = some v ∧ longPayload (longAnswer i) = some i) ∧
  (∀ (mode : Nat) (b : Bytes), blockRead (lineCount mode) b.length (blockLines (lineCount mode) b) = some b) ∧
  ∀ (s : State) (n : Fin 4) (v : BitVec 32) (blk : BitVec 32) (k : BitVec 16) (sent : Nat → Nat → Slot), s.boards.slots.wf noSlot = true → Plain v →
    (∀ i a, sent i a = { s.slot n.val with cmd := commandFrame i a }) →
    (s.linkRuns = true → (s.slot n.val).seated = true → (s.slot n.val).state ≠ .failed → s.sessionOn n.val = none →
      SetsSlot (.mhGoIdle n) s n.val { (s.slot n.val).powered with
        state := .bringup, link := .idle, mode := 0, checked := false, identified := false, count := none, manifest := none, cmd := commandFrame 0 0 }) ∧
    (OnLink s n.val .idle → v.getLsbD 31 = true → SetsSlot (.mhIdentify n (shortAnswer 1 v)) s n.val { sent 1 0x01000000 with link := .ready, identified := true, repeats := 0 }) ∧
    (OnLink s n.val .idle → v.getLsbD 31 = false → SetsSlot (.mhIdentify n (shortAnswer 1 v)) s n.val { sent 1 0x01000000 with repeats := 0 }) ∧
    (∀ i : BitVec 120, OnLink s n.val .ready → (identOf i).known = true → SetsSlot (.mhReadIdent n (longAnswer i)) s n.val { sent 2 0 with ident := some (identOf i), repeats := 0 }) ∧
    (OnLink s n.val .ready → SetsSlot (.mhSelect n (shortAnswer 3 v)) s n.val ({ sent 3 0 with status := v, repeats := 0 }.at_ .transfer)) ∧
    (∀ m : Fin 5, OnLink s n.val .transfer → m ≠ 0 → ((s.slot n.val).gen = 2 ∨ m.val ≤ 2) →
      SetsSlot (.mhSwitch n m (shortAnswer 6 v)) s n.val { sent 6 m.val with status := v, repeats := 0, mode := m.val, checked := false }) ∧
    (∀ l, OnLink s n.val .transfer → blockRead (lineCount (s.slot n.val).mode) 64 l = some checkPattern →
      SetsSlot (.mhReadCheck n (shortAnswer 8 v) l) s n.val { sent 8 0 with status := v, lines := l, checked := true, repeats := 0 }) ∧
    (∀ l, OnLink s n.val .transfer → blockRead (lineCount (s.slot n.val).mode) 64 l ≠ some checkPattern → 1 < (s.slot n.val).mode →
      SetsSlot (.mhReadCheck n (shortAnswer 8 v) l) s n.val { sent 8 0 with
        status := v, lines := l, checked := false, repeats := 0, mode := (s.slot n.val).mode - 1
        crcErrors := if (blockRead (lineCount (s.slot n.val).mode) 64 l).isSome then (s.slot n.val).crcErrors else sat 16 ((s.slot n.val).crcErrors + 1) }) ∧
    (OnLink s n.val .receiving → SetsSlot (.mhStop n (shortAnswer 12 v)) s n.val ({ sent 12 0 with status := v, repeats := 0 }.at_ .programming)) ∧
    (OnLink s n.val .sending → SetsSlot (.mhStop n (shortAnswer 12 v)) s n.val ({ sent 12 0 with status := v, repeats := 0 }.at_ .transfer)) ∧
    (∀ w, OnLink s n.val (s.slot n.val).link → SetsSlot (.mhStatus n (shortAnswer 13 w)) s n.val { (sent 13 0).at_ (linkOf w (s.slot n.val).link) with status := w, repeats := 0 }) ∧
    (∀ bl l, OnLink s n.val .transfer → v.getLsbD 31 = false → blocksRead (lineCount (s.slot n.val).mode) 512 bl = some l →
      SetsSlot (.mhReadBlocks n blk (shortAnswer 17 v) bl) s n.val { { sent 17 blk.toNat with status := v, repeats := 0 }.at_ (if (s.slot n.val).count.isSome then .transfer else .sending) with
        count := none, lines := bl.getLastD [], block := l.getLastD [] }) ∧
    (∀ bl, OnLink s n.val .transfer → v.getLsbD 31 = true → SetsSlot (.mhReadBlocks n blk (shortAnswer 17 v) bl) s n.val { sent 17 blk.toNat with status := v, repeats := 0, count := none }) ∧
    (∀ data token, OnLink s n.val .transfer → v.getLsbD 31 = false → v.getLsbD 30 = false → tokenOf token = some 2 →
      SetsSlot (.mhWriteBlocks n blk data (shortAnswer 18 v) token) s n.val { { sent 18 blk.toNat with status := v, repeats := 0 }.at_ (if (s.slot n.val).count.isSome then .transfer else .receiving) with
        count := none, lines := blockLines (lineCount (s.slot n.val).mode) (lastBlock data) }) ∧
    (∀ data token, OnLink s n.val .transfer → v.getLsbD 31 = false → v.getLsbD 30 = false → tokenOf token ≠ some 2 → (s.slot n.val).repeats < 3 →
      SetsSlot (.mhWriteBlocks n blk data (shortAnswer 18 v) token) s n.val { sent 12 0 with
        status := v, count := none, lines := blockLines (lineCount (s.slot n.val).mode) (lastBlock data), repeats := (s.slot n.val).repeats + 1
        crcErrors := if tokenOf token = some 5 then sat 16 ((s.slot n.val).crcErrors + 1) else (s.slot n.val).crcErrors }) ∧
    (OnLink s n.val .transfer → k ≠ 0 → SetsSlot (.mhSetCount n k (shortAnswer 23 v)) s n.val { sent 23 k.toNat with status := v, repeats := 0, count := some k.toNat }) ∧
    (∀ l b, OnLink s n.val .transfer → blockRead (lineCount (s.slot n.val).mode) 512 l = some b →
      SetsSlot (.mhReadKey n (shortAnswer 37 v) l) s n.val { sent 37 0 with status := v, repeats := 0, lines := l, block := b, keyBlock := b }) ∧
    (OnLink s n.val .transfer → (s.slot n.val).gen = 2 → SetsSlot (.mhSleep n (shortAnswer 40 v)) s n.val { sent 40 0 with
      status := v, repeats := 0, link := .sleep, ck := false, state := if (s.slot n.val).state = .ready then .sleep else (s.slot n.val).state }) ∧
    (OnLink s n.val .sleep → (s.slot n.val).gen = 2 → SetsSlot (.mhWake n (shortAnswer 41 v)) s n.val { sent 41 0 with
      status := v, repeats := 0, link := .transfer, ck := true, state := if (s.slot n.val).state = .sleep then .ready else (s.slot n.val).state }) ∧
    (∀ (f : BitVec 48) (c : Instr) (i a : Nat) (l : LinkState),
      (c, i, a, l) ∈ [(Instr.mhIdentify n f, 1, 0x01000000, .idle), (.mhSelect n f, 3, 0, .ready), (.mhSwitch n 2 f, 6, 2, .transfer), (.mhStop n f, 12, 0, .receiving), (.mhStatus n f, 13, 0, (s.slot n.val).link),
        (.mhReadBlocks n blk f [], 17, blk.toNat, .transfer), (.mhWriteBlocks n blk [] f 5, 18, blk.toNat, .transfer), (.mhSetCount n 1 f, 23, 1, .transfer), (.mhReadKey n f [], 37, 0, .transfer)] →
      OnLink s n.val l → (∀ p, f ≠ shortAnswer i p) → (s.slot n.val).repeats < 3 →
      SetsSlot c s n.val { sent i a with repeats := (s.slot n.val).repeats + 1, crcErrors := sat 16 ((s.slot n.val).crcErrors + 1) }) ∧
    (∀ (f : BitVec 48) (c : Instr) (i a : Nat), s.linkRuns = true → (s.slot n.val).pwren = true → (s.slot n.val).state ≠ .failed → (s.slot n.val).link ≠ .transfer →
      (c, i, a) ∈ [(Instr.mhSwitch n 2 f, 6, 2), (.mhReadCheck n f [], 8, 0), (.mhReadBlocks n blk f [], 17, blk.toNat), (.mhWriteBlocks n blk [] f 5, 18, blk.toNat), (.mhSetCount n 1 f, 23, 1), (.mhReadKey n f [], 37, 0)] →
      SetsSlot c s n.val (sent i a)) ∧
    (∀ (f : BitVec 48) (c : Instr), c ∈ [Instr.mhIdentify n f, .mhReadIdent n 0, .mhSelect n f, .mhSwitch n 2 f, .mhReadCheck n f [], .mhStop n f, .mhStatus n f, .mhReadBlocks n blk f [], .mhWriteBlocks n blk [] f 5,
      .mhSetCount n 1 f, .mhReadKey n f [], .mhSleep n f, .mhWake n f] → (s.slot n.val).pwren = false → exec c s = .next s)

/-- R330 to R334: the replay-protected area: a counter read whose MAC and NONCE hold takes the counter, a response that fails its check is none; a write sends its units under the counter and
stands under way; its result takes the counter one up; a manifest read keeps the bytes; without a key nothing is read; PAIR keeps a key for the cartridge. -/
def Obligations.ReplayProtection : Prop :=
  ∀ (s : State) (n : Fin 4) (v : BitVec 32) (sent : Nat → Nat → Slot), OnLink s n.val .transfer → s.boards.slots.wf noSlot = true → Plain v → (∀ i a, sent i a = { s.slot n.val with cmd := commandFrame i a }) →
    (s.cartKey n.val = none → (∀ f l, SetsSlot (.mhRpaRead n f l) s n.val (sent 32 (if (s.slot n.val).rpaWriting then 1 else 16))) ∧
      ((s.slot n.val).state = .ready → ∀ f l, SetsSlot (.mhCounterRead n f l) s n.val { sent 32 1 with enrolled := false })) ∧
    (∀ key, s.cartKey n.val = some key →
      (∀ l f, blockRead (lineCount (s.slot n.val).mode) 512 l = some f → ∃ u, exec (.mhCounterRead n (shortAnswer 32 v) l) s = .next u ∧ u = { s with boards := u.boards, drawn := s.drawn + 16 } ∧
        u.boards.out = s.boards.out ++ [.rpa n.val (rpaFrames key [rpaPart [] (s.drawBytes 16) 0 0 0 1])] ∧ (∀ m, m ≠ n.val → u.slot m = s.slot m) ∧
        u.slot n.val = (if rpaVerify key (s.drawBytes 16) 0x0101 [f] && rpaOk [f]
          then { sent 32 1 with status := v, repeats := 0, lines := l, block := f, enrolled := true, rpaCounter := fld f 272 4 } else { sent 32 1 with status := v, repeats := 0, lines := l, block := f })) ∧
      (∀ addr units, (s.slot n.val).enrolled = true → (s.slot n.val).rpaWriting = false → 1 ≤ units.length → units.length ≤ 16 → addr + units.length ≤ 16384 →
        ∃ u, exec (.mhRpaWrite n addr units (shortAnswer 33 v)) s = .next u ∧ (u.slot n.val).rpaWriting = true ∧ (u.slot n.val).rpaSent = units.map (fitTo 256) ∧ (u.slot n.val).rpaAddr = addr ∧
          (u.slot n.val).rpaCounter = (s.slot n.val).rpaCounter ∧ (u.slot n.val).cmd = commandFrame 33 units.length ∧
          u.boards.out = s.boards.out ++ [.rpa n.val (rpaFrames key (units.map (fun x => rpaPart (fitTo 256 x) (s.drawBytes 16) (s.slot n.val).rpaCounter addr units.length 2))),
            .rpa n.val (rpaFrames key [rpaPart [] (u.slot n.val).rpaNonce 0 0 0 4])] ∧ ∀ m, m ≠ n.val → u.slot m = s.slot m) ∧
      (∀ l f, (s.slot n.val).rpaWriting = true → blocksRead (lineCount (s.slot n.val).mode) 512 l = some [f] → rpaVerify key (s.slot n.val).rpaNonce 0x0104 [f] = true → rpaOk [f] = true →
        fld f 272 4 = (s.slot n.val).rpaCounter + 1 → ∃ u, exec (.mhRpaRead n (shortAnswer 32 v) l) s = .next u ∧ (u.slot n.val).rpaCounter = (s.slot n.val).rpaCounter + 1 ∧ (u.slot n.val).rpaWriting = false ∧
          ∀ m, m ≠ n.val → u.slot m = s.slot m) ∧
      (∀ l b, (s.slot n.val).rpaWriting = false → (s.slot n.val).state = .ready → blocksRead (lineCount (s.slot n.val).mode) 512 l = some b → b.length = 16 → rpaVerify key (s.drawBytes 16) 0x0103 b = true →
        rpaOk b = true → ∃ u, exec (.mhRpaRead n (shortAnswer 32 v) l) s = .next u ∧ u.slot n.val = { sent 32 16 with
          status := v, repeats := 0, lines := l.getLastD [], block := b.getLastD [], manifest := some (b.map (fun f => f.take 256)).flatten } ∧ ∀ m, m ≠ n.val → u.slot m = s.slot m)) ∧
    (∀ q k, (s.slot n.val).keyBlock ≠ [] → s.vault.vaultKey = some k → s.entropyOk = true → s.vault.pairing.length < 4096 → p256.decode ((s.slot n.val).keyBlock.take 64) = some q → PoolServes s 2 →
      ∃ u, exec (.mhPair n (shortAnswer 36 v)) s = .next u ∧ (∃ p ∈ u.vault.pairing, p.maker = (s.slot n.val).maker ∧ p.serial = (s.slot n.val).serial) ∧
        (∀ p ∈ s.vault.pairing, (p.maker = (s.slot n.val).maker ∧ p.serial = (s.slot n.val).serial) ∨ p ∈ u.vault.pairing) ∧ u.vault.imageSerial = s.vault.imageSerial + 1 ∧
        (u.slot n.val).rpaCounter = 0 ∧ (u.slot n.val).enrolled = false ∧ u.vault.epochs = s.vault.epochs)

/-- R335 to R339: a card is activated at the class at which it answered, goes through SELECT, the certificate reads and INTERNAL AUTHENTICATE, and ends AUTHORISED with its rights or REFUSED with the
first check that failed; each APDU sent is the one of its step; removal and expiry end its authorisation. All while the device issues commands. -/
def Obligations.CardsAuthorise : Prop :=
  ∀ (s : State) (i : Fin 2) (sent : Card), s.linkRuns = true → s.boards.cards.wf noCard = true →
    sent = { s.card i.val with
      state := .authenticating, sent := (s.card i.val).command (if !(s.card i.val).t1 && decide ((s.card i.val).lastSw / 256 = 0x6C) && (s.card i.val).sent != [] then some ((s.card i.val).lastSw % 256) else none) } →
    exec (.cardInsertion i) s = .next (s.setCard i.val { s.card i.val with present := true }) ∧
    (∀ (a : AtrAns) (b : Bool), (s.card i.val).present = true → (s.card i.val).state = .empty → 1 ≤ a.cls → a.cls ≤ 3 → (a.t0 = true ∨ a.t1 = true) →
      ∃ u, exec (.cardActivation i (some a) b) s = .next u ∧ u.boards.slots = s.boards.slots ∧ u.card i.val = {
        present := true, state := .authenticating, vsel := 4 - a.cls, cls := a.cls, t1 := a.t1, pps := b, fi := if b then a.fi else 372, di := if b then min 16 a.di else 1
        clockKhz := if b then min 5000 a.maxKhz else 4000, ifsd := if a.t1 then 254 else 0, crc := a.t1 && a.crc }) ∧
    (∀ b, (s.card i.val).present = true → (s.card i.val).state = .empty → ∃ u, exec (.cardActivation i none b) s = .next u ∧ (u.card i.val).state = .refused ∧ (u.card i.val).refusal = 1 ∧
      u.boards.events.getLsbD (8 + i.val) = true) ∧
    ((s.card i.val).inExchange = true → (s.card i.val).getPending = false → (s.card i.val).step = 0 →
      exec (.apduSelectByName i (some 0x9000)) s = .next (s.setCard i.val { sent with lastSw := 0x9000, buf := [], step := 1 })) ∧
    (∀ d, (s.card i.val).inExchange = true → (s.card i.val).getPending = false → (s.card i.val).step = 1 →
      ((s.card i.val).reads < 13 → ((s.card i.val).cert ++ ((s.card i.val).buf ++ d).take 256).length < 3568 → exec (.apduReadBinary i d (some 0x9000)) s = .next (s.setCard i.val { sent with
        lastSw := 0x9000, buf := [], reads := (s.card i.val).reads + 1, cert := (s.card i.val).cert ++ ((s.card i.val).buf ++ d).take 256 })) ∧
      ((s.card i.val).reads = 13 → exec (.apduReadBinary i d (some 0x9000)) s = .next ((s.drewBytes 16).setCard i.val { sent with
        lastSw := 0x9000, buf := [], reads := 14, cert := ((s.card i.val).cert ++ ((s.card i.val).buf ++ d).take 256).take 3568, step := 2, challenge := s.drawBytes 16 ++ s.unitId }))) ∧
    (∀ d, (s.card i.val).inExchange = true → (s.card i.val).getPending = false → (s.card i.val).step = 2 → PoolServes s 2 →
      s.cardCheck (s.card i.val).cert (s.card i.val).challenge ((s.card i.val).buf ++ d) = 0 → ∃ u, exec (.apduInternalAuthenticate i d (some 0x9000)) s = .next u ∧ (u.card i.val).state = .authorised ∧
        (u.card i.val).rights = fld (s.card i.val).cert 4 4 ∧ (u.card i.val).authAt = s.now ∧ u.boards.events.getLsbD (8 + i.val) = true ∧ u.vault = s.vault) ∧
    (∀ d r, (s.card i.val).inExchange = true → (s.card i.val).getPending = false → (s.card i.val).step = 2 → PoolServes s 2 →
      s.cardCheck (s.card i.val).cert (s.card i.val).challenge ((s.card i.val).buf ++ d) = r → r ≠ 0 → ∃ u, exec (.apduInternalAuthenticate i d (some 0x9000)) s = .next u ∧ (u.card i.val).state = .refused ∧
        (u.card i.val).refusal = r ∧ (u.card i.val).rights = 0) ∧
    (∀ (d : Bytes) (sw : BitVec 16), (s.card i.val).inExchange = true → (s.card i.val).t1 = false → (s.card i.val).getPending = true → sw.toNat / 256 = 0x61 →
      exec (.apduGetResponse i d (some sw)) s = .next (s.setCard i.val { s.card i.val with
        state := .authenticating, sent := [0x00, 0xC0, 0x00, 0x00, BitVec.ofNat 8 (s.card i.val).lastSw], lastSw := sw.toNat, buf := (s.card i.val).buf ++ d })) ∧
    ((s.card i.val).present = true → (s.card i.val).state ≠ .empty → ∃ u, exec (.cardRemoval i) s = .next u ∧ u.card i.val = {} ∧ u.boards.events.getLsbD (10 + i.val) = true ∧
      (∀ k, k ≠ i.val → u.card k = s.card k)) ∧
    ((s.card i.val).state = .authorised → ∃ u, exec (.authorisationExpiry i) s = .next u ∧ (u.card i.val).state = .expired ∧ (u.card i.val).rights = 0 ∧ (u.card i.val).step = 0 ∧
      u.ledger = (s.reach ((s.card i.val).authAt + s.boards.cardMin * 60 * 32768)).ledger ∧ u.card (1 - i.val) = s.card (1 - i.val)) ∧
    ((s.card i.val).inExchange = false → ∀ d sw, exec (.apduSelectByName i sw) s = .next s ∧ exec (.apduReadBinary i d sw) s = .next s ∧ exec (.apduInternalAuthenticate i d sw) s = .next s ∧
      exec (.apduGetResponse i d sw) s = .next s)

/-- R331, R340 to R342, R348: an EXPORT opens a session under the next identifier with a hold on its selection, an ABANDON ends its session and its hold, a WIPE and an ENROL answer the cartridge's
failure with MEDIA_ERROR, and an enrolled cartridge has its key in the next vault image; a request that breaks its format ends with BAD_TICKET, one that is not permitted with NOT_PERMITTED, one without
room with NO_RESOURCES. -/
def Obligations.ExportTickets : Prop :=
  ∀ (s : State) (a : TkArg) (t : Tk) (b : Bytes) (ca : CartAns) (r : ExpReq), Admitted s a 0x23 t → s.masters t = true → s.power.warn = false → exportReq b (t.tk.op 56 4) = some r →
    exec (.exportOpen a (.ok []) ca) s = .next (s.finishWith t 0x10 a.us) ∧
    (s.exportMay (t.tk.op 60 1) r = false →
      (r.kind = 1 → exec (.enrol a (.ok b) ca) s = .next (s.finishWith t 0x13 a.us)) ∧ (r.kind = 2 → exec (.exportOpen a (.ok b) ca) s = .next (s.finishWith t 0x13 a.us)) ∧
      (r.kind = 3 → exec (.wipe a (.ok b) ca) s = .next (s.finishWith t 0x13 a.us)) ∧ (r.kind = 4 → exec (.abandon a (.ok b) ca) s = .next (s.finishWith t 0x13 a.us))) ∧
    (s.exportMay (t.tk.op 60 1) r = true →
      (r.kind = 1 → s.pairRoom (t.tk.op 60 1) = false → exec (.enrol a (.ok b) ca) s = .next (s.finishWith t 0x12 a.us)) ∧
      (r.kind = 1 → s.pairRoom (t.tk.op 60 1) = true → ca.ok = false → exec (.enrol a (.ok b) ca) s = .next (s.finishWith t 0x20 a.us)) ∧
      (r.kind = 1 → s.pairRoom (t.tk.op 60 1) = true → ca.ok = true → ca.keyBlock.length = 512 → s.entropyOk = true → (p256.decode (ca.keyBlock.take 64)).isSome = true → s.vault.vaultKey.isSome = true →
        s.boards.slots.wf noSlot = true → PoolServes s 2 → ∃ u, exec (.enrol a (.ok b) ca) s = .next u ∧
          (∃ p ∈ u.vault.pairing, p.maker = (s.slot (t.tk.op 60 1)).maker ∧ p.serial = (s.slot (t.tk.op 60 1)).serial) ∧
          u.vault.imageSerial = s.vault.imageSerial + 1 ∧ u.tabs.holds = s.tabs.holds ∧ u.tabs.entries = s.tabs.entries) ∧
      (r.kind = 3 → exec (.wipe a (.ok b) ca) s = .next (if ca.ok then (((s.rouse (t.tk.op 60 1)).writeManifest (t.tk.op 60 1) (zeros 4096)).takeNext.settleHx).finishWith t 0 a.us else s.finishWith t 0x20 a.us)) ∧
      (r.kind = 2 → (4096 ≤ s.tabs.holds.length ∨ s.eventFits 24 = false) → exec (.exportOpen a (.ok b) ca) s = .next (s.finishWith t 0x12 a.us)) ∧
      (r.kind = 2 → ca.ok = true → s.tabs.holds.length < 4096 → s.eventFits 24 = true → (∀ y ∈ s.boards.sessions, y.id ≤ s.boards.lastSession) → ∃ u x, exec (.exportOpen a (.ok b) ca) s = .next u ∧
        u.boards.sessions = s.boards.sessions ++ [x] ∧ x.id = s.boards.lastSession + 1 ∧ x.state = .opened ∧ x.slot = t.tk.op 60 1 ∧ x.ranges = r.ranges ∧ x.content = r.content ∧ x.headless = false ∧
        x.confirmed = 0 ∧ u.boards.lastSession = s.boards.lastSession + 1 ∧ x.hold = s.tabs.holdHigh + 1 ∧ u.tabs.holds = s.tabs.holds ++ [s.selectionHold r.ranges] ∧ u.tabs.entries = s.tabs.entries) ∧
      (∀ x, r.kind = 4 → s.boards.sessions = [x] → x.id = r.session → x.state = .waiting → ∃ u, exec (.abandon a (.ok b) ca) s = .next u ∧ u.boards.sessions = [] ∧
        r.session ∈ u.boards.abandoned ∧ u.tabs.holds = s.tabs.holds.filter (fun h => h.id != x.hold) ∧ u.boards.events.getLsbD 13 = true))

/-- R344, R346, R348, R350, R351: a stream unit that the cartridge accepts and that fills no part and no checkpoint confirms one unit more, the last one closes the session and releases its hold,
one that is not accepted confirms none; head-less export opens on the lowest enrolled blank cartridge, is abandoned 10 minutes after its cartridge has gone, and HX_ST follows it, code 7 for 5 s. -/
def Obligations.SessionsRun : Prop :=
  ∀ (s : State) (n : Fin 4) (x : Session) (tok : BitVec 5),
    (s.boards.sessions = [x] → s.sessionOn n.val = some x → s.linkRuns = true → s.power.mode ≠ .lockdown → (s.slot n.val).state = .ready → (s.slot n.val).gen = 2 → s.streamReady x = true →
      s.boards.slots.wf noSlot = true →
      (tokenOf tok = some 2 → x.offset + (x.confirmed + 1) * 16384 < (s.stream x).length → x.confirmed + 1 < (s.slot n.val).room → (x.confirmed + 1) % 256 ≠ 0 →
        ∃ u, exec (.streamUnitWrite n tok false []) s = .next u ∧ u.boards.sessions = [{ x with confirmed := x.confirmed + 1, recent := x.recent ++ [sha384 (s.unitData x (x.confirmed + 1))] }] ∧
          u.boards.out = s.boards.out ++ [.unit n.val (x.confirmed + 1) (s.unitData x (x.confirmed + 1))] ∧ u.tabs = s.tabs ∧ u.vault = s.vault) ∧
      (tokenOf tok = some 2 → (s.stream x).length ≤ x.offset + (x.confirmed + 1) * 16384 → ∃ u, exec (.streamUnitWrite n tok false []) s = .next u ∧ u.boards.sessions = [] ∧ u.boards.shownState = .closed ∧
        u.boards.shownId = x.id ∧ u.tabs.holds = s.tabs.holds.filter (fun h => h.id != x.hold) ∧ u.boards.events.getLsbD 12 = true ∧ u.tabs.entries = s.tabs.entries) ∧
      (tokenOf tok ≠ some 2 → ∃ u, exec (.streamUnitWrite n tok false []) s = .next u ∧ u.boards.sessions = [x] ∧ u.tabs = s.tabs)) ∧
    (s.sessionOn n.val = none → exec (.streamUnitWrite n tok false []) s = .next s) ∧
    (s.boards.hx < 5 → exec .headlessAvailable s = .next { s with boards := { s.boards with hx := s.hxBase } }) ∧
    (5 ≤ s.boards.hx → exec .headlessAvailable s = .next s) ∧
    (s.hasRight 0 1 = true → s.headlessOk = true → s.linkRuns = true → s.freshSlot 0 = true → s.tabs.holds.length < 4096 → s.eventFits 24 = true →
      ∃ u y, exec .headlessSessionOpen s = .next u ∧ u.boards.sessions = [y] ∧ y.headless = true ∧ y.slot = 0 ∧ y.content = 7 ∧ y.ranges = s.headlessRanges ∧
        u.boards.lastSession = s.boards.lastSession + 1 ∧ u.tabs.entries = s.tabs.entries) ∧
    (s.headlessOk = false → exec .headlessSessionOpen s = .next s) ∧
    (∀ b, s.boards.sessions = [x] → x.headless = true → x.state = .waiting → x.removedAt = some b → ∃ u, exec .cartridgeReturnTimeout s = .next u ∧ u.boards.sessions = [] ∧
      x.id ∈ u.boards.abandoned ∧ u.boards.hx = 6 ∧ u.tabs.holds = s.tabs.holds.filter (fun h => h.id != x.hold) ∧ u.ledger.rtc = (s.reach (b + 600 * 32768)).ledger.rtc) ∧
    (∀ v, v = s.reach (s.boards.hxAt + 5 * 32768) → s.boards.hx = 7 → exec .hxStTimeout s = .next { v with boards := { v.boards with hx := if 5 ≤ s.boards.hxBefore then s.boards.hxBefore else v.hxBase } }) ∧
    (s.boards.hx ≠ 7 → exec .hxStTimeout s = .next s)

/-- R355, R356, R359, R360, R367, R368: one detection of an armed source is counted, logged with its level, detail and time, and shown where its condition lasts; at NOTIFY and above its bit is set;
at SCRUB, with no engine call waiting or running, no key slot and no debug pass is left and the vault's keys are untouched; in LOCKDOWN only a KILL acts. A source that is not armed does nothing, and nothing detects without main power. -/
def Obligations.TamperResponds : Prop :=
  ∀ (s : State) (n d fr : Nat), n < 31 → s.tamper.srcs.wf Src.at_ = true → s.crypto.rows.wf noRow = true →
    (s.mainOn = false → ∀ l, exec (.tamperDetection l fr) s = .next s) ∧
    (s.armed n = false → exec (.tamperDetection [{ source := n, detail := d }] fr) s = .next s) ∧
    (s.mainOn = true → s.armed n = true → 1 ≤ (s.src n).level → (s.src n).level ≤ 3 → s.tamper.queue.length < 256 → s.power.mode ≠ .lockdown →
      ((s.src n).level = 3 → RowsIdle s ∧ PoolIdle s ∧ s.crypto.pke.deferred = []) →
      ∃ u e, exec (.tamperDetection [{ source := n, detail := d }] fr) s = .next u ∧ u.tamper.queue = s.tamper.queue ++ [e] ∧ e.source = n ∧ e.level = (s.src n).level ∧ e.applied = (s.src n).level ∧
        e.time = s.now ∧ e.fraction = fr ∧ e.detail = d % 2 ^ 24 ∧ (u.src n).count = sat 16 ((s.src n).count + 1) ∧ (u.src n).active = ((s.src n).active || lasting n) ∧
        (2 ≤ (s.src n).level → u.tamper.notified.getLsbD n = true) ∧ ((s.src n).level = 1 → u.tamper.notified = s.tamper.notified) ∧
        ((s.src n).level = 3 → (∀ r, (u.rowEng r).keys = [] ∧ (u.rowEng r).hmacKeys = []) ∧ u.guard.passActive = false ∧ u.guard.passRights = 0) ∧
        u.vault.epochs = s.vault.epochs ∧ u.vault.vaultKey = s.vault.vaultKey ∧ u.tabs = s.tabs ∧ u.power.mode = s.power.mode ∧ u.guard.otp = s.guard.otp) ∧
    (s.mainOn = true → s.armed n = true → (s.src n).level = 4 → s.power.mode ≠ .lockdown →
      ∃ u, exec (.tamperDetection [{ source := n, detail := d }] fr) s = .next u ∧ u.power.mode = .lockdown ∧ u.power.lockCause = 1 ∧ u.ledger.running = false ∧
        u.vault.enclosure = none ∧ u.vault.vaultKey = none ∧ u.vault.epochs = [] ∧ u.vault.signing = none ∧ u.vault.pairing = [] ∧ u.vault.authority = none ∧ u.guard.otp = s.guard.otp) ∧
    (s.mainOn = true → s.armed n = true → (s.src n).level = 5 → s.power.warn = false →
      ∃ u, exec (.tamperDetection [{ source := n, detail := d }] fr) s = .next u ∧ u.guard.otp.counter.getLsbD 39 = true ∧ u.guard.killBurnt = true ∧ u.guard.otp.deviceSecret = List.replicate 32 0xFF ∧
        u.vault.vaultKey = none ∧ u.vault.enclosure = none ∧ u.dev.ready = false) ∧
    (s.mainOn = true → s.armed n = true → (s.src n).level = 4 → s.power.mode = .lockdown → s.tamper.queue.length < 256 →
      ∃ u e, exec (.tamperDetection [{ source := n, detail := d }] fr) s = .next u ∧ u.tamper.queue = s.tamper.queue ++ [e] ∧ e.source = n ∧ e.applied = 2 ∧ u.vault = s.vault ∧ u.power.mode = .lockdown)

/-- R364, R365: LOCK is set for good outside LOCKDOWN; a write of a source's fused-off, LOCKDOWN or protection-lowering fields changes nothing, a permitted change stores level, ERASE and debounce and is logged.
R355, R361, R362, R368, R430: in BACKUP a source marked for ERASE takes the enclosure key and every detection stands in the event ring; a condition that clears lets its source detect again; the
queued entries of both logs move to flash once there is an array. -/
def Obligations.ProtectionSettings : Prop :=
  (∀ (s : State) (n : Fin 32) (v : BitVec 32), s.tamper.srcs.wf Src.at_ = true →
    (s.power.mode ≠ .lockdown → exec .lock s = .next { s with tamper := { s.tamper with lock := true } }) ∧ (s.power.mode = .lockdown → exec .lock s = .next s) ∧
    ((s.power.mode = .lockdown ∨ s.guard.otp.fuses.getLsbD n.val = true) → exec (.tamperSrcWrite n v) s = .next s) ∧
    (s.tamper.lock = true → v.toNat / 2 ^ 29 < (s.src n.val).level → v.toNat / 2 ^ 29 < 4 → exec (.tamperSrcWrite n v) s = .next s) ∧
    (s.power.mode ≠ .lockdown → s.guard.otp.fuses.getLsbD n.val = false → s.tamper.lock = false → v.toNat / 2 ^ 29 < 5 → v.toNat / 2 ^ 29 ≠ (s.src n.val).level → s.tamper.queue.length < 256 →
      ∃ u e, exec (.tamperSrcWrite n v) s = .next u ∧ (u.src n.val).level = v.toNat / 2 ^ 29 ∧ (n.val ≤ 9 → (u.src n.val).debounce = min 64 (v.toNat / 65536 % 256) ∧ (u.src n.val).backupErase = v.getLsbD 28) ∧
        (9 < n.val → (u.src n.val).debounce = (s.src n.val).debounce ∧ (u.src n.val).backupErase = (s.src n.val).backupErase) ∧
        u.tamper.queue = s.tamper.queue ++ [e] ∧ e.source = n.val ∧ e.flags = 8 ∧ e.level = v.toNat / 2 ^ 29 ∧ (∀ k, k ≠ n.val → u.src k = s.src k) ∧ u.power = s.power)) ∧
  (∀ (s : State) (n d : Nat), n ≤ 9 → s.tamper.srcs.wf Src.at_ = true →
    (s.power.mode ≠ .backup → ∀ l, exec (.backupDetection l) s = .next s) ∧
    (s.power.mode = .backup → s.armed n = true → s.tamper.ring.length < 16 → ∃ u, exec (.backupDetection [{ source := n, detail := d }]) s = .next u ∧
      u.vault = (if (s.src n).backupErase then { s.vault with enclosure := none } else s.vault) ∧ u.src n = { s.src n with active := true } ∧
      u.ledger = (if n = 9 then { s.ledger with uncertain := true } else s.ledger) ∧ u.guard = s.guard ∧
      u.tamper.ring = s.tamper.ring ++ [{ main := false, erased := (s.src n).backupErase && s.vault.enclosure.isSome, action := if (s.src n).backupErase then 2 else 1, source := n, rtc := s.now }]) ∧
    (∀ k : Fin 32, k ≠ 9 → exec (.conditionCleared k) s = .next (s.setSrc k.val { s.src k.val with active := false })) ∧
    (∃ u, exec (.conditionCleared 9) s = .next u ∧ (u.src 9).active = false ∧ u.power = { s.power with xtalRc := false } ∧ u.ledger = s.ledger) ∧
    (s.areaOk = true → s.tamper.log.length + s.tamper.queue.length ≤ 65536 → ∃ u, exec .tamperLogFlush s = .next u ∧ u.tamper.log = s.tamper.log ++ s.tamper.queue ∧ u.tamper.queue = [] ∧ u.fault = s.fault) ∧
    (s.areaOk = true → s.fault.log.length + s.fault.queue.length ≤ 65536 → exec .faultLogFlush s = .next { s with fault := { s.fault with log := s.fault.log ++ s.fault.queue, queue := [] } }) ∧
    (s.areaOk = false → exec .tamperLogFlush s = .next s ∧ exec .faultLogFlush s = .next s))

/-- R358: a level of 5 is accepted only when the KILL_ALLOWED fuse is burnt; without it a write of 5 is stored as 4. -/
def Obligations.KillNeedsItsFuse : Prop :=
  ∀ (s : State) (n : Fin 32) (v : BitVec 32), s.tamper.srcs.wf Src.at_ = true → v.toNat / 2 ^ 29 = 5 → s.power.mode ≠ .lockdown → s.guard.otp.fuses.getLsbD n.val = false → s.tamper.lock = false →
    ∃ u, exec (.tamperSrcWrite n v) s = .next u ∧ (u.src n.val).level = (if s.guard.otp.killAllowed then 5 else 4)

/-- R172 to R175, R420, R428: a stall whose lockstep differs, or whose item has run past its worst case, is FAULTED and its one item waits to run again from its start; an idle spare stands in and the class is logged; a
test that passes gives the stall back and frees the spare, a failed one retires it. The mismatches counted stay below the limit of TS25 here.
R211, R217, R235, R431: an engine, ledger hasher or idle PKE engine whose check fails is FAULTED, counted, its keys gone, and logged under its class; a short set with no failed sub-test of its own makes it ACTIVE, one
with one retires it. No engine call waits or runs here. -/
def Obligations.UnitsFault : Prop :=
  (∀ (s : State) (r k us : Nat), r < 64 → k < 8 → s.units.st.wf UnitSt.reset = true → s.units.spareFor.wf noSpare = true → s.power.pllSwitching = false →
    (∀ (i : Item) (t : Tk) (c : Instr) (cls : Nat), (c, cls) ∈ [(.lockstepMismatch (stallAddr r k) us, 1), (.worstCaseOverrun (stallAddr r k) us, 2)] →
      (s.unitSt (stallAddr r k)).state = .active → (s.unitSt (stallAddr r 8)).state = .idle → s.units.items = [i] → i.unit = stallAddr r k → s.tk? i.ticket = some t → t.reruns = 0 →
      s.tamper.mismatches = [] → 1 < s.tamper.lockstepCount → (cls = 2 → i.vm.worst < i.vm.cycles) →
      ∃ u t', exec c s = .next u ∧ (u.unitSt (stallAddr r k)).state = .faulted ∧ (u.unitSt (stallAddr r k)).faults = sat 16 ((s.unitSt (stallAddr r k)).faults + 1) ∧
        (u.unitSt (stallAddr r 8)).state = .standingIn ∧ u.spareFor (rowAddr r) = k ∧ u.units.items = [] ∧ u.tk? i.ticket = some t' ∧ t'.stage = .staged ∧ t'.reruns = 1 ∧ t'.stall = t.stall ∧
        u.fault.lastClass = cls ∧ u.fault.lastUnit = stallAddr r k ∧ u.tabs = s.tabs ∧ u.vault = s.vault) ∧
    ((s.unitSt (stallAddr r k)).state = .faulted → (s.unitSt (stallAddr r 8)).state = .standingIn → s.spareFor (rowAddr r) = k → (∀ j, j < 8 → j ≠ k → (s.unitSt (stallAddr r j)).state = .active) → s.units.items = [] →
      ∃ u, exec (.stallTestComplete (stallAddr r k) none) s = .next u ∧ (u.unitSt (stallAddr r k)).state = .active ∧ (u.unitSt (stallAddr r 8)).state = .idle ∧ u.spareFor (rowAddr r) = 0xF ∧
        u.dev.events.getLsbD 2 = true ∧ u.fault = s.fault) ∧
    (∀ code, (s.unitSt (stallAddr r k)).state = .faulted → s.spareFor (rowAddr r) = k → (s.unitSt (stallAddr r 8)).state = .standingIn →
      ∃ u, exec (.stallTestComplete (stallAddr r k) (some code)) s = .next u ∧ (u.unitSt (stallAddr r k)).state = .retired ∧ u.fault.lastClass = 3 ∧ u.fault.lastUnit = stallAddr r k ∧ u.tabs = s.tabs) ∧
    ((s.unitSt (stallAddr r k)).state = .retired → exec (.lockstepMismatch (stallAddr r k) us) s = .next s ∧ exec (.stallTestComplete (stallAddr r k) none) s = .next s)) ∧
  (∀ (s : State) (r us : Nat) (h : Fin 8) (e : Fin 16), r < 64 → s.units.st.wf UnitSt.reset = true → RowsIdle s → PoolIdle s →
    (∀ (a cls : Nat), (a, cls) ∈ [(cipherAddr r, 0x10), (hashAddr r, 0x12)] → (s.unitSt a).state = .active → (s.rowEng r).cipherOpen = [] → (s.rowEng r).hashOpen = [] →
      ∃ u, exec (.checkFault a us) s = .next u ∧ (u.unitSt a).state = .faulted ∧ (u.unitSt a).faults = sat 16 ((s.unitSt a).faults + 1) ∧ (cls = 0x10 → (u.rowEng r).keys = []) ∧ (cls = 0x12 → (u.rowEng r).hmacKeys = []) ∧
        u.fault.lastClass = cls ∧ u.fault.lastUnit = a ∧ u.units.items = s.units.items ∧ u.tabs = s.tabs) ∧
    ((s.unitSt (0x7000 + h.val)).state = .active → ∃ u, exec (.ledgerHasherCheck h 0 us) s = .next u ∧ (u.unitSt (0x7000 + h.val)).state = .faulted ∧ u.fault.lastClass = 0x13 ∧ u.ledger = s.ledger) ∧
    ((s.unitSt (0x6000 + e.val)).state = .active → ∃ u, exec (.pkeCheck e us) s = .next u ∧ (u.unitSt (0x6000 + e.val)).state = .faulted ∧ u.pke e.val = {} ∧
      u.fault.lastClass = 0x14 ∧ u.crypto.pke.done = s.crypto.pke.done) ∧
    (∀ a ∈ [cipherAddr r, hashAddr r, 0x6000 + e.val, 0x7000 + h.val], (s.unitSt a).state = .faulted →
      (∀ b, failedOf (shortBits (a / 4096)) b = 0 → ∃ u, exec (.shortSetComplete a b) s = .next u ∧ (u.unitSt a).state = .active ∧ u.units.items = s.units.items) ∧
      (∀ b, failedOf (shortBits (a / 4096)) b ≠ 0 → ∃ u, exec (.shortSetComplete a b) s = .next u ∧ (u.unitSt a).state = .retired ∧ u.fault.lastClass = 0x18 ∧ u.fault.lastUnit = a)))

/-- R75 and R394 to R396: HOLDOVER moves SERVICE or CATCH-UP to HOLDOVER and changes no other mode; a HEARTBEAT of an owned device takes REST to SERVICE once READY is set, restarts the timer in SERVICE and CATCH-UP
and ends HOLDOVER in CATCH-UP or SERVICE; of a device that is not owned it changes no mode. FENCE ends with OK.
R394 to R397: the heartbeat timer's expiry in SERVICE or CATCH-UP brings HOLDOVER with cause 4, and the catch-up backlog's end by command brings SERVICE with cause 9; both set the MODE event, add
the tick event and wake every clock. In other modes neither does anything. -/
def Obligations.ModesChange : Prop :=
  (∀ (s : State) (a : TkArg) (t : Tk),
    (Admitted s a 0x19 t → (s.power.mode = .service ∨ s.power.mode = .catchup) → ∃ u, exec (.holdover a) s = .next u ∧ u.power.mode = .holdover ∧ u.power.lastCause = 5) ∧
    (Admitted s a 0x19 t → s.power.mode.timed = false → ∃ u, exec (.holdover a) s = .next u ∧ u.power = s.power) ∧
    (Admitted s a 0x18 t → s.owned = false → ∃ u, exec (.heartbeat a) s = .next u ∧ u.power = s.power ∧ u.tabs = s.tabs) ∧
    (Admitted s a 0x18 t → s.owned = true → s.power.mode = .rest → s.dev.ready = true → ∃ u, exec (.heartbeat a) s = .next u ∧ u.power.mode = .service ∧ u.power.lastCause = 1 ∧ u.power.hbStart = some s.now) ∧
    (Admitted s a 0x18 t → s.owned = true → (s.power.mode = .service ∨ s.power.mode = .catchup) → ∃ u, exec (.heartbeat a) s = .next u ∧ u.power = { s.power with hbStart := some s.now, hbStopped := none } ∧ u.tabs = s.tabs) ∧
    (Admitted s a 0x18 t → s.owned = true → s.power.mode = .holdover → (∃ p ∈ s.tabs.ctx, p.2.uploaded < p.2.sealed) →
      ∃ u, exec (.heartbeat a) s = .next u ∧ u.power.mode = .catchup ∧ u.power.lastCause = 6 ∧ u.power.hbStart = some s.now) ∧
    (Admitted s a 0x18 t → s.owned = true → s.power.mode = .holdover → (∀ p ∈ s.tabs.ctx, p.2.sealed ≤ p.2.uploaded) →
      ∃ u, exec (.heartbeat a) s = .next u ∧ u.power.mode = .service ∧ u.power.lastCause = 7 ∧ u.power.hbStart = some s.now) ∧
    (Admitted s a 0x1A t → exec (.fence a) s = .next (s.finishWith t 0 a.us))) ∧
  (∀ s : State,
    (∀ b, s.power.hbStart = some b → s.power.mode = .service ∨ s.power.mode = .catchup → b + s.power.timeoutS * 32768 < 2 ^ 48 → ∃ u, exec .heartbeatTimeout s = .next u ∧ u.power.mode = .holdover ∧ u.power.lastCause = 4 ∧
      b + s.power.timeoutS * 32768 ≤ u.now ∧ u.dev.events.getLsbD 1 = true ∧ u.power.rowsGated = [] ∧ u.power.groupGated = 0 ∧ (s.ledger.running = true → ∃ e, u.ledger.events = s.ledger.events ++ [e] ∧ e.type = 2) ∧ u.tabs = s.tabs) ∧
    (s.power.mode.timed = false → exec .heartbeatTimeout s = .next s) ∧
    (s.power.mode = .catchup → ∃ u, exec .catchupEnd s = .next u ∧ u.power.mode = .service ∧ u.power.lastCause = 9 ∧ u.power.hbStart = some s.now ∧ u.dev.events.getLsbD 1 = true ∧ u.tabs = s.tabs ∧ u.vault = s.vault) ∧
    (s.power.mode ≠ .catchup → exec .catchupEnd s = .next s))

/-- R404 to R406, R410, R411, R446: a power loss, a brown-out, a device reset and an EXTEST reset the main domains: no ticket, ring state, item or opened key is left, READY is clear and RESET_CAUSE says
which it was; the OTP, the array's description, the programmed entries and, with the backup domain, the highest hold identifier issued stay. The backup domain stays while VBAT does.
R404, R460, R461: with main power the loss of VBAT is one detection of TS08, and a cell applied clears its condition; without it the loss takes the backup domain. -/
def Obligations.ResetsKeep : Prop :=
  ∀ s : State,
    (∀ (c : Instr) (cause : Nat), (c, cause) ∈ [(.powerLoss, 1), (.brownOut, 2), (.deviceReset, 3), (.extest, 4)] → s.power.pwrOk = true → s.mainOn = true → s.guard.transition = none →
      ∃ u, exec c s = .next u ∧ u.host.tickets = [] ∧ u.host.rings = [] ∧ u.units.items = [] ∧ u.vault.vaultKey = none ∧ u.vault.epochs = [] ∧ u.dev.ready = false ∧ u.power.resetCause = cause ∧
        u.guard.otp = s.guard.otp ∧ u.flash.desc = s.flash.desc ∧ u.flash.lanes = s.flash.lanes ∧ u.tabs.entries = s.tabs.entries.filter Entry.programmed ∧ u.tabs.holds = [] ∧ u.tabs.applets = s.tabs.applets ∧
        u.ledger.durableTick = s.ledger.durableTick ∧ u.pending = s.pending ∧ (s.power.vbat = true ∨ cause ≠ 1 → u.vault.enclosure = s.vault.enclosure ∧ u.ledger.rtc = s.ledger.rtc ∧ u.tabs.holdHigh = s.tabs.holdHigh) ∧
        (cause = 1 → u.power.pwrOk = false ∧ (s.power.vbat = true → u.power.mode = .backup) ∧ (s.power.vbat = false → u.power.mode = .off ∧ u.vault.enclosure = none ∧ u.ledger.rtc = 0 ∧ u.power.fresh = true))) ∧
    (s.mainOn = true → (∃ t, s.guard.transition = some t ∧ 2 ≤ t.phase) → exec .deviceReset s = .next { s with power := { s.power with resetPending := true } }) ∧
    (∀ b, exec (.vbatSwitchover b) s = .next { s with power := { s.power with onVbat := b && s.power.vbat } }) ∧
    (s.power.pwrOk = true → (s.mainOn = false ∨ s.armed 8 = false) → exec .vbatLoss s = .next { s with power := { s.power with vbat := false, onVbat := false } }) ∧
    (s.mainOn = true → s.armed 8 = true → (s.src 8).level ≤ 2 → s.tamper.srcs.wf Src.at_ = true → ∃ u, exec .vbatLoss s = .next u ∧ u.power = { s.power with vbat := false, onVbat := false } ∧
      u.src 8 = { s.src 8 with active := true, count := sat 16 ((s.src 8).count + 1) } ∧ u.guard = s.guard ∧ u.vault = s.vault) ∧
    (s.power.pwrOk = false → ∃ u, exec .vbatLoss s = .next u ∧ u.power.mode = .off ∧ u.vault.enclosure = none ∧ u.ledger.rtc = 0 ∧ u.guard.otp = s.guard.otp ∧ u.flash = s.flash) ∧
    (s.power.pwrOk = true → exec .vbatApplied s = .next (({ s with power := { s.power with vbat := true } } : State).setSrc 8 { s.src 8 with active := false })) ∧
    (s.power.pwrOk = false → s.power.mode = .off → exec .vbatApplied s = .next { s with power := { s.power with vbat := true, onVbat := true, mode := .backup } })

/-- R408, R409, R413, R414, R417, R425: a supply warning pauses and counts, its release records the dip's length; an idle row and an idle flash group are gated in REST; the loss of SYSCLK switches to
the reference for good, and the resume is logged; a crossing takes the source's running total. No engine or flash operation waits at the release and the resume here. -/
def Obligations.SupplyAndClocks : Prop :=
  ∀ (s : State) (us : Nat) (row : Fin 64) (g : Fin 8),
    (s.mainOn = true → s.power.warn = false → s.tamper.falls = [] → s.power.dips < 2 ^ 32 - 1 → s.crypto.pke.engines.wf noPke = true → ∃ u, exec .supplyWarning s = .next u ∧ u.power = { s.power with warn := true, dips := s.power.dips + 1 } ∧
      u.tamper.falls = [s.now] ∧ u.units.items = s.units.items ∧ u.host = s.host ∧ (∀ e, u.pke e = { s.pke e with work := [], result := [] })) ∧
    (s.power.warn = true → exec .supplyWarning s = .next s) ∧
    (s.power.warn = true → us ≤ 1000 → RowsIdle s → PoolIdle s → FlashIdle s → exec (.warningRelease us) s = .next { s with power := { s.power with warn := false, lastDipUs := us } }) ∧
    (s.power.warn = false → exec (.warningRelease us) s = .next s) ∧
    (s.mainOn = true → s.power.mode = .rest → s.units.items = [] → s.host.tickets = [] → (s.rowEng row.val).cipherOpen = [] → (s.rowEng row.val).hashOpen = [] → s.power.rowsGated.contains row.val = false →
      ∃ u, exec (.rowGate row) s = .next u ∧ u = { s with power := { s.power with rowsGated := u.power.rowsGated } } ∧ (∀ k, k ∈ u.power.rowsGated ↔ k = row.val ∨ k ∈ s.power.rowsGated)) ∧
    (s.power.mode ≠ .rest → exec (.rowGate row) s = .next s) ∧
    (s.mainOn = true → s.mayGate g.val = true → s.power.groupGated.getLsbD g.val = false → s.flash.chans.wf noChan = true → ∃ u, exec (.flashGroupGate g) s = .next u ∧ u.power.groupGated.getLsbD g.val = true ∧
      (∀ k, (u.chan k).state = if k / 8 = g.val ∧ (s.chan k).state = .active then .gated else (s.chan k).state) ∧ u.flash.targets = s.flash.targets) ∧
    (s.mainOn = true → s.power.sysclkBackup = false → (s.src 22).level ≤ 2 → (s.src 23).level ≤ 2 → ∃ u, exec .sysclkLoss s = .next u ∧ u.power.sysclkBackup = true ∧ u.power.pllSwitching = true ∧
      u.power.mode = s.power.mode ∧ u.units.items = s.units.items ∧ u.vault = s.vault) ∧
    (s.power.pllSwitching = true → s.ledger.boundaryHeld = false → s.units.items = [] → RowsIdle s → PoolIdle s → FlashIdle s → ∃ u, exec (.sysclkResume us) s = .next u ∧ u.power.pllSwitching = false ∧ u.fault.lastClass = 0x40 ∧
      u.power.hPending = [] ∧ u.power.sysclkBackup = s.power.sysclkBackup ∧ u.tabs = s.tabs) ∧
    (∀ c ∈ hCrossings, ∀ v : BitVec 16, ∃ u, exec (.reconciliation c v) s = .next u ∧ u = { s with power := { s.power with hTotal := u.power.hTotal } } ∧ (v ≠ 0 → u.power.hTotal.get zeroOf c = v.toNat)) ∧
    (∀ c v, c ∉ hCrossings → exec (.reconciliation c v) s = .next s)

/-- R252, R377, R383, R407, R445, R450: start-up does nothing where the device is READY, SCRAPPED or short of supply; it withholds READY for a life-cycle count below SEALED, without an array, and for bad
firmware; an unowned device whose units work comes up READY, with the READY event. -/
def Obligations.StartsUp : Prop :=
  ∀ (s : State) (a : StartAns),
    ((s.dev.ready = true ∨ 20 ≤ s.lifeCount ∨ s.power.warn = true) → exec (.startUp a) s = .next s) ∧
    (s.dev.ready = false → s.power.warn = false → 1 ≤ s.dev.stage → a.counterBad = none → s.guard.otp.consistent = true → s.guard.otp.torn = none → s.lifeCount < 2 →
      ∃ u, exec (.startUp a) s = .next u ∧ u.dev.ready = false ∧ u.dev.holdCause = 1 ∧ u.dev.holdDetail = s.lifeCount) ∧
    (s.dev.ready = false → s.power.warn = false → 1 ≤ s.dev.stage → a.counterBad = none → a.entropyOk = true → a.failed = [] → s.guard.otp.consistent = true → s.guard.otp.torn = none → s.lifeCount = 2 →
      s.ddr.state = .ready → s.ddr.err = 0 → s.hashersWorking ≠ [] → s.pkeWorking ≠ [] →
      (s.flash.desc = [] → ∃ u, exec (.startUp a) s = .next u ∧ u.dev.ready = false ∧ u.dev.holdCause = 4 ∧ u.dev.holdDetail = s.flash.buildErr) ∧
      (s.flash.desc ≠ [] → s.flash.buildState = .built → a.firmware ≠ 0 → ∃ u, exec (.startUp a) s = .next u ∧ u.dev.ready = false ∧ u.dev.holdCause = 3 ∧ u.dev.holdDetail = a.firmware) ∧
      (s.flash.desc ≠ [] → s.flash.buildState = .built → a.firmware = 0 → ∃ u, exec (.startUp a) s = .next u ∧ u.dev.ready = true ∧ u.dev.stage = 8 ∧ u.dev.holdCause = 0 ∧ u.units.fw = a.fw ∧
        u.dev.events.getLsbD 0 = true ∧ u.guard.otp = s.guard.otp ∧ u.host.tickets = s.host.tickets ∧ u.ledger.running = s.ledger.running))

/-- R7, R24 to R28, R37, R437, R438: a 32-bit read of BAR0 returns the word as it stands; the low word of a 64-bit register holds its high word for the read that follows; an access of a wrong width or alignment, or
beyond the map, reads 0 and changes nothing else. Both ports read the same. A read of a bell page returns 0, one of BAR4 the port's MSI-X table, and one of the configuration space the identification of the
function. -/
def Obligations.RegistersRead : Prop :=
  ∀ (s : State) (p : Fin 2) (off : Nat), off < 0x100000 → off % 4 = 0 →
    (s.wideAt off = false → s.dev.latchedHigh = [] → exec (.latchedRead p 0 off 4) s = .next { s with dev := { s.dev with readData := BitVec.ofNat 64 (s.wordAt off) } }) ∧
    (s.wideAt off = true → s.dev.latchedHigh = [] → off ≠ 0x3010 → exec (.latchedRead p 0 off 4) s = .next { s with
      dev := { s.dev with readData := BitVec.ofNat 64 (s.wordAt off), latchedHigh := [(off + 4, BitVec.ofNat 32 (s.wordAt (off + 4)))] } }) ∧
    (∀ h, s.wideAt off = false → s.dev.latchedHigh = [(off, h)] → exec (.latchedRead p 0 off 4) s = .next { s with dev := { s.dev with readData := h.zeroExtend 64, latchedHigh := [] } }) ∧
    (∀ o w, (0x100000 ≤ o ∨ (w ≠ 4 ∧ w ≠ 8) ∨ o % 4 ≠ 0 ∨ (w = 8 ∧ s.wideAt o = false)) → exec (.latchedRead p 0 o w) s = .next { s with dev := { s.dev with readData := 0 } }) ∧
    (∀ o w, exec (.latchedRead p 2 o w) s = .next { s with dev := { s.dev with readData := 0 } }) ∧
    (∀ v, v < 4096 → s.portUsed p.val = true → exec (.latchedRead p 4 (16 * v + 8) 4) s = .next { s with dev := { s.dev with readData := (((s.port p.val).msix.get noMsix v).data).zeroExtend 64 } }) ∧
    (s.portUsed p.val = true → exec (.latchedRead p cfgSpace 8 4) s = .next { s with dev := { s.dev with readData := BitVec.ofNat 64 (0x108000 * 256 + Config.stepping.toNat) } })

/-- R91, R93, R158, R167: what a write leaves in four registers and what they then read as: LAT_CLEAR clears both fields of LAT0 and reads 0, the space wait and the tick period are stored as their rules
clamp them, the unit select takes 16 bits; and their values at reset. -/
def Obligations.RegisterFields : Prop :=
  (State.reset.classReg 0x14 = r32 100 ∧ State.reset.tickReg 0x00 = r32 1000 ∧ State.reset.unitReg 0x00 = r32 0 ∧ State.reset.classReg 0x0C = none) ∧
  ∀ (s : State) (p : Fin 2) (v : Nat), s.mainOn = true → s.dev.ready = true → v < 2 ^ 32 →
    (∃ u, exec (.registerWrite { port := p, offset := 0x2014, value := v }) s = .next u ∧ u = { s with classes := { s.classes with spaceWaitMs := max 10 (min (v % 65536) 10000) } } ∧
      u.regAt 0x2014 = r32 (max 10 (min (v % 65536) 10000))) ∧
    (s.power.mode ≠ .lockdown → ∃ u, exec (.registerWrite { port := p, offset := 0x3000, value := v }) s = .next u ∧ u.regAt 0x3000 = r32 (max 250 (min (v % 16384) 10000) / 250 * 250) ∧
      u = { s with ledger := { s.ledger with periodMs := u.ledger.periodMs } }) ∧
    (∃ u, exec (.registerWrite { port := p, offset := 0x200C, value := v }) s = .next u ∧ u.regAt 0x200C = none ∧ (v % 2 = 1 → u.regAt 0x2040 = r32 0) ∧ (v % 2 = 0 → u = s)) ∧
    (∃ u, exec (.registerWrite { port := p, offset := 0xB000, value := v }) s = .next u ∧ u.regAt 0xB000 = r32 (v % 65536) ∧ u = { s with units := { s.units with select := u.units.select } })

/-- R91, R435, R449 to R451: the clears, and the INTR block: enabling a cause that is set sends its message through its vector, a new vector is stored, a merged message goes out later, and
a written one clears an event. -/
def Obligations.MessagesAndClears : Prop :=
  ∀ s : State, s.mainOn = true → s.dev.ready = true →
    exec .latClear s = .next { s with classes := { s.classes with tickMax := 0, receiptMax := 0 } } ∧
    exec .maxClear s = .next { s with fault := { s.fault with maxInterrupt := 0 } } ∧
    (∀ v : BitVec 32, (∀ c, c < 4 → v.getLsbD c = true → s.dev.enable.getLsbD c = true ∨ s.causeSet c = false) → exec (.intrEnableWrite v) s = .next { s with dev := { s.dev with enable := v.extractLsb' 0 4 } }) ∧
    (∀ c : Fin 4, s.causeSet c.val = true → s.dev.enable = 0 → s.canSignal (s.causeVec c.val).1 (s.causeVec c.val).2 = true → s.dev.lastMsg.get zeroOf c.val ≠ s.now + 1 →
      ∃ u, exec (.intrEnableWrite (BitVec.ofNat 32 (2 ^ c.val))) s = .next u ∧ u.dev.enable = BitVec.ofNat 4 (2 ^ c.val) ∧
        u.host.out = s.host.out ++ [.msix (s.causeVec c.val).1 (s.causeVec c.val).2 (.intr c.val)] ∧ u.dev.events = s.dev.events) ∧
    (∀ (c : Fin 4) (v : BitVec 32), s.dev.heldMsg = 0 → exec (.intrVectorWrite c v) s = .next { s with
      dev := { s.dev with vectors := s.dev.vectors.set noIntrVec c.val { port := if v.getLsbD 31 then 1 else 0, vector := v.extractLsb' 0 12 } } }) ∧
    (∀ c : Fin 4, s.dev.merged.getLsbD c.val = true → s.dev.lastMsg.wf zeroOf = true → s.canSignal (s.causeVec c.val).1 (s.causeVec c.val).2 = true →
      ∃ u, exec (.mergedMessage c) s = .next u ∧ u.host.out = s.host.out ++ [.msix (s.causeVec c.val).1 (s.causeVec c.val).2 (.intr c.val)] ∧ u.dev.merged.getLsbD c.val = false) ∧
    (∀ c : Fin 4, s.dev.merged.getLsbD c.val = false → exec (.mergedMessage c) s = .next s) ∧
    (∀ (p : Fin 2) (v : BitVec 32), s.dev.events &&& ~~~v ≠ 0 → exec (.registerWrite { port := p, offset := 0x1004, value := v.toNat }) s = .next { s with dev := { s.dev with events := s.dev.events &&& ~~~v } })

/-- R440, R441, R444, R466: what the registers hold right after reset: the parameters, the ring table with its two preset ring pairs, the classes, the monitors' levels, the modes, a SEALED device with
nothing fetched, no array, no VBAT. -/
def Obligations.ResetRegisters : Prop :=
  (State.reset.devReg 0x20 = r32 0x08080801 ∧ State.reset.devReg 0x24 = r32 0x10080402 ∧ State.reset.devReg 0x28 = r32 0x100C4048 ∧ State.reset.devReg 0x2C = r32 0x04000404 ∧
    State.reset.devReg 0x30 = r32 0x10000800 ∧ State.reset.devReg 0x40 = r32 0 ∧ State.reset.intrReg 0x00 = r32 0 ∧ State.reset.intrReg 0x08 = r32 0xF ∧ State.reset.classReg 0x00 = r32 0x136 ∧
    State.reset.classReg 0x04 = r32 0x154 ∧ State.reset.classReg 0x08 = r32 0x10136 ∧ State.reset.classReg 0x10 = r32 0x10100 ∧ State.reset.classReg 0x24 = r32 0x2004000 ∧ State.reset.tickReg 0x00 = r32 0x3E8 ∧
    State.reset.tickReg 0x08 = r32 0xB07D0 ∧ State.reset.tickReg 0x0C = r32 0xFA ∧ State.reset.tamperReg 0x20 = r32 0x3E80008 ∧ State.reset.cartReg 0x00 = r32 0x803C0018 ∧ State.reset.flashReg 0x100 = r32 0x43202 ∧
    State.reset.flashReg 0x104 = r32 0x3C0007 ∧ State.reset.flashReg 0x108 = r32 0x64005A ∧ State.reset.flashReg 0x10C = r32 0x1F40818 ∧ State.reset.flashReg 0x114 = r32 1 ∧ State.reset.flashReg 0x11C = r32 0xFFFFFFFF ∧
    State.reset.ddrReg 0x08 = r32 0x18 ∧ State.reset.ddrReg 0x0C = r32 0x64 ∧ State.reset.ddrReg 0x10 = r32 8 ∧ State.reset.faultReg 0x04 = r32 0 ∧ State.reset.clkReg 0x00 = r32 0x20000000 ∧
    State.reset.clkReg 0x08 = r32 0xFFFF000A ∧ State.reset.clkReg 0x10 = r32 0x80000000 ∧ State.reset.lifeCount = 2 ∧ State.reset.power.vbat = false ∧ State.reset.flash.desc = []) ∧
  (∀ n, n < 4096 → State.reset.ringReg n 0x00 = r64 0 ∧ State.reset.ringReg n 0x08 = r64 0 ∧ State.reset.ringReg n 0x10 = r32 (if n = 0 then 0x82A00001 else if n = 1 then 0x80600002 else 0x02000000) ∧
    State.reset.ringReg n 0x14 = r32 0 ∧ State.reset.ringReg n 0x18 = r32 (if n ≤ 1 then 0x20020000 else 0x00020000) ∧ State.reset.ringReg n 0x1C = r32 0) ∧
  (∀ n, n < 31 → ∃ l, State.reset.tamperReg (0x100 + 4 * n) = r32 (l * 2 ^ 29) ∧ 2 ≤ l ∧ l ≤ 4) ∧ State.reset.tamperReg (0x100 + 4 * 31) = r32 0x08000000

/-- The sparse stores of the reset state that Safety.Canonical names are in their canonical form, and no command waits. -/
def Obligations.ResetIsCanonical : Prop :=
  Canonical State.reset ∧ Idle State.reset

/-- Every command that goes on keeps the canonical form of the sparse stores that Safety.Canonical names (rings, tabs, MSI-X tables, units, spares, sources, templates, targets, lane blocks, channels, engines,
message times, slots, cards, slot memory): keys rise, no entry equals what an unlisted key reads as; and every session's identifier has been issued. -/
def Obligations.StepKeepsCanonical : Prop :=
  ∀ s t : State, Canonical s → step s = .next t → Canonical t

/-- R375: a burnt bit of the OTP is never cleared: whatever the command, every life-cycle bit, every source fuse and KILL_ALLOWED that is burnt stays burnt, and the unit identifier stays as it is. -/
def Obligations.OtpBitsStayBurnt : Prop :=
  ∀ (c : Instr) (s t : State), exec c s = .next t → (∀ k : Nat, s.guard.otp.counter.getLsbD k = true → t.guard.otp.counter.getLsbD k = true) ∧
    (∀ n : Nat, s.guard.otp.fuses.getLsbD n = true → t.guard.otp.fuses.getLsbD n = true) ∧ (s.guard.otp.killAllowed = true → t.guard.otp.killAllowed = true) ∧ t.guard.otp.unitId = s.guard.otp.unitId
end

