-- ==== Sys2Proof/Laws/Bytes.lean ====
section
/-! SUPPORT. How long the byte strings are that the shared operations build. -/

namespace Sys2Proof.Laws

open Sys2Proof.Machine

@[simp] theorem leBytes_length (n v : Nat) : (leBytes n v).length = n := by
  induction n generalizing v with
  | zero => rfl
  | succ n ih => simp [leBytes, ih]

@[simp] theorem beBytes_length (n v : Nat) : (beBytes n v).length = n := by simp [beBytes]

@[simp] theorem zeros_length (n : Nat) : (zeros n).length = n := by simp [zeros]

@[simp] theorem fitTo_length (n : Nat) (b : Bytes) : (fitTo n b).length = n := by
  simp [fitTo]; omega

theorem slice_length_le (b : Bytes) (off len : Nat) : (slice b off len).length ≤ len := by
  simp [slice]

@[simp] theorem sha384_length (m : Bytes) : (sha384 m).length = 48 := by simp [sha384]

@[simp] theorem sha256_length (m : Bytes) : (sha256 m).length = 32 := by simp [sha256]

@[simp] theorem sha512_length (m : Bytes) : (sha512 m).length = 64 := by simp [sha512]

end Sys2Proof.Laws
end

