-- ==== Sys2Proof/Laws/Link.lean ====
section
/-! SUPPORT. What the frames of the Mahano link give back: the lines of a block over eight of them, and the frames of the replay-protected area. -/

namespace Sys2Proof.Laws

open Sys2Proof.Machine

/-- A line gives back the data bits it carries. -/
theorem lineRead_lineFrame (d : List Bool) : lineRead d.length (lineFrame d) = some d := by
  simp [lineRead, lineFrame]

/-- A byte is made of its bits. -/
theorem byteOf_getLsbD (x : Byte) : byteOf (fun k => x.getLsbD k) = x := by
  have h : ∀ n < 256, byteOf (fun k => (BitVec.ofNat 8 n : Byte).getLsbD k) = BitVec.ofNat 8 n := by decide +kernel
  have := h x.toNat x.isLt
  simpa using this

/-- A byte depends on eight bits. -/
theorem byteOf_congr (f g : Nat → Bool) (h : ∀ k < 8, f k = g k) : byteOf f = byteOf g := by
  have e : (List.range 8).map (fun k => if f k then 2 ^ k else 0) = (List.range 8).map (fun k => if g k then 2 ^ k else 0) :=
    List.map_congr_left (fun k hk => by rw [h k (List.mem_range.mp hk)])
  simp only [byteOf, e]

/-- A block is read back from eight lines. -/
theorem blockRead_eight (b : Bytes) : blockRead 8 b.length (blockLines 8 b) = some b := by
  have hd : (blockLines 8 b).filterMap (lineRead (8 * b.length / 8)) = (List.range 8).map (fun j => b.map (fun x => x.getLsbD j)) := by
    have h1 : blockLines 8 b = (List.range 8).map (fun j => lineFrame (b.map (fun x => x.getLsbD j))) := by simp [blockLines, lineData]
    have h2 : 8 * b.length / 8 = b.length := by omega
    rw [h1, h2, List.filterMap_map]
    have h3 : (lineRead b.length ∘ fun j => lineFrame (b.map (fun x : Byte => x.getLsbD j))) = fun j => some (b.map (fun x : Byte => x.getLsbD j)) := by
      funext j
      have := lineRead_lineFrame (b.map (fun x : Byte => x.getLsbD j))
      simpa using this
    rw [h3]
    simp
  have hl : (blockLines 8 b).length = 8 := by simp [blockLines, lineData]
  simp only [blockRead, hd, hl, List.length_map, List.length_range, and_self, if_true, Option.some.injEq]
  apply List.ext_getElem (by simp)
  intro i h1 h2
  simp only [List.getElem_map, List.getElem_range]
  rw [← byteOf_getLsbD b[i]]
  apply byteOf_congr
  intro k hk
  simp [lineBit, List.getD, hk, h2]

/-- Every block of a list is read back from eight lines. -/
theorem blocksRead_eight (n : Nat) (l : List Bytes) (h : ∀ b ∈ l, b.length = n) : blocksRead 8 n (l.map (blockLines 8)) = some l := by
  have e : (l.map (blockLines 8)).filterMap (blockRead 8 n) = l := by
    rw [List.filterMap_map]
    induction l with
    | nil => rfl
    | cons b r ih =>
      have hb : blockRead 8 n (blockLines 8 b) = some b := by
        have := blockRead_eight b
        rwa [h b (by simp)] at this
      have hr := ih (fun x hx => h x (by simp [hx]))
      rw [List.filterMap_cons_some (b := b) (by simpa using hb), hr]
  simp [blocksRead, e]

@[simp] theorem rpaPart_length (data nonce : Bytes) (counter addr count type : Nat) : (rpaPart data nonce counter addr count type).length = 480 := by simp [rpaPart]

@[simp] theorem rpaMac_length (key : Bytes) (parts : List Bytes) : (rpaMac key parts).length = 32 := by simp [rpaMac, hmacSha256, Sha2.mac]

theorem leNat_leBytes (n v : Nat) : leNat (leBytes n v) = v % 256 ^ n := by
  induction n generalizing v with
  | zero => simp [leBytes, leNat, Nat.mod_one]
  | succ n ih =>
    simp only [leBytes, leNat, ih, BitVec.toNat_ofNat]
    have : v % 256 ^ (n + 1) = v % 256 + 256 * (v / 256 % 256 ^ n) := by rw [Nat.pow_succ, Nat.mul_comm, Nat.mod_mul]
    omega

/-- The field of a string that stands after `l`. -/
theorem slice_mid (l m r : Bytes) : slice (l ++ (m ++ r)) l.length m.length = m := by simp [slice]

theorem rpaPart_nonce (data nonce : Bytes) (counter addr count type : Nat) (h : nonce.length = 16) : slice (rpaPart data nonce counter addr count type) 256 16 = nonce := by
  have e : fitTo 16 nonce = nonce := by rw [← h]; simp [fitTo, zeros]
  have := slice_mid (fitTo 256 data) nonce (leBytes 4 counter ++ leBytes 4 addr ++ leBytes 2 count ++ zeros 2 ++ leBytes 2 type ++ zeros 194)
  simpa [rpaPart, e, h, List.append_assoc] using this

theorem rpaPart_counter (data nonce : Bytes) (counter addr count type : Nat) : fld (rpaPart data nonce counter addr count type) 272 4 = counter % 2 ^ 32 := by
  have := slice_mid (fitTo 256 data ++ fitTo 16 nonce) (leBytes 4 counter) (leBytes 4 addr ++ leBytes 2 count ++ zeros 2 ++ leBytes 2 type ++ zeros 194)
  have e : slice (rpaPart data nonce counter addr count type) 272 4 = leBytes 4 counter := by simpa [rpaPart, List.append_assoc] using this
  simp [fld, e, leNat_leBytes]

theorem rpaPart_result (data nonce : Bytes) (counter addr count type : Nat) : fld (rpaPart data nonce counter addr count type) 282 2 = 0 := by
  have := slice_mid (fitTo 256 data ++ fitTo 16 nonce ++ leBytes 4 counter ++ leBytes 4 addr ++ leBytes 2 count) (zeros 2) (leBytes 2 type ++ zeros 194)
  have e : slice (rpaPart data nonce counter addr count type) 282 2 = zeros 2 := by simpa [rpaPart, List.append_assoc] using this
  rw [fld, e]; decide

theorem rpaPart_type (data nonce : Bytes) (counter addr count type : Nat) : fld (rpaPart data nonce counter addr count type) 284 2 = type % 65536 := by
  have := slice_mid (fitTo 256 data ++ fitTo 16 nonce ++ leBytes 4 counter ++ leBytes 4 addr ++ leBytes 2 count ++ zeros 2) (leBytes 2 type) (zeros 194)
  have e : slice (rpaPart data nonce counter addr count type) 284 2 = leBytes 2 type := by simpa [rpaPart, List.append_assoc] using this
  simp [fld, e, leNat_leBytes]

/-- A field within the first part of a string. -/
theorem slice_left (p x : Bytes) (off n : Nat) (h : off + n ≤ p.length) : slice (p ++ x) off n = slice p off n := by
  simp only [slice]
  rw [List.drop_append_of_le_length (by omega), List.take_append_of_le_length (by simp; omega)]

/-- The frames of an operation, each with its 480 bytes and 32 more. -/
theorem rpaFrames_concat (key : Bytes) (l : List Bytes) (p : Bytes) :
    rpaFrames key (l ++ [p]) = l.map (fun q => q ++ zeros 32) ++ [p ++ rpaMac key (l ++ [p])] := by
  simp [rpaFrames]

/-- Every frame carries the part it was made of. -/
theorem rpaFrames_mem (key : Bytes) (parts : List Bytes) (f : Bytes) (h : f ∈ rpaFrames key parts) : ∃ q ∈ parts, ∃ x, f = q ++ x ∧ x.length = 32 := by
  rcases List.eq_nil_or_concat parts with rfl | ⟨l, p, rfl⟩
  · simp [rpaFrames] at h
  · rw [List.concat_eq_append] at h ⊢
    rw [rpaFrames_concat] at h
    simp only [List.mem_append, List.mem_map, List.mem_singleton] at h
    rcases h with ⟨q, hq, rfl⟩ | rfl
    · exact ⟨q, by simp [hq], _, rfl, by simp⟩
    · exact ⟨p, by simp, _, rfl, by simp⟩

/-- The frames of an operation give back its parts. -/
theorem rpaFrames_parts (key : Bytes) (parts : List Bytes) (h : ∀ p ∈ parts, p.length = 480) : (rpaFrames key parts).map (fun f => f.take 480) = parts := by
  rcases List.eq_nil_or_concat parts with rfl | ⟨l, p, rfl⟩
  · rfl
  · rw [List.concat_eq_append] at h ⊢
    rw [rpaFrames_concat]
    have hl : ∀ q ∈ l, ((q ++ zeros 32).take 480) = q := fun q hq => by rw [← h q (by simp [hq])]; simp
    have hp : (p ++ rpaMac key (l ++ [p])).take 480 = p := by rw [← h p (by simp)]; simp
    simp only [List.map_append, List.map_map, List.map_cons, List.map_nil, hp]
    congr 1
    conv_rhs => rw [← List.map_id l]
    exact List.map_congr_left (fun q hq => by simpa using hl q hq)

/-- A response made under the key verifies under it. -/
theorem rpaVerify_rpaFrames (key nonce : Bytes) (type : Nat) (parts : List Bytes) (hne : parts ≠ []) (h : ∀ p ∈ parts, p.length = 480 ∧ slice p 256 16 = nonce ∧ fld p 284 2 = type) :
    rpaVerify key nonce type (rpaFrames key parts) = true := by
  have h1 : rpaFrames key parts ≠ [] := by
    intro e
    have := rpaFrames_parts key parts (fun p hp => (h p hp).1)
    rw [e] at this
    exact hne (by simpa using this.symm)
  have h2 : ∀ f ∈ rpaFrames key parts, f.length = 512 ∧ slice f 256 16 = nonce ∧ fld f 284 2 = type := by
    intro f hf
    obtain ⟨q, hq, x, rfl, hx⟩ := rpaFrames_mem key parts f hf
    obtain ⟨a, b, c⟩ := h q hq
    refine ⟨by simp [a, hx], ?_, ?_⟩
    · rw [slice_left _ _ _ _ (by omega)]; exact b
    · rw [fld, slice_left _ _ _ _ (by omega)]; exact c
  have h3 : (rpaFrames key parts).getLast?.map (fun f => f.drop 480) = some (rpaMac key ((rpaFrames key parts).map (fun f => f.take 480))) := by
    rw [rpaFrames_parts key parts (fun p hp => (h p hp).1)]
    rcases List.eq_nil_or_concat parts with rfl | ⟨l, p, rfl⟩
    · exact absurd rfl hne
    · rw [List.concat_eq_append, rpaFrames_concat, List.getLast?_concat]
      simp only [Option.map]
      rw [← (h p (by simp)).1]
      simp
  simp only [rpaVerify, Bool.and_eq_true, decide_eq_true_eq, List.all_eq_true]
  exact ⟨⟨h1, fun f hf => ⟨⟨(h2 f hf).1, (h2 f hf).2.1⟩, (h2 f hf).2.2⟩⟩, h3⟩

/-- A response whose parts carry RESULT 0 is in order. -/
theorem rpaOk_rpaFrames (key : Bytes) (parts : List Bytes) (h : ∀ p ∈ parts, p.length = 480 ∧ fld p 282 2 = 0) : rpaOk (rpaFrames key parts) = true := by
  simp only [rpaOk, List.all_eq_true, decide_eq_true_eq]
  intro f hf
  obtain ⟨q, hq, x, rfl, _⟩ := rpaFrames_mem key parts f hf
  rw [fld, slice_left _ _ _ _ (by rw [(h q hq).1]; omega)]
  exact (h q hq).2

end Sys2Proof.Laws
end

