-- ==== Sys2Proof/Laws/Otnak.lean ====
section
/-! SUPPORT. What an Otnak command does to the running item of a ticket, said once for every instruction. -/

namespace Sys2Proof.Laws

open Sys2Proof.Machine Sys2Proof.Safety

/-- The engines are not paused where the stalls run. -/
theorem runs_not_paused (s : State) (h : Runs s) : s.enginesPaused = false := by
  simp [State.enginesPaused, h.1, h.2]

/-- Turning the cores to an item changes the items alone. -/
theorem turned_items (s : State) (i : Item) (w : Nat) :
    (if i.core then s else s.onCore i.unit w) = { s with units := { s.units with items := onItsCores s i w } } := by
  unfold onItsCores
  split <;> rfl

/-- An Otnak command whose item goes on replaces the item's machine and changes nothing else. -/
theorem otnak_goes_on (s : State) (w : Nat) (f : Vm → Vm) (i : Item) (t : Tk) (h : Running s w i t) (hg : GoesOn t (f i.vm)) :
    s.otnak w f = { s with units := { s.units with items := itemsWith (onItsCores s i w) w (f i.vm) } } := by
  obtain ⟨hr, hi, ht, hb, hrun, hcy, hcore⟩ := h
  obtain ⟨he, hc⟩ := hg
  have hlen : ∀ a, t.applet = some a → ¬(a.code.length ≠ 0 ∧ a.code.length ≤ (f i.vm).pc) := by
    intro a ha
    have := hc a ha
    omega
  have hm : s.mayRun i = true := by simp [State.mayRun, hrun, hcy, hcore]
  unfold State.otnak
  simp only [runs_not_paused s hr, hi, ht, hb, hm, turned_items, Bool.not_true, Bool.or_self, Bool.false_eq_true, if_false]
  cases ha : t.applet with
  | none => simp [he, itemsWith, State.putVm]
  | some a =>
    have := hlen a ha
    simp only [he, true_and, if_neg this, true_or, if_true, itemsWith, State.putVm]

/-- An Otnak command that ends its item within its worst case hands it over. -/
theorem otnak_ends (s : State) (w : Nat) (f : Vm → Vm) (i : Item) (t : Tk) (h : Running s w i t) (he : (f i.vm).ended ≠ .running) (hw : (f i.vm).cycles ≤ (f i.vm).worst) :
    s.otnak w f = ((if i.core then s else s.onCore i.unit w).putVm w (f i.vm)).handOver t i (some (f i.vm)) := by
  obtain ⟨hr, hi, ht, hb, hrun, hcy, hcore⟩ := h
  have hm : s.mayRun i = true := by simp [State.mayRun, hrun, hcy, hcore]
  unfold State.otnak
  simp [runs_not_paused s hr, hi, ht, hb, hm, he, Nat.not_lt.mpr hw]

/-- The same as a statement about a command. -/
theorem turnsTo_of_otnak (c : Instr) (w : Nat) (f : Vm → Vm) (s : State) (i : Item) (t : Tk) (v : Vm)
    (hx : exec c s = .next (s.otnak w f)) (hv : f i.vm = v) : TurnsTo c w s i t v := by
  intro h hg
  subst hv
  refine ⟨_, hx.trans (congrArg _ (otnak_goes_on s w f i t h hg)), ?_, ?_⟩ <;> simp [OnlyItems]

end Sys2Proof.Laws
end

