-- ==== Sys2Proof/WellFormed.lean ====
section
/-! DEFINITION. When a command is well formed: every number it carries names something the BX512 has. -/

namespace Sys2Proof

/-- The parts of the BX512 a command can name, each with how many there are. -/
abbrev Count.rings : Nat := Config.ringPairs
/-- Unit addresses have 16 bits (R163). -/
abbrev Count.units : Nat := 65536
/-- Flash target numbers: 64 channels, 4 CE pins, 4 volumes (R254). -/
abbrev Count.targets : Nat := 1024
/-- LUNs of a target (R254). -/
abbrev Count.luns : Nat := 8
/-- Scheduling classes (R68). -/
abbrev Count.classes : Nat := 4
/-- Blocks of a LUN: BLOCKS_PER_LUN has 32 bits (R260). -/
abbrev Count.blocks : Nat := 2 ^ 32
/-- Pages of a block (R260). -/
abbrev Count.pages : Nat := 4096
/-- Crate identifiers have 32 bits (R302). -/
abbrev Count.crates : Nat := 2 ^ 32
/-- Crossings 1 to 68 (R416). -/
abbrev Count.crossings : Nat := 69
/-- Bytes of the largest BAR, BAR2 (R26). -/
abbrev Count.barBytes : Nat := 2 ^ 24
/-- BAR numbers of a function and, as 6, its configuration space (R26, log 101). -/
abbrev Count.bars : Nat := 7
/-- An access has at most 8 bytes (R437). -/
abbrev Count.widths : Nat := 9
/-- Vault handles have 32 bits (R242). -/
abbrev Count.handles : Nat := 2 ^ 32

/-- Is the number the address of a row, 0x2mr0 (R162)? -/
def rowUnit (u : Nat) : Bool := u / 4096 == 2 && u / 256 % 16 < 8 && u / 16 % 16 < 8 && u % 16 == 0

/-- The sub-tests in the short set of an engine of a kind, by the level of its unit address (R218, R237). -/
def shortMask (u : Nat) : Nat :=
  match u / 4096 with
  | 4 => 0x14C7 | 5 => 0x1C3 | 6 => 0x7003 | 7 => 0x282 | _ => 0

/-- The numbers of a command that name a part of the BX512, each with the bound it stays below. -/
def Instr.indices (i : Instr) : List (Nat × Nat) :=
  match i with
  | .sqTail _ ring _ => [(ring, Count.rings)]
  | .cqHead _ ring _ => [(ring, Count.rings)]
  | .enable ring _ => [(ring, Count.rings)]
  | .abort ring => [(ring, Count.rings)]
  | .ringActivation ring => [(ring, Count.rings)]
  | .ringDrainComplete ring => [(ring, Count.rings)]
  | .busMasterEnableCleared _ => []
  | .busMasterEnableSet _ => []
  | .ticketFetch ring _ _ => [(ring, Count.rings)]
  | .completionError _ => []
  | .tokenGrant _ _ => []
  | .spaceWaitExpiry _ => []
  | .itemStart unit => [(unit, Count.units)]
  | .tillCommit _ => []
  | .modTimeExpiry ring => [(ring, Count.rings)]
  | .vectorUnmask _ _ => []
  | .ingest _ _ => []
  | .ingestSigned _ _ => []
  | .openTab _ => []
  | .closeTab _ => []
  | .hold _ => []
  | .releaseHold _ => []
  | .markUploaded _ => []
  | .heartbeat _ => []
  | .holdover _ => []
  | .fence _ => []
  | .setTime _ _ => []
  | .readSealed _ _ => []
  | .tabStatusRead _ _ => []
  | .absenceProofRead _ _ => []
  | .ledgerRead _ _ => []
  | .escrowWrapRead _ _ => []
  | .signerCertificateRead _ _ => []
  | .identityCertificateRead _ _ => []
  | .tamperLogRead _ _ => []
  | .faultLogRead _ _ => []
  | .readClear _ _ => []
  | .search _ _ _ => []
  | .loadApplet _ _ => []
  | .loadTemplate _ _ => []
  | .lockstepTest _ _ _ => []
  | .memoryTest _ _ _ => []
  | .katTest _ _ _ => []
  | .monitorTest _ _ _ => []
  | .fullTest _ _ _ => []
  | .readLevelCal _ _ => []
  | .interfaceCal _ _ => []
  | .scrubCal _ _ => []
  | .enrol _ _ _ => []
  | .exportOpen _ _ _ => []
  | .wipe _ _ _ => []
  | .abandon _ _ _ => []
  | .lockdownRelease _ _ => []
  | .claim _ _ => []
  | .ownerChange _ _ => []
  | .returnDevice _ _ => []
  | .scrap _ _ => []
  | .authorityUpdate _ _ => []
  | .fuse _ _ _ => []
  | .transitionPhases _ => []
  | .debugPass _ _ => []
  | .oAdd _ _ _ _ => []
  | .oSub _ _ _ _ => []
  | .oAnd _ _ _ _ => []
  | .oOr _ _ _ _ => []
  | .oXor _ _ _ _ => []
  | .oShl _ _ _ _ => []
  | .oShr _ _ _ _ => []
  | .oSar _ _ _ _ => []
  | .oMul _ _ _ _ => []
  | .oMinu _ _ _ _ => []
  | .oMaxu _ _ _ _ => []
  | .oSltu _ _ _ _ => []
  | .oBswap _ _ _ => []
  | .oAddi _ _ _ _ => []
  | .oAndi _ _ _ _ => []
  | .oOri _ _ _ _ => []
  | .oXori _ _ _ _ => []
  | .oShli _ _ _ _ => []
  | .oShri _ _ _ _ => []
  | .oLdi _ _ _ => []
  | .oLdh1 _ _ _ _ => []
  | .oLdh2 _ _ _ _ => []
  | .oLdh3 _ _ _ _ => []
  | .oLd8 _ _ _ _ => []
  | .oLd16 _ _ _ _ => []
  | .oLd32 _ _ _ _ => []
  | .oLd64 _ _ _ _ => []
  | .oSt8 _ _ _ _ => []
  | .oSt16 _ _ _ _ => []
  | .oSt32 _ _ _ _ => []
  | .oSt64 _ _ _ _ => []
  | .oIn8 _ _ _ _ => []
  | .oIn16b _ _ _ _ => []
  | .oIn32b _ _ _ _ => []
  | .oIn32l _ _ _ _ => []
  | .oHmark _ _ _ _ => []
  | .oQld64 _ _ _ _ => []
  | .oLds _ _ _ => []
  | .oSts _ _ _ => []
  | .oInfo _ _ _ => []
  | .oBeq _ _ _ _ => []
  | .oBne _ _ _ _ => []
  | .oBltu _ _ _ _ => []
  | .oBgeu _ _ _ _ => []
  | .oBlt _ _ _ _ => []
  | .oBge _ _ _ _ => []
  | .oJmp _ _ => []
  | .oLoop _ _ _ => []
  | .oLoopb _ _ _ => []
  | .oLeave _ => []
  | .oEnd _ => []
  | .oFind _ _ _ _ _ _ => []
  | .oHashm _ _ _ _ => []
  | .oEmark _ _ => []
  | .oEindex _ _ _ _ => []
  | .oEmatch _ _ _ => []
  | .oRefuse _ _ => []
  | .gcm r => [(r.row, Count.units)]
  | .ctr r => [(r.row, Count.units)]
  | .cbc r => [(r.row, Count.units)]
  | .cmac r => [(r.row, Count.units)]
  | .xts r => [(r.row, Count.units)]
  | .ecb r => [(r.row, Count.units)]
  | .sha256 r => [(r.row, Count.units)]
  | .sha384 r => [(r.row, Count.units)]
  | .sha512 r => [(r.row, Count.units)]
  | .sha3x256 r => [(r.row, Count.units)]
  | .sha3x384 r => [(r.row, Count.units)]
  | .hmac r _ _ => [(r.row, Count.units)]
  | .ecdsaVerifyP256 r => [(r.owner, Count.units), (r.keyOut, Count.handles)]
  | .ecdsaVerifyP384 r => [(r.owner, Count.units), (r.keyOut, Count.handles)]
  | .ecdsaVerifyP521 r => [(r.owner, Count.units), (r.keyOut, Count.handles)]
  | .ecdsaSignP256 r => [(r.owner, Count.units), (r.keyOut, Count.handles)]
  | .ecdsaSignP384 r => [(r.owner, Count.units), (r.keyOut, Count.handles)]
  | .ecdsaSignP521 r => [(r.owner, Count.units), (r.keyOut, Count.handles)]
  | .ecdhP256 r => [(r.owner, Count.units), (r.keyOut, Count.handles)]
  | .ecdhP384 r => [(r.owner, Count.units), (r.keyOut, Count.handles)]
  | .ecdhP521 r => [(r.owner, Count.units), (r.keyOut, Count.handles)]
  | .ecKeyGenerationP256 r => [(r.owner, Count.units), (r.keyOut, Count.handles)]
  | .ecKeyGenerationP384 r => [(r.owner, Count.units), (r.keyOut, Count.handles)]
  | .ecKeyGenerationP521 r => [(r.owner, Count.units), (r.keyOut, Count.handles)]
  | .ed25519Verify r => [(r.owner, Count.units), (r.keyOut, Count.handles)]
  | .ed25519Sign r => [(r.owner, Count.units), (r.keyOut, Count.handles)]
  | .x25519 r => [(r.owner, Count.units), (r.keyOut, Count.handles)]
  | .x25519KeyGeneration r => [(r.owner, Count.units), (r.keyOut, Count.handles)]
  | .rsaPublic2048 r => [(r.owner, Count.units), (r.keyOut, Count.handles)]
  | .rsaPublic3072 r => [(r.owner, Count.units), (r.keyOut, Count.handles)]
  | .rsaPublic4096 r => [(r.owner, Count.units), (r.keyOut, Count.handles)]
  | .rsaPrivate2048 r => [(r.owner, Count.units), (r.keyOut, Count.handles)]
  | .rsaPrivate3072 r => [(r.owner, Count.units), (r.keyOut, Count.handles)]
  | .rsaPrivate4096 r => [(r.owner, Count.units), (r.keyOut, Count.handles)]
  | .mlDsa44Verify r => [(r.owner, Count.units), (r.keyOut, Count.handles)]
  | .mlDsa65Verify r => [(r.owner, Count.units), (r.keyOut, Count.handles)]
  | .mlDsa87Verify r => [(r.owner, Count.units), (r.keyOut, Count.handles)]
  | .mlDsa44Sign r => [(r.owner, Count.units), (r.keyOut, Count.handles)]
  | .mlDsa65Sign r => [(r.owner, Count.units), (r.keyOut, Count.handles)]
  | .mlDsa87Sign r => [(r.owner, Count.units), (r.keyOut, Count.handles)]
  | .mlDsa44KeyGeneration r => [(r.owner, Count.units), (r.keyOut, Count.handles)]
  | .mlDsa65KeyGeneration r => [(r.owner, Count.units), (r.keyOut, Count.handles)]
  | .mlDsa87KeyGeneration r => [(r.owner, Count.units), (r.keyOut, Count.handles)]
  | .mlKem768KeyGeneration r => [(r.owner, Count.units), (r.keyOut, Count.handles)]
  | .mlKem768Encapsulation r => [(r.owner, Count.units), (r.keyOut, Count.handles)]
  | .mlKem768Decapsulation r => [(r.owner, Count.units), (r.keyOut, Count.handles)]
  | .busyRetry => []
  | .tickBoundary => []
  | .tickRecordSealed _ _ => []
  | .tickRecordDurable _ => []
  | .slew => []
  | .timeConfig _ _ => []
  | .epochPreparation _ => []
  | .epochChange => []
  | .shred => []
  | .drbgReseed _ => []
  | .grinderReseed _ _ => []
  | .poolReseed _ => []
  | .rowProgrammed crate _ => [(crate, Count.crates)]
  | .reclaim => []
  | .rebuild => []
  | .periodicScrub _ => []
  | .readDisturbScrub _ => []
  | .refresh => []
  | .readLevelCalibration out => [(out.target, Count.targets)]
  | .wearLevelling => []
  | .build _ _ => []
  | .extension _ _ => []
  | .retrain target _ => [(target, Count.targets)]
  | .flashTimeout target lun _ _ _ _ => [(target, Count.targets), (lun, Count.luns)]
  | .fcReset target => [(target, Count.targets)]
  | .fcResetLun target lun => [(target, Count.targets), (lun, Count.luns)]
  | .fcVolumeSelect target => [(target, Count.targets)]
  | .fcOdtConfigure target => [(target, Count.targets)]
  | .fcReadId target _ => [(target, Count.targets)]
  | .fcReadParameterPage target _ => [(target, Count.targets)]
  | .fcSetFeatures target _ _ => [(target, Count.targets)]
  | .fcGetFeatures target _ => [(target, Count.targets)]
  | .fcSetFeaturesByLun target lun _ _ => [(target, Count.targets), (lun, Count.luns)]
  | .fcGetFeaturesByLun target lun _ => [(target, Count.targets), (lun, Count.luns)]
  | .fcZqCalibrationLong target => [(target, Count.targets)]
  | .fcZqCalibrationShort target => [(target, Count.targets)]
  | .fcReadDqTraining target _ => [(target, Count.targets)]
  | .fcWriteTrainingTx target _ => [(target, Count.targets)]
  | .fcWriteTrainingRx target _ => [(target, Count.targets)]
  | .fcRead target lun block page cls _ => [(target, Count.targets), (lun, Count.luns), (block, Count.blocks), (page, Count.pages), (cls, Count.classes)]
  | .fcMultiPlaneRead target lun block page cls _ => [(target, Count.targets), (lun, Count.luns), (block, Count.blocks), (page, Count.pages), (cls, Count.classes)]
  | .fcChangeReadColumnEnhanced target lun _ => [(target, Count.targets), (lun, Count.luns)]
  | .fcReadStatusEnhanced target lun _ _ => [(target, Count.targets), (lun, Count.luns)]
  | .fcPageProgram target lun block page => [(target, Count.targets), (lun, Count.luns), (block, Count.blocks), (page, Count.pages)]
  | .fcMultiPlaneProgram target lun block page => [(target, Count.targets), (lun, Count.luns), (block, Count.blocks), (page, Count.pages)]
  | .fcBlockErase target lun block => [(target, Count.targets), (lun, Count.luns), (block, Count.blocks)]
  | .fcMultiPlaneErase target lun block => [(target, Count.targets), (lun, Count.luns), (block, Count.blocks)]
  | .fcEraseSuspend target lun cls => [(target, Count.targets), (lun, Count.luns), (cls, Count.classes)]
  | .fcEraseResume target lun => [(target, Count.targets), (lun, Count.luns)]
  | .ddrError _ _ _ _ _ => []
  | .patrolScrub _ => []
  | .selfRefresh _ _ => []
  | .elasticFillComplete => []
  | .cartridgeInsertion _ => []
  | .slotBringup _ _ => []
  | .removal _ => []
  | .linkTimeout _ _ => []
  | .slotIdle _ => []
  | .mhGoIdle _ => []
  | .mhIdentify _ _ => []
  | .mhReadIdent _ _ => []
  | .mhSelect _ _ => []
  | .mhSwitch _ _ _ => []
  | .mhReadCheck _ _ _ => []
  | .mhStop _ _ => []
  | .mhStatus _ _ => []
  | .mhReadBlocks _ _ _ _ => []
  | .mhWriteBlocks _ _ _ _ _ => []
  | .mhSetCount _ _ _ => []
  | .mhRpaRead _ _ _ => []
  | .mhRpaWrite _ _ _ _ => []
  | .mhCounterRead _ _ _ => []
  | .mhPair _ _ => []
  | .mhReadKey _ _ _ => []
  | .mhSleep _ _ => []
  | .mhWake _ _ => []
  | .streamUnitWrite _ _ _ _ => []
  | .headlessAvailable => []
  | .headlessSessionOpen => []
  | .cartridgeReturnTimeout => []
  | .hxStTimeout => []
  | .cardInsertion _ => []
  | .cardActivation _ _ _ => []
  | .apduSelectByName _ _ => []
  | .apduReadBinary _ _ _ => []
  | .apduInternalAuthenticate _ _ _ => []
  | .apduGetResponse _ _ _ => []
  | .cardRemoval _ => []
  | .authorisationExpiry _ => []
  | .tamperDetection _ _ => []
  | .backupDetection _ => []
  | .tamperLogFlush => []
  | .faultLogFlush => []
  | .counterCheck _ => []
  | .lock => []
  | .tamperSrcWrite _ _ => []
  | .newNonce => []
  | .endPass => []
  | .passExpiry => []
  | .debugAccess _ _ => []
  | .extest => []
  | .heartbeatTimeout => []
  | .catchupEnd => []
  | .startUp _ => []
  | .powerLoss => []
  | .brownOut => []
  | .deviceReset => []
  | .portReset _ => []
  | .flr _ => []
  | .linkDown _ => []
  | .linkUp _ _ width => [(width, Count.widths)]
  | .vbatSwitchover _ => []
  | .supplyWarning => []
  | .warningRelease _ => []
  | .rowGate _ => []
  | .flashGroupGate _ => []
  | .sysclkLoss => []
  | .sysclkResume _ => []
  | .reconciliation crossing _ => [(crossing, Count.crossings)]
  | .lockstepMismatch unit _ => [(unit, Count.units)]
  | .worstCaseOverrun unit _ => [(unit, Count.units)]
  | .stallTestComplete unit _ => [(unit, Count.units)]
  | .checkFault unit _ => [(unit, Count.units)]
  | .ledgerHasherCheck _ _ _ => []
  | .pkeCheck _ _ => []
  | .shortSetComplete unit _ => [(unit, Count.units)]
  | .latClear => []
  | .maxClear => []
  | .wmtBaseWrite _ _ => []
  | .intrEnableWrite _ => []
  | .intrVectorWrite _ _ => []
  | .latchedRead _ bar offset width => [(offset, Count.barBytes), (width, Count.widths), (bar, Count.bars)]
  | .registerWrite wr => [(wr.offset, Count.barBytes), (wr.width, Count.widths), (wr.bar, Count.bars)]
  | .powerStateD3hot _ _ => []
  | .perstRelease _ => []
  | .conditionCleared _ => []
  | .vbatLoss => []
  | .vbatApplied => []
  | .mergedMessage _ => []

/-- What else a command's operands satisfy: an access's value fits its width, a row address is a row's, the lengths of a FIND are in range, at most four tickets come at a fetch. -/
def Instr.fits (i : Instr) : Bool :=
  match i with
  | .sqTail _ _ _ => true
  | .cqHead _ _ _ => true
  | .enable _ _ => true
  | .abort _ => true
  | .ringActivation _ => true
  | .ringDrainComplete _ => true
  | .busMasterEnableCleared _ => true
  | .busMasterEnableSet _ => true
  | .ticketFetch _ _ reads => decide (reads.length ≤ 4)
  | .completionError _ => true
  | .tokenGrant _ _ => true
  | .spaceWaitExpiry _ => true
  | .itemStart _ => true
  | .tillCommit _ => true
  | .modTimeExpiry _ => true
  | .vectorUnmask _ _ => true
  | .ingest _ _ => true
  | .ingestSigned _ _ => true
  | .openTab _ => true
  | .closeTab _ => true
  | .hold _ => true
  | .releaseHold _ => true
  | .markUploaded _ => true
  | .heartbeat _ => true
  | .holdover _ => true
  | .fence _ => true
  | .setTime _ _ => true
  | .readSealed _ _ => true
  | .tabStatusRead _ _ => true
  | .absenceProofRead _ _ => true
  | .ledgerRead _ _ => true
  | .escrowWrapRead _ _ => true
  | .signerCertificateRead _ _ => true
  | .identityCertificateRead _ _ => true
  | .tamperLogRead _ _ => true
  | .faultLogRead _ _ => true
  | .readClear _ _ => true
  | .search _ _ _ => true
  | .loadApplet _ _ => true
  | .loadTemplate _ _ => true
  | .lockstepTest _ _ _ => true
  | .memoryTest _ _ _ => true
  | .katTest _ _ _ => true
  | .monitorTest _ _ _ => true
  | .fullTest _ _ _ => true
  | .readLevelCal _ outs => outs.all (fun o => decide (o.target < Count.targets))
  | .interfaceCal _ outs => outs.all (fun o => decide (o.target < Count.targets))
  | .scrubCal _ _ => true
  | .enrol _ _ _ => true
  | .exportOpen _ _ _ => true
  | .wipe _ _ _ => true
  | .abandon _ _ _ => true
  | .lockdownRelease _ _ => true
  | .claim _ _ => true
  | .ownerChange _ _ => true
  | .returnDevice _ _ => true
  | .scrap _ _ => true
  | .authorityUpdate _ _ => true
  | .fuse _ _ _ => true
  | .transitionPhases _ => true
  | .debugPass _ _ => true
  | .oAdd _ _ _ _ => true
  | .oSub _ _ _ _ => true
  | .oAnd _ _ _ _ => true
  | .oOr _ _ _ _ => true
  | .oXor _ _ _ _ => true
  | .oShl _ _ _ _ => true
  | .oShr _ _ _ _ => true
  | .oSar _ _ _ _ => true
  | .oMul _ _ _ _ => true
  | .oMinu _ _ _ _ => true
  | .oMaxu _ _ _ _ => true
  | .oSltu _ _ _ _ => true
  | .oBswap _ _ _ => true
  | .oAddi _ _ _ _ => true
  | .oAndi _ _ _ _ => true
  | .oOri _ _ _ _ => true
  | .oXori _ _ _ _ => true
  | .oShli _ _ _ _ => true
  | .oShri _ _ _ _ => true
  | .oLdi _ _ _ => true
  | .oLdh1 _ _ _ _ => true
  | .oLdh2 _ _ _ _ => true
  | .oLdh3 _ _ _ _ => true
  | .oLd8 _ _ _ _ => true
  | .oLd16 _ _ _ _ => true
  | .oLd32 _ _ _ _ => true
  | .oLd64 _ _ _ _ => true
  | .oSt8 _ _ _ _ => true
  | .oSt16 _ _ _ _ => true
  | .oSt32 _ _ _ _ => true
  | .oSt64 _ _ _ _ => true
  | .oIn8 _ _ _ _ => true
  | .oIn16b _ _ _ _ => true
  | .oIn32b _ _ _ _ => true
  | .oIn32l _ _ _ _ => true
  | .oHmark _ _ _ _ => true
  | .oQld64 _ _ _ _ => true
  | .oLds _ _ _ => true
  | .oSts _ _ _ => true
  | .oInfo _ _ _ => true
  | .oBeq _ _ _ _ => true
  | .oBne _ _ _ _ => true
  | .oBltu _ _ _ _ => true
  | .oBgeu _ _ _ _ => true
  | .oBlt _ _ _ _ => true
  | .oBge _ _ _ _ => true
  | .oJmp _ _ => true
  | .oLoop _ _ _ => true
  | .oLoopb _ _ _ => true
  | .oLeave _ => true
  | .oEnd _ => true
  | .oFind _ _ _ _ p k => decide (1 ≤ p ∧ p ≤ 4 ∧ 6 ≤ k ∧ k ≤ 10)
  | .oHashm _ _ _ _ => true
  | .oEmark _ _ => true
  | .oEindex _ _ _ _ => true
  | .oEmatch _ _ _ => true
  | .oRefuse _ _ => true
  | .gcm r => rowUnit r.row
  | .ctr r => rowUnit r.row
  | .cbc r => rowUnit r.row
  | .cmac r => rowUnit r.row
  | .xts r => rowUnit r.row
  | .ecb r => rowUnit r.row
  | .sha256 r => rowUnit r.row
  | .sha384 r => rowUnit r.row
  | .sha512 r => rowUnit r.row
  | .sha3x256 r => rowUnit r.row
  | .sha3x384 r => rowUnit r.row
  | .hmac r _ _ => rowUnit r.row
  | .ecdsaVerifyP256 _ => true
  | .ecdsaVerifyP384 _ => true
  | .ecdsaVerifyP521 _ => true
  | .ecdsaSignP256 _ => true
  | .ecdsaSignP384 _ => true
  | .ecdsaSignP521 _ => true
  | .ecdhP256 _ => true
  | .ecdhP384 _ => true
  | .ecdhP521 _ => true
  | .ecKeyGenerationP256 _ => true
  | .ecKeyGenerationP384 _ => true
  | .ecKeyGenerationP521 _ => true
  | .ed25519Verify _ => true
  | .ed25519Sign _ => true
  | .x25519 _ => true
  | .x25519KeyGeneration _ => true
  | .rsaPublic2048 _ => true
  | .rsaPublic3072 _ => true
  | .rsaPublic4096 _ => true
  | .rsaPrivate2048 _ => true
  | .rsaPrivate3072 _ => true
  | .rsaPrivate4096 _ => true
  | .mlDsa44Verify _ => true
  | .mlDsa65Verify _ => true
  | .mlDsa87Verify _ => true
  | .mlDsa44Sign _ => true
  | .mlDsa65Sign _ => true
  | .mlDsa87Sign _ => true
  | .mlDsa44KeyGeneration _ => true
  | .mlDsa65KeyGeneration _ => true
  | .mlDsa87KeyGeneration _ => true
  | .mlKem768KeyGeneration _ => true
  | .mlKem768Encapsulation _ => true
  | .mlKem768Decapsulation _ => true
  | .busyRetry => true
  | .tickBoundary => true
  | .tickRecordSealed _ _ => true
  | .tickRecordDurable _ => true
  | .slew => true
  | .timeConfig _ _ => true
  | .epochPreparation _ => true
  | .epochChange => true
  | .shred => true
  | .drbgReseed _ => true
  | .grinderReseed _ _ => true
  | .poolReseed _ => true
  | .rowProgrammed _ _ => true
  | .reclaim => true
  | .rebuild => true
  | .periodicScrub _ => true
  | .readDisturbScrub _ => true
  | .refresh => true
  | .readLevelCalibration _ => true
  | .wearLevelling => true
  | .build _ answers => answers.all (fun a => decide (a.target < Count.targets))
  | .extension _ answers => answers.all (fun a => decide (a.target < Count.targets))
  | .retrain _ _ => true
  | .flashTimeout _ _ _ _ _ _ => true
  | .fcReset _ => true
  | .fcResetLun _ _ => true
  | .fcVolumeSelect _ => true
  | .fcOdtConfigure _ => true
  | .fcReadId _ _ => true
  | .fcReadParameterPage _ _ => true
  | .fcSetFeatures _ _ _ => true
  | .fcGetFeatures _ _ => true
  | .fcSetFeaturesByLun _ _ _ _ => true
  | .fcGetFeaturesByLun _ _ _ => true
  | .fcZqCalibrationLong _ => true
  | .fcZqCalibrationShort _ => true
  | .fcReadDqTraining _ _ => true
  | .fcWriteTrainingTx _ _ => true
  | .fcWriteTrainingRx _ _ => true
  | .fcRead _ _ _ _ _ _ => true
  | .fcMultiPlaneRead _ _ _ _ _ _ => true
  | .fcChangeReadColumnEnhanced _ _ _ => true
  | .fcReadStatusEnhanced _ _ _ _ => true
  | .fcPageProgram _ _ _ _ => true
  | .fcMultiPlaneProgram _ _ _ _ => true
  | .fcBlockErase _ _ _ => true
  | .fcMultiPlaneErase _ _ _ => true
  | .fcEraseSuspend _ _ _ => true
  | .fcEraseResume _ _ => true
  | .ddrError _ _ _ _ _ => true
  | .patrolScrub _ => true
  | .selfRefresh _ _ => true
  | .elasticFillComplete => true
  | .cartridgeInsertion _ => true
  | .slotBringup _ _ => true
  | .removal _ => true
  | .linkTimeout _ _ => true
  | .slotIdle _ => true
  | .mhGoIdle _ => true
  | .mhIdentify _ _ => true
  | .mhReadIdent _ _ => true
  | .mhSelect _ _ => true
  | .mhSwitch _ _ _ => true
  | .mhReadCheck _ _ _ => true
  | .mhStop _ _ => true
  | .mhStatus _ _ => true
  | .mhReadBlocks _ _ _ _ => true
  | .mhWriteBlocks _ _ _ _ _ => true
  | .mhSetCount _ _ _ => true
  | .mhRpaRead _ _ _ => true
  | .mhRpaWrite _ _ _ _ => true
  | .mhCounterRead _ _ _ => true
  | .mhPair _ _ => true
  | .mhReadKey _ _ _ => true
  | .mhSleep _ _ => true
  | .mhWake _ _ => true
  | .streamUnitWrite _ _ _ _ => true
  | .headlessAvailable => true
  | .headlessSessionOpen => true
  | .cartridgeReturnTimeout => true
  | .hxStTimeout => true
  | .cardInsertion _ => true
  | .cardActivation _ _ _ => true
  | .apduSelectByName _ _ => true
  | .apduReadBinary _ _ _ => true
  | .apduInternalAuthenticate _ _ _ => true
  | .apduGetResponse _ _ _ => true
  | .cardRemoval _ => true
  | .authorisationExpiry _ => true
  | .tamperDetection dets _ => dets.all (fun d => decide (d.source < 32))
  | .backupDetection dets => dets.all (fun d => decide (d.source < 32))
  | .tamperLogFlush => true
  | .faultLogFlush => true
  | .counterCheck _ => true
  | .lock => true
  | .tamperSrcWrite _ _ => true
  | .newNonce => true
  | .endPass => true
  | .passExpiry => true
  | .debugAccess _ _ => true
  | .extest => true
  | .heartbeatTimeout => true
  | .catchupEnd => true
  | .startUp ans => ans.deadTargets.all (fun t => decide (t < Count.targets))
  | .powerLoss => true
  | .brownOut => true
  | .deviceReset => true
  | .portReset _ => true
  | .flr _ => true
  | .linkDown _ => true
  | .linkUp _ _ _ => true
  | .vbatSwitchover _ => true
  | .supplyWarning => true
  | .warningRelease _ => true
  | .rowGate _ => true
  | .flashGroupGate _ => true
  | .sysclkLoss => true
  | .sysclkResume _ => true
  | .reconciliation _ _ => true
  | .lockstepMismatch _ _ => true
  | .worstCaseOverrun _ _ => true
  | .stallTestComplete _ _ => true
  | .checkFault _ _ => true
  | .ledgerHasherCheck _ _ _ => true
  | .pkeCheck _ _ => true
  | .shortSetComplete unit failed => failed &&& shortMask unit == failed
  | .latClear => true
  | .maxClear => true
  | .wmtBaseWrite _ _ => true
  | .intrEnableWrite _ => true
  | .intrVectorWrite _ _ => true
  | .latchedRead _ bar _ _ => bar % 2 == 0
  | .registerWrite wr => wr.bar % 2 == 0 && decide (wr.value < 2 ^ (8 * wr.width))
  | .powerStateD3hot _ _ => true
  | .perstRelease _ => true
  | .conditionCleared _ => true
  | .vbatLoss => true
  | .vbatApplied => true
  | .mergedMessage _ => true

/-- A well-formed command. -/
def Instr.wellFormed (i : Instr) : Bool :=
  i.indices.all (fun p => decide (p.1 < p.2)) && i.fits

end Sys2Proof
end

