-- ==== Sys2Proof/Laws/PerInstr.lean ====
section
/-! SUPPORT. The per-command family CommandFields: a well-formed command names only parts the BX512 has. -/

namespace Sys2Proof.Laws.CommandFields

/-- Every number of a well-formed command stays below the count of what it names. -/
def Statement (i : Instr) : Prop :=
  i.wellFormed = true → ∀ p ∈ i.indices, p.1 < p.2

/-- The family's one proof, for any command. -/
theorem indices_bounded (i : Instr) : Statement i := by
  intro h p hp
  simp only [Instr.wellFormed, Bool.and_eq_true, List.all_eq_true, decide_eq_true_eq] at h
  exact h.1 p hp

theorem sqTail (port : Fin 2) (ring : Nat) (value : BitVec 32) : Statement (.sqTail port ring value) :=
  indices_bounded _
theorem cqHead (port : Fin 2) (ring : Nat) (value : BitVec 32) : Statement (.cqHead port ring value) :=
  indices_bounded _
theorem enable (ring : Nat) (on : Bool) : Statement (.enable ring on) :=
  indices_bounded _
theorem abort (ring : Nat) : Statement (.abort ring) :=
  indices_bounded _
theorem ringActivation (ring : Nat) : Statement (.ringActivation ring) :=
  indices_bounded _
theorem ringDrainComplete (ring : Nat) : Statement (.ringDrainComplete ring) :=
  indices_bounded _
theorem busMasterEnableCleared (port : Fin 2) : Statement (.busMasterEnableCleared port) :=
  indices_bounded _
theorem busMasterEnableSet (port : Fin 2) : Statement (.busMasterEnableSet port) :=
  indices_bounded _
theorem ticketFetch (ring : Nat) (waitedUs : Nat) (reads : List HostRead) : Statement (.ticketFetch ring waitedUs reads) :=
  indices_bounded _
theorem completionError (a : TkArg) : Statement (.completionError a) :=
  indices_bounded _
theorem tokenGrant (rung : Fin 4) (waitedUs : Nat) : Statement (.tokenGrant rung waitedUs) :=
  indices_bounded _
theorem spaceWaitExpiry (id : Nat) : Statement (.spaceWaitExpiry id) :=
  indices_bounded _
theorem itemStart (unit : Nat) : Statement (.itemStart unit) :=
  indices_bounded _
theorem tillCommit (a : TkArg) : Statement (.tillCommit a) :=
  indices_bounded _
theorem modTimeExpiry (ring : Nat) : Statement (.modTimeExpiry ring) :=
  indices_bounded _
theorem vectorUnmask (port : Fin 2) (vector : Option (BitVec 12)) : Statement (.vectorUnmask port vector) :=
  indices_bounded _
theorem ingest (a : TkArg) (reads : IngestRead) : Statement (.ingest a reads) :=
  indices_bounded _
theorem ingestSigned (a : TkArg) (reads : IngestRead) : Statement (.ingestSigned a reads) :=
  indices_bounded _
theorem openTab (a : TkArg) : Statement (.openTab a) :=
  indices_bounded _
theorem closeTab (a : TkArg) : Statement (.closeTab a) :=
  indices_bounded _
theorem hold (a : TkArg) : Statement (.hold a) :=
  indices_bounded _
theorem releaseHold (a : TkArg) : Statement (.releaseHold a) :=
  indices_bounded _
theorem markUploaded (a : TkArg) : Statement (.markUploaded a) :=
  indices_bounded _
theorem heartbeat (a : TkArg) : Statement (.heartbeat a) :=
  indices_bounded _
theorem holdover (a : TkArg) : Statement (.holdover a) :=
  indices_bounded _
theorem fence (a : TkArg) : Statement (.fence a) :=
  indices_bounded _
theorem setTime (a : TkArg) (obj : ObjRead) : Statement (.setTime a obj) :=
  indices_bounded _
theorem readSealed (a : TkArg) (obj : ObjRead) : Statement (.readSealed a obj) :=
  indices_bounded _
theorem tabStatusRead (a : TkArg) (obj : ObjRead) : Statement (.tabStatusRead a obj) :=
  indices_bounded _
theorem absenceProofRead (a : TkArg) (obj : ObjRead) : Statement (.absenceProofRead a obj) :=
  indices_bounded _
theorem ledgerRead (a : TkArg) (obj : ObjRead) : Statement (.ledgerRead a obj) :=
  indices_bounded _
theorem escrowWrapRead (a : TkArg) (obj : ObjRead) : Statement (.escrowWrapRead a obj) :=
  indices_bounded _
theorem signerCertificateRead (a : TkArg) (obj : ObjRead) : Statement (.signerCertificateRead a obj) :=
  indices_bounded _
theorem identityCertificateRead (a : TkArg) (obj : ObjRead) : Statement (.identityCertificateRead a obj) :=
  indices_bounded _
theorem tamperLogRead (a : TkArg) (obj : ObjRead) : Statement (.tamperLogRead a obj) :=
  indices_bounded _
theorem faultLogRead (a : TkArg) (obj : ObjRead) : Statement (.faultLogRead a obj) :=
  indices_bounded _
theorem readClear (a : TkArg) (obj : ObjRead) : Statement (.readClear a obj) :=
  indices_bounded _
theorem search (a : TkArg) (dest : ObjRead) (query : HostRead) : Statement (.search a dest query) :=
  indices_bounded _
theorem loadApplet (a : TkArg) (obj : ObjRead) : Statement (.loadApplet a obj) :=
  indices_bounded _
theorem loadTemplate (a : TkArg) (obj : ObjRead) : Statement (.loadTemplate a obj) :=
  indices_bounded _
theorem lockstepTest (a : TkArg) (dest : ObjRead) (out : TestOut) : Statement (.lockstepTest a dest out) :=
  indices_bounded _
theorem memoryTest (a : TkArg) (dest : ObjRead) (out : TestOut) : Statement (.memoryTest a dest out) :=
  indices_bounded _
theorem katTest (a : TkArg) (dest : ObjRead) (out : TestOut) : Statement (.katTest a dest out) :=
  indices_bounded _
theorem monitorTest (a : TkArg) (dest : ObjRead) (out : MonitorOut) : Statement (.monitorTest a dest out) :=
  indices_bounded _
theorem fullTest (a : TkArg) (dest : ObjRead) (outs : List TestOut) : Statement (.fullTest a dest outs) :=
  indices_bounded _
theorem readLevelCal (a : TkArg) (outs : List CalOut) : Statement (.readLevelCal a outs) :=
  indices_bounded _
theorem interfaceCal (a : TkArg) (outs : List CalOut) : Statement (.interfaceCal a outs) :=
  indices_bounded _
theorem scrubCal (a : TkArg) (outs : List ScrubOut) : Statement (.scrubCal a outs) :=
  indices_bounded _
theorem enrol (a : TkArg) (req : HostRead) (cart : CartAns) : Statement (.enrol a req cart) :=
  indices_bounded _
theorem exportOpen (a : TkArg) (req : HostRead) (cart : CartAns) : Statement (.exportOpen a req cart) :=
  indices_bounded _
theorem wipe (a : TkArg) (req : HostRead) (cart : CartAns) : Statement (.wipe a req cart) :=
  indices_bounded _
theorem abandon (a : TkArg) (req : HostRead) (cart : CartAns) : Statement (.abandon a req cart) :=
  indices_bounded _
theorem lockdownRelease (a : TkArg) (obj : ObjRead) : Statement (.lockdownRelease a obj) :=
  indices_bounded _
theorem claim (a : TkArg) (obj : ObjRead) : Statement (.claim a obj) :=
  indices_bounded _
theorem ownerChange (a : TkArg) (obj : ObjRead) : Statement (.ownerChange a obj) :=
  indices_bounded _
theorem returnDevice (a : TkArg) (obj : ObjRead) : Statement (.returnDevice a obj) :=
  indices_bounded _
theorem scrap (a : TkArg) (obj : ObjRead) : Statement (.scrap a obj) :=
  indices_bounded _
theorem authorityUpdate (a : TkArg) (obj : ObjRead) : Statement (.authorityUpdate a obj) :=
  indices_bounded _
theorem fuse (a : TkArg) (obj : ObjRead) (stuck : List (Fin 32)) : Statement (.fuse a obj stuck) :=
  indices_bounded _
theorem transitionPhases (stuck : Bool) : Statement (.transitionPhases stuck) :=
  indices_bounded _
theorem debugPass (a : TkArg) (obj : ObjRead) : Statement (.debugPass a obj) :=
  indices_bounded _
theorem oAdd (w : Nat) (rd : Fin 16) (ra : Fin 16) (rb : Fin 16) : Statement (.oAdd w rd ra rb) :=
  indices_bounded _
theorem oSub (w : Nat) (rd : Fin 16) (ra : Fin 16) (rb : Fin 16) : Statement (.oSub w rd ra rb) :=
  indices_bounded _
theorem oAnd (w : Nat) (rd : Fin 16) (ra : Fin 16) (rb : Fin 16) : Statement (.oAnd w rd ra rb) :=
  indices_bounded _
theorem oOr (w : Nat) (rd : Fin 16) (ra : Fin 16) (rb : Fin 16) : Statement (.oOr w rd ra rb) :=
  indices_bounded _
theorem oXor (w : Nat) (rd : Fin 16) (ra : Fin 16) (rb : Fin 16) : Statement (.oXor w rd ra rb) :=
  indices_bounded _
theorem oShl (w : Nat) (rd : Fin 16) (ra : Fin 16) (rb : Fin 16) : Statement (.oShl w rd ra rb) :=
  indices_bounded _
theorem oShr (w : Nat) (rd : Fin 16) (ra : Fin 16) (rb : Fin 16) : Statement (.oShr w rd ra rb) :=
  indices_bounded _
theorem oSar (w : Nat) (rd : Fin 16) (ra : Fin 16) (rb : Fin 16) : Statement (.oSar w rd ra rb) :=
  indices_bounded _
theorem oMul (w : Nat) (rd : Fin 16) (ra : Fin 16) (rb : Fin 16) : Statement (.oMul w rd ra rb) :=
  indices_bounded _
theorem oMinu (w : Nat) (rd : Fin 16) (ra : Fin 16) (rb : Fin 16) : Statement (.oMinu w rd ra rb) :=
  indices_bounded _
theorem oMaxu (w : Nat) (rd : Fin 16) (ra : Fin 16) (rb : Fin 16) : Statement (.oMaxu w rd ra rb) :=
  indices_bounded _
theorem oSltu (w : Nat) (rd : Fin 16) (ra : Fin 16) (rb : Fin 16) : Statement (.oSltu w rd ra rb) :=
  indices_bounded _
theorem oBswap (w : Nat) (rd : Fin 16) (ra : Fin 16) : Statement (.oBswap w rd ra) :=
  indices_bounded _
theorem oAddi (w : Nat) (rd : Fin 16) (ra : Fin 16) (imm : BitVec 16) : Statement (.oAddi w rd ra imm) :=
  indices_bounded _
theorem oAndi (w : Nat) (rd : Fin 16) (ra : Fin 16) (imm : BitVec 16) : Statement (.oAndi w rd ra imm) :=
  indices_bounded _
theorem oOri (w : Nat) (rd : Fin 16) (ra : Fin 16) (imm : BitVec 16) : Statement (.oOri w rd ra imm) :=
  indices_bounded _
theorem oXori (w : Nat) (rd : Fin 16) (ra : Fin 16) (imm : BitVec 16) : Statement (.oXori w rd ra imm) :=
  indices_bounded _
theorem oShli (w : Nat) (rd : Fin 16) (ra : Fin 16) (imm : Fin 64) : Statement (.oShli w rd ra imm) :=
  indices_bounded _
theorem oShri (w : Nat) (rd : Fin 16) (ra : Fin 16) (imm : Fin 64) : Statement (.oShri w rd ra imm) :=
  indices_bounded _
theorem oLdi (w : Nat) (rd : Fin 16) (imm : BitVec 16) : Statement (.oLdi w rd imm) :=
  indices_bounded _
theorem oLdh1 (w : Nat) (rd : Fin 16) (ra : Fin 16) (imm : BitVec 16) : Statement (.oLdh1 w rd ra imm) :=
  indices_bounded _
theorem oLdh2 (w : Nat) (rd : Fin 16) (ra : Fin 16) (imm : BitVec 16) : Statement (.oLdh2 w rd ra imm) :=
  indices_bounded _
theorem oLdh3 (w : Nat) (rd : Fin 16) (ra : Fin 16) (imm : BitVec 16) : Statement (.oLdh3 w rd ra imm) :=
  indices_bounded _
theorem oLd8 (w : Nat) (rd : Fin 16) (ra : Fin 16) (imm : BitVec 16) : Statement (.oLd8 w rd ra imm) :=
  indices_bounded _
theorem oLd16 (w : Nat) (rd : Fin 16) (ra : Fin 16) (imm : BitVec 16) : Statement (.oLd16 w rd ra imm) :=
  indices_bounded _
theorem oLd32 (w : Nat) (rd : Fin 16) (ra : Fin 16) (imm : BitVec 16) : Statement (.oLd32 w rd ra imm) :=
  indices_bounded _
theorem oLd64 (w : Nat) (rd : Fin 16) (ra : Fin 16) (imm : BitVec 16) : Statement (.oLd64 w rd ra imm) :=
  indices_bounded _
theorem oSt8 (w : Nat) (rd : Fin 16) (ra : Fin 16) (imm : BitVec 16) : Statement (.oSt8 w rd ra imm) :=
  indices_bounded _
theorem oSt16 (w : Nat) (rd : Fin 16) (ra : Fin 16) (imm : BitVec 16) : Statement (.oSt16 w rd ra imm) :=
  indices_bounded _
theorem oSt32 (w : Nat) (rd : Fin 16) (ra : Fin 16) (imm : BitVec 16) : Statement (.oSt32 w rd ra imm) :=
  indices_bounded _
theorem oSt64 (w : Nat) (rd : Fin 16) (ra : Fin 16) (imm : BitVec 16) : Statement (.oSt64 w rd ra imm) :=
  indices_bounded _
theorem oIn8 (w : Nat) (rd : Fin 16) (ra : Fin 16) (imm : BitVec 16) : Statement (.oIn8 w rd ra imm) :=
  indices_bounded _
theorem oIn16b (w : Nat) (rd : Fin 16) (ra : Fin 16) (imm : BitVec 16) : Statement (.oIn16b w rd ra imm) :=
  indices_bounded _
theorem oIn32b (w : Nat) (rd : Fin 16) (ra : Fin 16) (imm : BitVec 16) : Statement (.oIn32b w rd ra imm) :=
  indices_bounded _
theorem oIn32l (w : Nat) (rd : Fin 16) (ra : Fin 16) (imm : BitVec 16) : Statement (.oIn32l w rd ra imm) :=
  indices_bounded _
theorem oHmark (w : Nat) (rd : Fin 16) (ra : Fin 16) (imm : BitVec 16) : Statement (.oHmark w rd ra imm) :=
  indices_bounded _
theorem oQld64 (w : Nat) (rd : Fin 16) (ra : Fin 16) (imm : BitVec 16) : Statement (.oQld64 w rd ra imm) :=
  indices_bounded _
theorem oLds (w : Nat) (rd : Fin 16) (imm : Fin 8) : Statement (.oLds w rd imm) :=
  indices_bounded _
theorem oSts (w : Nat) (rd : Fin 16) (imm : Fin 8) : Statement (.oSts w rd imm) :=
  indices_bounded _
theorem oInfo (w : Nat) (rd : Fin 16) (imm : Fin 12) : Statement (.oInfo w rd imm) :=
  indices_bounded _
theorem oBeq (w : Nat) (ra : Fin 16) (rb : Fin 16) (off : BitVec 12) : Statement (.oBeq w ra rb off) :=
  indices_bounded _
theorem oBne (w : Nat) (ra : Fin 16) (rb : Fin 16) (off : BitVec 12) : Statement (.oBne w ra rb off) :=
  indices_bounded _
theorem oBltu (w : Nat) (ra : Fin 16) (rb : Fin 16) (off : BitVec 12) : Statement (.oBltu w ra rb off) :=
  indices_bounded _
theorem oBgeu (w : Nat) (ra : Fin 16) (rb : Fin 16) (off : BitVec 12) : Statement (.oBgeu w ra rb off) :=
  indices_bounded _
theorem oBlt (w : Nat) (ra : Fin 16) (rb : Fin 16) (off : BitVec 12) : Statement (.oBlt w ra rb off) :=
  indices_bounded _
theorem oBge (w : Nat) (ra : Fin 16) (rb : Fin 16) (off : BitVec 12) : Statement (.oBge w ra rb off) :=
  indices_bounded _
theorem oJmp (w : Nat) (off : BitVec 12) : Statement (.oJmp w off) :=
  indices_bounded _
theorem oLoop (w : Nat) (n : BitVec 12) (len : BitVec 12) : Statement (.oLoop w n len) :=
  indices_bounded _
theorem oLoopb (w : Nat) (n : BitVec 12) (len : BitVec 12) : Statement (.oLoopb w n len) :=
  indices_bounded _
theorem oLeave (w : Nat) : Statement (.oLeave w) :=
  indices_bounded _
theorem oEnd (w : Nat) : Statement (.oEnd w) :=
  indices_bounded _
theorem oFind (w : Nat) (rd : Fin 16) (ra : Fin 16) (rb : Fin 16) (p : Nat) (k : Nat) : Statement (.oFind w rd ra rb p k) :=
  indices_bounded _
theorem oHashm (w : Nat) (ra : Fin 16) (rb : Fin 16) (imm : BitVec 16) : Statement (.oHashm w ra rb imm) :=
  indices_bounded _
theorem oEmark (w : Nat) (ra : Fin 16) : Statement (.oEmark w ra) :=
  indices_bounded _
theorem oEindex (w : Nat) (ra : Fin 16) (rb : Fin 16) (kind : BitVec 16) : Statement (.oEindex w ra rb kind) :=
  indices_bounded _
theorem oEmatch (w : Nat) (ra : Fin 16) (rb : Fin 16) : Statement (.oEmatch w ra rb) :=
  indices_bounded _
theorem oRefuse (w : Nat) (code : BitVec 16) : Statement (.oRefuse w code) :=
  indices_bounded _
theorem gcm (r : CipherReq) : Statement (.gcm r) :=
  indices_bounded _
theorem ctr (r : CipherReq) : Statement (.ctr r) :=
  indices_bounded _
theorem cbc (r : CipherReq) : Statement (.cbc r) :=
  indices_bounded _
theorem cmac (r : CipherReq) : Statement (.cmac r) :=
  indices_bounded _
theorem xts (r : CipherReq) : Statement (.xts r) :=
  indices_bounded _
theorem ecb (r : CipherReq) : Statement (.ecb r) :=
  indices_bounded _
theorem sha256 (r : HashReq) : Statement (.sha256 r) :=
  indices_bounded _
theorem sha384 (r : HashReq) : Statement (.sha384 r) :=
  indices_bounded _
theorem sha512 (r : HashReq) : Statement (.sha512 r) :=
  indices_bounded _
theorem sha3x256 (r : HashReq) : Statement (.sha3x256 r) :=
  indices_bounded _
theorem sha3x384 (r : HashReq) : Statement (.sha3x384 r) :=
  indices_bounded _
theorem hmac (r : HashReq) (alg : HmacAlg) (key : KeySrc) : Statement (.hmac r alg key) :=
  indices_bounded _
theorem ecdsaVerifyP256 (r : PkeReq) : Statement (.ecdsaVerifyP256 r) :=
  indices_bounded _
theorem ecdsaVerifyP384 (r : PkeReq) : Statement (.ecdsaVerifyP384 r) :=
  indices_bounded _
theorem ecdsaVerifyP521 (r : PkeReq) : Statement (.ecdsaVerifyP521 r) :=
  indices_bounded _
theorem ecdsaSignP256 (r : PkeReq) : Statement (.ecdsaSignP256 r) :=
  indices_bounded _
theorem ecdsaSignP384 (r : PkeReq) : Statement (.ecdsaSignP384 r) :=
  indices_bounded _
theorem ecdsaSignP521 (r : PkeReq) : Statement (.ecdsaSignP521 r) :=
  indices_bounded _
theorem ecdhP256 (r : PkeReq) : Statement (.ecdhP256 r) :=
  indices_bounded _
theorem ecdhP384 (r : PkeReq) : Statement (.ecdhP384 r) :=
  indices_bounded _
theorem ecdhP521 (r : PkeReq) : Statement (.ecdhP521 r) :=
  indices_bounded _
theorem ecKeyGenerationP256 (r : PkeReq) : Statement (.ecKeyGenerationP256 r) :=
  indices_bounded _
theorem ecKeyGenerationP384 (r : PkeReq) : Statement (.ecKeyGenerationP384 r) :=
  indices_bounded _
theorem ecKeyGenerationP521 (r : PkeReq) : Statement (.ecKeyGenerationP521 r) :=
  indices_bounded _
theorem ed25519Verify (r : PkeReq) : Statement (.ed25519Verify r) :=
  indices_bounded _
theorem ed25519Sign (r : PkeReq) : Statement (.ed25519Sign r) :=
  indices_bounded _
theorem x25519 (r : PkeReq) : Statement (.x25519 r) :=
  indices_bounded _
theorem x25519KeyGeneration (r : PkeReq) : Statement (.x25519KeyGeneration r) :=
  indices_bounded _
theorem rsaPublic2048 (r : PkeReq) : Statement (.rsaPublic2048 r) :=
  indices_bounded _
theorem rsaPublic3072 (r : PkeReq) : Statement (.rsaPublic3072 r) :=
  indices_bounded _
theorem rsaPublic4096 (r : PkeReq) : Statement (.rsaPublic4096 r) :=
  indices_bounded _
theorem rsaPrivate2048 (r : PkeReq) : Statement (.rsaPrivate2048 r) :=
  indices_bounded _
theorem rsaPrivate3072 (r : PkeReq) : Statement (.rsaPrivate3072 r) :=
  indices_bounded _
theorem rsaPrivate4096 (r : PkeReq) : Statement (.rsaPrivate4096 r) :=
  indices_bounded _
theorem mlDsa44Verify (r : PkeReq) : Statement (.mlDsa44Verify r) :=
  indices_bounded _
theorem mlDsa65Verify (r : PkeReq) : Statement (.mlDsa65Verify r) :=
  indices_bounded _
theorem mlDsa87Verify (r : PkeReq) : Statement (.mlDsa87Verify r) :=
  indices_bounded _
theorem mlDsa44Sign (r : PkeReq) : Statement (.mlDsa44Sign r) :=
  indices_bounded _
theorem mlDsa65Sign (r : PkeReq) : Statement (.mlDsa65Sign r) :=
  indices_bounded _
theorem mlDsa87Sign (r : PkeReq) : Statement (.mlDsa87Sign r) :=
  indices_bounded _
theorem mlDsa44KeyGeneration (r : PkeReq) : Statement (.mlDsa44KeyGeneration r) :=
  indices_bounded _
theorem mlDsa65KeyGeneration (r : PkeReq) : Statement (.mlDsa65KeyGeneration r) :=
  indices_bounded _
theorem mlDsa87KeyGeneration (r : PkeReq) : Statement (.mlDsa87KeyGeneration r) :=
  indices_bounded _
theorem mlKem768KeyGeneration (r : PkeReq) : Statement (.mlKem768KeyGeneration r) :=
  indices_bounded _
theorem mlKem768Encapsulation (r : PkeReq) : Statement (.mlKem768Encapsulation r) :=
  indices_bounded _
theorem mlKem768Decapsulation (r : PkeReq) : Statement (.mlKem768Decapsulation r) :=
  indices_bounded _
theorem busyRetry : Statement .busyRetry :=
  indices_bounded _
theorem tickBoundary : Statement .tickBoundary :=
  indices_bounded _
theorem tickRecordSealed (delay100us : Nat) (attempts : Nat) : Statement (.tickRecordSealed delay100us attempts) :=
  indices_bounded _
theorem tickRecordDurable (failedLanes : List Nat) : Statement (.tickRecordDurable failedLanes) :=
  indices_bounded _
theorem slew : Statement .slew :=
  indices_bounded _
theorem timeConfig (slew : Option (BitVec 32)) (unsigned : Option (BitVec 32)) : Statement (.timeConfig slew unsigned) :=
  indices_bounded _
theorem epochPreparation (group : Fin 64) : Statement (.epochPreparation group) :=
  indices_bounded _
theorem epochChange : Statement .epochChange :=
  indices_bounded _
theorem shred : Statement .shred :=
  indices_bounded _
theorem drbgReseed (healthy : Bool) : Statement (.drbgReseed healthy) :=
  indices_bounded _
theorem grinderReseed (row : Fin 64) (healthy : Bool) : Statement (.grinderReseed row healthy) :=
  indices_bounded _
theorem poolReseed (healthy : Bool) : Statement (.poolReseed healthy) :=
  indices_bounded _
theorem rowProgrammed (crate : Nat) (failedLanes : List Nat) : Statement (.rowProgrammed crate failedLanes) :=
  indices_bounded _
theorem reclaim : Statement .reclaim :=
  indices_bounded _
theorem rebuild : Statement .rebuild :=
  indices_bounded _
theorem periodicScrub (out : ScrubOut) : Statement (.periodicScrub out) :=
  indices_bounded _
theorem readDisturbScrub (out : ScrubOut) : Statement (.readDisturbScrub out) :=
  indices_bounded _
theorem refresh : Statement .refresh :=
  indices_bounded _
theorem readLevelCalibration (out : CalOut) : Statement (.readLevelCalibration out) :=
  indices_bounded _
theorem wearLevelling : Statement .wearLevelling :=
  indices_bounded _
theorem build (desc : HostRead) (answers : List TargetAns) : Statement (.build desc answers) :=
  indices_bounded _
theorem extension (desc : HostRead) (answers : List TargetAns) : Statement (.extension desc answers) :=
  indices_bounded _
theorem retrain (target : Nat) (passes : Bool) : Statement (.retrain target passes) :=
  indices_bounded _
theorem flashTimeout (target : Nat) (lun : Nat) (lunResetOk : Bool) (targetResetOk : Bool) (idOk : Bool) (trainOk : Bool) : Statement (.flashTimeout target lun lunResetOk targetResetOk idOk trainOk) :=
  indices_bounded _
theorem fcReset (target : Nat) : Statement (.fcReset target) :=
  indices_bounded _
theorem fcResetLun (target : Nat) (lun : Nat) : Statement (.fcResetLun target lun) :=
  indices_bounded _
theorem fcVolumeSelect (target : Nat) : Statement (.fcVolumeSelect target) :=
  indices_bounded _
theorem fcOdtConfigure (target : Nat) : Statement (.fcOdtConfigure target) :=
  indices_bounded _
theorem fcReadId (target : Nat) (id : Bytes) : Statement (.fcReadId target id) :=
  indices_bounded _
theorem fcReadParameterPage (target : Nat) (agrees : Bool) : Statement (.fcReadParameterPage target agrees) :=
  indices_bounded _
theorem fcSetFeatures (target : Nat) (fa : BitVec 8) (value : BitVec 32) : Statement (.fcSetFeatures target fa value) :=
  indices_bounded _
theorem fcGetFeatures (target : Nat) (fa : BitVec 8) : Statement (.fcGetFeatures target fa) :=
  indices_bounded _
theorem fcSetFeaturesByLun (target : Nat) (lun : Nat) (fa : BitVec 8) (value : BitVec 32) : Statement (.fcSetFeaturesByLun target lun fa value) :=
  indices_bounded _
theorem fcGetFeaturesByLun (target : Nat) (lun : Nat) (fa : BitVec 8) : Statement (.fcGetFeaturesByLun target lun fa) :=
  indices_bounded _
theorem fcZqCalibrationLong (target : Nat) : Statement (.fcZqCalibrationLong target) :=
  indices_bounded _
theorem fcZqCalibrationShort (target : Nat) : Statement (.fcZqCalibrationShort target) :=
  indices_bounded _
theorem fcReadDqTraining (target : Nat) (passes : Bool) : Statement (.fcReadDqTraining target passes) :=
  indices_bounded _
theorem fcWriteTrainingTx (target : Nat) (passes : Bool) : Statement (.fcWriteTrainingTx target passes) :=
  indices_bounded _
theorem fcWriteTrainingRx (target : Nat) (passes : Bool) : Statement (.fcWriteTrainingRx target passes) :=
  indices_bounded _
theorem fcRead (target : Nat) (lun : Nat) (block : Nat) (page : Nat) (cls : Nat) (cws : List Codeword) : Statement (.fcRead target lun block page cls cws) :=
  indices_bounded _
theorem fcMultiPlaneRead (target : Nat) (lun : Nat) (block : Nat) (page : Nat) (cls : Nat) (cws : List Codeword) : Statement (.fcMultiPlaneRead target lun block page cls cws) :=
  indices_bounded _
theorem fcChangeReadColumnEnhanced (target : Nat) (lun : Nat) (column : Nat) : Statement (.fcChangeReadColumnEnhanced target lun column) :=
  indices_bounded _
theorem fcReadStatusEnhanced (target : Nat) (lun : Nat) (ready : Bool) (fail : Bool) : Statement (.fcReadStatusEnhanced target lun ready fail) :=
  indices_bounded _
theorem fcPageProgram (target : Nat) (lun : Nat) (block : Nat) (page : Nat) : Statement (.fcPageProgram target lun block page) :=
  indices_bounded _
theorem fcMultiPlaneProgram (target : Nat) (lun : Nat) (block : Nat) (page : Nat) : Statement (.fcMultiPlaneProgram target lun block page) :=
  indices_bounded _
theorem fcBlockErase (target : Nat) (lun : Nat) (block : Nat) : Statement (.fcBlockErase target lun block) :=
  indices_bounded _
theorem fcMultiPlaneErase (target : Nat) (lun : Nat) (block : Nat) : Statement (.fcMultiPlaneErase target lun block) :=
  indices_bounded _
theorem fcEraseSuspend (target : Nat) (lun : Nat) (cls : Nat) : Statement (.fcEraseSuspend target lun cls) :=
  indices_bounded _
theorem fcEraseResume (target : Nat) (lun : Nat) : Statement (.fcEraseResume target lun) :=
  indices_bounded _
theorem ddrError (chan : Fin 4) (page : Nat) (err : DdrErr) (held : List LineHeld) (interrupt : Nat) : Statement (.ddrError chan page err held interrupt) :=
  indices_bounded _
theorem patrolScrub (errors : List PatrolErr) : Statement (.patrolScrub errors) :=
  indices_bounded _
theorem selfRefresh (chan : Fin 4) (enter : Bool) : Statement (.selfRefresh chan enter) :=
  indices_bounded _
theorem elasticFillComplete : Statement .elasticFillComplete :=
  indices_bounded _
theorem cartridgeInsertion (slot : Fin 4) : Statement (.cartridgeInsertion slot) :=
  indices_bounded _
theorem slotBringup (slot : Fin 4) (ans : BringAns) : Statement (.slotBringup slot ans) :=
  indices_bounded _
theorem removal (slot : Fin 4) : Statement (.removal slot) :=
  indices_bounded _
theorem linkTimeout (slot : Fin 4) (ans : BringAns) : Statement (.linkTimeout slot ans) :=
  indices_bounded _
theorem slotIdle (slot : Fin 4) : Statement (.slotIdle slot) :=
  indices_bounded _
theorem mhGoIdle (slot : Fin 4) : Statement (.mhGoIdle slot) :=
  indices_bounded _
theorem mhIdentify (slot : Fin 4) (answer : BitVec 48) : Statement (.mhIdentify slot answer) :=
  indices_bounded _
theorem mhReadIdent (slot : Fin 4) (answer : BitVec 136) : Statement (.mhReadIdent slot answer) :=
  indices_bounded _
theorem mhSelect (slot : Fin 4) (answer : BitVec 48) : Statement (.mhSelect slot answer) :=
  indices_bounded _
theorem mhSwitch (slot : Fin 4) (mode : Fin 5) (answer : BitVec 48) : Statement (.mhSwitch slot mode answer) :=
  indices_bounded _
theorem mhReadCheck (slot : Fin 4) (answer : BitVec 48) (lines : LineBits) : Statement (.mhReadCheck slot answer lines) :=
  indices_bounded _
theorem mhStop (slot : Fin 4) (answer : BitVec 48) : Statement (.mhStop slot answer) :=
  indices_bounded _
theorem mhStatus (slot : Fin 4) (answer : BitVec 48) : Statement (.mhStatus slot answer) :=
  indices_bounded _
theorem mhReadBlocks (slot : Fin 4) (block : BitVec 32) (answer : BitVec 48) (blocks : List LineBits) : Statement (.mhReadBlocks slot block answer blocks) :=
  indices_bounded _
theorem mhWriteBlocks (slot : Fin 4) (block : BitVec 32) (data : Bytes) (answer : BitVec 48) (token : BitVec 5) : Statement (.mhWriteBlocks slot block data answer token) :=
  indices_bounded _
theorem mhSetCount (slot : Fin 4) (count : BitVec 16) (answer : BitVec 48) : Statement (.mhSetCount slot count answer) :=
  indices_bounded _
theorem mhRpaRead (slot : Fin 4) (answer : BitVec 48) (blocks : List LineBits) : Statement (.mhRpaRead slot answer blocks) :=
  indices_bounded _
theorem mhRpaWrite (slot : Fin 4) (address : Nat) (units : List Bytes) (answer : BitVec 48) : Statement (.mhRpaWrite slot address units answer) :=
  indices_bounded _
theorem mhCounterRead (slot : Fin 4) (answer : BitVec 48) (lines : LineBits) : Statement (.mhCounterRead slot answer lines) :=
  indices_bounded _
theorem mhPair (slot : Fin 4) (answer : BitVec 48) : Statement (.mhPair slot answer) :=
  indices_bounded _
theorem mhReadKey (slot : Fin 4) (answer : BitVec 48) (lines : LineBits) : Statement (.mhReadKey slot answer lines) :=
  indices_bounded _
theorem mhSleep (slot : Fin 4) (answer : BitVec 48) : Statement (.mhSleep slot answer) :=
  indices_bounded _
theorem mhWake (slot : Fin 4) (answer : BitVec 48) : Statement (.mhWake slot answer) :=
  indices_bounded _
theorem streamUnitWrite (slot : Fin 4) (token : BitVec 5) (writeFail : Bool) (readback : Bytes) : Statement (.streamUnitWrite slot token writeFail readback) :=
  indices_bounded _
theorem headlessAvailable : Statement .headlessAvailable :=
  indices_bounded _
theorem headlessSessionOpen : Statement .headlessSessionOpen :=
  indices_bounded _
theorem cartridgeReturnTimeout : Statement .cartridgeReturnTimeout :=
  indices_bounded _
theorem hxStTimeout : Statement .hxStTimeout :=
  indices_bounded _
theorem cardInsertion (card : Fin 2) : Statement (.cardInsertion card) :=
  indices_bounded _
theorem cardActivation (card : Fin 2) (atr : Option AtrAns) (ppsOk : Bool) : Statement (.cardActivation card atr ppsOk) :=
  indices_bounded _
theorem apduSelectByName (card : Fin 2) (sw : Option (BitVec 16)) : Statement (.apduSelectByName card sw) :=
  indices_bounded _
theorem apduReadBinary (card : Fin 2) (data : Bytes) (sw : Option (BitVec 16)) : Statement (.apduReadBinary card data sw) :=
  indices_bounded _
theorem apduInternalAuthenticate (card : Fin 2) (data : Bytes) (sw : Option (BitVec 16)) : Statement (.apduInternalAuthenticate card data sw) :=
  indices_bounded _
theorem apduGetResponse (card : Fin 2) (data : Bytes) (sw : Option (BitVec 16)) : Statement (.apduGetResponse card data sw) :=
  indices_bounded _
theorem cardRemoval (card : Fin 2) : Statement (.cardRemoval card) :=
  indices_bounded _
theorem authorisationExpiry (card : Fin 2) : Statement (.authorisationExpiry card) :=
  indices_bounded _
theorem tamperDetection (dets : List Det) (fraction : Nat) : Statement (.tamperDetection dets fraction) :=
  indices_bounded _
theorem backupDetection (dets : List Det) : Statement (.backupDetection dets) :=
  indices_bounded _
theorem tamperLogFlush : Statement .tamperLogFlush :=
  indices_bounded _
theorem faultLogFlush : Statement .faultLogFlush :=
  indices_bounded _
theorem counterCheck (damaged : Option Nat) : Statement (.counterCheck damaged) :=
  indices_bounded _
theorem lock : Statement .lock :=
  indices_bounded _
theorem tamperSrcWrite (source : Fin 32) (value : BitVec 32) : Statement (.tamperSrcWrite source value) :=
  indices_bounded _
theorem newNonce : Statement .newNonce :=
  indices_bounded _
theorem endPass : Statement .endPass :=
  indices_bounded _
theorem passExpiry : Statement .passExpiry :=
  indices_bounded _
theorem debugAccess (right : Fin 8) (offset : Nat) : Statement (.debugAccess right offset) :=
  indices_bounded _
theorem extest : Statement .extest :=
  indices_bounded _
theorem heartbeatTimeout : Statement .heartbeatTimeout :=
  indices_bounded _
theorem catchupEnd : Statement .catchupEnd :=
  indices_bounded _
theorem startUp (ans : StartAns) : Statement (.startUp ans) :=
  indices_bounded _
theorem powerLoss : Statement .powerLoss :=
  indices_bounded _
theorem brownOut : Statement .brownOut :=
  indices_bounded _
theorem deviceReset : Statement .deviceReset :=
  indices_bounded _
theorem portReset (port : Fin 2) : Statement (.portReset port) :=
  indices_bounded _
theorem flr (port : Fin 2) : Statement (.flr port) :=
  indices_bounded _
theorem linkDown (port : Fin 2) : Statement (.linkDown port) :=
  indices_bounded _
theorem linkUp (port : Fin 2) (speed : Nat) (width : Nat) : Statement (.linkUp port speed width) :=
  indices_bounded _
theorem vbatSwitchover (toVbat : Bool) : Statement (.vbatSwitchover toVbat) :=
  indices_bounded _
theorem supplyWarning : Statement .supplyWarning :=
  indices_bounded _
theorem warningRelease (us : Nat) : Statement (.warningRelease us) :=
  indices_bounded _
theorem rowGate (row : Fin 64) : Statement (.rowGate row) :=
  indices_bounded _
theorem flashGroupGate (group : Fin 8) : Statement (.flashGroupGate group) :=
  indices_bounded _
theorem sysclkLoss : Statement .sysclkLoss :=
  indices_bounded _
theorem sysclkResume (interrupt : Nat) : Statement (.sysclkResume interrupt) :=
  indices_bounded _
theorem reconciliation (crossing : Nat) (total : BitVec 16) : Statement (.reconciliation crossing total) :=
  indices_bounded _
theorem lockstepMismatch (unit : Nat) (interrupt : Nat) : Statement (.lockstepMismatch unit interrupt) :=
  indices_bounded _
theorem worstCaseOverrun (unit : Nat) (interrupt : Nat) : Statement (.worstCaseOverrun unit interrupt) :=
  indices_bounded _
theorem stallTestComplete (unit : Nat) (failedCode : Option Nat) : Statement (.stallTestComplete unit failedCode) :=
  indices_bounded _
theorem checkFault (unit : Nat) (interrupt : Nat) : Statement (.checkFault unit interrupt) :=
  indices_bounded _
theorem ledgerHasherCheck (hasher : Fin 8) (subtree : Fin 8) (interrupt : Nat) : Statement (.ledgerHasherCheck hasher subtree interrupt) :=
  indices_bounded _
theorem pkeCheck (engine : Fin 16) (interrupt : Nat) : Statement (.pkeCheck engine interrupt) :=
  indices_bounded _
theorem shortSetComplete (unit : Nat) (failedBits : Nat) : Statement (.shortSetComplete unit failedBits) :=
  indices_bounded _
theorem latClear : Statement .latClear :=
  indices_bounded _
theorem maxClear : Statement .maxClear :=
  indices_bounded _
theorem wmtBaseWrite (port : Fin 2) (value : BitVec 64) : Statement (.wmtBaseWrite port value) :=
  indices_bounded _
theorem intrEnableWrite (value : BitVec 32) : Statement (.intrEnableWrite value) :=
  indices_bounded _
theorem intrVectorWrite (cause : Fin 4) (value : BitVec 32) : Statement (.intrVectorWrite cause value) :=
  indices_bounded _
theorem latchedRead (port : Fin 2) (bar : Nat) (offset : Nat) (width : Nat) : Statement (.latchedRead port bar offset width) :=
  indices_bounded _
theorem registerWrite (wr : RegWrite) : Statement (.registerWrite wr) :=
  indices_bounded _
theorem powerStateD3hot (port : Fin 2) (d3 : Bool) : Statement (.powerStateD3hot port d3) :=
  indices_bounded _
theorem perstRelease (port : Fin 2) : Statement (.perstRelease port) :=
  indices_bounded _
theorem conditionCleared (source : Fin 32) : Statement (.conditionCleared source) :=
  indices_bounded _
theorem vbatLoss : Statement .vbatLoss :=
  indices_bounded _
theorem vbatApplied : Statement .vbatApplied :=
  indices_bounded _
theorem mergedMessage (cause : Fin 4) : Statement (.mergedMessage cause) :=
  indices_bounded _

end Sys2Proof.Laws.CommandFields
end

