-- ==== Sys2Proof/Laws/Sparse.lean ====
section
/-! SUPPORT. Sparse maps: reading after a write, and every operation keeps the canonical form; the same for slot memory. -/

namespace Sys2Proof.Laws

open Sys2Proof.Machine

variable {α : Type}

/-- Every key of a map lies above `k`. -/
def Above (k : Nat) (m : SMap α) : Prop := ∀ p ∈ m, k < p.1

theorem sorted_cons_iff (k : Nat) (v : α) (m : SMap α) : SMap.sorted ((k, v) :: m) = true ↔ Above k m ∧ m.sorted = true := by
  induction m generalizing k v with
  | nil => simp [SMap.sorted, Above]
  | cons p r ih =>
    obtain ⟨j, w⟩ := p
    simp only [SMap.sorted, Bool.and_eq_true, decide_eq_true_eq, ih j w]
    constructor
    · rintro ⟨hkj, hab, hs⟩
      refine ⟨?_, ?_⟩
      · intro q hq
        rcases List.mem_cons.mp hq with rfl | hq
        · exact hkj
        · exact hkj.trans (hab q hq)
      · exact ⟨hab, hs⟩
    · rintro ⟨hab, h⟩
      exact ⟨hab (j, w) (by simp), h⟩

theorem get_above (d : Nat → α) (k : Nat) (m : SMap α) (h : Above k m) : m.get d k = d k := by
  cases m with
  | nil => rfl
  | cons p r =>
    obtain ⟨j, v⟩ := p
    have hj : k < j := h (j, v) (by simp)
    simp [SMap.get, Nat.ne_of_lt hj, hj]

@[simp] theorem get_ins_same (d : Nat → α) (m : SMap α) (k : Nat) (v : α) : (m.ins k v).get d k = v := by
  induction m with
  | nil => simp [SMap.ins, SMap.get]
  | cons p r ih =>
    obtain ⟨j, u⟩ := p
    by_cases h : k = j
    · simp [SMap.ins, SMap.get, h]
    · by_cases h2 : k < j
      · simp [SMap.ins, SMap.get, h, h2]
      · simp [SMap.ins, SMap.get, h, h2, ih]

theorem get_ins_other (d : Nat → α) (m : SMap α) (k j : Nat) (v : α) (h : j ≠ k) : (m.ins k v).get d j = m.get d j := by
  induction m with
  | nil => by_cases hl : j < k <;> simp [SMap.ins, SMap.get, h, hl]
  | cons p r ih =>
    obtain ⟨i, u⟩ := p
    by_cases h1 : k = i
    · subst h1
      by_cases hl : j < k <;> simp [SMap.ins, SMap.get, h, hl]
    · by_cases h2 : k < i
      · by_cases hl : j < k
        · have : j < i := hl.trans h2
          simp [SMap.ins, SMap.get, h1, h2, h, hl, this, Nat.ne_of_lt this]
        · simp [SMap.ins, SMap.get, h1, h2, h, hl]
      · by_cases hi : j = i <;> by_cases hl : j < i <;> simp [SMap.ins, SMap.get, h1, h2, hi, hl, ih]

theorem above_ins (b : Nat) (m : SMap α) (k : Nat) (v : α) (hb : b < k) (h : Above b m) : Above b (m.ins k v) := by
  induction m with
  | nil => intro p hp; simp [SMap.ins] at hp; simpa [hp] using hb
  | cons q r ih =>
    obtain ⟨j, u⟩ := q
    have hj : b < j := h (j, u) (by simp)
    have hr : Above b r := fun p hp => h p (by simp [hp])
    intro p hp
    unfold SMap.ins at hp
    split at hp
    · rcases List.mem_cons.mp hp with rfl | hp
      · exact hb
      · exact hr p hp
    · split at hp
      · rcases List.mem_cons.mp hp with rfl | hp
        · exact hb
        · exact h p hp
      · rcases List.mem_cons.mp hp with rfl | hp
        · exact hj
        · exact ih hr p hp

theorem above_del (b : Nat) (m : SMap α) (k : Nat) (h : Above b m) : Above b (m.del k) := by
  induction m with
  | nil => simpa [SMap.del] using h
  | cons q r ih =>
    obtain ⟨j, u⟩ := q
    have hr : Above b r := fun p hp => h p (by simp [hp])
    intro p hp
    unfold SMap.del at hp
    split at hp
    · exact hr p hp
    · split at hp
      · exact h p hp
      · rcases List.mem_cons.mp hp with rfl | hp
        · exact h (j, u) (by simp)
        · exact ih hr p hp

theorem sorted_ins (m : SMap α) (k : Nat) (v : α) (h : m.sorted = true) : (m.ins k v).sorted = true := by
  induction m with
  | nil => rfl
  | cons q r ih =>
    obtain ⟨j, u⟩ := q
    obtain ⟨ha, hs⟩ := (sorted_cons_iff j u r).mp h
    unfold SMap.ins
    split
    · rename_i e; subst e; exact (sorted_cons_iff _ _ _).mpr ⟨ha, hs⟩
    · split
      · rename_i hlt
        refine (sorted_cons_iff _ _ _).mpr ⟨?_, h⟩
        intro p hp
        rcases List.mem_cons.mp hp with rfl | hp
        · exact hlt
        · exact hlt.trans (ha p hp)
      · rename_i hne hnl
        exact (sorted_cons_iff _ _ _).mpr ⟨above_ins j r k v (by omega) ha, ih hs⟩

theorem sorted_del (m : SMap α) (k : Nat) (h : m.sorted = true) : (m.del k).sorted = true := by
  induction m with
  | nil => rfl
  | cons q r ih =>
    obtain ⟨j, u⟩ := q
    obtain ⟨ha, hs⟩ := (sorted_cons_iff j u r).mp h
    unfold SMap.del
    split
    · exact hs
    · split
      · exact h
      · exact (sorted_cons_iff _ _ _).mpr ⟨above_del j r k ha, ih hs⟩

theorem mem_ins (m : SMap α) (k : Nat) (v : α) (p : Nat × α) (h : p ∈ m.ins k v) : p = (k, v) ∨ p ∈ m := by
  induction m with
  | nil => exact .inl (by simpa [SMap.ins] using h)
  | cons q r ih =>
    obtain ⟨j, u⟩ := q
    unfold SMap.ins at h
    split at h
    · rcases List.mem_cons.mp h with h | h
      · exact .inl h
      · exact .inr (by simp [h])
    · split at h
      · rcases List.mem_cons.mp h with h | h
        · exact .inl h
        · exact .inr h
      · rcases List.mem_cons.mp h with h | h
        · exact .inr (by simp [h])
        · rcases ih h with h | h
          · exact .inl h
          · exact .inr (by simp [h])

theorem mem_del (m : SMap α) (k : Nat) (p : Nat × α) (h : p ∈ m.del k) : p ∈ m := by
  induction m with
  | nil => simp [SMap.del] at h
  | cons q r ih =>
    obtain ⟨j, u⟩ := q
    unfold SMap.del at h
    split at h
    · simp [h]
    · split at h
      · exact h
      · rcases List.mem_cons.mp h with h | h
        · simp [h]
        · simp [ih h]

theorem get_del_same (d : Nat → α) (m : SMap α) (k : Nat) (h : m.sorted = true) : (m.del k).get d k = d k := by
  induction m with
  | nil => rfl
  | cons q r ih =>
    obtain ⟨j, u⟩ := q
    obtain ⟨ha, hs⟩ := (sorted_cons_iff j u r).mp h
    unfold SMap.del
    split
    · rename_i e; subst e; exact get_above d _ r ha
    · split
      · rename_i hlt; simp [SMap.get, Nat.ne_of_lt hlt, hlt]
      · rename_i hne hnl; simp [SMap.get, hne, hnl, ih hs]

theorem get_del_other (d : Nat → α) (m : SMap α) (k j : Nat) (h : m.sorted = true) (hj : j ≠ k) : (m.del k).get d j = m.get d j := by
  induction m with
  | nil => rfl
  | cons q r ih =>
    obtain ⟨i, u⟩ := q
    obtain ⟨ha, hs⟩ := (sorted_cons_iff i u r).mp h
    unfold SMap.del
    split
    · rename_i e; subst e
      by_cases hl : j < k
      · have : Above j r := fun p hp => hl.trans (ha p hp)
        simp [SMap.get, hj, hl, get_above d j r this]
      · simp [SMap.get, hj, hl]
    · split
      · rfl
      · by_cases hi : j = i <;> by_cases hl : j < i <;> simp [SMap.get, hi, hl, ih hs]

variable [DecidableEq α]

/-- A read after a write of the same key gives the value written. -/
theorem get_set_same (d : Nat → α) (m : SMap α) (k : Nat) (v : α) (h : m.sorted = true) : (m.set d k v).get d k = v := by
  unfold SMap.set
  split
  · rename_i e; rw [get_del_same d m k h, e]
  · exact get_ins_same d m k v

/-- A write leaves every other key alone. -/
theorem get_set_other (d : Nat → α) (m : SMap α) (k j : Nat) (v : α) (h : m.sorted = true) (hj : j ≠ k) : (m.set d k v).get d j = m.get d j := by
  unfold SMap.set
  split
  · exact get_del_other d m k j h hj
  · exact get_ins_other d m k j v hj

theorem wf_iff (d : Nat → α) (m : SMap α) : m.wf d = true ↔ m.sorted = true ∧ ∀ p ∈ m, p.2 ≠ d p.1 := by
  simp [SMap.wf]

theorem wf_sorted {d : Nat → α} {m : SMap α} (h : m.wf d = true) : m.sorted = true := ((wf_iff d m).mp h).1

/-- A write keeps the canonical form. -/
theorem set_wf (d : Nat → α) (m : SMap α) (k : Nat) (v : α) (h : m.wf d = true) : (m.set d k v).wf d = true := by
  obtain ⟨hs, hd⟩ := (wf_iff d m).mp h
  unfold SMap.set
  split
  · exact (wf_iff _ _).mpr ⟨sorted_del m k hs, fun p hp => hd p (mem_del m k p hp)⟩
  · rename_i hv
    refine (wf_iff _ _).mpr ⟨sorted_ins m k v hs, fun p hp => ?_⟩
    rcases mem_ins m k v p hp with rfl | hp
    · exact hv
    · exact hd p hp

/-- A removal keeps the canonical form. -/
theorem del_wf (d : Nat → α) (m : SMap α) (k : Nat) (h : m.wf d = true) : (m.del k).wf d = true := by
  obtain ⟨hs, hd⟩ := (wf_iff d m).mp h
  exact (wf_iff _ _).mpr ⟨sorted_del m k hs, fun p hp => hd p (mem_del m k p hp)⟩

/-- A change of one value keeps the canonical form. -/
theorem upd_wf (d : Nat → α) (m : SMap α) (k : Nat) (f : α → α) (h : m.wf d = true) : (m.upd d k f).wf d = true :=
  set_wf d m k _ h

/-- Slot memory stays in its canonical form under a store (R177). -/
theorem slotPut_wf (m : SMap Byte) (a : Nat) (b : Bytes) (h : m.wf zeroByte = true) : (slotPut m a b).wf zeroByte = true := by
  induction b generalizing m a with
  | nil => exact h
  | cons x r ih => exact ih _ _ (set_wf zeroByte m _ x h)

theorem setSlot_wf (v : Vm) (a : Nat) (b : Bytes) (h : v.slot.wf zeroByte = true) : (v.setSlot a b).slot.wf zeroByte = true :=
  slotPut_wf v.slot a b h

end Sys2Proof.Laws
end

