-- ==== Sys2Proof/Laws/State.lean ====
section
/-! SUPPORT. Reading the state after each shared update: one lemma for each field, so that no proof unfolds a record update. -/

namespace Sys2Proof.Laws

open Sys2Proof.Machine

variable (s : State)

/-! setRing -/

@[simp] theorem setRing_classes (n : Nat) (r : Ring) : (s.setRing n r).classes = s.classes := rfl
@[simp] theorem setRing_tabs (n : Nat) (r : Ring) : (s.setRing n r).tabs = s.tabs := rfl
@[simp] theorem setRing_ledger (n : Nat) (r : Ring) : (s.setRing n r).ledger = s.ledger := rfl
@[simp] theorem setRing_units (n : Nat) (r : Ring) : (s.setRing n r).units = s.units := rfl
@[simp] theorem setRing_crypto (n : Nat) (r : Ring) : (s.setRing n r).crypto = s.crypto := rfl
@[simp] theorem setRing_vault (n : Nat) (r : Ring) : (s.setRing n r).vault = s.vault := rfl
@[simp] theorem setRing_flash (n : Nat) (r : Ring) : (s.setRing n r).flash = s.flash := rfl
@[simp] theorem setRing_ddr (n : Nat) (r : Ring) : (s.setRing n r).ddr = s.ddr := rfl
@[simp] theorem setRing_boards (n : Nat) (r : Ring) : (s.setRing n r).boards = s.boards := rfl
@[simp] theorem setRing_tamper (n : Nat) (r : Ring) : (s.setRing n r).tamper = s.tamper := rfl
@[simp] theorem setRing_guard (n : Nat) (r : Ring) : (s.setRing n r).guard = s.guard := rfl
@[simp] theorem setRing_power (n : Nat) (r : Ring) : (s.setRing n r).power = s.power := rfl
@[simp] theorem setRing_fault (n : Nat) (r : Ring) : (s.setRing n r).fault = s.fault := rfl
@[simp] theorem setRing_dev (n : Nat) (r : Ring) : (s.setRing n r).dev = s.dev := rfl
@[simp] theorem setRing_drawn (n : Nat) (r : Ring) : (s.setRing n r).drawn = s.drawn := rfl
@[simp] theorem setRing_pending (n : Nat) (r : Ring) : (s.setRing n r).pending = s.pending := rfl
@[simp] theorem setRing_host_twoPorts (n : Nat) (r : Ring) : (s.setRing n r).host.twoPorts = s.host.twoPorts := rfl
@[simp] theorem setRing_host_port0 (n : Nat) (r : Ring) : (s.setRing n r).host.port0 = s.host.port0 := rfl
@[simp] theorem setRing_host_port1 (n : Nat) (r : Ring) : (s.setRing n r).host.port1 = s.host.port1 := rfl
@[simp] theorem setRing_host_tickets (n : Nat) (r : Ring) : (s.setRing n r).host.tickets = s.host.tickets := rfl
@[simp] theorem setRing_host_nextId (n : Nat) (r : Ring) : (s.setRing n r).host.nextId = s.host.nextId := rfl
@[simp] theorem setRing_host_out (n : Nat) (r : Ring) : (s.setRing n r).host.out = s.host.out := rfl
@[simp] theorem setRing_host_wmtMarked (n : Nat) (r : Ring) : (s.setRing n r).host.wmtMarked = s.host.wmtMarked := rfl
@[simp] theorem setRing_host_wmtLast (n : Nat) (r : Ring) : (s.setRing n r).host.wmtLast = s.host.wmtLast := rfl

/-! setTab -/

@[simp] theorem setTab_host (n : Nat) (c : Tab) : (s.setTab n c).host = s.host := rfl
@[simp] theorem setTab_classes (n : Nat) (c : Tab) : (s.setTab n c).classes = s.classes := rfl
@[simp] theorem setTab_ledger (n : Nat) (c : Tab) : (s.setTab n c).ledger = s.ledger := rfl
@[simp] theorem setTab_units (n : Nat) (c : Tab) : (s.setTab n c).units = s.units := rfl
@[simp] theorem setTab_crypto (n : Nat) (c : Tab) : (s.setTab n c).crypto = s.crypto := rfl
@[simp] theorem setTab_vault (n : Nat) (c : Tab) : (s.setTab n c).vault = s.vault := rfl
@[simp] theorem setTab_flash (n : Nat) (c : Tab) : (s.setTab n c).flash = s.flash := rfl
@[simp] theorem setTab_ddr (n : Nat) (c : Tab) : (s.setTab n c).ddr = s.ddr := rfl
@[simp] theorem setTab_boards (n : Nat) (c : Tab) : (s.setTab n c).boards = s.boards := rfl
@[simp] theorem setTab_tamper (n : Nat) (c : Tab) : (s.setTab n c).tamper = s.tamper := rfl
@[simp] theorem setTab_guard (n : Nat) (c : Tab) : (s.setTab n c).guard = s.guard := rfl
@[simp] theorem setTab_power (n : Nat) (c : Tab) : (s.setTab n c).power = s.power := rfl
@[simp] theorem setTab_fault (n : Nat) (c : Tab) : (s.setTab n c).fault = s.fault := rfl
@[simp] theorem setTab_dev (n : Nat) (c : Tab) : (s.setTab n c).dev = s.dev := rfl
@[simp] theorem setTab_drawn (n : Nat) (c : Tab) : (s.setTab n c).drawn = s.drawn := rfl
@[simp] theorem setTab_pending (n : Nat) (c : Tab) : (s.setTab n c).pending = s.pending := rfl
@[simp] theorem setTab_tabs_templates (n : Nat) (c : Tab) : (s.setTab n c).tabs.templates = s.tabs.templates := rfl
@[simp] theorem setTab_tabs_days (n : Nat) (c : Tab) : (s.setTab n c).tabs.days = s.tabs.days := rfl
@[simp] theorem setTab_tabs_entries (n : Nat) (c : Tab) : (s.setTab n c).tabs.entries = s.tabs.entries := rfl
@[simp] theorem setTab_tabs_marks (n : Nat) (c : Tab) : (s.setTab n c).tabs.marks = s.tabs.marks := rfl
@[simp] theorem setTab_tabs_holds (n : Nat) (c : Tab) : (s.setTab n c).tabs.holds = s.tabs.holds := rfl
@[simp] theorem setTab_tabs_holdHigh (n : Nat) (c : Tab) : (s.setTab n c).tabs.holdHigh = s.tabs.holdHigh := rfl
@[simp] theorem setTab_tabs_applets (n : Nat) (c : Tab) : (s.setTab n c).tabs.applets = s.tabs.applets := rfl
@[simp] theorem setTab_tabs_imageDigests (n : Nat) (c : Tab) : (s.setTab n c).tabs.imageDigests = s.tabs.imageDigests := rfl
@[simp] theorem setTab_tabs_fixedDigests (n : Nat) (c : Tab) : (s.setTab n c).tabs.fixedDigests = s.tabs.fixedDigests := rfl
@[simp] theorem setTab_tabs_keyDigests (n : Nat) (c : Tab) : (s.setTab n c).tabs.keyDigests = s.tabs.keyDigests := rfl

/-! setTk -/

@[simp] theorem setTk_classes (t : Tk) : (s.setTk t).classes = s.classes := rfl
@[simp] theorem setTk_tabs (t : Tk) : (s.setTk t).tabs = s.tabs := rfl
@[simp] theorem setTk_ledger (t : Tk) : (s.setTk t).ledger = s.ledger := rfl
@[simp] theorem setTk_units (t : Tk) : (s.setTk t).units = s.units := rfl
@[simp] theorem setTk_crypto (t : Tk) : (s.setTk t).crypto = s.crypto := rfl
@[simp] theorem setTk_vault (t : Tk) : (s.setTk t).vault = s.vault := rfl
@[simp] theorem setTk_flash (t : Tk) : (s.setTk t).flash = s.flash := rfl
@[simp] theorem setTk_ddr (t : Tk) : (s.setTk t).ddr = s.ddr := rfl
@[simp] theorem setTk_boards (t : Tk) : (s.setTk t).boards = s.boards := rfl
@[simp] theorem setTk_tamper (t : Tk) : (s.setTk t).tamper = s.tamper := rfl
@[simp] theorem setTk_guard (t : Tk) : (s.setTk t).guard = s.guard := rfl
@[simp] theorem setTk_power (t : Tk) : (s.setTk t).power = s.power := rfl
@[simp] theorem setTk_fault (t : Tk) : (s.setTk t).fault = s.fault := rfl
@[simp] theorem setTk_dev (t : Tk) : (s.setTk t).dev = s.dev := rfl
@[simp] theorem setTk_drawn (t : Tk) : (s.setTk t).drawn = s.drawn := rfl
@[simp] theorem setTk_pending (t : Tk) : (s.setTk t).pending = s.pending := rfl
@[simp] theorem setTk_host_twoPorts (t : Tk) : (s.setTk t).host.twoPorts = s.host.twoPorts := rfl
@[simp] theorem setTk_host_rings (t : Tk) : (s.setTk t).host.rings = s.host.rings := rfl
@[simp] theorem setTk_host_port0 (t : Tk) : (s.setTk t).host.port0 = s.host.port0 := rfl
@[simp] theorem setTk_host_port1 (t : Tk) : (s.setTk t).host.port1 = s.host.port1 := rfl
@[simp] theorem setTk_host_nextId (t : Tk) : (s.setTk t).host.nextId = s.host.nextId := rfl
@[simp] theorem setTk_host_out (t : Tk) : (s.setTk t).host.out = s.host.out := rfl
@[simp] theorem setTk_host_wmtMarked (t : Tk) : (s.setTk t).host.wmtMarked = s.host.wmtMarked := rfl
@[simp] theorem setTk_host_wmtLast (t : Tk) : (s.setTk t).host.wmtLast = s.host.wmtLast := rfl

/-! dropTk -/

@[simp] theorem dropTk_classes (n : Nat) : (s.dropTk n).classes = s.classes := rfl
@[simp] theorem dropTk_tabs (n : Nat) : (s.dropTk n).tabs = s.tabs := rfl
@[simp] theorem dropTk_ledger (n : Nat) : (s.dropTk n).ledger = s.ledger := rfl
@[simp] theorem dropTk_units (n : Nat) : (s.dropTk n).units = s.units := rfl
@[simp] theorem dropTk_crypto (n : Nat) : (s.dropTk n).crypto = s.crypto := rfl
@[simp] theorem dropTk_vault (n : Nat) : (s.dropTk n).vault = s.vault := rfl
@[simp] theorem dropTk_flash (n : Nat) : (s.dropTk n).flash = s.flash := rfl
@[simp] theorem dropTk_ddr (n : Nat) : (s.dropTk n).ddr = s.ddr := rfl
@[simp] theorem dropTk_boards (n : Nat) : (s.dropTk n).boards = s.boards := rfl
@[simp] theorem dropTk_tamper (n : Nat) : (s.dropTk n).tamper = s.tamper := rfl
@[simp] theorem dropTk_guard (n : Nat) : (s.dropTk n).guard = s.guard := rfl
@[simp] theorem dropTk_power (n : Nat) : (s.dropTk n).power = s.power := rfl
@[simp] theorem dropTk_fault (n : Nat) : (s.dropTk n).fault = s.fault := rfl
@[simp] theorem dropTk_dev (n : Nat) : (s.dropTk n).dev = s.dev := rfl
@[simp] theorem dropTk_drawn (n : Nat) : (s.dropTk n).drawn = s.drawn := rfl
@[simp] theorem dropTk_pending (n : Nat) : (s.dropTk n).pending = s.pending := rfl
@[simp] theorem dropTk_host_twoPorts (n : Nat) : (s.dropTk n).host.twoPorts = s.host.twoPorts := rfl
@[simp] theorem dropTk_host_rings (n : Nat) : (s.dropTk n).host.rings = s.host.rings := rfl
@[simp] theorem dropTk_host_port0 (n : Nat) : (s.dropTk n).host.port0 = s.host.port0 := rfl
@[simp] theorem dropTk_host_port1 (n : Nat) : (s.dropTk n).host.port1 = s.host.port1 := rfl
@[simp] theorem dropTk_host_nextId (n : Nat) : (s.dropTk n).host.nextId = s.host.nextId := rfl
@[simp] theorem dropTk_host_out (n : Nat) : (s.dropTk n).host.out = s.host.out := rfl
@[simp] theorem dropTk_host_wmtMarked (n : Nat) : (s.dropTk n).host.wmtMarked = s.host.wmtMarked := rfl
@[simp] theorem dropTk_host_wmtLast (n : Nat) : (s.dropTk n).host.wmtLast = s.host.wmtLast := rfl

/-! emit -/

@[simp] theorem emit_classes (w : HostWrite) : (s.emit w).classes = s.classes := rfl
@[simp] theorem emit_tabs (w : HostWrite) : (s.emit w).tabs = s.tabs := rfl
@[simp] theorem emit_ledger (w : HostWrite) : (s.emit w).ledger = s.ledger := rfl
@[simp] theorem emit_units (w : HostWrite) : (s.emit w).units = s.units := rfl
@[simp] theorem emit_crypto (w : HostWrite) : (s.emit w).crypto = s.crypto := rfl
@[simp] theorem emit_vault (w : HostWrite) : (s.emit w).vault = s.vault := rfl
@[simp] theorem emit_flash (w : HostWrite) : (s.emit w).flash = s.flash := rfl
@[simp] theorem emit_ddr (w : HostWrite) : (s.emit w).ddr = s.ddr := rfl
@[simp] theorem emit_boards (w : HostWrite) : (s.emit w).boards = s.boards := rfl
@[simp] theorem emit_tamper (w : HostWrite) : (s.emit w).tamper = s.tamper := rfl
@[simp] theorem emit_guard (w : HostWrite) : (s.emit w).guard = s.guard := rfl
@[simp] theorem emit_power (w : HostWrite) : (s.emit w).power = s.power := rfl
@[simp] theorem emit_fault (w : HostWrite) : (s.emit w).fault = s.fault := rfl
@[simp] theorem emit_dev (w : HostWrite) : (s.emit w).dev = s.dev := rfl
@[simp] theorem emit_drawn (w : HostWrite) : (s.emit w).drawn = s.drawn := rfl
@[simp] theorem emit_pending (w : HostWrite) : (s.emit w).pending = s.pending := rfl
@[simp] theorem emit_host_twoPorts (w : HostWrite) : (s.emit w).host.twoPorts = s.host.twoPorts := rfl
@[simp] theorem emit_host_rings (w : HostWrite) : (s.emit w).host.rings = s.host.rings := rfl
@[simp] theorem emit_host_port0 (w : HostWrite) : (s.emit w).host.port0 = s.host.port0 := rfl
@[simp] theorem emit_host_port1 (w : HostWrite) : (s.emit w).host.port1 = s.host.port1 := rfl
@[simp] theorem emit_host_tickets (w : HostWrite) : (s.emit w).host.tickets = s.host.tickets := rfl
@[simp] theorem emit_host_nextId (w : HostWrite) : (s.emit w).host.nextId = s.host.nextId := rfl
@[simp] theorem emit_host_wmtMarked (w : HostWrite) : (s.emit w).host.wmtMarked = s.host.wmtMarked := rfl
@[simp] theorem emit_host_wmtLast (w : HostWrite) : (s.emit w).host.wmtLast = s.host.wmtLast := rfl

/-! setUnit -/

@[simp] theorem setUnit_host (n : Nat) (u : UnitSt) : (s.setUnit n u).host = s.host := rfl
@[simp] theorem setUnit_classes (n : Nat) (u : UnitSt) : (s.setUnit n u).classes = s.classes := rfl
@[simp] theorem setUnit_tabs (n : Nat) (u : UnitSt) : (s.setUnit n u).tabs = s.tabs := rfl
@[simp] theorem setUnit_ledger (n : Nat) (u : UnitSt) : (s.setUnit n u).ledger = s.ledger := rfl
@[simp] theorem setUnit_crypto (n : Nat) (u : UnitSt) : (s.setUnit n u).crypto = s.crypto := rfl
@[simp] theorem setUnit_vault (n : Nat) (u : UnitSt) : (s.setUnit n u).vault = s.vault := rfl
@[simp] theorem setUnit_flash (n : Nat) (u : UnitSt) : (s.setUnit n u).flash = s.flash := rfl
@[simp] theorem setUnit_ddr (n : Nat) (u : UnitSt) : (s.setUnit n u).ddr = s.ddr := rfl
@[simp] theorem setUnit_boards (n : Nat) (u : UnitSt) : (s.setUnit n u).boards = s.boards := rfl
@[simp] theorem setUnit_tamper (n : Nat) (u : UnitSt) : (s.setUnit n u).tamper = s.tamper := rfl
@[simp] theorem setUnit_guard (n : Nat) (u : UnitSt) : (s.setUnit n u).guard = s.guard := rfl
@[simp] theorem setUnit_power (n : Nat) (u : UnitSt) : (s.setUnit n u).power = s.power := rfl
@[simp] theorem setUnit_fault (n : Nat) (u : UnitSt) : (s.setUnit n u).fault = s.fault := rfl
@[simp] theorem setUnit_dev (n : Nat) (u : UnitSt) : (s.setUnit n u).dev = s.dev := rfl
@[simp] theorem setUnit_drawn (n : Nat) (u : UnitSt) : (s.setUnit n u).drawn = s.drawn := rfl
@[simp] theorem setUnit_pending (n : Nat) (u : UnitSt) : (s.setUnit n u).pending = s.pending := rfl
@[simp] theorem setUnit_units_select (n : Nat) (u : UnitSt) : (s.setUnit n u).units.select = s.units.select := rfl
@[simp] theorem setUnit_units_spareFor (n : Nat) (u : UnitSt) : (s.setUnit n u).units.spareFor = s.units.spareFor := rfl
@[simp] theorem setUnit_units_fw (n : Nat) (u : UnitSt) : (s.setUnit n u).units.fw = s.units.fw := rfl
@[simp] theorem setUnit_units_items (n : Nat) (u : UnitSt) : (s.setUnit n u).units.items = s.units.items := rfl

/-! setSpareFor -/

@[simp] theorem setSpareFor_host (n v : Nat) : (s.setSpareFor n v).host = s.host := rfl
@[simp] theorem setSpareFor_classes (n v : Nat) : (s.setSpareFor n v).classes = s.classes := rfl
@[simp] theorem setSpareFor_tabs (n v : Nat) : (s.setSpareFor n v).tabs = s.tabs := rfl
@[simp] theorem setSpareFor_ledger (n v : Nat) : (s.setSpareFor n v).ledger = s.ledger := rfl
@[simp] theorem setSpareFor_crypto (n v : Nat) : (s.setSpareFor n v).crypto = s.crypto := rfl
@[simp] theorem setSpareFor_vault (n v : Nat) : (s.setSpareFor n v).vault = s.vault := rfl
@[simp] theorem setSpareFor_flash (n v : Nat) : (s.setSpareFor n v).flash = s.flash := rfl
@[simp] theorem setSpareFor_ddr (n v : Nat) : (s.setSpareFor n v).ddr = s.ddr := rfl
@[simp] theorem setSpareFor_boards (n v : Nat) : (s.setSpareFor n v).boards = s.boards := rfl
@[simp] theorem setSpareFor_tamper (n v : Nat) : (s.setSpareFor n v).tamper = s.tamper := rfl
@[simp] theorem setSpareFor_guard (n v : Nat) : (s.setSpareFor n v).guard = s.guard := rfl
@[simp] theorem setSpareFor_power (n v : Nat) : (s.setSpareFor n v).power = s.power := rfl
@[simp] theorem setSpareFor_fault (n v : Nat) : (s.setSpareFor n v).fault = s.fault := rfl
@[simp] theorem setSpareFor_dev (n v : Nat) : (s.setSpareFor n v).dev = s.dev := rfl
@[simp] theorem setSpareFor_drawn (n v : Nat) : (s.setSpareFor n v).drawn = s.drawn := rfl
@[simp] theorem setSpareFor_pending (n v : Nat) : (s.setSpareFor n v).pending = s.pending := rfl
@[simp] theorem setSpareFor_units_select (n v : Nat) : (s.setSpareFor n v).units.select = s.units.select := rfl
@[simp] theorem setSpareFor_units_st (n v : Nat) : (s.setSpareFor n v).units.st = s.units.st := rfl
@[simp] theorem setSpareFor_units_fw (n v : Nat) : (s.setSpareFor n v).units.fw = s.units.fw := rfl
@[simp] theorem setSpareFor_units_items (n v : Nat) : (s.setSpareFor n v).units.items = s.units.items := rfl

/-! setSrc -/

@[simp] theorem setSrc_host (n : Nat) (v : Src) : (s.setSrc n v).host = s.host := rfl
@[simp] theorem setSrc_classes (n : Nat) (v : Src) : (s.setSrc n v).classes = s.classes := rfl
@[simp] theorem setSrc_tabs (n : Nat) (v : Src) : (s.setSrc n v).tabs = s.tabs := rfl
@[simp] theorem setSrc_ledger (n : Nat) (v : Src) : (s.setSrc n v).ledger = s.ledger := rfl
@[simp] theorem setSrc_units (n : Nat) (v : Src) : (s.setSrc n v).units = s.units := rfl
@[simp] theorem setSrc_crypto (n : Nat) (v : Src) : (s.setSrc n v).crypto = s.crypto := rfl
@[simp] theorem setSrc_vault (n : Nat) (v : Src) : (s.setSrc n v).vault = s.vault := rfl
@[simp] theorem setSrc_flash (n : Nat) (v : Src) : (s.setSrc n v).flash = s.flash := rfl
@[simp] theorem setSrc_ddr (n : Nat) (v : Src) : (s.setSrc n v).ddr = s.ddr := rfl
@[simp] theorem setSrc_boards (n : Nat) (v : Src) : (s.setSrc n v).boards = s.boards := rfl
@[simp] theorem setSrc_guard (n : Nat) (v : Src) : (s.setSrc n v).guard = s.guard := rfl
@[simp] theorem setSrc_power (n : Nat) (v : Src) : (s.setSrc n v).power = s.power := rfl
@[simp] theorem setSrc_fault (n : Nat) (v : Src) : (s.setSrc n v).fault = s.fault := rfl
@[simp] theorem setSrc_dev (n : Nat) (v : Src) : (s.setSrc n v).dev = s.dev := rfl
@[simp] theorem setSrc_drawn (n : Nat) (v : Src) : (s.setSrc n v).drawn = s.drawn := rfl
@[simp] theorem setSrc_pending (n : Nat) (v : Src) : (s.setSrc n v).pending = s.pending := rfl
@[simp] theorem setSrc_tamper_lock (n : Nat) (v : Src) : (s.setSrc n v).tamper.lock = s.tamper.lock := rfl
@[simp] theorem setSrc_tamper_lastLevel (n : Nat) (v : Src) : (s.setSrc n v).tamper.lastLevel = s.tamper.lastLevel := rfl
@[simp] theorem setSrc_tamper_lastSource (n : Nat) (v : Src) : (s.setSrc n v).tamper.lastSource = s.tamper.lastSource := rfl
@[simp] theorem setSrc_tamper_logLost (n : Nat) (v : Src) : (s.setSrc n v).tamper.logLost = s.tamper.logLost := rfl
@[simp] theorem setSrc_tamper_notified (n : Nat) (v : Src) : (s.setSrc n v).tamper.notified = s.tamper.notified := rfl
@[simp] theorem setSrc_tamper_windowMs (n : Nat) (v : Src) : (s.setSrc n v).tamper.windowMs = s.tamper.windowMs := rfl
@[simp] theorem setSrc_tamper_lockstepCount (n : Nat) (v : Src) : (s.setSrc n v).tamper.lockstepCount = s.tamper.lockstepCount := rfl
@[simp] theorem setSrc_tamper_mismatches (n : Nat) (v : Src) : (s.setSrc n v).tamper.mismatches = s.tamper.mismatches := rfl
@[simp] theorem setSrc_tamper_falls (n : Nat) (v : Src) : (s.setSrc n v).tamper.falls = s.tamper.falls := rfl
@[simp] theorem setSrc_tamper_ring (n : Nat) (v : Src) : (s.setSrc n v).tamper.ring = s.tamper.ring := rfl
@[simp] theorem setSrc_tamper_overflow (n : Nat) (v : Src) : (s.setSrc n v).tamper.overflow = s.tamper.overflow := rfl
@[simp] theorem setSrc_tamper_log (n : Nat) (v : Src) : (s.setSrc n v).tamper.log = s.tamper.log := rfl
@[simp] theorem setSrc_tamper_queue (n : Nat) (v : Src) : (s.setSrc n v).tamper.queue = s.tamper.queue := rfl
@[simp] theorem setSrc_tamper_next (n : Nat) (v : Src) : (s.setSrc n v).tamper.next = s.tamper.next := rfl
@[simp] theorem setSrc_tamper_modeLog (n : Nat) (v : Src) : (s.setSrc n v).tamper.modeLog = s.tamper.modeLog := rfl
@[simp] theorem setSrc_tamper_waiting (n : Nat) (v : Src) : (s.setSrc n v).tamper.waiting = s.tamper.waiting := rfl

/-! setChan -/

@[simp] theorem setChan_host (n : Nat) (v : Chan) : (s.setChan n v).host = s.host := rfl
@[simp] theorem setChan_classes (n : Nat) (v : Chan) : (s.setChan n v).classes = s.classes := rfl
@[simp] theorem setChan_tabs (n : Nat) (v : Chan) : (s.setChan n v).tabs = s.tabs := rfl
@[simp] theorem setChan_ledger (n : Nat) (v : Chan) : (s.setChan n v).ledger = s.ledger := rfl
@[simp] theorem setChan_units (n : Nat) (v : Chan) : (s.setChan n v).units = s.units := rfl
@[simp] theorem setChan_crypto (n : Nat) (v : Chan) : (s.setChan n v).crypto = s.crypto := rfl
@[simp] theorem setChan_vault (n : Nat) (v : Chan) : (s.setChan n v).vault = s.vault := rfl
@[simp] theorem setChan_ddr (n : Nat) (v : Chan) : (s.setChan n v).ddr = s.ddr := rfl
@[simp] theorem setChan_boards (n : Nat) (v : Chan) : (s.setChan n v).boards = s.boards := rfl
@[simp] theorem setChan_tamper (n : Nat) (v : Chan) : (s.setChan n v).tamper = s.tamper := rfl
@[simp] theorem setChan_guard (n : Nat) (v : Chan) : (s.setChan n v).guard = s.guard := rfl
@[simp] theorem setChan_power (n : Nat) (v : Chan) : (s.setChan n v).power = s.power := rfl
@[simp] theorem setChan_fault (n : Nat) (v : Chan) : (s.setChan n v).fault = s.fault := rfl
@[simp] theorem setChan_dev (n : Nat) (v : Chan) : (s.setChan n v).dev = s.dev := rfl
@[simp] theorem setChan_drawn (n : Nat) (v : Chan) : (s.setChan n v).drawn = s.drawn := rfl
@[simp] theorem setChan_pending (n : Nat) (v : Chan) : (s.setChan n v).pending = s.pending := rfl
@[simp] theorem setChan_flash_buildAddr (n : Nat) (v : Chan) : (s.setChan n v).flash.buildAddr = s.flash.buildAddr := rfl
@[simp] theorem setChan_flash_extend (n : Nat) (v : Chan) : (s.setChan n v).flash.extend = s.flash.extend := rfl
@[simp] theorem setChan_flash_buildState (n : Nat) (v : Chan) : (s.setChan n v).flash.buildState = s.flash.buildState := rfl
@[simp] theorem setChan_flash_buildErr (n : Nat) (v : Chan) : (s.setChan n v).flash.buildErr = s.flash.buildErr := rfl
@[simp] theorem setChan_flash_failedTarget (n : Nat) (v : Chan) : (s.setChan n v).flash.failedTarget = s.flash.failedTarget := rfl
@[simp] theorem setChan_flash_retrainS (n : Nat) (v : Chan) : (s.setChan n v).flash.retrainS = s.flash.retrainS := rfl
@[simp] theorem setChan_flash_desc (n : Nat) (v : Chan) : (s.setChan n v).flash.desc = s.flash.desc := rfl
@[simp] theorem setChan_flash_targets (n : Nat) (v : Chan) : (s.setChan n v).flash.targets = s.flash.targets := rfl
@[simp] theorem setChan_flash_lanes (n : Nat) (v : Chan) : (s.setChan n v).flash.lanes = s.flash.lanes := rfl
@[simp] theorem setChan_flash_bad (n : Nat) (v : Chan) : (s.setChan n v).flash.bad = s.flash.bad := rfl
@[simp] theorem setChan_flash_subs (n : Nat) (v : Chan) : (s.setChan n v).flash.subs = s.flash.subs := rfl
@[simp] theorem setChan_flash_system (n : Nat) (v : Chan) : (s.setChan n v).flash.system = s.flash.system := rfl
@[simp] theorem setChan_flash_selected (n : Nat) (v : Chan) : (s.setChan n v).flash.selected = s.flash.selected := rfl
@[simp] theorem setChan_flash_overdue (n : Nat) (v : Chan) : (s.setChan n v).flash.overdue = s.flash.overdue := rfl
@[simp] theorem setChan_flash_crates (n : Nat) (v : Chan) : (s.setChan n v).flash.crates = s.flash.crates := rfl
@[simp] theorem setChan_flash_nextCrate (n : Nat) (v : Chan) : (s.setChan n v).flash.nextCrate = s.flash.nextCrate := rfl
@[simp] theorem setChan_flash_rebuildW3 (n : Nat) (v : Chan) : (s.setChan n v).flash.rebuildW3 = s.flash.rebuildW3 := rfl
@[simp] theorem setChan_flash_compactPct (n : Nat) (v : Chan) : (s.setChan n v).flash.compactPct = s.flash.compactPct := rfl
@[simp] theorem setChan_flash_reservePct (n : Nat) (v : Chan) : (s.setChan n v).flash.reservePct = s.flash.reservePct := rfl
@[simp] theorem setChan_flash_refreshBits (n : Nat) (v : Chan) : (s.setChan n v).flash.refreshBits = s.flash.refreshBits := rfl
@[simp] theorem setChan_flash_scrubDays (n : Nat) (v : Chan) : (s.setChan n v).flash.scrubDays = s.flash.scrubDays := rfl
@[simp] theorem setChan_flash_readLimitK (n : Nat) (v : Chan) : (s.setChan n v).flash.readLimitK = s.flash.readLimitK := rfl
@[simp] theorem setChan_flash_ageDays (n : Nat) (v : Chan) : (s.setChan n v).flash.ageDays = s.flash.ageDays := rfl
@[simp] theorem setChan_flash_wearSpread (n : Nat) (v : Chan) : (s.setChan n v).flash.wearSpread = s.flash.wearSpread := rfl
@[simp] theorem setChan_flash_retryMax (n : Nat) (v : Chan) : (s.setChan n v).flash.retryMax = s.flash.retryMax := rfl
@[simp] theorem setChan_flash_calPeriodH (n : Nat) (v : Chan) : (s.setChan n v).flash.calPeriodH = s.flash.calPeriodH := rfl
@[simp] theorem setChan_flash_ride (n : Nat) (v : Chan) : (s.setChan n v).flash.ride = s.flash.ride := rfl
@[simp] theorem setChan_flash_rideWarn (n : Nat) (v : Chan) : (s.setChan n v).flash.rideWarn = s.flash.rideWarn := rfl
@[simp] theorem setChan_flash_fills (n : Nat) (v : Chan) : (s.setChan n v).flash.fills = s.flash.fills := rfl
@[simp] theorem setChan_flash_fillNow (n : Nat) (v : Chan) : (s.setChan n v).flash.fillNow = s.flash.fillNow := rfl
@[simp] theorem setChan_flash_fillStart (n : Nat) (v : Chan) : (s.setChan n v).flash.fillStart = s.flash.fillStart := rfl
@[simp] theorem setChan_flash_grown (n : Nat) (v : Chan) : (s.setChan n v).flash.grown = s.flash.grown := rfl
@[simp] theorem setChan_flash_worn (n : Nat) (v : Chan) : (s.setChan n v).flash.worn = s.flash.worn := rfl
@[simp] theorem setChan_flash_soft (n : Nat) (v : Chan) : (s.setChan n v).flash.soft = s.flash.soft := rfl
@[simp] theorem setChan_flash_reconstructed (n : Nat) (v : Chan) : (s.setChan n v).flash.reconstructed = s.flash.reconstructed := rfl
@[simp] theorem setChan_flash_lost (n : Nat) (v : Chan) : (s.setChan n v).flash.lost = s.flash.lost := rfl
@[simp] theorem setChan_flash_refreshQueue (n : Nat) (v : Chan) : (s.setChan n v).flash.refreshQueue = s.flash.refreshQueue := rfl
@[simp] theorem setChan_flash_step5 (n : Nat) (v : Chan) : (s.setChan n v).flash.step5 = s.flash.step5 := rfl

/-! setTarget -/

@[simp] theorem setTarget_host (n : Nat) (v : Target) : (s.setTarget n v).host = s.host := rfl
@[simp] theorem setTarget_classes (n : Nat) (v : Target) : (s.setTarget n v).classes = s.classes := rfl
@[simp] theorem setTarget_tabs (n : Nat) (v : Target) : (s.setTarget n v).tabs = s.tabs := rfl
@[simp] theorem setTarget_ledger (n : Nat) (v : Target) : (s.setTarget n v).ledger = s.ledger := rfl
@[simp] theorem setTarget_units (n : Nat) (v : Target) : (s.setTarget n v).units = s.units := rfl
@[simp] theorem setTarget_crypto (n : Nat) (v : Target) : (s.setTarget n v).crypto = s.crypto := rfl
@[simp] theorem setTarget_vault (n : Nat) (v : Target) : (s.setTarget n v).vault = s.vault := rfl
@[simp] theorem setTarget_ddr (n : Nat) (v : Target) : (s.setTarget n v).ddr = s.ddr := rfl
@[simp] theorem setTarget_boards (n : Nat) (v : Target) : (s.setTarget n v).boards = s.boards := rfl
@[simp] theorem setTarget_tamper (n : Nat) (v : Target) : (s.setTarget n v).tamper = s.tamper := rfl
@[simp] theorem setTarget_guard (n : Nat) (v : Target) : (s.setTarget n v).guard = s.guard := rfl
@[simp] theorem setTarget_power (n : Nat) (v : Target) : (s.setTarget n v).power = s.power := rfl
@[simp] theorem setTarget_fault (n : Nat) (v : Target) : (s.setTarget n v).fault = s.fault := rfl
@[simp] theorem setTarget_dev (n : Nat) (v : Target) : (s.setTarget n v).dev = s.dev := rfl
@[simp] theorem setTarget_drawn (n : Nat) (v : Target) : (s.setTarget n v).drawn = s.drawn := rfl
@[simp] theorem setTarget_pending (n : Nat) (v : Target) : (s.setTarget n v).pending = s.pending := rfl
@[simp] theorem setTarget_flash_buildAddr (n : Nat) (v : Target) : (s.setTarget n v).flash.buildAddr = s.flash.buildAddr := rfl
@[simp] theorem setTarget_flash_extend (n : Nat) (v : Target) : (s.setTarget n v).flash.extend = s.flash.extend := rfl
@[simp] theorem setTarget_flash_buildState (n : Nat) (v : Target) : (s.setTarget n v).flash.buildState = s.flash.buildState := rfl
@[simp] theorem setTarget_flash_buildErr (n : Nat) (v : Target) : (s.setTarget n v).flash.buildErr = s.flash.buildErr := rfl
@[simp] theorem setTarget_flash_failedTarget (n : Nat) (v : Target) : (s.setTarget n v).flash.failedTarget = s.flash.failedTarget := rfl
@[simp] theorem setTarget_flash_retrainS (n : Nat) (v : Target) : (s.setTarget n v).flash.retrainS = s.flash.retrainS := rfl
@[simp] theorem setTarget_flash_desc (n : Nat) (v : Target) : (s.setTarget n v).flash.desc = s.flash.desc := rfl
@[simp] theorem setTarget_flash_chans (n : Nat) (v : Target) : (s.setTarget n v).flash.chans = s.flash.chans := rfl
@[simp] theorem setTarget_flash_lanes (n : Nat) (v : Target) : (s.setTarget n v).flash.lanes = s.flash.lanes := rfl
@[simp] theorem setTarget_flash_bad (n : Nat) (v : Target) : (s.setTarget n v).flash.bad = s.flash.bad := rfl
@[simp] theorem setTarget_flash_subs (n : Nat) (v : Target) : (s.setTarget n v).flash.subs = s.flash.subs := rfl
@[simp] theorem setTarget_flash_system (n : Nat) (v : Target) : (s.setTarget n v).flash.system = s.flash.system := rfl
@[simp] theorem setTarget_flash_selected (n : Nat) (v : Target) : (s.setTarget n v).flash.selected = s.flash.selected := rfl
@[simp] theorem setTarget_flash_overdue (n : Nat) (v : Target) : (s.setTarget n v).flash.overdue = s.flash.overdue := rfl
@[simp] theorem setTarget_flash_crates (n : Nat) (v : Target) : (s.setTarget n v).flash.crates = s.flash.crates := rfl
@[simp] theorem setTarget_flash_nextCrate (n : Nat) (v : Target) : (s.setTarget n v).flash.nextCrate = s.flash.nextCrate := rfl
@[simp] theorem setTarget_flash_rebuildW3 (n : Nat) (v : Target) : (s.setTarget n v).flash.rebuildW3 = s.flash.rebuildW3 := rfl
@[simp] theorem setTarget_flash_compactPct (n : Nat) (v : Target) : (s.setTarget n v).flash.compactPct = s.flash.compactPct := rfl
@[simp] theorem setTarget_flash_reservePct (n : Nat) (v : Target) : (s.setTarget n v).flash.reservePct = s.flash.reservePct := rfl
@[simp] theorem setTarget_flash_refreshBits (n : Nat) (v : Target) : (s.setTarget n v).flash.refreshBits = s.flash.refreshBits := rfl
@[simp] theorem setTarget_flash_scrubDays (n : Nat) (v : Target) : (s.setTarget n v).flash.scrubDays = s.flash.scrubDays := rfl
@[simp] theorem setTarget_flash_readLimitK (n : Nat) (v : Target) : (s.setTarget n v).flash.readLimitK = s.flash.readLimitK := rfl
@[simp] theorem setTarget_flash_ageDays (n : Nat) (v : Target) : (s.setTarget n v).flash.ageDays = s.flash.ageDays := rfl
@[simp] theorem setTarget_flash_wearSpread (n : Nat) (v : Target) : (s.setTarget n v).flash.wearSpread = s.flash.wearSpread := rfl
@[simp] theorem setTarget_flash_retryMax (n : Nat) (v : Target) : (s.setTarget n v).flash.retryMax = s.flash.retryMax := rfl
@[simp] theorem setTarget_flash_calPeriodH (n : Nat) (v : Target) : (s.setTarget n v).flash.calPeriodH = s.flash.calPeriodH := rfl
@[simp] theorem setTarget_flash_ride (n : Nat) (v : Target) : (s.setTarget n v).flash.ride = s.flash.ride := rfl
@[simp] theorem setTarget_flash_rideWarn (n : Nat) (v : Target) : (s.setTarget n v).flash.rideWarn = s.flash.rideWarn := rfl
@[simp] theorem setTarget_flash_fills (n : Nat) (v : Target) : (s.setTarget n v).flash.fills = s.flash.fills := rfl
@[simp] theorem setTarget_flash_fillNow (n : Nat) (v : Target) : (s.setTarget n v).flash.fillNow = s.flash.fillNow := rfl
@[simp] theorem setTarget_flash_fillStart (n : Nat) (v : Target) : (s.setTarget n v).flash.fillStart = s.flash.fillStart := rfl
@[simp] theorem setTarget_flash_grown (n : Nat) (v : Target) : (s.setTarget n v).flash.grown = s.flash.grown := rfl
@[simp] theorem setTarget_flash_worn (n : Nat) (v : Target) : (s.setTarget n v).flash.worn = s.flash.worn := rfl
@[simp] theorem setTarget_flash_soft (n : Nat) (v : Target) : (s.setTarget n v).flash.soft = s.flash.soft := rfl
@[simp] theorem setTarget_flash_reconstructed (n : Nat) (v : Target) : (s.setTarget n v).flash.reconstructed = s.flash.reconstructed := rfl
@[simp] theorem setTarget_flash_lost (n : Nat) (v : Target) : (s.setTarget n v).flash.lost = s.flash.lost := rfl
@[simp] theorem setTarget_flash_refreshQueue (n : Nat) (v : Target) : (s.setTarget n v).flash.refreshQueue = s.flash.refreshQueue := rfl
@[simp] theorem setTarget_flash_step5 (n : Nat) (v : Target) : (s.setTarget n v).flash.step5 = s.flash.step5 := rfl

/-! setDdrChan -/

@[simp] theorem setDdrChan_host (n : Nat) (v : DdrChan) : (s.setDdrChan n v).host = s.host := rfl
@[simp] theorem setDdrChan_classes (n : Nat) (v : DdrChan) : (s.setDdrChan n v).classes = s.classes := rfl
@[simp] theorem setDdrChan_tabs (n : Nat) (v : DdrChan) : (s.setDdrChan n v).tabs = s.tabs := rfl
@[simp] theorem setDdrChan_ledger (n : Nat) (v : DdrChan) : (s.setDdrChan n v).ledger = s.ledger := rfl
@[simp] theorem setDdrChan_units (n : Nat) (v : DdrChan) : (s.setDdrChan n v).units = s.units := rfl
@[simp] theorem setDdrChan_crypto (n : Nat) (v : DdrChan) : (s.setDdrChan n v).crypto = s.crypto := rfl
@[simp] theorem setDdrChan_vault (n : Nat) (v : DdrChan) : (s.setDdrChan n v).vault = s.vault := rfl
@[simp] theorem setDdrChan_flash (n : Nat) (v : DdrChan) : (s.setDdrChan n v).flash = s.flash := rfl
@[simp] theorem setDdrChan_boards (n : Nat) (v : DdrChan) : (s.setDdrChan n v).boards = s.boards := rfl
@[simp] theorem setDdrChan_tamper (n : Nat) (v : DdrChan) : (s.setDdrChan n v).tamper = s.tamper := rfl
@[simp] theorem setDdrChan_guard (n : Nat) (v : DdrChan) : (s.setDdrChan n v).guard = s.guard := rfl
@[simp] theorem setDdrChan_power (n : Nat) (v : DdrChan) : (s.setDdrChan n v).power = s.power := rfl
@[simp] theorem setDdrChan_fault (n : Nat) (v : DdrChan) : (s.setDdrChan n v).fault = s.fault := rfl
@[simp] theorem setDdrChan_dev (n : Nat) (v : DdrChan) : (s.setDdrChan n v).dev = s.dev := rfl
@[simp] theorem setDdrChan_drawn (n : Nat) (v : DdrChan) : (s.setDdrChan n v).drawn = s.drawn := rfl
@[simp] theorem setDdrChan_pending (n : Nat) (v : DdrChan) : (s.setDdrChan n v).pending = s.pending := rfl
@[simp] theorem setDdrChan_ddr_state (n : Nat) (v : DdrChan) : (s.setDdrChan n v).ddr.state = s.ddr.state := rfl
@[simp] theorem setDdrChan_ddr_err (n : Nat) (v : DdrChan) : (s.setDdrChan n v).ddr.err = s.ddr.err := rfl
@[simp] theorem setDdrChan_ddr_scrubHours (n : Nat) (v : DdrChan) : (s.setDdrChan n v).ddr.scrubHours = s.ddr.scrubHours := rfl
@[simp] theorem setDdrChan_ddr_idleMs (n : Nat) (v : DdrChan) : (s.setDdrChan n v).ddr.idleMs = s.ddr.idleMs := rfl
@[simp] theorem setDdrChan_ddr_ceRetire (n : Nat) (v : DdrChan) : (s.setDdrChan n v).ddr.ceRetire = s.ddr.ceRetire := rfl
@[simp] theorem setDdrChan_ddr_ce (n : Nat) (v : DdrChan) : (s.setDdrChan n v).ddr.ce = s.ddr.ce := rfl
@[simp] theorem setDdrChan_ddr_ue (n : Nat) (v : DdrChan) : (s.setDdrChan n v).ddr.ue = s.ddr.ue := rfl
@[simp] theorem setDdrChan_ddr_macFail (n : Nat) (v : DdrChan) : (s.setDdrChan n v).ddr.macFail = s.ddr.macFail := rfl
@[simp] theorem setDdrChan_ddr_retired (n : Nat) (v : DdrChan) : (s.setDdrChan n v).ddr.retired = s.ddr.retired := rfl
@[simp] theorem setDdrChan_ddr_mirrorLost (n : Nat) (v : DdrChan) : (s.setDdrChan n v).ddr.mirrorLost = s.ddr.mirrorLost := rfl
@[simp] theorem setDdrChan_ddr_keys (n : Nat) (v : DdrChan) : (s.setDdrChan n v).ddr.keys = s.ddr.keys := rfl
@[simp] theorem setDdrChan_ddr_patrols (n : Nat) (v : DdrChan) : (s.setDdrChan n v).ddr.patrols = s.ddr.patrols := rfl
@[simp] theorem setDdrChan_ddr_patrolledAt (n : Nat) (v : DdrChan) : (s.setDdrChan n v).ddr.patrolledAt = s.ddr.patrolledAt := rfl
@[simp] theorem setDdrChan_ddr_images (n : Nat) (v : DdrChan) : (s.setDdrChan n v).ddr.images = s.ddr.images := rfl
@[simp] theorem setDdrChan_ddr_fixed (n : Nat) (v : DdrChan) : (s.setDdrChan n v).ddr.fixed = s.ddr.fixed := rfl
@[simp] theorem setDdrChan_ddr_keyEntries (n : Nat) (v : DdrChan) : (s.setDdrChan n v).ddr.keyEntries = s.ddr.keyEntries := rfl

/-! setSlot -/

@[simp] theorem setSlot_host (n : Nat) (v : Slot) : (s.setSlot n v).host = s.host := rfl
@[simp] theorem setSlot_classes (n : Nat) (v : Slot) : (s.setSlot n v).classes = s.classes := rfl
@[simp] theorem setSlot_tabs (n : Nat) (v : Slot) : (s.setSlot n v).tabs = s.tabs := rfl
@[simp] theorem setSlot_ledger (n : Nat) (v : Slot) : (s.setSlot n v).ledger = s.ledger := rfl
@[simp] theorem setSlot_units (n : Nat) (v : Slot) : (s.setSlot n v).units = s.units := rfl
@[simp] theorem setSlot_crypto (n : Nat) (v : Slot) : (s.setSlot n v).crypto = s.crypto := rfl
@[simp] theorem setSlot_vault (n : Nat) (v : Slot) : (s.setSlot n v).vault = s.vault := rfl
@[simp] theorem setSlot_flash (n : Nat) (v : Slot) : (s.setSlot n v).flash = s.flash := rfl
@[simp] theorem setSlot_ddr (n : Nat) (v : Slot) : (s.setSlot n v).ddr = s.ddr := rfl
@[simp] theorem setSlot_tamper (n : Nat) (v : Slot) : (s.setSlot n v).tamper = s.tamper := rfl
@[simp] theorem setSlot_guard (n : Nat) (v : Slot) : (s.setSlot n v).guard = s.guard := rfl
@[simp] theorem setSlot_power (n : Nat) (v : Slot) : (s.setSlot n v).power = s.power := rfl
@[simp] theorem setSlot_fault (n : Nat) (v : Slot) : (s.setSlot n v).fault = s.fault := rfl
@[simp] theorem setSlot_dev (n : Nat) (v : Slot) : (s.setSlot n v).dev = s.dev := rfl
@[simp] theorem setSlot_drawn (n : Nat) (v : Slot) : (s.setSlot n v).drawn = s.drawn := rfl
@[simp] theorem setSlot_pending (n : Nat) (v : Slot) : (s.setSlot n v).pending = s.pending := rfl
@[simp] theorem setSlot_boards_headlessEn (n : Nat) (v : Slot) : (s.setSlot n v).boards.headlessEn = s.boards.headlessEn := rfl
@[simp] theorem setSlot_boards_cardMin (n : Nat) (v : Slot) : (s.setSlot n v).boards.cardMin = s.boards.cardMin := rfl
@[simp] theorem setSlot_boards_hours (n : Nat) (v : Slot) : (s.setSlot n v).boards.hours = s.boards.hours := rfl
@[simp] theorem setSlot_boards_events (n : Nat) (v : Slot) : (s.setSlot n v).boards.events = s.boards.events := rfl
@[simp] theorem setSlot_boards_cards (n : Nat) (v : Slot) : (s.setSlot n v).boards.cards = s.boards.cards := rfl
@[simp] theorem setSlot_boards_sessions (n : Nat) (v : Slot) : (s.setSlot n v).boards.sessions = s.boards.sessions := rfl
@[simp] theorem setSlot_boards_lastSession (n : Nat) (v : Slot) : (s.setSlot n v).boards.lastSession = s.boards.lastSession := rfl
@[simp] theorem setSlot_boards_shownId (n : Nat) (v : Slot) : (s.setSlot n v).boards.shownId = s.boards.shownId := rfl
@[simp] theorem setSlot_boards_shownState (n : Nat) (v : Slot) : (s.setSlot n v).boards.shownState = s.boards.shownState := rfl
@[simp] theorem setSlot_boards_shownPart (n : Nat) (v : Slot) : (s.setSlot n v).boards.shownPart = s.boards.shownPart := rfl
@[simp] theorem setSlot_boards_shownSlot (n : Nat) (v : Slot) : (s.setSlot n v).boards.shownSlot = s.boards.shownSlot := rfl
@[simp] theorem setSlot_boards_shownPercent (n : Nat) (v : Slot) : (s.setSlot n v).boards.shownPercent = s.boards.shownPercent := rfl
@[simp] theorem setSlot_boards_abandoned (n : Nat) (v : Slot) : (s.setSlot n v).boards.abandoned = s.boards.abandoned := rfl
@[simp] theorem setSlot_boards_continued (n : Nat) (v : Slot) : (s.setSlot n v).boards.continued = s.boards.continued := rfl
@[simp] theorem setSlot_boards_hx (n : Nat) (v : Slot) : (s.setSlot n v).boards.hx = s.boards.hx := rfl
@[simp] theorem setSlot_boards_hxBefore (n : Nat) (v : Slot) : (s.setSlot n v).boards.hxBefore = s.boards.hxBefore := rfl
@[simp] theorem setSlot_boards_hxAt (n : Nat) (v : Slot) : (s.setSlot n v).boards.hxAt = s.boards.hxAt := rfl
@[simp] theorem setSlot_boards_out (n : Nat) (v : Slot) : (s.setSlot n v).boards.out = s.boards.out := rfl

/-! setCard -/

@[simp] theorem setCard_host (n : Nat) (v : Card) : (s.setCard n v).host = s.host := rfl
@[simp] theorem setCard_classes (n : Nat) (v : Card) : (s.setCard n v).classes = s.classes := rfl
@[simp] theorem setCard_tabs (n : Nat) (v : Card) : (s.setCard n v).tabs = s.tabs := rfl
@[simp] theorem setCard_ledger (n : Nat) (v : Card) : (s.setCard n v).ledger = s.ledger := rfl
@[simp] theorem setCard_units (n : Nat) (v : Card) : (s.setCard n v).units = s.units := rfl
@[simp] theorem setCard_crypto (n : Nat) (v : Card) : (s.setCard n v).crypto = s.crypto := rfl
@[simp] theorem setCard_vault (n : Nat) (v : Card) : (s.setCard n v).vault = s.vault := rfl
@[simp] theorem setCard_flash (n : Nat) (v : Card) : (s.setCard n v).flash = s.flash := rfl
@[simp] theorem setCard_ddr (n : Nat) (v : Card) : (s.setCard n v).ddr = s.ddr := rfl
@[simp] theorem setCard_tamper (n : Nat) (v : Card) : (s.setCard n v).tamper = s.tamper := rfl
@[simp] theorem setCard_guard (n : Nat) (v : Card) : (s.setCard n v).guard = s.guard := rfl
@[simp] theorem setCard_power (n : Nat) (v : Card) : (s.setCard n v).power = s.power := rfl
@[simp] theorem setCard_fault (n : Nat) (v : Card) : (s.setCard n v).fault = s.fault := rfl
@[simp] theorem setCard_dev (n : Nat) (v : Card) : (s.setCard n v).dev = s.dev := rfl
@[simp] theorem setCard_drawn (n : Nat) (v : Card) : (s.setCard n v).drawn = s.drawn := rfl
@[simp] theorem setCard_pending (n : Nat) (v : Card) : (s.setCard n v).pending = s.pending := rfl
@[simp] theorem setCard_boards_headlessEn (n : Nat) (v : Card) : (s.setCard n v).boards.headlessEn = s.boards.headlessEn := rfl
@[simp] theorem setCard_boards_cardMin (n : Nat) (v : Card) : (s.setCard n v).boards.cardMin = s.boards.cardMin := rfl
@[simp] theorem setCard_boards_hours (n : Nat) (v : Card) : (s.setCard n v).boards.hours = s.boards.hours := rfl
@[simp] theorem setCard_boards_events (n : Nat) (v : Card) : (s.setCard n v).boards.events = s.boards.events := rfl
@[simp] theorem setCard_boards_slots (n : Nat) (v : Card) : (s.setCard n v).boards.slots = s.boards.slots := rfl
@[simp] theorem setCard_boards_sessions (n : Nat) (v : Card) : (s.setCard n v).boards.sessions = s.boards.sessions := rfl
@[simp] theorem setCard_boards_lastSession (n : Nat) (v : Card) : (s.setCard n v).boards.lastSession = s.boards.lastSession := rfl
@[simp] theorem setCard_boards_shownId (n : Nat) (v : Card) : (s.setCard n v).boards.shownId = s.boards.shownId := rfl
@[simp] theorem setCard_boards_shownState (n : Nat) (v : Card) : (s.setCard n v).boards.shownState = s.boards.shownState := rfl
@[simp] theorem setCard_boards_shownPart (n : Nat) (v : Card) : (s.setCard n v).boards.shownPart = s.boards.shownPart := rfl
@[simp] theorem setCard_boards_shownSlot (n : Nat) (v : Card) : (s.setCard n v).boards.shownSlot = s.boards.shownSlot := rfl
@[simp] theorem setCard_boards_shownPercent (n : Nat) (v : Card) : (s.setCard n v).boards.shownPercent = s.boards.shownPercent := rfl
@[simp] theorem setCard_boards_abandoned (n : Nat) (v : Card) : (s.setCard n v).boards.abandoned = s.boards.abandoned := rfl
@[simp] theorem setCard_boards_continued (n : Nat) (v : Card) : (s.setCard n v).boards.continued = s.boards.continued := rfl
@[simp] theorem setCard_boards_hx (n : Nat) (v : Card) : (s.setCard n v).boards.hx = s.boards.hx := rfl
@[simp] theorem setCard_boards_hxBefore (n : Nat) (v : Card) : (s.setCard n v).boards.hxBefore = s.boards.hxBefore := rfl
@[simp] theorem setCard_boards_hxAt (n : Nat) (v : Card) : (s.setCard n v).boards.hxAt = s.boards.hxAt := rfl
@[simp] theorem setCard_boards_out (n : Nat) (v : Card) : (s.setCard n v).boards.out = s.boards.out := rfl

/-! setRowEng -/

@[simp] theorem setRowEng_host (n : Nat) (v : RowEng) : (s.setRowEng n v).host = s.host := rfl
@[simp] theorem setRowEng_classes (n : Nat) (v : RowEng) : (s.setRowEng n v).classes = s.classes := rfl
@[simp] theorem setRowEng_tabs (n : Nat) (v : RowEng) : (s.setRowEng n v).tabs = s.tabs := rfl
@[simp] theorem setRowEng_ledger (n : Nat) (v : RowEng) : (s.setRowEng n v).ledger = s.ledger := rfl
@[simp] theorem setRowEng_units (n : Nat) (v : RowEng) : (s.setRowEng n v).units = s.units := rfl
@[simp] theorem setRowEng_vault (n : Nat) (v : RowEng) : (s.setRowEng n v).vault = s.vault := rfl
@[simp] theorem setRowEng_flash (n : Nat) (v : RowEng) : (s.setRowEng n v).flash = s.flash := rfl
@[simp] theorem setRowEng_ddr (n : Nat) (v : RowEng) : (s.setRowEng n v).ddr = s.ddr := rfl
@[simp] theorem setRowEng_boards (n : Nat) (v : RowEng) : (s.setRowEng n v).boards = s.boards := rfl
@[simp] theorem setRowEng_tamper (n : Nat) (v : RowEng) : (s.setRowEng n v).tamper = s.tamper := rfl
@[simp] theorem setRowEng_guard (n : Nat) (v : RowEng) : (s.setRowEng n v).guard = s.guard := rfl
@[simp] theorem setRowEng_power (n : Nat) (v : RowEng) : (s.setRowEng n v).power = s.power := rfl
@[simp] theorem setRowEng_fault (n : Nat) (v : RowEng) : (s.setRowEng n v).fault = s.fault := rfl
@[simp] theorem setRowEng_dev (n : Nat) (v : RowEng) : (s.setRowEng n v).dev = s.dev := rfl
@[simp] theorem setRowEng_drawn (n : Nat) (v : RowEng) : (s.setRowEng n v).drawn = s.drawn := rfl
@[simp] theorem setRowEng_pending (n : Nat) (v : RowEng) : (s.setRowEng n v).pending = s.pending := rfl
@[simp] theorem setRowEng_crypto_cipherQueue (n : Nat) (v : RowEng) : (s.setRowEng n v).crypto.cipherQueue = s.crypto.cipherQueue := rfl
@[simp] theorem setRowEng_crypto_hashQueue (n : Nat) (v : RowEng) : (s.setRowEng n v).crypto.hashQueue = s.crypto.hashQueue := rfl
@[simp] theorem setRowEng_crypto_cipherDone (n : Nat) (v : RowEng) : (s.setRowEng n v).crypto.cipherDone = s.crypto.cipherDone := rfl
@[simp] theorem setRowEng_crypto_hashDone (n : Nat) (v : RowEng) : (s.setRowEng n v).crypto.hashDone = s.crypto.hashDone := rfl
@[simp] theorem setRowEng_crypto_pke (n : Nat) (v : RowEng) : (s.setRowEng n v).crypto.pke = s.crypto.pke := rfl

/-! setPke -/

@[simp] theorem setPke_host (n : Nat) (v : PkeEng) : (s.setPke n v).host = s.host := rfl
@[simp] theorem setPke_classes (n : Nat) (v : PkeEng) : (s.setPke n v).classes = s.classes := rfl
@[simp] theorem setPke_tabs (n : Nat) (v : PkeEng) : (s.setPke n v).tabs = s.tabs := rfl
@[simp] theorem setPke_ledger (n : Nat) (v : PkeEng) : (s.setPke n v).ledger = s.ledger := rfl
@[simp] theorem setPke_units (n : Nat) (v : PkeEng) : (s.setPke n v).units = s.units := rfl
@[simp] theorem setPke_vault (n : Nat) (v : PkeEng) : (s.setPke n v).vault = s.vault := rfl
@[simp] theorem setPke_flash (n : Nat) (v : PkeEng) : (s.setPke n v).flash = s.flash := rfl
@[simp] theorem setPke_ddr (n : Nat) (v : PkeEng) : (s.setPke n v).ddr = s.ddr := rfl
@[simp] theorem setPke_boards (n : Nat) (v : PkeEng) : (s.setPke n v).boards = s.boards := rfl
@[simp] theorem setPke_tamper (n : Nat) (v : PkeEng) : (s.setPke n v).tamper = s.tamper := rfl
@[simp] theorem setPke_guard (n : Nat) (v : PkeEng) : (s.setPke n v).guard = s.guard := rfl
@[simp] theorem setPke_power (n : Nat) (v : PkeEng) : (s.setPke n v).power = s.power := rfl
@[simp] theorem setPke_fault (n : Nat) (v : PkeEng) : (s.setPke n v).fault = s.fault := rfl
@[simp] theorem setPke_dev (n : Nat) (v : PkeEng) : (s.setPke n v).dev = s.dev := rfl
@[simp] theorem setPke_drawn (n : Nat) (v : PkeEng) : (s.setPke n v).drawn = s.drawn := rfl
@[simp] theorem setPke_pending (n : Nat) (v : PkeEng) : (s.setPke n v).pending = s.pending := rfl
@[simp] theorem setPke_crypto_rows (n : Nat) (v : PkeEng) : (s.setPke n v).crypto.rows = s.crypto.rows := rfl
@[simp] theorem setPke_crypto_cipherQueue (n : Nat) (v : PkeEng) : (s.setPke n v).crypto.cipherQueue = s.crypto.cipherQueue := rfl
@[simp] theorem setPke_crypto_hashQueue (n : Nat) (v : PkeEng) : (s.setPke n v).crypto.hashQueue = s.crypto.hashQueue := rfl
@[simp] theorem setPke_crypto_cipherDone (n : Nat) (v : PkeEng) : (s.setPke n v).crypto.cipherDone = s.crypto.cipherDone := rfl
@[simp] theorem setPke_crypto_hashDone (n : Nat) (v : PkeEng) : (s.setPke n v).crypto.hashDone = s.crypto.hashDone := rfl

/-! drewBytes -/

@[simp] theorem drewBytes_host (n : Nat) : (s.drewBytes n).host = s.host := rfl
@[simp] theorem drewBytes_classes (n : Nat) : (s.drewBytes n).classes = s.classes := rfl
@[simp] theorem drewBytes_tabs (n : Nat) : (s.drewBytes n).tabs = s.tabs := rfl
@[simp] theorem drewBytes_ledger (n : Nat) : (s.drewBytes n).ledger = s.ledger := rfl
@[simp] theorem drewBytes_units (n : Nat) : (s.drewBytes n).units = s.units := rfl
@[simp] theorem drewBytes_crypto (n : Nat) : (s.drewBytes n).crypto = s.crypto := rfl
@[simp] theorem drewBytes_vault (n : Nat) : (s.drewBytes n).vault = s.vault := rfl
@[simp] theorem drewBytes_flash (n : Nat) : (s.drewBytes n).flash = s.flash := rfl
@[simp] theorem drewBytes_ddr (n : Nat) : (s.drewBytes n).ddr = s.ddr := rfl
@[simp] theorem drewBytes_boards (n : Nat) : (s.drewBytes n).boards = s.boards := rfl
@[simp] theorem drewBytes_tamper (n : Nat) : (s.drewBytes n).tamper = s.tamper := rfl
@[simp] theorem drewBytes_guard (n : Nat) : (s.drewBytes n).guard = s.guard := rfl
@[simp] theorem drewBytes_power (n : Nat) : (s.drewBytes n).power = s.power := rfl
@[simp] theorem drewBytes_fault (n : Nat) : (s.drewBytes n).fault = s.fault := rfl
@[simp] theorem drewBytes_dev (n : Nat) : (s.drewBytes n).dev = s.dev := rfl
@[simp] theorem drewBytes_drawn (n : Nat) : (s.drewBytes n).drawn = s.drawn + n := rfl
@[simp] theorem drewBytes_pending (n : Nat) : (s.drewBytes n).pending = s.pending := rfl

/-! reach -/

@[simp] theorem reach_host (n : Nat) : (s.reach n).host = s.host := rfl
@[simp] theorem reach_classes (n : Nat) : (s.reach n).classes = s.classes := rfl
@[simp] theorem reach_tabs (n : Nat) : (s.reach n).tabs = s.tabs := rfl
@[simp] theorem reach_units (n : Nat) : (s.reach n).units = s.units := rfl
@[simp] theorem reach_crypto (n : Nat) : (s.reach n).crypto = s.crypto := rfl
@[simp] theorem reach_vault (n : Nat) : (s.reach n).vault = s.vault := rfl
@[simp] theorem reach_flash (n : Nat) : (s.reach n).flash = s.flash := rfl
@[simp] theorem reach_ddr (n : Nat) : (s.reach n).ddr = s.ddr := rfl
@[simp] theorem reach_boards (n : Nat) : (s.reach n).boards = s.boards := rfl
@[simp] theorem reach_tamper (n : Nat) : (s.reach n).tamper = s.tamper := rfl
@[simp] theorem reach_guard (n : Nat) : (s.reach n).guard = s.guard := rfl
@[simp] theorem reach_power (n : Nat) : (s.reach n).power = s.power := rfl
@[simp] theorem reach_fault (n : Nat) : (s.reach n).fault = s.fault := rfl
@[simp] theorem reach_dev (n : Nat) : (s.reach n).dev = s.dev := rfl
@[simp] theorem reach_drawn (n : Nat) : (s.reach n).drawn = s.drawn := rfl
@[simp] theorem reach_pending (n : Nat) : (s.reach n).pending = s.pending := rfl
@[simp] theorem reach_ledger_periodMs (n : Nat) : (s.reach n).ledger.periodMs = s.ledger.periodMs := rfl
@[simp] theorem reach_ledger_periodInForce (n : Nat) : (s.reach n).ledger.periodInForce = s.ledger.periodInForce := rfl
@[simp] theorem reach_ledger_uncertain (n : Nat) : (s.reach n).ledger.uncertain = s.ledger.uncertain := rfl
@[simp] theorem reach_ledger_slewShift (n : Nat) : (s.reach n).ledger.slewShift = s.ledger.slewShift := rfl
@[simp] theorem reach_ledger_slewMaxMs (n : Nat) : (s.reach n).ledger.slewMaxMs = s.ledger.slewMaxMs := rfl
@[simp] theorem reach_ledger_unsignedMs (n : Nat) : (s.reach n).ledger.unsignedMs = s.ledger.unsignedMs := rfl
@[simp] theorem reach_ledger_applied (n : Nat) : (s.reach n).ledger.applied = s.ledger.applied := rfl
@[simp] theorem reach_ledger_slewRemain (n : Nat) : (s.reach n).ledger.slewRemain = s.ledger.slewRemain := rfl
@[simp] theorem reach_ledger_slewLast (n : Nat) : (s.reach n).ledger.slewLast = s.ledger.slewLast := rfl
@[simp] theorem reach_ledger_stepPending (n : Nat) : (s.reach n).ledger.stepPending = s.ledger.stepPending := rfl
@[simp] theorem reach_ledger_running (n : Nat) : (s.reach n).ledger.running = s.ledger.running := rfl
@[simp] theorem reach_ledger_current (n : Nat) : (s.reach n).ledger.current = s.ledger.current := rfl
@[simp] theorem reach_ledger_sealedTick (n : Nat) : (s.reach n).ledger.sealedTick = s.ledger.sealedTick := rfl
@[simp] theorem reach_ledger_durableTick (n : Nat) : (s.reach n).ledger.durableTick = s.ledger.durableTick := rfl
@[simp] theorem reach_ledger_nextBoundary (n : Nat) : (s.reach n).ledger.nextBoundary = s.ledger.nextBoundary := rfl
@[simp] theorem reach_ledger_began (n : Nat) : (s.reach n).ledger.began = s.ledger.began := rfl
@[simp] theorem reach_ledger_events (n : Nat) : (s.reach n).ledger.events = s.ledger.events := rfl
@[simp] theorem reach_ledger_restart (n : Nat) : (s.reach n).ledger.restart = s.ledger.restart := rfl
@[simp] theorem reach_ledger_boundaryHeld (n : Nat) : (s.reach n).ledger.boundaryHeld = s.ledger.boundaryHeld := rfl
@[simp] theorem reach_ledger_builds (n : Nat) : (s.reach n).ledger.builds = s.ledger.builds := rfl
@[simp] theorem reach_ledger_records (n : Nat) : (s.reach n).ledger.records = s.ledger.records := rfl
@[simp] theorem reach_ledger_journal (n : Nat) : (s.reach n).ledger.journal = s.ledger.journal := rfl
@[simp] theorem reach_ledger_signerDue (n : Nat) : (s.reach n).ledger.signerDue = s.ledger.signerDue := rfl

/-! setPort -/

@[simp] theorem setPort_classes (p : Nat) (v : Port) : (s.setPort p v).classes = s.classes := by unfold State.setPort; split <;> rfl
@[simp] theorem setPort_tabs (p : Nat) (v : Port) : (s.setPort p v).tabs = s.tabs := by unfold State.setPort; split <;> rfl
@[simp] theorem setPort_ledger (p : Nat) (v : Port) : (s.setPort p v).ledger = s.ledger := by unfold State.setPort; split <;> rfl
@[simp] theorem setPort_units (p : Nat) (v : Port) : (s.setPort p v).units = s.units := by unfold State.setPort; split <;> rfl
@[simp] theorem setPort_crypto (p : Nat) (v : Port) : (s.setPort p v).crypto = s.crypto := by unfold State.setPort; split <;> rfl
@[simp] theorem setPort_vault (p : Nat) (v : Port) : (s.setPort p v).vault = s.vault := by unfold State.setPort; split <;> rfl
@[simp] theorem setPort_flash (p : Nat) (v : Port) : (s.setPort p v).flash = s.flash := by unfold State.setPort; split <;> rfl
@[simp] theorem setPort_ddr (p : Nat) (v : Port) : (s.setPort p v).ddr = s.ddr := by unfold State.setPort; split <;> rfl
@[simp] theorem setPort_boards (p : Nat) (v : Port) : (s.setPort p v).boards = s.boards := by unfold State.setPort; split <;> rfl
@[simp] theorem setPort_tamper (p : Nat) (v : Port) : (s.setPort p v).tamper = s.tamper := by unfold State.setPort; split <;> rfl
@[simp] theorem setPort_guard (p : Nat) (v : Port) : (s.setPort p v).guard = s.guard := by unfold State.setPort; split <;> rfl
@[simp] theorem setPort_power (p : Nat) (v : Port) : (s.setPort p v).power = s.power := by unfold State.setPort; split <;> rfl
@[simp] theorem setPort_fault (p : Nat) (v : Port) : (s.setPort p v).fault = s.fault := by unfold State.setPort; split <;> rfl
@[simp] theorem setPort_dev (p : Nat) (v : Port) : (s.setPort p v).dev = s.dev := by unfold State.setPort; split <;> rfl
@[simp] theorem setPort_drawn (p : Nat) (v : Port) : (s.setPort p v).drawn = s.drawn := by unfold State.setPort; split <;> rfl
@[simp] theorem setPort_pending (p : Nat) (v : Port) : (s.setPort p v).pending = s.pending := by unfold State.setPort; split <;> rfl
@[simp] theorem setPort_host_twoPorts (p : Nat) (v : Port) : (s.setPort p v).host.twoPorts = s.host.twoPorts := by unfold State.setPort; split <;> rfl
@[simp] theorem setPort_host_rings (p : Nat) (v : Port) : (s.setPort p v).host.rings = s.host.rings := by unfold State.setPort; split <;> rfl
@[simp] theorem setPort_host_tickets (p : Nat) (v : Port) : (s.setPort p v).host.tickets = s.host.tickets := by unfold State.setPort; split <;> rfl
@[simp] theorem setPort_host_nextId (p : Nat) (v : Port) : (s.setPort p v).host.nextId = s.host.nextId := by unfold State.setPort; split <;> rfl
@[simp] theorem setPort_host_out (p : Nat) (v : Port) : (s.setPort p v).host.out = s.host.out := by unfold State.setPort; split <;> rfl
@[simp] theorem setPort_host_wmtMarked (p : Nat) (v : Port) : (s.setPort p v).host.wmtMarked = s.host.wmtMarked := by unfold State.setPort; split <;> rfl
@[simp] theorem setPort_host_wmtLast (p : Nat) (v : Port) : (s.setPort p v).host.wmtLast = s.host.wmtLast := by unfold State.setPort; split <;> rfl
@[simp] theorem setPort_port (p : Nat) (v : Port) : (s.setPort p v).port p = v := by unfold State.setPort State.port; split <;> simp_all
theorem setPort_port_other (p q : Nat) (v : Port) (hp : p < 2) (hq : q < 2) (h : q ≠ p) : (s.setPort p v).port q = s.port q := by
  unfold State.setPort State.port; split <;> split <;> (simp_all; try omega)

/-! Reading a store after a write. -/

theorem setRing_ring_same (n : Nat) (v : Ring) (h : s.host.rings.wf Ring.reset = true) : (s.setRing n v).ring n = v := get_set_same Ring.reset s.host.rings n v (wf_sorted h)
theorem setRing_ring_other (n m : Nat) (v : Ring) (h : m ≠ n) (hw : s.host.rings.wf Ring.reset = true) : (s.setRing n v).ring m = s.ring m := get_set_other Ring.reset s.host.rings n m v (wf_sorted hw) h
theorem setRing_canonical (n : Nat) (v : Ring) (h : s.host.rings.wf Ring.reset = true) : (s.setRing n v).host.rings.wf Ring.reset = true := set_wf Ring.reset s.host.rings n v h

theorem setTab_tab_same (n : Nat) (v : Tab) (h : s.tabs.ctx.wf Tab.closed = true) : (s.setTab n v).tab n = v := get_set_same Tab.closed s.tabs.ctx n v (wf_sorted h)
theorem setTab_tab_other (n m : Nat) (v : Tab) (h : m ≠ n) (hw : s.tabs.ctx.wf Tab.closed = true) : (s.setTab n v).tab m = s.tab m := get_set_other Tab.closed s.tabs.ctx n m v (wf_sorted hw) h
theorem setTab_canonical (n : Nat) (v : Tab) (h : s.tabs.ctx.wf Tab.closed = true) : (s.setTab n v).tabs.ctx.wf Tab.closed = true := set_wf Tab.closed s.tabs.ctx n v h

theorem setUnit_unitSt_same (n : Nat) (v : UnitSt) (h : s.units.st.wf UnitSt.reset = true) : (s.setUnit n v).unitSt n = v := get_set_same UnitSt.reset s.units.st n v (wf_sorted h)
theorem setUnit_unitSt_other (n m : Nat) (v : UnitSt) (h : m ≠ n) (hw : s.units.st.wf UnitSt.reset = true) : (s.setUnit n v).unitSt m = s.unitSt m := get_set_other UnitSt.reset s.units.st n m v (wf_sorted hw) h
theorem setUnit_canonical (n : Nat) (v : UnitSt) (h : s.units.st.wf UnitSt.reset = true) : (s.setUnit n v).units.st.wf UnitSt.reset = true := set_wf UnitSt.reset s.units.st n v h

theorem setSpareFor_spareFor_same (n : Nat) (v : Nat) (h : s.units.spareFor.wf noSpare = true) : (s.setSpareFor n v).spareFor n = v := get_set_same noSpare s.units.spareFor n v (wf_sorted h)
theorem setSpareFor_spareFor_other (n m : Nat) (v : Nat) (h : m ≠ n) (hw : s.units.spareFor.wf noSpare = true) : (s.setSpareFor n v).spareFor m = s.spareFor m := get_set_other noSpare s.units.spareFor n m v (wf_sorted hw) h
theorem setSpareFor_canonical (n : Nat) (v : Nat) (h : s.units.spareFor.wf noSpare = true) : (s.setSpareFor n v).units.spareFor.wf noSpare = true := set_wf noSpare s.units.spareFor n v h

theorem setSrc_src_same (n : Nat) (v : Src) (h : s.tamper.srcs.wf Src.at_ = true) : (s.setSrc n v).src n = v := get_set_same Src.at_ s.tamper.srcs n v (wf_sorted h)
theorem setSrc_src_other (n m : Nat) (v : Src) (h : m ≠ n) (hw : s.tamper.srcs.wf Src.at_ = true) : (s.setSrc n v).src m = s.src m := get_set_other Src.at_ s.tamper.srcs n m v (wf_sorted hw) h
theorem setSrc_canonical (n : Nat) (v : Src) (h : s.tamper.srcs.wf Src.at_ = true) : (s.setSrc n v).tamper.srcs.wf Src.at_ = true := set_wf Src.at_ s.tamper.srcs n v h

theorem setChan_chan_same (n : Nat) (v : Chan) (h : s.flash.chans.wf noChan = true) : (s.setChan n v).chan n = v := get_set_same noChan s.flash.chans n v (wf_sorted h)
theorem setChan_chan_other (n m : Nat) (v : Chan) (h : m ≠ n) (hw : s.flash.chans.wf noChan = true) : (s.setChan n v).chan m = s.chan m := get_set_other noChan s.flash.chans n m v (wf_sorted hw) h
theorem setChan_canonical (n : Nat) (v : Chan) (h : s.flash.chans.wf noChan = true) : (s.setChan n v).flash.chans.wf noChan = true := set_wf noChan s.flash.chans n v h

theorem setTarget_target_same (n : Nat) (v : Target) (h : s.flash.targets.wf noTarget = true) : (s.setTarget n v).target n = v := get_set_same noTarget s.flash.targets n v (wf_sorted h)
theorem setTarget_target_other (n m : Nat) (v : Target) (h : m ≠ n) (hw : s.flash.targets.wf noTarget = true) : (s.setTarget n v).target m = s.target m := get_set_other noTarget s.flash.targets n m v (wf_sorted hw) h
theorem setTarget_canonical (n : Nat) (v : Target) (h : s.flash.targets.wf noTarget = true) : (s.setTarget n v).flash.targets.wf noTarget = true := set_wf noTarget s.flash.targets n v h

theorem setDdrChan_ddrChan_same (n : Nat) (v : DdrChan) (h : s.ddr.chans.wf noDdrChan = true) : (s.setDdrChan n v).ddrChan n = v := get_set_same noDdrChan s.ddr.chans n v (wf_sorted h)
theorem setDdrChan_ddrChan_other (n m : Nat) (v : DdrChan) (h : m ≠ n) (hw : s.ddr.chans.wf noDdrChan = true) : (s.setDdrChan n v).ddrChan m = s.ddrChan m := get_set_other noDdrChan s.ddr.chans n m v (wf_sorted hw) h
theorem setDdrChan_canonical (n : Nat) (v : DdrChan) (h : s.ddr.chans.wf noDdrChan = true) : (s.setDdrChan n v).ddr.chans.wf noDdrChan = true := set_wf noDdrChan s.ddr.chans n v h

theorem setSlot_slot_same (n : Nat) (v : Slot) (h : s.boards.slots.wf noSlot = true) : (s.setSlot n v).slot n = v := get_set_same noSlot s.boards.slots n v (wf_sorted h)
theorem setSlot_slot_other (n m : Nat) (v : Slot) (h : m ≠ n) (hw : s.boards.slots.wf noSlot = true) : (s.setSlot n v).slot m = s.slot m := get_set_other noSlot s.boards.slots n m v (wf_sorted hw) h
theorem setSlot_canonical (n : Nat) (v : Slot) (h : s.boards.slots.wf noSlot = true) : (s.setSlot n v).boards.slots.wf noSlot = true := set_wf noSlot s.boards.slots n v h

theorem setCard_card_same (n : Nat) (v : Card) (h : s.boards.cards.wf noCard = true) : (s.setCard n v).card n = v := get_set_same noCard s.boards.cards n v (wf_sorted h)
theorem setCard_card_other (n m : Nat) (v : Card) (h : m ≠ n) (hw : s.boards.cards.wf noCard = true) : (s.setCard n v).card m = s.card m := get_set_other noCard s.boards.cards n m v (wf_sorted hw) h
theorem setCard_canonical (n : Nat) (v : Card) (h : s.boards.cards.wf noCard = true) : (s.setCard n v).boards.cards.wf noCard = true := set_wf noCard s.boards.cards n v h

theorem setRowEng_rowEng_same (n : Nat) (v : RowEng) (h : s.crypto.rows.wf noRow = true) : (s.setRowEng n v).rowEng n = v := get_set_same noRow s.crypto.rows n v (wf_sorted h)
theorem setRowEng_rowEng_other (n m : Nat) (v : RowEng) (h : m ≠ n) (hw : s.crypto.rows.wf noRow = true) : (s.setRowEng n v).rowEng m = s.rowEng m := get_set_other noRow s.crypto.rows n m v (wf_sorted hw) h
theorem setRowEng_canonical (n : Nat) (v : RowEng) (h : s.crypto.rows.wf noRow = true) : (s.setRowEng n v).crypto.rows.wf noRow = true := set_wf noRow s.crypto.rows n v h

theorem setPke_pke_same (n : Nat) (v : PkeEng) (h : s.crypto.pke.engines.wf noPke = true) : (s.setPke n v).pke n = v := get_set_same noPke s.crypto.pke.engines n v (wf_sorted h)
theorem setPke_pke_other (n m : Nat) (v : PkeEng) (h : m ≠ n) (hw : s.crypto.pke.engines.wf noPke = true) : (s.setPke n v).pke m = s.pke m := get_set_other noPke s.crypto.pke.engines n m v (wf_sorted hw) h
theorem setPke_canonical (n : Nat) (v : PkeEng) (h : s.crypto.pke.engines.wf noPke = true) : (s.setPke n v).crypto.pke.engines.wf noPke = true := set_wf noPke s.crypto.pke.engines n v h

/-- Every sparse store of the reset state is empty, so in its canonical form. -/
theorem reset_stores : State.reset.host.rings = [] ∧ State.reset.tabs.ctx = [] ∧ State.reset.tabs.templates = [] ∧ State.reset.flash.targets = [] ∧ State.reset.boards.slots = [] := ⟨rfl, rfl, rfl, rfl, rfl⟩

end Sys2Proof.Laws
end

