-- ==== Sys2Proof/Laws/Signals.lean ====
section
/-! SUPPORT. What a message, an event and a log entry can change: one lemma for each function, and the fields that stay. -/

namespace Sys2Proof.Laws

open Sys2Proof.Machine

variable (s : State)

/-- The messages alone differ: what has been written to the host, and the messages held, merged and sent last. -/
def MessagesOnly (s t : State) : Prop :=
  t = { s with host := { s.host with out := t.host.out }, dev := { s.dev with heldMsg := t.dev.heldMsg, merged := t.dev.merged, lastMsg := t.dev.lastMsg } }

theorem sendIntr_says (c : Nat) : MessagesOnly s (s.sendIntr c) := by
  unfold MessagesOnly State.sendIntr State.emit
  split
  · rfl
  · dsimp only
    split
    · rfl
    · split <;> rfl

theorem signal_says (c : Nat) : MessagesOnly s (s.signal c) := by
  unfold State.signal
  split
  · exact sendIntr_says s c
  · rfl

/-! sendIntr -/

@[simp] theorem sendIntr_classes (c : Nat) : (s.sendIntr c).classes = s.classes := by rw [sendIntr_says s c]
@[simp] theorem sendIntr_tabs (c : Nat) : (s.sendIntr c).tabs = s.tabs := by rw [sendIntr_says s c]
@[simp] theorem sendIntr_ledger (c : Nat) : (s.sendIntr c).ledger = s.ledger := by rw [sendIntr_says s c]
@[simp] theorem sendIntr_units (c : Nat) : (s.sendIntr c).units = s.units := by rw [sendIntr_says s c]
@[simp] theorem sendIntr_crypto (c : Nat) : (s.sendIntr c).crypto = s.crypto := by rw [sendIntr_says s c]
@[simp] theorem sendIntr_vault (c : Nat) : (s.sendIntr c).vault = s.vault := by rw [sendIntr_says s c]
@[simp] theorem sendIntr_flash (c : Nat) : (s.sendIntr c).flash = s.flash := by rw [sendIntr_says s c]
@[simp] theorem sendIntr_ddr (c : Nat) : (s.sendIntr c).ddr = s.ddr := by rw [sendIntr_says s c]
@[simp] theorem sendIntr_boards (c : Nat) : (s.sendIntr c).boards = s.boards := by rw [sendIntr_says s c]
@[simp] theorem sendIntr_tamper (c : Nat) : (s.sendIntr c).tamper = s.tamper := by rw [sendIntr_says s c]
@[simp] theorem sendIntr_guard (c : Nat) : (s.sendIntr c).guard = s.guard := by rw [sendIntr_says s c]
@[simp] theorem sendIntr_power (c : Nat) : (s.sendIntr c).power = s.power := by rw [sendIntr_says s c]
@[simp] theorem sendIntr_fault (c : Nat) : (s.sendIntr c).fault = s.fault := by rw [sendIntr_says s c]
@[simp] theorem sendIntr_drawn (c : Nat) : (s.sendIntr c).drawn = s.drawn := by rw [sendIntr_says s c]
@[simp] theorem sendIntr_pending (c : Nat) : (s.sendIntr c).pending = s.pending := by rw [sendIntr_says s c]
@[simp] theorem sendIntr_host_twoPorts (c : Nat) : (s.sendIntr c).host.twoPorts = s.host.twoPorts := by rw [sendIntr_says s c]
@[simp] theorem sendIntr_host_rings (c : Nat) : (s.sendIntr c).host.rings = s.host.rings := by rw [sendIntr_says s c]
@[simp] theorem sendIntr_host_port0 (c : Nat) : (s.sendIntr c).host.port0 = s.host.port0 := by rw [sendIntr_says s c]
@[simp] theorem sendIntr_host_port1 (c : Nat) : (s.sendIntr c).host.port1 = s.host.port1 := by rw [sendIntr_says s c]
@[simp] theorem sendIntr_host_tickets (c : Nat) : (s.sendIntr c).host.tickets = s.host.tickets := by rw [sendIntr_says s c]
@[simp] theorem sendIntr_host_nextId (c : Nat) : (s.sendIntr c).host.nextId = s.host.nextId := by rw [sendIntr_says s c]
@[simp] theorem sendIntr_host_wmtMarked (c : Nat) : (s.sendIntr c).host.wmtMarked = s.host.wmtMarked := by rw [sendIntr_says s c]
@[simp] theorem sendIntr_host_wmtLast (c : Nat) : (s.sendIntr c).host.wmtLast = s.host.wmtLast := by rw [sendIntr_says s c]
@[simp] theorem sendIntr_dev_ready (c : Nat) : (s.sendIntr c).dev.ready = s.dev.ready := by rw [sendIntr_says s c]
@[simp] theorem sendIntr_dev_stage (c : Nat) : (s.sendIntr c).dev.stage = s.dev.stage := by rw [sendIntr_says s c]
@[simp] theorem sendIntr_dev_holdCause (c : Nat) : (s.sendIntr c).dev.holdCause = s.dev.holdCause := by rw [sendIntr_says s c]
@[simp] theorem sendIntr_dev_holdDetail (c : Nat) : (s.sendIntr c).dev.holdDetail = s.dev.holdDetail := by rw [sendIntr_says s c]
@[simp] theorem sendIntr_dev_appletsDropped (c : Nat) : (s.sendIntr c).dev.appletsDropped = s.dev.appletsDropped := by rw [sendIntr_says s c]
@[simp] theorem sendIntr_dev_templatesDropped (c : Nat) : (s.sendIntr c).dev.templatesDropped = s.dev.templatesDropped := by rw [sendIntr_says s c]
@[simp] theorem sendIntr_dev_events (c : Nat) : (s.sendIntr c).dev.events = s.dev.events := by rw [sendIntr_says s c]
@[simp] theorem sendIntr_dev_enable (c : Nat) : (s.sendIntr c).dev.enable = s.dev.enable := by rw [sendIntr_says s c]
@[simp] theorem sendIntr_dev_vectors (c : Nat) : (s.sendIntr c).dev.vectors = s.dev.vectors := by rw [sendIntr_says s c]
@[simp] theorem sendIntr_dev_heldLow (c : Nat) : (s.sendIntr c).dev.heldLow = s.dev.heldLow := by rw [sendIntr_says s c]
@[simp] theorem sendIntr_dev_latchedHigh (c : Nat) : (s.sendIntr c).dev.latchedHigh = s.dev.latchedHigh := by rw [sendIntr_says s c]
@[simp] theorem sendIntr_dev_readData (c : Nat) : (s.sendIntr c).dev.readData = s.dev.readData := by rw [sendIntr_says s c]

/-! signal -/

@[simp] theorem signal_classes (c : Nat) : (s.signal c).classes = s.classes := by rw [signal_says s c]
@[simp] theorem signal_tabs (c : Nat) : (s.signal c).tabs = s.tabs := by rw [signal_says s c]
@[simp] theorem signal_ledger (c : Nat) : (s.signal c).ledger = s.ledger := by rw [signal_says s c]
@[simp] theorem signal_units (c : Nat) : (s.signal c).units = s.units := by rw [signal_says s c]
@[simp] theorem signal_crypto (c : Nat) : (s.signal c).crypto = s.crypto := by rw [signal_says s c]
@[simp] theorem signal_vault (c : Nat) : (s.signal c).vault = s.vault := by rw [signal_says s c]
@[simp] theorem signal_flash (c : Nat) : (s.signal c).flash = s.flash := by rw [signal_says s c]
@[simp] theorem signal_ddr (c : Nat) : (s.signal c).ddr = s.ddr := by rw [signal_says s c]
@[simp] theorem signal_boards (c : Nat) : (s.signal c).boards = s.boards := by rw [signal_says s c]
@[simp] theorem signal_tamper (c : Nat) : (s.signal c).tamper = s.tamper := by rw [signal_says s c]
@[simp] theorem signal_guard (c : Nat) : (s.signal c).guard = s.guard := by rw [signal_says s c]
@[simp] theorem signal_power (c : Nat) : (s.signal c).power = s.power := by rw [signal_says s c]
@[simp] theorem signal_fault (c : Nat) : (s.signal c).fault = s.fault := by rw [signal_says s c]
@[simp] theorem signal_drawn (c : Nat) : (s.signal c).drawn = s.drawn := by rw [signal_says s c]
@[simp] theorem signal_pending (c : Nat) : (s.signal c).pending = s.pending := by rw [signal_says s c]
@[simp] theorem signal_host_twoPorts (c : Nat) : (s.signal c).host.twoPorts = s.host.twoPorts := by rw [signal_says s c]
@[simp] theorem signal_host_rings (c : Nat) : (s.signal c).host.rings = s.host.rings := by rw [signal_says s c]
@[simp] theorem signal_host_port0 (c : Nat) : (s.signal c).host.port0 = s.host.port0 := by rw [signal_says s c]
@[simp] theorem signal_host_port1 (c : Nat) : (s.signal c).host.port1 = s.host.port1 := by rw [signal_says s c]
@[simp] theorem signal_host_tickets (c : Nat) : (s.signal c).host.tickets = s.host.tickets := by rw [signal_says s c]
@[simp] theorem signal_host_nextId (c : Nat) : (s.signal c).host.nextId = s.host.nextId := by rw [signal_says s c]
@[simp] theorem signal_host_wmtMarked (c : Nat) : (s.signal c).host.wmtMarked = s.host.wmtMarked := by rw [signal_says s c]
@[simp] theorem signal_host_wmtLast (c : Nat) : (s.signal c).host.wmtLast = s.host.wmtLast := by rw [signal_says s c]
@[simp] theorem signal_dev_ready (c : Nat) : (s.signal c).dev.ready = s.dev.ready := by rw [signal_says s c]
@[simp] theorem signal_dev_stage (c : Nat) : (s.signal c).dev.stage = s.dev.stage := by rw [signal_says s c]
@[simp] theorem signal_dev_holdCause (c : Nat) : (s.signal c).dev.holdCause = s.dev.holdCause := by rw [signal_says s c]
@[simp] theorem signal_dev_holdDetail (c : Nat) : (s.signal c).dev.holdDetail = s.dev.holdDetail := by rw [signal_says s c]
@[simp] theorem signal_dev_appletsDropped (c : Nat) : (s.signal c).dev.appletsDropped = s.dev.appletsDropped := by rw [signal_says s c]
@[simp] theorem signal_dev_templatesDropped (c : Nat) : (s.signal c).dev.templatesDropped = s.dev.templatesDropped := by rw [signal_says s c]
@[simp] theorem signal_dev_events (c : Nat) : (s.signal c).dev.events = s.dev.events := by rw [signal_says s c]
@[simp] theorem signal_dev_enable (c : Nat) : (s.signal c).dev.enable = s.dev.enable := by rw [signal_says s c]
@[simp] theorem signal_dev_vectors (c : Nat) : (s.signal c).dev.vectors = s.dev.vectors := by rw [signal_says s c]
@[simp] theorem signal_dev_heldLow (c : Nat) : (s.signal c).dev.heldLow = s.dev.heldLow := by rw [signal_says s c]
@[simp] theorem signal_dev_latchedHigh (c : Nat) : (s.signal c).dev.latchedHigh = s.dev.latchedHigh := by rw [signal_says s c]
@[simp] theorem signal_dev_readData (c : Nat) : (s.signal c).dev.readData = s.dev.readData := by rw [signal_says s c]

/-! devEvent -/

@[simp] theorem devEvent_classes (b : Nat) : (s.devEvent b).classes = s.classes := by
  unfold State.devEvent; split <;> simp
@[simp] theorem devEvent_tabs (b : Nat) : (s.devEvent b).tabs = s.tabs := by
  unfold State.devEvent; split <;> simp
@[simp] theorem devEvent_ledger (b : Nat) : (s.devEvent b).ledger = s.ledger := by
  unfold State.devEvent; split <;> simp
@[simp] theorem devEvent_units (b : Nat) : (s.devEvent b).units = s.units := by
  unfold State.devEvent; split <;> simp
@[simp] theorem devEvent_crypto (b : Nat) : (s.devEvent b).crypto = s.crypto := by
  unfold State.devEvent; split <;> simp
@[simp] theorem devEvent_vault (b : Nat) : (s.devEvent b).vault = s.vault := by
  unfold State.devEvent; split <;> simp
@[simp] theorem devEvent_flash (b : Nat) : (s.devEvent b).flash = s.flash := by
  unfold State.devEvent; split <;> simp
@[simp] theorem devEvent_ddr (b : Nat) : (s.devEvent b).ddr = s.ddr := by
  unfold State.devEvent; split <;> simp
@[simp] theorem devEvent_boards (b : Nat) : (s.devEvent b).boards = s.boards := by
  unfold State.devEvent; split <;> simp
@[simp] theorem devEvent_tamper (b : Nat) : (s.devEvent b).tamper = s.tamper := by
  unfold State.devEvent; split <;> simp
@[simp] theorem devEvent_guard (b : Nat) : (s.devEvent b).guard = s.guard := by
  unfold State.devEvent; split <;> simp
@[simp] theorem devEvent_power (b : Nat) : (s.devEvent b).power = s.power := by
  unfold State.devEvent; split <;> simp
@[simp] theorem devEvent_fault (b : Nat) : (s.devEvent b).fault = s.fault := by
  unfold State.devEvent; split <;> simp
@[simp] theorem devEvent_drawn (b : Nat) : (s.devEvent b).drawn = s.drawn := by
  unfold State.devEvent; split <;> simp
@[simp] theorem devEvent_pending (b : Nat) : (s.devEvent b).pending = s.pending := by
  unfold State.devEvent; split <;> simp
@[simp] theorem devEvent_host_twoPorts (b : Nat) : (s.devEvent b).host.twoPorts = s.host.twoPorts := by
  unfold State.devEvent; split <;> simp
@[simp] theorem devEvent_host_rings (b : Nat) : (s.devEvent b).host.rings = s.host.rings := by
  unfold State.devEvent; split <;> simp
@[simp] theorem devEvent_host_port0 (b : Nat) : (s.devEvent b).host.port0 = s.host.port0 := by
  unfold State.devEvent; split <;> simp
@[simp] theorem devEvent_host_port1 (b : Nat) : (s.devEvent b).host.port1 = s.host.port1 := by
  unfold State.devEvent; split <;> simp
@[simp] theorem devEvent_host_tickets (b : Nat) : (s.devEvent b).host.tickets = s.host.tickets := by
  unfold State.devEvent; split <;> simp
@[simp] theorem devEvent_host_nextId (b : Nat) : (s.devEvent b).host.nextId = s.host.nextId := by
  unfold State.devEvent; split <;> simp
@[simp] theorem devEvent_host_wmtMarked (b : Nat) : (s.devEvent b).host.wmtMarked = s.host.wmtMarked := by
  unfold State.devEvent; split <;> simp
@[simp] theorem devEvent_host_wmtLast (b : Nat) : (s.devEvent b).host.wmtLast = s.host.wmtLast := by
  unfold State.devEvent; split <;> simp
@[simp] theorem devEvent_dev_ready (b : Nat) : (s.devEvent b).dev.ready = s.dev.ready := by
  unfold State.devEvent; split <;> simp
@[simp] theorem devEvent_dev_stage (b : Nat) : (s.devEvent b).dev.stage = s.dev.stage := by
  unfold State.devEvent; split <;> simp
@[simp] theorem devEvent_dev_holdCause (b : Nat) : (s.devEvent b).dev.holdCause = s.dev.holdCause := by
  unfold State.devEvent; split <;> simp
@[simp] theorem devEvent_dev_holdDetail (b : Nat) : (s.devEvent b).dev.holdDetail = s.dev.holdDetail := by
  unfold State.devEvent; split <;> simp
@[simp] theorem devEvent_dev_appletsDropped (b : Nat) : (s.devEvent b).dev.appletsDropped = s.dev.appletsDropped := by
  unfold State.devEvent; split <;> simp
@[simp] theorem devEvent_dev_templatesDropped (b : Nat) : (s.devEvent b).dev.templatesDropped = s.dev.templatesDropped := by
  unfold State.devEvent; split <;> simp
@[simp] theorem devEvent_dev_enable (b : Nat) : (s.devEvent b).dev.enable = s.dev.enable := by
  unfold State.devEvent; split <;> simp
@[simp] theorem devEvent_dev_vectors (b : Nat) : (s.devEvent b).dev.vectors = s.dev.vectors := by
  unfold State.devEvent; split <;> simp
@[simp] theorem devEvent_dev_heldLow (b : Nat) : (s.devEvent b).dev.heldLow = s.dev.heldLow := by
  unfold State.devEvent; split <;> simp
@[simp] theorem devEvent_dev_latchedHigh (b : Nat) : (s.devEvent b).dev.latchedHigh = s.dev.latchedHigh := by
  unfold State.devEvent; split <;> simp
@[simp] theorem devEvent_dev_readData (b : Nat) : (s.devEvent b).dev.readData = s.dev.readData := by
  unfold State.devEvent; split <;> simp

/-! cartEvent -/

@[simp] theorem cartEvent_classes (b : Nat) : (s.cartEvent b).classes = s.classes := by
  unfold State.cartEvent; split <;> simp
@[simp] theorem cartEvent_tabs (b : Nat) : (s.cartEvent b).tabs = s.tabs := by
  unfold State.cartEvent; split <;> simp
@[simp] theorem cartEvent_ledger (b : Nat) : (s.cartEvent b).ledger = s.ledger := by
  unfold State.cartEvent; split <;> simp
@[simp] theorem cartEvent_units (b : Nat) : (s.cartEvent b).units = s.units := by
  unfold State.cartEvent; split <;> simp
@[simp] theorem cartEvent_crypto (b : Nat) : (s.cartEvent b).crypto = s.crypto := by
  unfold State.cartEvent; split <;> simp
@[simp] theorem cartEvent_vault (b : Nat) : (s.cartEvent b).vault = s.vault := by
  unfold State.cartEvent; split <;> simp
@[simp] theorem cartEvent_flash (b : Nat) : (s.cartEvent b).flash = s.flash := by
  unfold State.cartEvent; split <;> simp
@[simp] theorem cartEvent_ddr (b : Nat) : (s.cartEvent b).ddr = s.ddr := by
  unfold State.cartEvent; split <;> simp
@[simp] theorem cartEvent_tamper (b : Nat) : (s.cartEvent b).tamper = s.tamper := by
  unfold State.cartEvent; split <;> simp
@[simp] theorem cartEvent_guard (b : Nat) : (s.cartEvent b).guard = s.guard := by
  unfold State.cartEvent; split <;> simp
@[simp] theorem cartEvent_power (b : Nat) : (s.cartEvent b).power = s.power := by
  unfold State.cartEvent; split <;> simp
@[simp] theorem cartEvent_fault (b : Nat) : (s.cartEvent b).fault = s.fault := by
  unfold State.cartEvent; split <;> simp
@[simp] theorem cartEvent_drawn (b : Nat) : (s.cartEvent b).drawn = s.drawn := by
  unfold State.cartEvent; split <;> simp
@[simp] theorem cartEvent_pending (b : Nat) : (s.cartEvent b).pending = s.pending := by
  unfold State.cartEvent; split <;> simp
@[simp] theorem cartEvent_host_twoPorts (b : Nat) : (s.cartEvent b).host.twoPorts = s.host.twoPorts := by
  unfold State.cartEvent; split <;> simp
@[simp] theorem cartEvent_host_rings (b : Nat) : (s.cartEvent b).host.rings = s.host.rings := by
  unfold State.cartEvent; split <;> simp
@[simp] theorem cartEvent_host_port0 (b : Nat) : (s.cartEvent b).host.port0 = s.host.port0 := by
  unfold State.cartEvent; split <;> simp
@[simp] theorem cartEvent_host_port1 (b : Nat) : (s.cartEvent b).host.port1 = s.host.port1 := by
  unfold State.cartEvent; split <;> simp
@[simp] theorem cartEvent_host_tickets (b : Nat) : (s.cartEvent b).host.tickets = s.host.tickets := by
  unfold State.cartEvent; split <;> simp
@[simp] theorem cartEvent_host_nextId (b : Nat) : (s.cartEvent b).host.nextId = s.host.nextId := by
  unfold State.cartEvent; split <;> simp
@[simp] theorem cartEvent_host_wmtMarked (b : Nat) : (s.cartEvent b).host.wmtMarked = s.host.wmtMarked := by
  unfold State.cartEvent; split <;> simp
@[simp] theorem cartEvent_host_wmtLast (b : Nat) : (s.cartEvent b).host.wmtLast = s.host.wmtLast := by
  unfold State.cartEvent; split <;> simp
@[simp] theorem cartEvent_dev_ready (b : Nat) : (s.cartEvent b).dev.ready = s.dev.ready := by
  unfold State.cartEvent; split <;> simp
@[simp] theorem cartEvent_dev_stage (b : Nat) : (s.cartEvent b).dev.stage = s.dev.stage := by
  unfold State.cartEvent; split <;> simp
@[simp] theorem cartEvent_dev_holdCause (b : Nat) : (s.cartEvent b).dev.holdCause = s.dev.holdCause := by
  unfold State.cartEvent; split <;> simp
@[simp] theorem cartEvent_dev_holdDetail (b : Nat) : (s.cartEvent b).dev.holdDetail = s.dev.holdDetail := by
  unfold State.cartEvent; split <;> simp
@[simp] theorem cartEvent_dev_appletsDropped (b : Nat) : (s.cartEvent b).dev.appletsDropped = s.dev.appletsDropped := by
  unfold State.cartEvent; split <;> simp
@[simp] theorem cartEvent_dev_templatesDropped (b : Nat) : (s.cartEvent b).dev.templatesDropped = s.dev.templatesDropped := by
  unfold State.cartEvent; split <;> simp
@[simp] theorem cartEvent_dev_events (b : Nat) : (s.cartEvent b).dev.events = s.dev.events := by
  unfold State.cartEvent; split <;> simp
@[simp] theorem cartEvent_dev_enable (b : Nat) : (s.cartEvent b).dev.enable = s.dev.enable := by
  unfold State.cartEvent; split <;> simp
@[simp] theorem cartEvent_dev_vectors (b : Nat) : (s.cartEvent b).dev.vectors = s.dev.vectors := by
  unfold State.cartEvent; split <;> simp
@[simp] theorem cartEvent_dev_heldLow (b : Nat) : (s.cartEvent b).dev.heldLow = s.dev.heldLow := by
  unfold State.cartEvent; split <;> simp
@[simp] theorem cartEvent_dev_latchedHigh (b : Nat) : (s.cartEvent b).dev.latchedHigh = s.dev.latchedHigh := by
  unfold State.cartEvent; split <;> simp
@[simp] theorem cartEvent_dev_readData (b : Nat) : (s.cartEvent b).dev.readData = s.dev.readData := by
  unfold State.cartEvent; split <;> simp
@[simp] theorem cartEvent_boards_headlessEn (b : Nat) : (s.cartEvent b).boards.headlessEn = s.boards.headlessEn := by
  unfold State.cartEvent; split <;> simp
@[simp] theorem cartEvent_boards_cardMin (b : Nat) : (s.cartEvent b).boards.cardMin = s.boards.cardMin := by
  unfold State.cartEvent; split <;> simp
@[simp] theorem cartEvent_boards_hours (b : Nat) : (s.cartEvent b).boards.hours = s.boards.hours := by
  unfold State.cartEvent; split <;> simp
@[simp] theorem cartEvent_boards_slots (b : Nat) : (s.cartEvent b).boards.slots = s.boards.slots := by
  unfold State.cartEvent; split <;> simp
@[simp] theorem cartEvent_boards_cards (b : Nat) : (s.cartEvent b).boards.cards = s.boards.cards := by
  unfold State.cartEvent; split <;> simp
@[simp] theorem cartEvent_boards_sessions (b : Nat) : (s.cartEvent b).boards.sessions = s.boards.sessions := by
  unfold State.cartEvent; split <;> simp
@[simp] theorem cartEvent_boards_lastSession (b : Nat) : (s.cartEvent b).boards.lastSession = s.boards.lastSession := by
  unfold State.cartEvent; split <;> simp
@[simp] theorem cartEvent_boards_shownId (b : Nat) : (s.cartEvent b).boards.shownId = s.boards.shownId := by
  unfold State.cartEvent; split <;> simp
@[simp] theorem cartEvent_boards_shownState (b : Nat) : (s.cartEvent b).boards.shownState = s.boards.shownState := by
  unfold State.cartEvent; split <;> simp
@[simp] theorem cartEvent_boards_shownPart (b : Nat) : (s.cartEvent b).boards.shownPart = s.boards.shownPart := by
  unfold State.cartEvent; split <;> simp
@[simp] theorem cartEvent_boards_shownSlot (b : Nat) : (s.cartEvent b).boards.shownSlot = s.boards.shownSlot := by
  unfold State.cartEvent; split <;> simp
@[simp] theorem cartEvent_boards_shownPercent (b : Nat) : (s.cartEvent b).boards.shownPercent = s.boards.shownPercent := by
  unfold State.cartEvent; split <;> simp
@[simp] theorem cartEvent_boards_abandoned (b : Nat) : (s.cartEvent b).boards.abandoned = s.boards.abandoned := by
  unfold State.cartEvent; split <;> simp
@[simp] theorem cartEvent_boards_continued (b : Nat) : (s.cartEvent b).boards.continued = s.boards.continued := by
  unfold State.cartEvent; split <;> simp
@[simp] theorem cartEvent_boards_hx (b : Nat) : (s.cartEvent b).boards.hx = s.boards.hx := by
  unfold State.cartEvent; split <;> simp
@[simp] theorem cartEvent_boards_hxBefore (b : Nat) : (s.cartEvent b).boards.hxBefore = s.boards.hxBefore := by
  unfold State.cartEvent; split <;> simp
@[simp] theorem cartEvent_boards_hxAt (b : Nat) : (s.cartEvent b).boards.hxAt = s.boards.hxAt := by
  unfold State.cartEvent; split <;> simp
@[simp] theorem cartEvent_boards_out (b : Nat) : (s.cartEvent b).boards.out = s.boards.out := by
  unfold State.cartEvent; split <;> simp

/-! faultEvent -/

@[simp] theorem faultEvent_classes (b : Nat) : (s.faultEvent b).classes = s.classes := by
  unfold State.faultEvent; split <;> simp
@[simp] theorem faultEvent_tabs (b : Nat) : (s.faultEvent b).tabs = s.tabs := by
  unfold State.faultEvent; split <;> simp
@[simp] theorem faultEvent_ledger (b : Nat) : (s.faultEvent b).ledger = s.ledger := by
  unfold State.faultEvent; split <;> simp
@[simp] theorem faultEvent_units (b : Nat) : (s.faultEvent b).units = s.units := by
  unfold State.faultEvent; split <;> simp
@[simp] theorem faultEvent_crypto (b : Nat) : (s.faultEvent b).crypto = s.crypto := by
  unfold State.faultEvent; split <;> simp
@[simp] theorem faultEvent_vault (b : Nat) : (s.faultEvent b).vault = s.vault := by
  unfold State.faultEvent; split <;> simp
@[simp] theorem faultEvent_flash (b : Nat) : (s.faultEvent b).flash = s.flash := by
  unfold State.faultEvent; split <;> simp
@[simp] theorem faultEvent_ddr (b : Nat) : (s.faultEvent b).ddr = s.ddr := by
  unfold State.faultEvent; split <;> simp
@[simp] theorem faultEvent_boards (b : Nat) : (s.faultEvent b).boards = s.boards := by
  unfold State.faultEvent; split <;> simp
@[simp] theorem faultEvent_tamper (b : Nat) : (s.faultEvent b).tamper = s.tamper := by
  unfold State.faultEvent; split <;> simp
@[simp] theorem faultEvent_guard (b : Nat) : (s.faultEvent b).guard = s.guard := by
  unfold State.faultEvent; split <;> simp
@[simp] theorem faultEvent_power (b : Nat) : (s.faultEvent b).power = s.power := by
  unfold State.faultEvent; split <;> simp
@[simp] theorem faultEvent_drawn (b : Nat) : (s.faultEvent b).drawn = s.drawn := by
  unfold State.faultEvent; split <;> simp
@[simp] theorem faultEvent_pending (b : Nat) : (s.faultEvent b).pending = s.pending := by
  unfold State.faultEvent; split <;> simp
@[simp] theorem faultEvent_host_twoPorts (b : Nat) : (s.faultEvent b).host.twoPorts = s.host.twoPorts := by
  unfold State.faultEvent; split <;> simp
@[simp] theorem faultEvent_host_rings (b : Nat) : (s.faultEvent b).host.rings = s.host.rings := by
  unfold State.faultEvent; split <;> simp
@[simp] theorem faultEvent_host_port0 (b : Nat) : (s.faultEvent b).host.port0 = s.host.port0 := by
  unfold State.faultEvent; split <;> simp
@[simp] theorem faultEvent_host_port1 (b : Nat) : (s.faultEvent b).host.port1 = s.host.port1 := by
  unfold State.faultEvent; split <;> simp
@[simp] theorem faultEvent_host_tickets (b : Nat) : (s.faultEvent b).host.tickets = s.host.tickets := by
  unfold State.faultEvent; split <;> simp
@[simp] theorem faultEvent_host_nextId (b : Nat) : (s.faultEvent b).host.nextId = s.host.nextId := by
  unfold State.faultEvent; split <;> simp
@[simp] theorem faultEvent_host_wmtMarked (b : Nat) : (s.faultEvent b).host.wmtMarked = s.host.wmtMarked := by
  unfold State.faultEvent; split <;> simp
@[simp] theorem faultEvent_host_wmtLast (b : Nat) : (s.faultEvent b).host.wmtLast = s.host.wmtLast := by
  unfold State.faultEvent; split <;> simp
@[simp] theorem faultEvent_dev_ready (b : Nat) : (s.faultEvent b).dev.ready = s.dev.ready := by
  unfold State.faultEvent; split <;> simp
@[simp] theorem faultEvent_dev_stage (b : Nat) : (s.faultEvent b).dev.stage = s.dev.stage := by
  unfold State.faultEvent; split <;> simp
@[simp] theorem faultEvent_dev_holdCause (b : Nat) : (s.faultEvent b).dev.holdCause = s.dev.holdCause := by
  unfold State.faultEvent; split <;> simp
@[simp] theorem faultEvent_dev_holdDetail (b : Nat) : (s.faultEvent b).dev.holdDetail = s.dev.holdDetail := by
  unfold State.faultEvent; split <;> simp
@[simp] theorem faultEvent_dev_appletsDropped (b : Nat) : (s.faultEvent b).dev.appletsDropped = s.dev.appletsDropped := by
  unfold State.faultEvent; split <;> simp
@[simp] theorem faultEvent_dev_templatesDropped (b : Nat) : (s.faultEvent b).dev.templatesDropped = s.dev.templatesDropped := by
  unfold State.faultEvent; split <;> simp
@[simp] theorem faultEvent_dev_events (b : Nat) : (s.faultEvent b).dev.events = s.dev.events := by
  unfold State.faultEvent; split <;> simp
@[simp] theorem faultEvent_dev_enable (b : Nat) : (s.faultEvent b).dev.enable = s.dev.enable := by
  unfold State.faultEvent; split <;> simp
@[simp] theorem faultEvent_dev_vectors (b : Nat) : (s.faultEvent b).dev.vectors = s.dev.vectors := by
  unfold State.faultEvent; split <;> simp
@[simp] theorem faultEvent_dev_heldLow (b : Nat) : (s.faultEvent b).dev.heldLow = s.dev.heldLow := by
  unfold State.faultEvent; split <;> simp
@[simp] theorem faultEvent_dev_latchedHigh (b : Nat) : (s.faultEvent b).dev.latchedHigh = s.dev.latchedHigh := by
  unfold State.faultEvent; split <;> simp
@[simp] theorem faultEvent_dev_readData (b : Nat) : (s.faultEvent b).dev.readData = s.dev.readData := by
  unfold State.faultEvent; split <;> simp
@[simp] theorem faultEvent_fault_lastClass (b : Nat) : (s.faultEvent b).fault.lastClass = s.fault.lastClass := by
  unfold State.faultEvent; split <;> simp
@[simp] theorem faultEvent_fault_lastUnit (b : Nat) : (s.faultEvent b).fault.lastUnit = s.fault.lastUnit := by
  unfold State.faultEvent; split <;> simp
@[simp] theorem faultEvent_fault_total (b : Nat) : (s.faultEvent b).fault.total = s.fault.total := by
  unfold State.faultEvent; split <;> simp
@[simp] theorem faultEvent_fault_maxInterrupt (b : Nat) : (s.faultEvent b).fault.maxInterrupt = s.fault.maxInterrupt := by
  unfold State.faultEvent; split <;> simp
@[simp] theorem faultEvent_fault_next (b : Nat) : (s.faultEvent b).fault.next = s.fault.next := by
  unfold State.faultEvent; split <;> simp
@[simp] theorem faultEvent_fault_lost (b : Nat) : (s.faultEvent b).fault.lost = s.fault.lost := by
  unfold State.faultEvent; split <;> simp
@[simp] theorem faultEvent_fault_queue (b : Nat) : (s.faultEvent b).fault.queue = s.fault.queue := by
  unfold State.faultEvent; split <;> simp
@[simp] theorem faultEvent_fault_log (b : Nat) : (s.faultEvent b).fault.log = s.fault.log := by
  unfold State.faultEvent; split <;> simp

/-! notify -/

@[simp] theorem notify_classes (b : Nat) : (s.notify b).classes = s.classes := by
  unfold State.notify; split <;> simp
@[simp] theorem notify_tabs (b : Nat) : (s.notify b).tabs = s.tabs := by
  unfold State.notify; split <;> simp
@[simp] theorem notify_ledger (b : Nat) : (s.notify b).ledger = s.ledger := by
  unfold State.notify; split <;> simp
@[simp] theorem notify_units (b : Nat) : (s.notify b).units = s.units := by
  unfold State.notify; split <;> simp
@[simp] theorem notify_crypto (b : Nat) : (s.notify b).crypto = s.crypto := by
  unfold State.notify; split <;> simp
@[simp] theorem notify_vault (b : Nat) : (s.notify b).vault = s.vault := by
  unfold State.notify; split <;> simp
@[simp] theorem notify_flash (b : Nat) : (s.notify b).flash = s.flash := by
  unfold State.notify; split <;> simp
@[simp] theorem notify_ddr (b : Nat) : (s.notify b).ddr = s.ddr := by
  unfold State.notify; split <;> simp
@[simp] theorem notify_boards (b : Nat) : (s.notify b).boards = s.boards := by
  unfold State.notify; split <;> simp
@[simp] theorem notify_guard (b : Nat) : (s.notify b).guard = s.guard := by
  unfold State.notify; split <;> simp
@[simp] theorem notify_power (b : Nat) : (s.notify b).power = s.power := by
  unfold State.notify; split <;> simp
@[simp] theorem notify_fault (b : Nat) : (s.notify b).fault = s.fault := by
  unfold State.notify; split <;> simp
@[simp] theorem notify_drawn (b : Nat) : (s.notify b).drawn = s.drawn := by
  unfold State.notify; split <;> simp
@[simp] theorem notify_pending (b : Nat) : (s.notify b).pending = s.pending := by
  unfold State.notify; split <;> simp
@[simp] theorem notify_host_twoPorts (b : Nat) : (s.notify b).host.twoPorts = s.host.twoPorts := by
  unfold State.notify; split <;> simp
@[simp] theorem notify_host_rings (b : Nat) : (s.notify b).host.rings = s.host.rings := by
  unfold State.notify; split <;> simp
@[simp] theorem notify_host_port0 (b : Nat) : (s.notify b).host.port0 = s.host.port0 := by
  unfold State.notify; split <;> simp
@[simp] theorem notify_host_port1 (b : Nat) : (s.notify b).host.port1 = s.host.port1 := by
  unfold State.notify; split <;> simp
@[simp] theorem notify_host_tickets (b : Nat) : (s.notify b).host.tickets = s.host.tickets := by
  unfold State.notify; split <;> simp
@[simp] theorem notify_host_nextId (b : Nat) : (s.notify b).host.nextId = s.host.nextId := by
  unfold State.notify; split <;> simp
@[simp] theorem notify_host_wmtMarked (b : Nat) : (s.notify b).host.wmtMarked = s.host.wmtMarked := by
  unfold State.notify; split <;> simp
@[simp] theorem notify_host_wmtLast (b : Nat) : (s.notify b).host.wmtLast = s.host.wmtLast := by
  unfold State.notify; split <;> simp
@[simp] theorem notify_dev_ready (b : Nat) : (s.notify b).dev.ready = s.dev.ready := by
  unfold State.notify; split <;> simp
@[simp] theorem notify_dev_stage (b : Nat) : (s.notify b).dev.stage = s.dev.stage := by
  unfold State.notify; split <;> simp
@[simp] theorem notify_dev_holdCause (b : Nat) : (s.notify b).dev.holdCause = s.dev.holdCause := by
  unfold State.notify; split <;> simp
@[simp] theorem notify_dev_holdDetail (b : Nat) : (s.notify b).dev.holdDetail = s.dev.holdDetail := by
  unfold State.notify; split <;> simp
@[simp] theorem notify_dev_appletsDropped (b : Nat) : (s.notify b).dev.appletsDropped = s.dev.appletsDropped := by
  unfold State.notify; split <;> simp
@[simp] theorem notify_dev_templatesDropped (b : Nat) : (s.notify b).dev.templatesDropped = s.dev.templatesDropped := by
  unfold State.notify; split <;> simp
@[simp] theorem notify_dev_events (b : Nat) : (s.notify b).dev.events = s.dev.events := by
  unfold State.notify; split <;> simp
@[simp] theorem notify_dev_enable (b : Nat) : (s.notify b).dev.enable = s.dev.enable := by
  unfold State.notify; split <;> simp
@[simp] theorem notify_dev_vectors (b : Nat) : (s.notify b).dev.vectors = s.dev.vectors := by
  unfold State.notify; split <;> simp
@[simp] theorem notify_dev_heldLow (b : Nat) : (s.notify b).dev.heldLow = s.dev.heldLow := by
  unfold State.notify; split <;> simp
@[simp] theorem notify_dev_latchedHigh (b : Nat) : (s.notify b).dev.latchedHigh = s.dev.latchedHigh := by
  unfold State.notify; split <;> simp
@[simp] theorem notify_dev_readData (b : Nat) : (s.notify b).dev.readData = s.dev.readData := by
  unfold State.notify; split <;> simp
@[simp] theorem notify_tamper_lock (b : Nat) : (s.notify b).tamper.lock = s.tamper.lock := by
  unfold State.notify; split <;> simp
@[simp] theorem notify_tamper_lastLevel (b : Nat) : (s.notify b).tamper.lastLevel = s.tamper.lastLevel := by
  unfold State.notify; split <;> simp
@[simp] theorem notify_tamper_lastSource (b : Nat) : (s.notify b).tamper.lastSource = s.tamper.lastSource := by
  unfold State.notify; split <;> simp
@[simp] theorem notify_tamper_logLost (b : Nat) : (s.notify b).tamper.logLost = s.tamper.logLost := by
  unfold State.notify; split <;> simp
@[simp] theorem notify_tamper_srcs (b : Nat) : (s.notify b).tamper.srcs = s.tamper.srcs := by
  unfold State.notify; split <;> simp
@[simp] theorem notify_tamper_windowMs (b : Nat) : (s.notify b).tamper.windowMs = s.tamper.windowMs := by
  unfold State.notify; split <;> simp
@[simp] theorem notify_tamper_lockstepCount (b : Nat) : (s.notify b).tamper.lockstepCount = s.tamper.lockstepCount := by
  unfold State.notify; split <;> simp
@[simp] theorem notify_tamper_mismatches (b : Nat) : (s.notify b).tamper.mismatches = s.tamper.mismatches := by
  unfold State.notify; split <;> simp
@[simp] theorem notify_tamper_falls (b : Nat) : (s.notify b).tamper.falls = s.tamper.falls := by
  unfold State.notify; split <;> simp
@[simp] theorem notify_tamper_ring (b : Nat) : (s.notify b).tamper.ring = s.tamper.ring := by
  unfold State.notify; split <;> simp
@[simp] theorem notify_tamper_overflow (b : Nat) : (s.notify b).tamper.overflow = s.tamper.overflow := by
  unfold State.notify; split <;> simp
@[simp] theorem notify_tamper_log (b : Nat) : (s.notify b).tamper.log = s.tamper.log := by
  unfold State.notify; split <;> simp
@[simp] theorem notify_tamper_queue (b : Nat) : (s.notify b).tamper.queue = s.tamper.queue := by
  unfold State.notify; split <;> simp
@[simp] theorem notify_tamper_next (b : Nat) : (s.notify b).tamper.next = s.tamper.next := by
  unfold State.notify; split <;> simp
@[simp] theorem notify_tamper_modeLog (b : Nat) : (s.notify b).tamper.modeLog = s.tamper.modeLog := by
  unfold State.notify; split <;> simp
@[simp] theorem notify_tamper_waiting (b : Nat) : (s.notify b).tamper.waiting = s.tamper.waiting := by
  unfold State.notify; split <;> simp

/-! logFault -/

/-- A field that FAULT.EVENTS leaves alone is left alone by all of an entry's events. -/
theorem foldl_faultEvent {α : Type} (g : State → α) (h : ∀ s b, g (State.faultEvent s b) = g s) (l : List Nat) (s : State) : g (l.foldl State.faultEvent s) = g s := by
  induction l generalizing s with
  | nil => rfl
  | cons b l ih => exact (ih _).trans (h s b)

@[simp] theorem logFault_classes (d : Detection) : (s.logFault d).classes = s.classes := by
  unfold State.logFault State.countFault
  dsimp only
  rw [foldl_faultEvent (fun s => s.classes) (by simp)]
  split <;> simp
@[simp] theorem logFault_tabs (d : Detection) : (s.logFault d).tabs = s.tabs := by
  unfold State.logFault State.countFault
  dsimp only
  rw [foldl_faultEvent (fun s => s.tabs) (by simp)]
  split <;> simp
@[simp] theorem logFault_ledger (d : Detection) : (s.logFault d).ledger = s.ledger := by
  unfold State.logFault State.countFault
  dsimp only
  rw [foldl_faultEvent (fun s => s.ledger) (by simp)]
  split <;> simp
@[simp] theorem logFault_crypto (d : Detection) : (s.logFault d).crypto = s.crypto := by
  unfold State.logFault State.countFault
  dsimp only
  rw [foldl_faultEvent (fun s => s.crypto) (by simp)]
  split <;> simp
@[simp] theorem logFault_vault (d : Detection) : (s.logFault d).vault = s.vault := by
  unfold State.logFault State.countFault
  dsimp only
  rw [foldl_faultEvent (fun s => s.vault) (by simp)]
  split <;> simp
@[simp] theorem logFault_flash (d : Detection) : (s.logFault d).flash = s.flash := by
  unfold State.logFault State.countFault
  dsimp only
  rw [foldl_faultEvent (fun s => s.flash) (by simp)]
  split <;> simp
@[simp] theorem logFault_ddr (d : Detection) : (s.logFault d).ddr = s.ddr := by
  unfold State.logFault State.countFault
  dsimp only
  rw [foldl_faultEvent (fun s => s.ddr) (by simp)]
  split <;> simp
@[simp] theorem logFault_boards (d : Detection) : (s.logFault d).boards = s.boards := by
  unfold State.logFault State.countFault
  dsimp only
  rw [foldl_faultEvent (fun s => s.boards) (by simp)]
  split <;> simp
@[simp] theorem logFault_tamper (d : Detection) : (s.logFault d).tamper = s.tamper := by
  unfold State.logFault State.countFault
  dsimp only
  rw [foldl_faultEvent (fun s => s.tamper) (by simp)]
  split <;> simp
@[simp] theorem logFault_guard (d : Detection) : (s.logFault d).guard = s.guard := by
  unfold State.logFault State.countFault
  dsimp only
  rw [foldl_faultEvent (fun s => s.guard) (by simp)]
  split <;> simp
@[simp] theorem logFault_power (d : Detection) : (s.logFault d).power = s.power := by
  unfold State.logFault State.countFault
  dsimp only
  rw [foldl_faultEvent (fun s => s.power) (by simp)]
  split <;> simp
@[simp] theorem logFault_drawn (d : Detection) : (s.logFault d).drawn = s.drawn := by
  unfold State.logFault State.countFault
  dsimp only
  rw [foldl_faultEvent (fun s => s.drawn) (by simp)]
  split <;> simp
@[simp] theorem logFault_pending (d : Detection) : (s.logFault d).pending = s.pending := by
  unfold State.logFault State.countFault
  dsimp only
  rw [foldl_faultEvent (fun s => s.pending) (by simp)]
  split <;> simp
@[simp] theorem logFault_host_twoPorts (d : Detection) : (s.logFault d).host.twoPorts = s.host.twoPorts := by
  unfold State.logFault State.countFault
  dsimp only
  rw [foldl_faultEvent (fun s => s.host.twoPorts) (by simp)]
  split <;> simp
@[simp] theorem logFault_host_rings (d : Detection) : (s.logFault d).host.rings = s.host.rings := by
  unfold State.logFault State.countFault
  dsimp only
  rw [foldl_faultEvent (fun s => s.host.rings) (by simp)]
  split <;> simp
@[simp] theorem logFault_host_port0 (d : Detection) : (s.logFault d).host.port0 = s.host.port0 := by
  unfold State.logFault State.countFault
  dsimp only
  rw [foldl_faultEvent (fun s => s.host.port0) (by simp)]
  split <;> simp
@[simp] theorem logFault_host_port1 (d : Detection) : (s.logFault d).host.port1 = s.host.port1 := by
  unfold State.logFault State.countFault
  dsimp only
  rw [foldl_faultEvent (fun s => s.host.port1) (by simp)]
  split <;> simp
@[simp] theorem logFault_host_tickets (d : Detection) : (s.logFault d).host.tickets = s.host.tickets := by
  unfold State.logFault State.countFault
  dsimp only
  rw [foldl_faultEvent (fun s => s.host.tickets) (by simp)]
  split <;> simp
@[simp] theorem logFault_host_nextId (d : Detection) : (s.logFault d).host.nextId = s.host.nextId := by
  unfold State.logFault State.countFault
  dsimp only
  rw [foldl_faultEvent (fun s => s.host.nextId) (by simp)]
  split <;> simp
@[simp] theorem logFault_host_wmtMarked (d : Detection) : (s.logFault d).host.wmtMarked = s.host.wmtMarked := by
  unfold State.logFault State.countFault
  dsimp only
  rw [foldl_faultEvent (fun s => s.host.wmtMarked) (by simp)]
  split <;> simp
@[simp] theorem logFault_host_wmtLast (d : Detection) : (s.logFault d).host.wmtLast = s.host.wmtLast := by
  unfold State.logFault State.countFault
  dsimp only
  rw [foldl_faultEvent (fun s => s.host.wmtLast) (by simp)]
  split <;> simp
@[simp] theorem logFault_dev_ready (d : Detection) : (s.logFault d).dev.ready = s.dev.ready := by
  unfold State.logFault State.countFault
  dsimp only
  rw [foldl_faultEvent (fun s => s.dev.ready) (by simp)]
  split <;> simp
@[simp] theorem logFault_dev_stage (d : Detection) : (s.logFault d).dev.stage = s.dev.stage := by
  unfold State.logFault State.countFault
  dsimp only
  rw [foldl_faultEvent (fun s => s.dev.stage) (by simp)]
  split <;> simp
@[simp] theorem logFault_dev_holdCause (d : Detection) : (s.logFault d).dev.holdCause = s.dev.holdCause := by
  unfold State.logFault State.countFault
  dsimp only
  rw [foldl_faultEvent (fun s => s.dev.holdCause) (by simp)]
  split <;> simp
@[simp] theorem logFault_dev_holdDetail (d : Detection) : (s.logFault d).dev.holdDetail = s.dev.holdDetail := by
  unfold State.logFault State.countFault
  dsimp only
  rw [foldl_faultEvent (fun s => s.dev.holdDetail) (by simp)]
  split <;> simp
@[simp] theorem logFault_dev_appletsDropped (d : Detection) : (s.logFault d).dev.appletsDropped = s.dev.appletsDropped := by
  unfold State.logFault State.countFault
  dsimp only
  rw [foldl_faultEvent (fun s => s.dev.appletsDropped) (by simp)]
  split <;> simp
@[simp] theorem logFault_dev_templatesDropped (d : Detection) : (s.logFault d).dev.templatesDropped = s.dev.templatesDropped := by
  unfold State.logFault State.countFault
  dsimp only
  rw [foldl_faultEvent (fun s => s.dev.templatesDropped) (by simp)]
  split <;> simp
@[simp] theorem logFault_dev_events (d : Detection) : (s.logFault d).dev.events = s.dev.events := by
  unfold State.logFault State.countFault
  dsimp only
  rw [foldl_faultEvent (fun s => s.dev.events) (by simp)]
  split <;> simp
@[simp] theorem logFault_dev_enable (d : Detection) : (s.logFault d).dev.enable = s.dev.enable := by
  unfold State.logFault State.countFault
  dsimp only
  rw [foldl_faultEvent (fun s => s.dev.enable) (by simp)]
  split <;> simp
@[simp] theorem logFault_dev_vectors (d : Detection) : (s.logFault d).dev.vectors = s.dev.vectors := by
  unfold State.logFault State.countFault
  dsimp only
  rw [foldl_faultEvent (fun s => s.dev.vectors) (by simp)]
  split <;> simp
@[simp] theorem logFault_dev_heldLow (d : Detection) : (s.logFault d).dev.heldLow = s.dev.heldLow := by
  unfold State.logFault State.countFault
  dsimp only
  rw [foldl_faultEvent (fun s => s.dev.heldLow) (by simp)]
  split <;> simp
@[simp] theorem logFault_dev_latchedHigh (d : Detection) : (s.logFault d).dev.latchedHigh = s.dev.latchedHigh := by
  unfold State.logFault State.countFault
  dsimp only
  rw [foldl_faultEvent (fun s => s.dev.latchedHigh) (by simp)]
  split <;> simp
@[simp] theorem logFault_dev_readData (d : Detection) : (s.logFault d).dev.readData = s.dev.readData := by
  unfold State.logFault State.countFault
  dsimp only
  rw [foldl_faultEvent (fun s => s.dev.readData) (by simp)]
  split <;> simp
@[simp] theorem logFault_units_select (d : Detection) : (s.logFault d).units.select = s.units.select := by
  unfold State.logFault State.countFault
  dsimp only
  rw [foldl_faultEvent (fun s => s.units.select) (by simp)]
  split <;> simp
@[simp] theorem logFault_units_spareFor (d : Detection) : (s.logFault d).units.spareFor = s.units.spareFor := by
  unfold State.logFault State.countFault
  dsimp only
  rw [foldl_faultEvent (fun s => s.units.spareFor) (by simp)]
  split <;> simp
@[simp] theorem logFault_units_fw (d : Detection) : (s.logFault d).units.fw = s.units.fw := by
  unfold State.logFault State.countFault
  dsimp only
  rw [foldl_faultEvent (fun s => s.units.fw) (by simp)]
  split <;> simp
@[simp] theorem logFault_units_items (d : Detection) : (s.logFault d).units.items = s.units.items := by
  unfold State.logFault State.countFault
  dsimp only
  rw [foldl_faultEvent (fun s => s.units.items) (by simp)]
  split <;> simp

/-! addEvent -/

@[simp] theorem addEvent_host (n : Nat) (b : Bytes) : (s.addEvent n b).host = s.host := by
  unfold State.addEvent; split <;> rfl
@[simp] theorem addEvent_classes (n : Nat) (b : Bytes) : (s.addEvent n b).classes = s.classes := by
  unfold State.addEvent; split <;> rfl
@[simp] theorem addEvent_tabs (n : Nat) (b : Bytes) : (s.addEvent n b).tabs = s.tabs := by
  unfold State.addEvent; split <;> rfl
@[simp] theorem addEvent_units (n : Nat) (b : Bytes) : (s.addEvent n b).units = s.units := by
  unfold State.addEvent; split <;> rfl
@[simp] theorem addEvent_crypto (n : Nat) (b : Bytes) : (s.addEvent n b).crypto = s.crypto := by
  unfold State.addEvent; split <;> rfl
@[simp] theorem addEvent_vault (n : Nat) (b : Bytes) : (s.addEvent n b).vault = s.vault := by
  unfold State.addEvent; split <;> rfl
@[simp] theorem addEvent_flash (n : Nat) (b : Bytes) : (s.addEvent n b).flash = s.flash := by
  unfold State.addEvent; split <;> rfl
@[simp] theorem addEvent_ddr (n : Nat) (b : Bytes) : (s.addEvent n b).ddr = s.ddr := by
  unfold State.addEvent; split <;> rfl
@[simp] theorem addEvent_boards (n : Nat) (b : Bytes) : (s.addEvent n b).boards = s.boards := by
  unfold State.addEvent; split <;> rfl
@[simp] theorem addEvent_tamper (n : Nat) (b : Bytes) : (s.addEvent n b).tamper = s.tamper := by
  unfold State.addEvent; split <;> rfl
@[simp] theorem addEvent_guard (n : Nat) (b : Bytes) : (s.addEvent n b).guard = s.guard := by
  unfold State.addEvent; split <;> rfl
@[simp] theorem addEvent_power (n : Nat) (b : Bytes) : (s.addEvent n b).power = s.power := by
  unfold State.addEvent; split <;> rfl
@[simp] theorem addEvent_fault (n : Nat) (b : Bytes) : (s.addEvent n b).fault = s.fault := by
  unfold State.addEvent; split <;> rfl
@[simp] theorem addEvent_dev (n : Nat) (b : Bytes) : (s.addEvent n b).dev = s.dev := by
  unfold State.addEvent; split <;> rfl
@[simp] theorem addEvent_drawn (n : Nat) (b : Bytes) : (s.addEvent n b).drawn = s.drawn := by
  unfold State.addEvent; split <;> rfl
@[simp] theorem addEvent_pending (n : Nat) (b : Bytes) : (s.addEvent n b).pending = s.pending := by
  unfold State.addEvent; split <;> rfl
@[simp] theorem addEvent_ledger_rtc (n : Nat) (b : Bytes) : (s.addEvent n b).ledger.rtc = s.ledger.rtc := by
  unfold State.addEvent; split <;> rfl
@[simp] theorem addEvent_ledger_periodMs (n : Nat) (b : Bytes) : (s.addEvent n b).ledger.periodMs = s.ledger.periodMs := by
  unfold State.addEvent; split <;> rfl
@[simp] theorem addEvent_ledger_periodInForce (n : Nat) (b : Bytes) : (s.addEvent n b).ledger.periodInForce = s.ledger.periodInForce := by
  unfold State.addEvent; split <;> rfl
@[simp] theorem addEvent_ledger_uncertain (n : Nat) (b : Bytes) : (s.addEvent n b).ledger.uncertain = s.ledger.uncertain := by
  unfold State.addEvent; split <;> rfl
@[simp] theorem addEvent_ledger_slewShift (n : Nat) (b : Bytes) : (s.addEvent n b).ledger.slewShift = s.ledger.slewShift := by
  unfold State.addEvent; split <;> rfl
@[simp] theorem addEvent_ledger_slewMaxMs (n : Nat) (b : Bytes) : (s.addEvent n b).ledger.slewMaxMs = s.ledger.slewMaxMs := by
  unfold State.addEvent; split <;> rfl
@[simp] theorem addEvent_ledger_unsignedMs (n : Nat) (b : Bytes) : (s.addEvent n b).ledger.unsignedMs = s.ledger.unsignedMs := by
  unfold State.addEvent; split <;> rfl
@[simp] theorem addEvent_ledger_applied (n : Nat) (b : Bytes) : (s.addEvent n b).ledger.applied = s.ledger.applied := by
  unfold State.addEvent; split <;> rfl
@[simp] theorem addEvent_ledger_slewRemain (n : Nat) (b : Bytes) : (s.addEvent n b).ledger.slewRemain = s.ledger.slewRemain := by
  unfold State.addEvent; split <;> rfl
@[simp] theorem addEvent_ledger_slewLast (n : Nat) (b : Bytes) : (s.addEvent n b).ledger.slewLast = s.ledger.slewLast := by
  unfold State.addEvent; split <;> rfl
@[simp] theorem addEvent_ledger_stepPending (n : Nat) (b : Bytes) : (s.addEvent n b).ledger.stepPending = s.ledger.stepPending := by
  unfold State.addEvent; split <;> rfl
@[simp] theorem addEvent_ledger_running (n : Nat) (b : Bytes) : (s.addEvent n b).ledger.running = s.ledger.running := by
  unfold State.addEvent; split <;> rfl
@[simp] theorem addEvent_ledger_current (n : Nat) (b : Bytes) : (s.addEvent n b).ledger.current = s.ledger.current := by
  unfold State.addEvent; split <;> rfl
@[simp] theorem addEvent_ledger_sealedTick (n : Nat) (b : Bytes) : (s.addEvent n b).ledger.sealedTick = s.ledger.sealedTick := by
  unfold State.addEvent; split <;> rfl
@[simp] theorem addEvent_ledger_durableTick (n : Nat) (b : Bytes) : (s.addEvent n b).ledger.durableTick = s.ledger.durableTick := by
  unfold State.addEvent; split <;> rfl
@[simp] theorem addEvent_ledger_nextBoundary (n : Nat) (b : Bytes) : (s.addEvent n b).ledger.nextBoundary = s.ledger.nextBoundary := by
  unfold State.addEvent; split <;> rfl
@[simp] theorem addEvent_ledger_began (n : Nat) (b : Bytes) : (s.addEvent n b).ledger.began = s.ledger.began := by
  unfold State.addEvent; split <;> rfl
@[simp] theorem addEvent_ledger_restart (n : Nat) (b : Bytes) : (s.addEvent n b).ledger.restart = s.ledger.restart := by
  unfold State.addEvent; split <;> rfl
@[simp] theorem addEvent_ledger_boundaryHeld (n : Nat) (b : Bytes) : (s.addEvent n b).ledger.boundaryHeld = s.ledger.boundaryHeld := by
  unfold State.addEvent; split <;> rfl
@[simp] theorem addEvent_ledger_builds (n : Nat) (b : Bytes) : (s.addEvent n b).ledger.builds = s.ledger.builds := by
  unfold State.addEvent; split <;> rfl
@[simp] theorem addEvent_ledger_records (n : Nat) (b : Bytes) : (s.addEvent n b).ledger.records = s.ledger.records := by
  unfold State.addEvent; split <;> rfl
@[simp] theorem addEvent_ledger_journal (n : Nat) (b : Bytes) : (s.addEvent n b).ledger.journal = s.ledger.journal := by
  unfold State.addEvent; split <;> rfl
@[simp] theorem addEvent_ledger_signerDue (n : Nat) (b : Bytes) : (s.addEvent n b).ledger.signerDue = s.ledger.signerDue := by
  unfold State.addEvent; split <;> rfl
theorem addEvent_events (n : Nat) (b : Bytes) : (s.addEvent n b).ledger.events = s.ledger.events ++ (if s.tickOpen then [{ type := n, body := b }] else []) := by
  unfold State.addEvent; split <;> simp

end Sys2Proof.Laws
end

