-- ==== Sys2Proof/Tests/Slice0.lean ====
section
/-! SUPPORT. Tests: the well-formedness checks, numbers and worked examples of the spec, single steps, and for every statement with hypotheses concrete states that meet them, clause by clause. -/

set_option Elab.async false

namespace Sys2Proof.Tests

open Sys2Proof.Machine Sys2Proof.Safety

/-! Small states. -/

/-- A live ring pair of port 0 with 16 slots. -/
def liveRing : Ring := { enable := true, cls := 1, sizeLog2 := 4, vector := 1, state := .active, sqBase := 0x10000, cqBase := 0x20000 }
/-- A port whose link is up, which may master writes and signal on vector 1. -/
def upPort : Port := { bme := true, msixEn := true, inReset := false, link := { l0 := true }, wmtBase := 0x40000, msix := [(1, { mask := false })] }
/-- The state with ring pair 2 as given. -/
def withRing (s : State) (r : Ring) : State := s.setRing 2 r
/-- The state with port 0 up. -/
def withPort (s : State) : State := s.setPort 0 upPort
/-- A ticket of ring pair 2 that is admitted. -/
def tkOf (op tab : Nat) (data oper : Bytes) : Tk :=
  { id := 7, ring := 2, cls := 1, tk := { opcode := op, tab := tab, data := data, oper := oper }, stage := .admitted, fetchTok := false }
/-- The state with the ticket alone in the device. -/
def withTk (s : State) (t : Tk) : State := { s with host := { s.host with tickets := [t] } }
/-- The state in which a device is ready and in a mode. -/
def inMode (s : State) (m : Mode) : State := { s with power := { s.power with mode := m }, dev := { s.dev with ready := true } }
/-- The life-cycle counter after `n` whole steps. -/
def atCount (s : State) (n : Nat) : State := { s with guard := { s.guard with otp := { s.guard.otp with counter := BitVec.ofNat 128 (4 ^ n - 1) } } }
/-- A small description: target 0 with two LUNs of 64 blocks of 8 pages in 2 planes, erase suspend, read-level calibration. -/
def smallPage : Bytes :=
  [1, 0, 2, 2] ++ leBytes 4 4096 ++ leBytes 2 256 ++ leBytes 2 8 ++ leBytes 4 128 ++ [0xAA, 0xBB] ++ zeros 6 ++ [2] ++ zeros 143 ++ [1, 0, 0, 0, 1] ++ zeros 11 ++ leBytes 4 3000 ++ zeros 324
def smallDesc : Bytes := zeros 128 ++ [0, 0] ++ (List.replicate 1023 [(0xFF : Byte), 0]).flatten ++ smallPage
/-- The state with that array built and target 0 in service. -/
def withFlash (s : State) : State :=
  { s with flash := { s.flash with desc := smallDesc, buildState := .built, targets := [(0, { state := .inService })], chans := [(0, { state := .active })] } }
/-- A ticket whose item runs a loaded applet of four instructions. -/
def itemTk : Tk := { tkOf 1 3 [] [] with stage := .running, tab := some 3, stall := some 0x3000, applet := some { code := [0, 0, 0, 0] }, templ := some {} }
/-- The state in which stall 0 of row 0 runs that ticket's item on the machine `v`. -/
def withItem (s : State) (v : Vm) : State := withTk { s with units := { s.units with items := [{ ticket := 7, unit := 0x3000, vm := v }] } } itemTk
def itemOf (v : Vm) : Item := { ticket := 7, unit := 0x3000, vm := v }
/-- A call of row 0's cipher engine from the self-test path, with a 16-byte key. -/
def cReq (iv aad data : Bytes) : CipherReq := { row := 0x2000, owner := 0, key := .rom (zeros 16), iv := iv, aadLen := aad.length, dataLen := data.length, aad := aad, data := data, selfTest := true }
def hReq (data : Bytes) : HashReq := { row := 0x2000, owner := 0, data := data }
def pReq (inputs : List Bytes) : PkeReq := { owner := 0xF003, inputs := inputs, key := .rom (zeros 32) }
/-- The state with one more open evidence crate of stream 0, over 16 targets. -/
def withCrate (s : State) : State :=
  { s with flash := { s.flash with crates := s.flash.crates ++ [{ id := 90, kind := .evidence, state := .opened, lanes := (List.range 16).map (fun k => { target := 16 * k, block := 20 }), lanePage := 16384, rows := 64 }] } }
/-- DATA that describes one extent of `n` bytes at host address 64. -/
def extent (n : Nat) : Bytes := leBytes 8 (1 + n * 2 ^ 42) ++ zeros 24
/-- Operands of a read: the first number, the count, the content byte. -/
def readOper (first count content : Nat) : Bytes := leBytes 8 first ++ leBytes 4 count ++ [BitVec.ofNat 8 content] ++ zeros 3
/-- The extent that DATA of `extent n` gives. -/
def oneExtent (n : Nat) : List Extent := [{ addr := 64, len := n }]
/-- Port 0 up, ring pair 2 live, the ticket alone. -/
def ready1 (s : State) (t : Tk) : State := withTk (withPort (withRing s liveRing)) t
/-- The state with a unit identifier of zeros, and a nonce. -/
def knownUnit (s : State) : State := { s with guard := { s.guard with otp := { s.guard.otp with unitId := zeros 16 }, nonce := zeros 16 } }
/-- A description that a build accepts: sixteen channels with one target each, of one parameter page with retry levels by feature 0x89. -/
def okPage : Bytes :=
  [1, 0, 2, 2] ++ leBytes 4 4096 ++ leBytes 2 272 ++ leBytes 2 1024 ++ leBytes 4 128 ++ [0xAA, 0xBB] ++ zeros 6 ++ [2, 1] ++ leBytes 2 1600 ++ zeros 8 ++ [1, 0x89, 2, 0] ++
    leBytes 4 0 ++ leBytes 4 5 ++ leBytes 4 6 ++ zeros 116 ++ [1, 0x90, 0, 3, 1, 0, 0, 0] ++ zeros 8 ++ leBytes 4 3000 ++ zeros 324
def okDesc : Bytes :=
  [1, 0, 1, 0] ++ leBytes 4 2688 ++ zeros 8 ++ List.replicate 16 1 ++ zeros 96 ++ ((List.range 1024).map (fun t => if t % 16 = 0 ∧ t < 256 then ([0, 0] : Bytes) else [0xFF, 0])).flatten ++ okPage
def okAns : List TargetAns := (List.range 16).map (fun k => { target := 16 * k, id := [0xAA, 0xBB], trainsAt := 1600 })

/-- The first byte of entry `t` of a table of two-byte entries. -/
theorem pair_head (f : Nat → Bytes) (hf : ∀ t, (f t).length = 2) (rest : Bytes) : ∀ n t a, t < n →
    ((((List.range' a n).map f).flatten ++ rest).drop (2 * t)).take 1 = (f (a + t)).take 1 := by
  intro n
  induction n with
  | zero => intro t a h; omega
  | succ n ih =>
    intro t a h
    obtain ⟨x, y, hx⟩ : ∃ x y, f a = [x, y] := by
      have := hf a
      match f a, this with
      | [x, y], _ => exact ⟨x, y, rfl⟩
    cases t with
    | zero => simp [List.range'_succ, hx]
    | succ t =>
      have e : a + (t + 1) = (a + 1) + t := by omega
      rw [e, ← ih t (a + 1) (by omega), List.range'_succ]
      simp [hx, Nat.mul_succ]

theorem okDesc_entry (t : Nat) (h : t < 1024) : descPageNo okDesc t = if t % 16 = 0 ∧ t < 256 then 0 else 255 := by
  have hne : okDesc ≠ [] := by decide +kernel
  have hsplit : okDesc = okDesc.take 128 ++ (((List.range' 0 1024).map (fun t => if t % 16 = 0 ∧ t < 256 then ([0, 0] : Bytes) else [0xFF, 0])).flatten ++ okPage) := by decide +kernel
  have hlen : (okDesc.take 128).length = 128 := by decide +kernel
  have key : (okDesc.drop (128 + 2 * t)).take 1 = (if t % 16 = 0 ∧ t < 256 then ([0, 0] : Bytes) else [0xFF, 0]).take 1 := by
    rw [hsplit, ← List.drop_drop, List.drop_append_of_le_length (by omega), List.drop_of_length_le (l := okDesc.take 128) (by omega), List.nil_append]
    have := pair_head (fun t => if t % 16 = 0 ∧ t < 256 then ([0, 0] : Bytes) else [0xFF, 0]) (by intro t; split <;> rfl) okPage 1024 t 0 h
    simpa using this
  simp only [descPageNo, hne, if_false, fld, slice, key]
  split <;> decide +kernel

theorem okDesc_targets (c : Nat) (h : c < 64) : descTargets okDesc c = if c < 16 then [16 * c] else [] := by
  have e : descTargets okDesc c = (chanTargets c).filter (fun t => decide (t % 16 = 0 ∧ t < 256)) := by
    refine List.filter_congr fun t ht => ?_
    have : t < 1024 := by simp only [chanTargets, List.mem_map, List.mem_range] at ht; obtain ⟨k, hk, rfl⟩ := ht; omega
    rw [okDesc_entry t this]
    by_cases hp : t % 16 = 0 ∧ t < 256 <;> simp [hp]
  rw [e]
  have : ∀ c : Fin 64, (chanTargets c.val).filter (fun t => decide (t % 16 = 0 ∧ t < 256)) = if c.val < 16 then [16 * c.val] else [] := by decide +kernel
  exact this ⟨c, h⟩

theorem okDesc_page (k : Fin 16) : descPage okDesc (16 * k.val) = okPage := by
  have e : slice okDesc 2176 512 = okPage := by decide +kernel
  rw [descPage, okDesc_entry _ (by omega), if_pos ⟨by omega, by omega⟩]
  exact e

theorem okDesc_loads (k : Fin 16) : descLoads okDesc (16 * k.val / 16) = 1 := by
  revert k; decide +kernel

theorem okDesc_lp (k : Fin 16) : descLp okDesc (16 * k.val / 16) = false := by
  have h : 16 * k.val / 16 = k.val := by omega
  rw [descLp, okDesc_targets _ (by omega), h, if_pos (by omega)]
  simp only [descByte, List.all_cons, List.all_nil, okDesc_page]
  have e : bit (fld okPage 25 1) 1 = false := by decide +kernel
  simp [e]

theorem okDesc_limit (k : Fin 16) : descLimit okDesc (16 * k.val / 16) (descTargets okDesc (16 * k.val / 16)) = 1600 := by
  have h : 16 * k.val / 16 = k.val := by omega
  rw [descLimit, okDesc_lp, okDesc_loads, okDesc_targets _ (by omega), h, if_pos (by omega)]
  simp only [List.foldl_cons, List.foldl_nil, okDesc_page]
  decide +kernel

theorem okDesc_right (p : Nat → Bool) (h : ∀ k : Fin 16, p (16 * k.val) = false) : wrongTarget okDesc p = none := by
  simp only [wrongTarget, List.find?_eq_none, List.mem_range]
  intro t ht hx
  rw [okDesc_entry t ht] at hx
  by_cases hp : t % 16 = 0 ∧ t < 256
  · have := h ⟨t / 16, by omega⟩
    rw [show 16 * (t / 16) = t by omega] at this
    simp [this] at hx
  · simp [hp] at hx

/-- A build passes where every check finds nothing wrong (R261). -/
theorem build_passes (old d : Bytes) (extend : Bool) (l : List TargetAns) (hd : descOk d = true) (hl : (List.range 64).find? (fun c => decide (16 < descLoads d c)) = none)
    (hw : wrongTarget d (loadsBad d) = none) (hr : wrongTarget d (fun t => !(answerOf l t).responds) = none) (hi : wrongTarget d (fun t => !idAgrees (descPage d t) (answerOf l t).id) = none)
    (hq : wrongTarget d (fun t => !(answerOf l t).paramOk) = none)
    (ht : wrongTarget d (fun t => !trainsAny d (t / 16) (descTargets d (t / 16)) (answerOf l t).trainsAt) = none) (hc : (List.range 64).countP (fun c => descTargets d c != []) = 16)
    (hf : (List.range 1024).find? (conflicts old d) = none) : buildCheck old extend d l = (0, 0) := by
  simp only [buildCheck, hd, hl, hw, hr, hi, hq, ht, hc, hf]
  cases extend <;> rfl

theorem okDesc_passes (extend : Bool) (old : Bytes) (ho : ∀ t, conflicts old okDesc t = false) : buildCheck old extend okDesc okAns = (0, 0) := by
  have hd : descOk okDesc = true := by
    have h1 : (List.range 1024).all (fun t => descPageNo okDesc t == 0xFF || decide (descPageNo okDesc t < fld okDesc 2 2)) = true := by
      have hn : fld okDesc 2 2 = 1 := by decide +kernel
      simp only [List.all_eq_true, List.mem_range, hn]
      intro t ht
      rw [okDesc_entry t ht]
      by_cases hp : t % 16 = 0 ∧ t < 256 <;> simp [hp]
    have h2 : (List.range (fld okDesc 2 2)).all (fun i => pageOk (slice okDesc (2176 + 512 * i) 512)) = true := by
      have hn : fld okDesc 2 2 = 1 := by decide +kernel
      have hs : slice okDesc 2176 512 = okPage := by decide +kernel
      have hp : pageOk okPage = true := by decide +kernel
      simp [hn, List.range_succ, hs, hp]
    have h3 : okDesc.length = 2688 := by decide +kernel
    simp only [descOk, h1, h2, h3, Bool.and_true]
    decide +kernel
  have hl : (List.range 64).find? (fun c => decide (16 < descLoads okDesc c)) = none := by decide +kernel
  have hw : wrongTarget okDesc (loadsBad okDesc) = none := by
    refine okDesc_right _ fun k => ?_
    have hi : fld okDesc (129 + 2 * (16 * k.val)) 1 = 0 := by revert k; decide +kernel
    have hb : bit (fld okPage 25 1) 0 = true := by decide +kernel
    have h : 16 * k.val / 16 = k.val := by omega
    have ha : descAllows okDesc (16 * k.val / 16) = true := by
      rw [descAllows, okDesc_lp, okDesc_loads, okDesc_targets _ (by omega), h, if_pos (by omega)]
      simp only [descByte, List.all_cons, List.all_nil, okDesc_page, hb]
      decide +kernel
    simp only [loadsBad, okDesc_loads, hi, ha]
    decide
  have hr : wrongTarget okDesc (fun t => !(answerOf okAns t).responds) = none := okDesc_right _ (by decide +kernel)
  have hi : wrongTarget okDesc (fun t => !idAgrees (descPage okDesc t) (answerOf okAns t).id) = none := by
    refine okDesc_right _ fun k => ?_
    rw [okDesc_page]
    revert k; decide +kernel
  have hq : wrongTarget okDesc (fun t => !(answerOf okAns t).paramOk) = none := okDesc_right _ (by decide +kernel)
  have ht : wrongTarget okDesc (fun t => !trainsAny okDesc (t / 16) (descTargets okDesc (t / 16)) (answerOf okAns t).trainsAt) = none := by
    refine okDesc_right _ fun k => ?_
    simp only [trainsAny, okDesc_limit, okDesc_lp]
    revert k; decide +kernel
  have hc : (List.range 64).countP (fun c => descTargets okDesc c != []) = 16 := by
    have : (List.range 64).countP (fun c => descTargets okDesc c != []) = (List.range 64).countP (fun c => decide (c < 16)) := by
      refine List.countP_congr fun c h => ?_
      rw [okDesc_targets c (List.mem_range.mp h)]
      by_cases hx : c < 16 <;> simp [hx]
    rw [this]; decide +kernel
  have hf : (List.range 1024).find? (conflicts old okDesc) = none := by simp [List.find?_eq_none, ho]
  exact build_passes old okDesc extend okAns hd hl hw hr hi hq ht hc hf
/-- A key that no slot holds is loaded into one. -/
theorem key_here (s : State) (e : RowEng) (r : CipherReq) (k : Bytes) (h : e.keys.find? (fun x => x.src == r.key) = none) (hk : s.engineKey r.key r.selfTest = some k) :
    s.cipherKey e r = some (KeySlot.of r.key k) := by
  simp only [State.cipherKey, h, hk, Option.map]
/-- No slot writes to its area where no listed one does. -/
theorem slots_quiet (s : State) (h : s.boards.slots.all (fun p => !p.2.rpaWriting) = true) (m : Nat) : (s.slot m).rpaWriting = false := by
  show (s.boards.slots.get noSlot m).rpaWriting = false
  generalize s.boards.slots = l at h
  induction l with
  | nil => rfl
  | cons a r ih =>
    simp only [List.all_cons, Bool.and_eq_true, Bool.not_eq_true'] at h
    simp only [SMap.get]
    split
    · exact h.1
    · split
      · rfl
      · exact ih h.2
/-- A frame whose end bit is 0 is no answer. -/
theorem even_answers_nothing (i : Nat) (f : BitVec 48) (h : f.toNat % 2 = 0) (p : BitVec 32) : f ≠ shortAnswer i p := by
  intro e
  rw [e] at h
  simp only [shortAnswer, frameOf, BitVec.toNat_ofNat] at h
  omega
/-- Blocks on the eight lines of mode 3 are read back. -/
theorem line8 (s : State) (n : Nat) (f : Bytes) (hm : (s.slot n).mode = 3) (hf : f.length = 512) : blockRead (lineCount (s.slot n).mode) 512 (blockLines (lineCount (s.slot n).mode) f) = some f := by
  rw [hm]; exact hf ▸ Laws.blockRead_eight f
theorem lines8 (s : State) (n : Nat) (l : List Bytes) (hm : (s.slot n).mode = 3) (hl : ∀ f ∈ l, f.length = 512) :
    blocksRead (lineCount (s.slot n).mode) 512 (l.map (blockLines (lineCount (s.slot n).mode))) = some l := by
  rw [hm]; exact Laws.blocksRead_eight 512 l hl
/-- The frames of an operation are 512 bytes each, and as many as its parts. -/
theorem frames_512 (key : Bytes) (parts : List Bytes) (h : ∀ p ∈ parts, p.length = 480) : ∀ f ∈ rpaFrames key parts, f.length = 512 := by
  intro f hf
  obtain ⟨q, hq, x, rfl, hx⟩ := Laws.rpaFrames_mem key parts f hf
  simp [h q hq, hx]
theorem frames_count (key : Bytes) (parts : List Bytes) : (rpaFrames key parts).length = parts.length := by
  rcases List.eq_nil_or_concat parts with rfl | ⟨l, p, rfl⟩
  · rfl
  · rw [List.concat_eq_append, Laws.rpaFrames_concat]; simp
/-- What a part of a response carries. -/
theorem part_of (nonce : Bytes) (type : Nat) (hn : nonce.length = 16) (ht : type < 65536) (d : Bytes) (c a k : Nat) :
    (rpaPart d nonce c a k type).length = 480 ∧ slice (rpaPart d nonce c a k type) 256 16 = nonce ∧ fld (rpaPart d nonce c a k type) 284 2 = type :=
  ⟨Laws.rpaPart_length _ _ _ _ _ _, Laws.rpaPart_nonce _ _ _ _ _ _ hn, by rw [Laws.rpaPart_type]; omega⟩
/-- An object is what the reads of its extents delivered. -/
theorem object_one (t : Ticket) (b : Bytes) (es : List Extent) (h : t.extents (.ok []) = some es) (hl : b.length = extentsLen es) : objectOf t { data := .ok b } = some b := by
  simp only [objectOf, h, hl, if_true]

/-! Well-formedness refuses each kind of ill-formed command. -/

theorem test_wf_ring : Instr.wellFormed (.sqTail 0 4096 0) = false := by decide +kernel
theorem test_wf_ring_last : Instr.wellFormed (.sqTail 0 4095 0) = true := by decide +kernel
theorem test_wf_unit : Instr.wellFormed (.itemStart 65536) = false := by decide +kernel
theorem test_wf_target : Instr.wellFormed (.fcRead 1024 0 0 0 0 []) = false := by decide +kernel
theorem test_wf_lun : Instr.wellFormed (.fcRead 0 8 0 0 0 []) = false := by decide +kernel
theorem test_wf_block : Instr.wellFormed (.fcRead 0 0 (2 ^ 32) 0 0 []) = false := by decide +kernel
theorem test_wf_page : Instr.wellFormed (.fcRead 0 0 0 4096 0 []) = false := by decide +kernel
theorem test_wf_class : Instr.wellFormed (.fcRead 0 0 0 0 4 []) = false := by decide +kernel
theorem test_wf_crate : Instr.wellFormed (.rowProgrammed (2 ^ 32) []) = false := by decide +kernel
theorem test_wf_crossing : Instr.wellFormed (.reconciliation 69 0) = false := by decide +kernel
theorem test_wf_bar_byte : Instr.wellFormed (.latchedRead 0 0 (2 ^ 24) 4) = false := by decide +kernel
theorem test_wf_width : Instr.wellFormed (.latchedRead 0 0 0 9) = false := by decide +kernel
theorem test_wf_bar : Instr.wellFormed (.registerWrite { bar := 5, offset := 0, value := 0 }) = false := by decide +kernel
theorem test_wf_bar_odd : Instr.wellFormed (.registerWrite { bar := 1, offset := 0, value := 0 }) = false := by decide +kernel
theorem test_wf_value : Instr.wellFormed (.registerWrite { offset := 0, value := 2 ^ 32 }) = false := by decide +kernel
theorem test_wf_handle : Instr.wellFormed (.ed25519Sign { pReq [] with keyOut := 2 ^ 32 }) = false := by decide +kernel
theorem test_wf_reads : Instr.wellFormed (.ticketFetch 0 0 [.err, .err, .err, .err, .err]) = false := by decide +kernel
theorem test_wf_find : Instr.wellFormed (.oFind 0 1 2 3 5 8) = false := by decide +kernel
theorem test_wf_row : Instr.wellFormed (.gcm { cReq [] [] [] with row := 0x2801 }) = false := by decide +kernel
theorem test_wf_source : Instr.wellFormed (.tamperDetection [{ source := 32, detail := 0 }] 0) = false := by decide +kernel
theorem test_wf_calibration_target : Instr.wellFormed (.readLevelCalibration { target := 1024 }) = false := by decide +kernel

theorem test_wf_read_bar : Instr.wellFormed (.latchedRead 0 3 0 4) = false := by decide +kernel
theorem test_wf_short_set : Instr.wellFormed (.shortSetComplete (cipherAddr 4) (2 ^ 3)) = false := by decide +kernel
/-- The bits that the well-formedness check knows are those of the short sets (R218). -/
theorem test_short_mask : (List.range 16).all (fun k => shortMask (4096 * k) == shortBits k) = true := by decide +kernel

/-! Vectors of the self-test ROM: FIPS 197 and FIPS 180-4, HMAC of RFC 4231. -/

theorem test_rom_aes : (cipherRom.take 1).all CipherVector.passes = true := by decide +kernel
theorem test_rom_hashes : (hashRom.filter (fun v => v.alg == .sha256 || v.alg == .sha384)).all HashVector.passes = true := by decide +kernel

/-! Frames of the cartridge link: C0's CRC7 is 0x4A and the CRC16 of 512 bytes 0xFF is 0x7FA1, the check values of these polynomials. -/

theorem test_crc7 : commandFrame 0 0 = 0x400000000095 := by decide +kernel
theorem test_crc16 : crc16 (List.replicate 4096 true) = 0x7FA1 := by decide +kernel

/-- Loop frames at their body's end, for the three ways on (R182). -/
theorem test_land_loop : ({ loops := [{ start := 3, len := 2, left := 1, iter := 1, step := none }], pc := 5 } : Vm).land = { loops := [{ start := 3, len := 2, left := 0, iter := 2, step := none }], pc := 3, cycles := 1 } := by decide +kernel
theorem test_land_loopb : (({ loops := [{ start := 3, len := 2, left := 1, iter := 1, step := some 6 }], pc := 5 } : Vm).land).get 15 = 64 := by decide +kernel
theorem test_land_out : ({ loops := [{ start := 3, len := 2, left := 0, iter := 1, step := none }], pc := 5 } : Vm).land = { pc := 5 } := by decide +kernel

/-! The plate-read applet of the worked example of chapter 6: its code passes the verifier and has the budget that the example states. -/

def plateApplet : List (BitVec 32) :=
  [0x16204D52, 0x16400007, 0x1650003C, 0x49006014, 0x296F0000, 0x41620013, 0x60F00000, 0x10330001, 0x287F0002, 0x4174000F, 0x288F0003, 0x4285000D] ++
  [0x2B9F0008, 0x26900000, 0x2B9F000C, 0x26900004, 0x2B9F0010, 0x26900008, 0x2B9F0014, 0x2690000C, 0x2B9F0004, 0x26900010, 0x10A3FFFF, 0x610A0101, 0x4F000000]
theorem test_plate_verifies : verify false plateApplet = none := by decide +kernel
theorem test_plate_budget : worstOf plateApplet = (65, 960) := by decide +kernel
/-- A backward branch does not pass. -/
theorem test_backward_branch : verify false (plateApplet.set 5 0x4162FFFF) ≠ none := by decide +kernel
/-- The words of the example at indices 22 and 0: ADDI v10, v3, −1 and LDI v2, 0x4D52. -/
theorem test_word_addi : ((({} : Vm).put 3 5).run (otnOf 0x10A3FFFF)).get 10 = 4 := by decide +kernel
theorem test_word_ldi : (({} : Vm).run (otnOf 0x16204D52)).get 2 = 0x4D52 := by decide +kernel

/-! The ticket of the worked example of chapter 2, and numbers of chapters 6, 10 and 18. -/

theorem test_extents : ((tkOf 2 18204 (leBytes 8 0x1000008000010000 ++ leBytes 8 0x03EC008000020000 ++ zeros 16) []).tk.extents (.ok [])).map (fun l => l.map (fun e => (e.addr, e.len))) = some [(0x0000200000400000, 262144), (0x0000200000800000, 64256)] := by decide +kernel
theorem test_last_stall : stallAddr 63 8 = 0x3778 := by decide +kernel
theorem test_param0 : State.reset.devReg 0x20 = r32 0x08080801 := by decide +kernel

/-! Single steps. -/

/-- A step takes the command at the front and leaves the queue's rest. -/
theorem test_step_front : (match step { State.reset with pending := [.fence { id := 7 }, .shred] } with | .next u => u.pending | _ => []) = [.shred] := by decide +kernel
/-- On an empty queue the RTC counts. -/
theorem test_step_idle : (match step State.reset with | .next u => u.now | _ => 9) = 1 := by decide +kernel
/-- The space wait is raised to 10 (R93). -/
theorem test_space_wait : (match execRegisterWrite { offset := 0x2014, value := 3 } (inMode { State.reset with power := { State.reset.power with pwrOk := true } } .service) with | .next u => u.classes.spaceWaitMs | _ => 0) = 10 := by decide +kernel
/-- A canonical state whose step goes on. -/
theorem test_meets_canonical : Canonical (withRing State.reset liveRing) ∧ (match step (withRing State.reset liveRing) with | .next _ => true | _ => false) = true :=
  ⟨⟨by decide +kernel, by decide +kernel, by dsimp only [BoardsCanonical]; decide +kernel⟩, by decide +kernel⟩
/-- A state with burnt bits in which a command goes on. -/
def burntState : State := { State.reset with guard := { State.reset.guard with otp := { State.reset.guard.otp with killAllowed := true } } }
theorem test_meets_burnt : burntState.guard.otp.counter.getLsbD 3 = true ∧ burntState.guard.otp.fuses.getLsbD 31 = true ∧ burntState.guard.otp.killAllowed = true ∧
    (match execNewNonce burntState with | .next _ => true | _ => false) = true := by decide +kernel

/-! States that meet the hypotheses of the statements, named after the clause. -/

def bells_1_at : State := withRing State.reset { liveRing with sqTail := 2 }
theorem test_meets_bells_1 : RingsCanonical bells_1_at ∧ (bells_1_at.ring 2).live = true ∧ (15#32).toNat % 65536 < (bells_1_at.ring 2).size ∧ (15#32).toNat % 65536 ≠ (bells_1_at.ring 2).sqTail := by decide +kernel
def bells_2_at : State := withRing State.reset { liveRing with cqHead := 14, unreleased := 3 }
theorem test_meets_bells_2 : RingsCanonical bells_2_at ∧ (bells_2_at.ring 2).live = true ∧ (1#32).toNat % 65536 < (bells_2_at.ring 2).size ∧ ((1#32).toNat % 65536 + (bells_2_at.ring 2).size - (bells_2_at.ring 2).cqHead) % (bells_2_at.ring 2).size ≤ (bells_2_at.ring 2).unreleased ∧ (bells_2_at.ring 2).cqHead < (bells_2_at.ring 2).size := by decide +kernel
def bells_3_at : State := withRing State.reset liveRing
theorem test_meets_bells_3 : RingsCanonical bells_3_at ∧ (bells_3_at.ring 2).live = true ∧ (bells_3_at.ring 2).size ≤ (16#32).toNat % 65536 ∧ (16#32).toNat % 65536 ≠ (bells_3_at.ring 2).sqTail ∧ (16#32).toNat % 65536 ≠ (bells_3_at.ring 2).cqHead := by decide +kernel
def bells_4_at : State := State.reset
theorem test_meets_bells_4 : RingsCanonical bells_4_at ∧ (bells_4_at.ring 2).live = false ∧ (1 : Fin 2) ≠ (bells_4_at.ring 2).port := by decide +kernel
def bells_same_at : State := withRing State.reset { liveRing with sqTail := 2 }
theorem test_meets_bells_same : RingsCanonical bells_same_at ∧ (bells_same_at.ring 2).live = true ∧ (65538#32).toNat % 65536 = (bells_same_at.ring 2).sqTail := by decide +kernel
def bells_cq_at : State := withRing State.reset { liveRing with cqHead := 14, unreleased := 3 }
theorem test_meets_bells_cq : RingsCanonical bells_cq_at ∧ (bells_cq_at.ring 2).live = true ∧ (2#32).toNat % 65536 ≠ (bells_cq_at.ring 2).cqHead ∧ (bells_cq_at.ring 2).unreleased < ((2#32).toNat % 65536 + (bells_cq_at.ring 2).size - (bells_cq_at.ring 2).cqHead) % (bells_cq_at.ring 2).size := by decide +kernel
def otnak_add_at : State := withItem State.reset ({ regs := (Vector.replicate 16 0).set 2 3 |>.set 3 5 |>.set 15 9, pc := 1 })
theorem test_meets_otnak_add : Running otnak_add_at 7 (itemOf ({ regs := (Vector.replicate 16 0).set 2 3 |>.set 3 5 |>.set 15 9, pc := 1 })) itemTk ∧ ({ regs := (Vector.replicate 16 0).set 2 3 |>.set 3 5 |>.set 15 9, pc := 1 } : Vm).ended = .running ∧ (((({ regs := (Vector.replicate 16 0).set 2 3 |>.set 3 5 |>.set 15 9, pc := 1 }) : Vm).put 1 8).next 1 : Vm).pc < 4 := by decide +kernel
def otnak_beq_at : State := withItem State.reset ({ regs := (Vector.replicate 16 0).set 2 3 |>.set 3 5 |>.set 15 9, pc := 1 })
theorem test_meets_otnak_beq : Running otnak_beq_at 7 (itemOf ({ regs := (Vector.replicate 16 0).set 2 3 |>.set 3 5 |>.set 15 9, pc := 1 })) itemTk ∧ ({ regs := (Vector.replicate 16 0).set 2 3 |>.set 3 5 |>.set 15 9, pc := 1 } : Vm).ended = .running ∧ (((({ regs := (Vector.replicate 16 0).set 2 3 |>.set 3 5 |>.set 15 9, pc := 1 }) : Vm)).next 1 : Vm).pc < 4 := by decide +kernel
def otnak_loop_at : State := withItem State.reset ({ regs := (Vector.replicate 16 0).set 2 3 |>.set 3 5 |>.set 15 9, pc := 1 })
theorem test_meets_otnak_loop : Running otnak_loop_at 7 (itemOf ({ regs := (Vector.replicate 16 0).set 2 3 |>.set 3 5 |>.set 15 9, pc := 1 })) itemTk ∧ (3 : BitVec 12) ≠ 0 ∧ ({ regs := (Vector.replicate 16 0).set 2 3 |>.set 3 5 |>.set 15 9, pc := 1 } : Vm).ended = .running ∧ ({ (({ regs := (Vector.replicate 16 0).set 2 3 |>.set 3 5 |>.set 15 9, pc := 1 }) : Vm) with pc := 2, cycles := 2, loops := [{ start := 2, len := 1, left := 2, iter := 1, step := none }] } : Vm).pc < 4 := by decide +kernel
def otnak_loopb_at : State := withItem State.reset ({ regs := (Vector.replicate 16 0).set 2 3 |>.set 3 5 |>.set 15 9, pc := 1, input := List.replicate 100 0 })
theorem test_meets_otnak_loopb : Running otnak_loopb_at 7 (itemOf ({ regs := (Vector.replicate 16 0).set 2 3 |>.set 3 5 |>.set 15 9, pc := 1, input := List.replicate 100 0 })) itemTk ∧ 6 ≤ (6 : BitVec 12).toNat ∧ (6 : BitVec 12).toNat ≤ 10 ∧ (2 - 1) * 2 ^ (6 : BitVec 12).toNat < (({ regs := (Vector.replicate 16 0).set 2 3 |>.set 3 5 |>.set 15 9, pc := 1, input := List.replicate 100 0 }) : Vm).input.length ∧ (({ regs := (Vector.replicate 16 0).set 2 3 |>.set 3 5 |>.set 15 9, pc := 1, input := List.replicate 100 0 }) : Vm).input.length ≤ 2 * 2 ^ (6 : BitVec 12).toNat ∧ ({ regs := (Vector.replicate 16 0).set 2 3 |>.set 3 5 |>.set 15 9, pc := 1, input := List.replicate 100 0 } : Vm).ended = .running ∧ ({ (({ regs := (Vector.replicate 16 0).set 2 3 |>.set 3 5 |>.set 15 9, pc := 1, input := List.replicate 100 0 }) : Vm) with pc := 2, cycles := 2, regs := (({ regs := (Vector.replicate 16 0).set 2 3 |>.set 3 5 |>.set 15 9, pc := 1, input := List.replicate 100 0 }) : Vm).regs.set 15 0, loops := [{ start := 2, len := 1, left := 1, iter := 1, step := some 6 }] } : Vm).pc < 4 := by decide +kernel
def otnak_leave_at : State := withItem State.reset ({ regs := (Vector.replicate 16 0).set 2 3 |>.set 3 5 |>.set 15 9, pc := 1, loops := [{ start := 1, len := 1, left := 1, iter := 1, step := none }] })
theorem test_meets_otnak_leave : Running otnak_leave_at 7 (itemOf ({ regs := (Vector.replicate 16 0).set 2 3 |>.set 3 5 |>.set 15 9, pc := 1, loops := [{ start := 1, len := 1, left := 1, iter := 1, step := none }] })) itemTk ∧ (({ regs := (Vector.replicate 16 0).set 2 3 |>.set 3 5 |>.set 15 9, pc := 1, loops := [{ start := 1, len := 1, left := 1, iter := 1, step := none }] }) : Vm).loops = [{ start := 1, len := 1, left := 1, iter := 1, step := none }] ∧ ({ regs := (Vector.replicate 16 0).set 2 3 |>.set 3 5 |>.set 15 9, pc := 1, loops := [{ start := 1, len := 1, left := 1, iter := 1, step := none }] } : Vm).ended = .running ∧ ({ (({ regs := (Vector.replicate 16 0).set 2 3 |>.set 3 5 |>.set 15 9, pc := 1, loops := [{ start := 1, len := 1, left := 1, iter := 1, step := none }] }) : Vm) with pc := 2, cycles := 1, loops := [] } : Vm).pc < 4 := by decide +kernel
def otnak_find_at : State := withItem State.reset ({ regs := (Vector.replicate 16 0).set 2 3 |>.set 3 5 |>.set 15 9, pc := 1, input := [0, 0, 0, 1, 5, 0] })
theorem test_meets_otnak_find : Running otnak_find_at 7 (itemOf ({ regs := (Vector.replicate 16 0).set 2 3 |>.set 3 5 |>.set 15 9, pc := 1, input := [0, 0, 0, 1, 5, 0] })) itemTk ∧ (({ regs := (Vector.replicate 16 0).set 2 3 |>.set 3 5 |>.set 15 9, pc := 1, input := [0, 0, 0, 1, 5, 0] }) : Vm).inBytes 4 1 = beBytes 1 ((({ regs := (Vector.replicate 16 0).set 2 3 |>.set 3 5 |>.set 15 9, pc := 1, input := [0, 0, 0, 1, 5, 0] }) : Vm).get 3).toNat ∧ ((({ regs := (Vector.replicate 16 0).set 2 3 |>.set 3 5 |>.set 15 9, pc := 1, input := [0, 0, 0, 1, 5, 0] }) : Vm).get 2).toNat ≤ 4 ∧ 4 + 1 ≤ ((({ regs := (Vector.replicate 16 0).set 2 3 |>.set 3 5 |>.set 15 9, pc := 1, input := [0, 0, 0, 1, 5, 0] }) : Vm).get 2).toNat + 2 ^ 6 ∧ (({ regs := (Vector.replicate 16 0).set 2 3 |>.set 3 5 |>.set 15 9, pc := 1, input := [0, 0, 0, 1, 5, 0] }) : Vm).inBytes 3 1 ≠ beBytes 1 ((({ regs := (Vector.replicate 16 0).set 2 3 |>.set 3 5 |>.set 15 9, pc := 1, input := [0, 0, 0, 1, 5, 0] }) : Vm).get 3).toNat ∧ ({ regs := (Vector.replicate 16 0).set 2 3 |>.set 3 5 |>.set 15 9, pc := 1, input := [0, 0, 0, 1, 5, 0] } : Vm).ended = .running ∧ (((({ regs := (Vector.replicate 16 0).set 2 3 |>.set 3 5 |>.set 15 9, pc := 1, input := [0, 0, 0, 1, 5, 0] }) : Vm).put 1 4).next 12 : Vm).pc < 4 := by decide +kernel
def otnak_find_none_at : State := withItem State.reset ({ regs := (Vector.replicate 16 0).set 2 3 |>.set 3 5 |>.set 15 9, pc := 1, input := [] })
theorem test_meets_otnak_find_none : Running otnak_find_none_at 7 (itemOf ({ regs := (Vector.replicate 16 0).set 2 3 |>.set 3 5 |>.set 15 9, pc := 1, input := [] })) itemTk ∧ (∀ b ∈ List.range 64, ((({ regs := (Vector.replicate 16 0).set 2 3 |>.set 3 5 |>.set 15 9, pc := 1, input := [] }) : Vm).inBytes (3 + b) 4 ≠ beBytes 4 ((({ regs := (Vector.replicate 16 0).set 2 3 |>.set 3 5 |>.set 15 9, pc := 1, input := [] }) : Vm).get 3).toNat)) ∧ ({ regs := (Vector.replicate 16 0).set 2 3 |>.set 3 5 |>.set 15 9, pc := 1, input := [] } : Vm).ended = .running ∧ (((({ regs := (Vector.replicate 16 0).set 2 3 |>.set 3 5 |>.set 15 9, pc := 1, input := [] }) : Vm).put 1 0xFFFFFFFFFFFFFFFF).next 12 : Vm).pc < 4 := by decide +kernel
def otnak_emark_at : State := withItem State.reset ({ regs := (Vector.replicate 16 0).set 2 3 |>.set 3 5 |>.set 15 9, pc := 1, marks := [0], input := [0, 0, 0, 1, 5, 0] })
theorem test_meets_otnak_emark : Running otnak_emark_at 7 (itemOf ({ regs := (Vector.replicate 16 0).set 2 3 |>.set 3 5 |>.set 15 9, pc := 1, marks := [0], input := [0, 0, 0, 1, 5, 0] })) itemTk ∧ (({ regs := (Vector.replicate 16 0).set 2 3 |>.set 3 5 |>.set 15 9, pc := 1, marks := [0], input := [0, 0, 0, 1, 5, 0] }) : Vm).search = false ∧ (({ regs := (Vector.replicate 16 0).set 2 3 |>.set 3 5 |>.set 15 9, pc := 1, marks := [0], input := [0, 0, 0, 1, 5, 0] }) : Vm).marksFromHost = false ∧ (({ regs := (Vector.replicate 16 0).set 2 3 |>.set 3 5 |>.set 15 9, pc := 1, marks := [0], input := [0, 0, 0, 1, 5, 0] }) : Vm).marks.getLast? = some 0 ∧ 0 < ((({ regs := (Vector.replicate 16 0).set 2 3 |>.set 3 5 |>.set 15 9, pc := 1, marks := [0], input := [0, 0, 0, 1, 5, 0] }) : Vm).get 2).toNat ∧ ((({ regs := (Vector.replicate 16 0).set 2 3 |>.set 3 5 |>.set 15 9, pc := 1, marks := [0], input := [0, 0, 0, 1, 5, 0] }) : Vm).get 2).toNat < (({ regs := (Vector.replicate 16 0).set 2 3 |>.set 3 5 |>.set 15 9, pc := 1, marks := [0], input := [0, 0, 0, 1, 5, 0] }) : Vm).input.length ∧ (({ regs := (Vector.replicate 16 0).set 2 3 |>.set 3 5 |>.set 15 9, pc := 1, marks := [0], input := [0, 0, 0, 1, 5, 0] }) : Vm).marks.length < 65535 ∧ ({ regs := (Vector.replicate 16 0).set 2 3 |>.set 3 5 |>.set 15 9, pc := 1, marks := [0], input := [0, 0, 0, 1, 5, 0] } : Vm).ended = .running ∧ (({ (({ regs := (Vector.replicate 16 0).set 2 3 |>.set 3 5 |>.set 15 9, pc := 1, marks := [0], input := [0, 0, 0, 1, 5, 0] }) : Vm) with marks := [0, 3] } : Vm).next 4 : Vm).pc < 4 := by decide +kernel
def otnak_eindex_at : State := withItem State.reset ({ regs := (Vector.replicate 16 0).set 2 3 |>.set 3 5 |>.set 15 9, pc := 1 })
theorem test_meets_otnak_eindex : Running otnak_eindex_at 7 (itemOf ({ regs := (Vector.replicate 16 0).set 2 3 |>.set 3 5 |>.set 15 9, pc := 1 })) itemTk ∧ (({ regs := (Vector.replicate 16 0).set 2 3 |>.set 3 5 |>.set 15 9, pc := 1 }) : Vm).search = false ∧ (({ regs := (Vector.replicate 16 0).set 2 3 |>.set 3 5 |>.set 15 9, pc := 1 }) : Vm).index.length < 1024 ∧ ({ regs := (Vector.replicate 16 0).set 2 3 |>.set 3 5 |>.set 15 9, pc := 1 } : Vm).ended = .running ∧ (({ (({ regs := (Vector.replicate 16 0).set 2 3 |>.set 3 5 |>.set 15 9, pc := 1 }) : Vm) with index := [{ kind := 4, frame := 5, value := (({ regs := (Vector.replicate 16 0).set 2 3 |>.set 3 5 |>.set 15 9, pc := 1 }) : Vm).slotBytes 3 32 }] } : Vm).next 8 : Vm).pc < 4 := by decide +kernel
def otnak_ematch_at : State := withItem State.reset ({ regs := (Vector.replicate 16 0).set 2 3 |>.set 3 5 |>.set 15 9, pc := 1, search := true, maxMatches := 1 })
theorem test_meets_otnak_ematch : Running otnak_ematch_at 7 (itemOf ({ regs := (Vector.replicate 16 0).set 2 3 |>.set 3 5 |>.set 15 9, pc := 1, search := true, maxMatches := 1 })) itemTk ∧ (({ regs := (Vector.replicate 16 0).set 2 3 |>.set 3 5 |>.set 15 9, pc := 1, search := true, maxMatches := 1 }) : Vm).search = true ∧ (({ regs := (Vector.replicate 16 0).set 2 3 |>.set 3 5 |>.set 15 9, pc := 1, search := true, maxMatches := 1 }) : Vm).matchRecs.length < (({ regs := (Vector.replicate 16 0).set 2 3 |>.set 3 5 |>.set 15 9, pc := 1, search := true, maxMatches := 1 }) : Vm).maxMatches ∧ ({ regs := (Vector.replicate 16 0).set 2 3 |>.set 3 5 |>.set 15 9, pc := 1, search := true, maxMatches := 1 } : Vm).ended = .running ∧ (({ (({ regs := (Vector.replicate 16 0).set 2 3 |>.set 3 5 |>.set 15 9, pc := 1, search := true, maxMatches := 1 }) : Vm) with matchRecs := [{ frame := 5, payload := (({ regs := (Vector.replicate 16 0).set 2 3 |>.set 3 5 |>.set 15 9, pc := 1, search := true, maxMatches := 1 }) : Vm).slotBytes 3 32 }] } : Vm).next 8 : Vm).pc < 4 := by decide +kernel
def otnak_end_at : State := withItem State.reset ({ regs := (Vector.replicate 16 0).set 2 3, pc := 1, cycles := 8, worst := 9 })
theorem test_meets_otnak_end : Running otnak_end_at 7 (itemOf ({ regs := (Vector.replicate 16 0).set 2 3, pc := 1, cycles := 8, worst := 9 })) itemTk ∧ (8 + 1 : Nat) ≤ 9 ∧ (otnak_end_at.serving cipherAddr (rowNo 0x3000)).isSome = true ∧ (otnak_end_at.serving hashAddr (rowNo 0x3000)).isSome = true ∧ itemTk.verifies (some { ({ regs := (Vector.replicate 16 0).set 2 3, pc := 1, cycles := 8, worst := 9 } : Vm) with cycles := 9, ended := .ended }) = none := by decide +kernel
def otnak_end_worst_at : State := withItem (State.reset) ({ regs := (Vector.replicate 16 0).set 2 3, pc := 1, cycles := 8, worst := 8 })
theorem test_meets_otnak_end_worst : Running otnak_end_worst_at 7 (itemOf ({ regs := (Vector.replicate 16 0).set 2 3, pc := 1, cycles := 8, worst := 8 })) itemTk ∧ (8 : Nat) < 8 + 1 := by decide +kernel
def otnak_end_noeng_at : State := withItem ({ State.reset with units := { State.reset.units with st := (List.range 64).map (fun r => (cipherAddr r, { state := .retired })) } }) ({ regs := (Vector.replicate 16 0).set 2 3, pc := 1, cycles := 8, worst := 9 })
theorem test_meets_otnak_end_noeng : Running otnak_end_noeng_at 7 (itemOf ({ regs := (Vector.replicate 16 0).set 2 3, pc := 1, cycles := 8, worst := 9 })) itemTk ∧ otnak_end_noeng_at.serving cipherAddr (rowNo 0x3000) = none := by decide +kernel
def otnak_refuse_at : State := withItem State.reset ({ regs := (Vector.replicate 16 0).set 2 3, pc := 1, cycles := 8, worst := 9 })
theorem test_meets_otnak_refuse : Running otnak_refuse_at 7 (itemOf ({ regs := (Vector.replicate 16 0).set 2 3, pc := 1, cycles := 8, worst := 9 })) itemTk ∧ (8 + 1 : Nat) ≤ 9 ∧ (otnak_refuse_at.serving cipherAddr (rowNo 0x3000)).isSome = true ∧ (otnak_refuse_at.serving hashAddr (rowNo 0x3000)).isSome = true ∧ itemTk.verifies (some { ({ regs := (Vector.replicate 16 0).set 2 3, pc := 1, cycles := 8, worst := 9 } : Vm) with cycles := 9, ended := .refused 2 }) = none := by decide +kernel
def otnak_refuse_worst_at : State := withItem (State.reset) ({ regs := (Vector.replicate 16 0).set 2 3, pc := 1, cycles := 8, worst := 8 })
theorem test_meets_otnak_refuse_worst : Running otnak_refuse_worst_at 7 (itemOf ({ regs := (Vector.replicate 16 0).set 2 3, pc := 1, cycles := 8, worst := 8 })) itemTk ∧ (8 : Nat) < 8 + 1 := by decide +kernel
def otnak_refuse_noeng_at : State := withItem ({ State.reset with units := { State.reset.units with st := (List.range 64).map (fun r => (cipherAddr r, { state := .retired })) } }) ({ regs := (Vector.replicate 16 0).set 2 3, pc := 1, cycles := 8, worst := 9 })
theorem test_meets_otnak_refuse_noeng : Running otnak_refuse_noeng_at 7 (itemOf ({ regs := (Vector.replicate 16 0).set 2 3, pc := 1, cycles := 8, worst := 9 })) itemTk ∧ otnak_refuse_noeng_at.serving cipherAddr (rowNo 0x3000) = none := by decide +kernel
def otnak_hashm_at : State := withItem State.reset ({ regs := (Vector.replicate 16 0).set 2 3 |>.set 3 5, pc := 1, cycles := 0, worst := 900 })
theorem test_meets_otnak_hashm : Running otnak_hashm_at 7 (itemOf ({ regs := (Vector.replicate 16 0).set 2 3 |>.set 3 5, pc := 1, cycles := 0, worst := 900 })) itemTk ∧ (otnak_hashm_at.serving hashAddr (rowNo 0x3000)).isSome = true := by decide +kernel
def otnak_hashm_no_at : State := withItem { State.reset with units := { State.reset.units with st := (List.range 64).map (fun r => (hashAddr r, { state := .retired })) } } ({ regs := (Vector.replicate 16 0).set 2 3 |>.set 3 5, pc := 1, cycles := 0, worst := 900 })
theorem test_meets_otnak_hashm_no : Running otnak_hashm_no_at 7 (itemOf ({ regs := (Vector.replicate 16 0).set 2 3 |>.set 3 5, pc := 1, cycles := 0, worst := 900 })) itemTk ∧ otnak_hashm_no_at.serving hashAddr (rowNo 0x3000) = none := by decide +kernel
def otnak_st8_at : State := withItem State.reset ({ regs := (Vector.replicate 16 0).set 2 0x1122334455667788 |>.set 3 16381, pc := 1, slot := [(5, 7)], worst := 9 })
theorem test_meets_otnak_st8 : Running otnak_st8_at 7 (itemOf ({ regs := (Vector.replicate 16 0).set 2 0x1122334455667788 |>.set 3 16381, pc := 1, slot := [(5, 7)], worst := 9 })) itemTk ∧ ({ regs := (Vector.replicate 16 0).set 2 0x1122334455667788 |>.set 3 16381, pc := 1, slot := [(5, 7)], worst := 9 } : Vm).slot.wf zeroByte = true ∧ ({ regs := (Vector.replicate 16 0).set 2 0x1122334455667788 |>.set 3 16381, pc := 1, slot := [(5, 7)], worst := 9 } : Vm).loops = [] ∧ ({ regs := (Vector.replicate 16 0).set 2 0x1122334455667788 |>.set 3 16381, pc := 1, slot := [(5, 7)], worst := 9 } : Vm).pc + 1 < 4 := by decide +kernel
def otnak_st16_at : State := withItem State.reset ({ regs := (Vector.replicate 16 0).set 2 0x1122334455667788 |>.set 3 16381, pc := 1, slot := [(5, 7)], worst := 9 })
theorem test_meets_otnak_st16 : Running otnak_st16_at 7 (itemOf ({ regs := (Vector.replicate 16 0).set 2 0x1122334455667788 |>.set 3 16381, pc := 1, slot := [(5, 7)], worst := 9 })) itemTk ∧ ({ regs := (Vector.replicate 16 0).set 2 0x1122334455667788 |>.set 3 16381, pc := 1, slot := [(5, 7)], worst := 9 } : Vm).slot.wf zeroByte = true ∧ ({ regs := (Vector.replicate 16 0).set 2 0x1122334455667788 |>.set 3 16381, pc := 1, slot := [(5, 7)], worst := 9 } : Vm).loops = [] ∧ ({ regs := (Vector.replicate 16 0).set 2 0x1122334455667788 |>.set 3 16381, pc := 1, slot := [(5, 7)], worst := 9 } : Vm).pc + 1 < 4 := by decide +kernel
def otnak_st32_at : State := withItem State.reset ({ regs := (Vector.replicate 16 0).set 2 0x1122334455667788 |>.set 3 16381, pc := 1, slot := [(5, 7)], worst := 9 })
theorem test_meets_otnak_st32 : Running otnak_st32_at 7 (itemOf ({ regs := (Vector.replicate 16 0).set 2 0x1122334455667788 |>.set 3 16381, pc := 1, slot := [(5, 7)], worst := 9 })) itemTk ∧ ({ regs := (Vector.replicate 16 0).set 2 0x1122334455667788 |>.set 3 16381, pc := 1, slot := [(5, 7)], worst := 9 } : Vm).slot.wf zeroByte = true ∧ ({ regs := (Vector.replicate 16 0).set 2 0x1122334455667788 |>.set 3 16381, pc := 1, slot := [(5, 7)], worst := 9 } : Vm).loops = [] ∧ ({ regs := (Vector.replicate 16 0).set 2 0x1122334455667788 |>.set 3 16381, pc := 1, slot := [(5, 7)], worst := 9 } : Vm).pc + 1 < 4 := by decide +kernel
def otnak_st64_at : State := withItem State.reset ({ regs := (Vector.replicate 16 0).set 2 0x1122334455667788 |>.set 3 16381, pc := 1, slot := [(5, 7)], worst := 9 })
theorem test_meets_otnak_st64 : Running otnak_st64_at 7 (itemOf ({ regs := (Vector.replicate 16 0).set 2 0x1122334455667788 |>.set 3 16381, pc := 1, slot := [(5, 7)], worst := 9 })) itemTk ∧ ({ regs := (Vector.replicate 16 0).set 2 0x1122334455667788 |>.set 3 16381, pc := 1, slot := [(5, 7)], worst := 9 } : Vm).slot.wf zeroByte = true ∧ ({ regs := (Vector.replicate 16 0).set 2 0x1122334455667788 |>.set 3 16381, pc := 1, slot := [(5, 7)], worst := 9 } : Vm).loops = [] ∧ ({ regs := (Vector.replicate 16 0).set 2 0x1122334455667788 |>.set 3 16381, pc := 1, slot := [(5, 7)], worst := 9 } : Vm).pc + 1 < 4 := by decide +kernel
def otnak_turn_at : State := withTk { State.reset with units := { State.reset.units with items := [{ ticket := 7, unit := 0x3000, core := false, vm := { regs := (Vector.replicate 16 0).set 2 3 |>.set 3 5, pc := 1, cycles := 0, worst := 900 } }, { ticket := 8, unit := 0x3000, slot := 1, vm := { ended := .ended } }] } } itemTk
theorem test_meets_otnak_turn : Running otnak_turn_at 7 { ticket := 7, unit := 0x3000, core := false, vm := { regs := (Vector.replicate 16 0).set 2 3 |>.set 3 5, pc := 1, cycles := 0, worst := 900 } } itemTk ∧ (2 : Nat) < 4 := by decide +kernel
def otnak_emark0_at : State := withItem State.reset ({ regs := (Vector.replicate 16 0).set 2 3 |>.set 3 5 |>.set 15 9, pc := 1, input := [0, 0, 0, 1, 5, 0] })
theorem test_meets_otnak_emark0 : Running otnak_emark0_at 7 (itemOf ({ regs := (Vector.replicate 16 0).set 2 3 |>.set 3 5 |>.set 15 9, pc := 1, input := [0, 0, 0, 1, 5, 0] })) itemTk ∧ (({ regs := (Vector.replicate 16 0).set 2 3 |>.set 3 5 |>.set 15 9, pc := 1, input := [0, 0, 0, 1, 5, 0] }) : Vm).search = false ∧ (({ regs := (Vector.replicate 16 0).set 2 3 |>.set 3 5 |>.set 15 9, pc := 1, input := [0, 0, 0, 1, 5, 0] }) : Vm).marksFromHost = false ∧ (({ regs := (Vector.replicate 16 0).set 2 3 |>.set 3 5 |>.set 15 9, pc := 1, input := [0, 0, 0, 1, 5, 0] }) : Vm).marks = [] ∧ ((({ regs := (Vector.replicate 16 0).set 2 3 |>.set 3 5 |>.set 15 9, pc := 1, input := [0, 0, 0, 1, 5, 0] }) : Vm).get 2).toNat < (({ regs := (Vector.replicate 16 0).set 2 3 |>.set 3 5 |>.set 15 9, pc := 1, input := [0, 0, 0, 1, 5, 0] }) : Vm).input.length ∧ ({ regs := (Vector.replicate 16 0).set 2 3 |>.set 3 5 |>.set 15 9, pc := 1, input := [0, 0, 0, 1, 5, 0] } : Vm).ended = .running ∧ (({ (({ regs := (Vector.replicate 16 0).set 2 3 |>.set 3 5 |>.set 15 9, pc := 1, input := [0, 0, 0, 1, 5, 0] }) : Vm) with marks := [0, 3] } : Vm).next 4 : Vm).pc < 4 := by decide +kernel
def otnak_emark_no_at : State := withItem State.reset ({ regs := (Vector.replicate 16 0).set 2 3 |>.set 3 5 |>.set 15 9, pc := 1, marks := [0, 3], input := [0, 0, 0, 1, 5, 0] })
theorem test_meets_otnak_emark_no : Running otnak_emark_no_at 7 (itemOf ({ regs := (Vector.replicate 16 0).set 2 3 |>.set 3 5 |>.set 15 9, pc := 1, marks := [0, 3], input := [0, 0, 0, 1, 5, 0] })) itemTk ∧ (({ regs := (Vector.replicate 16 0).set 2 3 |>.set 3 5 |>.set 15 9, pc := 1, marks := [0, 3], input := [0, 0, 0, 1, 5, 0] }) : Vm).marks.getLast? = some 3 ∧ ((({ regs := (Vector.replicate 16 0).set 2 3 |>.set 3 5 |>.set 15 9, pc := 1, marks := [0, 3], input := [0, 0, 0, 1, 5, 0] }) : Vm).get 2).toNat ≤ 3 ∧ ({ regs := (Vector.replicate 16 0).set 2 3 |>.set 3 5 |>.set 15 9, pc := 1, marks := [0, 3], input := [0, 0, 0, 1, 5, 0] } : Vm).ended = .running ∧ ((({ regs := (Vector.replicate 16 0).set 2 3 |>.set 3 5 |>.set 15 9, pc := 1, marks := [0, 3], input := [0, 0, 0, 1, 5, 0] }) : Vm).next 4 : Vm).pc < 4 := by decide +kernel
def otnak_eindex_no_at : State := withItem State.reset ({ regs := (Vector.replicate 16 0).set 2 3 |>.set 3 5 |>.set 15 9, pc := 1, search := true })
theorem test_meets_otnak_eindex_no : Running otnak_eindex_no_at 7 (itemOf ({ regs := (Vector.replicate 16 0).set 2 3 |>.set 3 5 |>.set 15 9, pc := 1, search := true })) itemTk ∧ (({ regs := (Vector.replicate 16 0).set 2 3 |>.set 3 5 |>.set 15 9, pc := 1, search := true }) : Vm).search = true ∧ ({ regs := (Vector.replicate 16 0).set 2 3 |>.set 3 5 |>.set 15 9, pc := 1, search := true } : Vm).ended = .running ∧ ((({ regs := (Vector.replicate 16 0).set 2 3 |>.set 3 5 |>.set 15 9, pc := 1, search := true }) : Vm).next 8 : Vm).pc < 4 := by decide +kernel
def otnak_ematch_no_at : State := withItem State.reset ({ regs := (Vector.replicate 16 0).set 2 3 |>.set 3 5 |>.set 15 9, pc := 1, search := true, maxMatches := 0 })
theorem test_meets_otnak_ematch_no : Running otnak_ematch_no_at 7 (itemOf ({ regs := (Vector.replicate 16 0).set 2 3 |>.set 3 5 |>.set 15 9, pc := 1, search := true, maxMatches := 0 })) itemTk ∧ (({ regs := (Vector.replicate 16 0).set 2 3 |>.set 3 5 |>.set 15 9, pc := 1, search := true, maxMatches := 0 }) : Vm).maxMatches ≤ (({ regs := (Vector.replicate 16 0).set 2 3 |>.set 3 5 |>.set 15 9, pc := 1, search := true, maxMatches := 0 }) : Vm).matchRecs.length ∧ ({ regs := (Vector.replicate 16 0).set 2 3 |>.set 3 5 |>.set 15 9, pc := 1, search := true, maxMatches := 0 } : Vm).ended = .running ∧ ((({ regs := (Vector.replicate 16 0).set 2 3 |>.set 3 5 |>.set 15 9, pc := 1, search := true, maxMatches := 0 }) : Vm).next 8 : Vm).pc < 4 := by decide +kernel
def cipher_gcm_at : State := { State.reset with crypto := {} }
theorem test_meets_cipher_gcm : CipherTaken cipher_gcm_at .gcm (cReq (zeros 12) [1] [2, 3]) 0 ∧ WholeMessage cipher_gcm_at (cReq (zeros 12) [1] [2, 3]) 0 (zeros 16) ∧ TableKey .gcm (zeros 16).length ∧ TableLengths .gcm (cReq (zeros 12) [1] [2, 3]) := ⟨by decide +kernel, ⟨by decide +kernel, by decide +kernel, by decide +kernel, by decide +kernel, by decide +kernel, key_here _ _ _ _ (by decide +kernel) (by decide +kernel)⟩, by dsimp only [TableLengths, TableKey]; decide +kernel⟩
def cipher_ctr_at : State := { State.reset with crypto := {} }
theorem test_meets_cipher_ctr : CipherTaken cipher_ctr_at .ctr (cReq (zeros 16) [] [2, 3]) 0 ∧ WholeMessage cipher_ctr_at (cReq (zeros 16) [] [2, 3]) 0 (zeros 16) ∧ TableKey .ctr (zeros 16).length ∧ TableLengths .ctr (cReq (zeros 16) [] [2, 3]) := ⟨by decide +kernel, ⟨by decide +kernel, by decide +kernel, by decide +kernel, by decide +kernel, by decide +kernel, key_here _ _ _ _ (by decide +kernel) (by decide +kernel)⟩, by dsimp only [TableLengths, TableKey]; decide +kernel⟩
def cipher_cbc_at : State := { State.reset with crypto := {} }
theorem test_meets_cipher_cbc : CipherTaken cipher_cbc_at .cbc (cReq (zeros 16) [] [2, 3]) 0 ∧ WholeMessage cipher_cbc_at (cReq (zeros 16) [] [2, 3]) 0 (zeros 16) ∧ TableKey .cbc (zeros 16).length ∧ TableLengths .cbc (cReq (zeros 16) [] [2, 3]) := ⟨by decide +kernel, ⟨by decide +kernel, by decide +kernel, by decide +kernel, by decide +kernel, by decide +kernel, key_here _ _ _ _ (by decide +kernel) (by decide +kernel)⟩, by dsimp only [TableLengths, TableKey]; decide +kernel⟩
def cipher_cmac_at : State := { State.reset with crypto := {} }
theorem test_meets_cipher_cmac : CipherTaken cipher_cmac_at .cmac (cReq [] [] [2, 3]) 0 ∧ WholeMessage cipher_cmac_at (cReq [] [] [2, 3]) 0 (zeros 16) ∧ TableKey .cmac (zeros 16).length ∧ TableLengths .cmac (cReq [] [] [2, 3]) := ⟨by decide +kernel, ⟨by decide +kernel, by decide +kernel, by decide +kernel, by decide +kernel, by decide +kernel, key_here _ _ _ _ (by decide +kernel) (by decide +kernel)⟩, by dsimp only [TableLengths, TableKey]; decide +kernel⟩
def cipher_xts_at : State := { State.reset with crypto := {} }
theorem test_meets_cipher_xts : CipherTaken cipher_xts_at .xts ({ cReq (zeros 16) [] (zeros 16) with key := .rom (zeros 32) }) 0 ∧ WholeMessage cipher_xts_at ({ cReq (zeros 16) [] (zeros 16) with key := .rom (zeros 32) }) 0 (zeros 32) ∧ TableKey .xts (zeros 32).length ∧ TableLengths .xts ({ cReq (zeros 16) [] (zeros 16) with key := .rom (zeros 32) }) := ⟨by decide +kernel, ⟨by decide +kernel, by decide +kernel, by decide +kernel, by decide +kernel, by decide +kernel, key_here _ _ _ _ (by decide +kernel) (by decide +kernel)⟩, by dsimp only [TableLengths, TableKey]; decide +kernel⟩
def cipher_ecb_at : State := { State.reset with crypto := {} }
theorem test_meets_cipher_ecb : CipherTaken cipher_ecb_at .ecb (cReq [] [] (zeros 16)) 0 ∧ WholeMessage cipher_ecb_at (cReq [] [] (zeros 16)) 0 (zeros 16) ∧ TableKey .ecb (zeros 16).length ∧ TableLengths .ecb (cReq [] [] (zeros 16)) := ⟨by decide +kernel, ⟨by decide +kernel, by decide +kernel, by decide +kernel, by decide +kernel, by decide +kernel, key_here _ _ _ _ (by decide +kernel) (by decide +kernel)⟩, by dsimp only [TableLengths, TableKey]; decide +kernel⟩
def cipher_ctr_d_at : State := { State.reset with crypto := {} }
theorem test_meets_cipher_ctr_d : CipherTaken cipher_ctr_d_at .ctr ({ cReq (zeros 16) [] [2, 3] with encrypt := false }) 0 ∧ WholeMessage cipher_ctr_d_at ({ cReq (zeros 16) [] [2, 3] with encrypt := false }) 0 (zeros 16) ∧ TableKey .ctr (zeros 16).length ∧ TableLengths .ctr ({ cReq (zeros 16) [] [2, 3] with encrypt := false }) := ⟨by decide +kernel, ⟨by decide +kernel, by decide +kernel, by decide +kernel, by decide +kernel, by decide +kernel, key_here _ _ _ _ (by decide +kernel) (by decide +kernel)⟩, by dsimp only [TableLengths, TableKey]; decide +kernel⟩
def cipher_xts_d_at : State := { State.reset with crypto := {} }
theorem test_meets_cipher_xts_d : CipherTaken cipher_xts_d_at .xts ({ cReq (zeros 16) [] (zeros 17) with key := .rom (zeros 32), encrypt := false }) 0 ∧ WholeMessage cipher_xts_d_at ({ cReq (zeros 16) [] (zeros 17) with key := .rom (zeros 32), encrypt := false }) 0 (zeros 32) ∧ TableKey .xts (zeros 32).length ∧ TableLengths .xts ({ cReq (zeros 16) [] (zeros 17) with key := .rom (zeros 32), encrypt := false }) := ⟨by decide +kernel, ⟨by decide +kernel, by decide +kernel, by decide +kernel, by decide +kernel, by decide +kernel, key_here _ _ _ _ (by decide +kernel) (by decide +kernel)⟩, by dsimp only [TableLengths, TableKey]; decide +kernel⟩
def cipher_ecb_d_at : State := { State.reset with crypto := {} }
theorem test_meets_cipher_ecb_d : CipherTaken cipher_ecb_d_at .ecb ({ cReq [] [] (zeros 32) with encrypt := false }) 0 ∧ WholeMessage cipher_ecb_d_at ({ cReq [] [] (zeros 32) with encrypt := false }) 0 (zeros 16) ∧ TableKey .ecb (zeros 16).length ∧ TableLengths .ecb ({ cReq [] [] (zeros 32) with encrypt := false }) := ⟨by decide +kernel, ⟨by decide +kernel, by decide +kernel, by decide +kernel, by decide +kernel, by decide +kernel, key_here _ _ _ _ (by decide +kernel) (by decide +kernel)⟩, by dsimp only [TableLengths, TableKey]; decide +kernel⟩
def cipher_cbc_d_at : State := { State.reset with crypto := {} }
theorem test_meets_cipher_cbc_d : CipherTaken cipher_cbc_d_at .cbc ({ cReq (zeros 16) [] ([221, 95, 66, 97, 167, 210, 137, 75, 239, 170, 196, 222, 23, 84, 239, 23]) with encrypt := false }) 0 ∧ WholeMessage cipher_cbc_d_at ({ cReq (zeros 16) [] ([221, 95, 66, 97, 167, 210, 137, 75, 239, 170, 196, 222, 23, 84, 239, 23]) with encrypt := false }) 0 (zeros 16) ∧ TableKey .cbc (zeros 16).length ∧ TableLengths .cbc ({ cReq (zeros 16) [] ([221, 95, 66, 97, 167, 210, 137, 75, 239, 170, 196, 222, 23, 84, 239, 23]) with encrypt := false }) ∧ aesCbcDec (zeros 16) (zeros 16) ([221, 95, 66, 97, 167, 210, 137, 75, 239, 170, 196, 222, 23, 84, 239, 23]) = some [2, 3] := ⟨by decide +kernel, ⟨by decide +kernel, by decide +kernel, by decide +kernel, by decide +kernel, by decide +kernel, key_here _ _ _ _ (by decide +kernel) (by decide +kernel)⟩, by dsimp only [TableLengths, TableKey]; decide +kernel⟩
def cipher_gcm_d_at : State := { State.reset with crypto := {} }
theorem test_meets_cipher_gcm_d : CipherTaken cipher_gcm_d_at .gcm ({ cReq (zeros 12) [1] [2, 3] with encrypt := false, tag := some ([73, 126, 6, 227, 91, 23, 3, 74, 97, 56, 75, 45, 10, 229, 30, 220]) }) 0 ∧ WholeMessage cipher_gcm_d_at ({ cReq (zeros 12) [1] [2, 3] with encrypt := false, tag := some ([73, 126, 6, 227, 91, 23, 3, 74, 97, 56, 75, 45, 10, 229, 30, 220]) }) 0 (zeros 16) ∧ TableKey .gcm (zeros 16).length ∧ TableLengths .gcm ({ cReq (zeros 12) [1] [2, 3] with encrypt := false, tag := some ([73, 126, 6, 227, 91, 23, 3, 74, 97, 56, 75, 45, 10, 229, 30, 220]) }) ∧ (aesGcmDec (zeros 16) (zeros 12) [1] [2, 3] ([73, 126, 6, 227, 91, 23, 3, 74, 97, 56, 75, 45, 10, 229, 30, 220])).isSome = true := ⟨by decide +kernel, ⟨by decide +kernel, by decide +kernel, by decide +kernel, by decide +kernel, by decide +kernel, key_here _ _ _ _ (by decide +kernel) (by decide +kernel)⟩, by dsimp only [TableLengths, TableKey]; decide +kernel⟩
def cipher_tag_at : State := { State.reset with crypto := {} }
theorem test_meets_cipher_tag : CipherTaken cipher_tag_at .gcm ({ cReq (zeros 12) [] [2] with encrypt := false, tag := some (zeros 16) }) 0 ∧ WholeMessage cipher_tag_at ({ cReq (zeros 12) [] [2] with encrypt := false, tag := some (zeros 16) }) 0 (zeros 16) ∧ TableKey .gcm (zeros 16).length ∧ TableLengths .gcm ({ cReq (zeros 12) [] [2] with encrypt := false, tag := some (zeros 16) }) ∧ (gcmTag (roundKeys (zeros 16)) (zeros 12) [] [2]).take (zeros 16).length ≠ zeros 16 := ⟨by decide +kernel, ⟨by decide +kernel, by decide +kernel, by decide +kernel, by decide +kernel, by decide +kernel, key_here _ _ _ _ (by decide +kernel) (by decide +kernel)⟩, by dsimp only [TableLengths, TableKey]; decide +kernel⟩
def cipher_notag_at : State := { State.reset with crypto := {} }
theorem test_meets_cipher_notag : CipherTaken cipher_notag_at .gcm ({ cReq (zeros 12) [] [2] with encrypt := false }) 0 ∧ WholeMessage cipher_notag_at ({ cReq (zeros 12) [] [2] with encrypt := false }) 0 (zeros 16) ∧ TableKey .gcm (zeros 16).length ∧ TableLengths .gcm ({ cReq (zeros 12) [] [2] with encrypt := false }) := ⟨by decide +kernel, ⟨by decide +kernel, by decide +kernel, by decide +kernel, by decide +kernel, by decide +kernel, key_here _ _ _ _ (by decide +kernel) (by decide +kernel)⟩, by dsimp only [TableLengths, TableKey]; decide +kernel⟩
def cipher_tag0_at : State := { State.reset with crypto := {} }
theorem test_meets_cipher_tag0 : CipherTaken cipher_tag0_at .gcm ({ cReq (zeros 12) [] [2] with encrypt := false, tag := some [] }) 0 ∧ WholeMessage cipher_tag0_at ({ cReq (zeros 12) [] [2] with encrypt := false, tag := some [] }) 0 (zeros 16) ∧ TableKey .gcm (zeros 16).length ∧ TableLengths .gcm ({ cReq (zeros 12) [] [2] with encrypt := false, tag := some [] }) := ⟨by decide +kernel, ⟨by decide +kernel, by decide +kernel, by decide +kernel, by decide +kernel, by decide +kernel, key_here _ _ _ _ (by decide +kernel) (by decide +kernel)⟩, by dsimp only [TableLengths, TableKey]; decide +kernel⟩
def cipher_cmac_t_at : State := { State.reset with crypto := {} }
theorem test_meets_cipher_cmac_t : CipherTaken cipher_cmac_t_at .cmac ({ cReq [] [] [2, 3] with tag := some (zeros 4) }) 0 ∧ WholeMessage cipher_cmac_t_at ({ cReq [] [] [2, 3] with tag := some (zeros 4) }) 0 (zeros 16) ∧ TableKey .cmac (zeros 16).length ∧ (aesCmac (zeros 16) [2, 3]).take (zeros 4).length ≠ zeros 4 := ⟨by decide +kernel, ⟨by decide +kernel, by decide +kernel, by decide +kernel, by decide +kernel, by decide +kernel, key_here _ _ _ _ (by decide +kernel) (by decide +kernel)⟩, by dsimp only [TableLengths, TableKey]; decide +kernel⟩
def cipher_pad_at : State := { State.reset with crypto := {} }
theorem test_meets_cipher_pad : CipherTaken cipher_pad_at .cbc ({ cReq (zeros 16) [] (zeros 16) with encrypt := false }) 0 ∧ WholeMessage cipher_pad_at ({ cReq (zeros 16) [] (zeros 16) with encrypt := false }) 0 (zeros 16) ∧ TableKey .cbc (zeros 16).length ∧ TableLengths .cbc ({ cReq (zeros 16) [] (zeros 16) with encrypt := false }) ∧ aesCbcDec (zeros 16) (zeros 16) (zeros 16) = none := ⟨by decide +kernel, ⟨by decide +kernel, by decide +kernel, by decide +kernel, by decide +kernel, by decide +kernel, key_here _ _ _ _ (by decide +kernel) (by decide +kernel)⟩, by dsimp only [TableLengths, TableKey]; decide +kernel⟩
def refuse_ecb_at : State := { State.reset with crypto := {} }
theorem test_meets_refuse_ecb : CipherTaken refuse_ecb_at .ecb { cReq [] [] [1] with selfTest := false, owner := 102 } 0 := by decide +kernel
def refuse_xts_at : State := { State.reset with crypto := {} }
theorem test_meets_refuse_xts : CipherTaken refuse_xts_at .xts ({ cReq [] [] [1] with key := .rom (zeros 48) }) 0 ∧ refuse_xts_at.cipherKey (refuse_xts_at.rowEng 0) ({ cReq [] [] [1] with key := .rom (zeros 48) }) = some (KeySlot.of (.rom (zeros 48)) (zeros 48)) ∧ (KeySlot.of (.rom (zeros 48)) (zeros 48)).key.length = 48 := by decide +kernel
def refuse_len_gcm_at : State := { State.reset with crypto := {} }
theorem test_meets_refuse_len_gcm : CipherTaken refuse_len_gcm_at .gcm (cReq (zeros 11) [] [1]) 0 ∧ WholeMessage refuse_len_gcm_at (cReq (zeros 11) [] [1]) 0 (zeros 16) ∧ TableKey .gcm (zeros 16).length ∧ ¬ TableLengths .gcm (cReq (zeros 11) [] [1]) ∧ (cReq (zeros 11) [] [1] : CipherReq).selfTest = true := ⟨by decide +kernel, ⟨by decide +kernel, by decide +kernel, by decide +kernel, by decide +kernel, by decide +kernel, key_here _ _ _ _ (by decide +kernel) (by decide +kernel)⟩, by dsimp only [TableLengths, TableKey]; decide +kernel⟩
def refuse_len_ctr_at : State := { State.reset with crypto := {} }
theorem test_meets_refuse_len_ctr : CipherTaken refuse_len_ctr_at .ctr (cReq (zeros 15) [] [1]) 0 ∧ WholeMessage refuse_len_ctr_at (cReq (zeros 15) [] [1]) 0 (zeros 16) ∧ TableKey .ctr (zeros 16).length ∧ ¬ TableLengths .ctr (cReq (zeros 15) [] [1]) ∧ (cReq (zeros 15) [] [1] : CipherReq).selfTest = true := ⟨by decide +kernel, ⟨by decide +kernel, by decide +kernel, by decide +kernel, by decide +kernel, by decide +kernel, key_here _ _ _ _ (by decide +kernel) (by decide +kernel)⟩, by dsimp only [TableLengths, TableKey]; decide +kernel⟩
def refuse_len_cbc_at : State := { State.reset with crypto := {} }
theorem test_meets_refuse_len_cbc : CipherTaken refuse_len_cbc_at .cbc ({ cReq (zeros 16) [] (zeros 15) with encrypt := false }) 0 ∧ WholeMessage refuse_len_cbc_at ({ cReq (zeros 16) [] (zeros 15) with encrypt := false }) 0 (zeros 16) ∧ TableKey .cbc (zeros 16).length ∧ ¬ TableLengths .cbc ({ cReq (zeros 16) [] (zeros 15) with encrypt := false }) ∧ ({ cReq (zeros 16) [] (zeros 15) with encrypt := false } : CipherReq).selfTest = true := ⟨by decide +kernel, ⟨by decide +kernel, by decide +kernel, by decide +kernel, by decide +kernel, by decide +kernel, key_here _ _ _ _ (by decide +kernel) (by decide +kernel)⟩, by dsimp only [TableLengths, TableKey]; decide +kernel⟩
def refuse_len_xts_at : State := { State.reset with crypto := {} }
theorem test_meets_refuse_len_xts : CipherTaken refuse_len_xts_at .xts ({ cReq (zeros 16) [] (zeros 15) with key := .rom (zeros 32) }) 0 ∧ WholeMessage refuse_len_xts_at ({ cReq (zeros 16) [] (zeros 15) with key := .rom (zeros 32) }) 0 (zeros 32) ∧ TableKey .xts (zeros 32).length ∧ ¬ TableLengths .xts ({ cReq (zeros 16) [] (zeros 15) with key := .rom (zeros 32) }) ∧ ({ cReq (zeros 16) [] (zeros 15) with key := .rom (zeros 32) } : CipherReq).selfTest = true := ⟨by decide +kernel, ⟨by decide +kernel, by decide +kernel, by decide +kernel, by decide +kernel, by decide +kernel, key_here _ _ _ _ (by decide +kernel) (by decide +kernel)⟩, by dsimp only [TableLengths, TableKey]; decide +kernel⟩
def refuse_len_ecb_at : State := { State.reset with crypto := {} }
theorem test_meets_refuse_len_ecb : CipherTaken refuse_len_ecb_at .ecb (cReq [] [] (zeros 15)) 0 ∧ WholeMessage refuse_len_ecb_at (cReq [] [] (zeros 15)) 0 (zeros 16) ∧ TableKey .ecb (zeros 16).length ∧ ¬ TableLengths .ecb (cReq [] [] (zeros 15)) ∧ (cReq [] [] (zeros 15) : CipherReq).selfTest = true := ⟨by decide +kernel, ⟨by decide +kernel, by decide +kernel, by decide +kernel, by decide +kernel, by decide +kernel, key_here _ _ _ _ (by decide +kernel) (by decide +kernel)⟩, by dsimp only [TableLengths, TableKey]; decide +kernel⟩
def hash_sha256_at : State := { State.reset with crypto := {} }
theorem test_meets_hash_sha256 : HashTaken hash_sha256_at .sha256 none (hReq [1]) 0 := by decide +kernel
def hash_sha384_at : State := { State.reset with crypto := {} }
theorem test_meets_hash_sha384 : HashTaken hash_sha384_at .sha384 none (hReq [1]) 0 := by decide +kernel
def hash_sha512_at : State := { State.reset with crypto := {} }
theorem test_meets_hash_sha512 : HashTaken hash_sha512_at .sha512 none (hReq [1]) 0 := by decide +kernel
def hash_sha3x256_at : State := { State.reset with crypto := {} }
theorem test_meets_hash_sha3x256 : HashTaken hash_sha3x256_at .sha3_256 none (hReq [1]) 0 := by decide +kernel
def hash_sha3x384_at : State := { State.reset with crypto := {} }
theorem test_meets_hash_sha3x384 : HashTaken hash_sha3x384_at .sha3_384 none (hReq [1]) 0 := by decide +kernel
def hash_hmac_sha256_at : State := { State.reset with crypto := {} }
theorem test_meets_hash_hmac_sha256 : HashTaken hash_hmac_sha256_at .sha256 (some (.rom (zeros 5))) (hReq [1]) 0 ∧ hash_hmac_sha256_at.hmacKey (hash_hmac_sha256_at.rowEng 0) { alg := .sha256, key := some (.rom (zeros 5)), req := hReq [1], cls := hash_hmac_sha256_at.callClass 0 } (.rom (zeros 5)) = some (HmacSlot.of (.rom (zeros 5)) .sha256 (zeros 5)) := by decide +kernel
def hash_hmac_sha384_at : State := { State.reset with crypto := {} }
theorem test_meets_hash_hmac_sha384 : HashTaken hash_hmac_sha384_at .sha384 (some (.rom (zeros 5))) (hReq [1]) 0 ∧ hash_hmac_sha384_at.hmacKey (hash_hmac_sha384_at.rowEng 0) { alg := .sha384, key := some (.rom (zeros 5)), req := hReq [1], cls := hash_hmac_sha384_at.callClass 0 } (.rom (zeros 5)) = some (HmacSlot.of (.rom (zeros 5)) .sha384 (zeros 5)) := by decide +kernel
def hash_hmac_sha512_at : State := { State.reset with crypto := {} }
theorem test_meets_hash_hmac_sha512 : HashTaken hash_hmac_sha512_at .sha512 (some (.rom (zeros 5))) (hReq [1]) 0 ∧ hash_hmac_sha512_at.hmacKey (hash_hmac_sha512_at.rowEng 0) { alg := .sha512, key := some (.rom (zeros 5)), req := hReq [1], cls := hash_hmac_sha512_at.callClass 0 } (.rom (zeros 5)) = some (HmacSlot.of (.rom (zeros 5)) .sha512 (zeros 5)) := by decide +kernel
def eng_end_ok_at : State := { State.reset with ledger := { State.reset.ledger with rtc := 5 }, crypto := { rows := [(4, { run := some { call := { mode := .gcm, req := cReq (zeros 12) [] [2], cls := 3 }, ready := 5, status := .ok, out := [9], after := none } })] } }
theorem test_meets_eng_end_ok : (eng_end_ok_at.rowEng 4).run = some { call := { mode := .gcm, req := cReq (zeros 12) [] [2], cls := 3 }, ready := 5, status := .ok, out := [9], after := none } ∧ (5 : Nat) ≤ eng_end_ok_at.now := by decide +kernel
def eng_end_tagFail_at : State := { State.reset with ledger := { State.reset.ledger with rtc := 5 }, crypto := { rows := [(4, { run := some { call := { mode := .gcm, req := cReq (zeros 12) [] [2], cls := 3 }, ready := 5, status := .tagFail, out := [9], after := none } })] } }
theorem test_meets_eng_end_tagFail : (eng_end_tagFail_at.rowEng 4).run = some { call := { mode := .gcm, req := cReq (zeros 12) [] [2], cls := 3 }, ready := 5, status := .tagFail, out := [9], after := none } ∧ (5 : Nat) ≤ eng_end_tagFail_at.now := by decide +kernel
def eng_end_padFail_at : State := { State.reset with ledger := { State.reset.ledger with rtc := 5 }, crypto := { rows := [(4, { run := some { call := { mode := .gcm, req := cReq (zeros 12) [] [2], cls := 3 }, ready := 5, status := .padFail, out := [9], after := none } })] } }
theorem test_meets_eng_end_padFail : (eng_end_padFail_at.rowEng 4).run = some { call := { mode := .gcm, req := cReq (zeros 12) [] [2], cls := 3 }, ready := 5, status := .padFail, out := [9], after := none } ∧ (5 : Nat) ≤ eng_end_padFail_at.now := by decide +kernel
def eng_not_yet_at : State := { State.reset with ledger := { State.reset.ledger with rtc := 5 }, crypto := { rows := [(4, { run := some { call := { mode := .gcm, req := cReq (zeros 12) [] [2], cls := 3 }, ready := 6, status := .ok, out := [9], after := none } })] } }
theorem test_meets_eng_not_yet : (eng_not_yet_at.rowEng 4).run = some { call := { mode := .gcm, req := cReq (zeros 12) [] [2], cls := 3 }, ready := 6, status := .ok, out := [9], after := none } ∧ eng_not_yet_at.now < 6 := by decide +kernel
def lane_end_at : State := { State.reset with ledger := { State.reset.ledger with rtc := 5 }, crypto := { rows := [(4, { laneA := some { call := { alg := .sha256, key := none, req := hReq [1], cls := 3 }, ready := 5, status := .ok, out := [9], after := none } })] } }
theorem test_meets_lane_end : (lane_end_at.rowEng 4).laneA = some { call := { alg := .sha256, key := none, req := hReq [1], cls := 3 }, ready := 5, status := .ok, out := [9], after := none } ∧ (5 : Nat) ≤ lane_end_at.now := by decide +kernel
def lane_not_yet_at : State := { State.reset with ledger := { State.reset.ledger with rtc := 4 }, crypto := { rows := [(4, { laneA := some { call := { alg := .sha256, key := none, req := hReq [1], cls := 3 }, ready := 5, status := .ok, out := [9], after := none } })] } }
theorem test_meets_lane_not_yet : (lane_not_yet_at.rowEng 4).laneA = some { call := { alg := .sha256, key := none, req := hReq [1], cls := 3 }, ready := 5, status := .ok, out := [9], after := none } ∧ lane_not_yet_at.now < 5 := by decide +kernel
def pke_runs_ecdsaVerifyP256_at : State := { State.reset with crypto := {} }
theorem test_meets_pke_runs_ecdsaVerifyP256 : PkeReady pke_runs_ecdsaVerifyP256_at .selfTest 16 (pReq []) 0 ([]) ∧ Runs pke_runs_ecdsaVerifyP256_at ∧ PoolIdle pke_runs_ecdsaVerifyP256_at ∧ Requester.uses .selfTest 16 = true ∧ pke_runs_ecdsaVerifyP256_at.pkeEngine { op := 16, req := pReq [], cls := pke_runs_ecdsaVerifyP256_at.pkeClass .selfTest 16 (pReq []) } = some 0 := ⟨⟨by decide +kernel, by decide +kernel, by decide +kernel, by decide +kernel, by decide +kernel, fun _ _ => by decide +kernel, by decide +kernel, by decide +kernel⟩, by decide +kernel, by decide +kernel, by decide +kernel, by decide +kernel⟩
def pke_runs_ecdsaVerifyP384_at : State := { State.reset with crypto := {} }
theorem test_meets_pke_runs_ecdsaVerifyP384 : PkeReady pke_runs_ecdsaVerifyP384_at .selfTest 17 (pReq []) 0 ([]) ∧ Runs pke_runs_ecdsaVerifyP384_at ∧ PoolIdle pke_runs_ecdsaVerifyP384_at ∧ Requester.uses .selfTest 17 = true ∧ pke_runs_ecdsaVerifyP384_at.pkeEngine { op := 17, req := pReq [], cls := pke_runs_ecdsaVerifyP384_at.pkeClass .selfTest 17 (pReq []) } = some 0 := ⟨⟨by decide +kernel, by decide +kernel, by decide +kernel, by decide +kernel, by decide +kernel, fun _ _ => by decide +kernel, by decide +kernel, by decide +kernel⟩, by decide +kernel, by decide +kernel, by decide +kernel, by decide +kernel⟩
def pke_runs_ecdsaVerifyP521_at : State := { State.reset with crypto := {} }
theorem test_meets_pke_runs_ecdsaVerifyP521 : PkeReady pke_runs_ecdsaVerifyP521_at .selfTest 18 (pReq []) 0 ([]) ∧ Runs pke_runs_ecdsaVerifyP521_at ∧ PoolIdle pke_runs_ecdsaVerifyP521_at ∧ Requester.uses .selfTest 18 = true ∧ pke_runs_ecdsaVerifyP521_at.pkeEngine { op := 18, req := pReq [], cls := pke_runs_ecdsaVerifyP521_at.pkeClass .selfTest 18 (pReq []) } = some 0 := ⟨⟨by decide +kernel, by decide +kernel, by decide +kernel, by decide +kernel, by decide +kernel, fun _ _ => by decide +kernel, by decide +kernel, by decide +kernel⟩, by decide +kernel, by decide +kernel, by decide +kernel, by decide +kernel⟩
def pke_runs_ecdsaSignP256_at : State := { State.reset with crypto := {} }
theorem test_meets_pke_runs_ecdsaSignP256 : PkeReady pke_runs_ecdsaSignP256_at .selfTest 32 (pReq []) 0 (zeros 32) ∧ Runs pke_runs_ecdsaSignP256_at ∧ PoolIdle pke_runs_ecdsaSignP256_at ∧ Requester.uses .selfTest 32 = true ∧ pke_runs_ecdsaSignP256_at.pkeEngine { op := 32, req := pReq [], cls := pke_runs_ecdsaSignP256_at.pkeClass .selfTest 32 (pReq []) } = some 0 := ⟨⟨by decide +kernel, by decide +kernel, by decide +kernel, by decide +kernel, by decide +kernel, fun _ _ => by decide +kernel, by decide +kernel, by decide +kernel⟩, by decide +kernel, by decide +kernel, by decide +kernel, by decide +kernel⟩
def pke_runs_ecdsaSignP384_at : State := { State.reset with crypto := {} }
theorem test_meets_pke_runs_ecdsaSignP384 : PkeReady pke_runs_ecdsaSignP384_at .selfTest 33 (pReq []) 0 (zeros 32) ∧ Runs pke_runs_ecdsaSignP384_at ∧ PoolIdle pke_runs_ecdsaSignP384_at ∧ Requester.uses .selfTest 33 = true ∧ pke_runs_ecdsaSignP384_at.pkeEngine { op := 33, req := pReq [], cls := pke_runs_ecdsaSignP384_at.pkeClass .selfTest 33 (pReq []) } = some 0 := ⟨⟨by decide +kernel, by decide +kernel, by decide +kernel, by decide +kernel, by decide +kernel, fun _ _ => by decide +kernel, by decide +kernel, by decide +kernel⟩, by decide +kernel, by decide +kernel, by decide +kernel, by decide +kernel⟩
def pke_runs_ecdsaSignP521_at : State := { State.reset with crypto := {} }
theorem test_meets_pke_runs_ecdsaSignP521 : PkeReady pke_runs_ecdsaSignP521_at .selfTest 34 (pReq []) 0 (zeros 32) ∧ Runs pke_runs_ecdsaSignP521_at ∧ PoolIdle pke_runs_ecdsaSignP521_at ∧ Requester.uses .selfTest 34 = true ∧ pke_runs_ecdsaSignP521_at.pkeEngine { op := 34, req := pReq [], cls := pke_runs_ecdsaSignP521_at.pkeClass .selfTest 34 (pReq []) } = some 0 := ⟨⟨by decide +kernel, by decide +kernel, by decide +kernel, by decide +kernel, by decide +kernel, fun _ _ => by decide +kernel, by decide +kernel, by decide +kernel⟩, by decide +kernel, by decide +kernel, by decide +kernel, by decide +kernel⟩
def pke_runs_ecdhP256_at : State := { State.reset with crypto := {} }
theorem test_meets_pke_runs_ecdhP256 : PkeReady pke_runs_ecdhP256_at .selfTest 48 (pReq []) 0 (zeros 32) ∧ Runs pke_runs_ecdhP256_at ∧ PoolIdle pke_runs_ecdhP256_at ∧ Requester.uses .selfTest 48 = true ∧ pke_runs_ecdhP256_at.pkeEngine { op := 48, req := pReq [], cls := pke_runs_ecdhP256_at.pkeClass .selfTest 48 (pReq []) } = some 0 := ⟨⟨by decide +kernel, by decide +kernel, by decide +kernel, by decide +kernel, by decide +kernel, fun _ _ => by decide +kernel, by decide +kernel, by decide +kernel⟩, by decide +kernel, by decide +kernel, by decide +kernel, by decide +kernel⟩
def pke_runs_ecdhP384_at : State := { State.reset with crypto := {} }
theorem test_meets_pke_runs_ecdhP384 : PkeReady pke_runs_ecdhP384_at .selfTest 49 (pReq []) 0 (zeros 32) ∧ Runs pke_runs_ecdhP384_at ∧ PoolIdle pke_runs_ecdhP384_at ∧ Requester.uses .selfTest 49 = true ∧ pke_runs_ecdhP384_at.pkeEngine { op := 49, req := pReq [], cls := pke_runs_ecdhP384_at.pkeClass .selfTest 49 (pReq []) } = some 0 := ⟨⟨by decide +kernel, by decide +kernel, by decide +kernel, by decide +kernel, by decide +kernel, fun _ _ => by decide +kernel, by decide +kernel, by decide +kernel⟩, by decide +kernel, by decide +kernel, by decide +kernel, by decide +kernel⟩
def pke_runs_ecdhP521_at : State := { State.reset with crypto := {} }
theorem test_meets_pke_runs_ecdhP521 : PkeReady pke_runs_ecdhP521_at .selfTest 50 (pReq []) 0 (zeros 32) ∧ Runs pke_runs_ecdhP521_at ∧ PoolIdle pke_runs_ecdhP521_at ∧ Requester.uses .selfTest 50 = true ∧ pke_runs_ecdhP521_at.pkeEngine { op := 50, req := pReq [], cls := pke_runs_ecdhP521_at.pkeClass .selfTest 50 (pReq []) } = some 0 := ⟨⟨by decide +kernel, by decide +kernel, by decide +kernel, by decide +kernel, by decide +kernel, fun _ _ => by decide +kernel, by decide +kernel, by decide +kernel⟩, by decide +kernel, by decide +kernel, by decide +kernel, by decide +kernel⟩
def pke_runs_ed25519Verify_at : State := { State.reset with crypto := {} }
theorem test_meets_pke_runs_ed25519Verify : PkeReady pke_runs_ed25519Verify_at .selfTest 80 (pReq []) 0 ([]) ∧ Runs pke_runs_ed25519Verify_at ∧ PoolIdle pke_runs_ed25519Verify_at ∧ Requester.uses .selfTest 80 = true ∧ pke_runs_ed25519Verify_at.pkeEngine { op := 80, req := pReq [], cls := pke_runs_ed25519Verify_at.pkeClass .selfTest 80 (pReq []) } = some 0 := ⟨⟨by decide +kernel, by decide +kernel, by decide +kernel, by decide +kernel, by decide +kernel, fun _ _ => by decide +kernel, by decide +kernel, by decide +kernel⟩, by decide +kernel, by decide +kernel, by decide +kernel, by decide +kernel⟩
def pke_runs_ed25519Sign_at : State := { State.reset with crypto := {} }
theorem test_meets_pke_runs_ed25519Sign : PkeReady pke_runs_ed25519Sign_at .selfTest 81 (pReq []) 0 (zeros 32) ∧ Runs pke_runs_ed25519Sign_at ∧ PoolIdle pke_runs_ed25519Sign_at ∧ Requester.uses .selfTest 81 = true ∧ pke_runs_ed25519Sign_at.pkeEngine { op := 81, req := pReq [], cls := pke_runs_ed25519Sign_at.pkeClass .selfTest 81 (pReq []) } = some 0 := ⟨⟨by decide +kernel, by decide +kernel, by decide +kernel, by decide +kernel, by decide +kernel, fun _ _ => by decide +kernel, by decide +kernel, by decide +kernel⟩, by decide +kernel, by decide +kernel, by decide +kernel, by decide +kernel⟩
def pke_runs_x25519_at : State := { State.reset with crypto := {} }
theorem test_meets_pke_runs_x25519 : PkeReady pke_runs_x25519_at .selfTest 96 (pReq []) 0 (zeros 32) ∧ Runs pke_runs_x25519_at ∧ PoolIdle pke_runs_x25519_at ∧ Requester.uses .selfTest 96 = true ∧ pke_runs_x25519_at.pkeEngine { op := 96, req := pReq [], cls := pke_runs_x25519_at.pkeClass .selfTest 96 (pReq []) } = some 0 := ⟨⟨by decide +kernel, by decide +kernel, by decide +kernel, by decide +kernel, by decide +kernel, fun _ _ => by decide +kernel, by decide +kernel, by decide +kernel⟩, by decide +kernel, by decide +kernel, by decide +kernel, by decide +kernel⟩
def pke_runs_rsaPublic2048_at : State := { State.reset with crypto := {} }
theorem test_meets_pke_runs_rsaPublic2048 : PkeReady pke_runs_rsaPublic2048_at .selfTest 112 (pReq []) 0 ([]) ∧ Runs pke_runs_rsaPublic2048_at ∧ PoolIdle pke_runs_rsaPublic2048_at ∧ Requester.uses .selfTest 112 = true ∧ pke_runs_rsaPublic2048_at.pkeEngine { op := 112, req := pReq [], cls := pke_runs_rsaPublic2048_at.pkeClass .selfTest 112 (pReq []) } = some 0 := ⟨⟨by decide +kernel, by decide +kernel, by decide +kernel, by decide +kernel, by decide +kernel, fun _ _ => by decide +kernel, by decide +kernel, by decide +kernel⟩, by decide +kernel, by decide +kernel, by decide +kernel, by decide +kernel⟩
def pke_runs_rsaPublic3072_at : State := { State.reset with crypto := {} }
theorem test_meets_pke_runs_rsaPublic3072 : PkeReady pke_runs_rsaPublic3072_at .selfTest 113 (pReq []) 0 ([]) ∧ Runs pke_runs_rsaPublic3072_at ∧ PoolIdle pke_runs_rsaPublic3072_at ∧ Requester.uses .selfTest 113 = true ∧ pke_runs_rsaPublic3072_at.pkeEngine { op := 113, req := pReq [], cls := pke_runs_rsaPublic3072_at.pkeClass .selfTest 113 (pReq []) } = some 0 := ⟨⟨by decide +kernel, by decide +kernel, by decide +kernel, by decide +kernel, by decide +kernel, fun _ _ => by decide +kernel, by decide +kernel, by decide +kernel⟩, by decide +kernel, by decide +kernel, by decide +kernel, by decide +kernel⟩
def pke_runs_rsaPublic4096_at : State := { State.reset with crypto := {} }
theorem test_meets_pke_runs_rsaPublic4096 : PkeReady pke_runs_rsaPublic4096_at .selfTest 114 (pReq []) 0 ([]) ∧ Runs pke_runs_rsaPublic4096_at ∧ PoolIdle pke_runs_rsaPublic4096_at ∧ Requester.uses .selfTest 114 = true ∧ pke_runs_rsaPublic4096_at.pkeEngine { op := 114, req := pReq [], cls := pke_runs_rsaPublic4096_at.pkeClass .selfTest 114 (pReq []) } = some 0 := ⟨⟨by decide +kernel, by decide +kernel, by decide +kernel, by decide +kernel, by decide +kernel, fun _ _ => by decide +kernel, by decide +kernel, by decide +kernel⟩, by decide +kernel, by decide +kernel, by decide +kernel, by decide +kernel⟩
def pke_runs_rsaPrivate2048_at : State := { State.reset with crypto := {} }
theorem test_meets_pke_runs_rsaPrivate2048 : PkeReady pke_runs_rsaPrivate2048_at .selfTest 128 (pReq []) 0 (zeros 32) ∧ Runs pke_runs_rsaPrivate2048_at ∧ PoolIdle pke_runs_rsaPrivate2048_at ∧ Requester.uses .selfTest 128 = true ∧ pke_runs_rsaPrivate2048_at.pkeEngine { op := 128, req := pReq [], cls := pke_runs_rsaPrivate2048_at.pkeClass .selfTest 128 (pReq []) } = some 0 := ⟨⟨by decide +kernel, by decide +kernel, by decide +kernel, by decide +kernel, by decide +kernel, fun _ _ => by decide +kernel, by decide +kernel, by decide +kernel⟩, by decide +kernel, by decide +kernel, by decide +kernel, by decide +kernel⟩
def pke_runs_rsaPrivate3072_at : State := { State.reset with crypto := {} }
theorem test_meets_pke_runs_rsaPrivate3072 : PkeReady pke_runs_rsaPrivate3072_at .selfTest 129 (pReq []) 0 (zeros 32) ∧ Runs pke_runs_rsaPrivate3072_at ∧ PoolIdle pke_runs_rsaPrivate3072_at ∧ Requester.uses .selfTest 129 = true ∧ pke_runs_rsaPrivate3072_at.pkeEngine { op := 129, req := pReq [], cls := pke_runs_rsaPrivate3072_at.pkeClass .selfTest 129 (pReq []) } = some 0 := ⟨⟨by decide +kernel, by decide +kernel, by decide +kernel, by decide +kernel, by decide +kernel, fun _ _ => by decide +kernel, by decide +kernel, by decide +kernel⟩, by decide +kernel, by decide +kernel, by decide +kernel, by decide +kernel⟩
def pke_runs_rsaPrivate4096_at : State := { State.reset with crypto := {} }
theorem test_meets_pke_runs_rsaPrivate4096 : PkeReady pke_runs_rsaPrivate4096_at .selfTest 130 (pReq []) 0 (zeros 32) ∧ Runs pke_runs_rsaPrivate4096_at ∧ PoolIdle pke_runs_rsaPrivate4096_at ∧ Requester.uses .selfTest 130 = true ∧ pke_runs_rsaPrivate4096_at.pkeEngine { op := 130, req := pReq [], cls := pke_runs_rsaPrivate4096_at.pkeClass .selfTest 130 (pReq []) } = some 0 := ⟨⟨by decide +kernel, by decide +kernel, by decide +kernel, by decide +kernel, by decide +kernel, fun _ _ => by decide +kernel, by decide +kernel, by decide +kernel⟩, by decide +kernel, by decide +kernel, by decide +kernel, by decide +kernel⟩
def pke_runs_mlDsa44Verify_at : State := { State.reset with crypto := {} }
theorem test_meets_pke_runs_mlDsa44Verify : PkeReady pke_runs_mlDsa44Verify_at .selfTest 144 (pReq []) 0 ([]) ∧ Runs pke_runs_mlDsa44Verify_at ∧ PoolIdle pke_runs_mlDsa44Verify_at ∧ Requester.uses .selfTest 144 = true ∧ pke_runs_mlDsa44Verify_at.pkeEngine { op := 144, req := pReq [], cls := pke_runs_mlDsa44Verify_at.pkeClass .selfTest 144 (pReq []) } = some 0 := ⟨⟨by decide +kernel, by decide +kernel, by decide +kernel, by decide +kernel, by decide +kernel, fun _ _ => by decide +kernel, by decide +kernel, by decide +kernel⟩, by decide +kernel, by decide +kernel, by decide +kernel, by decide +kernel⟩
def pke_runs_mlDsa65Verify_at : State := { State.reset with crypto := {} }
theorem test_meets_pke_runs_mlDsa65Verify : PkeReady pke_runs_mlDsa65Verify_at .selfTest 145 (pReq []) 0 ([]) ∧ Runs pke_runs_mlDsa65Verify_at ∧ PoolIdle pke_runs_mlDsa65Verify_at ∧ Requester.uses .selfTest 145 = true ∧ pke_runs_mlDsa65Verify_at.pkeEngine { op := 145, req := pReq [], cls := pke_runs_mlDsa65Verify_at.pkeClass .selfTest 145 (pReq []) } = some 0 := ⟨⟨by decide +kernel, by decide +kernel, by decide +kernel, by decide +kernel, by decide +kernel, fun _ _ => by decide +kernel, by decide +kernel, by decide +kernel⟩, by decide +kernel, by decide +kernel, by decide +kernel, by decide +kernel⟩
def pke_runs_mlDsa87Verify_at : State := { State.reset with crypto := {} }
theorem test_meets_pke_runs_mlDsa87Verify : PkeReady pke_runs_mlDsa87Verify_at .selfTest 146 (pReq []) 0 ([]) ∧ Runs pke_runs_mlDsa87Verify_at ∧ PoolIdle pke_runs_mlDsa87Verify_at ∧ Requester.uses .selfTest 146 = true ∧ pke_runs_mlDsa87Verify_at.pkeEngine { op := 146, req := pReq [], cls := pke_runs_mlDsa87Verify_at.pkeClass .selfTest 146 (pReq []) } = some 0 := ⟨⟨by decide +kernel, by decide +kernel, by decide +kernel, by decide +kernel, by decide +kernel, fun _ _ => by decide +kernel, by decide +kernel, by decide +kernel⟩, by decide +kernel, by decide +kernel, by decide +kernel, by decide +kernel⟩
def pke_runs_mlDsa44Sign_at : State := { State.reset with crypto := {} }
theorem test_meets_pke_runs_mlDsa44Sign : PkeReady pke_runs_mlDsa44Sign_at .selfTest 160 (pReq []) 0 (zeros 32) ∧ Runs pke_runs_mlDsa44Sign_at ∧ PoolIdle pke_runs_mlDsa44Sign_at ∧ Requester.uses .selfTest 160 = true ∧ pke_runs_mlDsa44Sign_at.pkeEngine { op := 160, req := pReq [], cls := pke_runs_mlDsa44Sign_at.pkeClass .selfTest 160 (pReq []) } = some 0 := ⟨⟨by decide +kernel, by decide +kernel, by decide +kernel, by decide +kernel, by decide +kernel, fun _ _ => by decide +kernel, by decide +kernel, by decide +kernel⟩, by decide +kernel, by decide +kernel, by decide +kernel, by decide +kernel⟩
def pke_runs_mlDsa65Sign_at : State := { State.reset with crypto := {} }
theorem test_meets_pke_runs_mlDsa65Sign : PkeReady pke_runs_mlDsa65Sign_at .selfTest 161 (pReq []) 0 (zeros 32) ∧ Runs pke_runs_mlDsa65Sign_at ∧ PoolIdle pke_runs_mlDsa65Sign_at ∧ Requester.uses .selfTest 161 = true ∧ pke_runs_mlDsa65Sign_at.pkeEngine { op := 161, req := pReq [], cls := pke_runs_mlDsa65Sign_at.pkeClass .selfTest 161 (pReq []) } = some 0 := ⟨⟨by decide +kernel, by decide +kernel, by decide +kernel, by decide +kernel, by decide +kernel, fun _ _ => by decide +kernel, by decide +kernel, by decide +kernel⟩, by decide +kernel, by decide +kernel, by decide +kernel, by decide +kernel⟩
def pke_runs_mlDsa87Sign_at : State := { State.reset with crypto := {} }
theorem test_meets_pke_runs_mlDsa87Sign : PkeReady pke_runs_mlDsa87Sign_at .selfTest 162 (pReq []) 0 (zeros 32) ∧ Runs pke_runs_mlDsa87Sign_at ∧ PoolIdle pke_runs_mlDsa87Sign_at ∧ Requester.uses .selfTest 162 = true ∧ pke_runs_mlDsa87Sign_at.pkeEngine { op := 162, req := pReq [], cls := pke_runs_mlDsa87Sign_at.pkeClass .selfTest 162 (pReq []) } = some 0 := ⟨⟨by decide +kernel, by decide +kernel, by decide +kernel, by decide +kernel, by decide +kernel, fun _ _ => by decide +kernel, by decide +kernel, by decide +kernel⟩, by decide +kernel, by decide +kernel, by decide +kernel, by decide +kernel⟩
def pke_runs_mlKem768Encapsulation_at : State := { State.reset with crypto := {} }
theorem test_meets_pke_runs_mlKem768Encapsulation : PkeReady pke_runs_mlKem768Encapsulation_at .selfTest 193 (pReq []) 0 ([]) ∧ Runs pke_runs_mlKem768Encapsulation_at ∧ PoolIdle pke_runs_mlKem768Encapsulation_at ∧ Requester.uses .selfTest 193 = true ∧ pke_runs_mlKem768Encapsulation_at.pkeEngine { op := 193, req := pReq [], cls := pke_runs_mlKem768Encapsulation_at.pkeClass .selfTest 193 (pReq []) } = some 0 := ⟨⟨by decide +kernel, by decide +kernel, by decide +kernel, by decide +kernel, by decide +kernel, fun _ _ => by decide +kernel, by decide +kernel, by decide +kernel⟩, by decide +kernel, by decide +kernel, by decide +kernel, by decide +kernel⟩
def pke_runs_mlKem768Decapsulation_at : State := { State.reset with crypto := {} }
theorem test_meets_pke_runs_mlKem768Decapsulation : PkeReady pke_runs_mlKem768Decapsulation_at .selfTest 194 (pReq []) 0 (zeros 32) ∧ Runs pke_runs_mlKem768Decapsulation_at ∧ PoolIdle pke_runs_mlKem768Decapsulation_at ∧ Requester.uses .selfTest 194 = true ∧ pke_runs_mlKem768Decapsulation_at.pkeEngine { op := 194, req := pReq [], cls := pke_runs_mlKem768Decapsulation_at.pkeClass .selfTest 194 (pReq []) } = some 0 := ⟨⟨by decide +kernel, by decide +kernel, by decide +kernel, by decide +kernel, by decide +kernel, fun _ _ => by decide +kernel, by decide +kernel, by decide +kernel⟩, by decide +kernel, by decide +kernel, by decide +kernel, by decide +kernel⟩
def pke_gen_ecKeyGenerationP256_at : State := { State.reset with crypto := {} }
theorem test_meets_pke_gen_ecKeyGenerationP256 : PkeReady pke_gen_ecKeyGenerationP256_at .selfTest 64 (pReq []) 0 ([]) ∧ Runs pke_gen_ecKeyGenerationP256_at ∧ PoolIdle pke_gen_ecKeyGenerationP256_at ∧ Requester.uses .selfTest 64 = true ∧ pke_gen_ecKeyGenerationP256_at.pkeEngine { op := 64, req := pReq [], cls := pke_gen_ecKeyGenerationP256_at.pkeClass .selfTest 64 (pReq []) } = some 0 := ⟨⟨by decide +kernel, by decide +kernel, by decide +kernel, by decide +kernel, by decide +kernel, fun _ _ => by decide +kernel, by decide +kernel, by decide +kernel⟩, by decide +kernel, by decide +kernel, by decide +kernel, by decide +kernel⟩
def pke_gen_x25519KeyGeneration_at : State := { State.reset with crypto := {} }
theorem test_meets_pke_gen_x25519KeyGeneration : PkeReady pke_gen_x25519KeyGeneration_at .selfTest 97 (pReq []) 0 ([]) ∧ Runs pke_gen_x25519KeyGeneration_at ∧ PoolIdle pke_gen_x25519KeyGeneration_at ∧ Requester.uses .selfTest 97 = true ∧ pke_gen_x25519KeyGeneration_at.pkeEngine { op := 97, req := pReq [], cls := pke_gen_x25519KeyGeneration_at.pkeClass .selfTest 97 (pReq []) } = some 0 := ⟨⟨by decide +kernel, by decide +kernel, by decide +kernel, by decide +kernel, by decide +kernel, fun _ _ => by decide +kernel, by decide +kernel, by decide +kernel⟩, by decide +kernel, by decide +kernel, by decide +kernel, by decide +kernel⟩
def pke_end_at : State := { State.reset with ledger := { State.reset.ledger with rtc := 5 }, crypto := { pke := { engines := [(3, { owner := some (0xF003, 0, 0), run := some { wait := { op := 0x10, req := pReq [], cls := 3 }, ready := 5, out := { status := .badLength, time := 7 } } })] } } }
theorem test_meets_pke_end : (pke_end_at.pke 3).run = some { wait := { op := 0x10, req := pReq [], cls := 3 }, ready := 5, out := { status := .badLength, time := 7 } } ∧ (5 : Nat) ≤ pke_end_at.now ∧ pke_end_at.pkeInvalid { op := 0x10, req := pReq [], cls := 3 } .badLength = false ∧ pke_end_at.crypto.pke.engines.wf noPke = true ∧ (pReq []).keep = false := by decide +kernel
def pke_not_yet_at : State := { State.reset with ledger := { State.reset.ledger with rtc := 5 }, crypto := { pke := { engines := [(3, { owner := some (0xF003, 0, 0), run := some { wait := { op := 0x10, req := pReq [], cls := 3 }, ready := 6, out := { status := .badLength, time := 7 } } })] } } }
theorem test_meets_pke_not_yet : (pke_not_yet_at.pke 3).run = some { wait := { op := 0x10, req := pReq [], cls := 3 }, ready := 6, out := { status := .badLength, time := 7 } } ∧ pke_not_yet_at.now < 6 := by decide +kernel
def pke_busy_at : State := { State.reset with crypto := { State.reset.crypto with pke := { queue := List.replicate 224 { op := 0x10, req := pReq [], cls := 3 } } } }
theorem test_meets_pke_busy : requesterOf (pReq [] : PkeReq).owner = some .selfTest ∧ (pReq [] : PkeReq).owner / 4096 ≠ 3 ∧ Requester.uses .selfTest 0x10 = true ∧ pke_busy_at.pkeClass .selfTest 0x10 (pReq []) ≠ 0 ∧ 224 ≤ pke_busy_at.deviceWaits false := by decide +kernel
def pke_class0_at : State := { State.reset with crypto := { State.reset.crypto with pke := { queue := List.replicate 32 { op := 0x21, req := { owner := 0xF000, inputs := [], key := .handle 0x01000000 }, cls := 0 } } } }
theorem test_meets_pke_class0 : requesterOf ({ owner := 0xF000, inputs := [], key := .handle 0x01000000 } : PkeReq).owner = some .ledger ∧ ({ owner := 0xF000, inputs := [], key := .handle 0x01000000 } : PkeReq).owner / 4096 ≠ 3 ∧ Requester.uses .ledger 0x21 = true ∧ pke_class0_at.pkeClass .ledger 0x21 ({ owner := 0xF000, inputs := [], key := .handle 0x01000000 }) = 0 ∧ 32 ≤ pke_class0_at.deviceWaits true := by decide +kernel
def pke_retry_at : State := { State.reset with crypto := { State.reset.crypto with pke := { deferred := [{ op := 0x10, req := pReq [], cls := 3 }] } } }
theorem test_meets_pke_retry : pke_retry_at.crypto.pke.deferred = [{ op := 0x10, req := pReq [], cls := 3 }] ∧ PkeReady { pke_retry_at with crypto := { pke_retry_at.crypto with pke := { pke_retry_at.crypto.pke with deferred := [] } } } .selfTest 0x10 (pReq []) 0 [] ∧ Runs pke_retry_at ∧ (3 : Fin 4) = pke_retry_at.pkeClass .selfTest 0x10 (pReq []) := ⟨by decide +kernel, ⟨by decide +kernel, by decide +kernel, by decide +kernel, by decide +kernel, by decide +kernel, fun _ _ => by decide +kernel, by decide +kernel, by decide +kernel⟩, by decide +kernel, by decide +kernel⟩
def ecdsa_in_at : State := State.reset
theorem test_meets_ecdsa_in : (zeros 64).length = 2 * ct256.flen ∧ 20 ≤ (zeros 20).length ∧ (zeros 20).length ≤ 64 ∧ ct256.c.decode (zeros 64) = none := by decide +kernel
def ecdsa_pt_at : State := State.reset
theorem test_meets_ecdsa_pt : (ct256.c.encode ct256.c.g).length = 2 * ct256.flen ∧ ct256.c.decode (ct256.c.encode ct256.c.g) = ct256.c.g ∧ ct256.c.g.isSome = true ∧ 0 < beNat (beBytes 32 1) ∧ beNat (beBytes 32 1) < ct256.c.n ∧ beNat (beBytes 32 0) = 0 := by decide +kernel
def enable_start4_at : State := withRing State.reset { sizeLog2 := 4, sqHead := 3, cqTail := 2, cqPhase := false }
theorem test_meets_enable_start4 : RingsCanonical enable_start4_at ∧ (enable_start4_at.ring 2).state = .disabled := by decide +kernel
def enable_start16_at : State := withRing State.reset { sizeLog2 := 16, sqHead := 3, cqTail := 2, cqPhase := false }
theorem test_meets_enable_start16 : RingsCanonical enable_start16_at ∧ (enable_start16_at.ring 2).state = .disabled := by decide +kernel
def enable_start3_at : State := withRing State.reset { sizeLog2 := 3, sqHead := 3, cqTail := 2, cqPhase := false }
theorem test_meets_enable_start3 : RingsCanonical enable_start3_at ∧ (enable_start3_at.ring 2).state = .disabled := by decide +kernel
def enable_start17_at : State := withRing State.reset { sizeLog2 := 17, sqHead := 3, cqTail := 2, cqPhase := false }
theorem test_meets_enable_start17 : RingsCanonical enable_start17_at ∧ (enable_start17_at.ring 2).state = .disabled := by decide +kernel
def enable_off_at : State := withRing State.reset liveRing
theorem test_meets_enable_off : RingsCanonical enable_off_at ∧ (enable_off_at.ring 2).state = .active := by decide +kernel
def abort_at : State := withTk (withRing State.reset liveRing) (tkOf 1 3 (zeros 32) (zeros 16))
theorem test_meets_abort : RingsCanonical abort_at ∧ (abort_at.ring 2).state ≠ .disabled ∧ abort_at.guard.transition = none ∧ (∀ p ∈ abort_at.units.st, abort_at.inTest p.1 = false) ∧ (∀ k ∈ List.range 32, (abort_at.src k).masked = false) := by decide +kernel
def activate_service_at : State := inMode (withPort (withRing (atCount State.reset 3) { liveRing with state := .waiting })) .service
theorem test_meets_activate_service : RingsCanonical activate_service_at ∧ (activate_service_at.ring 2).state = .waiting ∧ (activate_service_at.ring 2).sqBase ≠ 0 ∧ (activate_service_at.ring 2).cqBase ≠ 0 ∧ 4 ≤ (activate_service_at.ring 2).sizeLog2.toNat ∧ (activate_service_at.ring 2).sizeLog2.toNat ≤ 16 ∧ activate_service_at.dev.ready = true ∧ (activate_service_at.port 0).wmtBase ≠ 0 ∧ (activate_service_at.port (activate_service_at.ring 2).port.val).bme = true ∧ (activate_service_at.ring 2).sqTail < (activate_service_at.ring 2).size ∧ activate_service_at.power.mode ≠ .rest := by decide +kernel
def activate_rest_at : State := inMode (withPort (withRing (atCount State.reset 3) { liveRing with state := .waiting })) .rest
theorem test_meets_activate_rest : RingsCanonical activate_rest_at ∧ (activate_rest_at.ring 2).state = .waiting ∧ (activate_rest_at.ring 2).sqBase ≠ 0 ∧ (activate_rest_at.ring 2).cqBase ≠ 0 ∧ 4 ≤ (activate_rest_at.ring 2).sizeLog2.toNat ∧ (activate_rest_at.ring 2).sizeLog2.toNat ≤ 16 ∧ activate_rest_at.dev.ready = true ∧ (activate_rest_at.port 0).wmtBase ≠ 0 ∧ (activate_rest_at.port (activate_rest_at.ring 2).port.val).bme = true ∧ (activate_rest_at.ring 2).sqTail < (activate_rest_at.ring 2).size ∧ activate_rest_at.owned = true := by decide +kernel
def drained_draining_at : State := inMode ((withRing State.reset { liveRing with state := .draining, enable := false }).setTab 3 { nextSeq := 5, sealed := 4, isOpen := true, ring := 2 }) .rest
theorem test_meets_drained_draining : RingsCanonical drained_draining_at ∧ ((drained_draining_at.ring 2).state = .draining ∨ (drained_draining_at.ring 2).state = .error) ∧ (drained_draining_at.ring 2).outstanding = 0 ∧ (drained_draining_at.ring 2).enable = false ∧ drained_draining_at.power.mode = .rest ∧ TabsCanonical drained_draining_at := by decide +kernel
def drained_error_at : State := inMode ((withRing State.reset { liveRing with state := .error, enable := false }).setTab 3 { nextSeq := 5, sealed := 4, isOpen := true, ring := 2 }) .rest
theorem test_meets_drained_error : RingsCanonical drained_error_at ∧ ((drained_error_at.ring 2).state = .draining ∨ (drained_error_at.ring 2).state = .error) ∧ (drained_error_at.ring 2).outstanding = 0 ∧ (drained_error_at.ring 2).enable = false ∧ drained_error_at.power.mode = .rest ∧ TabsCanonical drained_error_at := by decide +kernel
def drained_no_at : State := withRing State.reset { liveRing with state := .draining, enable := false, outstanding := 1 }
theorem test_meets_drained_no : RingsCanonical drained_no_at ∧ (drained_no_at.ring 2).outstanding ≠ 0 := by decide +kernel
def bme_off_at : State := withPort (withRing State.reset liveRing)
theorem test_meets_bme_off : RingsCanonical bme_off_at := by decide +kernel
def bme_on_at : State := { State.reset with host := { State.reset.host with rings := [(2, liveRing)], wmtMarked := [] }, dev := { State.reset.dev with heldMsg := 0 } }
theorem test_meets_bme_on : RingsCanonical bme_on_at ∧ bme_on_at.host.wmtMarked = [] ∧ bme_on_at.dev.heldMsg = 0 ∧ (∀ p ∈ bme_on_at.host.rings, p.2.heldMsg = false ∧ p.2.held = []) := by decide +kernel
def bme_held_at : State := withPort { State.reset with host := { State.reset.host with rings := [(2, { liveRing with held := [{ tag := 77, status := 0x10 }], outstanding := 1, cqTail := 15 })], wmtMarked := [] } }
theorem test_meets_bme_held : RingsCanonical bme_held_at ∧ (bme_held_at.ring 2).port = 0 ∧ (bme_held_at.ring 2).held = [{ tag := 77, status := 0x10 }] ∧ (∀ m ∈ bme_held_at.ringNos, m ≠ 2 → (bme_held_at.ring m).held = []) ∧ (bme_held_at.ring 2).err ≠ .portDown ∧ (bme_held_at.port 0).d3hot = false ∧ (bme_held_at.port 0).link.l0 = true := by decide +kernel
def wmt_base_at : State := { State.reset with host := { State.reset.host with wmtMarked := [], rings := [(2, { liveRing with state := .waiting })] } }
theorem test_meets_wmt_base : wmt_base_at.portUsed 0 = true ∧ (∀ p ∈ wmt_base_at.host.rings, p.2.state = .disabled ∨ p.2.state = .waiting) ∧ wmt_base_at.host.wmtMarked = [] := by decide +kernel
def wmt_base_no_at : State := withRing State.reset liveRing
theorem test_meets_wmt_base_no : wmt_base_no_at.portUsed 0 = true ∧ 2 ∈ wmt_base_no_at.ringNos ∧ (wmt_base_no_at.ring 2).port = 0 ∧ (wmt_base_no_at.ring 2).state ≠ .disabled ∧ (wmt_base_no_at.ring 2).state ≠ .waiting := by decide +kernel
def link_down_at : State := withPort (withRing State.reset liveRing)
theorem test_meets_link_down : RingsCanonical link_down_at ∧ (link_down_at.port 0).link.l0 = true := by decide +kernel
def link_down_no_at : State := State.reset.setPort 0 { upPort with link := {} }
theorem test_meets_link_down_no : RingsCanonical link_down_no_at ∧ (link_down_no_at.port 0).link.l0 = false := by decide +kernel
def link_up_at : State := withPort State.reset
theorem test_meets_link_up : RingsCanonical link_up_at ∧ (7 : Nat) < 8 ∧ (31 : Nat) < 32 ∧ link_up_at.portUsed 0 = true ∧ (link_up_at.port 0).inReset = false := by decide +kernel
def port_flr_at : State := withRing State.reset liveRing
theorem test_meets_port_flr : RingsCanonical port_flr_at := by decide +kernel
def port_portReset_at : State := withRing State.reset liveRing
theorem test_meets_port_portReset : RingsCanonical port_portReset_at := by decide +kernel
def mod_send_at : State := withPort (withRing State.reset { liveRing with timer := true, pending := 2 })
theorem test_meets_mod_send : RingsCanonical mod_send_at ∧ (mod_send_at.ring 2).timer = true ∧ mod_send_at.canSignal (mod_send_at.ring 2).port.val (mod_send_at.ring 2).vector.toNat = true := by decide +kernel
def mod_hold_at : State := withRing State.reset { liveRing with timer := true, pending := 2, vector := 9 }
theorem test_meets_mod_hold : RingsCanonical mod_hold_at ∧ (mod_hold_at.ring 2).timer = true ∧ mod_hold_at.canSignal (mod_hold_at.ring 2).port.val (mod_hold_at.ring 2).vector.toNat = false := by decide +kernel
def mod_none_at : State := withRing State.reset liveRing
theorem test_meets_mod_none : RingsCanonical mod_none_at ∧ (mod_none_at.ring 2).timer = false := by decide +kernel
def unmask0_at : State := withPort State.reset
theorem test_meets_unmask0 : RingsCanonical unmask0_at ∧ (unmask0_at.port 0).msix.wf noMsix = true := by decide +kernel
def unmask9_at : State := withPort State.reset
theorem test_meets_unmask9 : RingsCanonical unmask9_at ∧ (unmask9_at.port 0).msix.wf noMsix = true := by decide +kernel
def unmask4095_at : State := withPort State.reset
theorem test_meets_unmask4095 : RingsCanonical unmask4095_at ∧ (unmask4095_at.port 0).msix.wf noMsix = true := by decide +kernel
def unmask_held_at : State := { State.reset with host := { State.reset.host with rings := [(2, { liveRing with heldMsg := true })], port0 := { upPort with msix := [(1, { data := 5 })] } }, dev := { State.reset.dev with heldMsg := 0 } }
theorem test_meets_unmask_held : RingsCanonical unmask_held_at ∧ (unmask_held_at.ring 2).port = 0 ∧ (unmask_held_at.ring 2).heldMsg = true ∧ (∀ m ∈ unmask_held_at.ringNos, m ≠ 2 → (unmask_held_at.ring m).heldMsg = false) ∧ unmask_held_at.dev.heldMsg = 0 ∧ unmask_held_at.portUp 0 = true ∧ (unmask_held_at.port 0).msixEn = true ∧ (unmask_held_at.port 0).msix.wf noMsix = true := by decide +kernel
def item_startsome_at : State := withTk { (State.reset) with units := {} } ({ tkOf 1 3 (zeros 32) (zeros 16) with stage := .staged, tab := some 3, stall := some 0x3000, epoch := some 1, applet := some { code := [0] }, templ := some {}, fetchTok := true })
theorem test_meets_item_startsome : Runs item_startsome_at ∧ item_startsome_at.units.items.any (fun i => i.unit == 0x3000) = false ∧ item_startsome_at.nextItem 0x3000 = some ({ tkOf 1 3 (zeros 32) (zeros 16) with stage := .staged, tab := some 3, stall := some 0x3000, epoch := some 1, applet := some { code := [0] }, templ := some {}, fetchTok := true }, 0x3000) ∧ item_startsome_at.tk? 7 = some ({ tkOf 1 3 (zeros 32) (zeros 16) with stage := .staged, tab := some 3, stall := some 0x3000, epoch := some 1, applet := some { code := [0] }, templ := some {}, fetchTok := true }) := by decide +kernel
def item_startnone_at : State := withTk { ({ State.reset with vault := { State.reset.vault with unopened := [], epochs := [{ group := 0, epoch := 1, key := List.replicate 32 3 }] } }) with units := {} } ({ tkOf 1 3 (zeros 32) (zeros 16) with stage := .staged, tab := some 3, stall := some 0x3000, epoch := none, applet := some { code := [0] }, templ := some {}, fetchTok := true })
theorem test_meets_item_startnone : Runs item_startnone_at ∧ item_startnone_at.units.items.any (fun i => i.unit == 0x3000) = false ∧ item_startnone_at.nextItem 0x3000 = some ({ tkOf 1 3 (zeros 32) (zeros 16) with stage := .staged, tab := some 3, stall := some 0x3000, epoch := none, applet := some { code := [0] }, templ := some {}, fetchTok := true }, 0x3000) ∧ item_startnone_at.tk? 7 = some ({ tkOf 1 3 (zeros 32) (zeros 16) with stage := .staged, tab := some 3, stall := some 0x3000, epoch := none, applet := some { code := [0] }, templ := some {}, fetchTok := true }) ∧ (item_startnone_at.currentEpoch (item_startnone_at.groupOf ({ tkOf 1 3 (zeros 32) (zeros 16) with stage := .staged, tab := some 3, stall := some 0x3000, epoch := none, applet := some { code := [0] }, templ := some {}, fetchTok := true }))).map EpochKey.epoch = some 1 := by decide +kernel
def item_err1_at : State := ready1 State.reset (tkOf 1 3 (zeros 32) (zeros 16))
theorem test_meets_item_err1 : item_err1_at.tk? 7 = some (tkOf 1 3 (zeros 32) (zeros 16)) ∧ (tkOf 1 3 (zeros 32) (zeros 16)).stage = .admitted ∧ item_err1_at.masters (tkOf 1 3 (zeros 32) (zeros 16)) = true := by decide +kernel
def item_err2_at : State := ready1 State.reset (tkOf 2 3 (zeros 32) (zeros 16))
theorem test_meets_item_err2 : item_err2_at.tk? 7 = some (tkOf 2 3 (zeros 32) (zeros 16)) ∧ (tkOf 2 3 (zeros 32) (zeros 16)).stage = .admitted ∧ item_err2_at.masters (tkOf 2 3 (zeros 32) (zeros 16)) = true := by decide +kernel
def obj_err_at : State := ready1 State.reset (tkOf 0x1B 3 (extent 64) (zeros 16))
theorem test_meets_obj_err : obj_err_at.tk? 7 = some (tkOf 0x1B 3 (extent 64) (zeros 16)) ∧ (tkOf 0x1B 3 (extent 64) (zeros 16)).stage = .admitted ∧ obj_err_at.masters (tkOf 0x1B 3 (extent 64) (zeros 16)) = true ∧ (tkOf 0x1B 3 (extent 64) (zeros 16)).tk.opcode ≠ 1 ∧ (tkOf 0x1B 3 (extent 64) (zeros 16)).tk.opcode ≠ 2 ∧ (tkOf 0x1B 3 (extent 64) (zeros 16)).tk.readsHost = true := by decide +kernel
def ingest_ingest_at : State := ready1 State.reset (tkOf 1 3 (zeros 32) (zeros 16))
theorem test_meets_ingest_ingest : Admitted ingest_ingest_at { id := 7 } 1 (tkOf 1 3 (zeros 32) (zeros 16)) ∧ ingest_ingest_at.masters (tkOf 1 3 (zeros 32) (zeros 16)) = true := by decide +kernel
def ingest_ingestSigned_at : State := ready1 State.reset (tkOf 2 3 (zeros 32) (zeros 16))
theorem test_meets_ingest_ingestSigned : Admitted ingest_ingestSigned_at { id := 7 } 2 (tkOf 2 3 (zeros 32) (zeros 16)) ∧ ingest_ingestSigned_at.masters (tkOf 2 3 (zeros 32) (zeros 16)) = true := by decide +kernel
def fetch_ok_at : State := withPort (withRing { State.reset with host := { State.reset.host with rings := [(0, { liveRing with cls := 0, sqTail := 2, sqHead := 15 })], tickets := [] }, classes := {}, dev := { State.reset.dev with holdCause := 0 } } liveRing)
theorem test_meets_fetch_ok : fetch_ok_at.nextRing 0 = some 0 ∧ RingsCanonical fetch_ok_at ∧ fetch_ok_at.check 0 (Ticket.ofBytes ([0x1A] ++ zeros 63)) = 0 := by decide +kernel
def fetch_bad_at : State := withPort (withRing { State.reset with host := { State.reset.host with rings := [(0, { liveRing with cls := 0, sqTail := 2, sqHead := 15 })], tickets := [] }, classes := {}, dev := { State.reset.dev with holdCause := 0 } } liveRing)
theorem test_meets_fetch_bad : fetch_bad_at.nextRing 0 = some 0 ∧ RingsCanonical fetch_bad_at ∧ fetch_bad_at.check 0 (Ticket.ofBytes (zeros 64)) ≠ 0 ∧ fetch_bad_at.host.tickets = [] ∧ (fetch_bad_at.ring 0).err ≠ .portDown := by decide +kernel
def fetch_err_at : State := withPort (withRing { State.reset with host := { State.reset.host with rings := [(0, { liveRing with cls := 0, sqTail := 2, sqHead := 15 })], tickets := [] }, classes := {}, dev := { State.reset.dev with holdCause := 0 } } liveRing)
theorem test_meets_fetch_err : fetch_err_at.nextRing 0 = some 0 ∧ RingsCanonical fetch_err_at := by decide +kernel
def check_bad_at : State := State.reset
theorem test_meets_check_bad : opClass 0x77 = none ∧ 4 ≤ (4 : Nat) := by decide +kernel
def check_cls_at : State := withRing State.reset liveRing
theorem test_meets_check_cls : opClass 0x20 = some 2 ∧ (2 : Nat) ≠ 4 ∧ 2 ≠ (check_cls_at.ring 2).cls.val := by decide +kernel
def check_data_at : State := withRing { inMode (atCount State.reset 3) .service with tabs := { State.reset.tabs with ctx := [(3, { nextSeq := 5, sealed := 4, source := 9, isOpen := true, ring := 2 })], templates := [(0, { applet := 0 })] } } { liveRing with cls := 1 }
theorem test_meets_check_data : ({ opcode := 1, tab := 3, source := 9, data := zeros 8 ++ zeros 24, oper := zeros 16 } : Ticket).dataCheck = false := by decide +kernel
def check_tab_at : State := withRing { inMode (atCount State.reset 3) .service with tabs := { State.reset.tabs with ctx := [(3, { nextSeq := 5, sealed := 4, source := 9, isOpen := true, ring := 2 })], templates := [(0, { applet := 0 })] } } { liveRing with cls := 1 }
theorem test_meets_check_tab : opClass 1 = some 1 ∧ 1 = (check_tab_at.ring 2).cls.val ∧ check_tab_at.fieldsOk ({ opcode := 1, tab := 65534, source := 9, data := leBytes 8 (1 + 64 * 2 ^ 42) ++ zeros 24, oper := zeros 16 } : Ticket) = true ∧ ({ opcode := 1, tab := 65534, source := 9, data := leBytes 8 (1 + 64 * 2 ^ 42) ++ zeros 24, oper := zeros 16 } : Ticket).dataCheck = true ∧ check_tab_at.tabOk ({ opcode := 1, tab := 65534, source := 9, data := leBytes 8 (1 + 64 * 2 ^ 42) ++ zeros 24, oper := zeros 16 } : Ticket) = false := by decide +kernel
def check_mode_at : State := withRing { inMode (atCount State.reset 3) .lockdown with tabs := { State.reset.tabs with ctx := [(3, { nextSeq := 5, sealed := 4, source := 9, isOpen := true, ring := 2 })], templates := [(0, { applet := 0 })] } } { liveRing with cls := 1 }
theorem test_meets_check_mode : opClass 1 = some 1 ∧ 1 = (check_mode_at.ring 2).cls.val ∧ check_mode_at.fieldsOk ({ opcode := 1, tab := 3, source := 9, data := leBytes 8 (1 + 64 * 2 ^ 42) ++ zeros 24, oper := zeros 16 } : Ticket) = true ∧ ({ opcode := 1, tab := 3, source := 9, data := leBytes 8 (1 + 64 * 2 ^ 42) ++ zeros 24, oper := zeros 16 } : Ticket).dataCheck = true ∧ check_mode_at.tabOk ({ opcode := 1, tab := 3, source := 9, data := leBytes 8 (1 + 64 * 2 ^ 42) ++ zeros 24, oper := zeros 16 } : Ticket) = true ∧ (check_mode_at.modeAllows ({ opcode := 1, tab := 3, source := 9, data := leBytes 8 (1 + 64 * 2 ^ 42) ++ zeros 24, oper := zeros 16 } : Ticket) = false ∨ check_mode_at.bindingAllows 2 ({ opcode := 1, tab := 3, source := 9, data := leBytes 8 (1 + 64 * 2 ^ 42) ++ zeros 24, oper := zeros 16 } : Ticket) = false) := by decide +kernel
def check_bind_at : State := withRing { inMode (atCount State.reset 3) .service with tabs := { State.reset.tabs with ctx := [(3, { nextSeq := 5, sealed := 4, source := 9, isOpen := true, ring := 5 })], templates := [(0, { applet := 0 })] } } { liveRing with cls := 1 }
theorem test_meets_check_bind : opClass 1 = some 1 ∧ 1 = (check_bind_at.ring 2).cls.val ∧ check_bind_at.fieldsOk ({ opcode := 1, tab := 3, source := 9, data := leBytes 8 (1 + 64 * 2 ^ 42) ++ zeros 24, oper := zeros 16 } : Ticket) = true ∧ ({ opcode := 1, tab := 3, source := 9, data := leBytes 8 (1 + 64 * 2 ^ 42) ++ zeros 24, oper := zeros 16 } : Ticket).dataCheck = true ∧ check_bind_at.tabOk ({ opcode := 1, tab := 3, source := 9, data := leBytes 8 (1 + 64 * 2 ^ 42) ++ zeros 24, oper := zeros 16 } : Ticket) = true ∧ (check_bind_at.modeAllows ({ opcode := 1, tab := 3, source := 9, data := leBytes 8 (1 + 64 * 2 ^ 42) ++ zeros 24, oper := zeros 16 } : Ticket) = false ∨ check_bind_at.bindingAllows 2 ({ opcode := 1, tab := 3, source := 9, data := leBytes 8 (1 + 64 * 2 ^ 42) ++ zeros 24, oper := zeros 16 } : Ticket) = false) := by decide +kernel
def check_good_at : State := withRing { inMode (atCount State.reset 3) .service with tabs := { State.reset.tabs with ctx := [(3, { nextSeq := 5, sealed := 4, source := 9, isOpen := true, ring := 2 })], templates := [(0, { applet := 0 })] } } { liveRing with cls := 1 }
theorem test_meets_check_good : opClass 1 = some 1 ∧ 1 = (check_good_at.ring 2).cls.val ∧ check_good_at.fieldsOk ({ opcode := 1, tab := 3, source := 9, data := leBytes 8 (1 + 64 * 2 ^ 42) ++ zeros 24, oper := zeros 16 } : Ticket) = true ∧ ({ opcode := 1, tab := 3, source := 9, data := leBytes 8 (1 + 64 * 2 ^ 42) ++ zeros 24, oper := zeros 16 } : Ticket).dataCheck = true ∧ check_good_at.tabOk ({ opcode := 1, tab := 3, source := 9, data := leBytes 8 (1 + 64 * 2 ^ 42) ++ zeros 24, oper := zeros 16 } : Ticket) = true ∧ check_good_at.modeAllows ({ opcode := 1, tab := 3, source := 9, data := leBytes 8 (1 + 64 * 2 ^ 42) ++ zeros 24, oper := zeros 16 } : Ticket) = true ∧ check_good_at.bindingAllows 2 ({ opcode := 1, tab := 3, source := 9, data := leBytes 8 (1 + 64 * 2 ^ 42) ++ zeros 24, oper := zeros 16 } : Ticket) = true := by decide +kernel
def check_fence_at : State := State.reset
theorem test_meets_check_fence : check_fence_at.dev.holdCause ≠ 2 := by decide +kernel
def grant0_1_some0_at : State := withTk (withCrate { State.reset with units := {}, classes := { rot := [{ rung := .tab, cls := 0, tab := some 3, ticket := 0 }] }, tabs := { State.reset.tabs with ctx := [(3, { nextSeq := 5, sealed := 4, source := 9, isOpen := true, ring := 2 })] } }) ({ tkOf 1 3 (zeros 32) (zeros 16) with stage := .ladder, need := [.tab], fetchTok := true, cls := 0, tab := some 3, templ := some {} })
theorem test_meets_grant0_1_some0 : grant0_1_some0_at.class0Starved (rungOf 0) = false ∧ grant0_1_some0_at.nextAt (rungOf 0) State.crateOk 0 = some ({ rung := .tab, cls := 0, tab := some 3, ticket := 0 }, { tkOf 1 3 (zeros 32) (zeros 16) with stage := .ladder, need := [.tab], fetchTok := true, cls := 0, tab := some 3, templ := some {} }) ∧ grant0_1_some0_at.tk? 7 = some ({ tkOf 1 3 (zeros 32) (zeros 16) with stage := .ladder, need := [.tab], fetchTok := true, cls := 0, tab := some 3, templ := some {} }) ∧ ({ tkOf 1 3 (zeros 32) (zeros 16) with stage := .ladder, need := [.tab], fetchTok := true, cls := 0, tab := some 3, templ := some {} } : Tk).need = [rungOf 0] := by decide +kernel
def grant1_1_none0_at : State := withTk (withCrate { State.reset with units := {}, classes := { rot := [{ rung := .stall, cls := 0, tab := none, ticket := 0 }] }, tabs := { State.reset.tabs with ctx := [(3, { nextSeq := 5, sealed := 4, source := 9, isOpen := true, ring := 2 })] } }) ({ tkOf 1 3 (zeros 32) (zeros 16) with stage := .ladder, need := [.stall], fetchTok := true, cls := 0, tab := none, templ := some {} })
theorem test_meets_grant1_1_none0 : grant1_1_none0_at.class0Starved (rungOf 1) = false ∧ grant1_1_none0_at.nextAt (rungOf 1) State.crateOk 0 = some ({ rung := .stall, cls := 0, tab := none, ticket := 0 }, { tkOf 1 3 (zeros 32) (zeros 16) with stage := .ladder, need := [.stall], fetchTok := true, cls := 0, tab := none, templ := some {} }) ∧ grant1_1_none0_at.tk? 7 = some ({ tkOf 1 3 (zeros 32) (zeros 16) with stage := .ladder, need := [.stall], fetchTok := true, cls := 0, tab := none, templ := some {} }) ∧ ({ tkOf 1 3 (zeros 32) (zeros 16) with stage := .ladder, need := [.stall], fetchTok := true, cls := 0, tab := none, templ := some {} } : Tk).need = [rungOf 1] := by decide +kernel
def grant2_1_none0_at : State := withTk (withCrate { State.reset with units := {}, classes := { rot := [{ rung := .staging, cls := 0, tab := none, ticket := 0 }] }, tabs := { State.reset.tabs with ctx := [(3, { nextSeq := 5, sealed := 4, source := 9, isOpen := true, ring := 2 })] } }) ({ tkOf 1 3 (zeros 32) (zeros 16) with stage := .ladder, need := [.staging], fetchTok := true, cls := 0, tab := none, templ := some {} })
theorem test_meets_grant2_1_none0 : grant2_1_none0_at.class0Starved (rungOf 2) = false ∧ grant2_1_none0_at.nextAt (rungOf 2) State.crateOk 0 = some ({ rung := .staging, cls := 0, tab := none, ticket := 0 }, { tkOf 1 3 (zeros 32) (zeros 16) with stage := .ladder, need := [.staging], fetchTok := true, cls := 0, tab := none, templ := some {} }) ∧ grant2_1_none0_at.tk? 7 = some ({ tkOf 1 3 (zeros 32) (zeros 16) with stage := .ladder, need := [.staging], fetchTok := true, cls := 0, tab := none, templ := some {} }) ∧ ({ tkOf 1 3 (zeros 32) (zeros 16) with stage := .ladder, need := [.staging], fetchTok := true, cls := 0, tab := none, templ := some {} } : Tk).need = [rungOf 2] := by decide +kernel
def grant2_32_none7_at : State := withTk (withCrate { State.reset with units := {}, classes := { rot := [{ rung := .staging, cls := 0, tab := none, ticket := 7 }] }, tabs := { State.reset.tabs with ctx := [(3, { nextSeq := 5, sealed := 4, source := 9, isOpen := true, ring := 2 })] } }) ({ tkOf 32 3 (zeros 32) (zeros 16) with stage := .ladder, need := [.staging], fetchTok := true, cls := 0, tab := none, templ := some {} })
theorem test_meets_grant2_32_none7 : grant2_32_none7_at.class0Starved (rungOf 2) = false ∧ grant2_32_none7_at.nextAt (rungOf 2) State.crateOk 0 = some ({ rung := .staging, cls := 0, tab := none, ticket := 7 }, { tkOf 32 3 (zeros 32) (zeros 16) with stage := .ladder, need := [.staging], fetchTok := true, cls := 0, tab := none, templ := some {} }) ∧ grant2_32_none7_at.tk? 7 = some ({ tkOf 32 3 (zeros 32) (zeros 16) with stage := .ladder, need := [.staging], fetchTok := true, cls := 0, tab := none, templ := some {} }) ∧ ({ tkOf 32 3 (zeros 32) (zeros 16) with stage := .ladder, need := [.staging], fetchTok := true, cls := 0, tab := none, templ := some {} } : Tk).need = [rungOf 2] := by decide +kernel
def grant3_1_none0_at : State := withTk (withCrate { State.reset with units := {}, classes := { rot := [{ rung := .crate, cls := 0, tab := none, ticket := 0 }] }, tabs := { State.reset.tabs with ctx := [(3, { nextSeq := 5, sealed := 4, source := 9, isOpen := true, ring := 2 })] } }) ({ tkOf 1 3 (zeros 32) (zeros 16) with stage := .ladder, need := [.crate], fetchTok := true, cls := 0, tab := none, templ := some {} })
theorem test_meets_grant3_1_none0 : grant3_1_none0_at.class0Starved (rungOf 3) = false ∧ grant3_1_none0_at.nextAt (rungOf 3) State.crateOk 0 = some ({ rung := .crate, cls := 0, tab := none, ticket := 0 }, { tkOf 1 3 (zeros 32) (zeros 16) with stage := .ladder, need := [.crate], fetchTok := true, cls := 0, tab := none, templ := some {} }) ∧ grant3_1_none0_at.tk? 7 = some ({ tkOf 1 3 (zeros 32) (zeros 16) with stage := .ladder, need := [.crate], fetchTok := true, cls := 0, tab := none, templ := some {} }) ∧ ({ tkOf 1 3 (zeros 32) (zeros 16) with stage := .ladder, need := [.crate], fetchTok := true, cls := 0, tab := none, templ := some {} } : Tk).need = [rungOf 3] := by decide +kernel
def grant_none_at : State := { State.reset with host := { State.reset.host with tickets := [] } }
theorem test_meets_grant_none : grant_none_at.class0Starved (rungOf 3) = false ∧ (∀ c : Fin 4, grant_none_at.nextAt (rungOf 3) State.crateOk c = none) := by decide +kernel
def space_at : State := withTk { State.reset with flash := {} } ({ tkOf 1 3 (zeros 32) (zeros 16) with stage := .ladder, need := [.crate], tab := some 3, templ := some {} })
theorem test_meets_space : space_at.tk? 7 = some ({ tkOf 1 3 (zeros 32) (zeros 16) with stage := .ladder, need := [.crate], tab := some 3, templ := some {} }) ∧ ({ tkOf 1 3 (zeros 32) (zeros 16) with stage := .ladder, need := [.crate], tab := some 3, templ := some {} } : Tk).atCrate = true ∧ space_at.crateOk ({ tkOf 1 3 (zeros 32) (zeros 16) with stage := .ladder, need := [.crate], tab := some 3, templ := some {} }) = false ∧ space_at.ringSpace = false := by decide +kernel
def finish_at : State := withPort (withRing (withTk { State.reset with tabs := { State.reset.tabs with ctx := [(3, { nextSeq := 5, sealed := 4, durable := 3 })] } } ({ tkOf 0x1A 3 [] [] with fetchTok := true, staging := 5, readbuf := 3 })) { liveRing with outstanding := 1, cqTail := 15 })
theorem test_meets_finish : RingsCanonical finish_at ∧ finish_at.host.tickets = [{ tkOf 0x1A 3 [] [] with fetchTok := true, staging := 5, readbuf := 3 }] ∧ ({ tkOf 0x1A 3 [] [] with fetchTok := true, staging := 5, readbuf := 3 } : Tk).crateTok = false ∧ (finish_at.ring 2).err ≠ .portDown ∧ (finish_at.port (finish_at.ring 2).port.val).bme = true ∧ (finish_at.port (finish_at.ring 2).port.val).d3hot = false ∧ (finish_at.port (finish_at.ring 2).port.val).link.l0 = true := by decide +kernel
def finish_d_at : State := withPort (withRing (withTk { State.reset with tabs := { State.reset.tabs with ctx := [(3, { nextSeq := 5, sealed := 4, durable := 3 })] } } ({ tkOf 0x1A 3 [] [] with fetchTok := true, staging := 5, readbuf := 3 })) { liveRing with outstanding := 1, cqTail := 15 })
theorem test_meets_finish_d : RingsCanonical finish_d_at ∧ finish_d_at.host.tickets = [{ tkOf 0x1A 3 [] [] with fetchTok := true, staging := 5, readbuf := 3 }] ∧ ({ tkOf 0x1A 3 [] [] with fetchTok := true, staging := 5, readbuf := 3 } : Tk).crateTok = false ∧ (finish_d_at.ring 2).err ≠ .portDown ∧ (finish_d_at.port (finish_d_at.ring 2).port.val).bme = true ∧ (finish_d_at.port (finish_d_at.ring 2).port.val).d3hot = false ∧ (finish_d_at.port (finish_d_at.ring 2).port.val).link.l0 = true := by decide +kernel
def open_tab_at : State := withTk (withCrate State.reset) ({ tkOf 8 9 (zeros 32) ([1, 0] ++ zeros 14) with tab := some 9, tabTok := true, templ := some {}, templNo := 1 })
theorem test_meets_open_tab : TabsCanonical open_tab_at ∧ ({ tkOf 8 9 (zeros 32) ([1, 0] ++ zeros 14) with tab := some 9, tabTok := true, templ := some {}, templNo := 1 } : Tk).tab = some 9 ∧ ({ tkOf 8 9 (zeros 32) ([1, 0] ++ zeros 14) with tab := some 9, tabTok := true, templ := some {}, templNo := 1 } : Tk).tabTok = true ∧ (∀ x ∈ open_tab_at.host.tickets, x.tab = some 9 → x.id = 7) ∧ Admitted open_tab_at { id := 7 } 8 ({ tkOf 8 9 (zeros 32) ([1, 0] ++ zeros 14) with tab := some 9, tabTok := true, templ := some {}, templNo := 1 }) ∧ ((open_tab_at.setTk { ({ tkOf 8 9 (zeros 32) ([1, 0] ++ zeros 14) with tab := some 9, tabTok := true, templ := some {}, templNo := 1 }) with stage := .ready }).commitOne { ({ tkOf 8 9 (zeros 32) ([1, 0] ++ zeros 14) with tab := some 9, tabTok := true, templ := some {}, templNo := 1 }) with stage := .ready }).isSome = true := by decide +kernel
def close_tab_at : State := withTk ((withCrate State.reset).setTab 9 { nextSeq := 4, isOpen := true, ring := 2, closing := true }) ({ tkOf 9 9 (zeros 32) (zeros 16) with tab := some 9, tabTok := true, templ := some {} })
theorem test_meets_close_tab : TabsCanonical close_tab_at ∧ (∀ x ∈ close_tab_at.host.tickets, x.tab = some 9 → x.id = 7) ∧ Admitted close_tab_at { id := 7 } 9 ({ tkOf 9 9 (zeros 32) (zeros 16) with tab := some 9, tabTok := true, templ := some {} }) ∧ ((close_tab_at.setTk { ({ tkOf 9 9 (zeros 32) (zeros 16) with tab := some 9, tabTok := true, templ := some {} }) with stage := .ready }).commitOne { ({ tkOf 9 9 (zeros 32) (zeros 16) with tab := some 9, tabTok := true, templ := some {} }) with stage := .ready }).isSome = true := by decide +kernel
def till1_at : State := withTk ((withCrate { State.reset with power := { State.reset.power with pllSwitching := false } }).setTab 9 { nextSeq := 4, isOpen := true, ring := 2, lastCapture := 5 }) ({ tkOf 1 9 (zeros 32) (zeros 16) with tab := some 9, tabTok := true, stage := .ready, templ := some { captureMonotonic := true }, ing := { captureStart := 6 }, result := some { kind := 2, cause := 0x22 } })
theorem test_meets_till1 : TabsCanonical till1_at ∧ till1_at.power.pllSwitching = false ∧ till1_at.tk? 7 = some ({ tkOf 1 9 (zeros 32) (zeros 16) with tab := some 9, tabTok := true, stage := .ready, templ := some { captureMonotonic := true }, ing := { captureStart := 6 }, result := some { kind := 2, cause := 0x22 } }) ∧ (till1_at.tab 9).lastCapture < 6 ∧ (∀ x ∈ till1_at.host.tickets, x.tab = some 9 → x.id = 7) ∧ (till1_at.commitOne ({ tkOf 1 9 (zeros 32) (zeros 16) with tab := some 9, tabTok := true, stage := .ready, templ := some { captureMonotonic := true }, ing := { captureStart := 6 }, result := some { kind := 2, cause := 0x22 } })).isSome = true ∧ ({ tkOf 1 9 (zeros 32) (zeros 16) with tab := some 9, tabTok := true, stage := .ready, templ := some { captureMonotonic := true }, ing := { captureStart := 6 }, result := some { kind := 2, cause := 0x22 } } : Tk).autoTab = false := by decide +kernel
def till2_at : State := withTk ((withCrate { State.reset with power := { State.reset.power with pllSwitching := false } }).setTab 9 { nextSeq := 4, isOpen := false, ring := 2, lastCapture := 5 }) ({ tkOf 2 9 (zeros 32) (zeros 16) with tab := some 9, tabTok := true, stage := .ready, templ := some { captureMonotonic := true }, ing := { captureStart := 6 }, result := some { kind := 1, cipher := zeros 48, stored := true, epoch := 1 } })
theorem test_meets_till2 : TabsCanonical till2_at ∧ till2_at.power.pllSwitching = false ∧ till2_at.tk? 7 = some ({ tkOf 2 9 (zeros 32) (zeros 16) with tab := some 9, tabTok := true, stage := .ready, templ := some { captureMonotonic := true }, ing := { captureStart := 6 }, result := some { kind := 1, cipher := zeros 48, stored := true, epoch := 1 } }) ∧ (till2_at.tab 9).lastCapture < 6 ∧ (∀ x ∈ till2_at.host.tickets, x.tab = some 9 → x.id = 7) ∧ (till2_at.commitOne ({ tkOf 2 9 (zeros 32) (zeros 16) with tab := some 9, tabTok := true, stage := .ready, templ := some { captureMonotonic := true }, ing := { captureStart := 6 }, result := some { kind := 1, cipher := zeros 48, stored := true, epoch := 1 } })).isSome = true ∧ ({ tkOf 2 9 (zeros 32) (zeros 16) with tab := some 9, tabTok := true, stage := .ready, templ := some { captureMonotonic := true }, ing := { captureStart := 6 }, result := some { kind := 1, cipher := zeros 48, stored := true, epoch := 1 } } : Tk).autoTab = false := by decide +kernel
def hold_at : State := withTk State.reset (tkOf 0x10 3 (zeros 32) (leBytes 8 1 ++ leBytes 8 9))
theorem test_meets_hold : Admitted hold_at { id := 7 } 0x10 (tkOf 0x10 3 (zeros 32) (leBytes 8 1 ++ leBytes 8 9)) ∧ hold_at.tabs.holds.length < 4096 ∧ hold_at.eventFits 24 = true := by decide +kernel
def hold_full_at : State := withTk { State.reset with tabs := { State.reset.tabs with holds := List.replicate 4096 { id := 1, tab := none, first := 1, last := 2 } } } (tkOf 0x10 3 (zeros 32) (leBytes 8 1 ++ leBytes 8 9))
theorem test_meets_hold_full : Admitted hold_full_at { id := 7 } 0x10 (tkOf 0x10 3 (zeros 32) (leBytes 8 1 ++ leBytes 8 9)) ∧ 4096 ≤ hold_full_at.tabs.holds.length := by decide +kernel
def release_at : State := withTk { State.reset with tabs := { State.reset.tabs with holds := State.reset.tabs.holds ++ [{ id := 3, tab := none, first := 1, last := 2 }] } } (tkOf 0x11 3 (zeros 32) ([3] ++ zeros 15))
theorem test_meets_release : Admitted release_at { id := 7 } 0x11 (tkOf 0x11 3 (zeros 32) ([3] ++ zeros 15)) ∧ (∃ h ∈ release_at.tabs.holds, h.id = (tkOf 0x11 3 (zeros 32) ([3] ++ zeros 15)).tk.op 48 4) ∧ release_at.eventFits 8 = true := by decide +kernel
def release_no_at : State := withTk State.reset (tkOf 0x11 3 (zeros 32) ([3] ++ zeros 15))
theorem test_meets_release_no : Admitted release_no_at { id := 7 } 0x11 (tkOf 0x11 3 (zeros 32) ([3] ++ zeros 15)) ∧ (∀ h ∈ release_no_at.tabs.holds, h.id ≠ (tkOf 0x11 3 (zeros 32) ([3] ++ zeros 15)).tk.op 48 4) := by decide +kernel
def uploaded_at : State := withTk (State.reset.setTab 3 { nextSeq := 5, sealed := 4, uploaded := 2 }) ({ tkOf 0x12 3 (zeros 32) ([4] ++ zeros 15) with tab := some 3 })
theorem test_meets_uploaded : Admitted uploaded_at { id := 7 } 0x12 ({ tkOf 0x12 3 (zeros 32) ([4] ++ zeros 15) with tab := some 3 }) ∧ TabsCanonical uploaded_at ∧ uploaded_at.power.mode ≠ .catchup ∧ ({ tkOf 0x12 3 (zeros 32) ([4] ++ zeros 15) with tab := some 3 } : Tk).tk.op 48 8 ≤ (uploaded_at.tab 3).sealed := by decide +kernel
def uploaded_no_at : State := withTk (State.reset.setTab 3 { nextSeq := 5, sealed := 3, uploaded := 2 }) ({ tkOf 0x12 3 (zeros 32) ([4] ++ zeros 15) with tab := some 3 })
theorem test_meets_uploaded_no : Admitted uploaded_no_at { id := 7 } 0x12 ({ tkOf 0x12 3 (zeros 32) ([4] ++ zeros 15) with tab := some 3 }) ∧ (uploaded_no_at.tab 3).sealed < ({ tkOf 0x12 3 (zeros 32) ([4] ++ zeros 15) with tab := some 3 } : Tk).tk.op 48 8 := by decide +kernel
def holdover_service_at : State := withTk (inMode State.reset .service) (tkOf 0x19 3 (zeros 32) (zeros 16))
theorem test_meets_holdover_service : Admitted holdover_service_at { id := 7 } 0x19 (tkOf 0x19 3 (zeros 32) (zeros 16)) ∧ (holdover_service_at.power.mode = .service ∨ holdover_service_at.power.mode = .catchup) := by decide +kernel
def heartbeat_service_at : State := withTk (inMode (atCount State.reset 3) .service) (tkOf 0x18 3 (zeros 32) (zeros 16))
theorem test_meets_heartbeat_service : Admitted heartbeat_service_at { id := 7 } 0x18 (tkOf 0x18 3 (zeros 32) (zeros 16)) ∧ heartbeat_service_at.owned = true ∧ (heartbeat_service_at.power.mode = .service ∨ heartbeat_service_at.power.mode = .catchup) := by decide +kernel
def hb_timeout_service_at : State := (let State.reset := { State.reset with power := { State.reset.power with pllSwitching := false } }; { inMode State.reset .service with power := { State.reset.power with mode := .service, hbStart := some 5 } })
theorem test_meets_hb_timeout_service : hb_timeout_service_at.power.hbStart = some 5 ∧ (hb_timeout_service_at.power.mode = .service ∨ hb_timeout_service_at.power.mode = .catchup) ∧ 5 + hb_timeout_service_at.power.timeoutS * 32768 < 2 ^ 48 := by decide +kernel
def holdover_catchup_at : State := withTk (inMode State.reset .catchup) (tkOf 0x19 3 (zeros 32) (zeros 16))
theorem test_meets_holdover_catchup : Admitted holdover_catchup_at { id := 7 } 0x19 (tkOf 0x19 3 (zeros 32) (zeros 16)) ∧ (holdover_catchup_at.power.mode = .service ∨ holdover_catchup_at.power.mode = .catchup) := by decide +kernel
def heartbeat_catchup_at : State := withTk (inMode (atCount State.reset 3) .catchup) (tkOf 0x18 3 (zeros 32) (zeros 16))
theorem test_meets_heartbeat_catchup : Admitted heartbeat_catchup_at { id := 7 } 0x18 (tkOf 0x18 3 (zeros 32) (zeros 16)) ∧ heartbeat_catchup_at.owned = true ∧ (heartbeat_catchup_at.power.mode = .service ∨ heartbeat_catchup_at.power.mode = .catchup) := by decide +kernel
def hb_timeout_catchup_at : State := (let State.reset := { State.reset with power := { State.reset.power with pllSwitching := false } }; { inMode State.reset .catchup with power := { State.reset.power with mode := .catchup, hbStart := some 5 } })
theorem test_meets_hb_timeout_catchup : hb_timeout_catchup_at.power.hbStart = some 5 ∧ (hb_timeout_catchup_at.power.mode = .service ∨ hb_timeout_catchup_at.power.mode = .catchup) ∧ 5 + hb_timeout_catchup_at.power.timeoutS * 32768 < 2 ^ 48 := by decide +kernel
def holdover_no_at : State := withTk (inMode State.reset .rest) (tkOf 0x19 3 (zeros 32) (zeros 16))
theorem test_meets_holdover_no : Admitted holdover_no_at { id := 7 } 0x19 (tkOf 0x19 3 (zeros 32) (zeros 16)) ∧ holdover_no_at.power.mode.timed = false := by decide +kernel
def heartbeat_un_at : State := withTk (inMode (atCount State.reset 2) .rest) (tkOf 0x18 3 (zeros 32) (zeros 16))
theorem test_meets_heartbeat_un : Admitted heartbeat_un_at { id := 7 } 0x18 (tkOf 0x18 3 (zeros 32) (zeros 16)) ∧ heartbeat_un_at.owned = false := by decide +kernel
def heartbeat_rest_at : State := withTk (inMode (atCount State.reset 3) .rest) (tkOf 0x18 3 (zeros 32) (zeros 16))
theorem test_meets_heartbeat_rest : Admitted heartbeat_rest_at { id := 7 } 0x18 (tkOf 0x18 3 (zeros 32) (zeros 16)) ∧ heartbeat_rest_at.owned = true ∧ heartbeat_rest_at.power.mode = .rest ∧ heartbeat_rest_at.dev.ready = true := by decide +kernel
def heartbeat_h_at : State := withTk ((inMode (atCount State.reset 3) .holdover).setTab 3 { nextSeq := 5, sealed := 4 }) (tkOf 0x18 3 (zeros 32) (zeros 16))
theorem test_meets_heartbeat_h : Admitted heartbeat_h_at { id := 7 } 0x18 (tkOf 0x18 3 (zeros 32) (zeros 16)) ∧ heartbeat_h_at.owned = true ∧ heartbeat_h_at.power.mode = .holdover ∧ (∃ p ∈ heartbeat_h_at.tabs.ctx, p.2.uploaded < p.2.sealed) := by decide +kernel
def heartbeat_h2_at : State := withTk ({ inMode (atCount State.reset 3) .holdover with tabs := { State.reset.tabs with ctx := [(3, { nextSeq := 5, sealed := 4, uploaded := 4 })] } }) (tkOf 0x18 3 (zeros 32) (zeros 16))
theorem test_meets_heartbeat_h2 : Admitted heartbeat_h2_at { id := 7 } 0x18 (tkOf 0x18 3 (zeros 32) (zeros 16)) ∧ heartbeat_h2_at.owned = true ∧ heartbeat_h2_at.power.mode = .holdover ∧ (∀ p ∈ heartbeat_h2_at.tabs.ctx, p.2.sealed ≤ p.2.uploaded) := by decide +kernel
def fence_at : State := withTk State.reset (tkOf 0x1A 3 (zeros 32) (zeros 16))
theorem test_meets_fence : Admitted fence_at { id := 7 } 0x1A (tkOf 0x1A 3 (zeros 32) (zeros 16)) := by decide +kernel
def hb_not_at : State := inMode State.reset .holdover
theorem test_meets_hb_not : hb_not_at.power.mode.timed = false := by decide +kernel
def catchup_end_at : State := inMode State.reset .catchup
theorem test_meets_catchup_end : catchup_end_at.power.mode = .catchup := by decide +kernel
def catchup_no_at : State := inMode State.reset .service
theorem test_meets_catchup_no : catchup_no_at.power.mode ≠ .catchup := by decide +kernel
def read_sealed_at : State := ready1 (State.reset) (tkOf 0x20 3 (extent 65536) (readOper 1 9 3))
theorem test_meets_read_sealed : Admitted read_sealed_at { id := 7 } 0x20 (tkOf 0x20 3 (extent 65536) (readOper 1 9 3)) ∧ ((tkOf 0x20 3 (extent 65536) (readOper 1 9 3)).tk.extents (.ok [])).map (fun l => l.map (fun e => (e.addr, e.len))) = some [(64, 65536)] ∧ (read_sealed_at.port (read_sealed_at.ring 2).port.val).bme = true ∧ (read_sealed_at.port (read_sealed_at.ring 2).port.val).d3hot = false ∧ (tkOf 0x20 3 (extent 65536) (readOper 1 9 3)).tk.tab < 65536 ∧ (3 : Nat) ≤ 7 ∧ read_sealed_at.mustAwait (bit 3 2) (read_sealed_at.span 3 1 9) = false := by decide +kernel
def read_status_at : State := ready1 (State.reset) (tkOf 0x20 3 (extent 65536) (readOper 0 2 0))
theorem test_meets_read_status : Admitted read_status_at { id := 7 } 0x20 (tkOf 0x20 3 (extent 65536) (readOper 0 2 0)) ∧ ((tkOf 0x20 3 (extent 65536) (readOper 0 2 0)).tk.extents (.ok [])).map (fun l => l.map (fun e => (e.addr, e.len))) = some [(64, 65536)] ∧ (read_status_at.port (read_status_at.ring 2).port.val).bme = true ∧ (read_status_at.port (read_status_at.ring 2).port.val).d3hot = false ∧ (tkOf 0x20 3 (extent 65536) (readOper 0 2 0)).tk.tab < 65536 := by decide +kernel
def read_absence_at : State := ready1 ({ State.reset with ledger := { State.reset.ledger with durableTick := 3, records := [] } }) (tkOf 0x20 3 (extent 65536) (readOper 2 2 8))
theorem test_meets_read_absence : Admitted read_absence_at { id := 7 } 0x20 (tkOf 0x20 3 (extent 65536) (readOper 2 2 8)) ∧ ((tkOf 0x20 3 (extent 65536) (readOper 2 2 8)).tk.extents (.ok [])).map (fun l => l.map (fun e => (e.addr, e.len))) = some [(64, 65536)] ∧ (read_absence_at.port (read_absence_at.ring 2).port.val).bme = true ∧ (read_absence_at.port (read_absence_at.ring 2).port.val).d3hot = false ∧ 2 + 2 ≤ read_absence_at.ledger.durableTick + 1 ∧ (∀ i ∈ List.range 2, (read_absence_at.absenceItem 3 (2 + i)).isSome = true) := by decide +kernel
def read_ledger_at : State := ready1 ({ State.reset with ledger := { State.reset.ledger with durableTick := 3, records := [] } }) (tkOf 0x20 0xFFFFFFFE (extent 65536) (readOper 2 2 3))
theorem test_meets_read_ledger : Admitted read_ledger_at { id := 7 } 0x20 (tkOf 0x20 0xFFFFFFFE (extent 65536) (readOper 2 2 3)) ∧ ((tkOf 0x20 0xFFFFFFFE (extent 65536) (readOper 2 2 3)).tk.extents (.ok [])).map (fun l => l.map (fun e => (e.addr, e.len))) = some [(64, 65536)] ∧ (read_ledger_at.port (read_ledger_at.ring 2).port.val).bme = true ∧ (read_ledger_at.port (read_ledger_at.ring 2).port.val).d3hot = false ∧ 2 + 2 ≤ read_ledger_at.ledger.durableTick + 1 ∧ (tkOf 0x20 0xFFFFFFFE (extent 65536) (readOper 2 2 3)).tk.tab = 0xFFFFFFFE ∧ (∀ i ∈ List.range 2, (read_ledger_at.ledgerItem 3 (2 + i)).isSome = true) := by decide +kernel
def read_clear_at : State := ready1 (State.reset) (tkOf 0x21 3 (extent 65536) (readOper 1 9 3))
theorem test_meets_read_clear : Admitted read_clear_at { id := 7 } 0x21 (tkOf 0x21 3 (extent 65536) (readOper 1 9 3)) ∧ ((tkOf 0x21 3 (extent 65536) (readOper 1 9 3)).tk.extents (.ok [])).map (fun l => l.map (fun e => (e.addr, e.len))) = some [(64, 65536)] ∧ (read_clear_at.port (read_clear_at.ring 2).port.val).bme = true ∧ (read_clear_at.port (read_clear_at.ring 2).port.val).d3hot = false ∧ read_clear_at.mustAwait (bit 3 2) (read_clear_at.span 3 1 9) = false := by decide +kernel
def searchsmall_at : State := ready1 ({ State.reset with tabs := { State.reset.tabs with entries := [] } }) ({ tkOf 0x22 3 (extent 95) (zeros 8 ++ leBytes 4 64 ++ [1, 0, 0, 0]) with applet := some { search := true } })
theorem test_meets_searchsmall : Admitted searchsmall_at { id := 7 } 0x22 ({ tkOf 0x22 3 (extent 95) (zeros 8 ++ leBytes 4 64 ++ [1, 0, 0, 0]) with applet := some { search := true } }) ∧ (queryOf 64 (leBytes 2 1 ++ [1, 0] ++ leBytes 4 5 ++ leBytes 8 1 ++ leBytes 8 9 ++ zeros 40)).isSome = true ∧ ((queryOf 64 (leBytes 2 1 ++ [1, 0] ++ leBytes 4 5 ++ leBytes 8 1 ++ leBytes 8 9 ++ zeros 40)).any (fun q => (queryApplet 1 ({ tkOf 0x22 3 (extent 95) (zeros 8 ++ leBytes 4 64 ++ [1, 0, 0, 0]) with applet := some { search := true } } : Tk).applet q).isSome)) = true ∧ extentsLen (oneExtent 95) < 96 := by decide +kernel
def search_at : State := ready1 ({ State.reset with tabs := { State.reset.tabs with entries := [] } }) ({ tkOf 0x22 3 (extent 65536) (zeros 8 ++ leBytes 4 64 ++ [1, 0, 0, 0]) with applet := some { search := true } })
theorem test_meets_search : Admitted search_at { id := 7 } 0x22 ({ tkOf 0x22 3 (extent 65536) (zeros 8 ++ leBytes 4 64 ++ [1, 0, 0, 0]) with applet := some { search := true } }) ∧ (queryOf 64 (leBytes 2 1 ++ [1, 0] ++ leBytes 4 5 ++ leBytes 8 1 ++ leBytes 8 9 ++ zeros 40)).isSome = true ∧ ((queryOf 64 (leBytes 2 1 ++ [1, 0] ++ leBytes 4 5 ++ leBytes 8 1 ++ leBytes 8 9 ++ zeros 40)).any (fun q => (queryApplet 1 ({ tkOf 0x22 3 (extent 65536) (zeros 8 ++ leBytes 4 64 ++ [1, 0, 0, 0]) with applet := some { search := true } } : Tk).applet q).isSome)) = true ∧ 96 ≤ extentsLen (oneExtent 65536) := by decide +kernel
def search_stop_at : State := ready1 ({ State.reset with tabs := { State.reset.tabs with entries := [{ hdr := { kind := 1, status := 0, tab := 3, seq := 2, source := 9, template := 0, group := 0 }, ctHash := zeros 48, chain := zeros 48, commitTick := 3, programmed := true, inCrate := 1, crate := 1, lost := true }], ctx := [(3, { nextSeq := 3, sealed := 2, durable := 2, source := 9, isOpen := true, ring := 2 })] }, ledger := { State.reset.ledger with durableTick := 3, records := [{ resealed := false, restart := false, at_ := { tick := 3, boundary := 70 }, prevBoundary := 60, lifecycle := 2, presentCount := 0, entryCount := 0, prevHash := zeros 48, root := zeros 48, signerId := zeros 48, events := [], sigEcdsa := [], sigMldsa := [], heads := [] }] } }) ({ tkOf 0x22 3 (extent 65536) (zeros 8 ++ leBytes 4 64 ++ [1, 0, 0, 0]) with tab := some 3, applet := some { search := true } })
theorem test_meets_search_stop : Admitted search_stop_at { id := 7 } 0x22 ({ tkOf 0x22 3 (extent 65536) (zeros 8 ++ leBytes 4 64 ++ [1, 0, 0, 0]) with tab := some 3, applet := some { search := true } }) ∧ (queryOf 64 (leBytes 2 1 ++ [1, 0] ++ leBytes 4 5 ++ leBytes 8 1 ++ leBytes 8 9 ++ zeros 40)).isSome = true ∧ 96 ≤ extentsLen (oneExtent 65536) ∧ ((queryOf 64 (leBytes 2 1 ++ [1, 0] ++ leBytes 4 5 ++ leBytes 8 1 ++ leBytes 8 9 ++ zeros 40)).any (fun q => (queryApplet 1 ({ tkOf 0x22 3 (extent 65536) (zeros 8 ++ leBytes 4 64 ++ [1, 0, 0, 0]) with tab := some 3, applet := some { search := true } } : Tk).applet q).any (fun ap => ((((search_stop_at.checkCopy (.image 1)).searchSpan (some 3) q).foldl ((search_stop_at.checkCopy (.image 1)).searchEntry 65536 1 ap q) {}).stop != 0)))) = true := by decide +kernel
def read_wrap_at : State := ready1 ({ State.reset with vault := { State.reset.vault with wraps := [{ group := 1, epoch := 2, bytes := zeros 32, durable := true }], certs := [], idCerts := [[1], [2]] } }) (tkOf 0x20 0xFFFFFFFD (extent 65536) (leBytes 4 2 ++ [1, 0, 0, 0] ++ leBytes 4 1 ++ [1, 0, 0, 0]))
theorem test_meets_read_wrap : Admitted read_wrap_at { id := 7 } 0x20 (tkOf 0x20 0xFFFFFFFD (extent 65536) (leBytes 4 2 ++ [1, 0, 0, 0] ++ leBytes 4 1 ++ [1, 0, 0, 0])) ∧ ((tkOf 0x20 0xFFFFFFFD (extent 65536) (leBytes 4 2 ++ [1, 0, 0, 0] ++ leBytes 4 1 ++ [1, 0, 0, 0])).tk.extents (.ok [])).map (fun l => l.map (fun e => (e.addr, e.len))) = some [(64, 65536)] ∧ (read_wrap_at.port (read_wrap_at.ring 2).port.val).bme = true ∧ (read_wrap_at.port (read_wrap_at.ring 2).port.val).d3hot = false ∧ (1 : Nat) ≤ 1 ∧ (read_wrap_at.wrapOf 1 2).isSome = true := by decide +kernel
def read_wrap_end_at : State := ready1 ({ State.reset with vault := { State.reset.vault with wraps := [{ group := 1, epoch := 2, bytes := zeros 32, durable := true }], certs := [], idCerts := [[1], [2]] } }) (tkOf 0x20 0xFFFFFFFD (extent 65536) (leBytes 4 2 ++ [1, 0, 0, 0] ++ leBytes 4 3 ++ [1, 0, 0, 0]))
theorem test_meets_read_wrap_end : Admitted read_wrap_end_at { id := 7 } 0x20 (tkOf 0x20 0xFFFFFFFD (extent 65536) (leBytes 4 2 ++ [1, 0, 0, 0] ++ leBytes 4 3 ++ [1, 0, 0, 0])) ∧ ((tkOf 0x20 0xFFFFFFFD (extent 65536) (leBytes 4 2 ++ [1, 0, 0, 0] ++ leBytes 4 3 ++ [1, 0, 0, 0])).tk.extents (.ok [])).map (fun l => l.map (fun e => (e.addr, e.len))) = some [(64, 65536)] ∧ (read_wrap_end_at.port (read_wrap_end_at.ring 2).port.val).bme = true ∧ (read_wrap_end_at.port (read_wrap_end_at.ring 2).port.val).d3hot = false ∧ (1 : Nat) < 3 ∧ (read_wrap_end_at.wrapOf 1 2).isSome = true ∧ read_wrap_end_at.wrapOf 1 3 = none := by decide +kernel
def read_cert_none_at : State := ready1 ({ State.reset with vault := { State.reset.vault with wraps := [{ group := 1, epoch := 2, bytes := zeros 32, durable := true }], certs := [], idCerts := [[1], [2]] } }) (tkOf 0x20 0xFFFFFFFD (extent 65536) (leBytes 4 2 ++ zeros 4 ++ leBytes 4 1 ++ [2, 0, 0, 0]))
theorem test_meets_read_cert_none : Admitted read_cert_none_at { id := 7 } 0x20 (tkOf 0x20 0xFFFFFFFD (extent 65536) (leBytes 4 2 ++ zeros 4 ++ leBytes 4 1 ++ [2, 0, 0, 0])) ∧ ((tkOf 0x20 0xFFFFFFFD (extent 65536) (leBytes 4 2 ++ zeros 4 ++ leBytes 4 1 ++ [2, 0, 0, 0])).tk.extents (.ok [])).map (fun l => l.map (fun e => (e.addr, e.len))) = some [(64, 65536)] ∧ (read_cert_none_at.port (read_cert_none_at.ring 2).port.val).bme = true ∧ (read_cert_none_at.port (read_cert_none_at.ring 2).port.val).d3hot = false ∧ (0 : Nat) < 1 ∧ read_cert_none_at.certOf 2 = none := by decide +kernel
def read_cert_at : State := ready1 ({ State.reset with vault := { State.reset.vault with wraps := [{ group := 1, epoch := 2, bytes := zeros 32, durable := true }], certs := [{ index := 0, bytes := [7], durable := true }], idCerts := [[1], [2]] } }) (tkOf 0x20 0xFFFFFFFD (extent 65536) (leBytes 4 0 ++ zeros 4 ++ leBytes 4 1 ++ [2, 0, 0, 0]))
theorem test_meets_read_cert : Admitted read_cert_at { id := 7 } 0x20 (tkOf 0x20 0xFFFFFFFD (extent 65536) (leBytes 4 0 ++ zeros 4 ++ leBytes 4 1 ++ [2, 0, 0, 0])) ∧ ((tkOf 0x20 0xFFFFFFFD (extent 65536) (leBytes 4 0 ++ zeros 4 ++ leBytes 4 1 ++ [2, 0, 0, 0])).tk.extents (.ok [])).map (fun l => l.map (fun e => (e.addr, e.len))) = some [(64, 65536)] ∧ (read_cert_at.port (read_cert_at.ring 2).port.val).bme = true ∧ (read_cert_at.port (read_cert_at.ring 2).port.val).d3hot = false ∧ (read_cert_at.certOf 0).isSome = true := by decide +kernel
def read_idcert_at : State := ready1 ({ State.reset with vault := { State.reset.vault with wraps := [{ group := 1, epoch := 2, bytes := zeros 32, durable := true }], certs := [], idCerts := [[1], [2]] } }) (tkOf 0x20 0xFFFFFFFD (extent 65536) (zeros 8 ++ leBytes 4 2 ++ [3, 0, 0, 0]))
theorem test_meets_read_idcert : Admitted read_idcert_at { id := 7 } 0x20 (tkOf 0x20 0xFFFFFFFD (extent 65536) (zeros 8 ++ leBytes 4 2 ++ [3, 0, 0, 0])) ∧ ((tkOf 0x20 0xFFFFFFFD (extent 65536) (zeros 8 ++ leBytes 4 2 ++ [3, 0, 0, 0])).tk.extents (.ok [])).map (fun l => l.map (fun e => (e.addr, e.len))) = some [(64, 65536)] ∧ (read_idcert_at.port (read_idcert_at.ring 2).port.val).bme = true ∧ (read_idcert_at.port (read_idcert_at.ring 2).port.val).d3hot = false ∧ (tkOf 0x20 0xFFFFFFFD (extent 65536) (zeros 8 ++ leBytes 4 2 ++ [3, 0, 0, 0])).tk.op 60 1 = 3 ∧ (tkOf 0x20 0xFFFFFFFD (extent 65536) (zeros 8 ++ leBytes 4 2 ++ [3, 0, 0, 0])).tk.tab = 0xFFFFFFFD := by decide +kernel
def read_tamper_at : State := ready1 ({ State.reset with tamper := { State.reset.tamper with log := [{ seq := 0, time := 5, source := 2, level := 2, mode := 1 }, { seq := 1, time := 5, source := 2, level := 2, mode := 1 }] }, fault := { State.reset.fault with log := [{ seq := 0, time := 7, cls := 0x31, outcome := 6, unit := 0x8000 }, { seq := 1, time := 7, cls := 0x31, outcome := 6, unit := 0x8000 }] } }) (tkOf 0x20 0xFFFFFFFC (extent 65536) (readOper 1 2 0))
theorem test_meets_read_tamper : Admitted read_tamper_at { id := 7 } 0x20 (tkOf 0x20 0xFFFFFFFC (extent 65536) (readOper 1 2 0)) ∧ ((tkOf 0x20 0xFFFFFFFC (extent 65536) (readOper 1 2 0)).tk.extents (.ok [])).map (fun l => l.map (fun e => (e.addr, e.len))) = some [(64, 65536)] ∧ (read_tamper_at.port (read_tamper_at.ring 2).port.val).bme = true ∧ (read_tamper_at.port (read_tamper_at.ring 2).port.val).d3hot = false ∧ (tkOf 0x20 0xFFFFFFFC (extent 65536) (readOper 1 2 0)).tk.tab = 0xFFFFFFFC := by decide +kernel
def read_fault_at : State := ready1 ({ State.reset with tamper := { State.reset.tamper with log := [{ seq := 0, time := 5, source := 2, level := 2, mode := 1 }, { seq := 1, time := 5, source := 2, level := 2, mode := 1 }] }, fault := { State.reset.fault with log := [{ seq := 0, time := 7, cls := 0x31, outcome := 6, unit := 0x8000 }, { seq := 1, time := 7, cls := 0x31, outcome := 6, unit := 0x8000 }] } }) (tkOf 0x20 0xFFFFFFFB (extent 65536) (readOper 1 2 0))
theorem test_meets_read_fault : Admitted read_fault_at { id := 7 } 0x20 (tkOf 0x20 0xFFFFFFFB (extent 65536) (readOper 1 2 0)) ∧ ((tkOf 0x20 0xFFFFFFFB (extent 65536) (readOper 1 2 0)).tk.extents (.ok [])).map (fun l => l.map (fun e => (e.addr, e.len))) = some [(64, 65536)] ∧ (read_fault_at.port (read_fault_at.ring 2).port.val).bme = true ∧ (read_fault_at.port (read_fault_at.ring 2).port.val).d3hot = false ∧ (tkOf 0x20 0xFFFFFFFB (extent 65536) (readOper 1 2 0)).tk.tab = 0xFFFFFFFB := by decide +kernel
def set_time_at : State := ready1 (knownUnit ({ State.reset with ledger := { State.reset.ledger with rtc := 1000000, unsignedMs := 2000 }, crypto := {}, units := { State.reset.units with st := [] } })) (tkOf 0x1B 3 (extent 64) (zeros 16))
theorem test_meets_set_time : Admitted set_time_at { id := 7 } 0x1B (tkOf 0x1B 3 (extent 64) (zeros 16)) ∧ set_time_at.masters (tkOf 0x1B 3 (extent 64) (zeros 16)) = true ∧ objectOf (tkOf 0x1B 3 (extent 64) (zeros 16)).tk { data := .ok ([1, 0, 0, 0] ++ zeros 4 ++ leBytes 8 999990 ++ zeros 8 ++ leBytes 8 7 ++ zeros 32) } = some ([1, 0, 0, 0] ++ zeros 4 ++ leBytes 8 999990 ++ zeros 8 ++ leBytes 8 7 ++ zeros 32) ∧ PoolServes set_time_at (tkOf 0x1B 3 (extent 64) (zeros 16) : Tk).cls ∧ set_time_at.correction ([1, 0, 0, 0] ++ zeros 4 ++ leBytes 8 999990 ++ zeros 8 ++ leBytes 8 7 ++ zeros 32) ≤ msCounts set_time_at.ledger.slewMaxMs ∧ bit (fld ([1, 0, 0, 0] ++ zeros 4 ++ leBytes 8 999990 ++ zeros 8 ++ leBytes 8 7 ++ zeros 32) 2 1) 0 = false := by decide +kernel
def set_time_no_at : State := ready1 (knownUnit ({ State.reset with crypto := {}, units := { State.reset.units with st := [] } })) (tkOf 0x1B 3 (extent 64) (zeros 16))
theorem test_meets_set_time_no : Admitted set_time_no_at { id := 7 } 0x1B (tkOf 0x1B 3 (extent 64) (zeros 16)) ∧ set_time_no_at.masters (tkOf 0x1B 3 (extent 64) (zeros 16)) = true ∧ objectOf (tkOf 0x1B 3 (extent 64) (zeros 16)).tk { data := .ok (zeros 64) } = some (zeros 64) ∧ PoolServes set_time_no_at (tkOf 0x1B 3 (extent 64) (zeros 16) : Tk).cls ∧ set_time_no_at.timeCheck (timeKeysOf (tkOf 0x1B 3 (extent 64) (zeros 16)).auth) (zeros 64) ≠ 0 := by decide +kernel
def fc_volume_at : State := withFlash { State.reset with power := { State.reset.power with groupGated := 0 } }
theorem test_meets_fc_volume : TakesCommands fc_volume_at 0 ∧ fc_volume_at.flash.selected.wf zeroOf = true := by decide +kernel
def fc_setf_at : State := withFlash { State.reset with power := { State.reset.power with groupGated := 0 } }
theorem test_meets_fc_setf : TakesCommands fc_setf_at 0 ∧ fc_setf_at.flash.selected.wf zeroOf = true ∧ (fld (fc_setf_at.page 0) 36 1 ≠ 1 ∨ (5 : BitVec 8).toNat ≠ fld (fc_setf_at.page 0) 37 1) := by decide +kernel
def fc_setfl_at : State := withFlash { State.reset with power := { State.reset.power with groupGated := 0 } }
theorem test_meets_fc_setfl : TakesCommands fc_setfl_at 0 ∧ fc_setfl_at.flash.selected.wf zeroOf = true ∧ (fld (fc_setfl_at.page 0) 36 1 ≠ 1 ∨ (5 : BitVec 8).toNat ≠ fld (fc_setfl_at.page 0) 37 1) ∧ 7 < 8 := by decide +kernel
def fc_setf_r_at : State := (let State.reset := { State.reset with power := { State.reset.power with groupGated := 0 } }; { withFlash State.reset with flash := { (withFlash State.reset).flash with desc := okDesc } })
theorem test_meets_fc_setf_r : TakesCommands fc_setf_r_at 0 ∧ fc_setf_r_at.flash.selected.wf zeroOf = true ∧ fld (fc_setf_r_at.page 0) 36 1 = 1 ∧ (0x89 : BitVec 8).toNat = fld (fc_setf_r_at.page 0) 37 1 ∧ levelOf (fc_setf_r_at.page 0) 6 = some 2 := by decide +kernel
def fc_setfl_r_at : State := (let State.reset := { State.reset with power := { State.reset.power with groupGated := 0 } }; { withFlash State.reset with flash := { (withFlash State.reset).flash with desc := okDesc } })
theorem test_meets_fc_setfl_r : TakesCommands fc_setfl_r_at 0 ∧ fc_setfl_r_at.flash.selected.wf zeroOf = true ∧ fld (fc_setfl_r_at.page 0) 36 1 = 1 ∧ (0x89 : BitVec 8).toNat = fld (fc_setfl_r_at.page 0) 37 1 ∧ levelOf (fc_setfl_r_at.page 0) 6 = some 2 := by decide +kernel
def fc_col_at : State := withFlash { State.reset with power := { State.reset.power with groupGated := 0 } }
theorem test_meets_fc_col : TakesCommands fc_col_at 0 ∧ fc_col_at.flash.selected.wf zeroOf = true ∧ 1 < (fc_col_at.geo 0).luns ∧ 4351 < (fc_col_at.geo 0).pageBytes + (fc_col_at.geo 0).spare := by decide +kernel
def fc_reset_at : State := (let State.reset := { State.reset with power := { State.reset.power with groupGated := 0 } }; { withFlash State.reset with flash := { (withFlash State.reset).flash with targets := [(0, { state := .inService, features := [(2053, 3)], dqTrained := true, ops := [{ lun := 0, kind := .read, block := 9 }, { lun := 1, kind := .read, block := 9 }] })] } })
theorem test_meets_fc_reset : TakesCommands fc_reset_at 0 ∧ fc_reset_at.flash.targets.wf noTarget = true ∧ (∀ o ∈ (fc_reset_at.target 0).ops, o.kind = .read) := by decide +kernel
def fc_op_fcPageProgram_at : State := withFlash { State.reset with power := { State.reset.power with groupGated := 0 } }
theorem test_meets_fc_op_fcPageProgram : LunFree fc_op_fcPageProgram_at 0 1 ∧ 1 < (fc_op_fcPageProgram_at.geo 0).luns ∧ 63 < (fc_op_fcPageProgram_at.geo 0).blocks ∧ 7 < (fc_op_fcPageProgram_at.geo 0).pages := by decide +kernel
def fc_op_fcRead_at : State := withFlash { State.reset with power := { State.reset.power with groupGated := 0 } }
theorem test_meets_fc_op_fcRead : LunFree fc_op_fcRead_at 0 1 ∧ 1 < (fc_op_fcRead_at.geo 0).luns ∧ 63 < (fc_op_fcRead_at.geo 0).blocks ∧ 7 < (fc_op_fcRead_at.geo 0).pages := by decide +kernel
def fc_op_fcMultiPlaneRead_at : State := withFlash { State.reset with power := { State.reset.power with groupGated := 0 } }
theorem test_meets_fc_op_fcMultiPlaneRead : LunFree fc_op_fcMultiPlaneRead_at 0 1 ∧ 1 < (fc_op_fcMultiPlaneRead_at.geo 0).luns ∧ 63 < (fc_op_fcMultiPlaneRead_at.geo 0).blocks ∧ 7 < (fc_op_fcMultiPlaneRead_at.geo 0).pages := by decide +kernel
def fc_op2_fcPageProgram_at : State := (let State.reset := { State.reset with power := { State.reset.power with groupGated := 0 } }; { withFlash State.reset with flash := { (withFlash State.reset).flash with targets := [(0, { state := .inService, features := [(2053, 3)], dqTrained := true, ops := [{ lun := 0, kind := .program, block := 9 }] })] } })
theorem test_meets_fc_op2_fcPageProgram : LunFree fc_op2_fcPageProgram_at 0 1 ∧ 1 < (fc_op2_fcPageProgram_at.geo 0).luns ∧ 63 < (fc_op2_fcPageProgram_at.geo 0).blocks ∧ 7 < (fc_op2_fcPageProgram_at.geo 0).pages := by decide +kernel
def fc_op2_fcMultiPlaneProgram_at : State := (let State.reset := { State.reset with power := { State.reset.power with groupGated := 0 } }; { withFlash State.reset with flash := { (withFlash State.reset).flash with targets := [(0, { state := .inService, features := [(2053, 3)], dqTrained := true, ops := [{ lun := 0, kind := .program, block := 9 }] })] } })
theorem test_meets_fc_op2_fcMultiPlaneProgram : LunFree fc_op2_fcMultiPlaneProgram_at 0 1 ∧ 1 < (fc_op2_fcMultiPlaneProgram_at.geo 0).luns ∧ 63 < (fc_op2_fcMultiPlaneProgram_at.geo 0).blocks ∧ 7 < (fc_op2_fcMultiPlaneProgram_at.geo 0).pages := by decide +kernel
def fc_op2_fcBlockErase_at : State := (let State.reset := { State.reset with power := { State.reset.power with groupGated := 0 } }; { withFlash State.reset with flash := { (withFlash State.reset).flash with targets := [(0, { state := .inService, features := [(2053, 3)], dqTrained := true, ops := [{ lun := 0, kind := .program, block := 9 }] })] } })
theorem test_meets_fc_op2_fcBlockErase : LunFree fc_op2_fcBlockErase_at 0 1 ∧ 1 < (fc_op2_fcBlockErase_at.geo 0).luns ∧ 63 < (fc_op2_fcBlockErase_at.geo 0).blocks ∧ 7 < (fc_op2_fcBlockErase_at.geo 0).pages := by decide +kernel
def fc_op2_fcMultiPlaneErase_at : State := (let State.reset := { State.reset with power := { State.reset.power with groupGated := 0 } }; { withFlash State.reset with flash := { (withFlash State.reset).flash with targets := [(0, { state := .inService, features := [(2053, 3)], dqTrained := true, ops := [{ lun := 0, kind := .program, block := 9 }] })] } })
theorem test_meets_fc_op2_fcMultiPlaneErase : LunFree fc_op2_fcMultiPlaneErase_at 0 1 ∧ 1 < (fc_op2_fcMultiPlaneErase_at.geo 0).luns ∧ 63 < (fc_op2_fcMultiPlaneErase_at.geo 0).blocks ∧ 7 < (fc_op2_fcMultiPlaneErase_at.geo 0).pages := by decide +kernel
def fc_op2_fcRead_at : State := (let State.reset := { State.reset with power := { State.reset.power with groupGated := 0 } }; { withFlash State.reset with flash := { (withFlash State.reset).flash with targets := [(0, { state := .inService, features := [(2053, 3)], dqTrained := true, ops := [{ lun := 0, kind := .program, block := 9 }] })] } })
theorem test_meets_fc_op2_fcRead : LunFree fc_op2_fcRead_at 0 1 ∧ 1 < (fc_op2_fcRead_at.geo 0).luns ∧ 63 < (fc_op2_fcRead_at.geo 0).blocks ∧ 7 < (fc_op2_fcRead_at.geo 0).pages := by decide +kernel
def fc_op2_fcMultiPlaneRead_at : State := (let State.reset := { State.reset with power := { State.reset.power with groupGated := 0 } }; { withFlash State.reset with flash := { (withFlash State.reset).flash with targets := [(0, { state := .inService, features := [(2053, 3)], dqTrained := true, ops := [{ lun := 0, kind := .program, block := 9 }] })] } })
theorem test_meets_fc_op2_fcMultiPlaneRead : LunFree fc_op2_fcMultiPlaneRead_at 0 1 ∧ 1 < (fc_op2_fcMultiPlaneRead_at.geo 0).luns ∧ 63 < (fc_op2_fcMultiPlaneRead_at.geo 0).blocks ∧ 7 < (fc_op2_fcMultiPlaneRead_at.geo 0).pages := by decide +kernel
def fc_one_program_false_at : State := (let State.reset := { State.reset with power := { State.reset.power with groupGated := 0 } }; { withFlash State.reset with flash := { (withFlash State.reset).flash with targets := [(0, { state := .inService, features := [(2053, 3)], dqTrained := true, ops := [{ lun := 0, kind := .program, block := 9, suspends := 3, suspended := false, left := 70, deadline := 90 }] })] } })
theorem test_meets_fc_one_program_false : OneOp fc_one_program_false_at 0 0 { lun := 0, kind := .program, block := 9, suspends := 3, suspended := false, left := 70, deadline := 90 } ∧ ({ lun := 0, kind := .program, block := 9, suspends := 3, suspended := false, left := 70, deadline := 90 } : LunOp).kind ≠ .read ∧ fld (fc_one_program_false_at.page 0) 172 1 = 1 ∧ ({ lun := 0, kind := .program, block := 9, suspends := 3, suspended := false, left := 70, deadline := 90 } : LunOp).suspends < 4 := by decide +kernel
def fc_one_erase_false_at : State := (let State.reset := { State.reset with power := { State.reset.power with groupGated := 0 } }; { withFlash State.reset with flash := { (withFlash State.reset).flash with targets := [(0, { state := .inService, features := [(2053, 3)], dqTrained := true, ops := [{ lun := 0, kind := .erase, block := 9, suspends := 3, suspended := false, left := 70, deadline := 90 }] })] } })
theorem test_meets_fc_one_erase_false : OneOp fc_one_erase_false_at 0 0 { lun := 0, kind := .erase, block := 9, suspends := 3, suspended := false, left := 70, deadline := 90 } ∧ ({ lun := 0, kind := .erase, block := 9, suspends := 3, suspended := false, left := 70, deadline := 90 } : LunOp).kind ≠ .read ∧ fld (fc_one_erase_false_at.page 0) 172 1 = 1 ∧ ({ lun := 0, kind := .erase, block := 9, suspends := 3, suspended := false, left := 70, deadline := 90 } : LunOp).suspends < 4 := by decide +kernel
def fc_one_erase_true_at : State := (let State.reset := { State.reset with power := { State.reset.power with groupGated := 0 } }; { withFlash State.reset with flash := { (withFlash State.reset).flash with targets := [(0, { state := .inService, features := [(2053, 3)], dqTrained := true, ops := [{ lun := 0, kind := .erase, block := 9, suspends := 3, suspended := true, left := 70, deadline := 90 }] })] } })
theorem test_meets_fc_one_erase_true : OneOp fc_one_erase_true_at 0 0 { lun := 0, kind := .erase, block := 9, suspends := 3, suspended := true, left := 70, deadline := 90 } ∧ ({ lun := 0, kind := .erase, block := 9, suspends := 3, suspended := true, left := 70, deadline := 90 } : LunOp).kind ≠ .read ∧ fld (fc_one_erase_true_at.page 0) 172 1 = 1 ∧ ({ lun := 0, kind := .erase, block := 9, suspends := 3, suspended := true, left := 70, deadline := 90 } : LunOp).suspends < 4 := by decide +kernel
def fc_read_done_at : State := (let State.reset := { State.reset with power := { State.reset.power with groupGated := 0 } }; { withFlash State.reset with flash := { (withFlash State.reset).flash with targets := [(0, { state := .inService, features := [(2053, 3)], dqTrained := true, ops := [{ lun := 1, kind := .read, block := 63, cws := [{ }, { hard := .fails, minSum := .good }] }] })] } })
theorem test_meets_fc_read_done : OneOp fc_read_done_at 0 1 { lun := 1, kind := .read, block := 63, cws := [{ }, { hard := .fails, minSum := .good }] } ∧ ({ lun := 1, kind := .read, block := 63, cws := [{ }, { hard := .fails, minSum := .good }] } : LunOp).cws.all (fun c => c.hard == .good || c.minSum == .good) = true ∧ fc_read_done_at.flash.lanes.wf noLane = true ∧ fc_read_done_at.flash.soft < 65536 := by decide +kernel
def fc_retrain_at : State := withFlash { State.reset with power := { State.reset.power with groupGated := 0 } }
theorem test_meets_fc_retrain : TakesCommands fc_retrain_at 0 ∧ fc_retrain_at.flash.targets.wf noTarget = true ∧ (fc_retrain_at.target 0).ops = [] ∧ (fc_retrain_at.target 0).work = none ∧ (fc_retrain_at.target 0).queue = [] := by decide +kernel
def fc_timeout_at : State := (let State.reset := (let State.reset := { State.reset with power := { State.reset.power with groupGated := 0 } }; { withFlash State.reset with flash := { (withFlash State.reset).flash with targets := [(0, { state := .inService, features := [(2053, 3)], dqTrained := true, ops := [{ lun := 1, kind := .program, block := 9 }] })] } }); { State.reset with flash := { State.reset.flash with crates := [] } })
theorem test_meets_fc_timeout : OneOp fc_timeout_at 0 1 { lun := 1, kind := .program, block := 9 } ∧ 1 < (fc_timeout_at.geo 0).luns ∧ (∀ c ∈ fc_timeout_at.flash.crates, ∀ l ∈ c.lanes, l.target ≠ 0) := by decide +kernel
def build_fail_at : State := { State.reset with flash := {}, dev := { State.reset.dev with ready := true }, power := { State.reset.power with mode := .rest } }
theorem test_meets_build_fail : build_fail_at.scrapped = false ∧ build_fail_at.power.warn = false ∧ build_fail_at.mayBuild = true ∧ build_fail_at.flash.extend = false ∧ (buildCheck build_fail_at.flash.desc false (zeros 4) []).1 ≠ 0 := by decide +kernel
def extend_fail_at : State := inMode { withFlash State.reset with flash := { (withFlash State.reset).flash with extend := true } } .rest
theorem test_meets_extend_fail : extend_fail_at.scrapped = false ∧ extend_fail_at.power.warn = false ∧ extend_fail_at.mayExtend = true ∧ (buildCheck extend_fail_at.flash.desc true (zeros 4) []).1 ≠ 0 := by decide +kernel
def build_ok_at : State := { State.reset with flash := {}, dev := { State.reset.dev with ready := true }, power := { State.reset.power with mode := .rest } }
theorem test_meets_build_ok : build_ok_at.scrapped = false ∧ build_ok_at.power.warn = false ∧ build_ok_at.mayBuild = true ∧ build_ok_at.flash.extend = false ∧ (buildCheck build_ok_at.flash.desc false okDesc okAns).1 = 0 := ⟨by decide +kernel, by decide +kernel, by decide +kernel, by decide +kernel, by show (buildCheck [] false okDesc okAns).1 = 0; rw [okDesc_passes false [] (fun t => by simp [conflicts, descPageNo])]⟩
def extend_ok_at : State := inMode { withFlash State.reset with flash := { (withFlash State.reset).flash with desc := okDesc, extend := true } } .rest
theorem test_meets_extend_ok : extend_ok_at.scrapped = false ∧ extend_ok_at.power.warn = false ∧ extend_ok_at.mayExtend = true ∧ (buildCheck extend_ok_at.flash.desc true okDesc okAns).1 = 0 := ⟨by decide +kernel, by decide +kernel, by decide +kernel, by show (buildCheck okDesc true okDesc okAns).1 = 0; rw [okDesc_passes true okDesc (fun t => by simp [conflicts])]⟩
def row_prog_at : State := { State.reset with flash := { State.reset.flash with crates := [{ id := 7, kind := .evidence, state := .opened, lanes := (List.range 16).map (fun k => { target := 16 * k, block := 20 }), lanePage := 16384, rows := 64, nextSlot := 5000 }] } }
theorem test_meets_row_prog : row_prog_at.crate? 7 = some ({ id := 7, kind := .evidence, state := .opened, lanes := (List.range 16).map (fun k => { target := 16 * k, block := 20 }), lanePage := 16384, rows := 64, nextSlot := 5000 }) ∧ ({ id := 7, kind := .evidence, state := .opened, lanes := (List.range 16).map (fun k => { target := 16 * k, block := 20 }), lanePage := 16384, rows := 64, nextSlot := 5000 } : Crate).lostLanes = [] ∧ (({ id := 7, kind := .evidence, state := .opened, lanes := (List.range 16).map (fun k => { target := 16 * k, block := 20 }), lanePage := 16384, rows := 64, nextSlot := 5000 } : Crate).sealedUp = true ∨ (({ id := 7, kind := .evidence, state := .opened, lanes := (List.range 16).map (fun k => { target := 16 * k, block := 20 }), lanePage := 16384, rows := 64, nextSlot := 5000 } : Crate).rowsProgrammed + 1) * ({ id := 7, kind := .evidence, state := .opened, lanes := (List.range 16).map (fun k => { target := 16 * k, block := 20 }), lanePage := 16384, rows := 64, nextSlot := 5000 } : Crate).rowSlots ≤ ({ id := 7, kind := .evidence, state := .opened, lanes := (List.range 16).map (fun k => { target := 16 * k, block := 20 }), lanePage := 16384, rows := 64, nextSlot := 5000 } : Crate).nextSlot) ∧ ({ id := 7, kind := .evidence, state := .opened, lanes := (List.range 16).map (fun k => { target := 16 * k, block := 20 }), lanePage := 16384, rows := 64, nextSlot := 5000 } : Crate).rowsProgrammed * ({ id := 7, kind := .evidence, state := .opened, lanes := (List.range 16).map (fun k => { target := 16 * k, block := 20 }), lanePage := 16384, rows := 64, nextSlot := 5000 } : Crate).rowSlots < ({ id := 7, kind := .evidence, state := .opened, lanes := (List.range 16).map (fun k => { target := 16 * k, block := 20 }), lanePage := 16384, rows := 64, nextSlot := 5000 } : Crate).nextSlot := by decide +kernel
def perc_exposed_at : State := { inMode (withFlash State.reset) .service with flash := { (withFlash State.reset).flash with crates := [{ id := 7, kind := .evidence, state := .exposed, lanes := [{ target := 0, block := 9 }], lanePage := 16384, rows := 8 }] } }
theorem test_meets_perc_exposed : perc_exposed_at.percolates = true ∧ (perc_exposed_at.flash.crates.filter (fun c => c.kind != .system)).find? (fun c => c.state == .exposed) = some ({ id := 7, kind := .evidence, state := .exposed, lanes := [{ target := 0, block := 9 }], lanePage := 16384, rows := 8 }) := by decide +kernel
def perc_degraded_at : State := { inMode (withFlash State.reset) .service with flash := { (withFlash State.reset).flash with crates := [{ id := 7, kind := .evidence, state := .degraded, lanes := [{ target := 0, block := 9 }], lanePage := 16384, rows := 8 }] } }
theorem test_meets_perc_degraded : perc_degraded_at.percolates = true ∧ (∀ x ∈ perc_degraded_at.flash.crates, x.state ≠ .exposed) ∧ (perc_degraded_at.flash.crates.filter (fun c => c.kind != .system)).find? (fun c => c.state == .degraded) = some ({ id := 7, kind := .evidence, state := .degraded, lanes := [{ target := 0, block := 9 }], lanePage := 16384, rows := 8 }) := by decide +kernel
def perc_refresh_at : State := { inMode (withFlash State.reset) .service with flash := { (withFlash State.reset).flash with crates := [{ id := 7, kind := .evidence, state := .closed, noSummary := true, lanes := [{ target := 0, block := 9 }], lanePage := 16384, rows := 8 }] } }
theorem test_meets_perc_refresh : perc_refresh_at.percolates = true ∧ perc_refresh_at.flash.crates.find? perc_refresh_at.refreshDue = some ({ id := 7, kind := .evidence, state := .closed, noSummary := true, lanes := [{ target := 0, block := 9 }], lanePage := 16384, rows := 8 }) := by decide +kernel
def perc_reclaim_at : State := { inMode State.reset .service with flash := { State.reset.flash with desc := [1], chans := [], targets := [], crates := [{ id := 7, kind := .evidence, state := .closed, lanes := [{ target := 0, block := 9 }], lanePage := 16384, rows := 8 }] } }
theorem test_meets_perc_reclaim : perc_reclaim_at.percolates = true ∧ perc_reclaim_at.reclaimDue = true ∧ perc_reclaim_at.reclaimables.find? perc_reclaim_at.caseOneTwo = some ({ id := 7, kind := .evidence, state := .closed, lanes := [{ target := 0, block := 9 }], lanePage := 16384, rows := 8 }) := by decide +kernel
def perc_wear_at : State := { inMode (withFlash State.reset) .service with flash := { (withFlash State.reset).flash with lanes := [(9, { used := true }), (10, { erases := 900 })], crates := [{ id := 7, kind := .evidence, state := .closed, lanes := [{ target := 0, block := 9 }], lanePage := 16384, rows := 8 }] } }
theorem test_meets_perc_wear : perc_wear_at.percolates = true ∧ perc_wear_at.power.mode ≠ .holdover ∧ (perc_wear_at.chanWear 0).1 + perc_wear_at.flash.wearSpread < (perc_wear_at.chanWear 0).2 ∧ perc_wear_at.flash.crates.find? (fun c => c.complete && c.kind != .system && c.lanes.any (fun l => l.target / 16 == 0 && (perc_wear_at.lane l).erases == (perc_wear_at.chanWear 0).1)) = some ({ id := 7, kind := .evidence, state := .closed, lanes := [{ target := 0, block := 9 }], lanePage := 16384, rows := 8 }) := by decide +kernel
def perc_scrub_goodF_at : State := { inMode (withFlash State.reset) .service with flash := { (withFlash State.reset).flash with crates := [{ id := 7, kind := .evidence, state := .closed, lanes := [{ target := 0, block := 9 }, { target := 1, block := 9 }], lanePage := 16384, rows := 8 }] } }
theorem test_meets_perc_scrub_goodF : perc_scrub_goodF_at.percolates = true ∧ (perc_scrub_goodF_at.crate? 7) = some ({ id := 7, kind := .evidence, state := .closed, lanes := [{ target := 0, block := 9 }, { target := 1, block := 9 }], lanePage := 16384, rows := 8 }) ∧ ({ id := 7, kind := .evidence, state := .closed, lanes := [{ target := 0, block := 9 }, { target := 1, block := 9 }], lanePage := 16384, rows := 8 } : Crate).complete = true ∧ (({ id := 7, kind := .evidence, state := .closed, lanes := [{ target := 0, block := 9 }, { target := 1, block := 9 }], lanePage := 16384, rows := 8 } : Crate).lostLanes = [] ∧ ∀ p ∈ perc_scrub_goodF_at.scrubbed ({ id := 7, kind := .evidence, state := .closed, lanes := [{ target := 0, block := 9 }, { target := 1, block := 9 }], lanePage := 16384, rows := 8 }) ({ crate := 7, cws := [{ row := 1, lane := 0, index := 0, cw := { bits := 60 } }] }), p.1.cw.bits ≤ perc_scrub_goodF_at.flash.refreshBits ∧ p.2 < 3) ∧ perc_scrub_goodF_at.disturbed ({ id := 7, kind := .evidence, state := .closed, lanes := [{ target := 0, block := 9 }, { target := 1, block := 9 }], lanePage := 16384, rows := 8 }) = false := by decide +kernel
def perc_scrub_goodT_at : State := { inMode (withFlash State.reset) .service with flash := { (withFlash State.reset).flash with readLimitK := 1, lanes := [(9, { used := true, reads := 5000 })], crates := [{ id := 7, kind := .evidence, state := .closed, lanes := [{ target := 0, block := 9 }, { target := 1, block := 9 }], lanePage := 16384, rows := 8 }] } }
theorem test_meets_perc_scrub_goodT : perc_scrub_goodT_at.percolates = true ∧ (perc_scrub_goodT_at.crate? 7) = some ({ id := 7, kind := .evidence, state := .closed, lanes := [{ target := 0, block := 9 }, { target := 1, block := 9 }], lanePage := 16384, rows := 8 }) ∧ ({ id := 7, kind := .evidence, state := .closed, lanes := [{ target := 0, block := 9 }, { target := 1, block := 9 }], lanePage := 16384, rows := 8 } : Crate).complete = true ∧ (({ id := 7, kind := .evidence, state := .closed, lanes := [{ target := 0, block := 9 }, { target := 1, block := 9 }], lanePage := 16384, rows := 8 } : Crate).lostLanes = [] ∧ ∀ p ∈ perc_scrub_goodT_at.scrubbed ({ id := 7, kind := .evidence, state := .closed, lanes := [{ target := 0, block := 9 }, { target := 1, block := 9 }], lanePage := 16384, rows := 8 }) ({ crate := 7, cws := [{ row := 1, lane := 0, index := 0, cw := { bits := 60 } }] }), p.1.cw.bits ≤ perc_scrub_goodT_at.flash.refreshBits ∧ p.2 < 3) ∧ perc_scrub_goodT_at.disturbed ({ id := 7, kind := .evidence, state := .closed, lanes := [{ target := 0, block := 9 }, { target := 1, block := 9 }], lanePage := 16384, rows := 8 }) = true := by decide +kernel
def perc_scrub_bitsF_at : State := { inMode (withFlash State.reset) .service with flash := { (withFlash State.reset).flash with crates := [{ id := 7, kind := .evidence, state := .closed, lanes := [{ target := 0, block := 9 }, { target := 1, block := 9 }], lanePage := 16384, rows := 8 }] } }
theorem test_meets_perc_scrub_bitsF : perc_scrub_bitsF_at.percolates = true ∧ (perc_scrub_bitsF_at.crate? 7) = some ({ id := 7, kind := .evidence, state := .closed, lanes := [{ target := 0, block := 9 }, { target := 1, block := 9 }], lanePage := 16384, rows := 8 }) ∧ ({ id := 7, kind := .evidence, state := .closed, lanes := [{ target := 0, block := 9 }, { target := 1, block := 9 }], lanePage := 16384, rows := 8 } : Crate).complete = true ∧ ((({ id := 7, kind := .evidence, state := .closed, lanes := [{ target := 0, block := 9 }, { target := 1, block := 9 }], lanePage := 16384, rows := 8 } : Crate).lostLanes ≠ [] ∨ ∃ p ∈ perc_scrub_bitsF_at.scrubbed ({ id := 7, kind := .evidence, state := .closed, lanes := [{ target := 0, block := 9 }, { target := 1, block := 9 }], lanePage := 16384, rows := 8 }) ({ crate := 7, cws := [{ row := 1, lane := 0, index := 0, cw := { bits := 61 } }] }), perc_scrub_bitsF_at.flash.refreshBits < p.1.cw.bits ∨ 3 ≤ p.2)) ∧ perc_scrub_bitsF_at.disturbed ({ id := 7, kind := .evidence, state := .closed, lanes := [{ target := 0, block := 9 }, { target := 1, block := 9 }], lanePage := 16384, rows := 8 }) = false := by decide +kernel
def perc_scrub_bitsT_at : State := { inMode (withFlash State.reset) .service with flash := { (withFlash State.reset).flash with readLimitK := 1, lanes := [(9, { used := true, reads := 5000 })], crates := [{ id := 7, kind := .evidence, state := .closed, lanes := [{ target := 0, block := 9 }, { target := 1, block := 9 }], lanePage := 16384, rows := 8 }] } }
theorem test_meets_perc_scrub_bitsT : perc_scrub_bitsT_at.percolates = true ∧ (perc_scrub_bitsT_at.crate? 7) = some ({ id := 7, kind := .evidence, state := .closed, lanes := [{ target := 0, block := 9 }, { target := 1, block := 9 }], lanePage := 16384, rows := 8 }) ∧ ({ id := 7, kind := .evidence, state := .closed, lanes := [{ target := 0, block := 9 }, { target := 1, block := 9 }], lanePage := 16384, rows := 8 } : Crate).complete = true ∧ ((({ id := 7, kind := .evidence, state := .closed, lanes := [{ target := 0, block := 9 }, { target := 1, block := 9 }], lanePage := 16384, rows := 8 } : Crate).lostLanes ≠ [] ∨ ∃ p ∈ perc_scrub_bitsT_at.scrubbed ({ id := 7, kind := .evidence, state := .closed, lanes := [{ target := 0, block := 9 }, { target := 1, block := 9 }], lanePage := 16384, rows := 8 }) ({ crate := 7, cws := [{ row := 1, lane := 0, index := 0, cw := { bits := 61 } }] }), perc_scrub_bitsT_at.flash.refreshBits < p.1.cw.bits ∨ 3 ≤ p.2)) ∧ perc_scrub_bitsT_at.disturbed ({ id := 7, kind := .evidence, state := .closed, lanes := [{ target := 0, block := 9 }, { target := 1, block := 9 }], lanePage := 16384, rows := 8 }) = true := by decide +kernel
def perc_scrub_lateF_at : State := { inMode (withFlash State.reset) .service with flash := { (withFlash State.reset).flash with crates := [{ id := 7, kind := .evidence, state := .closed, lanes := [{ target := 0, block := 9 }, { target := 1, block := 9 }], lanePage := 16384, rows := 8 }] } }
theorem test_meets_perc_scrub_lateF : perc_scrub_lateF_at.percolates = true ∧ (perc_scrub_lateF_at.crate? 7) = some ({ id := 7, kind := .evidence, state := .closed, lanes := [{ target := 0, block := 9 }, { target := 1, block := 9 }], lanePage := 16384, rows := 8 }) ∧ ({ id := 7, kind := .evidence, state := .closed, lanes := [{ target := 0, block := 9 }, { target := 1, block := 9 }], lanePage := 16384, rows := 8 } : Crate).complete = true ∧ ((({ id := 7, kind := .evidence, state := .closed, lanes := [{ target := 0, block := 9 }, { target := 1, block := 9 }], lanePage := 16384, rows := 8 } : Crate).lostLanes ≠ [] ∨ ∃ p ∈ perc_scrub_lateF_at.scrubbed ({ id := 7, kind := .evidence, state := .closed, lanes := [{ target := 0, block := 9 }, { target := 1, block := 9 }], lanePage := 16384, rows := 8 }) ({ crate := 7, cws := [{ row := 1, lane := 0, index := 0, cw := { hard := .fails, retry := [.good] } }] }), perc_scrub_lateF_at.flash.refreshBits < p.1.cw.bits ∨ 3 ≤ p.2)) ∧ perc_scrub_lateF_at.disturbed ({ id := 7, kind := .evidence, state := .closed, lanes := [{ target := 0, block := 9 }, { target := 1, block := 9 }], lanePage := 16384, rows := 8 }) = false := by decide +kernel
def perc_scrub_lateT_at : State := { inMode (withFlash State.reset) .service with flash := { (withFlash State.reset).flash with readLimitK := 1, lanes := [(9, { used := true, reads := 5000 })], crates := [{ id := 7, kind := .evidence, state := .closed, lanes := [{ target := 0, block := 9 }, { target := 1, block := 9 }], lanePage := 16384, rows := 8 }] } }
theorem test_meets_perc_scrub_lateT : perc_scrub_lateT_at.percolates = true ∧ (perc_scrub_lateT_at.crate? 7) = some ({ id := 7, kind := .evidence, state := .closed, lanes := [{ target := 0, block := 9 }, { target := 1, block := 9 }], lanePage := 16384, rows := 8 }) ∧ ({ id := 7, kind := .evidence, state := .closed, lanes := [{ target := 0, block := 9 }, { target := 1, block := 9 }], lanePage := 16384, rows := 8 } : Crate).complete = true ∧ ((({ id := 7, kind := .evidence, state := .closed, lanes := [{ target := 0, block := 9 }, { target := 1, block := 9 }], lanePage := 16384, rows := 8 } : Crate).lostLanes ≠ [] ∨ ∃ p ∈ perc_scrub_lateT_at.scrubbed ({ id := 7, kind := .evidence, state := .closed, lanes := [{ target := 0, block := 9 }, { target := 1, block := 9 }], lanePage := 16384, rows := 8 }) ({ crate := 7, cws := [{ row := 1, lane := 0, index := 0, cw := { hard := .fails, retry := [.good] } }] }), perc_scrub_lateT_at.flash.refreshBits < p.1.cw.bits ∨ 3 ≤ p.2)) ∧ perc_scrub_lateT_at.disturbed ({ id := 7, kind := .evidence, state := .closed, lanes := [{ target := 0, block := 9 }, { target := 1, block := 9 }], lanePage := 16384, rows := 8 }) = true := by decide +kernel
def perc_scrub_lostF_at : State := { inMode (withFlash State.reset) .service with flash := { (withFlash State.reset).flash with crates := [{ id := 7, kind := .evidence, state := .closed, lostLanes := [0], lanes := [{ target := 0, block := 9 }, { target := 1, block := 9 }], lanePage := 16384, rows := 8 }] } }
theorem test_meets_perc_scrub_lostF : perc_scrub_lostF_at.percolates = true ∧ (perc_scrub_lostF_at.crate? 7) = some ({ id := 7, kind := .evidence, state := .closed, lostLanes := [0], lanes := [{ target := 0, block := 9 }, { target := 1, block := 9 }], lanePage := 16384, rows := 8 }) ∧ ({ id := 7, kind := .evidence, state := .closed, lostLanes := [0], lanes := [{ target := 0, block := 9 }, { target := 1, block := 9 }], lanePage := 16384, rows := 8 } : Crate).complete = true ∧ ((({ id := 7, kind := .evidence, state := .closed, lostLanes := [0], lanes := [{ target := 0, block := 9 }, { target := 1, block := 9 }], lanePage := 16384, rows := 8 } : Crate).lostLanes ≠ [] ∨ ∃ p ∈ perc_scrub_lostF_at.scrubbed ({ id := 7, kind := .evidence, state := .closed, lostLanes := [0], lanes := [{ target := 0, block := 9 }, { target := 1, block := 9 }], lanePage := 16384, rows := 8 }) ({ crate := 7, cws := [] }), perc_scrub_lostF_at.flash.refreshBits < p.1.cw.bits ∨ 3 ≤ p.2)) ∧ perc_scrub_lostF_at.disturbed ({ id := 7, kind := .evidence, state := .closed, lostLanes := [0], lanes := [{ target := 0, block := 9 }, { target := 1, block := 9 }], lanePage := 16384, rows := 8 }) = false := by decide +kernel
def perc_scrub_lostT_at : State := { inMode (withFlash State.reset) .service with flash := { (withFlash State.reset).flash with readLimitK := 1, lanes := [(9, { used := true, reads := 5000 })], crates := [{ id := 7, kind := .evidence, state := .closed, lostLanes := [0], lanes := [{ target := 0, block := 9 }, { target := 1, block := 9 }], lanePage := 16384, rows := 8 }] } }
theorem test_meets_perc_scrub_lostT : perc_scrub_lostT_at.percolates = true ∧ (perc_scrub_lostT_at.crate? 7) = some ({ id := 7, kind := .evidence, state := .closed, lostLanes := [0], lanes := [{ target := 0, block := 9 }, { target := 1, block := 9 }], lanePage := 16384, rows := 8 }) ∧ ({ id := 7, kind := .evidence, state := .closed, lostLanes := [0], lanes := [{ target := 0, block := 9 }, { target := 1, block := 9 }], lanePage := 16384, rows := 8 } : Crate).complete = true ∧ ((({ id := 7, kind := .evidence, state := .closed, lostLanes := [0], lanes := [{ target := 0, block := 9 }, { target := 1, block := 9 }], lanePage := 16384, rows := 8 } : Crate).lostLanes ≠ [] ∨ ∃ p ∈ perc_scrub_lostT_at.scrubbed ({ id := 7, kind := .evidence, state := .closed, lostLanes := [0], lanes := [{ target := 0, block := 9 }, { target := 1, block := 9 }], lanePage := 16384, rows := 8 }) ({ crate := 7, cws := [] }), perc_scrub_lostT_at.flash.refreshBits < p.1.cw.bits ∨ 3 ≤ p.2)) ∧ perc_scrub_lostT_at.disturbed ({ id := 7, kind := .evidence, state := .closed, lostLanes := [0], lanes := [{ target := 0, block := 9 }, { target := 1, block := 9 }], lanePage := 16384, rows := 8 }) = true := by decide +kernel
def load_template_no_at : State := ready1 { State.reset with power := { State.reset.power with warn := false, pllSwitching := false }, crypto := {} } (tkOf 0x31 3 (extent 64) ([9] ++ zeros 15))
theorem test_meets_load_template_no : Carries load_template_no_at (tkOf 0x31 3 (extent 64) ([9] ++ zeros 15)) { data := .ok (zeros 64) } (zeros 64) ∧ Admitted load_template_no_at { id := 7 } 0x31 (tkOf 0x31 3 (extent 64) ([9] ++ zeros 15)) ∧ templateOf (zeros 64) = none := by decide +kernel
def load_template_at : State := ready1 ({ { State.reset with power := { State.reset.power with warn := false, pllSwitching := false }, crypto := {} } with tabs := { State.reset.tabs with applets := State.reset.tabs.applets.ins 16 { code := [0] } } }) (tkOf 0x31 3 (extent 64) ([9] ++ zeros 15))
theorem test_meets_load_template : Carries load_template_at (tkOf 0x31 3 (extent 64) ([9] ++ zeros 15)) { data := .ok (leBytes 2 16 ++ [0, 0, 2, 0] ++ leBytes 2 64 ++ leBytes 2 90 ++ zeros 2 ++ leBytes 4 1000 ++ leBytes 4 10 ++ zeros 44) } (leBytes 2 16 ++ [0, 0, 2, 0] ++ leBytes 2 64 ++ leBytes 2 90 ++ zeros 2 ++ leBytes 4 1000 ++ leBytes 4 10 ++ zeros 44) ∧ Admitted load_template_at { id := 7 } 0x31 (tkOf 0x31 3 (extent 64) ([9] ++ zeros 15)) ∧ (templateOf (leBytes 2 16 ++ [0, 0, 2, 0] ++ leBytes 2 64 ++ leBytes 2 90 ++ zeros 2 ++ leBytes 4 1000 ++ leBytes 4 10 ++ zeros 44)).any (fun p => p.1.keys.all CamKey.valid && load_template_at.appletFits p.1 && (p.1.keys.all (fun k => k.alg == 4) || (load_template_at.checkStall.isSome && (load_template_at.poolEngine 1 false []).isSome && (load_template_at.poolEngine 1 true []).isSome)) && decide (load_template_at.tabs.keyCount - (load_template_at.tabs.templates.get noTempl 9).keys.length + p.1.keys.length ≤ 131072)) = true ∧ load_template_at.eventFits 56 = true ∧ load_template_at.tabs.templates.sorted = true := by decide +kernel
def load_template_mldsa_at : State := ready1 ({ { State.reset with power := { State.reset.power with warn := false, pllSwitching := false }, crypto := {} } with tabs := { State.reset.tabs with applets := State.reset.tabs.applets.ins 16 { code := [0] } } }) (tkOf 0x31 3 (extent 1392) ([9] ++ zeros 15))
theorem test_meets_load_template_mldsa : Carries load_template_mldsa_at (tkOf 0x31 3 (extent 1392) ([9] ++ zeros 15)) { data := .ok (leBytes 2 16 ++ [0, 0, 2, 0] ++ leBytes 2 64 ++ leBytes 2 90 ++ zeros 2 ++ leBytes 4 1000 ++ leBytes 4 10 ++ leBytes 4 1 ++ zeros 40 ++ leBytes 8 5 ++ [4, 0] ++ leBytes 2 1312 ++ zeros 4 ++ zeros 1312) } (leBytes 2 16 ++ [0, 0, 2, 0] ++ leBytes 2 64 ++ leBytes 2 90 ++ zeros 2 ++ leBytes 4 1000 ++ leBytes 4 10 ++ leBytes 4 1 ++ zeros 40 ++ leBytes 8 5 ++ [4, 0] ++ leBytes 2 1312 ++ zeros 4 ++ zeros 1312) ∧ Admitted load_template_mldsa_at { id := 7 } 0x31 (tkOf 0x31 3 (extent 1392) ([9] ++ zeros 15)) ∧ (templateOf (leBytes 2 16 ++ [0, 0, 2, 0] ++ leBytes 2 64 ++ leBytes 2 90 ++ zeros 2 ++ leBytes 4 1000 ++ leBytes 4 10 ++ leBytes 4 1 ++ zeros 40 ++ leBytes 8 5 ++ [4, 0] ++ leBytes 2 1312 ++ zeros 4 ++ zeros 1312)).any (fun p => p.1.keys.all CamKey.valid && load_template_mldsa_at.appletFits p.1 && (p.1.keys.all (fun k => k.alg == 4) || (load_template_mldsa_at.checkStall.isSome && (load_template_mldsa_at.poolEngine 1 false []).isSome && (load_template_mldsa_at.poolEngine 1 true []).isSome)) && decide (load_template_mldsa_at.tabs.keyCount - (load_template_mldsa_at.tabs.templates.get noTempl 9).keys.length + p.1.keys.length ≤ 131072)) = true ∧ load_template_mldsa_at.eventFits 56 = true ∧ load_template_mldsa_at.tabs.templates.sorted = true := by decide +kernel
def load_template_ed_at : State := ready1 ({ { State.reset with power := { State.reset.power with warn := false, pllSwitching := false }, crypto := {} } with tabs := { State.reset.tabs with applets := State.reset.tabs.applets.ins 16 { code := [0] } } }) (tkOf 0x31 3 (extent 112) ([9] ++ zeros 15))
theorem test_meets_load_template_ed : Carries load_template_ed_at (tkOf 0x31 3 (extent 112) ([9] ++ zeros 15)) { data := .ok (leBytes 2 16 ++ [0, 0, 2, 0] ++ leBytes 2 64 ++ leBytes 2 90 ++ zeros 2 ++ leBytes 4 1000 ++ leBytes 4 10 ++ leBytes 4 1 ++ zeros 40 ++ leBytes 8 5 ++ [3, 0] ++ leBytes 2 32 ++ zeros 4 ++ (0x58 :: List.replicate 31 0x66)) } (leBytes 2 16 ++ [0, 0, 2, 0] ++ leBytes 2 64 ++ leBytes 2 90 ++ zeros 2 ++ leBytes 4 1000 ++ leBytes 4 10 ++ leBytes 4 1 ++ zeros 40 ++ leBytes 8 5 ++ [3, 0] ++ leBytes 2 32 ++ zeros 4 ++ (0x58 :: List.replicate 31 0x66)) ∧ Admitted load_template_ed_at { id := 7 } 0x31 (tkOf 0x31 3 (extent 112) ([9] ++ zeros 15)) ∧ (templateOf (leBytes 2 16 ++ [0, 0, 2, 0] ++ leBytes 2 64 ++ leBytes 2 90 ++ zeros 2 ++ leBytes 4 1000 ++ leBytes 4 10 ++ leBytes 4 1 ++ zeros 40 ++ leBytes 8 5 ++ [3, 0] ++ leBytes 2 32 ++ zeros 4 ++ (0x58 :: List.replicate 31 0x66))).any (fun p => p.1.keys.all CamKey.valid && load_template_ed_at.appletFits p.1 && (p.1.keys.all (fun k => k.alg == 4) || (load_template_ed_at.checkStall.isSome && (load_template_ed_at.poolEngine 1 false []).isSome && (load_template_ed_at.poolEngine 1 true []).isSome)) && decide (load_template_ed_at.tabs.keyCount - (load_template_ed_at.tabs.templates.get noTempl 9).keys.length + p.1.keys.length ≤ 131072)) = true ∧ load_template_ed_at.eventFits 56 = true ∧ load_template_ed_at.tabs.templates.sorted = true := by decide +kernel
def load_applet_at : State := ready1 { State.reset with power := { State.reset.power with warn := false, pllSwitching := false }, crypto := {} } ({ tkOf 0x30 3 (extent 64) (leBytes 2 40 ++ zeros 14) with auth := some { bytes := [] } })
theorem test_meets_load_applet : Carries load_applet_at ({ tkOf 0x30 3 (extent 64) (leBytes 2 40 ++ zeros 14) with auth := some { bytes := [] } }) { data := .ok (zeros 64) } (zeros 64) ∧ Admitted load_applet_at { id := 7 } 0x30 ({ tkOf 0x30 3 (extent 64) (leBytes 2 40 ++ zeros 14) with auth := some { bytes := [] } }) ∧ ({ tkOf 0x30 3 (extent 64) (leBytes 2 40 ++ zeros 14) with auth := some { bytes := [] } }).auth = some { bytes := [] } ∧ PoolServes load_applet_at 1 ∧ (∀ p ∈ load_applet_at.tabs.templates, p.2.applet ≠ 40) ∧ load_applet_at.eventFits 56 = true := by decide +kernel
def lockstepTest_idle_at : State := withTk { State.reset with crypto := {}, units := { State.reset.units with st := [], items := [] } } (tkOf 0x38 3 (zeros 32) (leBytes 2 0x3004 ++ [1] ++ zeros 13))
theorem test_meets_lockstepTest_idle : Admitted lockstepTest_idle_at { id := 7 } 0x38 (tkOf 0x38 3 (zeros 32) (leBytes 2 0x3004 ++ [1] ++ zeros 13)) ∧ (tkOf 0x38 3 (zeros 32) (leBytes 2 0x3004 ++ [1] ++ zeros 13)).tk.noData = true ∧ (tkOf 0x38 3 (zeros 32) (leBytes 2 0x3004 ++ [1] ++ zeros 13)).tk.op 48 2 = 0x3004 ∧ (tkOf 0x38 3 (zeros 32) (leBytes 2 0x3004 ++ [1] ++ zeros 13)).tk.op 50 1 = 1 ∧ (0x3004) / 4096 ≠ 12 ∧ (lockstepTest_idle_at.unitSt 0x3004).broke = false ∧ (lockstepTest_idle_at.unitSt 0x3004).state = .active ∧ lockstepTest_idle_at.mayDrain 0x3004 = true ∧ (lockstepTest_idle_at.lendSpare 0x3004).holdsWork 0x3004 = false := by decide +kernel
def lockstepTest_pass_at : State := withTk { State.reset with crypto := {}, units := { State.reset.units with st := [(0x3004, { state := .underTest })], items := [] } } (tkOf 0x38 3 (zeros 32) (leBytes 2 0x3004 ++ [1] ++ zeros 13))
theorem test_meets_lockstepTest_pass : Admitted lockstepTest_pass_at { id := 7 } 0x38 (tkOf 0x38 3 (zeros 32) (leBytes 2 0x3004 ++ [1] ++ zeros 13)) ∧ (tkOf 0x38 3 (zeros 32) (leBytes 2 0x3004 ++ [1] ++ zeros 13)).tk.noData = true ∧ (tkOf 0x38 3 (zeros 32) (leBytes 2 0x3004 ++ [1] ++ zeros 13)).tk.op 48 2 = 0x3004 ∧ (tkOf 0x38 3 (zeros 32) (leBytes 2 0x3004 ++ [1] ++ zeros 13)).tk.op 50 1 = 1 ∧ (0x3004) / 4096 ≠ 12 ∧ (lockstepTest_pass_at.unitSt 0x3004).broke = false ∧ (lockstepTest_pass_at.unitSt 0x3004).state = .underTest ∧ lockstepTest_pass_at.testFails 0x3004 { fail := false, detail := 0x7F0000 } = false ∧ Admitted (lockstepTest_pass_at.undrain 0x3004) { id := 7 } 0x38 (tkOf 0x38 3 (zeros 32) (leBytes 2 0x3004 ++ [1] ++ zeros 13)) := by decide +kernel
def lockstepTest_ret_at : State := withTk { State.reset with crypto := {}, units := { State.reset.units with st := [(0x3004, { state := .retired })], items := [] } } (tkOf 0x38 3 (zeros 32) (leBytes 2 0x3004 ++ [1] ++ zeros 13))
theorem test_meets_lockstepTest_ret : Admitted lockstepTest_ret_at { id := 7 } 0x38 (tkOf 0x38 3 (zeros 32) (leBytes 2 0x3004 ++ [1] ++ zeros 13)) ∧ (tkOf 0x38 3 (zeros 32) (leBytes 2 0x3004 ++ [1] ++ zeros 13)).tk.noData = true ∧ (tkOf 0x38 3 (zeros 32) (leBytes 2 0x3004 ++ [1] ++ zeros 13)).tk.op 48 2 = 0x3004 ∧ (tkOf 0x38 3 (zeros 32) (leBytes 2 0x3004 ++ [1] ++ zeros 13)).tk.op 50 1 = 1 ∧ (0x3004) / 4096 ≠ 12 ∧ (lockstepTest_ret_at.unitSt 0x3004).broke = false ∧ (lockstepTest_ret_at.unitSt 0x3004).state = .retired := by decide +kernel
def memoryTest_idle_at : State := withTk { State.reset with crypto := {}, units := { State.reset.units with st := [], items := [] } } (tkOf 0x38 3 (zeros 32) (leBytes 2 0x3004 ++ [2] ++ zeros 13))
theorem test_meets_memoryTest_idle : Admitted memoryTest_idle_at { id := 7 } 0x38 (tkOf 0x38 3 (zeros 32) (leBytes 2 0x3004 ++ [2] ++ zeros 13)) ∧ (tkOf 0x38 3 (zeros 32) (leBytes 2 0x3004 ++ [2] ++ zeros 13)).tk.noData = true ∧ (tkOf 0x38 3 (zeros 32) (leBytes 2 0x3004 ++ [2] ++ zeros 13)).tk.op 48 2 = 0x3004 ∧ (tkOf 0x38 3 (zeros 32) (leBytes 2 0x3004 ++ [2] ++ zeros 13)).tk.op 50 1 = 2 ∧ (0x3004) / 4096 ≠ 12 ∧ (memoryTest_idle_at.unitSt 0x3004).broke = false ∧ (memoryTest_idle_at.unitSt 0x3004).state = .active ∧ memoryTest_idle_at.mayDrain 0x3004 = true ∧ (memoryTest_idle_at.lendSpare 0x3004).holdsWork 0x3004 = false := by decide +kernel
def memoryTest_pass_at : State := withTk { State.reset with crypto := {}, units := { State.reset.units with st := [(0x3004, { state := .underTest })], items := [] } } (tkOf 0x38 3 (zeros 32) (leBytes 2 0x3004 ++ [2] ++ zeros 13))
theorem test_meets_memoryTest_pass : Admitted memoryTest_pass_at { id := 7 } 0x38 (tkOf 0x38 3 (zeros 32) (leBytes 2 0x3004 ++ [2] ++ zeros 13)) ∧ (tkOf 0x38 3 (zeros 32) (leBytes 2 0x3004 ++ [2] ++ zeros 13)).tk.noData = true ∧ (tkOf 0x38 3 (zeros 32) (leBytes 2 0x3004 ++ [2] ++ zeros 13)).tk.op 48 2 = 0x3004 ∧ (tkOf 0x38 3 (zeros 32) (leBytes 2 0x3004 ++ [2] ++ zeros 13)).tk.op 50 1 = 2 ∧ (0x3004) / 4096 ≠ 12 ∧ (memoryTest_pass_at.unitSt 0x3004).broke = false ∧ (memoryTest_pass_at.unitSt 0x3004).state = .underTest ∧ memoryTest_pass_at.testFails 0x3004 { fail := false, detail := 0x7F0000 } = false ∧ Admitted (memoryTest_pass_at.undrain 0x3004) { id := 7 } 0x38 (tkOf 0x38 3 (zeros 32) (leBytes 2 0x3004 ++ [2] ++ zeros 13)) := by decide +kernel
def memoryTest_ret_at : State := withTk { State.reset with crypto := {}, units := { State.reset.units with st := [(0x3004, { state := .retired })], items := [] } } (tkOf 0x38 3 (zeros 32) (leBytes 2 0x3004 ++ [2] ++ zeros 13))
theorem test_meets_memoryTest_ret : Admitted memoryTest_ret_at { id := 7 } 0x38 (tkOf 0x38 3 (zeros 32) (leBytes 2 0x3004 ++ [2] ++ zeros 13)) ∧ (tkOf 0x38 3 (zeros 32) (leBytes 2 0x3004 ++ [2] ++ zeros 13)).tk.noData = true ∧ (tkOf 0x38 3 (zeros 32) (leBytes 2 0x3004 ++ [2] ++ zeros 13)).tk.op 48 2 = 0x3004 ∧ (tkOf 0x38 3 (zeros 32) (leBytes 2 0x3004 ++ [2] ++ zeros 13)).tk.op 50 1 = 2 ∧ (0x3004) / 4096 ≠ 12 ∧ (memoryTest_ret_at.unitSt 0x3004).broke = false ∧ (memoryTest_ret_at.unitSt 0x3004).state = .retired := by decide +kernel
def katTest_idle_at : State := withTk { State.reset with crypto := {}, units := { State.reset.units with st := [], items := [] } } (tkOf 0x38 3 (zeros 32) (leBytes 2 0x4003 ++ [3] ++ zeros 13))
theorem test_meets_katTest_idle : Admitted katTest_idle_at { id := 7 } 0x38 (tkOf 0x38 3 (zeros 32) (leBytes 2 0x4003 ++ [3] ++ zeros 13)) ∧ (tkOf 0x38 3 (zeros 32) (leBytes 2 0x4003 ++ [3] ++ zeros 13)).tk.noData = true ∧ (tkOf 0x38 3 (zeros 32) (leBytes 2 0x4003 ++ [3] ++ zeros 13)).tk.op 48 2 = 0x4003 ∧ (tkOf 0x38 3 (zeros 32) (leBytes 2 0x4003 ++ [3] ++ zeros 13)).tk.op 50 1 = 3 ∧ (0x4003) / 4096 ≠ 12 ∧ (katTest_idle_at.unitSt 0x4003).broke = false ∧ (katTest_idle_at.unitSt 0x4003).state = .active ∧ katTest_idle_at.mayDrain 0x4003 = true ∧ (katTest_idle_at.lendSpare 0x4003).holdsWork 0x4003 = false := by decide +kernel
def katTest_pass_at : State := withTk { State.reset with crypto := {}, units := { State.reset.units with st := [(0x4003, { state := .underTest })], items := [] } } (tkOf 0x38 3 (zeros 32) (leBytes 2 0x4003 ++ [3] ++ zeros 13))
theorem test_meets_katTest_pass : Admitted katTest_pass_at { id := 7 } 0x38 (tkOf 0x38 3 (zeros 32) (leBytes 2 0x4003 ++ [3] ++ zeros 13)) ∧ (tkOf 0x38 3 (zeros 32) (leBytes 2 0x4003 ++ [3] ++ zeros 13)).tk.noData = true ∧ (tkOf 0x38 3 (zeros 32) (leBytes 2 0x4003 ++ [3] ++ zeros 13)).tk.op 48 2 = 0x4003 ∧ (tkOf 0x38 3 (zeros 32) (leBytes 2 0x4003 ++ [3] ++ zeros 13)).tk.op 50 1 = 3 ∧ (0x4003) / 4096 ≠ 12 ∧ (katTest_pass_at.unitSt 0x4003).broke = false ∧ (katTest_pass_at.unitSt 0x4003).state = .underTest ∧ katTest_pass_at.testFails 0x4003 { fail := false, detail := 0x7F0000 } = false ∧ Admitted (katTest_pass_at.undrain 0x4003) { id := 7 } 0x38 (tkOf 0x38 3 (zeros 32) (leBytes 2 0x4003 ++ [3] ++ zeros 13)) := by decide +kernel
def katTest_ret_at : State := withTk { State.reset with crypto := {}, units := { State.reset.units with st := [(0x4003, { state := .retired })], items := [] } } (tkOf 0x38 3 (zeros 32) (leBytes 2 0x4003 ++ [3] ++ zeros 13))
theorem test_meets_katTest_ret : Admitted katTest_ret_at { id := 7 } 0x38 (tkOf 0x38 3 (zeros 32) (leBytes 2 0x4003 ++ [3] ++ zeros 13)) ∧ (tkOf 0x38 3 (zeros 32) (leBytes 2 0x4003 ++ [3] ++ zeros 13)).tk.noData = true ∧ (tkOf 0x38 3 (zeros 32) (leBytes 2 0x4003 ++ [3] ++ zeros 13)).tk.op 48 2 = 0x4003 ∧ (tkOf 0x38 3 (zeros 32) (leBytes 2 0x4003 ++ [3] ++ zeros 13)).tk.op 50 1 = 3 ∧ (0x4003) / 4096 ≠ 12 ∧ (katTest_ret_at.unitSt 0x4003).broke = false ∧ (katTest_ret_at.unitSt 0x4003).state = .retired := by decide +kernel
def lockstep_busy_at : State := withTk { State.reset with units := { State.reset.units with st := [], items := [{ ticket := 9, unit := 0x3004, vm := {} }] } } (tkOf 0x38 3 (zeros 32) (leBytes 2 0x3004 ++ [1] ++ zeros 13))
theorem test_meets_lockstep_busy : Admitted lockstep_busy_at { id := 7 } 0x38 (tkOf 0x38 3 (zeros 32) (leBytes 2 0x3004 ++ [1] ++ zeros 13)) ∧ (tkOf 0x38 3 (zeros 32) (leBytes 2 0x3004 ++ [1] ++ zeros 13)).tk.noData = true ∧ (tkOf 0x38 3 (zeros 32) (leBytes 2 0x3004 ++ [1] ++ zeros 13)).tk.op 50 1 = 1 ∧ (tkOf 0x38 3 (zeros 32) (leBytes 2 0x3004 ++ [1] ++ zeros 13)).tk.op 48 2 = 0x3004 ∧ (lockstep_busy_at.unitSt 0x3004).broke = false ∧ (lockstep_busy_at.unitSt 0x3004).state = .active ∧ lockstep_busy_at.mayDrain 0x3004 = true ∧ (lockstep_busy_at.lendSpare 0x3004).holdsWork 0x3004 = true := by decide +kernel
def monitor_test_fused0_at : State := withTk { State.reset with guard := { State.reset.guard with otp := { State.reset.guard.otp with fuses := 0xFFFFFFFF } } } (tkOf 0x38 3 (zeros 32) (leBytes 2 (0xC000 + 0) ++ [4] ++ zeros 13))
theorem test_meets_monitor_test_fused0 : Admitted monitor_test_fused0_at { id := 7 } 0x38 (tkOf 0x38 3 (zeros 32) (leBytes 2 (0xC000 + 0) ++ [4] ++ zeros 13)) ∧ (tkOf 0x38 3 (zeros 32) (leBytes 2 (0xC000 + 0) ++ [4] ++ zeros 13)).tk.noData = true ∧ (tkOf 0x38 3 (zeros 32) (leBytes 2 (0xC000 + 0) ++ [4] ++ zeros 13)).tk.op 50 1 = 4 ∧ (tkOf 0x38 3 (zeros 32) (leBytes 2 (0xC000 + 0) ++ [4] ++ zeros 13)).tk.op 48 2 = 0xC000 + 0 ∧ monitor_test_fused0_at.tamper.srcs.wf Src.at_ = true ∧ monitor_test_fused0_at.fused 0 = true := by decide +kernel
def monitor_test_mask0_at : State := withTk { State.reset with tamper := { State.reset.tamper with srcs := [] } } (tkOf 0x38 3 (zeros 32) (leBytes 2 (0xC000 + 0) ++ [4] ++ zeros 13))
theorem test_meets_monitor_test_mask0 : Admitted monitor_test_mask0_at { id := 7 } 0x38 (tkOf 0x38 3 (zeros 32) (leBytes 2 (0xC000 + 0) ++ [4] ++ zeros 13)) ∧ (tkOf 0x38 3 (zeros 32) (leBytes 2 (0xC000 + 0) ++ [4] ++ zeros 13)).tk.noData = true ∧ (tkOf 0x38 3 (zeros 32) (leBytes 2 (0xC000 + 0) ++ [4] ++ zeros 13)).tk.op 50 1 = 4 ∧ (tkOf 0x38 3 (zeros 32) (leBytes 2 (0xC000 + 0) ++ [4] ++ zeros 13)).tk.op 48 2 = 0xC000 + 0 ∧ monitor_test_mask0_at.tamper.srcs.wf Src.at_ = true ∧ monitor_test_mask0_at.fused 0 = false ∧ (monitor_test_mask0_at.src 0).active = false ∧ (∀ m, m < 32 → (monitor_test_mask0_at.src m).masked = false) := by decide +kernel
def monitor_test_pass0_at : State := withTk { State.reset with tamper := { State.reset.tamper with srcs := [(0, { Src.at_ 0 with masked := true, testFail := true })] } } (tkOf 0x38 3 (zeros 32) (leBytes 2 (0xC000 + 0) ++ [4] ++ zeros 13))
theorem test_meets_monitor_test_pass0 : Admitted monitor_test_pass0_at { id := 7 } 0x38 (tkOf 0x38 3 (zeros 32) (leBytes 2 (0xC000 + 0) ++ [4] ++ zeros 13)) ∧ (tkOf 0x38 3 (zeros 32) (leBytes 2 (0xC000 + 0) ++ [4] ++ zeros 13)).tk.noData = true ∧ (tkOf 0x38 3 (zeros 32) (leBytes 2 (0xC000 + 0) ++ [4] ++ zeros 13)).tk.op 50 1 = 4 ∧ (tkOf 0x38 3 (zeros 32) (leBytes 2 (0xC000 + 0) ++ [4] ++ zeros 13)).tk.op 48 2 = 0xC000 + 0 ∧ monitor_test_pass0_at.tamper.srcs.wf Src.at_ = true ∧ monitor_test_pass0_at.fused 0 = false ∧ (monitor_test_pass0_at.src 0).masked = true ∧ bits (0 : BitVec 64).toNat 0 2 = 0 := by decide +kernel
def monitor_test_fused27_at : State := withTk { State.reset with guard := { State.reset.guard with otp := { State.reset.guard.otp with fuses := 0xFFFFFFFF } } } (tkOf 0x38 3 (zeros 32) (leBytes 2 (0xC000 + 27) ++ [4] ++ zeros 13))
theorem test_meets_monitor_test_fused27 : Admitted monitor_test_fused27_at { id := 7 } 0x38 (tkOf 0x38 3 (zeros 32) (leBytes 2 (0xC000 + 27) ++ [4] ++ zeros 13)) ∧ (tkOf 0x38 3 (zeros 32) (leBytes 2 (0xC000 + 27) ++ [4] ++ zeros 13)).tk.noData = true ∧ (tkOf 0x38 3 (zeros 32) (leBytes 2 (0xC000 + 27) ++ [4] ++ zeros 13)).tk.op 50 1 = 4 ∧ (tkOf 0x38 3 (zeros 32) (leBytes 2 (0xC000 + 27) ++ [4] ++ zeros 13)).tk.op 48 2 = 0xC000 + 27 ∧ monitor_test_fused27_at.tamper.srcs.wf Src.at_ = true ∧ monitor_test_fused27_at.fused 27 = true := by decide +kernel
def monitor_test_mask27_at : State := withTk { State.reset with tamper := { State.reset.tamper with srcs := [] } } (tkOf 0x38 3 (zeros 32) (leBytes 2 (0xC000 + 27) ++ [4] ++ zeros 13))
theorem test_meets_monitor_test_mask27 : Admitted monitor_test_mask27_at { id := 7 } 0x38 (tkOf 0x38 3 (zeros 32) (leBytes 2 (0xC000 + 27) ++ [4] ++ zeros 13)) ∧ (tkOf 0x38 3 (zeros 32) (leBytes 2 (0xC000 + 27) ++ [4] ++ zeros 13)).tk.noData = true ∧ (tkOf 0x38 3 (zeros 32) (leBytes 2 (0xC000 + 27) ++ [4] ++ zeros 13)).tk.op 50 1 = 4 ∧ (tkOf 0x38 3 (zeros 32) (leBytes 2 (0xC000 + 27) ++ [4] ++ zeros 13)).tk.op 48 2 = 0xC000 + 27 ∧ monitor_test_mask27_at.tamper.srcs.wf Src.at_ = true ∧ monitor_test_mask27_at.fused 27 = false ∧ (monitor_test_mask27_at.src 27).active = false ∧ (∀ m, m < 32 → (monitor_test_mask27_at.src m).masked = false) := by decide +kernel
def monitor_test_pass27_at : State := withTk { State.reset with tamper := { State.reset.tamper with srcs := [(27, { Src.at_ 27 with masked := true, testFail := true })] } } (tkOf 0x38 3 (zeros 32) (leBytes 2 (0xC000 + 27) ++ [4] ++ zeros 13))
theorem test_meets_monitor_test_pass27 : Admitted monitor_test_pass27_at { id := 7 } 0x38 (tkOf 0x38 3 (zeros 32) (leBytes 2 (0xC000 + 27) ++ [4] ++ zeros 13)) ∧ (tkOf 0x38 3 (zeros 32) (leBytes 2 (0xC000 + 27) ++ [4] ++ zeros 13)).tk.noData = true ∧ (tkOf 0x38 3 (zeros 32) (leBytes 2 (0xC000 + 27) ++ [4] ++ zeros 13)).tk.op 50 1 = 4 ∧ (tkOf 0x38 3 (zeros 32) (leBytes 2 (0xC000 + 27) ++ [4] ++ zeros 13)).tk.op 48 2 = 0xC000 + 27 ∧ monitor_test_pass27_at.tamper.srcs.wf Src.at_ = true ∧ monitor_test_pass27_at.fused 27 = false ∧ (monitor_test_pass27_at.src 27).masked = true ∧ bits (0 : BitVec 64).toNat 0 2 = 0 := by decide +kernel
def full_idle_at : State := withTk { State.reset with crypto := {}, units := { State.reset.units with st := [], items := [] } } (tkOf 0x38 3 (zeros 32) (leBytes 2 0x7003 ++ [5] ++ zeros 13))
theorem test_meets_full_idle : Admitted full_idle_at { id := 7 } 0x38 (tkOf 0x38 3 (zeros 32) (leBytes 2 0x7003 ++ [5] ++ zeros 13)) ∧ (tkOf 0x38 3 (zeros 32) (leBytes 2 0x7003 ++ [5] ++ zeros 13)).tk.noData = true ∧ (tkOf 0x38 3 (zeros 32) (leBytes 2 0x7003 ++ [5] ++ zeros 13)).tk.op 48 2 = 0x7003 ∧ (tkOf 0x38 3 (zeros 32) (leBytes 2 0x7003 ++ [5] ++ zeros 13)).tk.op 50 1 = 5 ∧ (tkOf 0x38 3 (zeros 32) (leBytes 2 0x7003 ++ [5] ++ zeros 13)).test = none ∧ (full_idle_at.unitSt 0x7003).broke = false ∧ full_idle_at.power.mode ≠ .lockdown ∧ (full_idle_at.unitSt 0x7003).state = .active := by decide +kernel
def full_pass_at : State := withTk { State.reset with crypto := {}, units := { State.reset.units with st := [(0x7003, { state := .underTest })], items := [] } } (tkOf 0x38 3 (zeros 32) (leBytes 2 0x7003 ++ [5] ++ zeros 13))
theorem test_meets_full_pass : Admitted full_pass_at { id := 7 } 0x38 (tkOf 0x38 3 (zeros 32) (leBytes 2 0x7003 ++ [5] ++ zeros 13)) ∧ (tkOf 0x38 3 (zeros 32) (leBytes 2 0x7003 ++ [5] ++ zeros 13)).tk.noData = true ∧ (tkOf 0x38 3 (zeros 32) (leBytes 2 0x7003 ++ [5] ++ zeros 13)).tk.op 48 2 = 0x7003 ∧ (tkOf 0x38 3 (zeros 32) (leBytes 2 0x7003 ++ [5] ++ zeros 13)).tk.op 50 1 = 5 ∧ (tkOf 0x38 3 (zeros 32) (leBytes 2 0x7003 ++ [5] ++ zeros 13)).test = none ∧ (full_pass_at.unitSt 0x7003).broke = false ∧ full_pass_at.power.mode ≠ .lockdown ∧ (full_pass_at.unitSt 0x7003).state = .underTest ∧ full_pass_at.testFails 0x7003 { fail := false, detail := 0x8000 } = false ∧ Admitted (full_pass_at.undrain 0x7003) { id := 7 } 0x38 (tkOf 0x38 3 (zeros 32) (leBytes 2 0x7003 ++ [5] ++ zeros 13)) := by decide +kernel
def full_ret_at : State := withTk { State.reset with crypto := {}, units := { State.reset.units with st := [(0x7003, { state := .retired })], items := [] } } (tkOf 0x38 3 (zeros 32) (leBytes 2 0x7003 ++ [5] ++ zeros 13))
theorem test_meets_full_ret : Admitted full_ret_at { id := 7 } 0x38 (tkOf 0x38 3 (zeros 32) (leBytes 2 0x7003 ++ [5] ++ zeros 13)) ∧ (tkOf 0x38 3 (zeros 32) (leBytes 2 0x7003 ++ [5] ++ zeros 13)).tk.noData = true ∧ (tkOf 0x38 3 (zeros 32) (leBytes 2 0x7003 ++ [5] ++ zeros 13)).tk.op 48 2 = 0x7003 ∧ (tkOf 0x38 3 (zeros 32) (leBytes 2 0x7003 ++ [5] ++ zeros 13)).tk.op 50 1 = 5 ∧ (tkOf 0x38 3 (zeros 32) (leBytes 2 0x7003 ++ [5] ++ zeros 13)).test = none ∧ (full_ret_at.unitSt 0x7003).broke = false ∧ full_ret_at.power.mode ≠ .lockdown ∧ (full_ret_at.unitSt 0x7003).state = .retired := by decide +kernel
def rlc_at : State := { withFlash { State.reset with power := { State.reset.power with groupGated := 0, warn := false, mode := .service, pllSwitching := false } } with flash := { (withFlash State.reset).flash with targets := [(0, { state := .inService, softSince := 16 })] } }
theorem test_meets_rlc : TakesCommands rlc_at 0 ∧ (rlc_at.target 0).state = .inService ∧ rlc_at.flash.targets.wf noTarget = true ∧ (rlc_at.target 0).ops = [] ∧ (rlc_at.target 0).work = none ∧ (rlc_at.target 0).queue = [] ∧ rlc_at.percolates = true ∧ 16 ≤ (rlc_at.target 0).softSince ∧ fld (rlc_at.page 0) 168 1 ≠ 0 := by decide +kernel
def cal1_at : State := withTk ({ withFlash { State.reset with power := { State.reset.power with groupGated := 0, warn := false, pllSwitching := false } } with flash := { (withFlash State.reset).flash with targets := [(0, { state := .inService, softSince := 16 })] } }) (tkOf 0x39 3 (zeros 32) (leBytes 2 0 ++ [1] ++ zeros 13))
theorem test_meets_cal1 : TakesCommands cal1_at 0 ∧ (cal1_at.target 0).state = .inService ∧ cal1_at.flash.targets.wf noTarget = true ∧ (cal1_at.target 0).ops = [] ∧ (cal1_at.target 0).work = none ∧ (cal1_at.target 0).queue = [] ∧ Admitted cal1_at { id := 7 } 0x39 (tkOf 0x39 3 (zeros 32) (leBytes 2 0 ++ [1] ++ zeros 13)) ∧ (tkOf 0x39 3 (zeros 32) (leBytes 2 0 ++ [1] ++ zeros 13)).tk.op 48 2 = 0 ∧ (tkOf 0x39 3 (zeros 32) (leBytes 2 0 ++ [1] ++ zeros 13)).tk.op 50 1 = 1 ∧ fld (cal1_at.page 0) 168 1 ≠ 0 := by decide +kernel
def cal1_no_at : State := withTk ({ withFlash { State.reset with power := { State.reset.power with groupGated := 0, warn := false, pllSwitching := false } } with flash := { (withFlash State.reset).flash with desc := zeros 128 ++ [0, 0] ++ (List.replicate 1023 [(0xFF : Byte), 0]).flatten ++ (smallPage.take 168 ++ [0] ++ smallPage.drop 169), targets := [(0, { state := .inService, softSince := 16 })] } }) (tkOf 0x39 3 (zeros 32) (leBytes 2 0 ++ [1] ++ zeros 13))
theorem test_meets_cal1_no : TakesCommands cal1_no_at 0 ∧ (cal1_no_at.target 0).state = .inService ∧ cal1_no_at.flash.targets.wf noTarget = true ∧ (cal1_no_at.target 0).ops = [] ∧ (cal1_no_at.target 0).work = none ∧ (cal1_no_at.target 0).queue = [] ∧ Admitted cal1_no_at { id := 7 } 0x39 (tkOf 0x39 3 (zeros 32) (leBytes 2 0 ++ [1] ++ zeros 13)) ∧ (tkOf 0x39 3 (zeros 32) (leBytes 2 0 ++ [1] ++ zeros 13)).tk.op 48 2 = 0 ∧ (tkOf 0x39 3 (zeros 32) (leBytes 2 0 ++ [1] ++ zeros 13)).tk.op 50 1 = 1 ∧ fld (cal1_no_at.page 0) 168 1 = 0 := by decide +kernel
def cal2_at : State := withTk ({ withFlash { State.reset with power := { State.reset.power with groupGated := 0, warn := false, pllSwitching := false } } with flash := { (withFlash State.reset).flash with targets := [(0, { state := .inService, softSince := 16 })] } }) (tkOf 0x39 3 (zeros 32) (leBytes 2 0 ++ [2] ++ zeros 13))
theorem test_meets_cal2 : TakesCommands cal2_at 0 ∧ (cal2_at.target 0).state = .inService ∧ cal2_at.flash.targets.wf noTarget = true ∧ (cal2_at.target 0).ops = [] ∧ (cal2_at.target 0).work = none ∧ (cal2_at.target 0).queue = [] ∧ Admitted cal2_at { id := 7 } 0x39 (tkOf 0x39 3 (zeros 32) (leBytes 2 0 ++ [2] ++ zeros 13)) ∧ (tkOf 0x39 3 (zeros 32) (leBytes 2 0 ++ [2] ++ zeros 13)).tk.op 48 2 = 0 ∧ (tkOf 0x39 3 (zeros 32) (leBytes 2 0 ++ [2] ++ zeros 13)).tk.op 50 1 = 2 := by decide +kernel
def cal3_at : State := withTk ((let State.reset := { State.reset with flash := { State.reset.flash with crates := [] } }; { withFlash { State.reset with power := { State.reset.power with groupGated := 0, warn := false, pllSwitching := false } } with flash := { (withFlash State.reset).flash with targets := [(0, { state := .inService, softSince := 16 })] } })) (tkOf 0x39 3 (zeros 32) (leBytes 2 0 ++ [3] ++ zeros 13))
theorem test_meets_cal3 : TakesCommands cal3_at 0 ∧ (cal3_at.target 0).state = .inService ∧ cal3_at.flash.targets.wf noTarget = true ∧ (cal3_at.target 0).ops = [] ∧ (cal3_at.target 0).work = none ∧ (cal3_at.target 0).queue = [] ∧ Admitted cal3_at { id := 7 } 0x39 (tkOf 0x39 3 (zeros 32) (leBytes 2 0 ++ [3] ++ zeros 13)) ∧ (tkOf 0x39 3 (zeros 32) (leBytes 2 0 ++ [3] ++ zeros 13)).tk.op 48 2 = 0 ∧ (tkOf 0x39 3 (zeros 32) (leBytes 2 0 ++ [3] ++ zeros 13)).tk.op 50 1 = 3 ∧ (∀ c ∈ cal3_at.flash.crates, c.complete = true → ∀ l ∈ c.lanes, l.target ≠ 0) := by decide +kernel
def ddr_ce_at : State := { State.reset with power := { State.reset.power with warn := false, pllSwitching := false }, ddr := { State.reset.ddr with state := .ready, patrols := 0, chans := [(1, { state := .active, gib := 16, spares := 4 }), (3, { state := .selfRefresh, gib := 4 })] } }
theorem test_meets_ddr_ce : ddr_ce_at.ddrRuns = true ∧ Runs ddr_ce_at ∧ ddr_ce_at.ddr.chans.wf noDdrChan = true ∧ (ddr_ce_at.ddrChan 1).state = .active ∧ 77 < (ddr_ce_at.ddrChan 1).gib * 262144 ∧ (ddr_ce_at.ddrChan 1).retiredPages.contains 77 = false ∧ (ddr_ce_at.ddrChan 1).ce = [] ∧ 1 < ddr_ce_at.ddr.ceRetire ∧ ddr_ce_at.ddr.ce < 65535 := by decide +kernel
def ddr_ue_at : State := { State.reset with power := { State.reset.power with warn := false, pllSwitching := false }, ddr := { State.reset.ddr with state := .ready, patrols := 0, chans := [(1, { state := .active, gib := 16, spares := 4 }), (3, { state := .selfRefresh, gib := 4 })] } }
theorem test_meets_ddr_ue : ddr_ue_at.ddrRuns = true ∧ Runs ddr_ue_at ∧ ddr_ue_at.ddr.chans.wf noDdrChan = true ∧ (ddr_ue_at.ddrChan 1).state = .active ∧ 77 < (ddr_ue_at.ddrChan 1).gib * 262144 ∧ (ddr_ue_at.ddrChan 1).retiredPages.contains 77 = false ∧ (ddr_ue_at.ddrChan 1).lostPages = [] ∧ 0 < (ddr_ue_at.ddrChan 1).spares ∧ ddr_ue_at.ddr.ue < 65535 := by decide +kernel
def ddr_self_at : State := (let State.reset := inMode State.reset .rest; { State.reset with power := { State.reset.power with warn := false, pllSwitching := false }, ddr := { State.reset.ddr with state := .ready, patrols := 0, chans := [(1, { state := .active, gib := 16, spares := 4 }), (3, { state := .selfRefresh, gib := 4 })] } })
theorem test_meets_ddr_self : ddr_self_at.ddrRuns = true ∧ Runs ddr_self_at ∧ ddr_self_at.ddr.chans.wf noDdrChan = true ∧ (ddr_self_at.ddrChan 1).state = .active ∧ ddr_self_at.power.mode = .rest ∧ ddr_self_at.ddr.idleMs ≠ 0 := by decide +kernel
def ddr_filling_at : State := { State.reset with power := { State.reset.power with warn := false, pllSwitching := false }, ddr := { State.reset.ddr with state := .filling, patrols := 0, chans := [(1, { state := .active, gib := 16, spares := 4 }), (3, { state := .selfRefresh, gib := 4 })] } }
theorem test_meets_ddr_filling : ddr_filling_at.ddrRuns = true ∧ Runs ddr_filling_at ∧ ddr_filling_at.ddr.chans.wf noDdrChan = true ∧ (ddr_filling_at.ddr.state = .filling ∨ ddr_filling_at.ddr.state = .rekeying) := by decide +kernel
def ddr_rekeying_at : State := { State.reset with power := { State.reset.power with warn := false, pllSwitching := false }, ddr := { State.reset.ddr with state := .rekeying, patrols := 0, chans := [(1, { state := .active, gib := 16, spares := 4 }), (3, { state := .selfRefresh, gib := 4 })] } }
theorem test_meets_ddr_rekeying : ddr_rekeying_at.ddrRuns = true ∧ Runs ddr_rekeying_at ∧ ddr_rekeying_at.ddr.chans.wf noDdrChan = true ∧ (ddr_rekeying_at.ddr.state = .filling ∨ ddr_rekeying_at.ddr.state = .rekeying) := by decide +kernel
def ddr_patrol_at : State := { State.reset with power := { State.reset.power with warn := false, pllSwitching := false }, ddr := { State.reset.ddr with state := .ready, patrols := 0, chans := [(1, { state := .active, gib := 16, spares := 4 }), (3, { state := .selfRefresh, gib := 4 })] } }
theorem test_meets_ddr_patrol : ddr_patrol_at.ddrRuns = true ∧ Runs ddr_patrol_at ∧ ddr_patrol_at.ddr.chans.wf noDdrChan = true := by decide +kernel
def tick_no_at : State := { State.reset with ledger := { State.reset.ledger with running := false } }
theorem test_meets_tick_no : tick_no_at.ledger.running = false := by decide +kernel
def tick_held_at : State := { State.reset with power := { State.reset.power with pllSwitching := true }, ledger := { State.reset.ledger with running := true, current := 8, rtc := 5000, began := 1000, nextBoundary := 6000, slewRemain := 4, periodMs := 1000, stepPending := some 7 } }
theorem test_meets_tick_held : tick_held_at.ledger.running = true ∧ tick_held_at.power.pllSwitching = true := by decide +kernel
def tick_at : State := { State.reset with power := { State.reset.power with pllSwitching := false }, ledger := { State.reset.ledger with running := true, current := 8, rtc := 5000, began := 1000, nextBoundary := 6000, slewRemain := 4, periodMs := 1000, stepPending := some 7 } }
theorem test_meets_tick : tick_at.ledger.running = true ∧ tick_at.power.pllSwitching = false := by decide +kernel
def slew_up_at : State := { inMode State.reset .service with ledger := { State.reset.ledger with slewRemain := 4, slewShift := 10, slewLast := State.reset.now } }
theorem test_meets_slew_up : (slew_up_at.power.mode ≠ .off ∨ slew_up_at.power.pwrOk = true) ∧ 0 < slew_up_at.ledger.slewRemain := by decide +kernel
def slew_over_at : State := { inMode State.reset .service with ledger := { State.reset.ledger with slewRemain := 4, slewShift := 10, slewLast := State.reset.now, running := true, nextBoundary := State.reset.now + 1024 } }
theorem test_meets_slew_over : (slew_over_at.power.mode ≠ .off ∨ slew_over_at.power.pwrOk = true) ∧ 0 < slew_over_at.ledger.slewRemain ∧ slew_over_at.ledger.running = true ∧ (slew_over_at.reach (slew_over_at.ledger.slewLast + 2 ^ slew_over_at.ledger.slewShift - 1)).now + 1 = slew_over_at.ledger.nextBoundary := by decide +kernel
def slew_dn_at : State := { inMode State.reset .service with ledger := { State.reset.ledger with slewRemain := (-4), slewShift := 10, slewLast := State.reset.now } }
theorem test_meets_slew_dn : (slew_dn_at.power.mode ≠ .off ∨ slew_dn_at.power.pwrOk = true) ∧ slew_dn_at.ledger.slewRemain < 0 := by decide +kernel
def slew_none_at : State := { inMode State.reset .service with ledger := { State.reset.ledger with slewRemain := 0, slewShift := 10, slewLast := State.reset.now } }
theorem test_meets_slew_none : (slew_none_at.power.mode ≠ .off ∨ slew_none_at.power.pwrOk = true) ∧ slew_none_at.ledger.slewRemain = 0 := by decide +kernel
def timecfg0_at : State := { inMode State.reset .service with power := { (inMode State.reset .service).power with pwrOk := true } }
theorem test_meets_timecfg0 : timecfg0_at.mainOn = true ∧ timecfg0_at.dev.ready = true ∧ timecfg0_at.power.mode ≠ .lockdown := by decide +kernel
def rec_none_at : State := { State.reset with vault := { State.reset.vault with certs := [{ index := 0, bytes := [], durable := true }] }, ledger := { State.reset.ledger with builds := [] } }
theorem test_meets_rec_none : (∀ c ∈ rec_none_at.vault.certs, c.durable = true) ∧ rec_none_at.ledger.builds = [] := by decide +kernel
def rec_at : State := { State.reset with power := { State.reset.power with mode := .service, warn := false, pllSwitching := false }, units := {}, crypto := {}, ledger := { State.reset.ledger with builds := [{ at_ := { tick := 9, boundary := 70 }, prevBoundary := 60, heads := [(3, zeros 48)], entryCount := 2, events := [] }] }, vault := { State.reset.vault with certs := [], signing := some { d := 5, ecdsaPub := [], mldsaSk := [], mldsaPub := [] } } }
theorem test_meets_rec : (∀ c ∈ rec_at.vault.certs, c.durable = true) ∧ rec_at.ledger.builds = { at_ := { tick := 9, boundary := 70 }, prevBoundary := 60, heads := [(3, zeros 48)], entryCount := 2, events := [] } :: [] ∧ rec_at.vault.signing = some { d := 5, ecdsaPub := [], mldsaSk := [], mldsaPub := [] } ∧ rec_at.power.mode ≠ .lockdown ∧ Runs rec_at ∧ ((∀ l : List Nat, l.length ≤ 1 → (rec_at.poolEngine 0 false l).isSome = true ∧ (rec_at.poolEngine 0 true l).isSome = true)) ∧ rec_at.hashersWorking ≠ [] := ⟨by decide +kernel, rfl, rfl, by decide +kernel, by decide +kernel, (fun l hl => by
  have h0 : ∀ short, (rec_at.poolEngine 0 short []).isSome = true := by decide +kernel
  have h1 : ∀ e < 16, ∀ short, (rec_at.poolEngine 0 short [e]).isSome = true := by decide +kernel
  have hc : ∀ e, 16 ≤ e → ∀ short, rec_at.poolEngine 0 short [e] = rec_at.poolEngine 0 short [16] := by
    intro e he short
    simp only [State.poolEngine]
    have hx : ∀ m : List Nat, (∀ x ∈ m, x < 16) → m.find? (fun e' => rec_at.pkeFree e' && !([e] : List Nat).contains e') = m.find? (fun e' => rec_at.pkeFree e' && !([16] : List Nat).contains e') := by
      intro m hm
      induction m with
      | nil => rfl
      | cons a r ih =>
        have ha := hm a (by simp)
        have e1 : ([e] : List Nat).contains a = ([16] : List Nat).contains a := by simp; omega
        simp only [List.find?_cons, e1, ih (fun x hx => hm x (by simp [hx]))]
    rw [hx _ (by decide +kernel), hx _ (by decide +kernel)]
  match l, hl with
  | [], _ => exact ⟨h0 _, h0 _⟩
  | [e], _ =>
    by_cases he : e < 16
    · exact ⟨h1 e he _, h1 e he _⟩
    · rw [hc e (by omega), hc e (by omega)]; decide +kernel), by decide +kernel⟩
def rec_wait_at : State := { State.reset with vault := { State.reset.vault with certs := [] }, ledger := { State.reset.ledger with durableTick := 3, records := [{ resealed := false, restart := false, at_ := { tick := 4, boundary := 70 }, prevBoundary := 60, lifecycle := 2, presentCount := 0, entryCount := 0, prevHash := zeros 48, root := zeros 48, signerId := zeros 48, events := [], sigEcdsa := [], sigMldsa := [], heads := [] }] }, tabs := { State.reset.tabs with entries := [{ hdr := { kind := 1, status := 0, tab := 3, seq := 1, source := 9, template := 0, group := 0 }, ctHash := [], chain := [], commitTick := 4, programmed := false, inCrate := 1, crate := 1 }] } }
theorem test_meets_rec_wait : (∀ c ∈ rec_wait_at.vault.certs, c.durable = true) ∧ rec_wait_at.record? (rec_wait_at.ledger.durableTick + 1) = some { resealed := false, restart := false, at_ := { tick := 4, boundary := 70 }, prevBoundary := 60, lifecycle := 2, presentCount := 0, entryCount := 0, prevHash := zeros 48, root := zeros 48, signerId := zeros 48, events := [], sigEcdsa := [], sigMldsa := [], heads := [] } ∧ (∃ e ∈ rec_wait_at.tabs.entries, e.commitTick = rec_wait_at.ledger.durableTick + 1 ∧ e.programmed = false ∧ e.lost = false) := by decide +kernel
def rec_dur_at : State := { State.reset with vault := { State.reset.vault with certs := [] }, ledger := { State.reset.ledger with durableTick := 3, journal := [{ tick := 4, boundary := 70 }, { tick := 5, boundary := 80 }], records := [{ resealed := false, restart := false, at_ := { tick := 4, boundary := 70 }, prevBoundary := 60, lifecycle := 2, presentCount := 0, entryCount := 0, prevHash := zeros 48, root := zeros 48, signerId := zeros 48, events := [], sigEcdsa := [], sigMldsa := [], heads := [] }] }, tabs := { State.reset.tabs with entries := [] }, flash := { State.reset.flash with crates := [{ id := 90, kind := .ledger, state := .opened, lanes := (List.range 16).map (fun k => { target := 16 * k, block := 20 }), lanePage := 16384, rows := 64 }] } }
theorem test_meets_rec_dur : (∀ c ∈ rec_dur_at.vault.certs, c.durable = true) ∧ rec_dur_at.record? (rec_dur_at.ledger.durableTick + 1) = some { resealed := false, restart := false, at_ := { tick := 4, boundary := 70 }, prevBoundary := 60, lifecycle := 2, presentCount := 0, entryCount := 0, prevHash := zeros 48, root := zeros 48, signerId := zeros 48, events := [], sigEcdsa := [], sigMldsa := [], heads := [] } ∧ rec_dur_at.rowsIn 4 = true ∧ rec_dur_at.inLedger 4 4 = false ∧ (rec_dur_at.ledgerPut { type := 4, key := 4, length := (({ resealed := false, restart := false, at_ := { tick := 4, boundary := 70 }, prevBoundary := 60, lifecycle := 2, presentCount := 0, entryCount := 0, prevHash := zeros 48, root := zeros 48, signerId := zeros 48, events := [], sigEcdsa := [], sigMldsa := [], heads := [] } : TickRecord).bytes rec_dur_at.unitId).length } 4 []).inLedger 4 4 = true ∧ (rec_dur_at.ledgerPut { type := 4, key := 4, length := (({ resealed := false, restart := false, at_ := { tick := 4, boundary := 70 }, prevBoundary := 60, lifecycle := 2, presentCount := 0, entryCount := 0, prevHash := zeros 48, root := zeros 48, signerId := zeros 48, events := [], sigEcdsa := [], sigMldsa := [], heads := [] } : TickRecord).bytes rec_dur_at.unitId).length } 4 []).inLedger 5 4 = false ∧ ((rec_dur_at.ledgerPut { type := 4, key := 4, length := (({ resealed := false, restart := false, at_ := { tick := 4, boundary := 70 }, prevBoundary := 60, lifecycle := 2, presentCount := 0, entryCount := 0, prevHash := zeros 48, root := zeros 48, signerId := zeros 48, events := [], sigEcdsa := [], sigMldsa := [], heads := [] } : TickRecord).bytes rec_dur_at.unitId).length } 4 []).ledgerPut { type := 5, key := 4, length := 16 + Config.tabs / 8 + 48 * ({ resealed := false, restart := false, at_ := { tick := 4, boundary := 70 }, prevBoundary := 60, lifecycle := 2, presentCount := 0, entryCount := 0, prevHash := zeros 48, root := zeros 48, signerId := zeros 48, events := [], sigEcdsa := [], sigMldsa := [], heads := [] } : TickRecord).presentCount } 4 []).inLedger 4 4 = true ∧ ((rec_dur_at.ledgerPut { type := 4, key := 4, length := (({ resealed := false, restart := false, at_ := { tick := 4, boundary := 70 }, prevBoundary := 60, lifecycle := 2, presentCount := 0, entryCount := 0, prevHash := zeros 48, root := zeros 48, signerId := zeros 48, events := [], sigEcdsa := [], sigMldsa := [], heads := [] } : TickRecord).bytes rec_dur_at.unitId).length } 4 []).ledgerPut { type := 5, key := 4, length := 16 + Config.tabs / 8 + 48 * ({ resealed := false, restart := false, at_ := { tick := 4, boundary := 70 }, prevBoundary := 60, lifecycle := 2, presentCount := 0, entryCount := 0, prevHash := zeros 48, root := zeros 48, signerId := zeros 48, events := [], sigEcdsa := [], sigMldsa := [], heads := [] } : TickRecord).presentCount } 4 []).inLedger 5 4 = true := by decide +kernel
def rec_dur_no_at : State := { State.reset with vault := { State.reset.vault with certs := [] }, ledger := { State.reset.ledger with durableTick := 3, journal := [{ tick := 4, boundary := 70 }, { tick := 5, boundary := 80 }], records := [{ resealed := false, restart := false, at_ := { tick := 4, boundary := 70 }, prevBoundary := 60, lifecycle := 2, presentCount := 0, entryCount := 0, prevHash := zeros 48, root := zeros 48, signerId := zeros 48, events := [], sigEcdsa := [], sigMldsa := [], heads := [] }] }, tabs := { State.reset.tabs with entries := [] }, flash := { State.reset.flash with crates := [{ id := 90, kind := .ledger, state := .opened, lanes := (List.range 16).map (fun k => { target := 16 * k, block := 20 }), lanePage := 16384, rows := 64 }] } }
theorem test_meets_rec_dur_no : (∀ c ∈ rec_dur_no_at.vault.certs, c.durable = true) ∧ rec_dur_no_at.record? (rec_dur_no_at.ledger.durableTick + 1) = some { resealed := false, restart := false, at_ := { tick := 4, boundary := 70 }, prevBoundary := 60, lifecycle := 2, presentCount := 0, entryCount := 0, prevHash := zeros 48, root := zeros 48, signerId := zeros 48, events := [], sigEcdsa := [], sigMldsa := [], heads := [] } ∧ rec_dur_no_at.rowsIn 4 = true ∧ rec_dur_no_at.inLedger 4 4 = false ∧ (rec_dur_no_at.ledgerPut { type := 4, key := 4, length := (({ resealed := false, restart := false, at_ := { tick := 4, boundary := 70 }, prevBoundary := 60, lifecycle := 2, presentCount := 0, entryCount := 0, prevHash := zeros 48, root := zeros 48, signerId := zeros 48, events := [], sigEcdsa := [], sigMldsa := [], heads := [] } : TickRecord).bytes rec_dur_no_at.unitId).length } 4 [0, 1, 2]).inLedger 4 4 = false := by decide +kernel
def ep_prep_at : State := (let State.reset := inMode (atCount State.reset 3) .service; { State.reset with power := { State.reset.power with warn := false, pllSwitching := false }, crypto := {}, units := { State.reset.units with st := [] }, ledger := { State.reset.ledger with running := true, nextBoundary := State.reset.ledger.nextBoundary + 1 }, vault := { State.reset.vault with vaultKey := some (zeros 32), enclosure := some (zeros 32), unopened := [], late := [], prepared := [{ group := 1, epoch := 4, key := zeros 32, planned := 0 }], wraps := [{ group := 1, epoch := 4, bytes := zeros 32, durable := true }], epochs := [] } })
theorem test_meets_ep_prep : ep_prep_at.vaultOpen = true ∧ 1 ∉ ep_prep_at.vault.unopened ∧ 1 ∉ ep_prep_at.vault.late ∧ ep_prep_at.vault.prepared.find? (fun e => e.group == 1) = some { group := 1, epoch := 4, key := zeros 32, planned := 0 } ∧ ep_prep_at.vault.wraps.any (fun w => w.group == 1 && w.epoch == 4 && w.durable) = true := by decide +kernel
def ep_new_at : State := (let State.reset := inMode (atCount State.reset 3) .service; { State.reset with power := { State.reset.power with warn := false, pllSwitching := false }, crypto := {}, units := { State.reset.units with st := [] }, ledger := { State.reset.ledger with running := true, nextBoundary := State.reset.ledger.nextBoundary + 1 }, vault := { State.reset.vault with vaultKey := some (zeros 32), enclosure := some (zeros 32), unopened := [], late := [], prepared := [], wraps := [], epochs := [], authority := some { bytes := [1, 0, 0, 1] ++ zeros 20 ++ [1] ++ zeros 7000 } } })
theorem test_meets_ep_new : ep_new_at.vaultOpen = true ∧ 1 ∉ ep_new_at.vault.unopened ∧ 1 ∉ ep_new_at.vault.late ∧ ep_new_at.vault.prepared.find? (fun e => e.group == 1) = none ∧ ep_new_at.vault.authority.isSome = true ∧ ep_new_at.entropyOk = true ∧ ep_new_at.vault.epochs.length + ep_new_at.vault.prepared.length < tableSize ∧ PoolServes ep_new_at 1 := by decide +kernel
def ep_closed_at : State := { State.reset with vault := { State.reset.vault with vaultKey := none } }
theorem test_meets_ep_closed : ep_closed_at.vaultOpen = false := by decide +kernel
def ep_change_at : State := (let State.reset := inMode (atCount State.reset 3) .service; { State.reset with power := { State.reset.power with warn := false, pllSwitching := false }, crypto := {}, units := { State.reset.units with st := [] }, ledger := { State.reset.ledger with running := true, nextBoundary := State.reset.ledger.nextBoundary + 1 }, vault := { State.reset.vault with vaultKey := some (zeros 32), enclosure := some (zeros 32), unopened := [], late := [], prepared := [{ group := 1, epoch := 4, key := zeros 32, planned := 0 }], wraps := [{ group := 1, epoch := 4, bytes := zeros 32, durable := true }], epochs := [] } })
theorem test_meets_ep_change : ep_change_at.vaultOpen = true ∧ (ep_change_at.ledger.running = false ∨ ep_change_at.ledger.nextBoundary ≠ ep_change_at.nextHour) ∧ ep_change_at.vault.unopened = [] ∧ ep_change_at.vault.prepared = [{ group := 1, epoch := 4, key := zeros 32, planned := 0 }] ∧ ({ group := 1, epoch := 4, key := zeros 32, planned := 0 } : PrepEpoch).group < 64 ∧ ({ group := 1, epoch := 4, key := zeros 32, planned := 0 } : PrepEpoch).planned ≤ ep_change_at.nextHour ∧ ep_change_at.vault.wraps = [{ group := 1, epoch := 4, bytes := zeros 32, durable := true }] ∧ ({ group := 1, epoch := 4, bytes := zeros 32, durable := true } : Wrap).durable = true ∧ ep_change_at.vault.epochs = [] := by decide +kernel
def shred_at : State := { State.reset with power := { State.reset.power with pwrOk := true }, ledger := { State.reset.ledger with running := true }, vault := { State.reset.vault with vaultKey := some (zeros 32), shredding := [(1, 2), (3, 4)] } }
theorem test_meets_shred : shred_at.tickOpen = true := by decide +kernel
def reseed_at : State := { State.reset with crypto := {} }
theorem test_meets_reseed : reseed_at.vault.entropyFails < 2 ∧ reseed_at.crypto.rows.wf noRow = true ∧ ¬ 3 ∣ (reseed_at.rowEng 5).grinderFails + 1 ∧ ¬ 3 ∣ reseed_at.crypto.pke.fails + 1 := by decide +kernel
def req_claim_at : State := ready1 (knownUnit { State.reset with power := { State.reset.power with warn := false, pllSwitching := false }, crypto := {} }) (tkOf 0x41 3 (extent 64) (zeros 16))
theorem test_meets_req_claim : Carries req_claim_at (tkOf 0x41 3 (extent 64) (zeros 16)) { data := .ok (zeros 64) } (zeros 64) ∧ PoolServes req_claim_at 1 ∧ Admitted req_claim_at { id := 7 } 0x41 (tkOf 0x41 3 (extent 64) (zeros 16)) ∧ (reqForm (zeros 64) = true → reqKind (zeros 64) = 1) := by decide +kernel
def req_ownerChange_at : State := ready1 (knownUnit { State.reset with power := { State.reset.power with warn := false, pllSwitching := false }, crypto := {} }) (tkOf 0x41 3 (extent 64) (zeros 16))
theorem test_meets_req_ownerChange : Carries req_ownerChange_at (tkOf 0x41 3 (extent 64) (zeros 16)) { data := .ok (zeros 64) } (zeros 64) ∧ PoolServes req_ownerChange_at 1 ∧ Admitted req_ownerChange_at { id := 7 } 0x41 (tkOf 0x41 3 (extent 64) (zeros 16)) ∧ (reqForm (zeros 64) = true → reqKind (zeros 64) = 2) := by decide +kernel
def req_returnDevice_at : State := ready1 (knownUnit { State.reset with power := { State.reset.power with warn := false, pllSwitching := false }, crypto := {} }) (tkOf 0x41 3 (extent 64) (zeros 16))
theorem test_meets_req_returnDevice : Carries req_returnDevice_at (tkOf 0x41 3 (extent 64) (zeros 16)) { data := .ok (zeros 64) } (zeros 64) ∧ PoolServes req_returnDevice_at 1 ∧ Admitted req_returnDevice_at { id := 7 } 0x41 (tkOf 0x41 3 (extent 64) (zeros 16)) ∧ (reqForm (zeros 64) = true → reqKind (zeros 64) = 3) := by decide +kernel
def req_scrap_at : State := ready1 (knownUnit { State.reset with power := { State.reset.power with warn := false, pllSwitching := false }, crypto := {} }) (tkOf 0x41 3 (extent 64) (zeros 16))
theorem test_meets_req_scrap : Carries req_scrap_at (tkOf 0x41 3 (extent 64) (zeros 16)) { data := .ok (zeros 64) } (zeros 64) ∧ PoolServes req_scrap_at 1 ∧ Admitted req_scrap_at { id := 7 } 0x41 (tkOf 0x41 3 (extent 64) (zeros 16)) ∧ (reqForm (zeros 64) = true → reqKind (zeros 64) = 4) := by decide +kernel
def req_authorityUpdate_at : State := ready1 (knownUnit { State.reset with power := { State.reset.power with warn := false, pllSwitching := false }, crypto := {} }) (tkOf 0x41 3 (extent 64) (zeros 16))
theorem test_meets_req_authorityUpdate : Carries req_authorityUpdate_at (tkOf 0x41 3 (extent 64) (zeros 16)) { data := .ok (zeros 64) } (zeros 64) ∧ PoolServes req_authorityUpdate_at 1 ∧ Admitted req_authorityUpdate_at { id := 7 } 0x41 (tkOf 0x41 3 (extent 64) (zeros 16)) ∧ (reqForm (zeros 64) = true → reqKind (zeros 64) = 5) := by decide +kernel
def req_fuse_at : State := ready1 (knownUnit { State.reset with power := { State.reset.power with warn := false, pllSwitching := false }, crypto := {} }) (tkOf 0x41 3 (extent 64) (zeros 16))
theorem test_meets_req_fuse : Carries req_fuse_at (tkOf 0x41 3 (extent 64) (zeros 16)) { data := .ok (zeros 64) } (zeros 64) ∧ PoolServes req_fuse_at 1 ∧ Admitted req_fuse_at { id := 7 } 0x41 (tkOf 0x41 3 (extent 64) (zeros 16)) ∧ (reqForm (zeros 64) = true → reqKind (zeros 64) = 6) := by decide +kernel
def req_release_at : State := ready1 (knownUnit { State.reset with power := { State.reset.power with warn := false, pllSwitching := false }, crypto := {} }) (tkOf 0x40 3 (extent 64) (zeros 16))
theorem test_meets_req_release : Carries req_release_at (tkOf 0x40 3 (extent 64) (zeros 16)) { data := .ok (zeros 64) } (zeros 64) ∧ PoolServes req_release_at 1 ∧ Admitted req_release_at { id := 7 } 0x40 (tkOf 0x40 3 (extent 64) (zeros 16)) := by decide +kernel
def req_pass_at : State := ready1 (knownUnit { State.reset with power := { State.reset.power with warn := false, pllSwitching := false }, crypto := {} }) (tkOf 0x42 3 (extent 64) (zeros 16))
theorem test_meets_req_pass : Carries req_pass_at (tkOf 0x42 3 (extent 64) (zeros 16)) { data := .ok (zeros 64) } (zeros 64) ∧ PoolServes req_pass_at 1 ∧ Admitted req_pass_at { id := 7 } 0x42 (tkOf 0x42 3 (extent 64) (zeros 16)) := by decide +kernel
def req_nonce_at : State := ready1 ({ knownUnit (atCount { State.reset with power := { State.reset.power with warn := false, pllSwitching := false }, crypto := {} } 2) with guard := { (knownUnit (atCount State.reset 2)).guard with transition := none } }) (tkOf 0x41 3 (extent 5520) (zeros 16))
theorem test_meets_req_nonce : Carries req_nonce_at (tkOf 0x41 3 (extent 5520) (zeros 16)) { data := .ok ([1, 0, 4, 1, 2, 20, 0, 0] ++ zeros 16 ++ List.replicate 16 9 ++ zeros 5480) } ([1, 0, 4, 1, 2, 20, 0, 0] ++ zeros 16 ++ List.replicate 16 9 ++ zeros 5480) ∧ PoolServes req_nonce_at 1 ∧ reqForm ([1, 0, 4, 1, 2, 20, 0, 0] ++ zeros 16 ++ List.replicate 16 9 ++ zeros 5480) = true ∧ slice ([1, 0, 4, 1, 2, 20, 0, 0] ++ zeros 16 ++ List.replicate 16 9 ++ zeros 5480) 8 16 = req_nonce_at.unitId ∧ reqFrom ([1, 0, 4, 1, 2, 20, 0, 0] ++ zeros 16 ++ List.replicate 16 9 ++ zeros 5480) = req_nonce_at.lifeCount ∧ reqTarget (reqKind ([1, 0, 4, 1, 2, 20, 0, 0] ++ zeros 16 ++ List.replicate 16 9 ++ zeros 5480)) req_nonce_at.lifeCount = some (reqTo ([1, 0, 4, 1, 2, 20, 0, 0] ++ zeros 16 ++ List.replicate 16 9 ++ zeros 5480)) ∧ req_nonce_at.guard.transition = none ∧ req_nonce_at.guard.otp.consistent = true ∧ slice ([1, 0, 4, 1, 2, 20, 0, 0] ++ zeros 16 ++ List.replicate 16 9 ++ zeros 5480) 24 16 ≠ req_nonce_at.guard.nonce := ⟨⟨by decide +kernel, object_one _ _ (oneExtent 5520) (by decide +kernel) (by decide +kernel), by decide +kernel, by decide +kernel⟩, by decide +kernel⟩
def begin_at : State := ready1 { State.reset with power := { State.reset.power with warn := false, pllSwitching := false }, crypto := {} } (tkOf 0x41 3 (extent 5520) (zeros 16))
theorem test_meets_begin : Carries begin_at (tkOf 0x41 3 (extent 5520) (zeros 16)) { data := .ok ([1, 0, 4, 1, 2, 20, 0, 0] ++ zeros 16 ++ List.replicate 16 9 ++ zeros 5480) } ([1, 0, 4, 1, 2, 20, 0, 0] ++ zeros 16 ++ List.replicate 16 9 ++ zeros 5480) ∧ PoolServes begin_at 1 := ⟨⟨by decide +kernel, object_one _ _ (oneExtent 5520) (by decide +kernel) (by decide +kernel), by decide +kernel, by decide +kernel⟩, by decide +kernel⟩
def tr_1_at : State := (let State.reset := { State.reset with power := { State.reset.power with warn := false, resetPending := false }, ledger := { State.reset.ledger with durableTick := 3 } }; { State.reset with guard := { State.reset.guard with transition := some { kind := 2, target := 4, phase := 1, waitTick := some 3 } } })
theorem test_meets_tr_1 : tr_1_at.guard.transition = some { kind := 2, target := 4, phase := 1, waitTick := some 3 } ∧ tr_1_at.power.warn = false ∧ (({ kind := 2, target := 4, phase := 1, waitTick := some 3 } : Transition).waitTick).all (fun n => decide (n ≤ tr_1_at.ledger.durableTick)) = true := by decide +kernel
def tr_1wait_at : State := (let State.reset := { State.reset with power := { State.reset.power with warn := false, resetPending := false }, ledger := { State.reset.ledger with durableTick := 3 } }; { State.reset with guard := { State.reset.guard with transition := some { kind := 2, target := 4, phase := 1, waitTick := some 30 } } })
theorem test_meets_tr_1wait : tr_1wait_at.guard.transition = some { kind := 2, target := 4, phase := 1, waitTick := some 30 } ∧ tr_1wait_at.ledger.durableTick < 30 := by decide +kernel
def tr_warn_at : State := (let State.reset := { State.reset with power := { State.reset.power with warn := true, resetPending := false }, ledger := { State.reset.ledger with durableTick := 3 } }; { State.reset with guard := { State.reset.guard with transition := some { kind := 2, target := 4, phase := 1, waitTick := some 3 } } })
theorem test_meets_tr_warn : tr_warn_at.guard.transition = some { kind := 2, target := 4, phase := 1, waitTick := some 3 } ∧ tr_warn_at.power.warn = true := by decide +kernel
def tr_2_at : State := (let State.reset := { State.reset with power := { State.reset.power with warn := false, resetPending := false }, ledger := { State.reset.ledger with durableTick := 3 } }; { State.reset with guard := { State.reset.guard with transition := some { kind := 4, target := 4, phase := 2 } } })
theorem test_meets_tr_2 : tr_2_at.guard.transition = some { kind := 4, target := 4, phase := 2 } ∧ tr_2_at.power.warn = false := by decide +kernel
def tr_4_1_at : State := (let State.reset := { State.reset with power := { State.reset.power with warn := false, resetPending := false }, ledger := { State.reset.ledger with durableTick := 3 } }; { State.reset with guard := { State.reset.guard with transition := some { kind := 3, target := 1, phase := 3 } } })
theorem test_meets_tr_4_1 : tr_4_1_at.guard.transition = some { kind := 3, target := 1, phase := 3 } ∧ tr_4_1_at.power.warn = false ∧ tr_4_1_at.power.resetPending = false := by decide +kernel
def tr_4_64_at : State := (let State.reset := { State.reset with power := { State.reset.power with warn := false, resetPending := false }, ledger := { State.reset.ledger with durableTick := 3 } }; { State.reset with guard := { State.reset.guard with transition := some { kind := 3, target := 64, phase := 3 } } })
theorem test_meets_tr_4_64 : tr_4_64_at.guard.transition = some { kind := 3, target := 64, phase := 3 } ∧ tr_4_64_at.power.warn = false ∧ tr_4_64_at.power.resetPending = false := by decide +kernel
def pass_exp_at : State := { atCount State.reset 3 with dev := { State.reset.dev with }, guard := { (atCount State.reset 3).guard with passActive := true, passRights := 0xFF, passEnds := 77 } }
theorem test_meets_pass_exp : pass_exp_at.guard.passActive = true ∧ pass_exp_at.guard.passEnds < 2 ^ 48 := by decide +kernel
def dbg_ok_at : State := { atCount State.reset 3 with dev := { State.reset.dev with }, guard := { (atCount State.reset 3).guard with passActive := true, passRights := 0xFF, passEnds := 77 } }
theorem test_meets_dbg_ok : 2 ≤ dbg_ok_at.lifeCount ∧ dbg_ok_at.scrapped = false ∧ dbg_ok_at.guard.passActive = true ∧ (List.range 8).all (fun r => dbg_ok_at.guard.passRights.getLsbD r) = true := by decide +kernel
def dbg_bad_at : State := { inMode (atCount State.reset 3) .service with tamper := { srcs := [(29, { level := 2 })] }, power := { (inMode (atCount State.reset 3) .service).power with warn := false, pllSwitching := false } }
theorem test_meets_dbg_bad : dbg_bad_at.armed 29 = true ∧ (dbg_bad_at.src 29).level = 2 ∧ dbg_bad_at.tamper.queue.length < 256 ∧ dbg_bad_at.power.mode ≠ .lockdown ∧ 2 ≤ dbg_bad_at.lifeCount ∧ dbg_bad_at.scrapped = false ∧ dbg_bad_at.guard.passActive = false ∧ dbg_bad_at.power.pllSwitching = false := by decide +kernel
def cc_ok_at : State := State.reset
theorem test_meets_cc_ok : cc_ok_at.guard.otp.consistent = true := by decide +kernel
def cc_bad_at : State := { inMode (atCount State.reset 3) .service with tamper := { srcs := [(30, { level := 2 })] }, power := { (inMode (atCount State.reset 3) .service).power with warn := false, pllSwitching := false } }
theorem test_meets_cc_bad : cc_bad_at.armed 30 = true ∧ (cc_bad_at.src 30).level = 2 ∧ cc_bad_at.tamper.queue.length < 256 ∧ cc_bad_at.power.mode ≠ .lockdown := by decide +kernel
def tr_stuck_at : State := (let State.reset := { inMode (atCount State.reset 3) .service with tamper := { srcs := [(30, { level := 2 })] }, power := { (inMode (atCount State.reset 3) .service).power with warn := false, pllSwitching := false } }; { State.reset with guard := { State.reset.guard with transition := some { kind := 2, target := 4, phase := 1 } } })
theorem test_meets_tr_stuck : tr_stuck_at.armed 30 = true ∧ (tr_stuck_at.src 30).level = 2 ∧ tr_stuck_at.tamper.queue.length < 256 ∧ tr_stuck_at.power.mode ≠ .lockdown ∧ tr_stuck_at.guard.transition = some { kind := 2, target := 4, phase := 1 } ∧ tr_stuck_at.power.warn = false := by decide +kernel
def ins_at : State := { inMode State.reset .service with power := { (inMode State.reset .service).power with pwrOk := true, warn := false, pllSwitching := false }, boards := { State.reset.boards with slots := [(2, { mode := 1 })], sessions := []  } }
theorem test_meets_ins : ins_at.boards.slots.wf noSlot = true := by decide +kernel
def bring_no_at : State := { inMode State.reset .service with power := { (inMode State.reset .service).power with pwrOk := true, warn := false, pllSwitching := false }, boards := { State.reset.boards with slots := [(2, { mode := 1 })], sessions := []  } }
theorem test_meets_bring_no : bring_no_at.boards.slots.wf noSlot = true ∧ (bring_no_at.slot 2).seated = false := by decide +kernel
def bring_fail_at : State := { inMode State.reset .service with power := { (inMode State.reset .service).power with pwrOk := true, warn := false, pllSwitching := false }, boards := { State.reset.boards with slots := [(2, { seated := true, state := .bringup })], sessions := []  } }
theorem test_meets_bring_fail : bring_fail_at.boards.slots.wf noSlot = true ∧ bring_fail_at.linkRuns = true ∧ (bring_fail_at.slot 2).seated = true ∧ (bring_fail_at.slot 2).state = .bringup ∧ ((identOf 0).known = false ∨ 2 = 0) := by decide +kernel
def bring_fail2_at : State := { inMode State.reset .service with power := { (inMode State.reset .service).power with pwrOk := true, warn := false, pllSwitching := false }, boards := { State.reset.boards with slots := [(2, { seated := true, state := .bringup })], sessions := []  } }
theorem test_meets_bring_fail2 : bring_fail2_at.boards.slots.wf noSlot = true ∧ bring_fail2_at.linkRuns = true ∧ (bring_fail2_at.slot 2).seated = true ∧ (bring_fail2_at.slot 2).state = .bringup ∧ ((identOf (BitVec.ofNat 120 0x5000000000000004d2700004040)).known = false ∨ 0 = 0) := by decide +kernel
def bring_ok_at : State := (let State.reset := { State.reset with vault := { State.reset.vault with pairing := [] } }; { inMode State.reset .service with power := { (inMode State.reset .service).power with pwrOk := true, warn := false, pllSwitching := false }, boards := { State.reset.boards with slots := [(2, { seated := true })], sessions := []  } })
theorem test_meets_bring_ok : bring_ok_at.boards.slots.wf noSlot = true ∧ bring_ok_at.linkRuns = true ∧ (bring_ok_at.slot 2).seated = true ∧ (bring_ok_at.slot 2).state = .empty ∧ (identOf (BitVec.ofNat 120 0x5000000000000004d2700004040)).known = true ∧ bring_ok_at.boards.sessions = [] ∧ bring_ok_at.vault.pairing = [] ∧ (∀ m, (bring_ok_at.slot m).rpaWriting = false) := ⟨by decide +kernel, by decide +kernel, by decide +kernel, by decide +kernel, by decide +kernel, by decide +kernel, by decide +kernel, slots_quiet _ (by decide +kernel)⟩
def removal_at : State := (let State.reset := { State.reset with vault := { State.reset.vault with pairing := [] } }; { inMode State.reset .service with power := { (inMode State.reset .service).power with pwrOk := true, warn := false, pllSwitching := false }, boards := { State.reset.boards with slots := [(2, { seated := true, state := .ready, pwren := true, link := .transfer })], sessions := []  } })
theorem test_meets_removal : removal_at.boards.slots.wf noSlot = true ∧ (removal_at.slot 2).seated = true ∧ (removal_at.slot 2).state ≠ .empty ∧ removal_at.power.pllSwitching = false := by decide +kernel
def removal2_at : State := (let State.reset := { State.reset with vault := { State.reset.vault with pairing := [] } }; { inMode State.reset .service with power := { (inMode State.reset .service).power with pwrOk := true, warn := false, pllSwitching := false }, boards := { State.reset.boards with slots := [(2, { seated := true, state := .ready, pwren := true, link := .transfer })], sessions := [{ id := 4, state := .opened, slot := 2, maker := 5, serial := 77, hold := 2, ranges := [], content := 7 }]  } })
theorem test_meets_removal2 : removal2_at.boards.slots.wf noSlot = true ∧ (removal2_at.slot 2).seated = true ∧ (removal2_at.slot 2).state ≠ .empty ∧ removal2_at.power.pllSwitching = false := by decide +kernel
def ltimeout_at : State := { inMode State.reset .service with power := { (inMode State.reset .service).power with pwrOk := true, warn := false, pllSwitching := false }, boards := { State.reset.boards with slots := [(2, { seated := true, state := .ready, pwren := true, link := .transfer })], sessions := [{ id := 4, state := .opened, slot := 2, maker := 5, serial := 77, hold := 2, ranges := [], content := 7 }]  } }
theorem test_meets_ltimeout : ltimeout_at.boards.slots.wf noSlot = true ∧ ltimeout_at.linkRuns = true ∧ (ltimeout_at.slot 2).seated = true ∧ (ltimeout_at.slot 2).state = .ready := by decide +kernel
def sidle_at : State := { inMode State.reset .service with power := { (inMode State.reset .service).power with pwrOk := true, warn := false, pllSwitching := false }, boards := { State.reset.boards with slots := [(2, { seated := true, state := .ready, pwren := true, link := .transfer, ck := true, ident := some { maker := 5, serial := 77, gen := 2, modes := 7, capacityGib := 64, atomicLog2 := 4 } })], sessions := []  } }
theorem test_meets_sidle : sidle_at.boards.slots.wf noSlot = true ∧ sidle_at.linkRuns = true ∧ (sidle_at.slot 2).state = .ready ∧ (sidle_at.slot 2).link = .transfer := by decide +kernel
def sidle1_at : State := { inMode State.reset .service with power := { (inMode State.reset .service).power with pwrOk := true, warn := false, pllSwitching := false }, boards := { State.reset.boards with slots := [(2, { seated := true, state := .ready, pwren := true, link := .transfer, ck := true })], sessions := []  } }
theorem test_meets_sidle1 : sidle1_at.boards.slots.wf noSlot = true ∧ sidle1_at.linkRuns = true ∧ (sidle1_at.slot 2).state = .ready ∧ (sidle1_at.slot 2).link = .transfer := by decide +kernel
def lk_idle_at : State := { inMode State.reset .service with power := { (inMode State.reset .service).power with pwrOk := true, warn := false, pllSwitching := false }, boards := { State.reset.boards with slots := [(2, { seated := true, state := .bringup, mode := 2 })], sessions := []  } }
theorem test_meets_lk_idle : lk_idle_at.boards.slots.wf noSlot = true ∧ lk_idle_at.linkRuns = true ∧ (lk_idle_at.slot 2).seated = true ∧ (lk_idle_at.slot 2).state ≠ .failed ∧ lk_idle_at.sessionOn 2 = none := by decide +kernel
def lk_id1_at : State := { inMode State.reset .service with power := { (inMode State.reset .service).power with pwrOk := true, warn := false, pllSwitching := false }, boards := { State.reset.boards with slots := [(2, { seated := true, state := .bringup, pwren := true, link := .idle, ck := true, ident := some { maker := 5, serial := 77, gen := 2, modes := 7, capacityGib := 64, atomicLog2 := 4 } })], sessions := []  } }
theorem test_meets_lk_id1 : lk_id1_at.boards.slots.wf noSlot = true ∧ Plain 0x80000000 ∧ OnLink lk_id1_at 2 .idle ∧ (0x80000000 : BitVec 32).getLsbD 31 = true := by decide +kernel
def lk_id0_at : State := { inMode State.reset .service with power := { (inMode State.reset .service).power with pwrOk := true, warn := false, pllSwitching := false }, boards := { State.reset.boards with slots := [(2, { seated := true, state := .bringup, pwren := true, link := .idle, ck := true, ident := some { maker := 5, serial := 77, gen := 2, modes := 7, capacityGib := 64, atomicLog2 := 4 } })], sessions := []  } }
theorem test_meets_lk_id0 : lk_id0_at.boards.slots.wf noSlot = true ∧ Plain 0 ∧ OnLink lk_id0_at 2 .idle ∧ (0 : BitVec 32).getLsbD 31 = false := by decide +kernel
def lk_rid_at : State := { inMode State.reset .service with power := { (inMode State.reset .service).power with pwrOk := true, warn := false, pllSwitching := false }, boards := { State.reset.boards with slots := [(2, { seated := true, state := .bringup, pwren := true, link := .ready, ck := true, ident := some { maker := 5, serial := 77, gen := 2, modes := 7, capacityGib := 64, atomicLog2 := 4 } })], sessions := []  } }
theorem test_meets_lk_rid : lk_rid_at.boards.slots.wf noSlot = true ∧ Plain 0x00002000 ∧ OnLink lk_rid_at 2 .ready ∧ (identOf (BitVec.ofNat 120 101412048018258352204566155509824)).known = true := by decide +kernel
def lk_sel_at : State := { inMode State.reset .service with power := { (inMode State.reset .service).power with pwrOk := true, warn := false, pllSwitching := false }, boards := { State.reset.boards with slots := [(2, { seated := true, state := .bringup, pwren := true, link := .ready, ck := true, ident := some { maker := 5, serial := 77, gen := 2, modes := 7, capacityGib := 64, atomicLog2 := 4 } })], sessions := []  } }
theorem test_meets_lk_sel : lk_sel_at.boards.slots.wf noSlot = true ∧ Plain 0x00002000 ∧ OnLink lk_sel_at 2 .ready := by decide +kernel
def lk_sw1_at : State := { inMode State.reset .service with power := { (inMode State.reset .service).power with pwrOk := true, warn := false, pllSwitching := false }, boards := { State.reset.boards with slots := [(2, { seated := true, state := .bringup, pwren := true, link := .transfer, ck := true, ident := some { maker := 5, serial := 77, gen := 2, modes := 7, capacityGib := 64, atomicLog2 := 4 } })], sessions := []  } }
theorem test_meets_lk_sw1 : lk_sw1_at.boards.slots.wf noSlot = true ∧ Plain 0x00002000 ∧ OnLink lk_sw1_at 2 .transfer ∧ (1 : Fin 5) ≠ 0 ∧ ((lk_sw1_at.slot 2).gen = 2 ∨ 1 ≤ 2) := by decide +kernel
def lk_sw4_at : State := { inMode State.reset .service with power := { (inMode State.reset .service).power with pwrOk := true, warn := false, pllSwitching := false }, boards := { State.reset.boards with slots := [(2, { seated := true, state := .bringup, pwren := true, link := .transfer, ck := true, ident := some { maker := 5, serial := 77, gen := 2, modes := 7, capacityGib := 64, atomicLog2 := 4 } })], sessions := []  } }
theorem test_meets_lk_sw4 : lk_sw4_at.boards.slots.wf noSlot = true ∧ Plain 0x00002000 ∧ OnLink lk_sw4_at 2 .transfer ∧ (4 : Fin 5) ≠ 0 ∧ ((lk_sw4_at.slot 2).gen = 2 ∨ 4 ≤ 2) := by decide +kernel
def lk_sw2g1_at : State := { inMode State.reset .service with power := { (inMode State.reset .service).power with pwrOk := true, warn := false, pllSwitching := false }, boards := { State.reset.boards with slots := [(2, { seated := true, state := .bringup, pwren := true, link := .transfer, ck := true, ident := none })], sessions := []  } }
theorem test_meets_lk_sw2g1 : lk_sw2g1_at.boards.slots.wf noSlot = true ∧ Plain 0x00002000 ∧ OnLink lk_sw2g1_at 2 .transfer ∧ (2 : Fin 5) ≠ 0 ∧ ((lk_sw2g1_at.slot 2).gen = 2 ∨ 2 ≤ 2) := by decide +kernel
def lk_chk_at : State := { inMode State.reset .service with power := { (inMode State.reset .service).power with pwrOk := true, warn := false, pllSwitching := false }, boards := { State.reset.boards with slots := [(2, { seated := true, state := .bringup, pwren := true, link := .transfer, ck := true, ident := some { maker := 5, serial := 77, gen := 2, modes := 7, capacityGib := 64, atomicLog2 := 4 }, mode := 3 })], sessions := []  } }
theorem test_meets_lk_chk : lk_chk_at.boards.slots.wf noSlot = true ∧ Plain 0x00002000 ∧ OnLink lk_chk_at 2 .transfer ∧ blockRead (lineCount (lk_chk_at.slot 2).mode) 64 (blockLines (lineCount (lk_chk_at.slot 2).mode) checkPattern) = some checkPattern := by decide +kernel
def lk_chkbadpat_at : State := { inMode State.reset .service with power := { (inMode State.reset .service).power with pwrOk := true, warn := false, pllSwitching := false }, boards := { State.reset.boards with slots := [(2, { seated := true, state := .bringup, pwren := true, link := .transfer, ck := true, ident := some { maker := 5, serial := 77, gen := 2, modes := 7, capacityGib := 64, atomicLog2 := 4 }, mode := 2 })], sessions := []  } }
theorem test_meets_lk_chkbadpat : lk_chkbadpat_at.boards.slots.wf noSlot = true ∧ Plain 0x00002000 ∧ OnLink lk_chkbadpat_at 2 .transfer ∧ blockRead (lineCount (lk_chkbadpat_at.slot 2).mode) 64 (blockLines (lineCount (lk_chkbadpat_at.slot 2).mode) (zeros 64)) ≠ some checkPattern ∧ 1 < (lk_chkbadpat_at.slot 2).mode := by decide +kernel
def lk_chkbadcrc_at : State := { inMode State.reset .service with power := { (inMode State.reset .service).power with pwrOk := true, warn := false, pllSwitching := false }, boards := { State.reset.boards with slots := [(2, { seated := true, state := .bringup, pwren := true, link := .transfer, ck := true, ident := some { maker := 5, serial := 77, gen := 2, modes := 7, capacityGib := 64, atomicLog2 := 4 }, mode := 2 })], sessions := []  } }
theorem test_meets_lk_chkbadcrc : lk_chkbadcrc_at.boards.slots.wf noSlot = true ∧ Plain 0x00002000 ∧ OnLink lk_chkbadcrc_at 2 .transfer ∧ blockRead (lineCount (lk_chkbadcrc_at.slot 2).mode) 64 [[true], []] ≠ some checkPattern ∧ 1 < (lk_chkbadcrc_at.slot 2).mode := by decide +kernel
def lk_stop1_at : State := { inMode State.reset .service with power := { (inMode State.reset .service).power with pwrOk := true, warn := false, pllSwitching := false }, boards := { State.reset.boards with slots := [(2, { seated := true, state := .busy, pwren := true, link := .receiving, ck := true, ident := some { maker := 5, serial := 77, gen := 2, modes := 7, capacityGib := 64, atomicLog2 := 4 } })], sessions := []  } }
theorem test_meets_lk_stop1 : lk_stop1_at.boards.slots.wf noSlot = true ∧ Plain 0x00002000 ∧ OnLink lk_stop1_at 2 .receiving := by decide +kernel
def lk_rblkone_at : State := { inMode State.reset .service with power := { (inMode State.reset .service).power with pwrOk := true, warn := false, pllSwitching := false }, boards := { State.reset.boards with slots := [(2, { seated := true, state := .ready, pwren := true, link := .transfer, ck := true, ident := some { maker := 5, serial := 77, gen := 2, modes := 7, capacityGib := 64, atomicLog2 := 4 }, mode := 3, count := none })], sessions := []  } }
theorem test_meets_lk_rblkone : lk_rblkone_at.boards.slots.wf noSlot = true ∧ Plain 0x00002000 ∧ OnLink lk_rblkone_at 2 .transfer ∧ (0x00002000 : BitVec 32).getLsbD 31 = false ∧ blocksRead (lineCount (lk_rblkone_at.slot 2).mode) 512 ([zeros 512, List.replicate 512 9].map (blockLines (lineCount (lk_rblkone_at.slot 2).mode))) = some [zeros 512, List.replicate 512 9] := ⟨by decide +kernel, by decide +kernel, by decide +kernel, by decide +kernel, lines8 _ _ _ (by decide +kernel) (by decide +kernel)⟩
def lk_wblkone_at : State := { inMode State.reset .service with power := { (inMode State.reset .service).power with pwrOk := true, warn := false, pllSwitching := false }, boards := { State.reset.boards with slots := [(2, { seated := true, state := .ready, pwren := true, link := .transfer, ck := true, ident := some { maker := 5, serial := 77, gen := 2, modes := 7, capacityGib := 64, atomicLog2 := 4 }, mode := 3, count := none })], sessions := []  } }
theorem test_meets_lk_wblkone : lk_wblkone_at.boards.slots.wf noSlot = true ∧ Plain 0x00002000 ∧ OnLink lk_wblkone_at 2 .transfer ∧ (0x00002000 : BitVec 32).getLsbD 31 = false ∧ (0x00002000 : BitVec 32).getLsbD 30 = false ∧ tokenOf 5 = some 2 := by decide +kernel
def lk_rblksome_at : State := { inMode State.reset .service with power := { (inMode State.reset .service).power with pwrOk := true, warn := false, pllSwitching := false }, boards := { State.reset.boards with slots := [(2, { seated := true, state := .ready, pwren := true, link := .transfer, ck := true, ident := some { maker := 5, serial := 77, gen := 2, modes := 7, capacityGib := 64, atomicLog2 := 4 }, mode := 3, count := (some 2) })], sessions := []  } }
theorem test_meets_lk_rblksome : lk_rblksome_at.boards.slots.wf noSlot = true ∧ Plain 0x00002000 ∧ OnLink lk_rblksome_at 2 .transfer ∧ (0x00002000 : BitVec 32).getLsbD 31 = false ∧ blocksRead (lineCount (lk_rblksome_at.slot 2).mode) 512 ([zeros 512, List.replicate 512 9].map (blockLines (lineCount (lk_rblksome_at.slot 2).mode))) = some [zeros 512, List.replicate 512 9] := ⟨by decide +kernel, by decide +kernel, by decide +kernel, by decide +kernel, lines8 _ _ _ (by decide +kernel) (by decide +kernel)⟩
def lk_wblksome_at : State := { inMode State.reset .service with power := { (inMode State.reset .service).power with pwrOk := true, warn := false, pllSwitching := false }, boards := { State.reset.boards with slots := [(2, { seated := true, state := .ready, pwren := true, link := .transfer, ck := true, ident := some { maker := 5, serial := 77, gen := 2, modes := 7, capacityGib := 64, atomicLog2 := 4 }, mode := 3, count := (some 2) })], sessions := []  } }
theorem test_meets_lk_wblksome : lk_wblksome_at.boards.slots.wf noSlot = true ∧ Plain 0x00002000 ∧ OnLink lk_wblksome_at 2 .transfer ∧ (0x00002000 : BitVec 32).getLsbD 31 = false ∧ (0x00002000 : BitVec 32).getLsbD 30 = false ∧ tokenOf 5 = some 2 := by decide +kernel
def lk_rblkoor_at : State := { inMode State.reset .service with power := { (inMode State.reset .service).power with pwrOk := true, warn := false, pllSwitching := false }, boards := { State.reset.boards with slots := [(2, { seated := true, state := .ready, pwren := true, link := .transfer, ck := true, ident := some { maker := 5, serial := 77, gen := 2, modes := 7, capacityGib := 64, atomicLog2 := 4 } })], sessions := []  } }
theorem test_meets_lk_rblkoor : lk_rblkoor_at.boards.slots.wf noSlot = true ∧ Plain 0x80002000 ∧ OnLink lk_rblkoor_at 2 .transfer ∧ (0x80002000 : BitVec 32).getLsbD 31 = true := by decide +kernel
def lk_wblkbad11_at : State := { inMode State.reset .service with power := { (inMode State.reset .service).power with pwrOk := true, warn := false, pllSwitching := false }, boards := { State.reset.boards with slots := [(2, { seated := true, state := .ready, pwren := true, link := .transfer, ck := true, ident := some { maker := 5, serial := 77, gen := 2, modes := 7, capacityGib := 64, atomicLog2 := 4 } })], sessions := []  } }
theorem test_meets_lk_wblkbad11 : lk_wblkbad11_at.boards.slots.wf noSlot = true ∧ Plain 0x00002000 ∧ OnLink lk_wblkbad11_at 2 .transfer ∧ (0x00002000 : BitVec 32).getLsbD 31 = false ∧ (0x00002000 : BitVec 32).getLsbD 30 = false ∧ tokenOf 11 ≠ some 2 ∧ (lk_wblkbad11_at.slot 2).repeats < 3 := by decide +kernel
def lk_wblkbad13_at : State := { inMode State.reset .service with power := { (inMode State.reset .service).power with pwrOk := true, warn := false, pllSwitching := false }, boards := { State.reset.boards with slots := [(2, { seated := true, state := .ready, pwren := true, link := .transfer, ck := true, ident := some { maker := 5, serial := 77, gen := 2, modes := 7, capacityGib := 64, atomicLog2 := 4 } })], sessions := []  } }
theorem test_meets_lk_wblkbad13 : lk_wblkbad13_at.boards.slots.wf noSlot = true ∧ Plain 0x00002000 ∧ OnLink lk_wblkbad13_at 2 .transfer ∧ (0x00002000 : BitVec 32).getLsbD 31 = false ∧ (0x00002000 : BitVec 32).getLsbD 30 = false ∧ tokenOf 13 ≠ some 2 ∧ (lk_wblkbad13_at.slot 2).repeats < 3 := by decide +kernel
def lk_cnt_at : State := { inMode State.reset .service with power := { (inMode State.reset .service).power with pwrOk := true, warn := false, pllSwitching := false }, boards := { State.reset.boards with slots := [(2, { seated := true, state := .ready, pwren := true, link := .transfer, ck := true, ident := some { maker := 5, serial := 77, gen := 2, modes := 7, capacityGib := 64, atomicLog2 := 4 } })], sessions := []  } }
theorem test_meets_lk_cnt : lk_cnt_at.boards.slots.wf noSlot = true ∧ Plain 0x00002000 ∧ OnLink lk_cnt_at 2 .transfer ∧ (0xFFFF : BitVec 16) ≠ 0 := by decide +kernel
def lk_rkey_at : State := { inMode State.reset .service with power := { (inMode State.reset .service).power with pwrOk := true, warn := false, pllSwitching := false }, boards := { State.reset.boards with slots := [(2, { seated := true, state := .ready, pwren := true, link := .transfer, ck := true, ident := some { maker := 5, serial := 77, gen := 2, modes := 7, capacityGib := 64, atomicLog2 := 4 }, mode := 3 })], sessions := []  } }
theorem test_meets_lk_rkey : lk_rkey_at.boards.slots.wf noSlot = true ∧ Plain 0x00002000 ∧ OnLink lk_rkey_at 2 .transfer ∧ blockRead (lineCount (lk_rkey_at.slot 2).mode) 512 (blockLines (lineCount (lk_rkey_at.slot 2).mode) (zeros 512)) = some (zeros 512) := ⟨by decide +kernel, by decide +kernel, by decide +kernel, line8 _ _ _ (by decide +kernel) (by simp)⟩
def lk_slpready_at : State := { inMode State.reset .service with power := { (inMode State.reset .service).power with pwrOk := true, warn := false, pllSwitching := false }, boards := { State.reset.boards with slots := [(2, { seated := true, state := .ready, pwren := true, link := .transfer, ck := true, ident := some { maker := 5, serial := 77, gen := 2, modes := 7, capacityGib := 64, atomicLog2 := 4 } })], sessions := []  } }
theorem test_meets_lk_slpready : lk_slpready_at.boards.slots.wf noSlot = true ∧ Plain 0x00002000 ∧ OnLink lk_slpready_at 2 .transfer ∧ (lk_slpready_at.slot 2).gen = 2 := by decide +kernel
def lk_wakesleep_at : State := { inMode State.reset .service with power := { (inMode State.reset .service).power with pwrOk := true, warn := false, pllSwitching := false }, boards := { State.reset.boards with slots := [(2, { seated := true, state := .sleep, pwren := true, link := .sleep, ck := true, ident := some { maker := 5, serial := 77, gen := 2, modes := 7, capacityGib := 64, atomicLog2 := 4 } })], sessions := []  } }
theorem test_meets_lk_wakesleep : lk_wakesleep_at.boards.slots.wf noSlot = true ∧ Plain 0x00002000 ∧ OnLink lk_wakesleep_at 2 .sleep ∧ (lk_wakesleep_at.slot 2).gen = 2 := by decide +kernel
def lk_slpbringup_at : State := { inMode State.reset .service with power := { (inMode State.reset .service).power with pwrOk := true, warn := false, pllSwitching := false }, boards := { State.reset.boards with slots := [(2, { seated := true, state := .bringup, pwren := true, link := .transfer, ck := true, ident := some { maker := 5, serial := 77, gen := 2, modes := 7, capacityGib := 64, atomicLog2 := 4 } })], sessions := []  } }
theorem test_meets_lk_slpbringup : lk_slpbringup_at.boards.slots.wf noSlot = true ∧ Plain 0x00002000 ∧ OnLink lk_slpbringup_at 2 .transfer ∧ (lk_slpbringup_at.slot 2).gen = 2 := by decide +kernel
def lk_wakebringup_at : State := { inMode State.reset .service with power := { (inMode State.reset .service).power with pwrOk := true, warn := false, pllSwitching := false }, boards := { State.reset.boards with slots := [(2, { seated := true, state := .bringup, pwren := true, link := .sleep, ck := true, ident := some { maker := 5, serial := 77, gen := 2, modes := 7, capacityGib := 64, atomicLog2 := 4 } })], sessions := []  } }
theorem test_meets_lk_wakebringup : lk_wakebringup_at.boards.slots.wf noSlot = true ∧ Plain 0x00002000 ∧ OnLink lk_wakebringup_at 2 .sleep ∧ (lk_wakebringup_at.slot 2).gen = 2 := by decide +kernel
def lk_nonans1_at : State := { inMode State.reset .service with power := { (inMode State.reset .service).power with pwrOk := true, warn := false, pllSwitching := false }, boards := { State.reset.boards with slots := [(2, { seated := true, state := .bringup, pwren := true, link := .idle, ck := true, ident := some { maker := 5, serial := 77, gen := 2, modes := 7, capacityGib := 64, atomicLog2 := 4 } })], sessions := []  } }
theorem test_meets_lk_nonans1 : lk_nonans1_at.boards.slots.wf noSlot = true ∧ Plain 0x00002000 ∧ OnLink lk_nonans1_at 2 .idle ∧ (∀ p, (0xABCDEF00 : BitVec 48) ≠ shortAnswer 1 p) ∧ (lk_nonans1_at.slot 2).repeats < 3 := ⟨by decide +kernel, by decide +kernel, by decide +kernel, even_answers_nothing _ _ (by decide), by decide +kernel⟩
def lk_nonans17_at : State := { inMode State.reset .service with power := { (inMode State.reset .service).power with pwrOk := true, warn := false, pllSwitching := false }, boards := { State.reset.boards with slots := [(2, { seated := true, state := .bringup, pwren := true, link := .transfer, ck := true, ident := some { maker := 5, serial := 77, gen := 2, modes := 7, capacityGib := 64, atomicLog2 := 4 } })], sessions := []  } }
theorem test_meets_lk_nonans17 : lk_nonans17_at.boards.slots.wf noSlot = true ∧ Plain 0x00002000 ∧ OnLink lk_nonans17_at 2 .transfer ∧ (∀ p, (0xABCDEF00 : BitVec 48) ≠ shortAnswer 17 p) ∧ (lk_nonans17_at.slot 2).repeats < 3 := ⟨by decide +kernel, by decide +kernel, by decide +kernel, even_answers_nothing _ _ (by decide), by decide +kernel⟩
def lk_illegal6_at : State := { inMode State.reset .service with power := { (inMode State.reset .service).power with pwrOk := true, warn := false, pllSwitching := false }, boards := { State.reset.boards with slots := [(2, { seated := true, state := .sleep, pwren := true, link := .sleep, ck := true, ident := some { maker := 5, serial := 77, gen := 2, modes := 7, capacityGib := 64, atomicLog2 := 4 } })], sessions := []  } }
theorem test_meets_lk_illegal6 : lk_illegal6_at.boards.slots.wf noSlot = true ∧ Plain 0x00002000 ∧ OnLink lk_illegal6_at 2 .sleep ∧ (lk_illegal6_at.slot 2).link ≠ .transfer := by decide +kernel
def lk_off_at : State := { inMode State.reset .service with power := { (inMode State.reset .service).power with pwrOk := true, warn := false, pllSwitching := false }, boards := { State.reset.boards with slots := [(2, { seated := true })], sessions := []  } }
theorem test_meets_lk_off : lk_off_at.boards.slots.wf noSlot = true ∧ (lk_off_at.slot 2).pwren = false := by decide +kernel
def rp_nonef_at : State := (let State.reset := { State.reset with vault := { State.reset.vault with pairing := [] } }; { inMode State.reset .service with power := { (inMode State.reset .service).power with pwrOk := true, warn := false, pllSwitching := false }, boards := { State.reset.boards with slots := [(2, { seated := true, state := .ready, pwren := true, link := .transfer, ck := true, mode := 3, ident := some { maker := 5, serial := 77, gen := 2, modes := 7, capacityGib := 64, atomicLog2 := 4 }, rpaWriting := false })], sessions := []  } })
theorem test_meets_rp_nonef : OnLink rp_nonef_at 2 .transfer ∧ rp_nonef_at.boards.slots.wf noSlot = true ∧ Plain 0x00002000 ∧ rp_nonef_at.cartKey 2 = none ∧ (rp_nonef_at.slot 2).state = .ready := by decide +kernel
def rp_nonet_at : State := (let State.reset := { State.reset with vault := { State.reset.vault with pairing := [] } }; { inMode State.reset .service with power := { (inMode State.reset .service).power with pwrOk := true, warn := false, pllSwitching := false }, boards := { State.reset.boards with slots := [(2, { seated := true, state := .ready, pwren := true, link := .transfer, ck := true, mode := 3, ident := some { maker := 5, serial := 77, gen := 2, modes := 7, capacityGib := 64, atomicLog2 := 4 }, rpaWriting := true })], sessions := []  } })
theorem test_meets_rp_nonet : OnLink rp_nonet_at 2 .transfer ∧ rp_nonet_at.boards.slots.wf noSlot = true ∧ Plain 0x00002000 ∧ rp_nonet_at.cartKey 2 = none ∧ (rp_nonet_at.slot 2).state = .ready := by decide +kernel
def rp_ctr_at : State := (let State.reset := { State.reset with vault := { State.reset.vault with vaultKey := some (zeros 32), pairing := [{ index := 0, maker := 5, serial := 77, key := List.replicate 32 9 }] } }; { inMode State.reset .service with power := { (inMode State.reset .service).power with pwrOk := true, warn := false, pllSwitching := false }, boards := { State.reset.boards with slots := [(2, { seated := true, state := .ready, pwren := true, link := .transfer, ck := true, mode := 3, ident := some { maker := 5, serial := 77, gen := 2, modes := 7, capacityGib := 64, atomicLog2 := 4 } })], sessions := []  } })
theorem test_meets_rp_ctr : OnLink rp_ctr_at 2 .transfer ∧ rp_ctr_at.boards.slots.wf noSlot = true ∧ Plain 0x00002000 ∧ rp_ctr_at.cartKey 2 = some (List.replicate 32 9) ∧ blockRead (lineCount (rp_ctr_at.slot 2).mode) 512 (blockLines (lineCount (rp_ctr_at.slot 2).mode) ((rpaFrames (List.replicate 32 9) [rpaPart [] (rp_ctr_at.drawBytes 16) 300 0 0 257]).headD [])) = some ((rpaFrames (List.replicate 32 9) [rpaPart [] (rp_ctr_at.drawBytes 16) 300 0 0 257]).headD []) := ⟨by decide +kernel, by decide +kernel, by decide +kernel, by decide +kernel, line8 _ _ _ (by decide +kernel) (by simp [rpaFrames])⟩
def rp_ctrbad_at : State := (let State.reset := { State.reset with vault := { State.reset.vault with vaultKey := some (zeros 32), pairing := [{ index := 0, maker := 5, serial := 77, key := List.replicate 32 9 }] } }; { inMode State.reset .service with power := { (inMode State.reset .service).power with pwrOk := true, warn := false, pllSwitching := false }, boards := { State.reset.boards with slots := [(2, { seated := true, state := .ready, pwren := true, link := .transfer, ck := true, mode := 3, ident := some { maker := 5, serial := 77, gen := 2, modes := 7, capacityGib := 64, atomicLog2 := 4 } })], sessions := []  } })
theorem test_meets_rp_ctrbad : OnLink rp_ctrbad_at 2 .transfer ∧ rp_ctrbad_at.boards.slots.wf noSlot = true ∧ Plain 0x00002000 ∧ rp_ctrbad_at.cartKey 2 = some (List.replicate 32 9) ∧ blockRead (lineCount (rp_ctrbad_at.slot 2).mode) 512 (blockLines (lineCount (rp_ctrbad_at.slot 2).mode) (zeros 512)) = some (zeros 512) := ⟨by decide +kernel, by decide +kernel, by decide +kernel, by decide +kernel, line8 _ _ _ (by decide +kernel) (by simp)⟩
def rp_write_at : State := (let State.reset := { State.reset with vault := { State.reset.vault with vaultKey := some (zeros 32), pairing := [{ index := 0, maker := 5, serial := 77, key := List.replicate 32 9 }] } }; { inMode State.reset .service with power := { (inMode State.reset .service).power with pwrOk := true, warn := false, pllSwitching := false }, boards := { State.reset.boards with slots := [(2, { seated := true, state := .ready, pwren := true, link := .transfer, ck := true, mode := 3, ident := some { maker := 5, serial := 77, gen := 2, modes := 7, capacityGib := 64, atomicLog2 := 4 }, enrolled := true, rpaCounter := 9 })], sessions := []  } })
theorem test_meets_rp_write : OnLink rp_write_at 2 .transfer ∧ rp_write_at.boards.slots.wf noSlot = true ∧ Plain 0x00002000 ∧ rp_write_at.cartKey 2 = some (List.replicate 32 9) ∧ (rp_write_at.slot 2).enrolled = true ∧ (rp_write_at.slot 2).rpaWriting = false ∧ 16382 + 2 ≤ 16384 := by decide +kernel
def rp_result_at : State := (let State.reset := { State.reset with vault := { State.reset.vault with vaultKey := some (zeros 32), pairing := [{ index := 0, maker := 5, serial := 77, key := List.replicate 32 9 }] } }; { inMode State.reset .service with power := { (inMode State.reset .service).power with pwrOk := true, warn := false, pllSwitching := false }, boards := { State.reset.boards with slots := [(2, { seated := true, state := .ready, pwren := true, link := .transfer, ck := true, mode := 3, ident := some { maker := 5, serial := 77, gen := 2, modes := 7, capacityGib := 64, atomicLog2 := 4 }, enrolled := true, rpaCounter := 9, rpaWriting := true, rpaNonce := zeros 16, rpaSent := [[1]] })], sessions := []  } })
theorem test_meets_rp_result : OnLink rp_result_at 2 .transfer ∧ rp_result_at.boards.slots.wf noSlot = true ∧ Plain 0x00002000 ∧ rp_result_at.cartKey 2 = some (List.replicate 32 9) ∧ (rp_result_at.slot 2).rpaWriting = true ∧ blocksRead (lineCount (rp_result_at.slot 2).mode) 512 ((rpaFrames (List.replicate 32 9) [rpaPart [] ((rp_result_at.slot 2).rpaNonce) 10 0 0 260]).map (blockLines (lineCount (rp_result_at.slot 2).mode))) = some (rpaFrames (List.replicate 32 9) [rpaPart [] ((rp_result_at.slot 2).rpaNonce) 10 0 0 260]) ∧ rpaVerify (List.replicate 32 9) (rp_result_at.slot 2).rpaNonce 0x0104 (rpaFrames (List.replicate 32 9) [rpaPart [] ((rp_result_at.slot 2).rpaNonce) 10 0 0 260]) = true ∧ rpaOk (rpaFrames (List.replicate 32 9) [rpaPart [] ((rp_result_at.slot 2).rpaNonce) 10 0 0 260]) = true ∧ fld ((rpaFrames (List.replicate 32 9) [rpaPart [] ((rp_result_at.slot 2).rpaNonce) 10 0 0 260]).headD []) 272 4 = (rp_result_at.slot 2).rpaCounter + 1 := ⟨by decide +kernel, by decide +kernel, by decide +kernel, by decide +kernel, by decide +kernel, lines8 _ _ _ (by decide +kernel) (by simp [rpaFrames]), Laws.rpaVerify_rpaFrames _ _ _ _ (by simp) (by simp only [List.mem_singleton, forall_eq]; exact part_of _ _ (by decide +kernel) (by decide) _ _ _ _), Laws.rpaOk_rpaFrames _ _ (by simp [Laws.rpaPart_result]), by decide +kernel⟩
def rp_man_at : State := (let State.reset := { State.reset with vault := { State.reset.vault with vaultKey := some (zeros 32), pairing := [{ index := 0, maker := 5, serial := 77, key := List.replicate 32 9 }] } }; { inMode State.reset .service with power := { (inMode State.reset .service).power with pwrOk := true, warn := false, pllSwitching := false }, boards := { State.reset.boards with slots := [(2, { seated := true, state := .ready, pwren := true, link := .transfer, ck := true, mode := 3, ident := some { maker := 5, serial := 77, gen := 2, modes := 7, capacityGib := 64, atomicLog2 := 4 }, enrolled := true, rpaCounter := 9 })], sessions := []  } })
theorem test_meets_rp_man : OnLink rp_man_at 2 .transfer ∧ rp_man_at.boards.slots.wf noSlot = true ∧ Plain 0x00002000 ∧ rp_man_at.cartKey 2 = some (List.replicate 32 9) ∧ (rp_man_at.slot 2).rpaWriting = false ∧ (rp_man_at.slot 2).state = .ready ∧ blocksRead (lineCount (rp_man_at.slot 2).mode) 512 ((rpaFrames (List.replicate 32 9) ((List.range 16).map (fun k => rpaPart [BitVec.ofNat 8 k] (rp_man_at.drawBytes 16) 0 0 16 0x0103))).map (blockLines (lineCount (rp_man_at.slot 2).mode))) = some (rpaFrames (List.replicate 32 9) ((List.range 16).map (fun k => rpaPart [BitVec.ofNat 8 k] (rp_man_at.drawBytes 16) 0 0 16 0x0103))) ∧ (rpaFrames (List.replicate 32 9) ((List.range 16).map (fun k => rpaPart [BitVec.ofNat 8 k] (rp_man_at.drawBytes 16) 0 0 16 0x0103))).length = 16 ∧ rpaVerify (List.replicate 32 9) (rp_man_at.drawBytes 16) 0x0103 (rpaFrames (List.replicate 32 9) ((List.range 16).map (fun k => rpaPart [BitVec.ofNat 8 k] (rp_man_at.drawBytes 16) 0 0 16 0x0103))) = true ∧ rpaOk (rpaFrames (List.replicate 32 9) ((List.range 16).map (fun k => rpaPart [BitVec.ofNat 8 k] (rp_man_at.drawBytes 16) 0 0 16 0x0103))) = true := ⟨by decide +kernel, by decide +kernel, by decide +kernel, by decide +kernel, by decide +kernel, by decide +kernel, lines8 _ _ _ (by decide +kernel) (frames_512 _ _ (by simp)), frames_count _ _, Laws.rpaVerify_rpaFrames _ _ _ _ (by simp) (by intro p hp; obtain ⟨k, _, rfl⟩ := List.mem_map.mp hp; exact part_of _ _ (by simp [State.drawBytes]) (by decide) _ _ _ _), Laws.rpaOk_rpaFrames _ _ (by simp [Laws.rpaPart_result])⟩
def rp_pair_at : State := (let State.reset := { State.reset with crypto := {} }; (let State.reset := { State.reset with vault := { State.reset.vault with vaultKey := some (zeros 32), pairing := [{ index := 0, maker := 5, serial := 77, key := List.replicate 32 9 }] } }; { inMode State.reset .service with power := { (inMode State.reset .service).power with pwrOk := true, warn := false, pllSwitching := false }, boards := { State.reset.boards with slots := [(2, { seated := true, state := .ready, pwren := true, link := .transfer, ck := true, mode := 3, ident := some { maker := 5, serial := 77, gen := 2, modes := 7, capacityGib := 64, atomicLog2 := 4 }, enrolled := true, rpaCounter := 9, keyBlock := fitTo 512 (p256.encode p256.g) })], sessions := []  } }))
theorem test_meets_rp_pair : OnLink rp_pair_at 2 .transfer ∧ rp_pair_at.boards.slots.wf noSlot = true ∧ Plain 0x00002000 ∧ (rp_pair_at.slot 2).keyBlock ≠ [] ∧ rp_pair_at.vault.vaultKey = some (zeros 32) ∧ rp_pair_at.entropyOk = true ∧ rp_pair_at.vault.pairing.length < 4096 ∧ p256.decode ((rp_pair_at.slot 2).keyBlock.take 64) = some p256.g ∧ PoolServes rp_pair_at 2 := by decide +kernel
def cd_ins_at : State := { inMode State.reset .service with ledger := { State.reset.ledger with rtc := 900000000000 }, power := { (inMode State.reset .service).power with pwrOk := true, warn := false, pllSwitching := false }, crypto := {}, boards := { State.reset.boards with cards := [(1, { vsel := 1 })] } }
theorem test_meets_cd_ins : cd_ins_at.linkRuns = true ∧ cd_ins_at.boards.cards.wf noCard = true := by decide +kernel
def cd_act1_at : State := { inMode State.reset .service with ledger := { State.reset.ledger with rtc := 900000000000 }, power := { (inMode State.reset .service).power with pwrOk := true, warn := false, pllSwitching := false }, crypto := {}, boards := { State.reset.boards with cards := [(1, { present := true })] } }
theorem test_meets_cd_act1 : cd_act1_at.linkRuns = true ∧ cd_act1_at.boards.cards.wf noCard = true ∧ (cd_act1_at.card 1).present = true ∧ (cd_act1_at.card 1).state = .empty ∧ 1 ≤ ({ cls := 1, t0 := true, t1 := false, fi := 512, di := 64, maxKhz := 9000, crc := true } : AtrAns).cls ∧ ({ cls := 1, t0 := true, t1 := false, fi := 512, di := 64, maxKhz := 9000, crc := true } : AtrAns).cls ≤ 3 ∧ (({ cls := 1, t0 := true, t1 := false, fi := 512, di := 64, maxKhz := 9000, crc := true } : AtrAns).t0 = true ∨ ({ cls := 1, t0 := true, t1 := false, fi := 512, di := 64, maxKhz := 9000, crc := true } : AtrAns).t1 = true) := by decide +kernel
def cd_act2_at : State := { inMode State.reset .service with ledger := { State.reset.ledger with rtc := 900000000000 }, power := { (inMode State.reset .service).power with pwrOk := true, warn := false, pllSwitching := false }, crypto := {}, boards := { State.reset.boards with cards := [(1, { present := true })] } }
theorem test_meets_cd_act2 : cd_act2_at.linkRuns = true ∧ cd_act2_at.boards.cards.wf noCard = true ∧ (cd_act2_at.card 1).present = true ∧ (cd_act2_at.card 1).state = .empty ∧ 1 ≤ ({ cls := 3, t0 := false, t1 := true, fi := 512, di := 8, maxKhz := 4500, crc := true } : AtrAns).cls ∧ ({ cls := 3, t0 := false, t1 := true, fi := 512, di := 8, maxKhz := 4500, crc := true } : AtrAns).cls ≤ 3 ∧ (({ cls := 3, t0 := false, t1 := true, fi := 512, di := 8, maxKhz := 4500, crc := true } : AtrAns).t0 = true ∨ ({ cls := 3, t0 := false, t1 := true, fi := 512, di := 8, maxKhz := 4500, crc := true } : AtrAns).t1 = true) := by decide +kernel
def cd_actno_at : State := { inMode State.reset .service with ledger := { State.reset.ledger with rtc := 900000000000 }, power := { (inMode State.reset .service).power with pwrOk := true, warn := false, pllSwitching := false }, crypto := {}, boards := { State.reset.boards with cards := [(1, { present := true })] } }
theorem test_meets_cd_actno : cd_actno_at.linkRuns = true ∧ cd_actno_at.boards.cards.wf noCard = true ∧ (cd_actno_at.card 1).present = true ∧ (cd_actno_at.card 1).state = .empty := by decide +kernel
def cd_sel_at : State := { inMode State.reset .service with ledger := { State.reset.ledger with rtc := 900000000000 }, power := { (inMode State.reset .service).power with pwrOk := true, warn := false, pllSwitching := false }, crypto := {}, boards := { State.reset.boards with cards := [(1, { present := true, state := .authenticating, vsel := 1, cls := 3 })] } }
theorem test_meets_cd_sel : cd_sel_at.linkRuns = true ∧ cd_sel_at.boards.cards.wf noCard = true ∧ (cd_sel_at.card 1).inExchange = true ∧ (cd_sel_at.card 1).getPending = false ∧ (cd_sel_at.card 1).step = 0 := by decide +kernel
def cd_sel6c_at : State := { inMode State.reset .service with ledger := { State.reset.ledger with rtc := 900000000000 }, power := { (inMode State.reset .service).power with pwrOk := true, warn := false, pllSwitching := false }, crypto := {}, boards := { State.reset.boards with cards := [(1, { present := true, state := .authenticating, vsel := 1, cls := 3, lastSw := 0x6C10, sent := [0, 1, 2, 3, 4] })] } }
theorem test_meets_cd_sel6c : cd_sel6c_at.linkRuns = true ∧ cd_sel6c_at.boards.cards.wf noCard = true ∧ (cd_sel6c_at.card 1).inExchange = true ∧ (cd_sel6c_at.card 1).getPending = false ∧ (cd_sel6c_at.card 1).step = 0 := by decide +kernel
def cd_read_at : State := { inMode State.reset .service with ledger := { State.reset.ledger with rtc := 900000000000 }, power := { (inMode State.reset .service).power with pwrOk := true, warn := false, pllSwitching := false }, crypto := {}, boards := { State.reset.boards with cards := [(1, { present := true, state := .authenticating, vsel := 1, cls := 3, step := 1, reads := 2, cert := [1, 2], buf := [9] })] } }
theorem test_meets_cd_read : cd_read_at.linkRuns = true ∧ cd_read_at.boards.cards.wf noCard = true ∧ (cd_read_at.card 1).inExchange = true ∧ (cd_read_at.card 1).getPending = false ∧ (cd_read_at.card 1).step = 1 ∧ (cd_read_at.card 1).reads < 13 ∧ ((cd_read_at.card 1).cert ++ ((cd_read_at.card 1).buf ++ zeros 300).take 256).length < 3568 := by decide +kernel
def cd_read12_at : State := { inMode State.reset .service with ledger := { State.reset.ledger with rtc := 900000000000 }, power := { (inMode State.reset .service).power with pwrOk := true, warn := false, pllSwitching := false }, crypto := {}, boards := { State.reset.boards with cards := [(1, { present := true, state := .authenticating, vsel := 1, cls := 3, step := 1, reads := 12, cert := [1, 2], buf := [9] })] } }
theorem test_meets_cd_read12 : cd_read12_at.linkRuns = true ∧ cd_read12_at.boards.cards.wf noCard = true ∧ (cd_read12_at.card 1).inExchange = true ∧ (cd_read12_at.card 1).getPending = false ∧ (cd_read12_at.card 1).step = 1 ∧ (cd_read12_at.card 1).reads < 13 ∧ ((cd_read12_at.card 1).cert ++ ((cd_read12_at.card 1).buf ++ zeros 300).take 256).length < 3568 := by decide +kernel
def cd_readlast_at : State := { inMode State.reset .service with ledger := { State.reset.ledger with rtc := 900000000000 }, power := { (inMode State.reset .service).power with pwrOk := true, warn := false, pllSwitching := false }, crypto := {}, boards := { State.reset.boards with cards := [(1, { present := true, state := .authenticating, vsel := 1, cls := 3, step := 1, reads := 13, cert := zeros 3400 })] } }
theorem test_meets_cd_readlast : cd_readlast_at.linkRuns = true ∧ cd_readlast_at.boards.cards.wf noCard = true ∧ (cd_readlast_at.card 1).inExchange = true ∧ (cd_readlast_at.card 1).getPending = false ∧ (cd_readlast_at.card 1).step = 1 ∧ (cd_readlast_at.card 1).reads = 13 := by decide +kernel
def cd_authno_at : State := { inMode State.reset .service with ledger := { State.reset.ledger with rtc := 900000000000 }, power := { (inMode State.reset .service).power with pwrOk := true, warn := false, pllSwitching := false }, crypto := {}, boards := { State.reset.boards with cards := [(1, { present := true, state := .authenticating, vsel := 1, cls := 3, step := 2, challenge := zeros 32, cert := zeros 3568 })] } }
theorem test_meets_cd_authno : cd_authno_at.linkRuns = true ∧ cd_authno_at.boards.cards.wf noCard = true ∧ (cd_authno_at.card 1).inExchange = true ∧ (cd_authno_at.card 1).getPending = false ∧ (cd_authno_at.card 1).step = 2 ∧ PoolServes cd_authno_at 2 ∧ cd_authno_at.cardCheck (cd_authno_at.card 1).cert (cd_authno_at.card 1).challenge ((cd_authno_at.card 1).buf ++ zeros 96) = 4 := by decide +kernel
def cd_get_at : State := { inMode State.reset .service with ledger := { State.reset.ledger with rtc := 900000000000 }, power := { (inMode State.reset .service).power with pwrOk := true, warn := false, pllSwitching := false }, crypto := {}, boards := { State.reset.boards with cards := [(1, { present := true, state := .authenticating, vsel := 1, cls := 3, getPending := true, buf := [5], lastSw := 0x6120 })] } }
theorem test_meets_cd_get : cd_get_at.linkRuns = true ∧ cd_get_at.boards.cards.wf noCard = true ∧ (cd_get_at.card 1).inExchange = true ∧ (cd_get_at.card 1).t1 = false ∧ (cd_get_at.card 1).getPending = true ∧ (0x6110 : BitVec 16).toNat / 256 = 0x61 := by decide +kernel
def cd_rem_at : State := { inMode State.reset .service with ledger := { State.reset.ledger with rtc := 900000000000 }, power := { (inMode State.reset .service).power with pwrOk := true, warn := false, pllSwitching := false }, crypto := {}, boards := { State.reset.boards with cards := [(1, { present := true, state := .authenticating, vsel := 1, cls := 3 })] } }
theorem test_meets_cd_rem : cd_rem_at.linkRuns = true ∧ cd_rem_at.boards.cards.wf noCard = true ∧ (cd_rem_at.card 1).present = true ∧ (cd_rem_at.card 1).state ≠ .empty := by decide +kernel
def cd_exp_at : State := { inMode State.reset .service with ledger := { State.reset.ledger with rtc := 900000000000 }, power := { (inMode State.reset .service).power with pwrOk := true, warn := false, pllSwitching := false }, crypto := {}, boards := { State.reset.boards with cards := [(1, { present := true, state := .authorised, authAt := 899999999000, rights := 7, step := 3 })] } }
theorem test_meets_cd_exp : cd_exp_at.linkRuns = true ∧ cd_exp_at.boards.cards.wf noCard = true ∧ (cd_exp_at.card 1).state = .authorised := by decide +kernel
def cd_not_at : State := { inMode State.reset .service with ledger := { State.reset.ledger with rtc := 900000000000 }, power := { (inMode State.reset .service).power with pwrOk := true, warn := false, pllSwitching := false }, crypto := {}, boards := { State.reset.boards with cards := [(1, { present := true, state := .authorised })] } }
theorem test_meets_cd_not : cd_not_at.linkRuns = true ∧ cd_not_at.boards.cards.wf noCard = true ∧ (cd_not_at.card 1).inExchange = false := by decide +kernel
def xp_bad_at : State := ready1 ((let State.reset := { inMode State.reset .service with vault := { State.reset.vault with vaultKey := some (zeros 32), entropyFails := 0, pairing := [{ index := 0, maker := 5, serial := 77, key := List.replicate 32 9 }] }, crypto := {}, units := { State.reset.units with st := [] }, power := { (inMode State.reset .service).power with pwrOk := true, warn := false, pllSwitching := false }, ledger := { State.reset.ledger with events := [] }, tabs := { State.reset.tabs with holds := [], holdHigh := 2 } }; { State.reset with boards := { State.reset.boards with lastSession := 4, sessions := [], cards := [(1, { present := true, state := .authorised, rights := 1 })], slots := [(2, { seated := true, state := .ready, pwren := true, link := .transfer, mode := 3, ck := true, enrolled := true, manifest := some (zeros 4096), ident := some { maker := 5, serial := 77, gen := 2, modes := 7, capacityGib := 64, atomicLog2 := 4 } })] } })) (tkOf 0x23 3 (extent 80) (zeros 8 ++ leBytes 4 80 ++ [2] ++ zeros 3))
theorem test_meets_xp_bad : Admitted xp_bad_at { id := 7 } 0x23 (tkOf 0x23 3 (extent 80) (zeros 8 ++ leBytes 4 80 ++ [2] ++ zeros 3)) ∧ xp_bad_at.masters (tkOf 0x23 3 (extent 80) (zeros 8 ++ leBytes 4 80 ++ [2] ++ zeros 3)) = true ∧ xp_bad_at.power.warn = false ∧ exportReq ([1, 0, 2, 1] ++ leBytes 4 1 ++ leBytes 4 0 ++ [7] ++ zeros 51 ++ leBytes 4 3 ++ leBytes 8 1 ++ leBytes 4 3) ((tkOf 0x23 3 (extent 80) (zeros 8 ++ leBytes 4 80 ++ [2] ++ zeros 3)).tk.op 56 4) = some { kind := 2, card := 1, session := 0, content := 7, ranges := [{ tab := 3, first := 1, count := 3 }] } := by decide +kernel
def xp_no2_at : State := ready1 ((let State.reset := { inMode State.reset .service with vault := { State.reset.vault with vaultKey := some (zeros 32), entropyFails := 0, pairing := [{ index := 0, maker := 5, serial := 77, key := List.replicate 32 9 }] }, crypto := {}, units := { State.reset.units with st := [] }, power := { (inMode State.reset .service).power with pwrOk := true, warn := false, pllSwitching := false }, ledger := { State.reset.ledger with events := [] }, tabs := { State.reset.tabs with holds := [], holdHigh := 2 } }; { State.reset with boards := { State.reset.boards with lastSession := 4, sessions := [], cards := [(1, { present := true, state := .authorised, rights := 0 })], slots := [(2, { seated := true, state := .ready, pwren := true, link := .transfer, mode := 3, ck := true, enrolled := true, manifest := some (zeros 4096), ident := some { maker := 5, serial := 77, gen := 2, modes := 7, capacityGib := 64, atomicLog2 := 4 } })] } })) (tkOf 0x23 3 (extent 80) (zeros 8 ++ leBytes 4 80 ++ [2] ++ zeros 3))
theorem test_meets_xp_no2 : Admitted xp_no2_at { id := 7 } 0x23 (tkOf 0x23 3 (extent 80) (zeros 8 ++ leBytes 4 80 ++ [2] ++ zeros 3)) ∧ xp_no2_at.masters (tkOf 0x23 3 (extent 80) (zeros 8 ++ leBytes 4 80 ++ [2] ++ zeros 3)) = true ∧ xp_no2_at.power.warn = false ∧ exportReq ([1, 0, 2, 1] ++ leBytes 4 1 ++ leBytes 4 0 ++ [7] ++ zeros 51 ++ leBytes 4 3 ++ leBytes 8 1 ++ leBytes 4 3) ((tkOf 0x23 3 (extent 80) (zeros 8 ++ leBytes 4 80 ++ [2] ++ zeros 3)).tk.op 56 4) = some { kind := 2, card := 1, session := 0, content := 7, ranges := [{ tab := 3, first := 1, count := 3 }] } ∧ xp_no2_at.exportMay 2 { kind := 2, card := 1, session := 0, content := 7, ranges := [{ tab := 3, first := 1, count := 3 }] } = false ∧ (tkOf 0x23 3 (extent 80) (zeros 8 ++ leBytes 4 80 ++ [2] ++ zeros 3)).tk.op 60 1 = 2 := by decide +kernel
def xp_enr_room_at : State := ready1 ((let State.reset := { inMode State.reset .service with vault := { State.reset.vault with vaultKey := some (zeros 32), entropyFails := 0, pairing := List.replicate 4096 { index := 0, maker := 6, serial := 77, key := [] } }, crypto := {}, units := { State.reset.units with st := [] }, power := { (inMode State.reset .service).power with pwrOk := true, warn := false, pllSwitching := false }, ledger := { State.reset.ledger with events := [] }, tabs := { State.reset.tabs with holds := [], holdHigh := 2 } }; { State.reset with boards := { State.reset.boards with lastSession := 4, sessions := [], cards := [(1, { present := true, state := .authorised, rights := 4 })], slots := [(2, { seated := true, state := .ready, pwren := true, link := .transfer, mode := 3, ck := true, enrolled := true, manifest := some (zeros 4096), ident := some { maker := 5, serial := 77, gen := 2, modes := 7, capacityGib := 64, atomicLog2 := 4 } })] } })) (tkOf 0x23 3 (extent 64) (zeros 8 ++ leBytes 4 64 ++ [2] ++ zeros 3))
theorem test_meets_xp_enr_room : Admitted xp_enr_room_at { id := 7 } 0x23 (tkOf 0x23 3 (extent 64) (zeros 8 ++ leBytes 4 64 ++ [2] ++ zeros 3)) ∧ xp_enr_room_at.masters (tkOf 0x23 3 (extent 64) (zeros 8 ++ leBytes 4 64 ++ [2] ++ zeros 3)) = true ∧ xp_enr_room_at.power.warn = false ∧ exportReq ([1, 0, 1, 1] ++ leBytes 4 0 ++ leBytes 4 0 ++ [0] ++ zeros 51) ((tkOf 0x23 3 (extent 64) (zeros 8 ++ leBytes 4 64 ++ [2] ++ zeros 3)).tk.op 56 4) = some { kind := 1, card := 1, session := 0, content := 0, ranges := [] } ∧ xp_enr_room_at.exportMay 2 { kind := 1, card := 1, session := 0, content := 0, ranges := [] } = true ∧ (tkOf 0x23 3 (extent 64) (zeros 8 ++ leBytes 4 64 ++ [2] ++ zeros 3)).tk.op 60 1 = 2 ∧ xp_enr_room_at.pairRoom 2 = false := by decide +kernel
def xp_enr_fail_at : State := ready1 ((let State.reset := { inMode State.reset .service with vault := { State.reset.vault with vaultKey := some (zeros 32), entropyFails := 0, pairing := [{ index := 0, maker := 5, serial := 77, key := List.replicate 32 9 }] }, crypto := {}, units := { State.reset.units with st := [] }, power := { (inMode State.reset .service).power with pwrOk := true, warn := false, pllSwitching := false }, ledger := { State.reset.ledger with events := [] }, tabs := { State.reset.tabs with holds := [], holdHigh := 2 } }; { State.reset with boards := { State.reset.boards with lastSession := 4, sessions := [], cards := [(1, { present := true, state := .authorised, rights := 4 })], slots := [(2, { seated := true, state := .ready, pwren := true, link := .transfer, mode := 3, ck := true, enrolled := true, manifest := some (zeros 4096), ident := some { maker := 5, serial := 77, gen := 2, modes := 7, capacityGib := 64, atomicLog2 := 4 } })] } })) (tkOf 0x23 3 (extent 64) (zeros 8 ++ leBytes 4 64 ++ [2] ++ zeros 3))
theorem test_meets_xp_enr_fail : Admitted xp_enr_fail_at { id := 7 } 0x23 (tkOf 0x23 3 (extent 64) (zeros 8 ++ leBytes 4 64 ++ [2] ++ zeros 3)) ∧ xp_enr_fail_at.masters (tkOf 0x23 3 (extent 64) (zeros 8 ++ leBytes 4 64 ++ [2] ++ zeros 3)) = true ∧ xp_enr_fail_at.power.warn = false ∧ exportReq ([1, 0, 1, 1] ++ leBytes 4 0 ++ leBytes 4 0 ++ [0] ++ zeros 51) ((tkOf 0x23 3 (extent 64) (zeros 8 ++ leBytes 4 64 ++ [2] ++ zeros 3)).tk.op 56 4) = some { kind := 1, card := 1, session := 0, content := 0, ranges := [] } ∧ xp_enr_fail_at.exportMay 2 { kind := 1, card := 1, session := 0, content := 0, ranges := [] } = true ∧ (tkOf 0x23 3 (extent 64) (zeros 8 ++ leBytes 4 64 ++ [2] ++ zeros 3)).tk.op 60 1 = 2 ∧ xp_enr_fail_at.pairRoom 2 = true := by decide +kernel
def xp_enr_ok_at : State := ready1 ((let State.reset := { inMode State.reset .service with vault := { State.reset.vault with vaultKey := some (zeros 32), entropyFails := 0, pairing := [{ index := 0, maker := 5, serial := 77, key := List.replicate 32 9 }] }, crypto := {}, units := { State.reset.units with st := [] }, power := { (inMode State.reset .service).power with pwrOk := true, warn := false, pllSwitching := false }, ledger := { State.reset.ledger with events := [] }, tabs := { State.reset.tabs with holds := [], holdHigh := 2 } }; { State.reset with boards := { State.reset.boards with lastSession := 4, sessions := [], cards := [(1, { present := true, state := .authorised, rights := 4 })], slots := [(2, { seated := true, state := .ready, pwren := true, link := .transfer, mode := 3, ck := true, enrolled := false, manifest := some (zeros 4096), ident := some { maker := 5, serial := 77, gen := 2, modes := 7, capacityGib := 64, atomicLog2 := 4 } })] } })) (tkOf 0x23 3 (extent 64) (zeros 8 ++ leBytes 4 64 ++ [2] ++ zeros 3))
theorem test_meets_xp_enr_ok : Admitted xp_enr_ok_at { id := 7 } 0x23 (tkOf 0x23 3 (extent 64) (zeros 8 ++ leBytes 4 64 ++ [2] ++ zeros 3)) ∧ xp_enr_ok_at.masters (tkOf 0x23 3 (extent 64) (zeros 8 ++ leBytes 4 64 ++ [2] ++ zeros 3)) = true ∧ xp_enr_ok_at.power.warn = false ∧ exportReq ([1, 0, 1, 1] ++ leBytes 4 0 ++ leBytes 4 0 ++ [0] ++ zeros 51) ((tkOf 0x23 3 (extent 64) (zeros 8 ++ leBytes 4 64 ++ [2] ++ zeros 3)).tk.op 56 4) = some { kind := 1, card := 1, session := 0, content := 0, ranges := [] } ∧ xp_enr_ok_at.exportMay 2 { kind := 1, card := 1, session := 0, content := 0, ranges := [] } = true ∧ (tkOf 0x23 3 (extent 64) (zeros 8 ++ leBytes 4 64 ++ [2] ++ zeros 3)).tk.op 60 1 = 2 ∧ xp_enr_ok_at.pairRoom 2 = true ∧ (fitTo 512 (p256.encode p256.g)).length = 512 ∧ xp_enr_ok_at.entropyOk = true ∧ (p256.decode ((fitTo 512 (p256.encode p256.g)).take 64)).isSome = true ∧ xp_enr_ok_at.vault.vaultKey.isSome = true ∧ xp_enr_ok_at.boards.slots.wf noSlot = true ∧ PoolServes xp_enr_ok_at 2 := by decide +kernel
def xp_wipe_at : State := ready1 ((let State.reset := { inMode State.reset .service with vault := { State.reset.vault with vaultKey := some (zeros 32), entropyFails := 0, pairing := [{ index := 0, maker := 5, serial := 77, key := List.replicate 32 9 }] }, crypto := {}, units := { State.reset.units with st := [] }, power := { (inMode State.reset .service).power with pwrOk := true, warn := false, pllSwitching := false }, ledger := { State.reset.ledger with events := [] }, tabs := { State.reset.tabs with holds := [], holdHigh := 2 } }; { State.reset with boards := { State.reset.boards with lastSession := 4, sessions := [], cards := [(1, { present := true, state := .authorised, rights := 8 })], slots := [(2, { seated := true, state := .ready, pwren := true, link := .transfer, mode := 3, ck := true, enrolled := true, manifest := some (zeros 4096), ident := some { maker := 5, serial := 77, gen := 2, modes := 7, capacityGib := 64, atomicLog2 := 4 } })] } })) (tkOf 0x23 3 (extent 64) (zeros 8 ++ leBytes 4 64 ++ [2] ++ zeros 3))
theorem test_meets_xp_wipe : Admitted xp_wipe_at { id := 7 } 0x23 (tkOf 0x23 3 (extent 64) (zeros 8 ++ leBytes 4 64 ++ [2] ++ zeros 3)) ∧ xp_wipe_at.masters (tkOf 0x23 3 (extent 64) (zeros 8 ++ leBytes 4 64 ++ [2] ++ zeros 3)) = true ∧ xp_wipe_at.power.warn = false ∧ exportReq ([1, 0, 3, 1] ++ leBytes 4 0 ++ leBytes 4 0 ++ [0] ++ zeros 51) ((tkOf 0x23 3 (extent 64) (zeros 8 ++ leBytes 4 64 ++ [2] ++ zeros 3)).tk.op 56 4) = some { kind := 3, card := 1, session := 0, content := 0, ranges := [] } ∧ xp_wipe_at.exportMay 2 { kind := 3, card := 1, session := 0, content := 0, ranges := [] } = true ∧ (tkOf 0x23 3 (extent 64) (zeros 8 ++ leBytes 4 64 ++ [2] ++ zeros 3)).tk.op 60 1 = 2 := by decide +kernel
def xp_open_room_at : State := ready1 ((let State.reset := { inMode State.reset .service with vault := { State.reset.vault with vaultKey := some (zeros 32), entropyFails := 0, pairing := [{ index := 0, maker := 5, serial := 77, key := List.replicate 32 9 }] }, crypto := {}, units := { State.reset.units with st := [] }, power := { (inMode State.reset .service).power with pwrOk := true, warn := false, pllSwitching := false }, ledger := { State.reset.ledger with events := [] }, tabs := { State.reset.tabs with holds := List.replicate 4096 { id := 1, tab := none, first := 1, last := 1 }, holdHigh := 2 } }; { State.reset with boards := { State.reset.boards with lastSession := 4, sessions := [], cards := [(1, { present := true, state := .authorised, rights := 1 })], slots := [(2, { seated := true, state := .ready, pwren := true, link := .transfer, mode := 3, ck := true, enrolled := true, manifest := some (zeros 4096), ident := some { maker := 5, serial := 77, gen := 2, modes := 7, capacityGib := 64, atomicLog2 := 4 } })] } })) (tkOf 0x23 3 (extent 80) (zeros 8 ++ leBytes 4 80 ++ [2] ++ zeros 3))
theorem test_meets_xp_open_room : Admitted xp_open_room_at { id := 7 } 0x23 (tkOf 0x23 3 (extent 80) (zeros 8 ++ leBytes 4 80 ++ [2] ++ zeros 3)) ∧ xp_open_room_at.masters (tkOf 0x23 3 (extent 80) (zeros 8 ++ leBytes 4 80 ++ [2] ++ zeros 3)) = true ∧ xp_open_room_at.power.warn = false ∧ exportReq ([1, 0, 2, 1] ++ leBytes 4 1 ++ leBytes 4 0 ++ [7] ++ zeros 51 ++ leBytes 4 3 ++ leBytes 8 1 ++ leBytes 4 3) ((tkOf 0x23 3 (extent 80) (zeros 8 ++ leBytes 4 80 ++ [2] ++ zeros 3)).tk.op 56 4) = some { kind := 2, card := 1, session := 0, content := 7, ranges := [{ tab := 3, first := 1, count := 3 }] } ∧ xp_open_room_at.exportMay 2 { kind := 2, card := 1, session := 0, content := 7, ranges := [{ tab := 3, first := 1, count := 3 }] } = true ∧ (tkOf 0x23 3 (extent 64) (zeros 8 ++ leBytes 4 64 ++ [2] ++ zeros 3)).tk.op 60 1 = 2 ∧ (4096 ≤ xp_open_room_at.tabs.holds.length ∨ xp_open_room_at.eventFits 24 = false) := by decide +kernel
def xp_open_at : State := ready1 ((let State.reset := { inMode State.reset .service with vault := { State.reset.vault with vaultKey := some (zeros 32), entropyFails := 0, pairing := [{ index := 0, maker := 5, serial := 77, key := List.replicate 32 9 }] }, crypto := {}, units := { State.reset.units with st := [] }, power := { (inMode State.reset .service).power with pwrOk := true, warn := false, pllSwitching := false }, ledger := { State.reset.ledger with events := [] }, tabs := { State.reset.tabs with holds := [], holdHigh := 2 } }; { State.reset with boards := { State.reset.boards with lastSession := 4, sessions := [], cards := [(1, { present := true, state := .authorised, rights := 1 })], slots := [(2, { seated := true, state := .ready, pwren := true, link := .transfer, mode := 3, ck := true, enrolled := true, manifest := some (zeros 4096), ident := some { maker := 5, serial := 77, gen := 2, modes := 7, capacityGib := 64, atomicLog2 := 4 } })] } })) (tkOf 0x23 3 (extent 80) (zeros 8 ++ leBytes 4 80 ++ [2] ++ zeros 3))
theorem test_meets_xp_open : Admitted xp_open_at { id := 7 } 0x23 (tkOf 0x23 3 (extent 80) (zeros 8 ++ leBytes 4 80 ++ [2] ++ zeros 3)) ∧ xp_open_at.masters (tkOf 0x23 3 (extent 80) (zeros 8 ++ leBytes 4 80 ++ [2] ++ zeros 3)) = true ∧ xp_open_at.power.warn = false ∧ exportReq ([1, 0, 2, 1] ++ leBytes 4 1 ++ leBytes 4 0 ++ [7] ++ zeros 51 ++ leBytes 4 3 ++ leBytes 8 1 ++ leBytes 4 3) ((tkOf 0x23 3 (extent 80) (zeros 8 ++ leBytes 4 80 ++ [2] ++ zeros 3)).tk.op 56 4) = some { kind := 2, card := 1, session := 0, content := 7, ranges := [{ tab := 3, first := 1, count := 3 }] } ∧ xp_open_at.exportMay 2 { kind := 2, card := 1, session := 0, content := 7, ranges := [{ tab := 3, first := 1, count := 3 }] } = true ∧ (tkOf 0x23 3 (extent 64) (zeros 8 ++ leBytes 4 64 ++ [2] ++ zeros 3)).tk.op 60 1 = 2 ∧ xp_open_at.tabs.holds.length < 4096 ∧ xp_open_at.eventFits 24 = true ∧ (∀ y ∈ xp_open_at.boards.sessions, y.id ≤ xp_open_at.boards.lastSession) := by decide +kernel
def xp_abandon_at : State := ready1 ((let State.reset := { inMode State.reset .service with vault := { State.reset.vault with vaultKey := some (zeros 32), entropyFails := 0, pairing := [{ index := 0, maker := 5, serial := 77, key := List.replicate 32 9 }] }, crypto := {}, units := { State.reset.units with st := [] }, power := { (inMode State.reset .service).power with pwrOk := true, warn := false, pllSwitching := false }, ledger := { State.reset.ledger with events := [] }, tabs := { State.reset.tabs with holds := [{ id := 2, tab := some 3, first := 1, last := 3 }, { id := 1, tab := none, first := 1, last := 3 }], holdHigh := 2 } }; { State.reset with boards := { State.reset.boards with lastSession := 4, sessions := [{ id := 4, state := .waiting, slot := 1, maker := 5, serial := 78, hold := 2, ranges := [], content := 7 }], cards := [(1, { present := true, state := .authorised, rights := 1 })], slots := [(2, { seated := true, state := .ready, pwren := true, link := .transfer, mode := 3, ck := true, enrolled := true, manifest := some (zeros 4096), ident := some { maker := 5, serial := 77, gen := 2, modes := 7, capacityGib := 64, atomicLog2 := 4 } })] } })) (tkOf 0x23 3 (extent 64) (zeros 8 ++ leBytes 4 64 ++ [2] ++ zeros 3))
theorem test_meets_xp_abandon : Admitted xp_abandon_at { id := 7 } 0x23 (tkOf 0x23 3 (extent 64) (zeros 8 ++ leBytes 4 64 ++ [2] ++ zeros 3)) ∧ xp_abandon_at.masters (tkOf 0x23 3 (extent 64) (zeros 8 ++ leBytes 4 64 ++ [2] ++ zeros 3)) = true ∧ xp_abandon_at.power.warn = false ∧ exportReq ([1, 0, 4, 1] ++ leBytes 4 0 ++ leBytes 4 4 ++ [0] ++ zeros 51) ((tkOf 0x23 3 (extent 64) (zeros 8 ++ leBytes 4 64 ++ [2] ++ zeros 3)).tk.op 56 4) = some { kind := 4, card := 1, session := 4, content := 0, ranges := [] } ∧ xp_abandon_at.exportMay 2 { kind := 4, card := 1, session := 4, content := 0, ranges := [] } = true ∧ (tkOf 0x23 3 (extent 64) (zeros 8 ++ leBytes 4 64 ++ [2] ++ zeros 3)).tk.op 60 1 = 2 ∧ xp_abandon_at.boards.sessions = [{ id := 4, state := .waiting, slot := 1, maker := 5, serial := 78, hold := 2, ranges := [], content := 7 }] := by decide +kernel
def ss_unit_at : State := (let State.reset := (let State.reset := { inMode State.reset .service with vault := { State.reset.vault with vaultKey := some (zeros 32), pairing := [{ index := 0, maker := 5, serial := 77, key := List.replicate 32 9 }] }, power := { (inMode State.reset .service).power with pwrOk := true, warn := false, pllSwitching := false }, tabs := { State.reset.tabs with holds := [{ id := 2, tab := some 3, first := 1, last := 3 }], holdHigh := 2 } }; { State.reset with boards := { State.reset.boards with hx := 1, lastSession := 4, sessions := [{ id := 4, state := .opened, slot := 2, maker := 5, serial := 77, hold := 2, ranges := [], content := 7 }], slots := [(2, { seated := true, state := .ready, pwren := true, link := .transfer, mode := 3, ck := true, enrolled := true, manifest := some (zeros 4096), ident := some { maker := 5, serial := 77, gen := 2, modes := 7, capacityGib := 64, atomicLog2 := 4 } })] } }); { State.reset with vault := { State.reset.vault with idCerts := [zeros 20000], wraps := [], certs := [] }, ledger := { State.reset.ledger with durableTick := 9 } })
theorem test_meets_ss_unit : ss_unit_at.boards.sessions = [{ id := 4, state := .opened, slot := 2, maker := 5, serial := 77, hold := 2, ranges := [], content := 7 }] ∧ ss_unit_at.sessionOn 2 = some { id := 4, state := .opened, slot := 2, maker := 5, serial := 77, hold := 2, ranges := [], content := 7 } ∧ ss_unit_at.linkRuns = true ∧ ss_unit_at.power.mode ≠ .lockdown ∧ (ss_unit_at.slot 2).state = .ready ∧ (ss_unit_at.slot 2).gen = 2 ∧ ss_unit_at.streamReady { id := 4, state := .opened, slot := 2, maker := 5, serial := 77, hold := 2, ranges := [], content := 7 } = true ∧ ss_unit_at.boards.slots.wf noSlot = true ∧ tokenOf 5 = some 2 ∧ ({ id := 4, state := .opened, slot := 2, maker := 5, serial := 77, hold := 2, ranges := [], content := 7 } : Session).offset + (({ id := 4, state := .opened, slot := 2, maker := 5, serial := 77, hold := 2, ranges := [], content := 7 } : Session).confirmed + 1) * 16384 < (ss_unit_at.stream { id := 4, state := .opened, slot := 2, maker := 5, serial := 77, hold := 2, ranges := [], content := 7 }).length ∧ ({ id := 4, state := .opened, slot := 2, maker := 5, serial := 77, hold := 2, ranges := [], content := 7 } : Session).confirmed + 1 < (ss_unit_at.slot 2).room := by decide +kernel
def ss_last_at : State := (let State.reset := (let State.reset := { inMode State.reset .service with vault := { State.reset.vault with vaultKey := some (zeros 32), pairing := [{ index := 0, maker := 5, serial := 77, key := List.replicate 32 9 }] }, power := { (inMode State.reset .service).power with pwrOk := true, warn := false, pllSwitching := false }, tabs := { State.reset.tabs with holds := [{ id := 2, tab := some 3, first := 1, last := 3 }], holdHigh := 2 } }; { State.reset with boards := { State.reset.boards with hx := 1, lastSession := 4, sessions := [{ id := 4, state := .opened, slot := 2, maker := 5, serial := 77, hold := 2, ranges := [], content := 7 }], slots := [(2, { seated := true, state := .ready, pwren := true, link := .transfer, mode := 3, ck := true, enrolled := true, manifest := some (zeros 4096), ident := some { maker := 5, serial := 77, gen := 2, modes := 7, capacityGib := 64, atomicLog2 := 4 } })] } }); { State.reset with vault := { State.reset.vault with idCerts := [zeros 9], wraps := [], certs := [] }, ledger := { State.reset.ledger with durableTick := 9 } })
theorem test_meets_ss_last : ss_last_at.boards.sessions = [{ id := 4, state := .opened, slot := 2, maker := 5, serial := 77, hold := 2, ranges := [], content := 7 }] ∧ ss_last_at.sessionOn 2 = some { id := 4, state := .opened, slot := 2, maker := 5, serial := 77, hold := 2, ranges := [], content := 7 } ∧ ss_last_at.linkRuns = true ∧ ss_last_at.power.mode ≠ .lockdown ∧ (ss_last_at.slot 2).state = .ready ∧ (ss_last_at.slot 2).gen = 2 ∧ ss_last_at.streamReady { id := 4, state := .opened, slot := 2, maker := 5, serial := 77, hold := 2, ranges := [], content := 7 } = true ∧ ss_last_at.boards.slots.wf noSlot = true ∧ tokenOf 5 = some 2 ∧ (ss_last_at.stream { id := 4, state := .opened, slot := 2, maker := 5, serial := 77, hold := 2, ranges := [], content := 7 }).length ≤ ({ id := 4, state := .opened, slot := 2, maker := 5, serial := 77, hold := 2, ranges := [], content := 7 } : Session).offset + (({ id := 4, state := .opened, slot := 2, maker := 5, serial := 77, hold := 2, ranges := [], content := 7 } : Session).confirmed + 1) * 16384 := by decide +kernel
def ss_nak_at : State := (let State.reset := (let State.reset := { inMode State.reset .service with vault := { State.reset.vault with vaultKey := some (zeros 32), pairing := [{ index := 0, maker := 5, serial := 77, key := List.replicate 32 9 }] }, power := { (inMode State.reset .service).power with pwrOk := true, warn := false, pllSwitching := false }, tabs := { State.reset.tabs with holds := [{ id := 2, tab := some 3, first := 1, last := 3 }], holdHigh := 2 } }; { State.reset with boards := { State.reset.boards with hx := 1, lastSession := 4, sessions := [{ id := 4, state := .opened, slot := 2, maker := 5, serial := 77, hold := 2, ranges := [], content := 7 }], slots := [(2, { seated := true, state := .ready, pwren := true, link := .transfer, mode := 3, ck := true, enrolled := true, manifest := some (zeros 4096), ident := some { maker := 5, serial := 77, gen := 2, modes := 7, capacityGib := 64, atomicLog2 := 4 } })] } }); { State.reset with vault := { State.reset.vault with idCerts := [zeros 9], wraps := [], certs := [] }, ledger := { State.reset.ledger with durableTick := 9 } })
theorem test_meets_ss_nak : ss_nak_at.boards.sessions = [{ id := 4, state := .opened, slot := 2, maker := 5, serial := 77, hold := 2, ranges := [], content := 7 }] ∧ ss_nak_at.sessionOn 2 = some { id := 4, state := .opened, slot := 2, maker := 5, serial := 77, hold := 2, ranges := [], content := 7 } ∧ ss_nak_at.linkRuns = true ∧ ss_nak_at.power.mode ≠ .lockdown ∧ (ss_nak_at.slot 2).state = .ready ∧ (ss_nak_at.slot 2).gen = 2 ∧ ss_nak_at.streamReady { id := 4, state := .opened, slot := 2, maker := 5, serial := 77, hold := 2, ranges := [], content := 7 } = true ∧ ss_nak_at.boards.slots.wf noSlot = true ∧ tokenOf 11 ≠ some 2 := by decide +kernel
def ss_none_at : State := (let State.reset := { inMode State.reset .service with vault := { State.reset.vault with vaultKey := some (zeros 32), pairing := [{ index := 0, maker := 5, serial := 77, key := List.replicate 32 9 }] }, power := { (inMode State.reset .service).power with pwrOk := true, warn := false, pllSwitching := false }, tabs := { State.reset.tabs with holds := [{ id := 2, tab := some 3, first := 1, last := 3 }], holdHigh := 2 } }; { State.reset with boards := { State.reset.boards with hx := 1, lastSession := 4, sessions := [], slots := [(2, { seated := true, state := .ready, pwren := true, link := .transfer, mode := 3, ck := true, enrolled := true, manifest := some (zeros 4096), ident := some { maker := 5, serial := 77, gen := 2, modes := 7, capacityGib := 64, atomicLog2 := 4 } })] } })
theorem test_meets_ss_none : ss_none_at.sessionOn 2 = none := by decide +kernel
def ss_av_at : State := { State.reset with boards := { State.reset.boards with hx := 3 } }
theorem test_meets_ss_av : ss_av_at.boards.hx < 5 := by decide +kernel
def ss_av5_at : State := { State.reset with boards := { State.reset.boards with hx := 6 } }
theorem test_meets_ss_av5 : 5 ≤ ss_av5_at.boards.hx := by decide +kernel
def ss_open_at : State := (let State.reset := (let State.reset := { inMode State.reset .service with vault := { State.reset.vault with vaultKey := some (zeros 32), pairing := [{ index := 0, maker := 5, serial := 77, key := List.replicate 32 9 }] }, power := { (inMode State.reset .service).power with pwrOk := true, warn := false, pllSwitching := false }, tabs := { State.reset.tabs with holds := [{ id := 2, tab := some 3, first := 1, last := 3 }], holdHigh := 2 } }; { State.reset with boards := { State.reset.boards with hx := 1, lastSession := 4, sessions := [], slots := [(2, { seated := true, state := .ready, pwren := true, link := .transfer, mode := 3, ck := true, enrolled := true, manifest := some (zeros 4096), ident := some { maker := 5, serial := 77, gen := 2, modes := 7, capacityGib := 64, atomicLog2 := 4 } })] } }); { State.reset with power := { State.reset.power with mode := .holdover }, host := { State.reset.host with port0 := { State.reset.host.port0 with link := {} }, twoPorts := false }, ledger := { State.reset.ledger with rtc := 9000000, events := [] }, boards := { State.reset.boards with headlessEn := true, cards := [(0, { present := true, state := .authorised, rights := 2 })], slots := [(0, { seated := true, state := .ready, pwren := true, link := .transfer, mode := 3, ck := true, ident := some { maker := 5, serial := 77, gen := 2, modes := 7, capacityGib := 64, atomicLog2 := 4 }, enrolled := true, manifest := some (zeros 4096) })] } })
theorem test_meets_ss_open : ss_open_at.hasRight 0 1 = true ∧ ss_open_at.headlessOk = true ∧ ss_open_at.linkRuns = true ∧ ss_open_at.freshSlot 0 = true ∧ ss_open_at.tabs.holds.length < 4096 ∧ ss_open_at.eventFits 24 = true := by decide +kernel
def ss_notok_at : State := State.reset
theorem test_meets_ss_notok : ss_notok_at.headlessOk = false := by decide +kernel
def ss_ret_at : State := (let State.reset := (let State.reset := { inMode State.reset .service with vault := { State.reset.vault with vaultKey := some (zeros 32), pairing := [{ index := 0, maker := 5, serial := 77, key := List.replicate 32 9 }] }, power := { (inMode State.reset .service).power with pwrOk := true, warn := false, pllSwitching := false }, tabs := { State.reset.tabs with holds := [{ id := 2, tab := some 3, first := 1, last := 3 }], holdHigh := 2 } }; { State.reset with boards := { State.reset.boards with hx := 1, lastSession := 4, sessions := [{ id := 4, headless := true, state := .waiting, slot := 2, maker := 5, serial := 77, hold := 2, ranges := [], content := 7, removedAt := some 5 }], slots := [(2, { seated := true, state := .ready, pwren := true, link := .transfer, mode := 3, ck := true, enrolled := true, manifest := some (zeros 4096), ident := some { maker := 5, serial := 77, gen := 2, modes := 7, capacityGib := 64, atomicLog2 := 4 } })] } }); { State.reset with ledger := { State.reset.ledger with rtc := 90000000 } })
theorem test_meets_ss_ret : ss_ret_at.boards.sessions = [{ id := 4, headless := true, state := .waiting, slot := 2, maker := 5, serial := 77, hold := 2, ranges := [], content := 7, removedAt := some 5 }] := by decide +kernel
def ss_retearly_at : State := (let State.reset := (let State.reset := { inMode State.reset .service with vault := { State.reset.vault with vaultKey := some (zeros 32), pairing := [{ index := 0, maker := 5, serial := 77, key := List.replicate 32 9 }] }, power := { (inMode State.reset .service).power with pwrOk := true, warn := false, pllSwitching := false }, tabs := { State.reset.tabs with holds := [{ id := 2, tab := some 3, first := 1, last := 3 }], holdHigh := 2 } }; { State.reset with boards := { State.reset.boards with hx := 1, lastSession := 4, sessions := [{ id := 4, headless := true, state := .waiting, slot := 2, maker := 5, serial := 77, hold := 2, ranges := [], content := 7, removedAt := some 5 }], slots := [(2, { seated := true, state := .ready, pwren := true, link := .transfer, mode := 3, ck := true, enrolled := true, manifest := some (zeros 4096), ident := some { maker := 5, serial := 77, gen := 2, modes := 7, capacityGib := 64, atomicLog2 := 4 } })] } }); { State.reset with ledger := { State.reset.ledger with rtc := 7 } })
theorem test_meets_ss_retearly : ss_retearly_at.boards.sessions = [{ id := 4, headless := true, state := .waiting, slot := 2, maker := 5, serial := 77, hold := 2, ranges := [], content := 7, removedAt := some 5 }] := by decide +kernel
def ss_hx_at : State := { State.reset with boards := { State.reset.boards with hx := 7, hxBefore := 5 } }
theorem test_meets_ss_hx : ss_hx_at.boards.hx = 7 := by decide +kernel
def ss_hx3_at : State := { State.reset with boards := { State.reset.boards with hx := 7, hxBefore := 3 } }
theorem test_meets_ss_hx3 : ss_hx3_at.boards.hx = 7 := by decide +kernel
def ss_hxno_at : State := { State.reset with boards := { State.reset.boards with hx := 6 } }
theorem test_meets_ss_hxno : ss_hxno_at.boards.hx ≠ 7 := by decide +kernel
def tm_off_at : State := { State.reset with crypto := {}, tamper := {}, power := { State.reset.power with pwrOk := false } }
theorem test_meets_tm_off : 4 < 31 ∧ tm_off_at.tamper.srcs.wf Src.at_ = true ∧ tm_off_at.crypto.rows.wf noRow = true ∧ tm_off_at.mainOn = false := by decide +kernel
def tm_unarmed_at : State := (let State.reset := inMode State.reset .service; { State.reset with power := { State.reset.power with pwrOk := true, warn := false, pllSwitching := false  }, crypto := { rows := [(4, { keys := [KeySlot.of (.handle 5) (zeros 16)] })] }, guard := { State.reset.guard with passActive := true, passRights := 5 }, tamper := { State.reset.tamper with srcs := [(4, { level := 2, count := 1 , active := true })], queue := [] } })
theorem test_meets_tm_unarmed : 4 < 31 ∧ tm_unarmed_at.tamper.srcs.wf Src.at_ = true ∧ tm_unarmed_at.crypto.rows.wf noRow = true ∧ tm_unarmed_at.armed 4 = false := by decide +kernel
def tm_4_2_at : State := (let State.reset := inMode State.reset .service; { State.reset with power := { State.reset.power with pwrOk := true, warn := false, pllSwitching := false  }, crypto := { rows := [(4, { keys := [KeySlot.of (.handle 5) (zeros 16)] })] }, guard := { State.reset.guard with passActive := true, passRights := 5 }, tamper := { State.reset.tamper with srcs := [(4, { level := 2, count := 1  })], queue := [] } })
theorem test_meets_tm_4_2 : 4 < 31 ∧ tm_4_2_at.tamper.srcs.wf Src.at_ = true ∧ tm_4_2_at.crypto.rows.wf noRow = true ∧ tm_4_2_at.mainOn = true ∧ tm_4_2_at.armed 4 = true ∧ 1 ≤ (tm_4_2_at.src 4).level ∧ (tm_4_2_at.src 4).level ≤ 3 ∧ tm_4_2_at.tamper.queue.length < 256 ∧ tm_4_2_at.power.mode ≠ .lockdown ∧ (((tm_4_2_at.src 4).level = 3 → RowsIdle tm_4_2_at ∧ PoolIdle tm_4_2_at ∧ tm_4_2_at.crypto.pke.deferred = [])) := by decide +kernel
def tm_4_3_at : State := (let State.reset := inMode State.reset .service; { State.reset with power := { State.reset.power with pwrOk := true, warn := false, pllSwitching := false  }, crypto := { rows := [(4, { keys := [KeySlot.of (.handle 5) (zeros 16)] })] }, guard := { State.reset.guard with passActive := true, passRights := 5 }, tamper := { State.reset.tamper with srcs := [(4, { level := 3, count := 1  })], queue := [] } })
theorem test_meets_tm_4_3 : 4 < 31 ∧ tm_4_3_at.tamper.srcs.wf Src.at_ = true ∧ tm_4_3_at.crypto.rows.wf noRow = true ∧ tm_4_3_at.mainOn = true ∧ tm_4_3_at.armed 4 = true ∧ 1 ≤ (tm_4_3_at.src 4).level ∧ (tm_4_3_at.src 4).level ≤ 3 ∧ tm_4_3_at.tamper.queue.length < 256 ∧ tm_4_3_at.power.mode ≠ .lockdown ∧ (((tm_4_3_at.src 4).level = 3 → RowsIdle tm_4_3_at ∧ PoolIdle tm_4_3_at ∧ tm_4_3_at.crypto.pke.deferred = [])) := by decide +kernel
def tm_4_at : State := (let State.reset := inMode State.reset .service; { State.reset with power := { State.reset.power with pwrOk := true, warn := false, pllSwitching := false  }, crypto := { rows := [(4, { keys := [KeySlot.of (.handle 5) (zeros 16)] })] }, guard := { State.reset.guard with passActive := true, passRights := 5 }, tamper := { State.reset.tamper with srcs := [(25, { level := 4, count := 1  })], queue := [] } })
theorem test_meets_tm_4 : 25 < 31 ∧ tm_4_at.tamper.srcs.wf Src.at_ = true ∧ tm_4_at.crypto.rows.wf noRow = true ∧ tm_4_at.mainOn = true ∧ tm_4_at.armed 25 = true ∧ (tm_4_at.src 25).level = 4 ∧ tm_4_at.power.mode ≠ .lockdown := by decide +kernel
def tm_5_at : State := (let State.reset := inMode State.reset .service; { State.reset with power := { State.reset.power with pwrOk := true, warn := false, pllSwitching := false  }, crypto := { rows := [(4, { keys := [KeySlot.of (.handle 5) (zeros 16)] })] }, guard := { State.reset.guard with passActive := true, passRights := 5 }, tamper := { State.reset.tamper with srcs := [(4, { level := 5, count := 1  })], queue := [] } })
theorem test_meets_tm_5 : 4 < 31 ∧ tm_5_at.tamper.srcs.wf Src.at_ = true ∧ tm_5_at.crypto.rows.wf noRow = true ∧ tm_5_at.mainOn = true ∧ tm_5_at.armed 4 = true ∧ (tm_5_at.src 4).level = 5 ∧ tm_5_at.power.warn = false := by decide +kernel
def tm_lock_at : State := (let State.reset := inMode State.reset .lockdown; { State.reset with power := { State.reset.power with pwrOk := true, warn := false, pllSwitching := false  }, crypto := { rows := [(4, { keys := [KeySlot.of (.handle 5) (zeros 16)] })] }, guard := { State.reset.guard with passActive := true, passRights := 5 }, tamper := { State.reset.tamper with srcs := [(4, { level := 4, count := 1  })], queue := [] } })
theorem test_meets_tm_lock : 4 < 31 ∧ tm_lock_at.tamper.srcs.wf Src.at_ = true ∧ tm_lock_at.crypto.rows.wf noRow = true ∧ tm_lock_at.mainOn = true ∧ tm_lock_at.armed 4 = true ∧ (tm_lock_at.src 4).level = 4 ∧ tm_lock_at.power.mode = .lockdown ∧ tm_lock_at.tamper.queue.length < 256 := by decide +kernel
def pr_lock_at : State := (let State.reset := (let State.reset := inMode State.reset .service; { State.reset with power := { State.reset.power with pwrOk := true, warn := false, pllSwitching := false  }, crypto := { rows := [(4, { keys := [KeySlot.of (.handle 5) (zeros 16)] })] }, guard := { State.reset.guard with passActive := true, passRights := 5 }, tamper := { State.reset.tamper with srcs := [(4, { level := 2, count := 1 , debounce := 3, active := true })], queue := [] } }); { State.reset with tamper := { State.reset.tamper with lock := false }, guard := { State.reset.guard with otp := { State.reset.guard.otp with fuses := 0 } } })
theorem test_meets_pr_lock : pr_lock_at.tamper.srcs.wf Src.at_ = true ∧ pr_lock_at.power.mode ≠ .lockdown := by decide +kernel
def pr_nolock_at : State := (let State.reset := (let State.reset := inMode State.reset .lockdown; { State.reset with power := { State.reset.power with pwrOk := true, warn := false, pllSwitching := false  }, crypto := { rows := [(4, { keys := [KeySlot.of (.handle 5) (zeros 16)] })] }, guard := { State.reset.guard with passActive := true, passRights := 5 }, tamper := { State.reset.tamper with srcs := [(4, { level := 2, count := 1 , debounce := 3, active := true })], queue := [] } }); { State.reset with tamper := { State.reset.tamper with lock := false }, guard := { State.reset.guard with otp := { State.reset.guard.otp with fuses := 0 } } })
theorem test_meets_pr_nolock : pr_nolock_at.tamper.srcs.wf Src.at_ = true ∧ pr_nolock_at.power.mode = .lockdown := by decide +kernel
def pr_fused_at : State := (let State.reset := (let State.reset := inMode State.reset .service; { State.reset with power := { State.reset.power with pwrOk := true, warn := false, pllSwitching := false  }, crypto := { rows := [(4, { keys := [KeySlot.of (.handle 5) (zeros 16)] })] }, guard := { State.reset.guard with passActive := true, passRights := 5 }, tamper := { State.reset.tamper with srcs := [(4, { level := 2, count := 1 , debounce := 3, active := true })], queue := [] } }); { State.reset with tamper := { State.reset.tamper with lock := false }, guard := { State.reset.guard with otp := { State.reset.guard.otp with fuses := 16 } } })
theorem test_meets_pr_fused : pr_fused_at.tamper.srcs.wf Src.at_ = true ∧ (pr_fused_at.power.mode = .lockdown ∨ pr_fused_at.guard.otp.fuses.getLsbD 4 = true) := by decide +kernel
def pr_lower_at : State := (let State.reset := (let State.reset := inMode State.reset .service; { State.reset with power := { State.reset.power with pwrOk := true, warn := false, pllSwitching := false  }, crypto := { rows := [(4, { keys := [KeySlot.of (.handle 5) (zeros 16)] })] }, guard := { State.reset.guard with passActive := true, passRights := 5 }, tamper := { State.reset.tamper with srcs := [(4, { level := 3, count := 1 , debounce := 3, active := true })], queue := [] } }); { State.reset with tamper := { State.reset.tamper with lock := true }, guard := { State.reset.guard with otp := { State.reset.guard.otp with fuses := 0 } } })
theorem test_meets_pr_lower : pr_lower_at.tamper.srcs.wf Src.at_ = true ∧ pr_lower_at.tamper.lock = true ∧ (0x50000000 : BitVec 32).toNat / 2 ^ 29 < (pr_lower_at.src 4).level ∧ (0x50000000 : BitVec 32).toNat / 2 ^ 29 < 4 := by decide +kernel
def pr_set0_at : State := (let State.reset := (let State.reset := inMode State.reset .service; { State.reset with power := { State.reset.power with pwrOk := true, warn := false, pllSwitching := false  }, crypto := { rows := [(4, { keys := [KeySlot.of (.handle 5) (zeros 16)] })] }, guard := { State.reset.guard with passActive := true, passRights := 5 }, tamper := { State.reset.tamper with srcs := [(4, { level := 2, count := 1 , debounce := 3, active := true })], queue := [] } }); { State.reset with tamper := { State.reset.tamper with lock := false }, guard := { State.reset.guard with otp := { State.reset.guard.otp with fuses := 0 } } })
theorem test_meets_pr_set0 : pr_set0_at.tamper.srcs.wf Src.at_ = true ∧ pr_set0_at.power.mode ≠ .lockdown ∧ pr_set0_at.guard.otp.fuses.getLsbD 4 = false ∧ pr_set0_at.tamper.lock = false ∧ (0x90FF0000 : BitVec 32).toNat / 2 ^ 29 < 5 ∧ (0x90FF0000 : BitVec 32).toNat / 2 ^ 29 ≠ (pr_set0_at.src 4).level ∧ pr_set0_at.tamper.queue.length < 256 := by decide +kernel
def pr_set1_at : State := (let State.reset := (let State.reset := inMode State.reset .service; { State.reset with power := { State.reset.power with pwrOk := true, warn := false, pllSwitching := false  }, crypto := { rows := [(4, { keys := [KeySlot.of (.handle 5) (zeros 16)] })] }, guard := { State.reset.guard with passActive := true, passRights := 5 }, tamper := { State.reset.tamper with srcs := [(9, { level := 2, count := 1 , debounce := 3, active := true })], queue := [] } }); { State.reset with tamper := { State.reset.tamper with lock := false }, guard := { State.reset.guard with otp := { State.reset.guard.otp with fuses := 0 } } })
theorem test_meets_pr_set1 : pr_set1_at.tamper.srcs.wf Src.at_ = true ∧ pr_set1_at.power.mode ≠ .lockdown ∧ pr_set1_at.guard.otp.fuses.getLsbD 9 = false ∧ pr_set1_at.tamper.lock = false ∧ (0x10020000 : BitVec 32).toNat / 2 ^ 29 < 5 ∧ (0x10020000 : BitVec 32).toNat / 2 ^ 29 ≠ (pr_set1_at.src 9).level ∧ pr_set1_at.tamper.queue.length < 256 := by decide +kernel
def pr_set2_at : State := (let State.reset := (let State.reset := inMode State.reset .service; { State.reset with power := { State.reset.power with pwrOk := true, warn := false, pllSwitching := false  }, crypto := { rows := [(4, { keys := [KeySlot.of (.handle 5) (zeros 16)] })] }, guard := { State.reset.guard with passActive := true, passRights := 5 }, tamper := { State.reset.tamper with srcs := [(25, { level := 2, count := 1 , debounce := 3, active := true })], queue := [] } }); { State.reset with tamper := { State.reset.tamper with lock := false }, guard := { State.reset.guard with otp := { State.reset.guard.otp with fuses := 0 } } })
theorem test_meets_pr_set2 : pr_set2_at.tamper.srcs.wf Src.at_ = true ∧ pr_set2_at.power.mode ≠ .lockdown ∧ pr_set2_at.guard.otp.fuses.getLsbD 25 = false ∧ pr_set2_at.tamper.lock = false ∧ (0x70FF0000 : BitVec 32).toNat / 2 ^ 29 < 5 ∧ (0x70FF0000 : BitVec 32).toNat / 2 ^ 29 ≠ (pr_set2_at.src 25).level ∧ pr_set2_at.tamper.queue.length < 256 := by decide +kernel
def pr_set4_at : State := (let State.reset := (let State.reset := inMode State.reset .service; { State.reset with power := { State.reset.power with pwrOk := true, warn := false, pllSwitching := false  }, crypto := { rows := [(4, { keys := [KeySlot.of (.handle 5) (zeros 16)] })] }, guard := { State.reset.guard with passActive := true, passRights := 5 }, tamper := { State.reset.tamper with srcs := [(10, { level := 2, count := 1 , debounce := 3, active := true })], queue := [] } }); { State.reset with tamper := { State.reset.tamper with lock := false }, guard := { State.reset.guard with otp := { State.reset.guard.otp with fuses := 0 } } })
theorem test_meets_pr_set4 : pr_set4_at.tamper.srcs.wf Src.at_ = true ∧ pr_set4_at.power.mode ≠ .lockdown ∧ pr_set4_at.guard.otp.fuses.getLsbD 10 = false ∧ pr_set4_at.tamper.lock = false ∧ (0x90FF0000 : BitVec 32).toNat / 2 ^ 29 < 5 ∧ (0x90FF0000 : BitVec 32).toNat / 2 ^ 29 ≠ (pr_set4_at.src 10).level ∧ pr_set4_at.tamper.queue.length < 256 := by decide +kernel
def pr_kill_true_at : State := (let State.reset := (let State.reset := (let State.reset := inMode State.reset .service; { State.reset with power := { State.reset.power with pwrOk := true, warn := false, pllSwitching := false  }, crypto := { rows := [(4, { keys := [KeySlot.of (.handle 5) (zeros 16)] })] }, guard := { State.reset.guard with passActive := true, passRights := 5 }, tamper := { State.reset.tamper with srcs := [(4, { level := 2, count := 1 , debounce := 3, active := true })], queue := [] } }); { State.reset with tamper := { State.reset.tamper with lock := false }, guard := { State.reset.guard with otp := { State.reset.guard.otp with fuses := 0 } } }); { State.reset with guard := { State.reset.guard with otp := { State.reset.guard.otp with killAllowed := true } } })
theorem test_meets_pr_kill_true : pr_kill_true_at.tamper.srcs.wf Src.at_ = true ∧ (0xA0000000 : BitVec 32).toNat / 2 ^ 29 = 5 ∧ pr_kill_true_at.power.mode ≠ .lockdown ∧ pr_kill_true_at.guard.otp.fuses.getLsbD 4 = false ∧ pr_kill_true_at.tamper.lock = false := by decide +kernel
def pr_kill_false_at : State := (let State.reset := (let State.reset := (let State.reset := inMode State.reset .service; { State.reset with power := { State.reset.power with pwrOk := true, warn := false, pllSwitching := false  }, crypto := { rows := [(4, { keys := [KeySlot.of (.handle 5) (zeros 16)] })] }, guard := { State.reset.guard with passActive := true, passRights := 5 }, tamper := { State.reset.tamper with srcs := [(4, { level := 2, count := 1 , debounce := 3, active := true })], queue := [] } }); { State.reset with tamper := { State.reset.tamper with lock := false }, guard := { State.reset.guard with otp := { State.reset.guard.otp with fuses := 0 } } }); { State.reset with guard := { State.reset.guard with otp := { State.reset.guard.otp with killAllowed := false } } })
theorem test_meets_pr_kill_false : pr_kill_false_at.tamper.srcs.wf Src.at_ = true ∧ (0xA0000000 : BitVec 32).toNat / 2 ^ 29 = 5 ∧ pr_kill_false_at.power.mode ≠ .lockdown ∧ pr_kill_false_at.guard.otp.fuses.getLsbD 4 = false ∧ pr_kill_false_at.tamper.lock = false := by decide +kernel
def bk_no_at : State := { inMode State.reset .service with tamper := {} }
theorem test_meets_bk_no : 4 ≤ 9 ∧ bk_no_at.tamper.srcs.wf Src.at_ = true ∧ bk_no_at.power.mode ≠ .backup := by decide +kernel
def bk_9_true_at : State := (let State.reset := (let State.reset := inMode State.reset .backup; { State.reset with power := { State.reset.power with pwrOk := true, warn := false, pllSwitching := false , vbat := true }, crypto := { rows := [(4, { keys := [KeySlot.of (.handle 5) (zeros 16)] })] }, guard := { State.reset.guard with passActive := true, passRights := 5 }, tamper := { State.reset.tamper with srcs := [(9, { level := 2, count := 1 , backupErase := true })], queue := [] } }); { State.reset with power := { State.reset.power with pwrOk := false }, vault := { State.reset.vault with enclosure := some (zeros 32) }, tamper := { State.reset.tamper with ring := [] } })
theorem test_meets_bk_9_true : 9 ≤ 9 ∧ bk_9_true_at.tamper.srcs.wf Src.at_ = true ∧ bk_9_true_at.power.mode = .backup ∧ bk_9_true_at.armed 9 = true ∧ bk_9_true_at.tamper.ring.length < 16 := by decide +kernel
def bk_9_false_at : State := (let State.reset := (let State.reset := inMode State.reset .backup; { State.reset with power := { State.reset.power with pwrOk := true, warn := false, pllSwitching := false , vbat := true }, crypto := { rows := [(4, { keys := [KeySlot.of (.handle 5) (zeros 16)] })] }, guard := { State.reset.guard with passActive := true, passRights := 5 }, tamper := { State.reset.tamper with srcs := [(9, { level := 2, count := 1 , backupErase := false })], queue := [] } }); { State.reset with power := { State.reset.power with pwrOk := false }, vault := { State.reset.vault with enclosure := some (zeros 32) }, tamper := { State.reset.tamper with ring := [] } })
theorem test_meets_bk_9_false : 9 ≤ 9 ∧ bk_9_false_at.tamper.srcs.wf Src.at_ = true ∧ bk_9_false_at.power.mode = .backup ∧ bk_9_false_at.armed 9 = true ∧ bk_9_false_at.tamper.ring.length < 16 := by decide +kernel
def cl_4_at : State := (let State.reset := inMode State.reset .service; { State.reset with power := { State.reset.power with pwrOk := true, warn := false, pllSwitching := false  }, crypto := { rows := [(4, { keys := [KeySlot.of (.handle 5) (zeros 16)] })] }, guard := { State.reset.guard with passActive := true, passRights := 5 }, tamper := { State.reset.tamper with srcs := [(4, { level := 2, count := 1 , active := true })], queue := [] } })
theorem test_meets_cl_4 : 4 ≤ 9 ∧ cl_4_at.tamper.srcs.wf Src.at_ = true := by decide +kernel
def fl_ok_at : State := { withFlash State.reset with tamper := { queue := [{ seq := 1, time := 5, source := 2, level := 2, mode := 1 }] } }
theorem test_meets_fl_ok : 4 ≤ 9 ∧ fl_ok_at.tamper.srcs.wf Src.at_ = true ∧ fl_ok_at.areaOk = true ∧ fl_ok_at.tamper.log.length + fl_ok_at.tamper.queue.length ≤ 65536 ∧ fl_ok_at.fault.log.length + fl_ok_at.fault.queue.length ≤ 65536 := by decide +kernel
def fl_no_at : State := { State.reset with flash := {}, tamper := {} }
theorem test_meets_fl_no : 4 ≤ 9 ∧ fl_no_at.tamper.srcs.wf Src.at_ = true ∧ fl_no_at.areaOk = false := by decide +kernel
def uf_lockstepMismatch_at : State := withTk ((let State.reset := inMode State.reset .service; { State.reset with power := { State.reset.power with pwrOk := true, warn := false, pllSwitching := false  }, tamper := { State.reset.tamper with mismatches := [], queue := [] }, units := { State.reset.units with st := [], spareFor := [], items := [{ ticket := 7, unit := 0x3042, vm := { pc := 3, cycles := 11, worst := 10 } }] }, crypto := { rows := [], pke := {} } })) ({ tkOf 1 3 [] [] with stage := .running, tab := some 3, stall := some 0x3042, applet := some { code := [0, 0, 0, 0] }, templ := some {} })
theorem test_meets_uf_lockstepMismatch : 4 < 64 ∧ 2 < 8 ∧ uf_lockstepMismatch_at.units.st.wf UnitSt.reset = true ∧ uf_lockstepMismatch_at.units.spareFor.wf noSpare = true ∧ uf_lockstepMismatch_at.power.pllSwitching = false ∧ (uf_lockstepMismatch_at.unitSt (stallAddr 4 2)).state = .active ∧ (uf_lockstepMismatch_at.unitSt (stallAddr 4 8)).state = .idle ∧ uf_lockstepMismatch_at.units.items = [{ ticket := 7, unit := 0x3042, vm := { pc := 3, cycles := 11, worst := 10 } }] ∧ stallAddr 4 2 = 0x3042 ∧ uf_lockstepMismatch_at.tk? 7 = some ({ tkOf 1 3 [] [] with stage := .running, tab := some 3, stall := some 0x3042, applet := some { code := [0, 0, 0, 0] }, templ := some {} }) ∧ ({ tkOf 1 3 [] [] with stage := .running, tab := some 3, stall := some 0x3042, applet := some { code := [0, 0, 0, 0] }, templ := some {} }).reruns = 0 ∧ uf_lockstepMismatch_at.tamper.mismatches = [] ∧ 1 < uf_lockstepMismatch_at.tamper.lockstepCount ∧ ({ ticket := 7, unit := 0x3042, vm := { pc := 3, cycles := 11, worst := 10 } } : Item).vm.worst < ({ ticket := 7, unit := 0x3042, vm := { pc := 3, cycles := 11, worst := 10 } } : Item).vm.cycles := by decide +kernel
def uf_worstCaseOverrun_at : State := withTk ((let State.reset := inMode State.reset .service; { State.reset with power := { State.reset.power with pwrOk := true, warn := false, pllSwitching := false  }, tamper := { State.reset.tamper with mismatches := [], queue := [] }, units := { State.reset.units with st := [], spareFor := [], items := [{ ticket := 7, unit := 0x3042, vm := { pc := 3, cycles := 11, worst := 10 } }] }, crypto := { rows := [], pke := {} } })) ({ tkOf 1 3 [] [] with stage := .running, tab := some 3, stall := some 0x3042, applet := some { code := [0, 0, 0, 0] }, templ := some {} })
theorem test_meets_uf_worstCaseOverrun : 4 < 64 ∧ 2 < 8 ∧ uf_worstCaseOverrun_at.units.st.wf UnitSt.reset = true ∧ uf_worstCaseOverrun_at.units.spareFor.wf noSpare = true ∧ uf_worstCaseOverrun_at.power.pllSwitching = false ∧ (uf_worstCaseOverrun_at.unitSt (stallAddr 4 2)).state = .active ∧ (uf_worstCaseOverrun_at.unitSt (stallAddr 4 8)).state = .idle ∧ uf_worstCaseOverrun_at.units.items = [{ ticket := 7, unit := 0x3042, vm := { pc := 3, cycles := 11, worst := 10 } }] ∧ stallAddr 4 2 = 0x3042 ∧ uf_worstCaseOverrun_at.tk? 7 = some ({ tkOf 1 3 [] [] with stage := .running, tab := some 3, stall := some 0x3042, applet := some { code := [0, 0, 0, 0] }, templ := some {} }) ∧ ({ tkOf 1 3 [] [] with stage := .running, tab := some 3, stall := some 0x3042, applet := some { code := [0, 0, 0, 0] }, templ := some {} }).reruns = 0 ∧ uf_worstCaseOverrun_at.tamper.mismatches = [] ∧ 1 < uf_worstCaseOverrun_at.tamper.lockstepCount ∧ ({ ticket := 7, unit := 0x3042, vm := { pc := 3, cycles := 11, worst := 10 } } : Item).vm.worst < ({ ticket := 7, unit := 0x3042, vm := { pc := 3, cycles := 11, worst := 10 } } : Item).vm.cycles := by decide +kernel
def uf_back_at : State := (let State.reset := inMode State.reset .service; { State.reset with power := { State.reset.power with pwrOk := true, warn := false, pllSwitching := false  }, tamper := { State.reset.tamper with mismatches := [], queue := [] }, units := { State.reset.units with st := [(stallAddr 4 2, { state := .faulted, faults := 1 }), (stallAddr 4 8, { state := .standingIn })], spareFor := [(rowAddr 4, 2)], items := [] }, crypto := { rows := [], pke := {} } })
theorem test_meets_uf_back : 4 < 64 ∧ 2 < 8 ∧ uf_back_at.units.st.wf UnitSt.reset = true ∧ uf_back_at.units.spareFor.wf noSpare = true ∧ uf_back_at.power.pllSwitching = false ∧ (uf_back_at.unitSt (stallAddr 4 2)).state = .faulted ∧ (uf_back_at.unitSt (stallAddr 4 8)).state = .standingIn ∧ uf_back_at.spareFor (rowAddr 4) = 2 ∧ uf_back_at.units.items = [] ∧ (∀ j, j < 8 → j ≠ 2 → (uf_back_at.unitSt (stallAddr 4 j)).state = .active) := by decide +kernel
def uf_ret_at : State := (let State.reset := inMode State.reset .service; { State.reset with power := { State.reset.power with pwrOk := true, warn := false, pllSwitching := false  }, tamper := { State.reset.tamper with mismatches := [], queue := [] }, units := { State.reset.units with st := [(stallAddr 4 2, { state := .faulted, faults := 1 }), (stallAddr 4 8, { state := .standingIn })], spareFor := [(rowAddr 4, 2)], items := [] }, crypto := { rows := [], pke := {} } })
theorem test_meets_uf_ret : 4 < 64 ∧ 2 < 8 ∧ uf_ret_at.units.st.wf UnitSt.reset = true ∧ uf_ret_at.units.spareFor.wf noSpare = true ∧ uf_ret_at.power.pllSwitching = false ∧ (uf_ret_at.unitSt (stallAddr 4 2)).state = .faulted ∧ (uf_ret_at.unitSt (stallAddr 4 8)).state = .standingIn ∧ uf_ret_at.spareFor (rowAddr 4) = 2 := by decide +kernel
def uf_dead_at : State := (let State.reset := inMode State.reset .service; { State.reset with power := { State.reset.power with pwrOk := true, warn := false, pllSwitching := false  }, tamper := { State.reset.tamper with mismatches := [], queue := [] }, units := { State.reset.units with st := [(stallAddr 4 2, { state := .retired })], spareFor := [], items := [] }, crypto := { rows := [], pke := {} } })
theorem test_meets_uf_dead : 4 < 64 ∧ 2 < 8 ∧ uf_dead_at.units.st.wf UnitSt.reset = true ∧ uf_dead_at.units.spareFor.wf noSpare = true ∧ uf_dead_at.power.pllSwitching = false ∧ (uf_dead_at.unitSt (stallAddr 4 2)).state = .retired := by decide +kernel
def uf_chkc_at : State := (let State.reset := inMode State.reset .service; { State.reset with power := { State.reset.power with pwrOk := true, warn := false, pllSwitching := false  }, tamper := { State.reset.tamper with mismatches := [], queue := [] }, units := { State.reset.units with st := [], spareFor := [], items := [] }, crypto := { rows := [(4, { keys := [{ src := .handle 5, key := zeros 16, h := [], k1 := [], k2 := [] }] })], pke := {} } })
theorem test_meets_uf_chkc : 4 < 64 ∧ uf_chkc_at.units.st.wf UnitSt.reset = true ∧ RowsIdle uf_chkc_at ∧ PoolIdle uf_chkc_at ∧ (uf_chkc_at.unitSt (cipherAddr 4)).state = .active ∧ (uf_chkc_at.rowEng 4).cipherOpen = [] ∧ (uf_chkc_at.rowEng 4).hashOpen = [] := by decide +kernel
def uf_chkh_at : State := (let State.reset := inMode State.reset .service; { State.reset with power := { State.reset.power with pwrOk := true, warn := false, pllSwitching := false  }, tamper := { State.reset.tamper with mismatches := [], queue := [] }, units := { State.reset.units with st := [], spareFor := [], items := [] }, crypto := { rows := [(4, { keys := [{ src := .handle 5, key := zeros 16, h := [], k1 := [], k2 := [] }] })], pke := {} } })
theorem test_meets_uf_chkh : 4 < 64 ∧ uf_chkh_at.units.st.wf UnitSt.reset = true ∧ RowsIdle uf_chkh_at ∧ PoolIdle uf_chkh_at ∧ (uf_chkh_at.unitSt (hashAddr 4)).state = .active ∧ (uf_chkh_at.rowEng 4).cipherOpen = [] ∧ (uf_chkh_at.rowEng 4).hashOpen = [] := by decide +kernel
def uf_led_at : State := (let State.reset := inMode State.reset .service; { State.reset with power := { State.reset.power with pwrOk := true, warn := false, pllSwitching := false  }, tamper := { State.reset.tamper with mismatches := [], queue := [] }, units := { State.reset.units with st := [], spareFor := [], items := [] }, crypto := { rows := [(4, { keys := [{ src := .handle 5, key := zeros 16, h := [], k1 := [], k2 := [] }] })], pke := {} } })
theorem test_meets_uf_led : 4 < 64 ∧ uf_led_at.units.st.wf UnitSt.reset = true ∧ RowsIdle uf_led_at ∧ PoolIdle uf_led_at ∧ (uf_led_at.unitSt 0x7003).state = .active := by decide +kernel
def uf_pke_at : State := (let State.reset := inMode State.reset .service; { State.reset with power := { State.reset.power with pwrOk := true, warn := false, pllSwitching := false  }, tamper := { State.reset.tamper with mismatches := [], queue := [] }, units := { State.reset.units with st := [], spareFor := [], items := [] }, crypto := { rows := [(4, { keys := [{ src := .handle 5, key := zeros 16, h := [], k1 := [], k2 := [] }] })], pke := {} } })
theorem test_meets_uf_pke : 4 < 64 ∧ uf_pke_at.units.st.wf UnitSt.reset = true ∧ RowsIdle uf_pke_at ∧ PoolIdle uf_pke_at ∧ (uf_pke_at.unitSt 0x6003).state = .active := by decide +kernel
def uf_ssc_at : State := (let State.reset := inMode State.reset .service; { State.reset with power := { State.reset.power with pwrOk := true, warn := false, pllSwitching := false  }, tamper := { State.reset.tamper with mismatches := [], queue := [] }, units := { State.reset.units with st := [(cipherAddr 4, { state := .faulted })], spareFor := [], items := [] }, crypto := { rows := [], pke := {} } })
theorem test_meets_uf_ssc : 4 < 64 ∧ uf_ssc_at.units.st.wf UnitSt.reset = true ∧ RowsIdle uf_ssc_at ∧ PoolIdle uf_ssc_at ∧ (uf_ssc_at.unitSt (cipherAddr 4)).state = .faulted ∧ failedOf (shortBits ((cipherAddr 4) / 4096)) 0 = 0 ∧ failedOf (shortBits ((cipherAddr 4) / 4096)) 3 ≠ 0 := by decide +kernel
def rs_powerLoss_true_at : State := (let State.reset := inMode State.reset .service; { State.reset with power := { State.reset.power with pwrOk := true, vbat := true }, guard := { State.reset.guard with transition := none } })
theorem test_meets_rs_powerLoss_true : rs_powerLoss_true_at.power.pwrOk = true ∧ rs_powerLoss_true_at.mainOn = true ∧ rs_powerLoss_true_at.guard.transition = none := by decide +kernel
def rs_powerLoss_false_at : State := (let State.reset := inMode State.reset .service; { State.reset with power := { State.reset.power with pwrOk := true, vbat := false }, guard := { State.reset.guard with transition := none } })
theorem test_meets_rs_powerLoss_false : rs_powerLoss_false_at.power.pwrOk = true ∧ rs_powerLoss_false_at.mainOn = true ∧ rs_powerLoss_false_at.guard.transition = none := by decide +kernel
def rs_pend_at : State := (let State.reset := inMode State.reset .service; (let State.reset := { State.reset with power := { State.reset.power with pwrOk := true } }; { State.reset with guard := { State.reset.guard with transition := some { kind := 2, target := 4, phase := 2 } } }))
theorem test_meets_rs_pend : rs_pend_at.mainOn = true ∧ rs_pend_at.guard.transition.any (fun t => decide (2 ≤ t.phase)) = true := by decide +kernel
def rs_vb_at : State := (let State.reset := inMode State.reset .service; { State.reset with tamper := { State.reset.tamper with srcs := [(8, { level := 2, active := true })] }, power := { State.reset.power with pwrOk := true, vbat := true } })
theorem test_meets_rs_vb : rs_vb_at.power.pwrOk = true ∧ (rs_vb_at.mainOn = false ∨ rs_vb_at.armed 8 = false) := by decide +kernel
def rs_vb8_at : State := (let State.reset := inMode State.reset .service; { State.reset with tamper := { State.reset.tamper with srcs := [(8, { level := 2, count := 4 })] }, power := { State.reset.power with pwrOk := true, vbat := true } })
theorem test_meets_rs_vb8 : rs_vb8_at.mainOn = true ∧ rs_vb8_at.armed 8 = true ∧ (rs_vb8_at.src 8).level ≤ 2 ∧ rs_vb8_at.tamper.srcs.wf Src.at_ = true := by decide +kernel
def rs_vbl_at : State := { inMode State.reset .backup with power := { State.reset.power with pwrOk := false, vbat := true, mode := .backup } }
theorem test_meets_rs_vbl : rs_vbl_at.power.pwrOk = false := by decide +kernel
def rs_vba_at : State := { State.reset with power := { State.reset.power with pwrOk := false, mode := .off } }
theorem test_meets_rs_vba : rs_vba_at.power.pwrOk = false ∧ rs_vba_at.power.mode = .off := by decide +kernel
def su_warn_at : State := (let State.reset := (let State.reset := inMode State.reset .service; { State.reset with tamper := { State.reset.tamper with falls := [] }, flash := { State.reset.flash with targets := [], overdue := [] }, crypto := {} }); { State.reset with power := { State.reset.power with pwrOk := true, warn := false, dips := 4 } })
theorem test_meets_su_warn : su_warn_at.mainOn = true ∧ su_warn_at.power.warn = false ∧ su_warn_at.tamper.falls = [] ∧ su_warn_at.power.dips < 2 ^ 32 - 1 ∧ su_warn_at.crypto.pke.engines.wf noPke = true := by decide +kernel
def su_warn2_at : State := (let State.reset := State.reset; { State.reset with power := { State.reset.power with warn := true } })
theorem test_meets_su_warn2 : su_warn2_at.power.warn = true := by decide +kernel
def su_rel_at : State := (let State.reset := (let State.reset := inMode State.reset .service; { State.reset with tamper := { State.reset.tamper with falls := [] }, flash := { State.reset.flash with targets := [], overdue := [] }, crypto := {} }); { State.reset with power := { State.reset.power with warn := true } })
theorem test_meets_su_rel : su_rel_at.power.warn = true ∧ 1000 ≤ 1000 ∧ RowsIdle su_rel_at ∧ PoolIdle su_rel_at ∧ FlashIdle su_rel_at := by decide +kernel
def su_rel2_at : State := (let State.reset := State.reset; { State.reset with power := { State.reset.power with warn := false } })
theorem test_meets_su_rel2 : su_rel2_at.power.warn = false := by decide +kernel
def su_row_at : State := { inMode State.reset .rest with units := { State.reset.units with items := [] }, host := { State.reset.host with tickets := [] }, crypto := { State.reset.crypto with rows := [] }, power := { State.reset.power with pwrOk := true, mode := .rest, rowsGated := [3], groupGated := 0 } }
theorem test_meets_su_row : su_row_at.mainOn = true ∧ su_row_at.power.mode = .rest ∧ su_row_at.units.items = [] ∧ su_row_at.host.tickets = [] ∧ (su_row_at.rowEng 5).cipherOpen = [] ∧ (su_row_at.rowEng 5).hashOpen = [] ∧ su_row_at.power.rowsGated.contains 5 = false := by decide +kernel
def su_rowno_at : State := inMode State.reset .service
theorem test_meets_su_rowno : su_rowno_at.power.mode ≠ .rest := by decide +kernel
def su_grp_at : State := { withFlash ({ inMode State.reset .rest with units := { State.reset.units with items := [] }, host := { State.reset.host with tickets := [] }, crypto := { State.reset.crypto with rows := [] }, power := { State.reset.power with pwrOk := true, mode := .rest, rowsGated := [3], groupGated := 0 } }) with flash := { (withFlash State.reset).flash with chans := [(8, { state := .active })] } }
theorem test_meets_su_grp : su_grp_at.mainOn = true ∧ su_grp_at.mayGate 1 = true ∧ su_grp_at.power.groupGated.getLsbD 1 = false ∧ su_grp_at.flash.chans.wf noChan = true := by decide +kernel
def su_sys_at : State := (let State.reset := { State.reset with tamper := { State.reset.tamper with srcs := [(22, { level := 2, count := 1 }), (23, { level := 1, count := 1 })] } }; { State.reset with power := { State.reset.power with pwrOk := true, sysclkBackup := false, warn := false } })
theorem test_meets_su_sys : su_sys_at.mainOn = true ∧ su_sys_at.power.sysclkBackup = false ∧ (su_sys_at.src 22).level ≤ 2 ∧ (su_sys_at.src 23).level ≤ 2 := by decide +kernel
def su_res_at : State := (let State.reset := (let State.reset := inMode State.reset .service; { State.reset with ledger := { State.reset.ledger with boundaryHeld := false }, units := { State.reset.units with items := [] }, crypto := {}, flash := { State.reset.flash with targets := [], overdue := [] } }); { State.reset with power := { State.reset.power with pllSwitching := true, warn := false } })
theorem test_meets_su_res : su_res_at.power.pllSwitching = true ∧ su_res_at.ledger.boundaryHeld = false ∧ su_res_at.units.items = [] ∧ RowsIdle su_res_at ∧ PoolIdle su_res_at ∧ FlashIdle su_res_at := by decide +kernel
def su_rec_at : State := State.reset
theorem test_meets_su_rec : 69 ∉ hCrossings ∧ hCrossings.headD 0 ∈ hCrossings ∧ (7 : BitVec 16) ≠ 0 := by decide +kernel
def st_no_at : State := { State.reset with dev := { State.reset.dev with ready := true } }
theorem test_meets_st_no : (st_no_at.dev.ready = true ∨ 20 ≤ st_no_at.lifeCount ∨ st_no_at.power.warn = true) := by decide +kernel
def st_blank_at : State := (let State.reset := State.reset; { State.reset with dev := { State.reset.dev with ready := false, stage := 1, holdCause := 0  }, power := { State.reset.power with pwrOk := true, warn := false }, guard := { State.reset.guard with transition := none, otp := { State.reset.guard.otp with counter := BitVec.ofNat 128 (4 ^ 1 - 1) } } })
theorem test_meets_st_blank : st_blank_at.dev.ready = false ∧ st_blank_at.power.warn = false ∧ 1 ≤ st_blank_at.dev.stage ∧ st_blank_at.guard.otp.consistent = true ∧ st_blank_at.guard.otp.torn = none ∧ st_blank_at.lifeCount < 2 := by decide +kernel
def st_noarr_at : State := (let State.reset := { ({ State.reset with ddr := { State.reset.ddr with state := .ready, err := 0 }, units := { State.reset.units with st := [] } }) with flash := {} }; { State.reset with dev := { State.reset.dev with ready := false, stage := 1, holdCause := 0  }, power := { State.reset.power with pwrOk := true, warn := false }, guard := { State.reset.guard with transition := none, otp := { State.reset.guard.otp with counter := BitVec.ofNat 128 (4 ^ 2 - 1) } } })
theorem test_meets_st_noarr : st_noarr_at.dev.ready = false ∧ st_noarr_at.power.warn = false ∧ 1 ≤ st_noarr_at.dev.stage ∧ st_noarr_at.guard.otp.consistent = true ∧ st_noarr_at.guard.otp.torn = none ∧ st_noarr_at.lifeCount = 2 ∧ st_noarr_at.ddr.state = .ready ∧ st_noarr_at.ddr.err = 0 ∧ st_noarr_at.hashersWorking ≠ [] ∧ st_noarr_at.pkeWorking ≠ [] ∧ st_noarr_at.flash.desc = [] := by decide +kernel
def st_fw_at : State := (let State.reset := withFlash ({ State.reset with ddr := { State.reset.ddr with state := .ready, err := 0 }, units := { State.reset.units with st := [] } }); { State.reset with dev := { State.reset.dev with ready := false, stage := 1, holdCause := 0  }, power := { State.reset.power with pwrOk := true, warn := false }, guard := { State.reset.guard with transition := none, otp := { State.reset.guard.otp with counter := BitVec.ofNat 128 (4 ^ 2 - 1) } } })
theorem test_meets_st_fw : st_fw_at.dev.ready = false ∧ st_fw_at.power.warn = false ∧ 1 ≤ st_fw_at.dev.stage ∧ st_fw_at.guard.otp.consistent = true ∧ st_fw_at.guard.otp.torn = none ∧ st_fw_at.lifeCount = 2 ∧ st_fw_at.ddr.state = .ready ∧ st_fw_at.ddr.err = 0 ∧ st_fw_at.hashersWorking ≠ [] ∧ st_fw_at.pkeWorking ≠ [] ∧ st_fw_at.flash.desc ≠ [] ∧ st_fw_at.flash.buildState = .built := by decide +kernel
def st_up_at : State := (let State.reset := withFlash ({ State.reset with ddr := { State.reset.ddr with state := .ready, err := 0 }, units := { State.reset.units with st := [] } }); { State.reset with dev := { State.reset.dev with ready := false, stage := 1, holdCause := 0  }, power := { State.reset.power with pwrOk := true, warn := false }, guard := { State.reset.guard with transition := none, otp := { State.reset.guard.otp with counter := BitVec.ofNat 128 (4 ^ 2 - 1) } } })
theorem test_meets_st_up : st_up_at.dev.ready = false ∧ st_up_at.power.warn = false ∧ 1 ≤ st_up_at.dev.stage ∧ st_up_at.guard.otp.consistent = true ∧ st_up_at.guard.otp.torn = none ∧ st_up_at.lifeCount = 2 ∧ st_up_at.ddr.state = .ready ∧ st_up_at.ddr.err = 0 ∧ st_up_at.hashersWorking ≠ [] ∧ st_up_at.pkeWorking ≠ [] ∧ st_up_at.flash.desc ≠ [] ∧ st_up_at.flash.buildState = .built := by decide +kernel
def st_scrap_at : State := (let State.reset := State.reset; { State.reset with dev := { State.reset.dev with ready := false, stage := 1, holdCause := 0  }, power := { State.reset.power with pwrOk := true, warn := false }, guard := { State.reset.guard with transition := none, otp := { State.reset.guard.otp with counter := BitVec.ofNat 128 (4 ^ 20 - 1) } } })
theorem test_meets_st_scrap : (st_scrap_at.dev.ready = true ∨ 20 ≤ st_scrap_at.lifeCount ∨ st_scrap_at.power.warn = true) := by decide +kernel
def idle_at : State := { State.reset with power := { State.reset.power with mode := .off, pwrOk := false }, crypto := {}, vault := { State.reset.vault with imageDue := false }, flash := { State.reset.flash with crates := [] }, pending := [] }
theorem test_meets_idle : Idle idle_at ∧ RowsIdle idle_at ∧ PoolIdle idle_at ∧ idle_at.vault.imageDue = false ∧ RoomLeft idle_at := by decide +kernel
def idle2_at : State := { inMode State.reset .service with crypto := {}, vault := { State.reset.vault with imageDue := false }, flash := { State.reset.flash with crates := [{ id := 7, kind := .evidence, state := .opened, lanes := [], lanePage := 16384, rows := 64 }] }, pending := [] }
theorem test_meets_idle2 : Idle idle2_at ∧ RowsIdle idle2_at ∧ PoolIdle idle2_at ∧ idle2_at.vault.imageDue = false ∧ RoomLeft idle2_at := by decide +kernel
def lanes_at : State := State.reset
theorem test_meets_lanes : stripeOk ((List.replicate 14 (9 : Byte)) ++ [parityP (List.replicate 14 9), parityQ (List.replicate 14 9)]) = true ∧ 3 < 15 ∧ 15 < 16 := by decide +kernel
def rr_3_at : State := { inMode State.reset .service with dev := { (inMode State.reset .service).dev with latchedHigh := [] } }
theorem test_meets_rr_3 : 8212 < 0x100000 ∧ 8212 % 4 = 0 ∧ rr_3_at.wideAt 8212 = false ∧ rr_3_at.dev.latchedHigh = [] := by decide +kernel
def rw_3_at : State := { inMode State.reset .service with dev := { (inMode State.reset .service).dev with latchedHigh := [] } }
theorem test_meets_rw_3 : 65536 < 0x100000 ∧ 65536 % 4 = 0 ∧ rw_3_at.wideAt 65536 = true ∧ rw_3_at.dev.latchedHigh = [] ∧ 65536 ≠ 0x3010 := by decide +kernel
def rh_at : State := { inMode State.reset .service with dev := { (inMode State.reset .service).dev with latchedHigh := [(0x1000C, 0x77)] } }
theorem test_meets_rh : 0x1000C < 0x100000 ∧ 0x1000C % 4 = 0 ∧ rh_at.wideAt 0x1000C = false ∧ rh_at.dev.latchedHigh = [(0x1000C, 0x77)] := by decide +kernel
def rbad0_at : State := State.reset
theorem test_meets_rbad0 : (0x100000 ≤ 1048576 ∨ (4 ≠ 4 ∧ 4 ≠ 8) ∨ 1048576 % 4 ≠ 0 ∨ (4 = 8 ∧ rbad0_at.wideAt 1048576 = false)) := by decide +kernel
def rbad4_at : State := State.reset
theorem test_meets_rbad4 : (0x100000 ≤ 12312 ∨ (16 ≠ 4 ∧ 16 ≠ 8) ∨ 12312 % 4 ≠ 0 ∨ (16 = 8 ∧ rbad4_at.wideAt 12312 = false)) := by decide +kernel
def rbars0_at : State := { State.reset with host := { State.reset.host with twoPorts := true, port1 := { upPort with msix := [(4095, { data := 77 })] }, port0 := upPort } }
theorem test_meets_rbars0 : 4095 < 4096 ∧ rbars0_at.portUsed 0 = true := by decide +kernel
def rbars1_at : State := { State.reset with host := { State.reset.host with twoPorts := true, port1 := { upPort with msix := [(4095, { data := 77 })] }, port0 := upPort } }
theorem test_meets_rbars1 : 4095 < 4096 ∧ rbars1_at.portUsed 1 = true := by decide +kernel
def rf_w1_at : State := { inMode State.reset .service with power := { State.reset.power with pwrOk := true } }
theorem test_meets_rf_w1 : rf_w1_at.mainOn = true ∧ rf_w1_at.dev.ready = true := by decide +kernel
def rf_p1_at : State := { inMode State.reset .service with power := { State.reset.power with pwrOk := true, mode := .service } }
theorem test_meets_rf_p1 : rf_p1_at.mainOn = true ∧ rf_p1_at.dev.ready = true ∧ rf_p1_at.power.mode ≠ .lockdown := by decide +kernel
def ms_clr_at : State := { inMode State.reset .service with power := { State.reset.power with pwrOk := true } }
theorem test_meets_ms_clr : ms_clr_at.mainOn = true ∧ ms_clr_at.dev.ready = true := by decide +kernel
def ms_en0_at : State := { inMode State.reset .service with power := { State.reset.power with pwrOk := true, warn := false, pllSwitching := false }, host := { State.reset.host with port0 := { upPort with msix := [(1, { mask := false }), (2, { mask := false }), (3, { mask := false })] } }, dev := { State.reset.dev with ready := true, events := 0xFF, enable := 0, heldMsg := 0, merged := 0, lastMsg := [], vectors := [(0, { vector := 1 }), (1, { vector := 2 }), (2, { vector := 3 })] }, tamper := { State.reset.tamper with notified := 1 }, fault := { State.reset.fault with events := 3 } }
theorem test_meets_ms_en0 : ms_en0_at.mainOn = true ∧ ms_en0_at.dev.ready = true ∧ ms_en0_at.causeSet 0 = true ∧ ms_en0_at.dev.enable = 0 ∧ ms_en0_at.canSignal (ms_en0_at.causeVec 0).1 (ms_en0_at.causeVec 0).2 = true ∧ ms_en0_at.dev.lastMsg.get zeroOf 0 ≠ ms_en0_at.now + 1 := by decide +kernel
def ms_mg0_at : State := { inMode State.reset .service with power := { State.reset.power with pwrOk := true, warn := false, pllSwitching := false }, host := { State.reset.host with port0 := { upPort with msix := [(1, { mask := false }), (2, { mask := false }), (3, { mask := false })] } }, dev := { State.reset.dev with ready := true, events := 0xFF, enable := 0, heldMsg := 0, merged := 15, lastMsg := [], vectors := [(0, { vector := 1 }), (1, { vector := 2 }), (2, { vector := 3 })] }, tamper := { State.reset.tamper with notified := 1 }, fault := { State.reset.fault with events := 3 } }
theorem test_meets_ms_mg0 : ms_mg0_at.mainOn = true ∧ ms_mg0_at.dev.ready = true ∧ ms_mg0_at.dev.merged.getLsbD 0 = true ∧ ms_mg0_at.dev.lastMsg.wf zeroOf = true ∧ ms_mg0_at.canSignal (ms_mg0_at.causeVec 0).1 (ms_mg0_at.causeVec 0).2 = true := by decide +kernel
def ms_mg2_at : State := { inMode State.reset .service with power := { State.reset.power with pwrOk := true, warn := false, pllSwitching := false }, host := { State.reset.host with port0 := { upPort with msix := [(1, { mask := false }), (2, { mask := false }), (3, { mask := false })] } }, dev := { State.reset.dev with ready := true, events := 0xFF, enable := 0, heldMsg := 0, merged := 15, lastMsg := [], vectors := [(0, { vector := 1 }), (1, { vector := 2 }), (2, { vector := 3 })] }, tamper := { State.reset.tamper with notified := 1 }, fault := { State.reset.fault with events := 3 } }
theorem test_meets_ms_mg2 : ms_mg2_at.mainOn = true ∧ ms_mg2_at.dev.ready = true ∧ ms_mg2_at.dev.merged.getLsbD 2 = true ∧ ms_mg2_at.dev.lastMsg.wf zeroOf = true ∧ ms_mg2_at.canSignal (ms_mg2_at.causeVec 2).1 (ms_mg2_at.causeVec 2).2 = true := by decide +kernel
def ms_en_x_at : State := { inMode State.reset .service with power := { State.reset.power with pwrOk := true, warn := false, pllSwitching := false }, host := { State.reset.host with port0 := { upPort with msix := [(1, { mask := false }), (2, { mask := false }), (3, { mask := false })] } }, dev := { State.reset.dev with ready := true, events := 0xFF, enable := 1, heldMsg := 0, merged := 0, lastMsg := [], vectors := [(0, { vector := 1 }), (1, { vector := 2 }), (2, { vector := 3 })] }, tamper := { State.reset.tamper with notified := 1 }, fault := { State.reset.fault with events := 3 } }
theorem test_meets_ms_en_x : ms_en_x_at.mainOn = true ∧ ms_en_x_at.dev.ready = true ∧ (∀ c ∈ List.range 4, (!(0xFFFFFFF1 : BitVec 32).getLsbD c || ms_en_x_at.dev.enable.getLsbD c || !ms_en_x_at.causeSet c) = true) := by decide +kernel
def ms_nomg_at : State := { inMode State.reset .service with power := { State.reset.power with pwrOk := true, warn := false, pllSwitching := false }, host := { State.reset.host with port0 := { upPort with msix := [(1, { mask := false }), (2, { mask := false }), (3, { mask := false })] } }, dev := { State.reset.dev with ready := true, events := 0xFF, enable := 0, heldMsg := 0, merged := 0, lastMsg := [], vectors := [(0, { vector := 1 }), (1, { vector := 2 }), (2, { vector := 3 })] }, tamper := { State.reset.tamper with notified := 1 }, fault := { State.reset.fault with events := 3 } }
theorem test_meets_ms_nomg : ms_nomg_at.mainOn = true ∧ ms_nomg_at.dev.ready = true ∧ ms_nomg_at.dev.merged.getLsbD 2 = false := by decide +kernel
def ms_vec_at : State := { inMode State.reset .service with power := { State.reset.power with pwrOk := true, warn := false, pllSwitching := false }, host := { State.reset.host with port0 := { upPort with msix := [(1, { mask := false }), (2, { mask := false }), (3, { mask := false })] } }, dev := { State.reset.dev with ready := true, events := 0xFF, enable := 0, heldMsg := 0, merged := 0, lastMsg := [], vectors := [(0, { vector := 1 }), (1, { vector := 2 }), (2, { vector := 3 })] }, tamper := { State.reset.tamper with notified := 1 }, fault := { State.reset.fault with events := 3 } }
theorem test_meets_ms_vec : ms_vec_at.mainOn = true ∧ ms_vec_at.dev.ready = true ∧ ms_vec_at.dev.heldMsg = 0 := by decide +kernel
def ms_ev_at : State := { inMode State.reset .service with power := { State.reset.power with pwrOk := true, warn := false, pllSwitching := false }, host := { State.reset.host with port0 := { upPort with msix := [(1, { mask := false }), (2, { mask := false }), (3, { mask := false })] } }, dev := { State.reset.dev with ready := true, events := 0xFF, enable := 0, heldMsg := 0, merged := 0, lastMsg := [], vectors := [(0, { vector := 1 }), (1, { vector := 2 }), (2, { vector := 3 })] }, tamper := { State.reset.tamper with notified := 1 }, fault := { State.reset.fault with events := 3 } }
theorem test_meets_ms_ev : ms_ev_at.mainOn = true ∧ ms_ev_at.dev.ready = true ∧ ms_ev_at.dev.events &&& ~~~(0x5 : BitVec 32) ≠ 0 := by decide +kernel

end Sys2Proof.Tests
end

section
/-! SUPPORT. Narrow registers of BAR0: how a 32-bit write reaches its block and what the block then reads as (R7, R436 to R439), and the four registers of
R91, R93, R158 and R167. -/

namespace Sys2Proof.Proofs

open Sys2Proof Sys2Proof.Machine

/-! Fields and clamps. -/

theorem clamp_eq_max_min {lo hi : Nat} (h : lo ≤ hi) (v : Nat) : clamp v lo hi = max lo (min v hi) := by
  unfold clamp
  split_ifs <;> omega

@[simp] theorem bits_from_zero (v len : Nat) : bits v 0 len = v % 2 ^ len := by simp [bits]

theorem bit_zero_iff (v : Nat) : bit v 0 = true ↔ v % 2 = 1 := by simp [bit]

/-! From the command to the block (R7, R439). -/

/-- A narrow register: an aligned word of BAR0 that is no half of a 64-bit register that takes writes. -/
abbrev NarrowAt (off : Nat) : Prop :=
  off % 4 = 0 ∧ off < 0x100000 ∧ wideWrite off = false ∧ wideWrite (off - 4) = false

theorem accepts_of_ready {s : State} (hon : s.mainOn = true) (hr : s.dev.ready = true) (off : Nat) : s.accepts off = true := by
  simp [State.accepts, hon, hr]

theorem write32_narrow {s : State} {off v : Nat} (hoff : NarrowAt off) (hacc : s.accepts off = true) (hv : v < 2 ^ 32) :
    s.write32 off v = s.writeNarrow off v := by
  obtain ⟨haligned, hbar, hlow, hhigh⟩ := hoff
  have hword : v % 4294967296 = v := Nat.mod_eq_of_lt hv
  simp [State.write32, hword, haligned, hbar.not_ge, hacc, hlow, hhigh]

theorem exec_registerWrite_narrow {s : State} {off v : Nat} (p : Fin 2) (hoff : NarrowAt off) (hon : s.mainOn = true) (hr : s.dev.ready = true)
    (hv : v < 2 ^ 32) : exec (.registerWrite { port := p, offset := off, value := v }) s = .next (s.writeNarrow off v) :=
  congrArg Host.Outcome.next (write32_narrow hoff (accepts_of_ready hon hr off) hv)

/-! The blocks CLASS, TICK and UNITTREE in the map (R436). -/

theorem writeNarrow_class (s : State) {o : Nat} (ho : o < 4096) (v : Nat) : s.writeNarrow (0x2000 + o) v = s.writeClass o v := by
  have hb : (0x2000 + o) / 4096 = 2 := by omega
  have hm : (0x2000 + o) % 4096 = o := by omega
  simp [State.writeNarrow, hb, hm]

theorem writeNarrow_tick (s : State) {o : Nat} (ho : o < 4096) (v : Nat) : s.writeNarrow (0x3000 + o) v = s.writeTick o v := by
  have hb : (0x3000 + o) / 4096 = 3 := by omega
  have hm : (0x3000 + o) % 4096 = o := by omega
  simp [State.writeNarrow, hb, hm]

theorem regAt_class {s : State} (hr : s.dev.ready = true) {o : Nat} (ho : o < 4096) : s.regAt (0x2000 + o) = s.classReg o := by
  have hb : (0x2000 + o) / 4096 = 2 := by omega
  have hm : (0x2000 + o) % 4096 = o := by omega
  simp [State.regAt, hb, hm, hr]

theorem regAt_tick {s : State} (hr : s.dev.ready = true) {o : Nat} (ho : o < 4096) : s.regAt (0x3000 + o) = s.tickReg o := by
  have hb : (0x3000 + o) / 4096 = 3 := by omega
  have hm : (0x3000 + o) % 4096 = o := by omega
  simp [State.regAt, hb, hm, hr]

theorem regAt_unit {s : State} (hr : s.dev.ready = true) {o : Nat} (ho : o < 4096) : s.regAt (0xB000 + o) = s.unitReg o := by
  have hb : (0xB000 + o) / 4096 = 11 := by omega
  have hm : (0xB000 + o) % 4096 = o := by omega
  simp [State.regAt, hb, hm, hr]

/-! What a write leaves in each of the four registers. -/

/-- CLASS.SPACE_WAIT (R93). -/
theorem writeNarrow_spaceWait (s : State) (v : Nat) :
    s.writeNarrow 0x2014 v = { s with classes := { s.classes with spaceWaitMs := max 10 (min (v % 65536) 10000) } } := by
  rw [writeNarrow_class s (o := 0x14) (by decide)]
  simp [State.writeClass, clamp_eq_max_min]

/-- TICK.PERIOD (R158), which LOCKDOWN closes to writes (R157). -/
theorem writeNarrow_period {s : State} (hm : s.power.mode ≠ .lockdown) (v : Nat) :
    s.writeNarrow 0x3000 v = { s with ledger := { s.ledger with periodMs := max 250 (min (v % 16384) 10000) / 250 * 250 } } := by
  rw [writeNarrow_tick s (o := 0) (by decide)]
  simp [State.writeTick, hm, periodStored, clamp_eq_max_min]

/-- CLASS.CTRL (R91): LAT_CLEAR written 1. -/
theorem writeNarrow_latClear_of_odd (s : State) {v : Nat} (hv : v % 2 = 1) : s.writeNarrow 0x200C v = s.clearLat := by
  rw [writeNarrow_class s (o := 0x0C) (by decide)]
  exact if_pos ((bit_zero_iff v).2 hv)

/-- CLASS.CTRL (R91): LAT_CLEAR written 0. -/
theorem writeNarrow_latClear_of_even (s : State) {v : Nat} (hv : v % 2 = 0) : s.writeNarrow 0x200C v = s := by
  rw [writeNarrow_class s (o := 0x0C) (by decide)]
  exact if_neg (by rw [bit_zero_iff]; omega)

theorem writeNarrow_latClear_dev (s : State) (v : Nat) : (s.writeNarrow 0x200C v).dev = s.dev := by
  rcases Nat.mod_two_eq_zero_or_one v with hv | hv
  · rw [writeNarrow_latClear_of_even s hv]
  · rw [writeNarrow_latClear_of_odd s hv]; rfl

/-- UNITTREE.SELECT (R167). -/
theorem writeNarrow_unitSelect (s : State) (v : Nat) :
    s.writeNarrow 0xB000 v = { s with units := { s.units with select := BitVec.ofNat 16 v } } := rfl

/-! What each of the four registers reads as (R91, R93, R158, R167). -/

theorem regAt_spaceWait {s : State} (hr : s.dev.ready = true) : s.regAt 0x2014 = r32 s.classes.spaceWaitMs :=
  regAt_class hr (o := 0x14) (by decide)

theorem regAt_period {s : State} (hr : s.dev.ready = true) : s.regAt 0x3000 = r32 s.ledger.periodMs :=
  regAt_tick hr (o := 0) (by decide)

theorem regAt_classCtrl {s : State} (hr : s.dev.ready = true) : s.regAt 0x200C = none :=
  regAt_class hr (o := 0x0C) (by decide)

theorem regAt_lat0 {s : State} (hr : s.dev.ready = true) : s.regAt 0x2040 = r32 (put s.classes.tickMax 16 16 + put s.classes.receiptMax 0 16) :=
  regAt_class hr (o := 0x40) (by decide)

/-- Both fields of CLASS.LAT0 are 0 after LAT_CLEAR. -/
theorem regAt_lat0_clearLat {s : State} (hr : s.dev.ready = true) : s.clearLat.regAt 0x2040 = r32 0 := by
  have hready : s.clearLat.dev.ready = true := hr
  rw [regAt_lat0 hready]
  simp [State.clearLat, put]

theorem regAt_unitSelect {s : State} (hr : s.dev.ready = true) : s.regAt 0xB000 = r32 s.units.select.toNat :=
  regAt_unit hr (o := 0) (by decide)

/-! The four writes as commands. -/

section
variable {s : State} (p : Fin 2) {v : Nat} (hon : s.mainOn = true) (hr : s.dev.ready = true) (hv : v < 2 ^ 32)
include hon hr hv

theorem exec_write_spaceWait :
    ∃ u, exec (.registerWrite { port := p, offset := 0x2014, value := v }) s = .next u ∧
      u = { s with classes := { s.classes with spaceWaitMs := max 10 (min (v % 65536) 10000) } } ∧ u.regAt 0x2014 = r32 (max 10 (min (v % 65536) 10000)) := by
  refine ⟨_, exec_registerWrite_narrow p (by decide) hon hr hv, writeNarrow_spaceWait s v, ?_⟩
  rw [writeNarrow_spaceWait]
  exact regAt_spaceWait hr

theorem exec_write_period (hm : s.power.mode ≠ .lockdown) :
    ∃ u, exec (.registerWrite { port := p, offset := 0x3000, value := v }) s = .next u ∧ u.regAt 0x3000 = r32 (max 250 (min (v % 16384) 10000) / 250 * 250) ∧
      u = { s with ledger := { s.ledger with periodMs := u.ledger.periodMs } } := by
  refine ⟨_, exec_registerWrite_narrow p (by decide) hon hr hv, ?_⟩
  rw [writeNarrow_period hm]
  exact ⟨regAt_period hr, rfl⟩

theorem exec_write_classCtrl :
    ∃ u, exec (.registerWrite { port := p, offset := 0x200C, value := v }) s = .next u ∧ u.regAt 0x200C = none ∧
      (v % 2 = 1 → u.regAt 0x2040 = r32 0) ∧ (v % 2 = 0 → u = s) := by
  refine ⟨_, exec_registerWrite_narrow p (by decide) hon hr hv, regAt_classCtrl ?_, fun hodd => ?_, writeNarrow_latClear_of_even s⟩
  · rw [writeNarrow_latClear_dev]; exact hr
  · rw [writeNarrow_latClear_of_odd s hodd]
    exact regAt_lat0_clearLat hr

theorem exec_write_unitSelect :
    ∃ u, exec (.registerWrite { port := p, offset := 0xB000, value := v }) s = .next u ∧ u.regAt 0xB000 = r32 (v % 65536) ∧
      u = { s with units := { s.units with select := u.units.select } } := by
  refine ⟨_, exec_registerWrite_narrow p (by decide) hon hr hv, ?_⟩
  rw [writeNarrow_unitSelect]
  refine ⟨(regAt_unitSelect ?_).trans (congrArg r32 (BitVec.toNat_ofNat v 16)), rfl⟩
  exact hr

end

theorem reset_register_fields :
    State.reset.classReg 0x14 = r32 100 ∧ State.reset.tickReg 0x00 = r32 1000 ∧ State.reset.unitReg 0x00 = r32 0 ∧ State.reset.classReg 0x0C = none :=
  ⟨rfl, rfl, rfl, rfl⟩

/-- Settles O55: each write lands in its block as a narrow one, and the register then reads the stored field. -/
theorem registerFields : Obligations.RegisterFields := by
  unfold Obligations.RegisterFields
  exact ⟨reset_register_fields, fun _ p _ hon hr hv =>
    ⟨exec_write_spaceWait p hon hr hv, exec_write_period p hon hr hv, exec_write_classCtrl p hon hr hv, exec_write_unitSelect p hon hr hv⟩⟩

end Sys2Proof.Proofs
end

section
/-! SUPPORT. Writes of TAMPER.SRC: the source's fields after a write that nothing forbids, and the level that a write of 5 leaves (R358, R365). -/

namespace Sys2Proof.Proofs

open Sys2Proof Sys2Proof.Machine

/-! Log entries leave the sources as they are. -/

@[simp] theorem logTamper_src (s : State) (e : TamperEntry) (k : Nat) : (s.logTamper e).src k = s.src k := by
  unfold State.logTamper
  split <;> rfl

@[simp] theorem logConfig_src (s : State) (source level detail k : Nat) : (s.logConfig source level detail).src k = s.src k :=
  logTamper_src s _ k

/-! The LEVEL field of the written word (R365). -/

theorem bits_level (v : BitVec 32) : bits v.toNat 29 3 = v.toNat / 2 ^ 29 :=
  Nat.mod_eq_of_lt (Nat.div_lt_of_lt_mul v.isLt)

theorem levelStored_five (old : Nat) (kill : Bool) : levelStored old 5 kill = if kill then 5 else 4 := if_pos rfl

theorem write_level_of_five (c : Src) (n : Nat) {v : BitVec 32} (kill : Bool) (hv : v.toNat / 2 ^ 29 = 5) :
    (c.write n v.toNat kill).level = if kill then 5 else 4 := by
  have hfield : bits v.toNat 29 3 = 5 := (bits_level v).trans hv
  calc (c.write n v.toNat kill).level = levelStored c.level (bits v.toNat 29 3) kill := rfl
    _ = levelStored c.level 5 kill := by rw [hfield]
    _ = if kill then 5 else 4 := levelStored_five c.level kill

/-! The write itself (R365). -/

/-- Outside LOCKDOWN, with neither fuse nor LOCK against it, a write of TAMPER.SRC sets the source's fields; one that changes none of them finds them so. -/
theorem writeSrc_src_same {s : State} {n : Nat} (v : Nat) (hwf : s.tamper.srcs.wf Src.at_ = true) (hmode : s.power.mode ≠ .lockdown)
    (hfuse : s.fused n = false) (hlock : s.tamper.lock = false) :
    (s.writeSrc n v).src n = (s.src n).write n v s.guard.otp.killAllowed := by
  by_cases hsame : s.src n = (s.src n).write n v s.guard.otp.killAllowed
  · have hkept : s.writeSrc n v = s := by simp [State.writeSrc, ← hsame]
    rw [hkept]
    exact hsame
  · have hwritten : s.writeSrc n v = (s.setSrc n ((s.src n).write n v s.guard.otp.killAllowed)).logConfig n
        ((s.src n).write n v s.guard.otp.killAllowed).level 0 := by
      simp [State.writeSrc, hmode, hfuse, hlock, hsame]
    rw [hwritten, logConfig_src]
    exact Laws.setSrc_src_same s n _ hwf

/-- Settles O48: the write sets the source's fields, and its level is what `levelStored` leaves of a 5. -/
theorem killNeedsItsFuse : Obligations.KillNeedsItsFuse := by
  unfold Obligations.KillNeedsItsFuse
  intro s n v hwf hfive hmode hfuse hlock
  refine ⟨s.writeSrc n.val v.toNat, rfl, ?_⟩
  rw [writeSrc_src_same v.toNat hwf hmode hfuse hlock]
  exact write_level_of_five (s.src n.val) n.val s.guard.otp.killAllowed hfive

end Sys2Proof.Proofs
end

section
/-! SUPPORT. The parity of a stripe (R272): P and Q after a lane's byte changes, and why two lanes follow from the other fourteen (R281). -/

namespace Sys2Proof.Proofs

open Sys2Proof Sys2Proof.Machine

/-! Multiplication by g is linear and moves every byte but 0 for fewer than 255 steps. -/

theorem xor_xor_xor_cancel (x y c : Byte) : (x ^^^ c) ^^^ (y ^^^ c) = x ^^^ y := by
  rw [BitVec.xor_comm y c, BitVec.xor_assoc, ← BitVec.xor_assoc c c y, BitVec.xor_self, BitVec.zero_xor]

theorem xor_replaced (x y c : Byte) : (y ^^^ c) ^^^ (y ^^^ x) = x ^^^ c := by
  rw [BitVec.xor_comm y c, BitVec.xor_comm y x, BitVec.xor_comm x c, xor_xor_xor_cancel]

theorem gfTimes2_xor (x y : Byte) : gfTimes2 (x ^^^ y) = gfTimes2 x ^^^ gfTimes2 y := by
  have hmsb : (x ^^^ y).msb = (x.msb ^^ y.msb) := by simp
  have hshift : (x ^^^ y) <<< 1 = (x <<< 1) ^^^ (y <<< 1) := BitVec.shiftLeft_xor_distrib x y 1
  unfold gfTimes2
  rw [hmsb, hshift]
  cases x.msb <;> cases y.msb
  · simp
  · simp [BitVec.xor_assoc]
  · simp [BitVec.xor_assoc, BitVec.xor_comm (y <<< 1)]
  · simp [xor_xor_xor_cancel]

theorem gfTimes2_iterate_xor (k : Nat) (x y : Byte) : gfTimes2^[k] (x ^^^ y) = gfTimes2^[k] x ^^^ gfTimes2^[k] y := by
  induction k generalizing x y with
  | zero => rfl
  | succ k ih => simp only [Function.iterate_succ, Function.comp_apply, gfTimes2_xor, ih]

theorem gfTimes2_eq_zero_iff (x : Byte) : gfTimes2 x = 0#8 ↔ x = 0#8 := by
  have hall : ∀ n < 256, gfTimes2 (BitVec.ofNat 8 n) = 0#8 ↔ BitVec.ofNat 8 n = 0#8 := by decide +kernel
  simpa using hall x.toNat x.isLt

theorem gfTimes2_iterate_eq_zero_iff (k : Nat) (x : Byte) : gfTimes2^[k] x = 0#8 ↔ x = 0#8 := by
  induction k generalizing x with
  | zero => rfl
  | succ k ih => rw [Function.iterate_succ, Function.comp_apply, ih, gfTimes2_eq_zero_iff]

/-- Fewer than 14 multiplications by g fix no byte but 0. -/
theorem eq_zero_of_gfTimes2_iterate_fixed {k : Nat} (hpos : 0 < k) (hk : k < 14) {x : Byte} (hx : gfTimes2^[k] x = x) : x = 0#8 := by
  have hall : ∀ k < 14, ∀ n < 256, 0 < k → gfTimes2^[k] (BitVec.ofNat 8 n) = BitVec.ofNat 8 n → BitVec.ofNat 8 n = 0#8 := by decide +kernel
  simpa using hall k hk x.toNat x.isLt hpos (by simpa using hx)

/-! P and Q after one lane's byte changes. -/

theorem parityP_set (d : List Byte) (i : Nat) (x : Byte) (hi : i < d.length) : parityP (d.set i x) = parityP d ^^^ (d.getD i 0 ^^^ x) := by
  induction d generalizing i with
  | nil => simp at hi
  | cons y d ih =>
    cases i with
    | zero =>
      exact (xor_replaced x y (parityP d)).symm
    | succ i =>
      change y ^^^ parityP (d.set i x) = (y ^^^ parityP d) ^^^ (d.getD i 0 ^^^ x)
      rw [ih i (by simpa using hi), BitVec.xor_assoc]

theorem parityQ_set (d : List Byte) (i : Nat) (x : Byte) (hi : i < d.length) : parityQ (d.set i x) = parityQ d ^^^ gfTimes2^[i] (d.getD i 0 ^^^ x) := by
  induction d generalizing i with
  | nil => simp at hi
  | cons y d ih =>
    cases i with
    | zero =>
      exact (xor_replaced x y (gfTimes2 (parityQ d))).symm
    | succ i =>
      change y ^^^ gfTimes2 (parityQ (d.set i x)) = (y ^^^ gfTimes2 (parityQ d)) ^^^ gfTimes2^[i] (gfTimes2 (d.getD i 0 ^^^ x))
      rw [ih i (by simpa using hi), gfTimes2_xor, BitVec.xor_assoc, ← Function.iterate_succ_apply, Function.iterate_succ_apply']

/-! How far a position is from its parity, and what a change of one lane adds to that. -/

def missP (l : List Byte) : Byte := l.getD 14 0 ^^^ parityP (l.take 14)
def missQ (l : List Byte) : Byte := l.getD 15 0 ^^^ parityQ (l.take 14)

/-- What a difference `e` in lane `i` adds to P and to Q. -/
def weightP (i : Nat) (e : Byte) : Byte := if i = 15 then 0#8 else e
def weightQ (i : Nat) (e : Byte) : Byte := if i < 14 then gfTimes2^[i] e else if i = 15 then e else 0#8

theorem stripeOk_iff (l : List Byte) : stripeOk l = true ↔ l.length = 16 ∧ missP l = 0#8 ∧ missQ l = 0#8 := by
  simp [stripeOk, missP, missQ, BitVec.xor_eq_zero_iff, and_assoc]

section
variable {l : List Byte} (hlen : l.length = 16)
include hlen

theorem missP_set {i : Nat} (hi : i < 16) (x : Byte) : missP (l.set i x) = missP l ^^^ weightP i (l.getD i 0 ^^^ x) := by
  obtain hdata | rfl | rfl : i < 14 ∨ i = 14 ∨ i = 15 := by omega
  · have hkeep : (l.set i x).getD 14 0 = l.getD 14 0 := by grind
    have hlane : (l.take 14).getD i 0 = l.getD i 0 := by grind
    rw [missP, missP, List.take_set, parityP_set _ _ _ (by simp; omega), hkeep, hlane, weightP, if_neg (by omega), BitVec.xor_assoc]
  · have hnew : (l.set 14 x).getD 14 0 = x := by grind
    rw [missP, missP, List.take_set_of_le (by omega), hnew, weightP, if_neg (by omega), xor_replaced]
  · have hkeep : (l.set 15 x).getD 14 0 = l.getD 14 0 := by grind
    rw [missP, missP, List.take_set_of_le (by omega), hkeep, weightP, if_pos rfl, BitVec.xor_zero]

theorem missQ_set {i : Nat} (hi : i < 16) (x : Byte) : missQ (l.set i x) = missQ l ^^^ weightQ i (l.getD i 0 ^^^ x) := by
  obtain hdata | rfl | rfl : i < 14 ∨ i = 14 ∨ i = 15 := by omega
  · have hkeep : (l.set i x).getD 15 0 = l.getD 15 0 := by grind
    have hlane : (l.take 14).getD i 0 = l.getD i 0 := by grind
    rw [missQ, missQ, List.take_set, parityQ_set _ _ _ (by simp; omega), hkeep, hlane, weightQ, if_pos hdata, BitVec.xor_assoc]
  · have hkeep : (l.set 14 x).getD 15 0 = l.getD 15 0 := by grind
    rw [missQ, missQ, List.take_set_of_le (by omega), hkeep, weightQ, if_neg (by omega), if_neg (by omega), BitVec.xor_zero]
  · have hnew : (l.set 15 x).getD 15 0 = x := by grind
    rw [missQ, missQ, List.take_set_of_le (by omega), hnew, weightQ, if_neg (by omega), if_pos rfl, xor_replaced]

end

/-- Differences in two lanes that cancel in P and in Q are 0: the code of R272 has distance 3. -/
theorem eq_zero_of_weights_cancel {i j : Nat} (hij : i < j) (hj : j < 16) {e f : Byte}
    (hP : weightP i e ^^^ weightP j f = 0#8) (hQ : weightQ i e ^^^ weightQ j f = 0#8) : e = 0#8 ∧ f = 0#8 := by
  rw [weightP, if_neg (show i ≠ 15 by omega)] at hP
  obtain hdata | rfl | rfl : j < 14 ∨ j = 14 ∨ j = 15 := by omega
  · rw [weightP, if_neg (by omega), BitVec.xor_eq_zero_iff] at hP
    subst hP
    rw [weightQ, weightQ, if_pos (by omega), if_pos hdata] at hQ
    have hstep : gfTimes2^[j] e = gfTimes2^[i] (gfTimes2^[j - i] e) := by
      rw [← Function.iterate_add_apply, Nat.add_sub_cancel' hij.le]
    rw [hstep, ← gfTimes2_iterate_xor, gfTimes2_iterate_eq_zero_iff, BitVec.xor_eq_zero_iff] at hQ
    have he := eq_zero_of_gfTimes2_iterate_fixed (by omega) (by omega) hQ.symm
    exact ⟨he, he⟩
  · rw [weightP, if_neg (by omega), BitVec.xor_eq_zero_iff] at hP
    rw [weightQ, weightQ, if_pos hij, if_neg (by omega), if_neg (by omega), BitVec.xor_zero, gfTimes2_iterate_eq_zero_iff] at hQ
    exact ⟨hQ, hP ▸ hQ⟩
  · rw [weightP, if_pos rfl, BitVec.xor_zero] at hP
    subst hP
    have hzero : weightQ i 0#8 = 0#8 := by
      simp [weightQ, (gfTimes2_iterate_eq_zero_iff i 0#8).mpr rfl]
    rw [hzero, weightQ, if_neg (by omega), if_pos rfl, BitVec.zero_xor] at hQ
    exact ⟨rfl, hQ⟩

/-- The bytes of two lanes are those of the stripe. -/
theorem bytes_of_stripeOk_set {l : List Byte} {i j : Nat} {x y : Byte} (hl : stripeOk l = true) (hij : i < j) (hj : j < 16)
    (hset : stripeOk ((l.set i x).set j y) = true) : x = l.getD i 0 ∧ y = l.getD j 0 := by
  obtain ⟨hlen, hP, hQ⟩ := (stripeOk_iff l).mp hl
  obtain ⟨-, hP', hQ'⟩ := (stripeOk_iff _).mp hset
  have hlen' : (l.set i x).length = 16 := by simpa using hlen
  have hother : (l.set i x).getD j 0 = l.getD j 0 := by grind
  rw [missP_set hlen' hj, missP_set hlen (by omega), hP, BitVec.zero_xor, hother] at hP'
  rw [missQ_set hlen' hj, missQ_set hlen (by omega), hQ, BitVec.zero_xor, hother] at hQ'
  obtain ⟨he, hf⟩ := eq_zero_of_weights_cancel hij hj hP' hQ'
  exact ⟨(BitVec.xor_eq_zero_iff.mp he).symm, (BitVec.xor_eq_zero_iff.mp hf).symm⟩

/-! The search over the bytes of two lanes. -/

theorem set_set_set_set {l : List Byte} {i j : Nat} (hij : i < j) (a b x y : Byte) :
    ((((l.set i a).set j b).set i x).set j y) = (l.set i x).set j y := by
  rw [List.set_comm b x (by omega), List.set_set, List.set_set]

theorem set_getD_self {l : List Byte} {i : Nat} : l.set i (l.getD i 0) = l := by
  apply List.ext_getElem <;> grind

/-- Settles O30: every candidate that agrees with its parity has the stripe's own bytes in the two lanes, and the stripe is a candidate. -/
theorem twoLanesRestored : Obligations.TwoLanesRestored := by
  unfold Obligations.TwoLanesRestored
  intro l i j a b hl hij hj
  have hcand : ∀ v : Nat, ((((l.set i a).set j b).set i (BitVec.ofNat 8 (v % 256))).set j (BitVec.ofNat 8 (v / 256))) =
      (l.set i (BitVec.ofNat 8 (v % 256))).set j (BitVec.ofNat 8 (v / 256)) := fun v => set_set_set_set hij a b _ _
  have hunique : ∀ c ∈ (List.range 65536).map (fun v => (l.set i (BitVec.ofNat 8 (v % 256))).set j (BitVec.ofNat 8 (v / 256))),
      stripeOk c = true → c = l := by
    intro c hc hok
    obtain ⟨v, -, rfl⟩ := List.mem_map.mp hc
    obtain ⟨hx, hy⟩ := bytes_of_stripeOk_set hl hij hj hok
    rw [hx, set_getD_self, hy, set_getD_self]
  have hself : l ∈ (List.range 65536).map (fun v => (l.set i (BitVec.ofNat 8 (v % 256))).set j (BitVec.ofNat 8 (v / 256))) := by
    refine List.mem_map.mpr ⟨(l.getD i 0).toNat + 256 * (l.getD j 0).toNat, List.mem_range.mpr (by omega), ?_⟩
    have hlow : ((l.getD i 0).toNat + 256 * (l.getD j 0).toNat) % 256 = (l.getD i 0).toNat := by omega
    have hhigh : ((l.getD i 0).toNat + 256 * (l.getD j 0).toNat) / 256 = (l.getD j 0).toNat := by omega
    simp only [hlow, hhigh, BitVec.ofNat_toNat, BitVec.setWidth_eq, set_getD_self]
  simp only [solveStripe, hcand]
  obtain ⟨c, hc⟩ := Option.isSome_iff_exists.mp (List.find?_isSome.mpr ⟨l, hself, hl⟩)
  rw [hc, hunique c (List.mem_of_find?_eq_some hc) (List.find?_some hc)]

end Sys2Proof.Proofs
end

section
/-! SUPPORT. What the Otnak instructions compute: bytes as numbers, the values of the register forms, reads and stores, FIND, marks, branches and loops (R180 to R184). -/

namespace Sys2Proof.Proofs

open Sys2Proof Sys2Proof.Machine Sys2Proof.Safety

/-! Byte strings as numbers. -/

theorem leNat_append (a b : Bytes) : leNat (a ++ b) = leNat a + 256 ^ a.length * leNat b := by
  induction a with
  | nil => simp [leNat]
  | cons x a ih => simp only [List.cons_append, leNat, ih, List.length_cons, pow_succ]; ring

theorem leNat_map_range (f : Nat → Byte) (n : Nat) : leNat ((List.range n).map f) = ∑ k ∈ Finset.range n, (f k).toNat * 256 ^ k := by
  induction n with
  | zero => rfl
  | succ n ih =>
    rw [List.range_succ, List.map_append, leNat_append, ih, Finset.sum_range_succ]
    simp [leNat, mul_comm]

theorem beNat_concat (a : Bytes) (x : Byte) : beNat (a ++ [x]) = beNat a * 256 + x.toNat := by simp [beNat]

theorem beNat_map_range (f : Nat → Byte) (n : Nat) : beNat ((List.range n).map f) = ∑ k ∈ Finset.range n, (f k).toNat * 256 ^ (n - 1 - k) := by
  induction n with
  | zero => rfl
  | succ n ih =>
    rw [List.range_succ, List.map_append, List.map_singleton, beNat_concat, ih, Finset.sum_range_succ, Finset.sum_mul]
    congr 1
    · refine Finset.sum_congr rfl fun k hk => ?_
      have hk : n + 1 - 1 - k = (n - 1 - k) + 1 := by have := Finset.mem_range.mp hk; omega
      rw [hk, pow_succ, mul_assoc]
    · simp

theorem leBytes_eq_map (n v : Nat) : leBytes n v = (List.range n).map (fun k => BitVec.ofNat 8 (v / 256 ^ k)) := by
  induction n generalizing v with
  | zero => rfl
  | succ n ih =>
    rw [leBytes, ih, List.range_succ_eq_map, List.map_cons, List.map_map]
    congr 1
    · simp
    · refine List.map_congr_left fun k _ => ?_
      simp only [Function.comp_apply, pow_succ', Nat.div_div_eq_div_mul]

theorem littleEndian_eq (f : Nat → Byte) (n : Nat) : littleEndian f n = BitVec.ofNat 64 (leNat ((List.range n).map f)) := by
  rw [littleEndian, leNat_map_range]

theorem bigEndian_eq (f : Nat → Byte) (n : Nat) : bigEndian f n = BitVec.ofNat 64 (beNat ((List.range n).map f)) := by
  rw [bigEndian, beNat_map_range]

theorem ofNat_byte_eq_extract (x : Word64) (k : Nat) : BitVec.ofNat 8 (x.toNat / 256 ^ k) = x.extractLsb' (8 * k) 8 := by
  apply BitVec.eq_of_toNat_eq
  rw [BitVec.toNat_ofNat, BitVec.extractLsb'_toNat, Nat.shiftRight_eq_div_pow, pow_mul]
  rfl

/-! Values of the register and immediate forms. -/

theorem mul_eq_ofNat (a b : Word64) : a * b = BitVec.ofNat 64 (a.toNat * b.toNat) :=
  BitVec.eq_of_toNat_eq (by rw [BitVec.toNat_mul, BitVec.toNat_ofNat])

theorem fMinu_eq (a b : Word64) : fMinu a b = BitVec.ofNat 64 (min a.toNat b.toNat) := by
  unfold fMinu
  split
  · rename_i h; simp [Nat.min_eq_left h]
  · rename_i h; simp [Nat.min_eq_right (Nat.le_of_not_le h)]

theorem fMaxu_eq (a b : Word64) : fMaxu a b = BitVec.ofNat 64 (max a.toNat b.toNat) := by
  unfold fMaxu
  split
  · rename_i h; simp [Nat.max_eq_right h]
  · rename_i h; simp [Nat.max_eq_left (Nat.le_of_not_le h)]

theorem bswap64_eq (a : Word64) : bswap64 a = bigEndian (fun k => a.extractLsb' (8 * k) 8) 8 := by
  rw [bigEndian_eq, bswap64, leBytes_eq_map]
  simp only [ofNat_byte_eq_extract]

/-- A shift distance below 64 is its own remainder. -/
theorem shift_of_imm (n : Fin 64) : ((BitVec.ofNat 16 n.val).zeroExtend 64).toNat % 64 = n.val := by
  have := n.isLt
  simp only [BitVec.truncate_eq_setWidth, BitVec.toNat_setWidth, BitVec.toNat_ofNat]
  omega

theorem imm_shifted (imm : BitVec 16) (k : Nat) : BitVec.ofNat 64 (imm.toNat * 2 ^ (16 * k)) = imm.zeroExtend 64 <<< (16 * k) := by
  apply BitVec.eq_of_toNat_eq
  have := imm.isLt
  rw [BitVec.toNat_shiftLeft, BitVec.toNat_ofNat, Nat.shiftLeft_eq]
  simp only [BitVec.truncate_eq_setWidth, BitVec.toNat_setWidth]
  rw [Nat.mod_eq_of_lt (show imm.toNat < 2 ^ 64 by omega)]

theorem getLsbD_ldh (k : Nat) (a : Word64) (imm : BitVec 16) (i : Nat) (hi : i < 64) :
    (ldh k a imm).getLsbD i = if 16 * k ≤ i ∧ i < 16 * k + 16 then imm.getLsbD (i - 16 * k) else a.getLsbD i := by
  have hmask := imm_shifted 0xFFFF#16 k
  rw [show (0xFFFF#16).toNat = 0xFFFF from rfl] at hmask
  rw [ldh, hmask, imm_shifted imm k]
  have hones : (0xFFFF#16 : BitVec 16) = BitVec.allOnes 16 := rfl
  simp only [hones, BitVec.getLsbD_or, BitVec.getLsbD_and, BitVec.getLsbD_not, BitVec.getLsbD_shiftLeft, BitVec.truncate_eq_setWidth, BitVec.getLsbD_setWidth, BitVec.getLsbD_allOnes]
  by_cases hlow : i < 16 * k
  · simp [hlow, hi, Nat.not_le.mpr hlow]
  · by_cases hhigh : i < 16 * k + 16
    · have h16 : i - 16 * k < 16 := by omega
      have h64 : i - 16 * k < 64 := by omega
      simp [hlow, hhigh, hi, Nat.le_of_not_lt hlow, h16, h64]
    · have h16 : ¬ i - 16 * k < 16 := by omega
      have hbeyond : imm.getLsbD (i - 16 * k) = false := BitVec.getLsbD_of_ge _ _ (by omega)
      simp [hlow, hhigh, hi, h16, hbeyond]

theorem ldh_one (a : Word64) (imm : BitVec 16) : ldh 1 a imm = a.extractLsb' 32 32 ++ imm ++ a.extractLsb' 0 16 := by
  refine BitVec.eq_of_getLsbD_eq fun i hi => ?_
  rw [getLsbD_ldh 1 a imm i hi]
  simp only [BitVec.getLsbD_append, BitVec.getLsbD_extractLsb']
  grind
theorem ldh_two (a : Word64) (imm : BitVec 16) : ldh 2 a imm = a.extractLsb' 48 16 ++ imm ++ a.extractLsb' 0 32 := by
  refine BitVec.eq_of_getLsbD_eq fun i hi => ?_
  rw [getLsbD_ldh 2 a imm i hi]
  simp only [BitVec.getLsbD_append, BitVec.getLsbD_extractLsb']
  grind
theorem ldh_three (a : Word64) (imm : BitVec 16) : ldh 3 a imm = imm ++ a.extractLsb' 0 48 := by
  refine BitVec.eq_of_getLsbD_eq fun i hi => ?_
  rw [getLsbD_ldh 3 a imm i hi]
  simp only [BitVec.getLsbD_append, BitVec.getLsbD_extractLsb']
  grind

/-! Commands that turn the machine of the running item. -/

theorem turns_of_otnak {c : Instr} {w : Nat} {f g : Vm → Vm} (hx : ∀ s, exec c s = .next (s.otnak w f)) (hfg : ∀ v, f v = g v) : Turns c w g :=
  fun s i t => Laws.turnsTo_of_otnak c w f s i t (g i.vm) (hx s) (hfg i.vm)

/-- Settles O4: each command runs its form on the running item, and the form's function has the listed value. -/
theorem otnakRegisterForms : Obligations.OtnakRegisterForms := by
  unfold Obligations.OtnakRegisterForms
  intro w rd ra rb imm n
  refine ⟨turns_of_otnak (fun _ => rfl) fun _ => rfl, turns_of_otnak (fun _ => rfl) fun _ => rfl, turns_of_otnak (fun _ => rfl) fun _ => rfl,
    turns_of_otnak (fun _ => rfl) fun _ => rfl, turns_of_otnak (fun _ => rfl) fun _ => rfl, turns_of_otnak (fun _ => rfl) fun _ => rfl,
    turns_of_otnak (fun _ => rfl) fun _ => rfl, turns_of_otnak (fun _ => rfl) fun _ => rfl, turns_of_otnak (fun _ => rfl) fun v => ?_,
    turns_of_otnak (fun _ => rfl) fun v => ?_, turns_of_otnak (fun _ => rfl) fun v => ?_, turns_of_otnak (fun _ => rfl) fun v => rfl,
    turns_of_otnak (fun _ => rfl) fun v => ?_, turns_of_otnak (fun _ => rfl) fun _ => rfl, turns_of_otnak (fun _ => rfl) fun _ => rfl,
    turns_of_otnak (fun _ => rfl) fun _ => rfl, turns_of_otnak (fun _ => rfl) fun _ => rfl, turns_of_otnak (fun _ => rfl) fun v => ?_,
    turns_of_otnak (fun _ => rfl) fun v => ?_, turns_of_otnak (fun _ => rfl) fun v => ?_, turns_of_otnak (fun _ => rfl) fun v => ?_,
    turns_of_otnak (fun _ => rfl) fun v => ?_, turns_of_otnak (fun _ => rfl) fun v => ?_⟩
  · rw [← mul_eq_ofNat]; rfl
  · rw [← fMinu_eq]; rfl
  · rw [← fMaxu_eq]; rfl
  · rw [← bswap64_eq]; rfl
  · simp only [Vm.alui, fShl, shift_of_imm]
  · simp only [Vm.alui, fShr, shift_of_imm]
  · rfl
  · rw [← ldh_one]; rfl
  · rw [← ldh_two]; rfl
  · rw [← ldh_three]; rfl

/-! Reads. -/

theorem hmark_eq (l : List Nat) (i : Nat) :
    (if i < l.length then BitVec.ofNat 64 (l.getD i 0) else BitVec.allOnes 64) = match l[i]? with | some m => BitVec.ofNat 64 m | none => 0xFFFFFFFFFFFFFFFF := by
  by_cases h : i < l.length
  · simp [h, List.getD]
  · rw [if_neg h, List.getElem?_eq_none (Nat.le_of_not_lt h)]
    rfl

/-! Stores. -/

theorem slotPut_get_other (m : SMap Byte) (a : Nat) (b : Bytes) (j : Nat) (hs : m.wf zeroByte = true) (hj : ∀ k, k < b.length → j ≠ (a + k) % 16384) :
    (slotPut m a b).get zeroByte j = m.get zeroByte j := by
  induction b generalizing m a with
  | nil => rfl
  | cons x r ih =>
    have hhead : j ≠ a % 16384 := hj 0 (by simp)
    have htail : ∀ k, k < r.length → j ≠ (a + 1 + k) % 16384 := fun k hk => by
      have := hj (k + 1) (by simpa using hk)
      rwa [show a + 1 + k = a + (k + 1) by omega]
    rw [slotPut, ih _ _ (Laws.set_wf zeroByte m _ x hs) htail, Laws.get_set_other zeroByte m _ _ x (Laws.wf_sorted hs) hhead]

theorem slotPut_get_same (m : SMap Byte) (a : Nat) (b : Bytes) (k : Nat) (hs : m.wf zeroByte = true) (hlen : b.length ≤ 16384) (hk : k < b.length) :
    (slotPut m a b).get zeroByte ((a + k) % 16384) = b[k] := by
  induction b generalizing m a k with
  | nil => simp at hk
  | cons x r ih =>
    have hs' := Laws.set_wf zeroByte m (a % 16384) x hs
    simp only [List.length_cons] at hlen hk
    cases k with
    | zero =>
      rw [slotPut, slotPut_get_other _ _ _ _ hs' (fun k hk => by omega)]
      exact Laws.get_set_same zeroByte m _ x (Laws.wf_sorted hs)
    | succ k =>
      have := ih (m.set zeroByte (a % 16384) x) (a + 1) k hs' (by omega) (by omega)
      rw [show a + (k + 1) = a + 1 + k by omega]
      exact this

theorem getElem_leBytes (x : Word64) {n k : Nat} (hk : k < (leBytes n x.toNat).length) : (leBytes n x.toNat)[k] = x.extractLsb' (8 * k) 8 := by
  rw [List.getElem_of_eq (leBytes_eq_map n x.toNat), List.getElem_map, List.getElem_range, ofNat_byte_eq_extract]

/-- Outside every loop the next instruction stands one on. -/
theorem next_of_no_loops {v : Vm} (h : v.loops = []) (c : Nat) : v.next c = { v with pc := v.pc + 1, cycles := v.cycles + c } := by
  simp [Vm.next, Vm.land, landGo, h]

theorem st_of_no_loops {v : Vm} (h : v.loops = []) (n : Nat) (rd ra : Fin 16) (imm : BitVec 16) :
    v.st n rd ra imm = { v with slot := slotPut v.slot (v.addr ra imm) (leBytes n (v.get rd).toNat), pc := v.pc + 1, cycles := v.cycles + 2 } :=
  next_of_no_loops (v := v.setSlot _ _) h 2

/-- A store of `n` bytes outside every loop (R182). -/
theorem exec_store {c : Instr} {w n : Nat} {rd ra : Fin 16} {imm : BitVec 16} (hn : n ≤ 16384) (hx : ∀ s, exec c s = .next (s.otnak w (fun v => v.st n rd ra imm)))
    {s : State} {i : Item} {t : Tk} (hrun : Running s w i t) (hwf : i.vm.slot.wf zeroByte = true) (hloops : i.vm.loops = [])
    (hpc : ∀ a, t.applet = some a → i.vm.pc + 1 < a.code.length) :
    ∃ u m, exec c s = .next u ∧ OnlyItems s u ∧ u.units.items = itemsWith (onItsCores s i w) w { i.vm with slot := m, pc := i.vm.pc + 1, cycles := i.vm.cycles + 2 } ∧
      m.wf zeroByte = true ∧
      (∀ k, k < n → (m.get zeroByte (((i.vm.get ra + imm.zeroExtend 64).toNat + k) % 16384)) = (i.vm.get rd).extractLsb' (8 * k) 8) ∧
      (∀ a, (∀ k, k < n → a ≠ ((i.vm.get ra + imm.zeroExtend 64).toNat + k) % 16384) → m.get zeroByte a = i.vm.slot.get zeroByte a) := by
  have hst := st_of_no_loops hloops n rd ra imm
  have hgoes : GoesOn t (i.vm.st n rd ra imm) := by
    obtain ⟨-, -, -, -, hended, -⟩ := hrun
    rw [hst]
    exact ⟨hended, hpc⟩
  obtain ⟨u, hu, honly, hitems⟩ := Laws.turnsTo_of_otnak c w _ s i t _ (hx s) rfl hrun hgoes
  refine ⟨u, _, hu, honly, hst ▸ hitems, Laws.slotPut_wf _ _ _ hwf, fun k hk => ?_, fun a ha => ?_⟩
  · have hk' : k < (leBytes n (i.vm.get rd).toNat).length := by simpa using hk
    exact (slotPut_get_same _ _ _ k hwf (by simpa using hn) hk').trans (getElem_leBytes _ hk')
  · exact slotPut_get_other _ _ _ a hwf fun k hk => ha k (by simpa using hk)

/-- Settles O5: a read puts the number of its bytes into rd, and a store writes byte by byte into slot memory. -/
theorem otnakMemory : Obligations.OtnakMemory := by
  unfold Obligations.OtnakMemory
  refine ⟨fun w rd ra imm k j => ?_, fun w rd k => turns_of_otnak (fun _ => rfl) fun _ => rfl, ?_⟩
  · simp only [littleEndian_eq, bigEndian_eq]
    exact ⟨turns_of_otnak (fun _ => rfl) fun _ => rfl, turns_of_otnak (fun _ => rfl) fun _ => rfl, turns_of_otnak (fun _ => rfl) fun _ => rfl,
      turns_of_otnak (fun _ => rfl) fun _ => rfl, turns_of_otnak (fun _ => rfl) fun _ => rfl, turns_of_otnak (fun _ => rfl) fun _ => rfl,
      turns_of_otnak (fun _ => rfl) fun _ => rfl, turns_of_otnak (fun _ => rfl) fun _ => rfl,
      turns_of_otnak (fun _ => rfl) fun v => congrArg (fun x => (v.put rd x).next 2) (hmark_eq v.hostMarks (v.addr ra imm)),
      turns_of_otnak (fun _ => rfl) fun _ => rfl, turns_of_otnak (fun _ => rfl) fun _ => rfl, turns_of_otnak (fun _ => rfl) fun _ => rfl⟩
  · intro w rd ra imm c n hc s i t hrun hwf hloops hpc
    simp only [List.mem_cons, List.not_mem_nil, or_false, Prod.mk.injEq] at hc
    rcases hc with ⟨rfl, rfl⟩ | ⟨rfl, rfl⟩ | ⟨rfl, rfl⟩ | ⟨rfl, rfl⟩ <;> exact exec_store (by decide) (fun _ => rfl) hrun hwf hloops hpc

/-! FIND, HASHM and the emissions. -/

@[simp] theorem inBytes_length (v : Vm) (a n : Nat) : (v.inBytes a n).length = n := by simp [Vm.inBytes]

/-- FIND's search answers the first offset where the pattern stands. -/
theorem findGo_first {v : Vm} {pat : Bytes} {a b n : Nat} (hba : b ≤ a) (hfit : a + pat.length ≤ b + n) (hat : v.inBytes a pat.length = pat)
    (hpat : pat ≠ []) (hbefore : ∀ c, b ≤ c → c < a → v.inBytes c pat.length ≠ pat) : findGo v pat b n = some a := by
  have hpos : 0 < pat.length := List.length_pos_iff.mpr hpat
  induction n generalizing b with
  | zero => omega
  | succ n ih =>
    rw [findGo]
    by_cases hb : b = a
    · subst hb
      rw [if_pos ⟨by omega, hat⟩]
    · rw [if_neg fun h => hbefore b le_rfl (by omega) h.2]
      exact ih (by omega) (by omega) fun c hc => hbefore c (by omega)

/-- FIND's search answers nothing where the pattern stands nowhere within the window. -/
theorem findGo_none {v : Vm} {pat : Bytes} {b n : Nat}
    (hnone : ∀ c, b ≤ c → c + pat.length ≤ b + n → v.inBytes c pat.length ≠ pat) :
    findGo v pat b n = none := by
  induction n generalizing b with
  | zero => rfl
  | succ n ih =>
    rw [findGo, if_neg fun h => hnone b le_rfl (by omega) h.2]
    exact ih fun c hc hfit => hnone c (by omega) (by omega)

theorem beBytes_ne_nil {p : Nat} (hp : 1 ≤ p) (x : Nat) : beBytes p x ≠ [] :=
  List.ne_nil_of_length_pos (by rw [Laws.beBytes_length]; exact hp)

section
variable {v : Vm} (rd ra rb : Fin 16) {p : Nat} (k : Nat) (hp : 1 ≤ p)
include hp

theorem find_first {a : Nat} (hlo : (v.get ra).toNat ≤ a) (hhi : a + p ≤ (v.get ra).toNat + 2 ^ k) (hat : v.inBytes a p = beBytes p (v.get rb).toNat)
    (hbefore : ∀ b, (v.get ra).toNat ≤ b → b < a → v.inBytes b p ≠ beBytes p (v.get rb).toNat) :
    v.find rd ra rb p k = (v.put rd (BitVec.ofNat 64 a)).next (8 + 2 ^ (k - 4)) := by
  have hgo := findGo_first (v := v) (pat := beBytes p (v.get rb).toNat) (n := 2 ^ k) hlo (by simpa using hhi) (by simpa using hat) (beBytes_ne_nil hp _) (by simpa using hbefore)
  simp only [Vm.find, hgo]

omit hp in
theorem find_none (hnone : ∀ b, (v.get ra).toNat ≤ b → b + p ≤ (v.get ra).toNat + 2 ^ k → v.inBytes b p ≠ beBytes p (v.get rb).toNat) :
    v.find rd ra rb p k = (v.put rd 0xFFFFFFFFFFFFFFFF).next (8 + 2 ^ (k - 4)) := by
  have hgo := findGo_none (v := v) (pat := beBytes p (v.get rb).toNat) (b := (v.get ra).toNat) (n := 2 ^ k) (by simpa using hnone)
  simp only [Vm.find, hgo]
  rfl

end

section
variable {v : Vm} (ra rb : Fin 16) (imm : BitVec 16)

theorem emark_after {l : Nat} (hsearch : v.search = false) (hhost : v.marksFromHost = false) (hlast : v.marks.getLast? = some l) (hl : l < (v.get ra).toNat)
    (hin : (v.get ra).toNat < v.input.length) (hroom : v.marks.length < 65535) :
    v.emark ra = ({ v with marks := v.marks ++ [(v.get ra).toNat] } : Vm).next 4 := by
  simp [Vm.emark, hsearch, hhost, hlast, hl, hroom, Nat.not_le.mpr hin]

theorem emark_first (hsearch : v.search = false) (hhost : v.marksFromHost = false) (hnone : v.marks = []) (hin : (v.get ra).toNat < v.input.length) :
    v.emark ra = ({ v with marks := if v.get ra = 0 then [0] else [0, (v.get ra).toNat] } : Vm).next 4 := by
  have hzero : (v.get ra).toNat = 0 ↔ v.get ra = 0 := ⟨fun h => BitVec.eq_of_toNat_eq h, fun h => by rw [h]; rfl⟩
  simp [Vm.emark, hsearch, hhost, hnone, Nat.not_le.mpr hin, hzero]

theorem emark_ignored (h : v.search = true ∨ v.marksFromHost = true ∨ v.input.length ≤ (v.get ra).toNat ∨
    ∃ l, v.marks.getLast? = some l ∧ ((v.get ra).toNat ≤ l ∨ 65535 ≤ v.marks.length)) : v.emark ra = v.next 4 := by
  obtain h | h | h | ⟨l, hlast, hl⟩ := h
  · simp [Vm.emark, h]
  · simp [Vm.emark, h]
  · simp [Vm.emark, h]
  · have hno : ¬ (l < (v.get ra).toNat ∧ v.marks.length < 65535) := by omega
    simp [Vm.emark, hlast, hno]

theorem eindex_ignored (h : v.search = true ∨ 1024 ≤ v.index.length) : v.eindex ra rb imm = v.next 8 := by
  rcases h with h | h <;> simp [Vm.eindex, h]

theorem eindex_recorded (hsearch : v.search = false) (hroom : v.index.length < 1024) : v.eindex ra rb imm =
    ({ v with index := v.index ++ [{ kind := imm.toNat, frame := (v.get rb).toNat % 2 ^ 32, value := v.slotBytes (v.get ra).toNat 32 }] } : Vm).next 8 := by
  simp [Vm.eindex, hsearch, Nat.not_le.mpr hroom]

theorem ematch_ignored (h : v.search = false ∨ v.maxMatches ≤ v.matchRecs.length) : v.ematch ra rb = v.next 8 := by
  rcases h with h | h <;> simp [Vm.ematch, h]

theorem ematch_recorded (hsearch : v.search = true) (hroom : v.matchRecs.length < v.maxMatches) : v.ematch ra rb =
    ({ v with matchRecs := v.matchRecs ++ [{ frame := v.get rb, payload := v.slotBytes (v.get ra).toNat 32 }] } : Vm).next 8 := by
  simp [Vm.ematch, hsearch, Nat.not_le.mpr hroom]

end

theorem running_item {s : State} {w : Nat} {i : Item} {t : Tk} (h : Running s w i t) : s.units.items.find? (fun x => x.ticket == w) = some i := by
  obtain ⟨-, hi, -⟩ := h
  exact hi

/-- HASHM runs as any other instruction where a hash engine serves its stall's row (R212). -/
theorem otnakHash_served {s : State} {w : Nat} {i : Item} (f : Vm → Vm) (hi : s.units.items.find? (fun x => x.ticket == w) = some i)
    (hserve : (s.serving hashAddr (rowNo i.unit)).isSome = true) : s.otnakHash w f = s.otnak w f := by
  simp [State.otnakHash, hi, hserve]

theorem otnakHash_waits {s : State} {w : Nat} {i : Item} (f : Vm → Vm) (hi : s.units.items.find? (fun x => x.ticket == w) = some i)
    (hserve : s.serving hashAddr (rowNo i.unit) = none) : s.otnakHash w f = s := by
  simp [State.otnakHash, hi, hserve]

/-- Settles O6: FIND by its search, HASHM by its engine, each emission by whether it is recorded or ignored. -/
theorem otnakEmits : Obligations.OtnakEmits := by
  unfold Obligations.OtnakEmits
  intro w rd ra rb imm p k
  refine ⟨fun s i t a hp _ _ _ hlo hhi hat hbefore => ?_, fun s i t hp _ _ _ hnone => ?_, fun s i t hserve hrun hgoes => ?_, fun s i t hrun hserve => ?_,
    fun s i t l h1 h2 h3 h4 h5 h6 => ?_, fun s i t h1 h2 h3 h4 => ?_, fun s i t h => ?_, fun s i t h => ?_, fun s i t h => ?_, fun s i t h1 h2 => ?_, fun s i t h1 h2 => ?_⟩
  · exact Laws.turnsTo_of_otnak _ w _ s i t _ rfl (find_first rd ra rb k hp hlo hhi hat hbefore)
  · exact Laws.turnsTo_of_otnak _ w _ s i t _ rfl (find_none rd ra rb k hnone)
  · have hx : exec (.oHashm w ra rb imm) s = .next (s.otnak w (fun v => v.hashm ra rb imm)) := congrArg Host.Outcome.next (otnakHash_served _ (running_item hrun) hserve)
    exact Laws.turnsTo_of_otnak _ w _ s i t _ hx rfl hrun hgoes
  · exact congrArg Host.Outcome.next (otnakHash_waits _ (running_item hrun) hserve)
  · exact Laws.turnsTo_of_otnak _ w _ s i t _ rfl (emark_after ra h1 h2 h3 h4 h5 h6)
  · exact Laws.turnsTo_of_otnak _ w _ s i t _ rfl (emark_first ra h1 h2 h3 h4)
  · exact Laws.turnsTo_of_otnak _ w _ s i t _ rfl (emark_ignored ra h)
  · exact Laws.turnsTo_of_otnak _ w _ s i t _ rfl (eindex_ignored ra rb imm h)
  · exact Laws.turnsTo_of_otnak _ w _ s i t _ rfl (ematch_ignored ra rb h)
  · exact Laws.turnsTo_of_otnak _ w _ s i t _ rfl (eindex_recorded ra rb imm h1 h2)
  · exact Laws.turnsTo_of_otnak _ w _ s i t _ rfl (ematch_recorded ra rb h1 h2)

/-! Branches and loops. -/

/-- LOOPB's count of iterations is the least that covers the input (R182). -/
theorem ceilDiv_eq {n m k : Nat} (hm : 0 < m) (hlow : (k - 1) * m < n) (hk : 0 < k) (hhigh : n ≤ k * m) : ceilDiv n m = k := by
  rw [ceilDiv]
  refine Nat.div_eq_of_lt_le ?_ ?_
  · have : k * m = (k - 1) * m + m := by rw [← Nat.succ_mul]; congr 1; omega
    omega
  · rw [Nat.add_mul]
    omega

theorem loopB_eq {v : Vm} {n len : BitVec 12} {k : Nat} (hk : 0 < k) (hlow : (k - 1) * 2 ^ n.toNat < v.input.length) (hhigh : v.input.length ≤ k * 2 ^ n.toNat) :
    v.loopB n len = { v with
      pc := v.pc + 1, cycles := v.cycles + 2, regs := v.regs.set 15 0
      loops := { start := v.pc + 1, len := len.toNat, left := k - 1, iter := 1, step := some n.toNat } :: v.loops } := by
  rw [Vm.loopB, ceilDiv_eq (Nat.two_pow_pos _) hlow hk hhigh, Vm.loop, if_neg (by omega)]

theorem loopN_eq {v : Vm} {n : BitVec 12} (len : BitVec 12) (hn : n ≠ 0) : v.loopN n len = { v with
    pc := v.pc + 1, cycles := v.cycles + 2, loops := { start := v.pc + 1, len := len.toNat, left := n.toNat - 1, iter := 1, step := none } :: v.loops } := by
  have hn' : n.toNat ≠ 0 := fun h => hn (BitVec.eq_of_toNat_eq h)
  rw [Vm.loopN, Vm.loop, if_neg hn']

theorem leave_cons {v : Vm} {f : LoopFrame} {r : List LoopFrame} (h : v.loops = f :: r) :
    v.leave = ({ v with pc := f.start + f.len, cycles := v.cycles + 1, loops := r } : Vm).land := by
  simp only [Vm.leave, h]

/-- A branch whose predicate decides `P` jumps where `P` holds. -/
theorem branch_eq {p : Word64 → Word64 → Bool} {P : Prop} [Decidable P] (v : Vm) (ra rb : Fin 16) (off : BitVec 12) (h : p (v.get ra) (v.get rb) = decide P) :
    v.branch p ra rb off = if P then v.jump off.toNat else v.next 1 := by
  by_cases hP : P <;> simp [Vm.branch, h, hP]

theorem branch_eq_not {p : Word64 → Word64 → Bool} {P : Prop} [Decidable P] (v : Vm) (ra rb : Fin 16) (off : BitVec 12) (h : p (v.get ra) (v.get rb) = decide (¬P)) :
    v.branch p ra rb off = if P then v.next 1 else v.jump off.toNat := by
  by_cases hP : P <;> simp [Vm.branch, h, hP]

theorem branches_and_loops (w : Nat) (ra rb : Fin 16) (off n len : BitVec 12) :
    Turns (.oBeq w ra rb off) w (fun v => if v.get ra = v.get rb then v.jump off.toNat else v.next 1) ∧
    Turns (.oBne w ra rb off) w (fun v => if v.get ra = v.get rb then v.next 1 else v.jump off.toNat) ∧
    Turns (.oBltu w ra rb off) w (fun v => if v.get ra < v.get rb then v.jump off.toNat else v.next 1) ∧
    Turns (.oBgeu w ra rb off) w (fun v => if v.get ra < v.get rb then v.next 1 else v.jump off.toNat) ∧
    Turns (.oBlt w ra rb off) w (fun v => if (v.get ra).slt (v.get rb) then v.jump off.toNat else v.next 1) ∧
    Turns (.oBge w ra rb off) w (fun v => if (v.get ra).slt (v.get rb) then v.next 1 else v.jump off.toNat) ∧
    Turns (.oJmp w off) w (fun v => v.jump off.toNat) ∧
    (n ≠ 0 → Turns (.oLoop w n len) w (fun v => { v with
      pc := v.pc + 1, cycles := v.cycles + 2, loops := { start := v.pc + 1, len := len.toNat, left := n.toNat - 1, iter := 1, step := none } :: v.loops })) := by
  refine ⟨turns_of_otnak (fun _ => rfl) fun v => branch_eq v ra rb off ?_, turns_of_otnak (fun _ => rfl) fun v => branch_eq_not v ra rb off ?_,
    turns_of_otnak (fun _ => rfl) fun v => branch_eq v ra rb off ?_, turns_of_otnak (fun _ => rfl) fun v => branch_eq_not v ra rb off ?_,
    turns_of_otnak (fun _ => rfl) fun v => branch_eq v ra rb off ?_, turns_of_otnak (fun _ => rfl) fun v => branch_eq_not v ra rb off ?_,
    turns_of_otnak (fun _ => rfl) fun _ => rfl, fun hn => turns_of_otnak (fun _ => rfl) fun v => loopN_eq len hn⟩
  · exact beq_eq_decide _ _
  · rw [pNe, bne, decide_not, beq_eq_decide]
  · simp [pLtu, BitVec.lt_def]
  · simp [pGeu, BitVec.lt_def]
  · simp [pLt, BitVec.slt]
  · simp [pGe, BitVec.slt]

/-! END and REFUSE. -/

theorem onItsCores_ticket {s : State} {i : Item} {w : Nat} : (onItsCores s i w).map Item.ticket = s.units.items.map Item.ticket := by
  unfold onItsCores State.onCore
  split
  · rfl
  · rw [List.map_map]
    exact List.map_congr_left fun x _ => by simp only [Function.comp_apply]; split <;> rfl

/-- The spare's turn to another stall leaves the items, the tickets, the tabs and the vault. -/
theorem spareNext_frame (s : State) (row : Nat) : (s.spareNext row).units.items = s.units.items ∧ (s.spareNext row).host.tickets = s.host.tickets ∧
    (s.spareNext row).tabs = s.tabs ∧ (s.spareNext row).vault = s.vault := by
  unfold State.spareNext
  dsimp only
  split
  · split <;> simp [State.setUState]
  · exact ⟨rfl, rfl, rfl, rfl⟩

/-- A ticket that the fabric holds reads back as it was set. -/
theorem putTk_find {l : List Tk} {t t1 : Tk} {w : Nat} (ht : l.find? (fun x => x.id == w) = some t) (hid : t1.id = t.id) :
    (putTk l t1).find? (fun x => x.id == w) = some t1 := by
  induction l with
  | nil => simp at ht
  | cons x r ih =>
    have htw : t.id = w := by simpa using List.find?_some ht
    by_cases hx : x.id = w
    · have : x.id = t1.id := by omega
      simp [putTk, this, hid, htw]
    · have hxt : x.id ≠ t1.id := by omega
      have hr : r.find? (fun x => x.id == w) = some t := by simpa [List.find?_cons, hx] using ht
      simpa [putTk, List.find?_cons, hx, hxt] using ih hr

theorem setTk_tk {s : State} {t t1 : Tk} {w : Nat} (ht : s.tk? w = some t) (hid : t1.id = t.id) : (s.setTk t1).tk? w = some t1 :=
  putTk_find ht hid

theorem tk_id {s : State} {t : Tk} {w : Nat} (ht : s.tk? w = some t) : t.id = w := by simpa using List.find?_some ht

/-- The ticket of an item that has ended, as the till finds it. -/
def endedTk (s : State) (t : Tk) (epoch : Nat) (v : Option Vm) : Tk :=
  { s.outcome t epoch (((s.epochKey? (s.groupOf t) epoch).map EpochKey.key).getD []) v with stage := .ready, stall := none, epoch := some epoch }

/-- The state without the items of a ticket. -/
def withoutItems (s : State) (w : Nat) : State := { s with units := { s.units with items := s.units.items.filter (fun i => i.ticket != w) } }

theorem endItem_eq (s : State) (t : Tk) (unit epoch : Nat) (v : Option Vm) :
    s.endItem t unit epoch v = (withoutItems (s.setTk (endedTk s t epoch v)) t.id).spareNext (rowNo unit) := rfl

/-- An item's end leaves its ticket ready for the till, with a result and without a work slot (R112). -/
theorem endItem_says {s : State} {t : Tk} {w : Nat} (ht : s.tk? w = some t) (unit epoch : Nat) (v : Option Vm) :
    (s.endItem t unit epoch v).tk? w = some (endedTk s t epoch v) ∧ (∀ x ∈ (s.endItem t unit epoch v).units.items, x.ticket ≠ w) ∧
      (s.endItem t unit epoch v).tabs = s.tabs ∧ (s.endItem t unit epoch v).vault = s.vault := by
  have hid := tk_id ht
  rw [endItem_eq]
  obtain ⟨hitems, htickets, htabs, hvault⟩ := spareNext_frame (withoutItems (s.setTk (endedTk s t epoch v)) t.id) (rowNo unit)
  refine ⟨?_, fun x hx => ?_, htabs, hvault⟩
  · have hset : (s.setTk (endedTk s t epoch v)).tk? w = some (endedTk s t epoch v) := setTk_tk ht rfl
    rw [State.tk?, htickets]
    exact hset
  · rw [hitems] at hx
    have := (List.mem_filter.mp hx).2
    simp only [bne_iff_ne] at this
    omega

/-- The state once the cores run the item and its machine stands as `v`. -/
def turned (s : State) (i : Item) (w : Nat) (v : Vm) : State := (if i.core then s else s.onCore i.unit w).putVm w v

theorem turned_eq (s : State) (i : Item) (w : Nat) (v : Vm) : turned s i w v = { s with units := { s.units with items := itemsWith (onItsCores s i w) w v } } := by
  rw [turned, Laws.turned_items]
  rfl

theorem turned_serving (s : State) (i : Item) (w : Nat) (v : Vm) (base : Nat → Nat) (r : Nat) : (turned s i w v).serving base r = s.serving base r := by
  rw [turned_eq]
  rfl

section
variable {c : Instr} {w : Nat} {f : Vm → Vm} (hx : ∀ s, exec c s = .next (s.otnak w f)) {s : State} {i : Item} {t : Tk} (hrun : Running s w i t)
include hx hrun

/-- An ended item within its worst case whose engines are there leaves its stall (R112, R175). -/
theorem ended_leaves (hend : (f i.vm).ended ≠ .running) (hworst : (f i.vm).cycles ≤ (f i.vm).worst) (hcipher : (s.serving cipherAddr (rowNo i.unit)).isSome = true)
    (hhash : (s.serving hashAddr (rowNo i.unit)).isSome = true) (hsig : t.verifies (some (f i.vm)) = none) :
    ∃ u t', exec c s = .next u ∧ (∀ x ∈ u.units.items, x.ticket ≠ w) ∧ u.tk? w = some t' ∧ t'.stage = .ready ∧ t'.stall = none ∧ t'.epoch = some i.epoch ∧ t'.result.isSome = true ∧
      u.tabs = s.tabs ∧ u.vault = s.vault := by
  have hotnak : s.otnak w f = (turned s i w (f i.vm)).endItem t i.unit i.epoch (some (f i.vm)) := by
    rw [Laws.otnak_ends s w f i t hrun hend hworst]
    change (turned s i w (f i.vm)).handOver t i (some (f i.vm)) = _
    have hc : ((turned s i w (f i.vm)).serving cipherAddr (rowNo i.unit)).isNone = false := by simpa [turned_serving] using hcipher
    have hh : ((turned s i w (f i.vm)).serving hashAddr (rowNo i.unit)).isNone = false := by simpa [turned_serving] using hhash
    simp only [State.handOver, hc, hh, hsig, Bool.or_false, Bool.false_eq_true, if_false]
  obtain ⟨-, -, ht, -⟩ := hrun
  have htk : (turned s i w (f i.vm)).tk? w = some t := by rw [turned_eq]; exact ht
  obtain ⟨htk', hitems, htabs, hvault⟩ := endItem_says htk i.unit i.epoch (some (f i.vm))
  refine ⟨_, _, (hx s).trans (congrArg _ hotnak), hitems, htk', rfl, rfl, rfl, rfl, htabs.trans ?_, hvault.trans ?_⟩ <;> rw [turned_eq]

/-- An ended item past its worst case, or without an engine, stays on its stall (R112, R175). -/
theorem ended_stays (hend : (f i.vm).ended ≠ .running) (h : (f i.vm).worst < (f i.vm).cycles ∨ s.serving cipherAddr (rowNo i.unit) = none ∨ s.serving hashAddr (rowNo i.unit) = none) :
    ∃ u, exec c s = .next u ∧ OnlyItems s u ∧ u.units.items = itemsWith (onItsCores s i w) w (f i.vm) := by
  have hotnak : s.otnak w f = turned s i w (f i.vm) := by
    by_cases hworst : (f i.vm).worst < (f i.vm).cycles
    · obtain ⟨hr, hi, ht, hb, hgo, hcy, hcore⟩ := hrun
      have hm : s.mayRun i = true := by simp [State.mayRun, hgo, hcy, hcore]
      simp [State.otnak, Laws.runs_not_paused s hr, hi, ht, hb, hm, hend, hworst, turned]
    · rw [Laws.otnak_ends s w f i t hrun hend (by omega)]
      change (turned s i w (f i.vm)).handOver t i (some (f i.vm)) = _
      have hnone : (turned s i w (f i.vm)).serving cipherAddr (rowNo i.unit) = none ∨ (turned s i w (f i.vm)).serving hashAddr (rowNo i.unit) = none := by
        simpa only [turned_serving] using h.resolve_left hworst
      unfold State.handOver
      rcases hnone with h | h <;> simp [h]
  exact ⟨_, (hx s).trans (congrArg _ hotnak), by rw [turned_eq]; rfl, by rw [turned_eq]⟩

end

/-- Settles O7: the jumps by their predicates, and an ended program by what its hand-over finds. -/
theorem otnakControl : Obligations.OtnakControl := by
  unfold Obligations.OtnakControl
  constructor
  · intro w ra rb off n len
    obtain ⟨h1, h2, h3, h4, h5, h6, h7, h8⟩ := branches_and_loops w ra rb off n len
    exact ⟨h1, h2, h3, h4, h5, h6, h7, h8, fun s i t k _ _ hk hlow hhigh => Laws.turnsTo_of_otnak _ w _ s i t _ rfl (loopB_eq hk hlow hhigh),
      fun s i t f r h => Laws.turnsTo_of_otnak _ w _ s i t _ rfl (leave_cons h)⟩
  · intro w code c e hc s i t v hrun hv
    simp only [List.mem_cons, List.not_mem_nil, or_false, Prod.mk.injEq] at hc
    rcases hc with ⟨rfl, rfl⟩ | ⟨rfl, rfl⟩ <;> subst hv
    · exact ⟨ended_leaves (f := fun v => v.end_) (fun _ => rfl) hrun ItemEnd.noConfusion, ended_stays (f := fun v => v.end_) (fun _ => rfl) hrun ItemEnd.noConfusion⟩
    · exact ⟨ended_leaves (f := fun v => v.refuse code) (fun _ => rfl) hrun ItemEnd.noConfusion, ended_stays (f := fun v => v.refuse code) (fun _ => rfl) hrun ItemEnd.noConfusion⟩

/-! The machine itself (R180, R182). -/

theorem landGo_loops (v : Vm) (x l : List LoopFrame) : landGo { v with loops := x } l = landGo v l := by
  induction l with
  | nil => rfl
  | cons f r ih => simp only [landGo, ih]

theorem land_cons {v : Vm} {f : LoopFrame} {r : List LoopFrame} (h : v.loops = f :: r) : v.land = landGo v (f :: r) := by rw [Vm.land, h]

/-- Settles O8: registers by the vector's own laws, the pc by one unfolding of the loop stack. -/
theorem otnakMachine : Obligations.OtnakMachine := by
  unfold Obligations.OtnakMachine
  refine ⟨fun v r q x => ⟨rfl, rfl, fun hr => ?_, fun hq => ?_⟩, fun v c off => ⟨rfl, rfl, fun h => ?_, fun f r h hpc => ?_, fun f r h hpc hleft hstep => ?_,
    fun f r k h hpc hleft hstep => ?_, fun f r h hpc hleft => ?_⟩⟩
  · simp [Vm.get, Vm.put, hr]
  · have hval : q.val ≠ r.val := fun h => hq (Fin.ext h)
    by_cases hr : r = 0
    · simp [Vm.put, hr]
    · simp [Vm.get, Vm.put, hr, Ne.symm hval]
  · rw [Vm.land, h, landGo, ← h]
  · rw [land_cons h, landGo, if_neg hpc, ← h]
  · simp only [land_cons h, landGo, if_pos hpc, if_pos hleft, hstep]
  · simp only [land_cons h, landGo, if_pos hpc, if_pos hleft, hstep]
  · rw [land_cons h, landGo, if_pos hpc, if_neg (by omega)]
    exact (landGo_loops v r r).symm

/-! Encoded words (R181). -/

theorem toNat_append_eq {m n : Nat} (x : BitVec m) (y : BitVec n) : (x ++ y).toNat = x.toNat * 2 ^ n + y.toNat := by
  rw [BitVec.toNat_append, ← Nat.shiftLeft_add_eq_or_of_lt y.isLt, Nat.shiftLeft_eq]

theorem fin16_val (r : Fin 16) : fin16 r.val = r := by simp [fin16]

/-- A word of form R: opcode, three registers, 12 bits of 0. -/
theorem otnOf_formR (op : BitVec 8) (rd ra rb : Fin 16) :
    let o := otnOf (op ++ BitVec.ofNat 4 rd.val ++ BitVec.ofNat 4 ra.val ++ BitVec.ofNat 4 rb.val ++ (0 : BitVec 12))
    o.op = op.toNat ∧ o.a = rd.val ∧ o.b = ra.val ∧ o.c = rb.val := by
  simp only [otnOf, bits, toNat_append_eq, BitVec.toNat_ofNat]
  have := op.isLt
  refine ⟨?_, ?_, ?_, ?_⟩ <;> omega

/-- A word of form I: opcode, two registers, 16 bits of immediate. -/
theorem otnOf_formI (op : BitVec 8) (rd : Fin 16) (ra : BitVec 4) (imm : BitVec 16) :
    let o := otnOf (op ++ BitVec.ofNat 4 rd.val ++ ra ++ imm)
    o.op = op.toNat ∧ o.a = rd.val ∧ o.b = ra.toNat ∧ o.imm = imm.toNat := by
  simp only [otnOf, bits, toNat_append_eq, BitVec.toNat_ofNat]
  have := op.isLt
  have := ra.isLt
  have := imm.isLt
  refine ⟨?_, ?_, ?_, ?_⟩ <;> omega

/-- A word of form B: opcode, two registers, 4 bits of 0, 12 bits of distance. -/
theorem otnOf_formB (op : BitVec 8) (ra rb : Fin 16) (off : BitVec 12) :
    let o := otnOf (op ++ BitVec.ofNat 4 ra.val ++ BitVec.ofNat 4 rb.val ++ (0 : BitVec 4) ++ off)
    o.op = op.toNat ∧ o.a = ra.val ∧ o.b = rb.val ∧ o.len = off.toNat := by
  simp only [otnOf, bits, toNat_append_eq, BitVec.toNat_ofNat]
  have := op.isLt
  have := off.isLt
  refine ⟨?_, ?_, ?_, ?_⟩ <;> omega

/-- A byte of slot memory as a number of 64 bits. -/
theorem ld_one (v : Vm) (rd ra : Fin 16) (imm : BitVec 16) :
    v.ld 1 rd ra imm = (v.put rd ((v.slotByte (v.get ra + imm.zeroExtend 64).toNat).zeroExtend 64)).next 2 := by
  have hbyte : BitVec.ofNat 64 (leNat (v.slotBytes (v.addr ra imm) 1)) = (v.slotByte (v.get ra + imm.zeroExtend 64).toNat).zeroExtend 64 := by
    apply BitVec.eq_of_toNat_eq
    simp [Vm.slotBytes, leNat, Vm.addr]
  rw [Vm.ld, hbyte]

/-- Settles O9: the fields of each word are those it was written from, and the interpreter's arm for its opcode is the mnemonic's function. -/
theorem otnakEncodings : Obligations.OtnakEncodings := by
  unfold Obligations.OtnakEncodings
  intro v rd ra rb imm off
  refine ⟨?_, ?_, ?_, ?_, ?_, ?_, rfl⟩
  · obtain ⟨hop, ha, hb, hc⟩ := otnOf_formR 0x01 rd ra rb
    simp only [Vm.run, hop, ha, hb, hc, fin16_val]
    rfl
  · obtain ⟨hop, ha, hb, hc⟩ := otnOf_formR 0x09 rd ra rb
    simp only [Vm.run, hop, ha, hb, hc, fin16_val]
    rfl
  · obtain ⟨hop, ha, hb, hi⟩ := otnOf_formI 0x10 rd (BitVec.ofNat 4 ra.val) imm
    rw [BitVec.toNat_ofNat, Nat.mod_eq_of_lt ra.isLt] at hb
    simp only [Vm.run, hop, ha, hb, hi, fin16_val, BitVec.ofNat_toNat, BitVec.setWidth_eq]
    rfl
  · obtain ⟨hop, ha, -, hi⟩ := otnOf_formI 0x16 rd 0 imm
    simp only [Vm.run, hop, ha, hi, fin16_val, BitVec.ofNat_toNat, BitVec.setWidth_eq]
    rfl
  · obtain ⟨hop, ha, hb, hi⟩ := otnOf_formI 0x20 rd (BitVec.ofNat 4 ra.val) imm
    rw [BitVec.toNat_ofNat, Nat.mod_eq_of_lt ra.isLt] at hb
    rw [← ld_one]
    simp only [Vm.run, hop, ha, hb, hi, fin16_val, BitVec.ofNat_toNat, BitVec.setWidth_eq]
    rfl
  · obtain ⟨hop, ha, hb, hl⟩ := otnOf_formB 0x40 ra rb off
    simp only [Vm.run, hop, ha, hb, hl, fin16_val, BitVec.ofNat_toNat, BitVec.setWidth_eq]
    simp [Vm.branch, pEq]

end Sys2Proof.Proofs
end

section
/-! SUPPORT. What has nothing to do stays as it is: engines without operations, crates with room, the idle step; and the state right after reset. -/

namespace Sys2Proof.Proofs

open Sys2Proof Sys2Proof.Machine Sys2Proof.Safety

/-! Lists and stores. -/

theorem foldl_fixed {α β : Type} {f : α → β → α} {a : α} {l : List β} (h : ∀ b ∈ l, f a b = a) : l.foldl f a = a := by
  induction l with
  | nil => rfl
  | cons b r ih =>
    rw [List.foldl_cons, h b (by simp)]
    exact ih fun c hc => h c (by simp [hc])

/-- A store reads as the default or as one of its entries. -/
theorem get_default_or_mem {α : Type} (d : Nat → α) (m : SMap α) (k : Nat) : m.get d k = d k ∨ (k, m.get d k) ∈ m := by
  induction m with
  | nil => exact .inl rfl
  | cons p r ih =>
    obtain ⟨j, v⟩ := p
    unfold SMap.get
    split
    · rename_i h; subst h; exact .inr (by simp)
    · split
      · exact .inl rfl
      · exact ih.imp_right fun h => by simp [h]

/-- What holds of the default and of every entry holds of every value read. -/
theorem get_of_forall {α : Type} {d : Nat → α} {m : SMap α} {P : α → Prop} (hd : ∀ k, P (d k)) (hm : ∀ p ∈ m, P p.2) (k : Nat) : P (m.get d k) := by
  rcases get_default_or_mem d m k with h | h
  · rw [h]; exact hd k
  · exact hm _ h

/-! Engines without an operation. -/

theorem rowEng_idle {s : State} (h : RowsIdle s) (r : Nat) : (s.rowEng r).run = none ∧ (s.rowEng r).laneA = none ∧ (s.rowEng r).laneB = none := by
  obtain ⟨-, -, -, hrows⟩ := h
  exact get_of_forall (P := fun e : RowEng => e.run = none ∧ e.laneA = none ∧ e.laneB = none) (fun _ => ⟨rfl, rfl, rfl⟩) hrows r

theorem cipherEnd_of_no_run {s : State} {r : Nat} (h : (s.rowEng r).run = none) : s.cipherEnd r = s := by simp [State.cipherEnd, h]

theorem laneEnd_of_no_run {s : State} {r : Nat} (b : Bool) (ha : (s.rowEng r).laneA = none) (hb : (s.rowEng r).laneB = none) : s.laneEnd r b = s := by
  cases b <;> simp [State.laneEnd, ha, hb]

theorem settleRows_of_idle {s : State} (h : RowsIdle s) : s.settleRows = s := by
  have hends : s.crypto.rows.foldl (fun s p => ((s.cipherEnd p.1).laneEnd p.1 false).laneEnd p.1 true) s = s := foldl_fixed fun p _ => by
    obtain ⟨hrun, ha, hb⟩ := rowEng_idle h p.1
    rw [cipherEnd_of_no_run hrun, laneEnd_of_no_run _ ha hb, laneEnd_of_no_run _ ha hb]
  obtain ⟨hcipher, hhash, -, -⟩ := h
  unfold State.settleRows
  split
  · rfl
  · simp only [hends, hcipher, hhash, List.filterMap_nil, List.dedup_nil, List.foldl_nil, List.append_nil]

theorem pke_idle {s : State} (h : PoolIdle s) (e : Nat) : (s.pke e).run = none := by
  obtain ⟨-, -, hengines⟩ := h
  exact get_of_forall (P := fun e : PkeEng => e.run = none) (fun _ => rfl) hengines e

theorem pkeEnd_of_no_run {s : State} {e : Nat} (h : (s.pke e).run = none) : s.pkeEnd e = s := by simp [State.pkeEnd, h]

theorem drainPke_of_idle {s : State} (h : PoolIdle s) : s.drainPke = s := by
  have hends : s.crypto.pke.engines.foldl (fun s p => s.pkeEnd p.1) s = s := foldl_fixed fun p _ => pkeEnd_of_no_run (pke_idle h p.1)
  obtain ⟨hqueue, -, -⟩ := h
  unfold State.drainPke
  split
  · rfl
  · simp [hends, hqueue, pkeDrain]

theorem settle_of_idle {s : State} (hr : RowsIdle s) (hp : PoolIdle s) : s.settle = s := by
  rw [State.settle, settleRows_of_idle hr, drainPke_of_idle hp]

/-! Crates with room. -/

theorem maybeClose_of_room {s : State} (h : RoomLeft s) (id : Nat) : s.maybeClose id = s := by
  unfold State.maybeClose
  split
  · rfl
  · next c hc =>
    have hroom := h c (List.mem_of_find?_eq_some hc)
    refine if_neg fun hclose => ?_
    simp only [Bool.and_eq_true, decide_eq_true_eq] at hclose
    obtain ⟨⟨htakes, hres⟩, hfull⟩ := hclose
    have := hroom htakes
    omega

theorem closeFullCrates_of_room {s : State} (h : RoomLeft s) : s.closeFullCrates = s :=
  foldl_fixed fun st _ => by
    split
    · exact maybeClose_of_room h _
    · rfl

/-! The steps. -/

/-- Settles O1: the queue's front is the command that the step matches on. -/
theorem stepRunsFront : Obligations.StepRunsFront := by
  unfold Obligations.StepRunsFront
  intro c rest s h
  rw [step, h]

theorem tickClock_eq (s : State) :
    s.tickClock = if s.power.mode = .off ∧ s.power.pwrOk = false then s else { s with ledger := { s.ledger with rtc := s.ledger.rtc + 1 } } := by
  simp [State.tickClock]

theorem tickClock_frame (s : State) : s.tickClock.crypto = s.crypto ∧ s.tickClock.vault = s.vault ∧ s.tickClock.flash = s.flash := by
  rw [tickClock_eq]
  split <;> exact ⟨rfl, rfl, rfl⟩

/-- Settles O2: after the clock's count every part of the idle step finds nothing to do. -/
theorem idleStepCounts : Obligations.IdleStepCounts := by
  unfold Obligations.IdleStepCounts
  intro s hidle hrows hpool himage hroom
  obtain ⟨hcrypto, hvault, hflash⟩ := tickClock_frame s
  have hrows' : RowsIdle s.tickClock := by rwa [RowsIdle, hcrypto]
  have hpool' : PoolIdle s.tickClock := by rwa [PoolIdle, hcrypto]
  have hroom' : RoomLeft s.tickClock := by rwa [RoomLeft, hflash]
  have himage' : ¬ s.tickClock.vault.imageDue = true := by simp [hvault, himage]
  have hstep : step s = .next s.idle := by rw [step, hidle]
  rw [hstep, State.idle, settle_of_idle hrows' hpool', closeFullCrates_of_room hroom', State.dueImage, if_neg himage', tickClock_eq]

/-! The state right after reset. -/

/-- Settles O58: every store of the reset state lists nothing. -/
theorem resetIsCanonical : Obligations.ResetIsCanonical := by
  unfold Obligations.ResetIsCanonical
  refine ⟨⟨rfl, rfl, ?_⟩, rfl⟩
  exact ⟨rfl, rfl, rfl, rfl, rfl, rfl, rfl, rfl, rfl, rfl, rfl, rfl, rfl, rfl, rfl, fun x hx => by simp [State.reset] at hx, fun i hi => by simp [State.reset] at hi⟩

theorem reset_ring (n : Nat) : State.reset.ring n = Ring.reset n := rfl

theorem reset_ring_of_two_le {n : Nat} (h : 2 ≤ n) : State.reset.ring n = {} := by
  match n, h with
  | n + 2, _ => rfl

theorem reset_ringReg (n : Nat) : State.reset.ringReg n 0x00 = r64 0 ∧ State.reset.ringReg n 0x08 = r64 0 ∧
    State.reset.ringReg n 0x10 = r32 (if n = 0 then 0x82A00001 else if n = 1 then 0x80600002 else 0x02000000) ∧
    State.reset.ringReg n 0x14 = r32 0 ∧ State.reset.ringReg n 0x18 = r32 (if n ≤ 1 then 0x20020000 else 0x00020000) ∧ State.reset.ringReg n 0x1C = r32 0 := by
  obtain rfl | rfl | h : n = 0 ∨ n = 1 ∨ 2 ≤ n := by omega
  · decide
  · decide
  · have hne0 : n ≠ 0 := by omega
    have hne1 : n ≠ 1 := by omega
    have hgt : ¬ n ≤ 1 := by omega
    simp only [State.ringReg, reset_ring_of_two_le h, hne0, hne1, hgt, if_false]
    decide

/-- Settles O57: each register of the reset state by its value. -/
theorem resetRegisters : Obligations.ResetRegisters := by
  unfold Obligations.ResetRegisters
  refine ⟨?_, fun n _ => reset_ringReg n, ?_, ?_⟩
  · decide +kernel
  · have hlevels : ∀ n < 31, State.reset.tamperReg (0x100 + 4 * n) = r32 (Src.defaultLevel n * 2 ^ 29) ∧ 2 ≤ Src.defaultLevel n ∧ Src.defaultLevel n ≤ 4 := by decide +kernel
    exact fun n hn => ⟨_, hlevels n hn⟩
  · decide +kernel

end Sys2Proof.Proofs
end


section
/-! SUPPORT. What every command keeps of the state it starts from: the queue, the burnt bits of the OTP and the canonical form of the stores, said of one shared operation after
another (R375). -/

namespace Sys2Proof.Proofs

open Sys2Proof Sys2Proof.Machine Sys2Proof.Safety

/-- `s` keeps what `b` promises: `b`'s queue and unit identifier, its burnt bits, and, where `b` is canonical, the canonical form of every store. -/
structure Keeps (b s : State) : Prop where
  pending : s.pending = b.pending
  unitId : s.guard.otp.unitId = b.guard.otp.unitId
  counter : ∀ k : Nat, b.guard.otp.counter.getLsbD k = true → s.guard.otp.counter.getLsbD k = true
  fuses : ∀ n : Nat, b.guard.otp.fuses.getLsbD n = true → s.guard.otp.fuses.getLsbD n = true
  killAllowed : b.guard.otp.killAllowed = true → s.guard.otp.killAllowed = true
  rings : Canonical b → s.host.rings.wf Ring.reset = true
  tabs : Canonical b → s.tabs.ctx.wf Tab.closed = true
  msix0 : Canonical b → s.host.port0.msix.wf noMsix = true
  msix1 : Canonical b → s.host.port1.msix.wf noMsix = true
  unitStates : Canonical b → s.units.st.wf UnitSt.reset = true
  spares : Canonical b → s.units.spareFor.wf noSpare = true
  srcs : Canonical b → s.tamper.srcs.wf Src.at_ = true
  templates : Canonical b → s.tabs.templates.sorted = true
  targets : Canonical b → s.flash.targets.wf noTarget = true
  lanes : Canonical b → s.flash.lanes.wf noLane = true
  chans : Canonical b → s.flash.chans.wf noChan = true
  rows : Canonical b → s.crypto.rows.wf noRow = true
  engines : Canonical b → s.crypto.pke.engines.wf noPke = true
  lastMsg : Canonical b → s.dev.lastMsg.wf zeroOf = true
  ddrChans : Canonical b → s.ddr.chans.wf noDdrChan = true
  slots : Canonical b → s.boards.slots.wf noSlot = true
  cards : Canonical b → s.boards.cards.wf noCard = true
  sessions : Canonical b → ∀ x ∈ s.boards.sessions, x.id ≤ s.boards.lastSession
  items : Canonical b → ∀ i ∈ s.units.items, i.vm.slot.wf zeroByte = true

/-- An outcome that goes on with a state that keeps what `b` promises. -/
def GoesOnKeeping (b : State) (o : Host.Outcome State Fault Refusal) : Prop := ∀ t, o = .next t → Keeps b t

theorem keeps_refl (s : State) : Keeps s s where
  pending := rfl
  unitId := rfl
  counter := fun _ h => h
  fuses := fun _ h => h
  killAllowed := id
  rings := fun h => by obtain ⟨h, -⟩ := h; exact h
  tabs := fun h => by obtain ⟨-, h, -⟩ := h; exact h
  msix0 := fun h => by obtain ⟨-, -, h, -⟩ := h; exact h
  msix1 := fun h => by obtain ⟨-, -, -, h, -⟩ := h; exact h
  unitStates := fun h => by obtain ⟨-, -, -, -, h, -⟩ := h; exact h
  spares := fun h => by obtain ⟨-, -, -, -, -, h, -⟩ := h; exact h
  srcs := fun h => by obtain ⟨-, -, -, -, -, -, h, -⟩ := h; exact h
  templates := fun h => by obtain ⟨-, -, -, -, -, -, -, h, -⟩ := h; exact h
  targets := fun h => by obtain ⟨-, -, -, -, -, -, -, -, h, -⟩ := h; exact h
  lanes := fun h => by obtain ⟨-, -, -, -, -, -, -, -, -, h, -⟩ := h; exact h
  chans := fun h => by obtain ⟨-, -, -, -, -, -, -, -, -, -, h, -⟩ := h; exact h
  rows := fun h => by obtain ⟨-, -, -, -, -, -, -, -, -, -, -, h, -⟩ := h; exact h
  engines := fun h => by obtain ⟨-, -, -, -, -, -, -, -, -, -, -, -, h, -⟩ := h; exact h
  lastMsg := fun h => by obtain ⟨-, -, -, -, -, -, -, -, -, -, -, -, -, h, -⟩ := h; exact h
  ddrChans := fun h => by obtain ⟨-, -, -, -, -, -, -, -, -, -, -, -, -, -, h, -⟩ := h; exact h
  slots := fun h => by obtain ⟨-, -, -, -, -, -, -, -, -, -, -, -, -, -, -, h, -⟩ := h; exact h
  cards := fun h => by obtain ⟨-, -, -, -, -, -, -, -, -, -, -, -, -, -, -, -, h, -⟩ := h; exact h
  sessions := fun h => by obtain ⟨-, -, -, -, -, -, -, -, -, -, -, -, -, -, -, -, -, h, -⟩ := h; exact h
  items := fun h => by obtain ⟨-, -, -, -, -, -, -, -, -, -, -, -, -, -, -, -, -, -, h⟩ := h; exact h

theorem Keeps.canonical {b s : State} (h : Keeps b s) (hb : Canonical b) : Canonical s :=
  ⟨h.rings hb, h.tabs hb, h.msix0 hb, h.msix1 hb, h.unitStates hb, h.spares hb, h.srcs hb, h.templates hb, h.targets hb, h.lanes hb, h.chans hb, h.rows hb, h.engines hb,
    h.lastMsg hb, h.ddrChans hb, h.slots hb, h.cards hb, h.sessions hb, h.items hb⟩

variable {b s t : State}

theorem Keeps.trans (h : Keeps b s) (h' : Keeps s t) : Keeps b t where
  pending := h'.pending.trans h.pending
  unitId := h'.unitId.trans h.unitId
  counter := fun k hk => h'.counter k (h.counter k hk)
  fuses := fun n hn => h'.fuses n (h.fuses n hn)
  killAllowed := fun hk => h'.killAllowed (h.killAllowed hk)
  rings := fun hb => h'.rings (h.canonical hb)
  tabs := fun hb => h'.tabs (h.canonical hb)
  msix0 := fun hb => h'.msix0 (h.canonical hb)
  msix1 := fun hb => h'.msix1 (h.canonical hb)
  unitStates := fun hb => h'.unitStates (h.canonical hb)
  spares := fun hb => h'.spares (h.canonical hb)
  srcs := fun hb => h'.srcs (h.canonical hb)
  templates := fun hb => h'.templates (h.canonical hb)
  targets := fun hb => h'.targets (h.canonical hb)
  lanes := fun hb => h'.lanes (h.canonical hb)
  chans := fun hb => h'.chans (h.canonical hb)
  rows := fun hb => h'.rows (h.canonical hb)
  engines := fun hb => h'.engines (h.canonical hb)
  lastMsg := fun hb => h'.lastMsg (h.canonical hb)
  ddrChans := fun hb => h'.ddrChans (h.canonical hb)
  slots := fun hb => h'.slots (h.canonical hb)
  cards := fun hb => h'.cards (h.canonical hb)
  sessions := fun hb => h'.sessions (h.canonical hb)
  items := fun hb => h'.items (h.canonical hb)

theorem GoesOnKeeping.next (h : Keeps b s) : GoesOnKeeping b (.next s) := by
  intro t ht
  cases ht
  exact h

/-! Choices and folds. -/

theorem Keeps.ite {c : Prop} [Decidable c] (h : Keeps b s) (h' : Keeps b t) : Keeps b (if c then s else t) := by
  split
  · exact h
  · exact h'

theorem Keeps.foldl {α : Type} {f : State → α → State} {l : List α} (h : Keeps b s) (hf : ∀ s a, Keeps b s → Keeps b (f s a)) : Keeps b (l.foldl f s) := by
  induction l generalizing s with
  | nil => exact h
  | cons a l ih => exact ih (hf s a h)

theorem Keeps.getD {α : Type} {f : α → State} {o : Option α} (h : Keeps b s) (hf : ∀ a, Keeps b (f a)) : Keeps b ((o.map f).getD s) := by
  cases o with
  | none => exact h
  | some a => exact hf a

/-! Stores of items. -/

theorem wf_of_foldl {α β : Type} [DecidableEq α] {d : Nat → α} {f : SMap α → β → SMap α} {l : List β} {m : SMap α} (hm : m.wf d = true)
    (hf : ∀ m x, m.wf d = true → (f m x).wf d = true) : (l.foldl f m).wf d = true := by
  induction l generalizing m with
  | nil => exact hm
  | cons x l ih => exact ih (hf m x hm)

theorem wf_ite {α : Type} [DecidableEq α] {d : Nat → α} {c : Prop} [Decidable c] {m n : SMap α} (hm : m.wf d = true) (hn : n.wf d = true) :
    (if c then m else n).wf d = true := by
  split
  · exact hm
  · exact hn

theorem sorted_filter {α : Type} (p : Nat × α → Bool) {m : SMap α} (h : m.sorted = true) : SMap.sorted (m.filter p) = true := by
  induction m with
  | nil => rfl
  | cons q m ih =>
    obtain ⟨hab, hs⟩ := (Laws.sorted_cons_iff q.1 q.2 m).mp h
    rw [List.filter_cons]
    split
    · exact (Laws.sorted_cons_iff q.1 q.2 _).mpr ⟨fun x hx => hab x (List.mem_of_mem_filter hx), ih hs⟩
    · exact ih hs

theorem wf_filter {α : Type} [DecidableEq α] {d : Nat → α} (p : Nat × α → Bool) {m : SMap α} (h : m.wf d = true) : SMap.wf d (m.filter p) = true := by
  obtain ⟨hs, hd⟩ := (Laws.wf_iff d m).mp h
  exact (Laws.wf_iff d _).mpr ⟨sorted_filter p hs, fun x hx => hd x (List.mem_of_mem_filter hx)⟩

/-- A change of the values alone leaves the keys in their order. -/
theorem sorted_map_values {α β : Type} (f : Nat × α → β) {m : SMap α} (h : m.sorted = true) : SMap.sorted (m.map (fun p => (p.1, f p))) = true := by
  induction m with
  | nil => rfl
  | cons q m ih =>
    obtain ⟨hab, hs⟩ := (Laws.sorted_cons_iff q.1 q.2 m).mp h
    refine (Laws.sorted_cons_iff q.1 (f q) _).mpr ⟨fun x hx => ?_, ih hs⟩
    obtain ⟨y, hy, rfl⟩ := List.mem_map.mp hx
    exact hab y hy

theorem wf_map_values {α : Type} [DecidableEq α] {d : Nat → α} {f : Nat × α → α} {m : SMap α} (h : m.wf d = true) (hf : ∀ p, p.2 ≠ d p.1 → f p ≠ d p.1) :
    SMap.wf d (m.map (fun p => (p.1, f p))) = true := by
  obtain ⟨hs, hd⟩ := (Laws.wf_iff d m).mp h
  refine (Laws.wf_iff d _).mpr ⟨sorted_map_values f hs, fun x hx => ?_⟩
  obtain ⟨y, hy, rfl⟩ := List.mem_map.mp hx
  exact hf y (hd y hy)

theorem Keeps.port (h : Keeps b s) (p : Nat) (hb : Canonical b) : (s.port p).msix.wf noMsix = true := by
  unfold State.port
  split
  · exact h.msix0 hb
  · exact h.msix1 hb

theorem Keeps.items_filter (h : Keeps b s) (p : Item → Bool) (hb : Canonical b) : ∀ i ∈ s.units.items.filter p, i.vm.slot.wf zeroByte = true :=
  fun i hi => h.items hb i (List.mem_of_mem_filter hi)

theorem Keeps.items_map (h : Keeps b s) {f : Item → Item} (hf : ∀ i, i.vm.slot.wf zeroByte = true → (f i).vm.slot.wf zeroByte = true) (hb : Canonical b) :
    ∀ i ∈ s.units.items.map f, i.vm.slot.wf zeroByte = true := by
  intro i hi
  obtain ⟨x, hx, rfl⟩ := List.mem_map.mp hi
  exact hf x (h.items hb x hx)

/-! One component replaced; what `Canonical` says of it is carried over by the hypotheses. -/

theorem Keeps.withHost {x : HostIf} (h : Keeps b s) (hr : s.host.rings.wf Ring.reset = true → x.rings.wf Ring.reset = true)
    (h0 : s.host.port0.msix.wf noMsix = true → x.port0.msix.wf noMsix = true) (h1 : s.host.port1.msix.wf noMsix = true → x.port1.msix.wf noMsix = true) :
    Keeps b { s with host := x } := { h with rings := fun hb => hr (h.rings hb), msix0 := fun hb => h0 (h.msix0 hb), msix1 := fun hb => h1 (h.msix1 hb) }

theorem Keeps.withClasses {x : Classes} (h : Keeps b s) : Keeps b { s with classes := x } := { h with }

theorem Keeps.withTabs {x : TabStore} (h : Keeps b s) (hc : s.tabs.ctx.wf Tab.closed = true → x.ctx.wf Tab.closed = true)
    (ht : s.tabs.templates.sorted = true → x.templates.sorted = true) : Keeps b { s with tabs := x } :=
  { h with tabs := fun hb => hc (h.tabs hb), templates := fun hb => ht (h.templates hb) }

theorem Keeps.withLedger {x : Ledger} (h : Keeps b s) : Keeps b { s with ledger := x } := { h with }

theorem Keeps.withUnits {x : Units} (h : Keeps b s) (hs : s.units.st.wf UnitSt.reset = true → x.st.wf UnitSt.reset = true)
    (hf : s.units.spareFor.wf noSpare = true → x.spareFor.wf noSpare = true)
    (hi : (∀ i ∈ s.units.items, i.vm.slot.wf zeroByte = true) → ∀ i ∈ x.items, i.vm.slot.wf zeroByte = true) : Keeps b { s with units := x } :=
  { h with unitStates := fun hb => hs (h.unitStates hb), spares := fun hb => hf (h.spares hb), items := fun hb => hi (h.items hb) }

theorem Keeps.withCrypto {x : Crypto} (h : Keeps b s) (hr : s.crypto.rows.wf noRow = true → x.rows.wf noRow = true)
    (he : s.crypto.pke.engines.wf noPke = true → x.pke.engines.wf noPke = true) : Keeps b { s with crypto := x } :=
  { h with rows := fun hb => hr (h.rows hb), engines := fun hb => he (h.engines hb) }

theorem Keeps.withVault {x : Vault} (h : Keeps b s) : Keeps b { s with vault := x } := { h with }

theorem Keeps.withFlash {x : Flash} (h : Keeps b s) (ht : s.flash.targets.wf noTarget = true → x.targets.wf noTarget = true)
    (hl : s.flash.lanes.wf noLane = true → x.lanes.wf noLane = true) (hc : s.flash.chans.wf noChan = true → x.chans.wf noChan = true) :
    Keeps b { s with flash := x } := { h with targets := fun hb => ht (h.targets hb), lanes := fun hb => hl (h.lanes hb), chans := fun hb => hc (h.chans hb) }

theorem Keeps.withDdr {x : Ddr} (h : Keeps b s) (hc : s.ddr.chans.wf noDdrChan = true → x.chans.wf noDdrChan = true) : Keeps b { s with ddr := x } :=
  { h with ddrChans := fun hb => hc (h.ddrChans hb) }

theorem Keeps.withBoards {x : Boards} (h : Keeps b s) (hs : s.boards.slots.wf noSlot = true → x.slots.wf noSlot = true)
    (hc : s.boards.cards.wf noCard = true → x.cards.wf noCard = true)
    (hx : (∀ y ∈ s.boards.sessions, y.id ≤ s.boards.lastSession) → ∀ y ∈ x.sessions, y.id ≤ x.lastSession) : Keeps b { s with boards := x } :=
  { h with slots := fun hb => hs (h.slots hb), cards := fun hb => hc (h.cards hb), sessions := fun hb => hx (h.sessions hb) }

theorem Keeps.withTamper {x : Tamper} (h : Keeps b s) (hs : s.tamper.srcs.wf Src.at_ = true → x.srcs.wf Src.at_ = true) : Keeps b { s with tamper := x } :=
  { h with srcs := fun hb => hs (h.srcs hb) }

theorem Keeps.withGuard {x : Guard} (h : Keeps b s) (ho : x.otp = s.guard.otp) : Keeps b { s with guard := x } where
  __ := h
  unitId := (congrArg Otp.unitId ho).trans h.unitId
  counter := fun k hk => (congrArg (·.counter.getLsbD k) ho).trans (h.counter k hk)
  fuses := fun n hn => (congrArg (·.fuses.getLsbD n) ho).trans (h.fuses n hn)
  killAllowed := fun hk => (congrArg Otp.killAllowed ho).trans (h.killAllowed hk)

theorem Keeps.withPower {x : Power} (h : Keeps b s) : Keeps b { s with power := x } := { h with }

theorem Keeps.withFault {x : Fault_} (h : Keeps b s) : Keeps b { s with fault := x } := { h with }

theorem Keeps.withDev {x : Dev} (h : Keeps b s) (hm : s.dev.lastMsg.wf zeroOf = true → x.lastMsg.wf zeroOf = true) : Keeps b { s with dev := x } :=
  { h with lastMsg := fun hb => hm (h.lastMsg hb) }

theorem wf_filter_kept {α : Type} [DecidableEq α] {d : Nat → α} {f : Nat × α → α} {m : SMap α} (h : m.wf d = true) :
    SMap.wf d ((m.map (fun p => (p.1, f p))).filter (fun p => decide (p.2 ≠ d p.1))) = true := by
  obtain ⟨hs, -⟩ := (Laws.wf_iff d m).mp h
  refine (Laws.wf_iff d _).mpr ⟨sorted_filter _ (sorted_map_values f hs), fun x hx => ?_⟩
  simpa using (List.mem_filter.mp hx).2

theorem sessions_map {f : Session → Session} {l : List Session} {n : Nat} (h : ∀ y ∈ l, y.id ≤ n) (hf : ∀ y, y.id ≤ n → (f y).id ≤ n) :
    ∀ y ∈ l.map f, y.id ≤ n := by
  intro y hy
  obtain ⟨z, hz, rfl⟩ := List.mem_map.mp hy
  exact hf z (h z hz)

/-! Slot memory: only the stores and HASHM write it. -/

theorem wf_land {v : Vm} (hv : v.slot.wf zeroByte = true) : v.land.slot.wf zeroByte = true := by
  have hgo : ∀ l, (landGo v l).slot = v.slot := by
    intro l
    induction l with
    | nil => rfl
    | cons f l ih =>
      unfold landGo
      split
      · split
        · cases f.step <;> rfl
        · exact ih
      · rfl
  rw [Vm.land, hgo]
  exact hv

theorem wf_next {v : Vm} {c : Nat} (hv : v.slot.wf zeroByte = true) : (v.next c).slot.wf zeroByte = true := wf_land hv

theorem wf_jump {v : Vm} {off : Nat} (hv : v.slot.wf zeroByte = true) : (v.jump off).slot.wf zeroByte = true := wf_land hv

theorem wf_put {v : Vm} {r : Fin 16} {x : Word64} (hv : v.slot.wf zeroByte = true) : (v.put r x).slot.wf zeroByte = true := by
  unfold Vm.put
  split <;> exact hv

theorem wf_st {v : Vm} {n : Nat} {rd ra : Fin 16} {imm : BitVec 16} (hv : v.slot.wf zeroByte = true) : (v.st n rd ra imm).slot.wf zeroByte = true :=
  wf_next (Laws.setSlot_wf v _ _ hv)

theorem wf_hashm {v : Vm} {ra rb : Fin 16} {imm : BitVec 16} (hv : v.slot.wf zeroByte = true) : (v.hashm ra rb imm).slot.wf zeroByte = true :=
  wf_next (Laws.setSlot_wf v _ _ hv)

theorem wf_branch {v : Vm} {p : Word64 → Word64 → Bool} {ra rb : Fin 16} {off : BitVec 12} (hv : v.slot.wf zeroByte = true) :
    (v.branch p ra rb off).slot.wf zeroByte = true := by
  unfold Vm.branch
  split
  · exact wf_jump hv
  · exact wf_next hv

theorem wf_loop {v : Vm} {n len : Nat} {step : Option Nat} (hv : v.slot.wf zeroByte = true) : (v.loop n len step).slot.wf zeroByte = true := by
  unfold Vm.loop
  split
  · exact wf_land hv
  · cases step <;> exact hv

theorem wf_leave {v : Vm} (hv : v.slot.wf zeroByte = true) : v.leave.slot.wf zeroByte = true := by
  unfold Vm.leave
  split
  · exact wf_next hv
  · exact wf_land hv

theorem wf_emark {v : Vm} {ra : Fin 16} (hv : v.slot.wf zeroByte = true) : (v.emark ra).slot.wf zeroByte = true := by
  unfold Vm.emark
  refine wf_next ?_
  split
  · exact hv
  · split
    · split <;> exact hv
    · exact hv

theorem wf_eindex {v : Vm} {ra rb : Fin 16} {kind : BitVec 16} (hv : v.slot.wf zeroByte = true) : (v.eindex ra rb kind).slot.wf zeroByte = true := by
  refine wf_next ?_
  split <;> exact hv

theorem wf_ematch {v : Vm} {ra rb : Fin 16} (hv : v.slot.wf zeroByte = true) : (v.ematch ra rb).slot.wf zeroByte = true := by
  refine wf_next ?_
  split <;> exact hv

/-! The operations of Machine/State. -/


/-! The operations of Machine/Ops. -/

theorem Keeps.tickClock (h : Keeps b s) : Keeps b (State.tickClock s) := by
  unfold State.tickClock
  dsimp only
  split
  · exact h
  · exact h.withLedger

theorem Keeps.reach {t1} (h : Keeps b s) : Keeps b (State.reach s t1) :=
  h.withLedger

theorem Keeps.drewBytes {n} (h : Keeps b s) : Keeps b (State.drewBytes s n) :=
  { h with }

theorem Keeps.setRing {n} {r} (h : Keeps b s) : Keeps b (State.setRing s n r) :=
  { h with
        rings := fun hb => Laws.set_wf _ _ _ _ (h.rings hb) }

theorem Keeps.setTab {t1} {c} (h : Keeps b s) : Keeps b (State.setTab s t1 c) :=
  { h with
        tabs := fun hb => Laws.set_wf _ _ _ _ (h.tabs hb) }

theorem Keeps.setPort {p : Nat} {v : Port} (h : Keeps b s) (hv : Canonical b → v.msix.wf noMsix = true) : Keeps b (s.setPort p v) :=
  .ite { h with msix0 := hv } { h with msix1 := hv }

theorem Keeps.setTk {t1} (h : Keeps b s) : Keeps b (State.setTk s t1) :=
  { h with }

theorem Keeps.dropTk {id} (h : Keeps b s) : Keeps b (State.dropTk s id) :=
  { h with }

theorem Keeps.setUnit {a} {u} (h : Keeps b s) : Keeps b (State.setUnit s a u) :=
  { h with
        unitStates := fun hb => Laws.set_wf _ _ _ _ (h.unitStates hb) }

theorem Keeps.setSpareFor {row} {v} (h : Keeps b s) : Keeps b (State.setSpareFor s row v) :=
  { h with
        spares := fun hb => Laws.set_wf _ _ _ _ (h.spares hb) }

theorem Keeps.setSrc {n} {v} (h : Keeps b s) : Keeps b (State.setSrc s n v) :=
  { h with
        srcs := fun hb => Laws.set_wf _ _ _ _ (h.srcs hb) }

theorem Keeps.setChan {c} {v} (h : Keeps b s) : Keeps b (State.setChan s c v) :=
  { h with
        chans := fun hb => Laws.set_wf _ _ _ _ (h.chans hb) }

theorem Keeps.setTarget {t1} {v} (h : Keeps b s) : Keeps b (State.setTarget s t1 v) :=
  { h with
        targets := fun hb => Laws.set_wf _ _ _ _ (h.targets hb) }

theorem Keeps.setDdrChan {c} {v} (h : Keeps b s) : Keeps b (State.setDdrChan s c v) :=
  { h with
        ddrChans := fun hb => Laws.set_wf _ _ _ _ (h.ddrChans hb) }

theorem Keeps.setSlot {n} {v} (h : Keeps b s) : Keeps b (State.setSlot s n v) :=
  { h with
        slots := fun hb => Laws.set_wf _ _ _ _ (h.slots hb) }

theorem Keeps.setCard {n} {v} (h : Keeps b s) : Keeps b (State.setCard s n v) :=
  { h with
        cards := fun hb => Laws.set_wf _ _ _ _ (h.cards hb) }

theorem Keeps.setRowEng {r} {v} (h : Keeps b s) : Keeps b (State.setRowEng s r v) :=
  { h with
        rows := fun hb => Laws.set_wf _ _ _ _ (h.rows hb) }

theorem Keeps.setPke {e} {v} (h : Keeps b s) : Keeps b (State.setPke s e v) :=
  { h with
        engines := fun hb => Laws.set_wf _ _ _ _ (h.engines hb) }

theorem Keeps.emit {w} (h : Keeps b s) : Keeps b (State.emit s w) :=
  { h with }

theorem Keeps.messageSent {held c} (h : Keeps b s) :
    Keeps b { s with dev := { s.dev with heldMsg := held, lastMsg := s.dev.lastMsg.set zeroOf c (s.now + 1) } } :=
  h.withDev fun hm => Laws.set_wf zeroOf s.dev.lastMsg c (s.now + 1) hm

theorem Keeps.sendIntr {c} (h : Keeps b s) : Keeps b (s.sendIntr c) := by
  unfold State.sendIntr
  dsimp only
  split
  · exact h
  · split
    · exact { h with }
    · split
      · exact { h with }
      · exact h.messageSent.emit

theorem Keeps.signal {c} (h : Keeps b s) : Keeps b (State.signal s c) := by
  unfold State.signal
  split
  · exact h.sendIntr
  · exact h

theorem Keeps.devEvent {b1} (h : Keeps b s) : Keeps b (State.devEvent s b1) := by
  unfold State.devEvent
  dsimp only
  split
  · exact h
  · exact .signal { h with }

theorem Keeps.cartEvent {b1} (h : Keeps b s) : Keeps b (State.cartEvent s b1) := by
  unfold State.cartEvent
  dsimp only
  split
  · exact h
  · exact .signal { h with }

theorem Keeps.faultEvent {b1} (h : Keeps b s) : Keeps b (State.faultEvent s b1) := by
  unfold State.faultEvent
  dsimp only
  split
  · exact h
  · exact h.withFault.signal

theorem Keeps.notify {n} (h : Keeps b s) : Keeps b (State.notify s n) := by
  unfold State.notify
  dsimp only
  split
  · exact h
  · exact .signal { h with }

theorem Keeps.settleHeld {c} (h : Keeps b s) : Keeps b (State.settleHeld s c) := by
  unfold State.settleHeld
  dsimp only
  split
  · exact h
  · exact { h with }

theorem Keeps.messageKept {c} (h : Keeps b s) : Keeps b { s with dev := { s.dev with heldMsg := setBit s.dev.heldMsg c false, lastMsg := s.dev.lastMsg.set zeroOf c (s.now + 1) } } :=
  h.messageSent

theorem Keeps.releaseIntr {sent} (h : Keeps b s) : Keeps b (s.releaseIntr sent) :=
  .foldl h fun _ _ h1 => .ite (.ite (h1.withDev id) (.ite h1.messageKept (.sendIntr (h1.withDev id)))) h1

theorem Keeps.addEvent {type} {body} (h : Keeps b s) : Keeps b (State.addEvent s type body) := by
  unfold State.addEvent
  dsimp only
  split
  · exact h.withLedger
  · exact h

theorem Keeps.countFault {a} (h : Keeps b s) : Keeps b (State.countFault s a) := by
  unfold State.countFault
  dsimp only
  exact h.setUnit

theorem Keeps.logFault {d} (h : Keeps b s) : Keeps b (State.logFault s d) := by
  unfold State.logFault
  dsimp only
  exact .foldl (.withFault (.ite h.countFault h)) (fun _ _ h3 => h3.faultEvent)

theorem Keeps.patchFault {cls} {unit} {detail} {outcome} (h : Keeps b s) : Keeps b (State.patchFault s cls unit detail outcome) := by
  unfold State.patchFault
  dsimp only
  split
  · exact h.withFault
  · split
    · exact h.withFault
    · exact h

theorem Keeps.flushFaults (h : Keeps b s) : Keeps b (State.flushFaults s) := by
  unfold State.flushFaults
  dsimp only
  split
  · exact h.withFault
  · exact h

theorem Keeps.flushTamper (h : Keeps b s) : Keeps b (State.flushTamper s) := by
  unfold State.flushTamper
  dsimp only
  split
  · exact { h with }
  · exact h

theorem Keeps.wakeRow {row} (h : Keeps b s) : Keeps b (State.wakeRow s row) :=
  h.withPower

/-- A change of the targets and of which groups are gated. -/
theorem Keeps.withGates {gated} {targets : SMap Target} (h : Keeps b s) (ht : Canonical b → targets.wf noTarget = true) :
    Keeps b { s with power := { s.power with groupGated := gated }, flash := { s.flash with targets := targets } } := { h with targets := ht }

theorem wf_trainDue {m : SMap Target} {g : Nat} (hm : m.wf noTarget = true) :
    SMap.wf noTarget (m.map fun p => (p.1, if p.1 / 128 = g then { p.2 with trainDue := true } else p.2)) = true := by
  refine wf_map_values hm fun p hp => ?_
  split
  · exact fun h => Bool.noConfusion (congrArg Target.trainDue h)
  · exact hp

theorem Keeps.wakeGroup {g} (h : Keeps b s) : Keeps b (s.wakeGroup g) :=
  .ite ((h.withGates fun hb => wf_ite (wf_trainDue (h.targets hb)) (h.targets hb)).foldl fun _ _ h1 => .ite h1.setChan h1) h

theorem Keeps.wakeAll (h : Keeps b s) : Keeps b (State.wakeAll s) := by
  unfold State.wakeAll
  dsimp only
  exact h.withPower.foldl (fun _ _ h3 => h3.wakeGroup)

theorem Keeps.withModeLog {log} (h : Keeps b s) : Keeps b { s with tamper := { s.tamper with modeLog := log } } := { h with }

theorem Keeps.keepMode {body} (h : Keeps b s) : Keeps b (s.keepMode body) :=
  .ite h.withModeLog h

theorem Keeps.changeMode {m} {cause} (h : Keeps b s) : Keeps b (State.changeMode s m cause) := by
  unfold State.changeMode
  dsimp only
  split
  · exact h.withPower.keepMode.addEvent.devEvent
  · exact h.withPower.keepMode.addEvent.devEvent.wakeAll

theorem Keeps.checkBacklog (h : Keeps b s) : Keeps b (State.checkBacklog s) := by
  unfold State.checkBacklog
  split
  · exact h.changeMode
  · exact h


/-! The operations of Machine/HostOps. -/

theorem Keeps.ringMessage {n} (h : Keeps b s) : Keeps b (State.ringMessage s n) := by
  unfold State.ringMessage
  dsimp only
  split
  · exact h.setRing.emit
  · exact h.setRing

theorem Keeps.moderate {n} {noIrq} (h : Keeps b s) : Keeps b (State.moderate s n noIrq) := by
  unfold State.moderate
  dsimp only
  split
  · split
    · exact h
    · exact h.ringMessage
  · split
    · exact h.setRing
    · split
      · exact h.setRing.ringMessage
      · exact h.setRing

theorem Keeps.latReceipt {cls} {rc} (h : Keeps b s) : Keeps b (State.latReceipt s cls rc) := by
  unfold State.latReceipt
  dsimp only
  split
  · exact h.withClasses
  · exact h

theorem Keeps.writeReceipt {n} {rc} (h : Keeps b s) : Keeps b (State.writeReceipt s n rc) := by
  unfold State.writeReceipt
  dsimp only
  exact h.setRing.emit.moderate.latReceipt

theorem Keeps.postReceipt {n} {rc} (h : Keeps b s) : Keeps b (State.postReceipt s n rc) := by
  unfold State.postReceipt
  dsimp only
  split
  · exact h.setRing
  · split
    · exact h.setRing
    · split
      · exact h.setRing
      · exact h.writeReceipt

theorem Keeps.postHeld {n} (h : Keeps b s) : Keeps b (State.postHeld s n) := by
  unfold State.postHeld
  dsimp only
  exact h.setRing.foldl (fun _ _ h3 => h3.postReceipt)

theorem Keeps.releaseMsgs (h : Keeps b s) : Keeps b (State.releaseMsgs s) := by
  unfold State.releaseMsgs
  dsimp only
  exact .releaseIntr (h.foldl (fun _ _ h4 => .ite (.ite h4.setRing.emit h4.setRing) h4))

theorem Keeps.writeWmt {t1} (h : Keeps b s) : Keeps b (State.writeWmt s t1) := by
  unfold State.writeWmt
  dsimp only
  split
  · exact { h with }
  · exact .emit { h with }

theorem Keeps.flushMarked (h : Keeps b s) : Keeps b (State.flushMarked s) :=
  h.foldl (fun _ _ h2 => (by
      split
      · exact h2.writeWmt
      · exact h2))

theorem Keeps.boundaryWmt (h : Keeps b s) : Keeps b (State.boundaryWmt s) :=
  h.foldl (fun _ _ h2 => .ite h2 h2.writeWmt)

theorem Keeps.portReturns {p} (h : Keeps b s) : Keeps b (State.portReturns s p) := by
  unfold State.portReturns
  dsimp only
  exact .releaseMsgs (.flushMarked (.ite (h.foldl (fun _ _ h6 => .ite h6.postHeld h6)) h))

theorem Keeps.checkRest (h : Keeps b s) : Keeps b (State.checkRest s) := by
  unfold State.checkRest
  split
  · exact h.changeMode
  · exact h

theorem Keeps.releaseTabs {n} (h : Keeps b s) : Keeps b (State.releaseTabs s n) :=
  { h with
        tabs := fun hb => wf_of_foldl (h.tabs hb) fun _ _ hm0 => Laws.set_wf _ _ _ _ hm0 }

theorem Keeps.ringError {n} {e} (h : Keeps b s) : Keeps b (State.ringError s n e) := by
  unfold State.ringError
  dsimp only
  exact h.setRing

theorem Keeps.setFetchPool {p} (h : Keeps b s) : Keeps b (State.setFetchPool s p) :=
  h.withClasses

theorem Keeps.setStagingPool {p} (h : Keeps b s) : Keeps b (State.setStagingPool s p) :=
  h.withClasses

theorem Keeps.pruneRot (h : Keeps b s) : Keeps b (State.pruneRot s) :=
  h.withClasses

theorem Keeps.markWaiting {cls} {rung} (h : Keeps b s) : Keeps b (State.markWaiting s cls rung) := by
  unfold State.markWaiting
  dsimp only
  split
  · exact h.withClasses.logFault
  · exact h.withClasses

theorem Keeps.noteWait {cls} {rung} {us} (h : Keeps b s) : Keeps b (State.noteWait s cls rung us) := by
  unfold State.noteWait
  split
  · exact h.markWaiting
  · exact h

theorem Keeps.noteLeave {t1} (h : Keeps b s) : Keeps b (State.noteLeave s t1) := by
  unfold State.noteLeave
  split
  · exact h.noteWait
  · exact h

theorem Keeps.pickClass {point q cost} {r : Nat × State} (h : Keeps b s) (he : s.pickClass point q cost = some r) : Keeps b r.2 := by
  unfold State.pickClass at he
  split at he
  · cases he
    exact h
  · obtain ⟨x, -, rfl⟩ := Option.map_eq_some_iff.mp he
    exact { h with }

theorem Keeps.unreserve {t1} (h : Keeps b s) : Keeps b (State.unreserve s t1) := by
  unfold State.unreserve
  dsimp only
  split
  · exact { h with }
  · exact h

theorem Keeps.returnTokens {t1} (h : Keeps b s) : Keeps b (State.returnTokens s t1) := by
  unfold State.returnTokens
  dsimp only
  exact .unreserve (.ite (.setStagingPool (.ite (.withClasses (.ite h.setFetchPool h)) (.ite h.setFetchPool h))) (.ite (.withClasses (.ite h.setFetchPool h)) (.ite h.setFetchPool h)))

theorem Keeps.postOne {t : State} (h : Keeps b s) (he : s.postOne = some t) : Keeps b t := by
  unfold State.postOne at he
  split at he
  · split at he
    · cases he
      exact h.dropTk.postReceipt
    · cases he
  · cases he

theorem Keeps.postReady {n} (h : Keeps b s) : Keeps b (postReady n s) := by
  induction n generalizing s with
  | zero => exact h
  | succ n ih =>
    unfold Machine.postReady
    split
    · exact ih (h.postOne ‹_›)
    · exact h

theorem Keeps.postAll (h : Keeps b s) : Keeps b (State.postAll s) :=
  h.postReady

theorem Keeps.finish {t1} {rc} {us} (h : Keeps b s) : Keeps b (State.finish s t1 rc us) :=
  h.returnTokens.setTk.postAll

theorem Keeps.finishWith {t1} {status} {us} (h : Keeps b s) : Keeps b (State.finishWith s t1 status us) :=
  h.finish

theorem Keeps.undoTab {t1} (h : Keeps b s) : Keeps b (State.undoTab s t1) := by
  unfold State.undoTab
  dsimp only
  split
  · exact h
  · split
    · exact h.setTab
    · split
      · split
        · exact h.setTab
        · exact h.setTab
      · exact h

theorem Keeps.withdraw {p} {status} {post} (h : Keeps b s) : Keeps b (State.withdraw s p status post) := by
  unfold State.withdraw
  dsimp only
  split
  · exact .postAll (.pruneRot { h.foldl (fun _ _ h7 => h7.noteLeave.returnTokens.undoTab) with
        items := fun hb => (h.foldl (fun _ _ h7 => h7.noteLeave.returnTokens.undoTab)).items_filter _ hb })
  · exact .pruneRot { h.foldl (fun _ _ h6 => h6.noteLeave.returnTokens.undoTab) with
        items := fun hb => (h.foldl (fun _ _ h6 => h6.noteLeave.returnTokens.undoTab)).items_filter _ hb }


/-! The operations of Machine/Copies. -/

theorem Keeps.setCopy {c} {b2} (h : Keeps b s) : Keeps b (State.setCopy s c b2) := by
  unfold State.setCopy
  dsimp only
  split
  · exact { h with }
  · exact { h with }
  · exact { h with }

theorem Keeps.checkCopy {c} (h : Keeps b s) : Keeps b (State.checkCopy s c) := by
  unfold State.checkCopy
  split
  · exact h
  · split
    · exact h
    · exact h.setCopy

theorem Keeps.appletStored {n} {a} (h : Keeps b s) : Keeps b (State.appletStored s n a) :=
  { h with }

theorem Keeps.templateStored {n} {p} (h : Keeps b s) : Keeps b (State.templateStored s n p) :=
  { h with }

theorem Keeps.fillCopies (h : Keeps b s) : Keeps b (State.fillCopies s) :=
  { h with }

theorem Keeps.copiesUp (h : Keeps b s) : Keeps b (State.copiesUp s) := by
  unfold State.copiesUp
  dsimp only
  exact .fillCopies { h with }


/-! The operations of Machine/Admit. -/

theorem Keeps.enterRot {k} (h : Keeps b s) : Keeps b (State.enterRot s k) := by
  unfold State.enterRot
  dsimp only
  split
  · exact h
  · exact h.withClasses

theorem Keeps.skip {t1} {cause} (h : Keeps b s) : Keeps b (State.skip s t1 cause) := by
  unfold State.skip
  dsimp only
  exact .setTk (.ite h.setFetchPool h)

theorem Keeps.arrive {t1} (h : Keeps b s) : Keeps b (State.arrive s t1) := by
  unfold State.arrive
  dsimp only
  split
  · exact .setTk (.ite h.setFetchPool h)
  · split
    · exact h.skip
    · split
      · exact h.skip
      · exact h.setTk.enterRot

theorem Keeps.acceptTab {ring} {t2} (h : Keeps b s) : Keeps b (State.acceptTab s ring t2).1 := by
  unfold State.acceptTab
  dsimp only
  split
  · exact h.setTab
  · split
    · exact h
    · split
      · exact h.setTab
      · exact h.setTab
  · split
    · split
      · exact h.setTab
      · split
        · exact h
        · exact h.setTab
    · exact h

theorem Keeps.takeTicket {ring} {b2} (h : Keeps b s) : Keeps b (State.takeTicket s ring b2) := by
  unfold State.takeTicket
  dsimp only
  split
  · exact .arrive (.acceptTab (.setFetchPool { h with }))
  · exact .postAll { h with }

theorem Keeps.aer {p} {l} (h : Keeps b s) : Keeps b (State.aer s p l) := by
  unfold State.aer
  dsimp only
  exact h.setPort fun hb => h.port _ hb

theorem Keeps.passBell {n} {h2} (h : Keeps b s) : Keeps b (State.passBell s n h2) := by
  unfold State.passBell
  dsimp only
  split
  · split
    · exact h.setRing
    · exact h
  · exact h

theorem Keeps.fetchRun {n l} (h : Keeps b s) : Keeps b (s.fetchRun n l) := by
  induction l generalizing s with
  | nil => exact h
  | cons r l ih =>
    cases r with
    | err => exact h.aer.ringError
    | ok x => exact .ite (ih h.setRing.takeTicket.passBell) h

theorem Keeps.grant {reserve : State → Tk → Option (State × Tk)} {t} (h : Keeps b s) (hr : ∀ t r, reserve s t = some r → Keeps b r.1) : Keeps b (s.grant reserve t) := by
  unfold State.grant
  dsimp only
  split
  · exact h
  · split
    · exact h
    · exact h.checkCopy.arrive
    · exact h.arrive
    · split
      · exact .arrive { h with }
      · exact h.setStagingPool.arrive
    · split
      · next hres => exact (hr _ _ hres).arrive
      · exact h

theorem Keeps.rotate {k} (h : Keeps b s) : Keeps b (State.rotate s k) :=
  h.withClasses


/-! The operations of Machine/FlashOps. -/

theorem Keeps.setLane {l} {v} (h : Keeps b s) : Keeps b (State.setLane s l v) :=
  { h with
        lanes := fun hb => Laws.set_wf _ _ _ _ (h.lanes hb) }

theorem Keeps.wearEvent {old} (h : Keeps b s) : Keeps b (State.wearEvent s old) := by
  unfold State.wearEvent
  split
  · exact h.devEvent
  · exact h

theorem Keeps.eraseLane {l} (h : Keeps b s) : Keeps b (State.eraseLane s l) := by
  unfold State.eraseLane
  dsimp only
  exact h.setLane.wearEvent

theorem Keeps.wearOut {l} (h : Keeps b s) : Keeps b (State.wearOut s l) :=
  .withFlash h.setLane id id id

theorem Keeps.releaseLane {l} (h : Keeps b s) : Keeps b (State.releaseLane s l) := by
  unfold State.releaseLane
  dsimp only
  split
  · exact h.setLane
  · split
    · split
      · exact h.eraseLane.wearOut
      · exact h.eraseLane
    · split
      · exact h.wearOut
      · exact h

theorem Keeps.replaceBlock {t1} {lun} {plane} {block} (h : Keeps b s) : Keeps b (State.replaceBlock s t1 lun plane block) := by
  unfold State.replaceBlock
  dsimp only
  exact (by
      split
      · exact { h with }
      · exact .setLane { h with })

theorem Keeps.addBad {t1} {lun} {plane} {block} {grown} (h : Keeps b s) : Keeps b (State.addBad s t1 lun plane block grown) := by
  unfold State.addBad
  dsimp only
  split
  · exact h
  · split
    · exact .replaceBlock { h with }
    · split
      · exact .replaceBlock { h with }
      · exact { h with }

theorem Keeps.retireWeak {l} (h : Keeps b s) : Keeps b (State.retireWeak s l) := by
  unfold State.retireWeak
  dsimp only
  split
  · exact .addBad { h with }
  · exact { h with }

theorem Keeps.takeLane {l} (h : Keeps b s) : Keeps b (State.takeLane s l) := by
  unfold State.takeLane
  dsimp only
  exact h.eraseLane.setLane

theorem Keeps.setCrates {l} (h : Keeps b s) : Keeps b (State.setCrates s l) :=
  { h with }

theorem Keeps.modCrate {id} {f} (h : Keeps b s) : Keeps b (State.modCrate s id f) :=
  h.setCrates

theorem Keeps.modPrepared {st} {f} (h : Keeps b s) : Keeps b (State.modPrepared s st f) :=
  h.setCrates

theorem Keeps.newCrate {kind stream prefer} {r : State × Crate} (h : Keeps b s) (he : s.newCrate kind stream prefer = some r) : Keeps b r.1 := by
  unfold State.newCrate at he
  split at he
  · cases he
  · cases he
    exact h.foldl fun _ _ h1 => h1.takeLane

theorem Keeps.openAs {c} (h : Keeps b s) : Keeps b (State.openAs s c) :=
  { h with }

theorem Keeps.prepare {st} (h : Keeps b s) : Keeps b (State.prepare s st) := by
  unfold State.prepare
  split
  · exact h
  · split
    · exact .setCrates (h.newCrate ‹_›)
    · exact h

theorem Keeps.openPrepared {st} (h : Keeps b s) : Keeps b (State.openPrepared s st) := by
  unfold State.openPrepared
  dsimp only
  split
  · exact h
  · exact .withHost h.setCrates.openAs id id id

theorem Keeps.ensureStream {st} (h : Keeps b s) : Keeps b (State.ensureStream s st) := by
  unfold State.ensureStream
  dsimp only
  split
  · exact h.prepare.openPrepared.prepare
  · exact h.prepare

theorem Keeps.ensureKind {k} (h : Keeps b s) : Keeps b (State.ensureKind s k) := by
  unfold State.ensureKind
  split
  · exact h
  · split
    · exact .openAs (h.newCrate ‹_›)
    · exact h

theorem Keeps.summarise {id} (h : Keeps b s) : Keeps b (State.summarise s id) := by
  unfold State.summarise
  dsimp only
  split
  · exact h
  · split
    · exact h
    · split
      · exact h.modCrate.prepare.openPrepared.prepare
      · exact h.modCrate

theorem Keeps.maybeClose {id} (h : Keeps b s) : Keeps b (State.maybeClose s id) := by
  unfold State.maybeClose
  split
  · exact h
  · split
    · exact h.summarise
    · exact h

theorem Keeps.closeFullCrates (h : Keeps b s) : Keeps b (State.closeFullCrates s) :=
  h.foldl (fun _ _ h2 => (by
      split
      · exact h2.maybeClose
      · exact h2))

theorem Keeps.fill {k} {bytes} (h : Keeps b s) : Keeps b (State.fill s k bytes) := by
  unfold State.fill
  dsimp only
  split
  · exact { h with }
  · exact h

theorem Keeps.placeIn {c} {o} {tick} (h : Keeps b s) : Keeps b (State.placeIn s c o tick) :=
  h.modCrate.fill

theorem Keeps.placeKind {k o tick} {r : State × Nat × Nat} (h : Keeps b s) (he : s.placeKind k o tick = some r) : Keeps b r.1 := by
  unfold State.placeKind at he
  dsimp only at he
  split at he
  · cases he
    exact h.ensureKind.placeIn
  · split at he
    · cases he
      exact (h.ensureKind.foldl fun _ _ h1 => h1.summarise).ensureKind.placeIn
    · cases he

theorem Keeps.spaceBack (h : Keeps b s) : Keeps b (State.spaceBack s) := by
  unfold State.spaceBack
  dsimp only
  split
  · exact h.withClasses
  · exact h

theorem Keeps.reserve {t} {r : State × Tk} (h : Keeps b s) (he : s.reserve t = some r) : Keeps b r.1 := by
  have hopen : ∀ {st}, Keeps b (s.closeFullCrates.ensureStream st) := h.closeFullCrates.ensureStream
  unfold State.reserve at he
  dsimp only at he
  split at he
  · cases he
  · split at he
    · cases he
      exact hopen.modCrate
    · split at he
      · split at he
        · cases he
          exact hopen.modPrepared
        · cases he
      · cases he

theorem Keeps.crateFor {stream} {inPrepared} {n} (h : Keeps b s) : Keeps b (State.crateFor s stream inPrepared n).1 := by
  unfold State.crateFor
  dsimp only
  split
  · exact h.ensureStream
  · split
    · exact h
    · split
      · exact h
      · exact h.summarise

theorem Keeps.raiseGo {n t} (h : Keeps b s) : Keeps b (raiseGo n s t) := by
  induction n generalizing s with
  | zero => exact h
  | succ n ih =>
    unfold Machine.raiseGo
    dsimp only
    split
    · exact .ite (ih h.setTab) h
    · exact h

theorem Keeps.raiseDurable {t1} (h : Keeps b s) : Keeps b (State.raiseDurable s t1) := by
  unfold State.raiseDurable
  dsimp only
  split
  · exact h.raiseGo.writeWmt
  · exact h.raiseGo

theorem Keeps.settleCrate {id} (h : Keeps b s) : Keeps b (State.settleCrate s id) := by
  unfold State.settleCrate
  dsimp only
  split
  · exact h
  · exact .foldl { h.modCrate.foldl (fun _ _ h6 => .ite h6.setStagingPool h6) with } (fun _ _ h4 => h4.raiseDurable)

theorem Keeps.closeDone {id} (h : Keeps b s) : Keeps b (State.closeDone s id) := by
  unfold State.closeDone
  dsimp only
  split
  · exact h
  · split
    · split
      · exact h.modCrate.devEvent
      · exact h.modCrate
    · exact h

theorem Keeps.padRow {id} (h : Keeps b s) : Keeps b (State.padRow s id) := by
  unfold State.padRow
  dsimp only
  split
  · exact h
  · exact h.modCrate.fill.maybeClose

theorem Keeps.programAll {id} (h : Keeps b s) : Keeps b (State.programAll s id) := by
  unfold State.programAll
  dsimp only
  split
  · exact h.padRow
  · split
    · exact h.padRow
    · exact h.padRow.modCrate.settleCrate.closeDone

theorem Keeps.padBoundary (h : Keeps b s) : Keeps b (State.padBoundary s) :=
  h.foldl (fun _ _ h2 => h2.padRow)

theorem Keeps.movedEntry {o} {crate} {slot} {recordOnly} (h : Keeps b s) : Keeps b (State.movedEntry s o crate slot recordOnly) :=
  { h with }

theorem Keeps.moveObj {n o r} {t : State} (h : Keeps b s) (he : s.moveObj n o r = some t) : Keeps b t := by
  unfold State.moveObj at he
  dsimp only at he
  split at he
  · cases he
  · next hplace =>
    cases he
    exact .programAll (.ite (h.placeKind hplace).modCrate.movedEntry (h.placeKind hplace).modCrate)

theorem Keeps.foldl_fst {α β : Type} {f : State × β → α → State × β} {l : List α} {p : State × β} (h : Keeps b p.1) (hf : ∀ p a, Keeps b p.1 → Keeps b (f p a).1) :
    Keeps b (l.foldl f p).1 := by
  induction l generalizing p with
  | nil => exact h
  | cons a l ih => exact ih (hf p a h)

theorem Keeps.moveAll {id p} (h : Keeps b s) : Keeps b (s.moveAll id p).1 := by
  unfold State.moveAll
  split
  · exact h
  · refine .foldl_fst h fun q o hq => ?_
    split
    · exact hq
    · split
      · split
        · exact hq.moveObj ‹_›
        · exact hq
      · split
        · split
          · exact hq.moveObj ‹_›
          · exact hq
        · exact hq

theorem Keeps.eraseCrate {id} (h : Keeps b s) : Keeps b (State.eraseCrate s id) := by
  unfold State.eraseCrate
  dsimp only
  split
  · exact h
  · exact .spaceBack { Keeps.foldl (h.foldl (fun _ _ h7 => h7.releaseLane.retireWeak)) (fun _ _ h6 => h6.setLane) with }

theorem Keeps.moveAndErase {id} {p} (h : Keeps b s) : Keeps b (State.moveAndErase s id p) := by
  unfold State.moveAndErase
  dsimp only
  split
  · exact h.moveAll
  · split
    · exact h.moveAll.moveAll.eraseCrate
    · exact h.moveAll.moveAll

theorem Keeps.loseEntries {id} {keys} (h : Keeps b s) : Keeps b (State.loseEntries s id keys) := by
  unfold State.loseEntries
  dsimp only
  split
  · exact .logFault { h with }
  · exact { h with }

theorem Keeps.loseLane {id} {lane} (h : Keeps b s) : Keeps b (State.loseLane s id lane) := by
  unfold State.loseLane
  dsimp only
  split
  · exact h
  · split
    · exact h
    · split
      · exact .loseEntries (.ite (.ite h.modCrate.summarise h.modCrate) (.ite h.modCrate.modCrate.devEvent h.modCrate.modCrate))
      · split
        · split
          · exact h.modCrate.summarise
          · exact h.modCrate
        · split
          · exact h.modCrate.modCrate.devEvent
          · exact h.modCrate.modCrate

theorem Keeps.reform {c} (h : Keeps b s) : Keeps b (State.reform s c) := by
  unfold State.reform
  dsimp only
  exact .modPrepared (.prepare (h.setCrates.foldl (fun _ _ h5 => h5.setLane)))

theorem Keeps.loseTarget {t1} (h : Keeps b s) : Keeps b (State.loseTarget s t1) := by
  unfold State.loseTarget
  dsimp only
  exact .spaceBack (h.foldl (fun _ _ h4 => .ite h4.reform (h4.foldl (fun _ _ h6 => h6.loseLane))))

theorem Keeps.blockFails {t1} {lun} {plane} {block} (h : Keeps b s) : Keeps b (State.blockFails s t1 lun plane block) :=
  h.addBad.logFault

theorem Keeps.failLanes {id} {failed} (h : Keeps b s) : Keeps b (State.failLanes s id failed) := by
  unfold State.failLanes
  split
  · exact h
  · exact h.foldl (fun _ _ h3 => (by
      split
      · exact h3.blockFails.loseLane
      · exact h3))

theorem Keeps.moveRow {id} {below} (h : Keeps b s) : Keeps b (State.moveRow s id below) := by
  unfold State.moveRow
  dsimp only
  split
  · exact h
  · exact h.foldl (fun _ _ h4 => (by
      split
      · split
        · exact .setStagingPool (.modCrate (h4.moveObj ‹_›))
        · exact .modCrate (h4.moveObj ‹_›)
      · exact h4))

theorem Keeps.programRow {id} {failed} (h : Keeps b s) : Keeps b (State.programRow s id failed) := by
  unfold State.programRow
  dsimp only
  split
  · exact h
  · split
    · exact h
    · split
      · split
        · exact h.failLanes.moveRow
        · exact h.failLanes.moveRow.modCrate.settleCrate.closeDone
      · split
        · exact h.failLanes
        · exact h.failLanes.modCrate.settleCrate.closeDone

theorem Keeps.programLanes {id} {failed} (h : Keeps b s) : Keeps b (State.programLanes s id failed) := by
  unfold State.programLanes
  dsimp only
  split
  · exact h.padRow.failLanes
  · split
    · exact h.padRow.failLanes.moveRow
    · exact h.padRow.failLanes.programAll


/-! The operations of Machine/VaultOps. -/

theorem Keeps.touchEpoch {g} {n} {tick} (h : Keeps b s) : Keeps b (State.touchEpoch s g n tick) :=
  h.withVault

theorem Keeps.programWrap {g} {epoch} {len} (h : Keeps b s) : Keeps b (State.programWrap s g epoch len) := by
  unfold State.programWrap
  dsimp only
  split
  · exact h.ensureStream
  · split
    · exact .programAll (h.ensureStream.placeIn.programAll.maybeClose.placeKind ‹_›)
    · exact h.ensureStream.placeIn.programAll.maybeClose

theorem Keeps.dropHandles {gone} (h : Keeps b s) : Keeps b (State.dropHandles s gone) :=
  { h with
        rows := fun hb => wf_of_foldl (h.rows hb) fun _ _ hm0 => Laws.set_wf _ _ _ _ hm0 }

theorem Keeps.setWork {w} (h : Keeps b s) : Keeps b (State.setWork s w) :=
  .withVault (.ite h h.dropHandles)

theorem Keeps.useKey {g} {n} (h : Keeps b s) : Keeps b (State.useKey s g n) := by
  unfold State.useKey
  split
  · exact h.setWork
  · split
    · exact h.setWork
    · exact h

theorem Keeps.savePage {anew} {n} (h : Keeps b s) : Keeps b (State.savePage anew s n) :=
  .withVault (.ite h h.drewBytes)

theorem Keeps.savePages {anew} {l} (h : Keeps b s) : Keeps b (State.savePages s anew l) :=
  h.foldl (fun _ _ h2 => h2.savePage)

theorem Keeps.openEpoch {g} (h : Keeps b s) : Keeps b (State.openEpoch s g) := by
  unfold State.openEpoch
  dsimp only
  split
  · exact h
  · split
    · exact h
    · exact h.withVault.setWork.savePages.addEvent

theorem Keeps.eraseOld (h : Keeps b s) : Keeps b (State.eraseOld s) :=
  h.withVault

theorem Keeps.shred (h : Keeps b s) : Keeps b (State.shred s) := by
  unfold State.shred
  dsimp only
  split
  · exact h
  · exact .withVault (h.eraseOld.foldl (fun _ _ h5 => h5.addEvent))

theorem Keeps.programImage (h : Keeps b s) : Keeps b (State.programImage s) := by
  unfold State.programImage
  dsimp only
  split
  · exact h
  · exact h.shred.withVault

theorem Keeps.writeImage (h : Keeps b s) : Keeps b (State.writeImage s) := by
  unfold State.writeImage
  split
  · exact h
  · exact h.programImage.eraseOld

theorem Keeps.dueImage (h : Keeps b s) : Keeps b (State.dueImage s) := by
  unfold State.dueImage
  split
  · exact h.writeImage
  · exact h

theorem Keeps.takeKeys {gone} (h : Keeps b s) : Keeps b (State.takeKeys s gone) :=
  h.dropHandles.withVault

theorem Keeps.testKeys (h : Keeps b s) : Keeps b s.testKeys := by
  unfold State.testKeys
  dsimp only
  split
  · exact .savePages { h with }
  · exact .withVault (.programImage (.savePages (.savePages (.takeKeys (.shred { h with })))))

theorem Keeps.clearEngines (h : Keeps b s) : Keeps b (State.clearEngines s) :=
  { h with
        rows := fun hb => wf_of_foldl (h.rows hb) fun _ _ hm0 => Laws.set_wf _ _ _ _ hm0 }

theorem Keeps.clearPke (h : Keeps b s) : Keeps b (State.clearPke s) :=
  { h with
        engines := fun _ => rfl }

theorem Keeps.zeroiseVault (h : Keeps b s) : Keeps b (State.zeroiseVault s) :=
  h.withVault


/-! The operations of Machine/UnitOps. -/

theorem Keeps.report {hash d} (h : Keeps b s) : Keeps b (s.report hash d) := by
  unfold State.report
  cases hash <;> exact .ite (.logFault { h with }) { h with }

theorem Keeps.strikeCipher {row} {p} {st} (h : Keeps b s) : Keeps b (State.strikeCipher s row p st) := by
  unfold State.strikeCipher
  dsimp only
  split
  · exact h
  · exact h.setRowEng.foldl (fun _ _ h4 => h4.report)

theorem Keeps.strikeHash {row} {p} {st} (h : Keeps b s) : Keeps b (State.strikeHash s row p st) := by
  unfold State.strikeHash
  dsimp only
  split
  · exact h
  · exact h.setRowEng.foldl (fun _ _ h4 => h4.report)

theorem Keeps.abortCtx {owners} {st} (h : Keeps b s) : Keeps b (State.abortCtx s owners st) :=
  .withCrypto (h.foldl (fun _ _ h2 => h2.strikeCipher.strikeHash)) id id

theorem Keeps.abortPke {p} {fault} (h : Keeps b s) : Keeps b (State.abortPke s p fault) :=
  { h with
        engines := fun hb => wf_filter _ (h.engines hb) }

theorem Keeps.abortWork {ids} (h : Keeps b s) : Keeps b (State.abortWork s ids) := by
  unfold State.abortWork
  dsimp only
  exact h.abortCtx.abortPke

theorem Keeps.withdrawAll {p} {status} {post} (h : Keeps b s) : Keeps b (State.withdrawAll s p status post) := by
  unfold State.withdrawAll
  dsimp only
  exact h.abortWork.withdraw

theorem Keeps.onCore {unit} {w} (h : Keeps b s) : Keeps b (State.onCore s unit w) :=
  { h with
        items := fun hb => h.items_map (fun i hi => by split <;> exact hi) hb }

theorem Keeps.seedGrinder {row} (h : Keeps b s) : Keeps b (State.seedGrinder s row) := by
  unfold State.seedGrinder
  dsimp only
  exact h.drewBytes.setRowEng

theorem Keeps.seedGrinders (h : Keeps b s) : Keeps b (State.seedGrinders s) :=
  h.foldl (fun _ _ h2 => h2.seedGrinder)

theorem Keeps.setUState {a} {st} (h : Keeps b s) : Keeps b (State.setUState s a st) := by
  unfold State.setUState
  dsimp only
  exact h.setUnit

theorem Keeps.dropItems {p : Item → Bool} (h : Keeps b s) : Keeps b { s with units := { s.units with items := s.units.items.filter p } } :=
  .withUnits h id id fun hi i hmem => hi i (List.mem_of_mem_filter hmem)

theorem Keeps.skipFault {t} (h : Keeps b s) : Keeps b (s.skipFault t) :=
  .dropItems (.pruneRot (.skip (.noteLeave (.abortWork h))))

theorem Keeps.skipRow {row} (h : Keeps b s) : Keeps b (State.skipRow s row) := by
  unfold State.skipRow
  split
  · exact h
  · exact h.foldl (fun _ _ h3 => h3.skipFault)

theorem Keeps.rerunItem {i keep fault} (h : Keeps b s) : Keeps b (s.rerunItem i keep fault) := by
  have h1 : Keeps b { s.abortWork [i.ticket] with units := { s.units with items := s.units.items.filter (fun x => x.ticket != i.ticket) } } :=
    { h.abortWork with unitStates := h.unitStates, spares := h.spares, items := h.items_filter _ }
  unfold State.rerunItem
  dsimp only
  split
  · exact h1
  · exact .ite h1.skipFault h1.setTk

theorem Keeps.rowEvent {old} {row} (h : Keeps b s) : Keeps b (State.rowEvent s old row) := by
  unfold State.rowEvent
  dsimp only
  split
  · exact .devEvent (.ite h.faultEvent h)
  · split
    · exact h.faultEvent
    · exact h

theorem Keeps.spareNext {row} (h : Keeps b s) : Keeps b (State.spareNext s row) := by
  unfold State.spareNext
  dsimp only
  split
  · split
    · exact h.setSpareFor.devEvent
    · exact h.setSpareFor.setUState.devEvent
  · exact h

theorem Keeps.spareBack {row} (h : Keeps b s) : Keeps b (State.spareBack s row) := by
  unfold State.spareBack
  split
  · exact h.setUState.setSpareFor
  · exact h.setUState.setSpareFor

theorem Keeps.countMismatch (h : Keeps b s) : Keeps b (State.countMismatch s) :=
  { h with }

theorem Keeps.freeSlotsOf {a} (h : Keeps b s) : Keeps b (State.freeSlotsOf s a) :=
  { h with }

theorem Keeps.stallFault {a} {cls} {detail} {interrupt} {escalated} (h : Keeps b s) : Keeps b (State.stallFault s a cls detail interrupt escalated) := by
  unfold State.stallFault
  dsimp only
  exact .rowEvent (.skipRow (.logFault (.ite (.ite (.setSpareFor (h.setUState.foldl (fun _ _ h9 => h9.rerunItem))) (.freeSlotsOf (.setSpareFor (h.setUState.foldl (fun _ _ h10 => h10.rerunItem))))) (.ite (h.setUState.setUState.setSpareFor.foldl (fun _ _ h8 => h8.rerunItem)) (.ite (h.setUState.foldl (fun _ _ h9 => h9.rerunItem)) (.freeSlotsOf (h.setUState.foldl (fun _ _ h10 => h10.rerunItem))))))))

theorem Keeps.rerunOwners {owners} {fault} (h : Keeps b s) : Keeps b (State.rerunOwners s owners fault) :=
  h.foldl (fun _ _ h2 => h2.rerunItem)

theorem Keeps.engineFault {a} {cls} {interrupt} (h : Keeps b s) : Keeps b (State.engineFault s a cls interrupt) := by
  unfold State.engineFault
  dsimp only
  exact .logFault (.rerunOwners (.setUState (.setRowEng (.ite h.strikeCipher h.strikeHash))))

theorem Keeps.poolLow {old} (h : Keeps b s) : Keeps b (State.poolLow s old) := by
  unfold State.poolLow
  split
  · exact h.logFault
  · exact h


/-! The operations of Machine/Cipher. -/

theorem Keeps.callerFault {row} {owner} (h : Keeps b s) : Keeps b (State.callerFault s row owner) := by
  unfold State.callerFault
  dsimp only
  exact h.rerunOwners.logFault

theorem Keeps.cipherBegin {eng} {c} (h : Keeps b s) : Keeps b (State.cipherBegin s eng c) := by
  unfold State.cipherBegin
  dsimp only
  split
  · exact .setRowEng (.wakeRow { h with })
  · split
    · exact .callerFault (.wakeRow { h with })
    · exact .setRowEng (.wakeRow { h with })

theorem Keeps.cipherTake {eng} (h : Keeps b s) : Keeps b (State.cipherTake s eng) := by
  unfold State.cipherTake
  dsimp only
  split
  · exact h
  · split
    · exact h
    · split
      · exact .cipherBegin (h.pickClass ‹_›)
      · exact h

theorem Keeps.answer {hash} {d} (h : Keeps b s) : Keeps b (State.answer s hash d) := by
  unfold State.answer
  dsimp only
  split
  · exact h.report.rerunOwners.logFault
  · exact h.report

theorem Keeps.cipherEnd {row} (h : Keeps b s) : Keeps b (State.cipherEnd s row) := by
  unfold State.cipherEnd
  dsimp only
  split
  · exact h
  · split
    · exact h
    · exact h.setRowEng.answer

theorem Keeps.hashBegin {eng} {c} (h : Keeps b s) : Keeps b (State.hashBegin s eng c) := by
  unfold State.hashBegin
  dsimp only
  split
  · exact .setRowEng (.wakeRow { h with })
  · split
    · exact .setRowEng (.wakeRow { h with })
    · exact .callerFault (.wakeRow { h with })

theorem Keeps.hashTake {eng} (h : Keeps b s) : Keeps b (State.hashTake s eng) := by
  unfold State.hashTake
  dsimp only
  split
  · exact h
  · split
    · exact h
    · split
      · exact .hashBegin (h.pickClass ‹_›)
      · exact h

theorem Keeps.laneEnd {row} {b2} (h : Keeps b s) : Keeps b (State.laneEnd s row b2) := by
  unfold State.laneEnd
  dsimp only
  split
  · exact h
  · split
    · exact h
    · exact h.setRowEng.answer

theorem Keeps.settleRows (h : Keeps b s) : Keeps b (State.settleRows s) := by
  unfold State.settleRows
  dsimp only
  split
  · exact h
  · exact .foldl (.foldl (h.foldl (fun _ _ h6 => h6.cipherEnd.laneEnd.laneEnd)) (fun _ _ h5 => h5.cipherTake)) (fun _ _ h4 => h4.hashTake)

theorem Keeps.pauseRows (h : Keeps b s) : Keeps b (State.pauseRows s) :=
  { h with
        rows := fun hb => wf_of_foldl (h.rows hb) fun _ _ hm0 => Laws.set_wf _ _ _ _ hm0 }

theorem Keeps.closeCipher {r} (h : Keeps b s) : Keeps b (State.closeCipher s r) :=
  .withCrypto (h.foldl (fun _ _ h2 => h2.strikeCipher)) id id

theorem Keeps.closeHash {r} (h : Keeps b s) : Keeps b (State.closeHash s r) :=
  .withCrypto (h.foldl (fun _ _ h2 => h2.strikeHash)) id id

theorem Keeps.cipherCall {m} {r} (h : Keeps b s) : Keeps b (State.cipherCall s m r) := by
  unfold State.cipherCall
  dsimp only
  split
  · exact h
  · split
    · exact h.closeCipher.settleRows
    · exact .settleRows { h with }

theorem Keeps.hashCall {a} {key} {r} (h : Keeps b s) : Keeps b (State.hashCall s a key r) := by
  unfold State.hashCall
  dsimp only
  split
  · exact h
  · split
    · exact h.closeHash.settleRows
    · exact .settleRows { h with }

theorem Keeps.execGcm {r} (h : Keeps b s) : GoesOnKeeping b (Machine.execGcm r s) :=
  .next h.cipherCall

theorem Keeps.execCtr {r} (h : Keeps b s) : GoesOnKeeping b (Machine.execCtr r s) :=
  .next h.cipherCall

theorem Keeps.execCbc {r} (h : Keeps b s) : GoesOnKeeping b (Machine.execCbc r s) :=
  .next h.cipherCall

theorem Keeps.execCmac {r} (h : Keeps b s) : GoesOnKeeping b (Machine.execCmac r s) :=
  .next h.cipherCall

theorem Keeps.execXts {r} (h : Keeps b s) : GoesOnKeeping b (Machine.execXts r s) :=
  .next h.cipherCall

theorem Keeps.execEcb {r} (h : Keeps b s) : GoesOnKeeping b (Machine.execEcb r s) :=
  .next h.cipherCall

theorem Keeps.execSha256 {r} (h : Keeps b s) : GoesOnKeeping b (Machine.execSha256 r s) :=
  .next h.hashCall

theorem Keeps.execSha384 {r} (h : Keeps b s) : GoesOnKeeping b (Machine.execSha384 r s) :=
  .next h.hashCall

theorem Keeps.execSha512 {r} (h : Keeps b s) : GoesOnKeeping b (Machine.execSha512 r s) :=
  .next h.hashCall

theorem Keeps.execSha3x256 {r} (h : Keeps b s) : GoesOnKeeping b (Machine.execSha3x256 r s) :=
  .next h.hashCall

theorem Keeps.execSha3x384 {r} (h : Keeps b s) : GoesOnKeeping b (Machine.execSha3x384 r s) :=
  .next h.hashCall

theorem Keeps.execHmac {r} {alg} {key} (h : Keeps b s) : GoesOnKeeping b (Machine.execHmac r alg key s) :=
  .next h.hashCall


/-! The operations of Machine/Pke. -/

theorem Keeps.keyBus {h1} {b2} (h : Keeps b s) : Keeps b (State.keyBus s h1 b2) := by
  unfold State.keyBus
  dsimp only
  split
  · exact h.withVault
  · exact h

theorem Keeps.clearEph {w} (h : Keeps b s) : Keeps b (State.clearEph s w) := by
  unfold State.clearEph
  dsimp only
  split
  · split
    · exact h.withVault
    · exact h
  · exact h

theorem Keeps.pushPke {d} (h : Keeps b s) : Keeps b (State.pushPke s d) :=
  { h with }

theorem Keeps.queuePke {w} (h : Keeps b s) : Keeps b (State.queuePke s w) :=
  { h with }

theorem Keeps.resubmit {w} (h : Keeps b s) : Keeps b (State.resubmit s w).1 := by
  unfold State.resubmit
  dsimp only
  split
  · split
    · exact .skipFault (.ite h h.queuePke)
    · exact .setTk (.ite h h.queuePke)
  · exact .ite h h.queuePke

theorem Keeps.pkeFault {e} {w} {interrupt} (h : Keeps b s) : Keeps b (State.pkeFault s e w interrupt) := by
  unfold State.pkeFault
  dsimp only
  exact h.setPke.setUState.poolLow.pushPke.resubmit.logFault

theorem Keeps.requesterFault {w d again} (h : Keeps b s) : Keeps b (s.requesterFault w d again) := by
  unfold State.requesterFault
  refine .logFault ?_
  split
  · exact h.pushPke.resubmit
  · split
    · exact h.pushPke.skipFault
    · exact h.pushPke

theorem Keeps.pkeRunOn {e} {w} {key} (h : Keeps b s) : Keeps b (State.pkeRunOn s e w key) := by
  unfold State.pkeRunOn
  dsimp only
  exact h.drewBytes.setPke

theorem Keeps.pkeBegin {e} {w} (h : Keeps b s) : Keeps b (State.pkeBegin s e w) := by
  unfold State.pkeBegin
  dsimp only
  exact (by
      split
      · exact .requesterFault { h with }
      · exact .pkeRunOn (.setPke { h with }))

theorem Keeps.pkeEnd {e} (h : Keeps b s) : Keeps b (State.pkeEnd s e) := by
  unfold State.pkeEnd
  dsimp only
  split
  · exact h
  · split
    · exact h
    · split
      · exact h.pkeFault
      · split
        · exact .logFault (.ite (.requesterFault (.clearEph ((by
      split
      · split
        · exact h.setPke.keyBus
        · exact h.setPke
      · exact h.setPke)))) (.pushPke (.clearEph ((by
      split
      · split
        · exact h.setPke.keyBus
        · exact h.setPke
      · exact h.setPke)))))
        · exact .ite (.requesterFault (.clearEph ((by
      split
      · split
        · exact h.setPke.keyBus
        · exact h.setPke
      · exact h.setPke)))) (.pushPke (.clearEph ((by
      split
      · split
        · exact h.setPke.keyBus
        · exact h.setPke
      · exact h.setPke))))

theorem Keeps.pkeNext {r : State × PkeWait × Nat} (h : Keeps b s) (he : s.pkeNext = some r) : Keeps b r.1 := by
  unfold State.pkeNext at he
  dsimp only at he
  split at he
  · cases he
  · next hpick =>
    obtain ⟨x, -, rfl⟩ := Option.map_eq_some_iff.mp he
    exact h.pickClass hpick

theorem Keeps.pkeDrain {n} (h : Keeps b s) : Keeps b (Machine.pkeDrain n s) := by
  induction n generalizing s with
  | zero => exact h
  | succ n ih =>
    unfold Machine.pkeDrain
    split
    · next hnext => exact ih (h.pkeNext hnext).pkeBegin
    · exact h

theorem Keeps.drainPke (h : Keeps b s) : Keeps b (State.drainPke s) := by
  unfold State.drainPke
  dsimp only
  split
  · exact h
  · exact .pkeDrain (h.foldl (fun _ _ h5 => h5.pkeEnd))

theorem Keeps.settle (h : Keeps b s) : Keeps b (State.settle s) :=
  h.settleRows.drainPke

theorem Keeps.idle (h : Keeps b s) : Keeps b (State.idle s) :=
  h.tickClock.settle.closeFullCrates.dueImage

theorem Keeps.pkeSubmit {w} (h : Keeps b s) : Keeps b (State.pkeSubmit s w) := by
  unfold State.pkeSubmit
  dsimp only
  split
  · exact h
  · split
    · exact h.queuePke.drainPke
    · split
      · split
        · exact { h with }
        · exact h.queuePke.drainPke
      · split
        · exact .pushPke { h with }
        · exact h.queuePke.drainPke

theorem Keeps.pkeCall {op} {r} (h : Keeps b s) : Keeps b (State.pkeCall s op r) := by
  unfold State.pkeCall
  dsimp only
  split
  · exact h
  · split
    · split
      · exact h.requesterFault
      · exact h.pkeSubmit
    · split
      · exact h.requesterFault
      · exact h.pkeSubmit
    · split
      · exact h.requesterFault
      · exact h.pkeSubmit

theorem Keeps.poolRun {owner ticket cls apart outs} {t : State} (h : Keeps b s) (he : s.poolRun owner ticket cls apart outs = some t) : Keeps b t := by
  unfold State.poolRun at he
  split at he
  · cases he
  · obtain ⟨es, -, rfl⟩ := Option.map_eq_some_iff.mp he
    exact h.foldl fun _ _ h1 => h1.pushPke

theorem Keeps.verifyOn {t objs f} (h : Keeps b s) (hf : ∀ u, Keeps b u → Keeps b (f u)) : Keeps b (s.verifyOn t objs f) := by
  unfold State.verifyOn
  split
  · exact hf s h
  · split
    · exact hf _ (h.poolRun ‹_›)
    · exact h

theorem Keeps.execEcdsaVerifyP256 {r} (h : Keeps b s) : GoesOnKeeping b (Machine.execEcdsaVerifyP256 r s) :=
  .next h.pkeCall

theorem Keeps.execEcdsaVerifyP384 {r} (h : Keeps b s) : GoesOnKeeping b (Machine.execEcdsaVerifyP384 r s) :=
  .next h.pkeCall

theorem Keeps.execEcdsaVerifyP521 {r} (h : Keeps b s) : GoesOnKeeping b (Machine.execEcdsaVerifyP521 r s) :=
  .next h.pkeCall

theorem Keeps.execEcdsaSignP256 {r} (h : Keeps b s) : GoesOnKeeping b (Machine.execEcdsaSignP256 r s) :=
  .next h.pkeCall

theorem Keeps.execEcdsaSignP384 {r} (h : Keeps b s) : GoesOnKeeping b (Machine.execEcdsaSignP384 r s) :=
  .next h.pkeCall

theorem Keeps.execEcdsaSignP521 {r} (h : Keeps b s) : GoesOnKeeping b (Machine.execEcdsaSignP521 r s) :=
  .next h.pkeCall

theorem Keeps.execEcdhP256 {r} (h : Keeps b s) : GoesOnKeeping b (Machine.execEcdhP256 r s) :=
  .next h.pkeCall

theorem Keeps.execEcdhP384 {r} (h : Keeps b s) : GoesOnKeeping b (Machine.execEcdhP384 r s) :=
  .next h.pkeCall

theorem Keeps.execEcdhP521 {r} (h : Keeps b s) : GoesOnKeeping b (Machine.execEcdhP521 r s) :=
  .next h.pkeCall

theorem Keeps.execEcKeyGenerationP256 {r} (h : Keeps b s) : GoesOnKeeping b (Machine.execEcKeyGenerationP256 r s) :=
  .next h.pkeCall

theorem Keeps.execEcKeyGenerationP384 {r} (h : Keeps b s) : GoesOnKeeping b (Machine.execEcKeyGenerationP384 r s) :=
  .next h.pkeCall

theorem Keeps.execEcKeyGenerationP521 {r} (h : Keeps b s) : GoesOnKeeping b (Machine.execEcKeyGenerationP521 r s) :=
  .next h.pkeCall

theorem Keeps.execEd25519Verify {r} (h : Keeps b s) : GoesOnKeeping b (Machine.execEd25519Verify r s) :=
  .next h.pkeCall

theorem Keeps.execEd25519Sign {r} (h : Keeps b s) : GoesOnKeeping b (Machine.execEd25519Sign r s) :=
  .next h.pkeCall

theorem Keeps.execX25519 {r} (h : Keeps b s) : GoesOnKeeping b (Machine.execX25519 r s) :=
  .next h.pkeCall

theorem Keeps.execX25519KeyGeneration {r} (h : Keeps b s) : GoesOnKeeping b (Machine.execX25519KeyGeneration r s) :=
  .next h.pkeCall

theorem Keeps.execRsaPublic2048 {r} (h : Keeps b s) : GoesOnKeeping b (Machine.execRsaPublic2048 r s) :=
  .next h.pkeCall

theorem Keeps.execRsaPublic3072 {r} (h : Keeps b s) : GoesOnKeeping b (Machine.execRsaPublic3072 r s) :=
  .next h.pkeCall

theorem Keeps.execRsaPublic4096 {r} (h : Keeps b s) : GoesOnKeeping b (Machine.execRsaPublic4096 r s) :=
  .next h.pkeCall

theorem Keeps.execRsaPrivate2048 {r} (h : Keeps b s) : GoesOnKeeping b (Machine.execRsaPrivate2048 r s) :=
  .next h.pkeCall

theorem Keeps.execRsaPrivate3072 {r} (h : Keeps b s) : GoesOnKeeping b (Machine.execRsaPrivate3072 r s) :=
  .next h.pkeCall

theorem Keeps.execRsaPrivate4096 {r} (h : Keeps b s) : GoesOnKeeping b (Machine.execRsaPrivate4096 r s) :=
  .next h.pkeCall

theorem Keeps.execMlDsa44Verify {r} (h : Keeps b s) : GoesOnKeeping b (Machine.execMlDsa44Verify r s) :=
  .next h.pkeCall

theorem Keeps.execMlDsa65Verify {r} (h : Keeps b s) : GoesOnKeeping b (Machine.execMlDsa65Verify r s) :=
  .next h.pkeCall

theorem Keeps.execMlDsa87Verify {r} (h : Keeps b s) : GoesOnKeeping b (Machine.execMlDsa87Verify r s) :=
  .next h.pkeCall

theorem Keeps.execMlDsa44Sign {r} (h : Keeps b s) : GoesOnKeeping b (Machine.execMlDsa44Sign r s) :=
  .next h.pkeCall

theorem Keeps.execMlDsa65Sign {r} (h : Keeps b s) : GoesOnKeeping b (Machine.execMlDsa65Sign r s) :=
  .next h.pkeCall

theorem Keeps.execMlDsa87Sign {r} (h : Keeps b s) : GoesOnKeeping b (Machine.execMlDsa87Sign r s) :=
  .next h.pkeCall

theorem Keeps.execMlDsa44KeyGeneration {r} (h : Keeps b s) : GoesOnKeeping b (Machine.execMlDsa44KeyGeneration r s) :=
  .next h.pkeCall

theorem Keeps.execMlDsa65KeyGeneration {r} (h : Keeps b s) : GoesOnKeeping b (Machine.execMlDsa65KeyGeneration r s) :=
  .next h.pkeCall

theorem Keeps.execMlDsa87KeyGeneration {r} (h : Keeps b s) : GoesOnKeeping b (Machine.execMlDsa87KeyGeneration r s) :=
  .next h.pkeCall

theorem Keeps.execMlKem768KeyGeneration {r} (h : Keeps b s) : GoesOnKeeping b (Machine.execMlKem768KeyGeneration r s) :=
  .next h.pkeCall

theorem Keeps.execMlKem768Encapsulation {r} (h : Keeps b s) : GoesOnKeeping b (Machine.execMlKem768Encapsulation r s) :=
  .next h.pkeCall

theorem Keeps.execMlKem768Decapsulation {r} (h : Keeps b s) : GoesOnKeeping b (Machine.execMlKem768Decapsulation r s) :=
  .next h.pkeCall

theorem Keeps.execBusyRetry (h : Keeps b s) : GoesOnKeeping b (Machine.execBusyRetry s) := by
  unfold Machine.execBusyRetry
  dsimp only
  exact .next (.foldl { h with } (fun _ _ h3 => h3.pkeSubmit))


/-! The operations of Machine/TillOps. -/

theorem Keeps.endItem {t unit epoch v} (h : Keeps b s) : Keeps b (s.endItem t unit epoch v) :=
  .spareNext (.dropItems h.setTk)

theorem Keeps.camFault {t1} {i} {k} {st} (h : Keeps b s) : Keeps b (State.camFault s t1 i k st) := by
  unfold State.camFault
  dsimp only
  exact h.logFault.skipFault.logFault.spareNext

theorem Keeps.handOver {t1} {i} {v} (h : Keeps b s) : Keeps b (State.handOver s t1 i v) := by
  unfold State.handOver
  dsimp only
  split
  · exact h
  · split
    · exact h.endItem
    · split
      · exact h.checkCopy
      · split
        · exact .endItem (h.checkCopy.poolRun ‹_›)
        · exact .camFault (h.checkCopy.poolRun ‹_›)

theorem wf_vmStart {t a} : (s.vmStart t a).slot.wf zeroByte = true := Laws.slotPut_wf [] 0 _ rfl

theorem Keeps.startItem {t unit epoch} (h : Keeps b s) : Keeps b (s.startItem t unit epoch) := by
  unfold State.startItem
  dsimp only
  refine .withUnits (.setTk (h.getD fun _ => h.checkCopy)) id id fun hi i hmem => ?_
  obtain hold | hnew := List.mem_append.mp hmem
  · exact hi i hold
  · rw [List.mem_singleton.mp hnew]
    dsimp only
    split
    · exact wf_vmStart
    · rfl

theorem Keeps.endPlain {p} (h : Keeps b s) : Keeps b (State.endPlain s p) := by
  unfold State.endPlain
  split
  · exact h
  · split
    · split
      · split
        · exact h
        · split
          · exact h.handOver
          · split
            · exact h.handOver
            · exact h
      · exact h
    · exact h

theorem Keeps.putVm {w v} (h : Keeps b s) (hv : Canonical b → v.slot.wf zeroByte = true) : Keeps b (s.putVm w v) := by
  refine { h with items := fun hb => h.items_map (fun i hi => ?_) hb }
  split
  · exact hv hb
  · exact hi

theorem wf_ended {c : Prop} [Decidable c] {v : Vm} {e : ItemEnd} (hv : v.slot.wf zeroByte = true) : (if c then { v with ended := e } else v).slot.wf zeroByte = true := by
  split <;> exact hv

theorem Keeps.otnak {w f} (h : Keeps b s) (hf : ∀ v : Vm, v.slot.wf zeroByte = true → (f v).slot.wf zeroByte = true) : Keeps b (s.otnak w f) := by
  unfold State.otnak
  refine .ite h ?_
  split
  · next i _ hfind _ =>
    have hrun : Canonical b → (f i.vm).slot.wf zeroByte = true := fun hb => hf _ (h.items hb i (List.mem_of_find?_eq_some hfind))
    have hcore : Keeps b (if i.core then s else s.onCore i.unit w) := .ite h h.onCore
    exact .ite h (.ite (hcore.putVm fun hb => wf_ended (hrun hb)) (.handOver (hcore.putVm fun hb => wf_ended (hrun hb))))
  · exact h

theorem Keeps.otnakHash {w f} (h : Keeps b s) (hf : ∀ v : Vm, v.slot.wf zeroByte = true → (f v).slot.wf zeroByte = true) : Keeps b (s.otnakHash w f) :=
  .ite (h.otnak hf) h

theorem Keeps.putEntry {e stream inPrepared staging keep} {r : State × Entry} (h : Keeps b s) (he : s.putEntry e stream inPrepared staging keep = some r) : Keeps b r.1 := by
  unfold State.putEntry at he
  dsimp only at he
  split at he
  · cases he
  · cases he
    exact .setTab (.withTabs (.maybeClose (.placeIn h.crateFor)) id id)

theorem Keeps.opened {n} {templ} {src} {home} (h : Keeps b s) : Keeps b (State.opened s n templ src home) := by
  unfold State.opened
  dsimp only
  exact h.setTab

theorem Keeps.commitOne {t} {u : State} (h : Keeps b s) (he : s.commitOne t = some u) : Keeps b u := by
  have hs : Keeps b (s.unreserve t) := h.unreserve
  unfold State.commitOne at he
  dsimp only at he
  split at he
  · obtain ⟨p, hp, rfl⟩ := Option.map_eq_some_iff.mp he
    exact (hs.putEntry hp).opened.finish
  · obtain ⟨p, hp, rfl⟩ := Option.map_eq_some_iff.mp he
    exact (hs.putEntry hp).setTab.finish
  · split at he
    · cases he
    · obtain ⟨u1, hfirst, hrest⟩ := Option.bind_eq_some_iff.mp he
      have h1 : Keeps b u1 := by
        split at hfirst
        · obtain ⟨p, hp, rfl⟩ := Option.map_eq_some_iff.mp hfirst
          exact (hs.putEntry hp).opened
        · cases hfirst
          exact hs
      obtain ⟨p, hp, rfl⟩ := Option.map_eq_some_iff.mp hrest
      exact .finish (.ite (h1.putEntry hp).touchEpoch (h1.putEntry hp))

theorem Keeps.commitRun {k n} (h : Keeps b s) : Keeps b (Machine.commitRun k s n) := by
  induction k generalizing s with
  | zero => exact h
  | succ k ih =>
    unfold Machine.commitRun
    split
    · refine Keeps.ite ?_ h
      split
      · exact ih (h.commitOne ‹_›)
      · exact h
    · exact h

theorem Keeps.commitTab {n} (h : Keeps b s) : Keeps b (State.commitTab s n) := by
  unfold State.commitTab
  split
  · exact h
  · exact h.commitRun


/-! The operations of Machine/Rings. -/

theorem Keeps.bell {p n f} (h : Keeps b s) (hf : ∀ r, Keeps b (f r)) : Keeps b (s.bell p n f) :=
  .ite (.ite (hf _) h.setRing) h

theorem Keeps.bellSq {p} {n} {v} (h : Keeps b s) : Keeps b (State.bellSq s p n v) := by
  unfold State.bellSq
  dsimp only
  exact .bell h fun _ => .ite h (.ite h.ringError h.setRing)

theorem Keeps.bellCq {p} {n} {v} (h : Keeps b s) : Keeps b (State.bellCq s p n v) := by
  unfold State.bellCq
  dsimp only
  exact .bell h fun _ => .ite h (.ite h.ringError h.setRing)

theorem Keeps.execSqTail {port} {ring} {value} (h : Keeps b s) : GoesOnKeeping b (Machine.execSqTail port ring value s) :=
  .next h.bellSq

theorem Keeps.execCqHead {port} {ring} {value} (h : Keeps b s) : GoesOnKeeping b (Machine.execCqHead port ring value s) :=
  .next h.bellCq

theorem Keeps.disable {n} (h : Keeps b s) : Keeps b (State.disable s n) := by
  unfold State.disable
  dsimp only
  exact h.setRing.releaseTabs.checkRest

theorem Keeps.writeEnable {n} {on} (h : Keeps b s) : Keeps b (State.writeEnable s n on) := by
  unfold State.writeEnable
  dsimp only
  split
  · exact h
  · split
    · split
      · exact h.setRing
      · exact h.setRing
      · exact h.setRing
    · split
      · exact h.setRing
      · split
        · exact h.disable
        · exact h.setRing
      · exact h.setRing
      · exact h.setRing
      · exact h.setRing

theorem Keeps.dropPhase1 {p} (h : Keeps b s) : Keeps b (State.dropPhase1 s p) := by
  unfold State.dropPhase1
  dsimp only
  split
  · split
    · exact { h with }
    · exact h
  · exact h

theorem Keeps.undrain {a} (h : Keeps b s) : Keeps b (State.undrain s a) := by
  unfold State.undrain
  dsimp only
  split
  · exact .rowEvent (.ite h.spareBack h.setUState.spareNext)
  · exact h.setUState.settle

theorem Keeps.quitTests (h : Keeps b s) : Keeps b (State.quitTests s) := by
  unfold State.quitTests
  dsimp only
  exact .foldl (h.foldl (fun _ _ h4 => h4.undrain)) (fun _ _ h3 => h3.setSrc)

theorem Keeps.writeAbort {n} (h : Keeps b s) : Keeps b (State.writeAbort s n) := by
  unfold State.writeAbort
  dsimp only
  split
  · exact h
  · exact h.setRing.dropPhase1.withdrawAll.quitTests

theorem Keeps.execEnable {ring} {on} (h : Keeps b s) : GoesOnKeeping b (Machine.execEnable ring on s) :=
  .next h.writeEnable

theorem Keeps.execAbort {ring} (h : Keeps b s) : GoesOnKeeping b (Machine.execAbort ring s) :=
  .next h.writeAbort

theorem Keeps.activate {n} (h : Keeps b s) : Keeps b (State.activate s n) := by
  unfold State.activate
  dsimp only
  split
  · split
    · exact h.ringError
    · split
      · exact h.setRing.changeMode
      · exact h.setRing
  · exact h

theorem Keeps.execRingActivation {ring} (h : Keeps b s) : GoesOnKeeping b (Machine.execRingActivation ring s) :=
  .next h.activate

theorem Keeps.drained {n} (h : Keeps b s) : Keeps b (State.drained s n) := by
  unfold State.drained
  dsimp only
  split
  · exact h.disable
  · exact h

theorem Keeps.execRingDrainComplete {ring} (h : Keeps b s) : GoesOnKeeping b (Machine.execRingDrainComplete ring s) :=
  .next h.drained

theorem Keeps.bmeOff {p} (h : Keeps b s) : Keeps b (s.bmeOff p) :=
  .foldl (h.setPort fun hb => h.port p hb) fun _ _ h1 => .ite h1.setRing h1

theorem Keeps.execBusMasterEnableCleared {port} (h : Keeps b s) : GoesOnKeeping b (Machine.execBusMasterEnableCleared port s) :=
  .next h.bmeOff

theorem Keeps.execBusMasterEnableSet {port} (h : Keeps b s) : GoesOnKeeping b (Machine.execBusMasterEnableSet port s) := by
  unfold Machine.execBusMasterEnableSet
  dsimp only
  exact .next (.portReturns (h.setPort fun hb => h.port _ hb))

theorem Keeps.fetch {n} {us} {reads} (h : Keeps b s) : Keeps b (State.fetch s n us reads) := by
  unfold State.fetch
  dsimp only
  split
  · split
    · exact .noteWait (.fetchRun (.withClasses (h.pickClass ‹_›)))
    · exact h
  · split
    · exact h.markWaiting
    · exact h

theorem Keeps.execTicketFetch {ring} {waitedUs} {reads} (h : Keeps b s) : GoesOnKeeping b (Machine.execTicketFetch ring waitedUs reads s) :=
  .next h.fetch

theorem Keeps.tokenGrant {rung us} (h : Keeps b s) : Keeps b (s.tokenGrant rung us) := by
  have hs : Keeps b (if s.class0Starved (rungOf rung) then s.markWaiting 0 (rungOf rung).code else s) := .ite h.markWaiting h
  unfold State.tokenGrant
  dsimp only
  split
  · exact hs
  · next hpick =>
    have h1 := hs.pickClass hpick
    dsimp only at h1
    have h2 : ∀ t k c n, Keeps b (((State.grant _ State.reserve t).rotate k).noteWait c (rungOf rung).code n) := fun _ _ _ _ => .noteWait (.rotate (h1.grant fun _ _ => h1.reserve))
    split
    · exact hs
    · split
      · split
        · exact (h2 _ _ _ _).wakeRow
        · exact h2 _ _ _ _
      · exact h2 _ _ _ _

theorem Keeps.execTokenGrant {rung} {waitedUs} (h : Keeps b s) : GoesOnKeeping b (Machine.execTokenGrant rung waitedUs s) :=
  .next h.tokenGrant

theorem Keeps.spaceWait {id} (h : Keeps b s) : Keeps b (State.spaceWait s id) := by
  unfold State.spaceWait
  dsimp only
  split
  · split
    · exact .pruneRot (h.reach.withClasses.foldl (fun _ _ h6 => h6.noteLeave.skip))
    · exact h
  · exact h

theorem Keeps.execSpaceWaitExpiry {id} (h : Keeps b s) : GoesOnKeeping b (Machine.execSpaceWaitExpiry id s) :=
  .next h.spaceWait

theorem Keeps.completionError {a} (h : Keeps b s) : Keeps b (State.completionError s a) := by
  unfold State.completionError
  dsimp only
  split
  · split
    · exact h
    · split
      · split
        · exact h.aer.setTk
        · split
          · exact h.aer.setTk
          · exact h
      · split
        · exact h.aer.finishWith
        · exact h
  · exact h

theorem Keeps.execCompletionError {a} (h : Keeps b s) : GoesOnKeeping b (Machine.execCompletionError a s) :=
  .next h.completionError

theorem Keeps.itemStart {unit} (h : Keeps b s) : Keeps b (State.itemStart s unit) := by
  unfold State.itemStart
  dsimp only
  split
  · exact h.endPlain
  · split
    · exact h.endPlain
    · split
      · exact h.endPlain.startItem
      · exact h.endPlain.startItem
      · exact h.endPlain

theorem Keeps.execItemStart {unit} (h : Keeps b s) : GoesOnKeeping b (Machine.execItemStart unit s) :=
  .next h.itemStart

theorem Keeps.tillCommit {a} (h : Keeps b s) : Keeps b (State.tillCommit s a) := by
  unfold State.tillCommit
  dsimp only
  split
  · split
    · split
      · exact h.endPlain.commitTab
      · exact h.endPlain
    · exact h.endPlain
  · exact h.endPlain

theorem Keeps.execTillCommit {a} (h : Keeps b s) : GoesOnKeeping b (Machine.execTillCommit a s) :=
  .next h.tillCommit

theorem Keeps.modTime {n} (h : Keeps b s) : Keeps b (State.modTime s n) := by
  unfold State.modTime
  split
  · exact h.ringMessage
  · exact h

theorem Keeps.execModTimeExpiry {ring} (h : Keeps b s) : GoesOnKeeping b (Machine.execModTimeExpiry ring s) :=
  .next h.modTime

theorem Keeps.setMsix {p n f} (h : Keeps b s) : Keeps b (s.setPort p { s.port p with msix := (s.port p).msix.upd noMsix n f }) :=
  h.setPort fun hb => Laws.upd_wf noMsix (s.port p).msix n f (h.port p hb)

theorem Keeps.unmask {p v} (h : Keeps b s) : Keeps b (s.unmask p v) := by
  unfold State.unmask
  cases v with
  | some v => exact .releaseMsgs h.setMsix
  | none => exact .releaseMsgs (.setPort h fun hb => h.port p hb)

theorem Keeps.execVectorUnmask {port} {vector} (h : Keeps b s) : GoesOnKeeping b (Machine.execVectorUnmask port vector s) :=
  .next h.unmask

theorem Keeps.linkDown {p} (h : Keeps b s) : Keeps b (State.linkDown s p) := by
  unfold State.linkDown
  dsimp only
  split
  · exact .devEvent (.foldl (h.setPort fun hb => h.port _ hb) (fun _ _ h5 => .ite h5.ringError h5))
  · exact h

theorem Keeps.execLinkDown {port} (h : Keeps b s) : GoesOnKeeping b (Machine.execLinkDown port s) :=
  .next h.linkDown

theorem Keeps.linkUp {p} {speed} {width} (h : Keeps b s) : Keeps b (State.linkUp s p speed width) := by
  unfold State.linkUp
  dsimp only
  split
  · exact .portReturns (.ite (.devEvent (h.setPort fun hb => h.port _ hb)) (h.setPort fun hb => h.port _ hb))
  · exact h

theorem Keeps.execLinkUp {port} {speed} {width} (h : Keeps b s) : GoesOnKeeping b (Machine.execLinkUp port speed width s) :=
  .next h.linkUp

theorem Keeps.withTickets {x tr} (h : Keeps b s) : Keeps b { s with host := { s.host with tickets := x }, guard := { s.guard with transition := tr } } := { h with }

theorem Keeps.functionReset {p} (h : Keeps b s) : Keeps b (s.functionReset p) := by
  have h1 : ∀ k w l, Keeps b (List.foldl State.returnTokens ((s.dropPhase1 k).withdrawAll w 0 false).quitTests l) :=
    fun _ _ _ => h.dropPhase1.withdrawAll.quitTests.foldl fun _ _ h2 => h2.returnTokens
  exact .checkRest (.setPort (.foldl (h1 _ _ _).withTickets fun _ _ h3 => h3.setRing.releaseTabs) fun _ => rfl)

theorem Keeps.execFlr {port} (h : Keeps b s) : GoesOnKeeping b (Machine.execFlr port s) :=
  .next h.functionReset

theorem Keeps.portReset {p} (h : Keeps b s) : Keeps b (State.portReset s p) := by
  unfold State.portReset
  dsimp only
  split
  · exact .devEvent (h.functionReset.setPort fun hb => h.functionReset.port _ hb)
  · exact h.functionReset

theorem Keeps.execPortReset {port} (h : Keeps b s) : GoesOnKeeping b (Machine.execPortReset port s) :=
  .next h.portReset

theorem Keeps.d3 {p} {d3} (h : Keeps b s) : Keeps b (State.d3 s p d3) := by
  unfold State.d3
  dsimp only
  split
  · exact h.setPort fun hb => h.port _ hb
  · exact .portReturns (h.setPort fun hb => h.port _ hb)

theorem Keeps.execPowerStateD3hot {port} {d3} (h : Keeps b s) : GoesOnKeeping b (Machine.execPowerStateD3hot port d3 s) :=
  .next h.d3

theorem Keeps.execPerstRelease {port} (h : Keeps b s) : GoesOnKeeping b (Machine.execPerstRelease port s) := by
  unfold Machine.execPerstRelease
  dsimp only
  exact .next (h.setPort fun hb => h.port _ hb)

theorem Keeps.writeWmtBase {p} {v} (h : Keeps b s) : Keeps b (State.writeWmtBase s p v) := by
  unfold State.writeWmtBase
  dsimp only
  split
  · exact .flushMarked (h.setPort fun hb => h.port _ hb)
  · exact h

theorem Keeps.execWmtBaseWrite {port} {value} (h : Keeps b s) : GoesOnKeeping b (Machine.execWmtBaseWrite port value s) :=
  .next h.writeWmtBase


/-! The operations of Machine/Tickets. -/

theorem Keeps.withTk {a op f} (h : Keeps b s) (hf : ∀ t, Keeps b (f t)) : Keeps b (s.withTk a op f) := by
  unfold State.withTk
  split
  · exact h
  · split
    · exact hf _
    · exact h

theorem Keeps.withObj {t a o f} (h : Keeps b s) (hf : ∀ u, Keeps b u → ∀ x, Keeps b (f u x)) : Keeps b (s.withObj t a o f) := by
  unfold State.withObj
  dsimp only
  split
  · exact h
  · split
    · exact hf _ h.aer _
    · exact h.aer.finishWith

theorem Keeps.withEvent {t a type body f} (h : Keeps b s) (hf : ∀ u, Keeps b u → Keeps b (f u)) : Keeps b (s.withEvent t a type body f) :=
  .ite (hf s h).addEvent h.finishWith

theorem Keeps.ingest {a} {op} {r} (h : Keeps b s) : Keeps b (State.ingest s a op r) :=
  .withTk h fun _ => .ite h.aer.setTk h

theorem Keeps.execIngest {a} {reads} (h : Keeps b s) : GoesOnKeeping b (Machine.execIngest a reads s) :=
  .next h.ingest

theorem Keeps.execIngestSigned {a} {reads} (h : Keeps b s) : GoesOnKeeping b (Machine.execIngestSigned a reads s) :=
  .next h.ingest

theorem Keeps.record {a} {op} (h : Keeps b s) : Keeps b (State.record s a op) :=
  .withTk h fun _ => h.setTk.commitTab

theorem Keeps.execOpenTab {a} (h : Keeps b s) : GoesOnKeeping b (Machine.execOpenTab a s) :=
  .next h.record

theorem Keeps.execCloseTab {a} (h : Keeps b s) : GoesOnKeeping b (Machine.execCloseTab a s) :=
  .next h.record

theorem Keeps.hold {a} (h : Keeps b s) : Keeps b (State.hold s a) := by
  unfold State.hold
  dsimp only
  exact .withTk h fun _ => .ite h.finishWith (.withEvent h fun _ h6 => .finish { h6 with })

theorem Keeps.execHold {a} (h : Keeps b s) : GoesOnKeeping b (Machine.execHold a s) :=
  .next h.hold

theorem Keeps.releaseHold {a} (h : Keeps b s) : Keeps b (State.releaseHold s a) := by
  unfold State.releaseHold
  dsimp only
  exact .withTk h fun _ => .ite (.withEvent h fun _ h6 => .finish { h6 with }) h.finishWith

theorem Keeps.execReleaseHold {a} (h : Keeps b s) : GoesOnKeeping b (Machine.execReleaseHold a s) :=
  .next h.releaseHold

theorem Keeps.markUploaded {a} (h : Keeps b s) : Keeps b (State.markUploaded s a) := by
  unfold State.markUploaded
  dsimp only
  exact .withTk h fun _ => .ite h.finishWith h.setTab.checkBacklog.finish

theorem Keeps.execMarkUploaded {a} (h : Keeps b s) : GoesOnKeeping b (Machine.execMarkUploaded a s) :=
  .next h.markUploaded

theorem Keeps.restartTimer (h : Keeps b s) : Keeps b (State.restartTimer s) :=
  h.withPower

theorem Keeps.beat (h : Keeps b s) : Keeps b (State.beat s) := by
  unfold State.beat
  dsimp only
  split
  · exact h
  · split
    · split
      · exact h.changeMode
      · exact h
    · exact h.restartTimer
    · exact h.restartTimer
    · split
      · exact h.changeMode.restartTimer
      · exact h.changeMode
    · exact h

theorem Keeps.heartbeat {a} (h : Keeps b s) : Keeps b (State.heartbeat s a) := by
  unfold State.heartbeat
  dsimp only
  exact .withTk h fun _ => h.beat.finish

theorem Keeps.execHeartbeat {a} (h : Keeps b s) : GoesOnKeeping b (Machine.execHeartbeat a s) :=
  .next h.heartbeat

theorem Keeps.holdover {a} (h : Keeps b s) : Keeps b (State.holdover s a) := by
  unfold State.holdover
  dsimp only
  exact .withTk h fun _ => .finish (.ite h.changeMode h)

theorem Keeps.execHoldover {a} (h : Keeps b s) : GoesOnKeeping b (Machine.execHoldover a s) :=
  .next h.holdover

theorem Keeps.execFence {a} (h : Keeps b s) : GoesOnKeeping b (Machine.execFence a s) :=
  .next (.withTk h fun _ => h.finishWith)

theorem Keeps.applyTime {keys} {b2} (h : Keeps b s) : Keeps b (State.applyTime s keys b2) := by
  unfold State.applyTime
  dsimp only
  split
  · exact { h with }
  · exact h.withLedger

theorem Keeps.judgeTime {t1} {a} {keys} {b4} (h : Keeps b s) : Keeps b (State.judgeTime s t1 a keys b4) := by
  unfold State.judgeTime
  dsimp only
  split
  · exact h.finishWith
  · exact .withEvent h fun _ h4 => h4.applyTime.finish

theorem Keeps.setTime {a} {o} (h : Keeps b s) : Keeps b (State.setTime s a o) := by
  unfold State.setTime
  dsimp only
  exact .withTk h fun _ => .withObj h fun _ h5 _ => .verifyOn h5 fun _ h7 => h7.judgeTime

theorem Keeps.execSetTime {a} {obj} (h : Keeps b s) : GoesOnKeeping b (Machine.execSetTime a obj s) :=
  .next h.setTime

theorem Keeps.retemplate {n} (h : Keeps b s) : Keeps b (State.retemplate s n) :=
  { h with
        tabs := fun hb => wf_of_foldl (h.tabs hb) fun _ _ hm0 => Laws.set_wf _ _ _ _ hm0 }

theorem Keeps.validateKeys {t p f} (h : Keeps b s) (hf : ∀ u, Keeps b u → Keeps b (f u)) : Keeps b (s.validateKeys t p f) := by
  unfold State.validateKeys
  dsimp only
  split
  · exact hf s h
  · split
    · next hgo =>
      obtain ⟨unit, -, hrun⟩ := Option.bind_eq_some_iff.mp hgo
      exact hf _ (h.poolRun hrun)
    · exact h

theorem Keeps.loadTemplate {a} {o} (h : Keeps b s) : Keeps b (State.loadTemplate s a o) := by
  unfold State.loadTemplate
  dsimp only
  exact .withTk h fun _ => .withObj h fun _ h5 _ => (by
      split
      · exact h5.finishWith
      · exact .validateKeys h5 fun _ h10 => .ite h10.finishWith (.ite h10.finishWith (.ite h10.finishWith (.withEvent h10 fun _ h15 => .finish (.templateStored (.retemplate (.ite { h15 with
        templates := fun hb => Laws.sorted_ins _ _ _ (h15.templates hb) } (.writeImage { h15 with
        templates := fun hb => Laws.sorted_ins _ _ _ (h15.templates hb) }))))))))

theorem Keeps.execLoadTemplate {a} {obj} (h : Keeps b s) : GoesOnKeeping b (Machine.execLoadTemplate a obj s) :=
  .next h.loadTemplate

theorem Keeps.loadApplet {a} {o} (h : Keeps b s) : Keeps b (State.loadApplet s a o) := by
  unfold State.loadApplet
  dsimp only
  exact .withTk h fun _ => .withObj h fun _ h5 _ => .verifyOn h5 fun _ h7 => (by
      split
      · exact h7.finish
      · split
        · exact h7.finish
        · exact .withEvent h7 fun _ h13 => .finish (.appletStored { h13 with }))

theorem Keeps.execLoadApplet {a} {obj} (h : Keeps b s) : GoesOnKeeping b (Machine.execLoadApplet a obj s) :=
  .next h.loadApplet


/-! The operations of Machine/Time. -/

theorem Keeps.newRide {now} (h : Keeps b s) : Keeps b (State.newRide s now) := by
  unfold State.newRide
  dsimp only
  split
  · exact .devEvent { h with }
  · exact { h with }

theorem Keeps.prepareEpoch {g} {planned} (h : Keeps b s) : Keeps b (State.prepareEpoch s g planned) := by
  unfold State.prepareEpoch
  dsimp only
  split
  · split
    · exact h
    · exact h.programWrap
  · split
    · exact h
    · split
      · exact h
      · split
        · exact h
        · exact .savePage (.programWrap (.withVault (h.drewBytes.poolRun ‹_›)))

theorem Keeps.programCert {c} (h : Keeps b s) : Keeps b (State.programCert s c) := by
  unfold State.programCert
  dsimp only
  split
  · exact h
  · split
    · exact .withVault (.programAll (h.placeKind ‹_›))
    · exact h

theorem Keeps.programCerts (h : Keeps b s) : Keeps b (State.programCerts s) :=
  h.foldl (fun _ _ h2 => h2.programCert)

theorem Keeps.poolRun_getD {owner ticket cls apart outs} (h : Keeps b s) : Keeps b ((s.poolRun owner ticket cls apart outs).getD s) := by
  cases hrun : s.poolRun owner ticket cls apart outs with
  | none => exact h
  | some u => exact h.poolRun hrun

theorem Keeps.newSigner {ticket firstTick authorised} (h : Keeps b s) : Keeps b (s.newSigner ticket firstTick authorised) :=
  .programCerts (.withVault (.poolRun_getD (.drewBytes (.poolRun_getD h.drewBytes))))

theorem Keeps.turnTick (h : Keeps b s) : Keeps b s.turnTick :=
  { h with tabs := fun hb => wf_filter_kept (h.tabs hb) }

theorem Keeps.openDue {g} (h : Keeps b s) : Keeps b (State.openDue s g) :=
  h.prepareEpoch.openEpoch

theorem Keeps.openOverdue (h : Keeps b s) : Keeps b (State.openOverdue s) := by
  unfold State.openOverdue
  dsimp only
  split
  · exact h
  · exact .writeImage (h.foldl (fun _ _ h5 => h5.openDue))

theorem Keeps.tickBoundary (h : Keeps b s) : Keeps b (State.tickBoundary s) := by
  unfold State.tickBoundary
  dsimp only
  split
  · exact h
  · split
    · exact h.withLedger
    · exact h.reach.turnTick.padBoundary.closeFullCrates.boundaryWmt.newRide.testKeys.openOverdue.dueImage.flushTamper.flushFaults

theorem Keeps.execTickBoundary (h : Keeps b s) : GoesOnKeeping b (Machine.execTickBoundary s) :=
  .next h.tickBoundary

theorem Keeps.sealTick {delay extra} (h : Keeps b s) : Keeps b (s.sealTick delay extra) := by
  unfold State.sealTick
  dsimp only
  split
  · split
    · exact h.programCerts
    · split
      · exact h.programCerts
      · next hrun =>
        have hs := h.programCerts.drewBytes.poolRun hrun
        split
        · exact .logFault (.ite (.logFault { hs with }) { hs with })
        · exact .ite (.logFault { hs with }) { hs with }
  · exact h.programCerts

theorem Keeps.execTickRecordSealed {delay100us} {attempts} (h : Keeps b s) : GoesOnKeeping b (Machine.execTickRecordSealed delay100us attempts s) :=
  .next h.sealTick

theorem Keeps.ledgerPut {o} {tick} {failed} (h : Keeps b s) : Keeps b (State.ledgerPut s o tick failed) := by
  unfold State.ledgerPut
  split
  · exact h.programLanes
  · split
    · exact .programLanes (h.placeKind ‹_›)
    · exact h

theorem Keeps.durableTick {failed} (h : Keeps b s) : Keeps b (State.durableTick s failed) := by
  unfold State.durableTick
  dsimp only
  split
  · exact h
  · split
    · exact h
    · split
      · split
        · split
          · exact h.withLedger
          · exact h.logFault
        · split
          · exact h.ledgerPut.withLedger
          · exact h.ledgerPut.logFault
      · split
        · split
          · exact h.ledgerPut.withLedger
          · exact h.ledgerPut.logFault
        · split
          · exact h.ledgerPut.ledgerPut.withLedger
          · exact h.ledgerPut.ledgerPut.logFault

theorem Keeps.execTickRecordDurable {failedLanes} (h : Keeps b s) : GoesOnKeeping b (Machine.execTickRecordDurable failedLanes s) :=
  .next h.durableTick

theorem Keeps.slewAct (h : Keeps b s) : Keeps b (State.slewAct s) := by
  unfold State.slewAct
  dsimp only
  split
  · exact h
  · split
    · exact h.withLedger
    · exact h.withLedger

theorem Keeps.execSlew (h : Keeps b s) : GoesOnKeeping b (Machine.execSlew s) :=
  .next h.slewAct

theorem Keeps.timeConfigEvent (h : Keeps b s) : Keeps b (State.timeConfigEvent s) :=
  h.addEvent

theorem Keeps.writeSlew {v} (h : Keeps b s) : Keeps b (State.writeSlew s v) := by
  unfold State.writeSlew
  dsimp only
  split
  · exact h
  · exact h.withLedger.timeConfigEvent

theorem Keeps.writeUnsigned {v} (h : Keeps b s) : Keeps b (State.writeUnsigned s v) := by
  unfold State.writeUnsigned
  dsimp only
  split
  · exact h
  · exact h.withLedger.timeConfigEvent

theorem Keeps.prepareNext {g} (h : Keeps b s) : Keeps b (State.prepareNext s g) := by
  unfold State.prepareNext
  dsimp only
  split
  · exact h
  · split
    · exact h.openDue.writeImage
    · split
      · exact h.reach.prepareEpoch
      · exact h.reach.prepareEpoch.writeImage

theorem Keeps.execEpochPreparation {group} (h : Keeps b s) : GoesOnKeeping b (Machine.execEpochPreparation group s) :=
  .next h.prepareNext

theorem Keeps.changeEpoch {g} (h : Keeps b s) : Keeps b (State.changeEpoch s g) := by
  unfold State.changeEpoch
  dsimp only
  split
  · exact h
  · split
    · exact h.openEpoch
    · exact h.withVault.logFault

theorem Keeps.hourChange (h : Keeps b s) : Keeps b (State.hourChange s) := by
  unfold State.hourChange
  dsimp only
  exact .writeImage (.foldl (.withVault (.reach (.ite h.tickBoundary h))) (fun _ _ h4 => h4.changeEpoch))

theorem Keeps.execEpochChange (h : Keeps b s) : GoesOnKeeping b (Machine.execEpochChange s) :=
  .next (.ite h.hourChange h)

theorem Keeps.execShred (h : Keeps b s) : GoesOnKeeping b (Machine.execShred s) :=
  .next h.shred


/-! The operations of Machine/GuardOps. -/

/-- The OTP only grows: no bit is cleared and the identifier stays (R375). -/
structure OtpGrows (o p : Otp) : Prop where
  unitId : p.unitId = o.unitId
  counter : ∀ k : Nat, o.counter.getLsbD k = true → p.counter.getLsbD k = true
  fuses : ∀ n : Nat, o.fuses.getLsbD n = true → p.fuses.getLsbD n = true
  killAllowed : o.killAllowed = true → p.killAllowed = true

theorem otpGrows_refl (o : Otp) : OtpGrows o o := ⟨rfl, fun _ h => h, fun _ h => h, id⟩

theorem OtpGrows.trans {o p q : Otp} (h : OtpGrows o p) (h' : OtpGrows p q) : OtpGrows o q :=
  ⟨h'.unitId.trans h.unitId, fun k hk => h'.counter k (h.counter k hk), fun n hn => h'.fuses n (h.fuses n hn), fun hk => h'.killAllowed (h.killAllowed hk)⟩

theorem otpGrows_withCounter (o : Otp) (m : BitVec 128) : OtpGrows o { o with counter := o.counter ||| m } :=
  ⟨rfl, fun k hk => by simp [hk], fun _ h => h, id⟩

theorem otpGrows_burnIntent (o : Otp) (k : Nat) : OtpGrows o (o.burnIntent k) := otpGrows_withCounter o _

theorem otpGrows_burnDone (o : Otp) (k : Nat) : OtpGrows o (o.burnDone k) := otpGrows_withCounter o _

theorem otpGrows_burnRest (o : Otp) : OtpGrows o o.burnRest := by
  have hgo : ∀ (l : List Nat) p, OtpGrows o p → OtpGrows o (l.foldl (fun o i => (o.burnIntent (21 + i)).burnDone (21 + i)) p) := by
    intro l
    induction l with
    | nil => exact fun _ h => h
    | cons i l ih => exact fun p h => ih _ ((h.trans (otpGrows_burnIntent p _)).trans (otpGrows_burnDone _ _))
  exact hgo _ o (otpGrows_refl o)

theorem Keeps.otp_grows (h : Keeps b s) : OtpGrows b.guard.otp s.guard.otp := ⟨h.unitId, h.counter, h.fuses, h.killAllowed⟩

theorem Keeps.withOtp {g : Guard} (h : Keeps b s) (ho : OtpGrows b.guard.otp g.otp) : Keeps b { s with guard := g } :=
  { h with unitId := ho.unitId, counter := ho.counter, fuses := ho.fuses, killAllowed := ho.killAllowed }

theorem Keeps.setOtp {o} (h : Keeps b s) (ho : OtpGrows s.guard.otp o) : Keeps b (s.setOtp o) :=
  h.withOtp (h.otp_grows.trans ho)

theorem Keeps.endPass (h : Keeps b s) : Keeps b (State.endPass s) :=
  { h with }

theorem Keeps.stopPke (h : Keeps b s) : Keeps b (State.stopPke s) :=
  { h with
        engines := fun _ => rfl }

theorem Keeps.reseedAll (h : Keeps b s) : Keeps b s.reseedAll := by
  have h1 : Keeps b s.seedGrinders := h.seedGrinders
  unfold State.reseedAll
  generalize s.seedGrinders = s1 at h1 ⊢
  exact { h1 with }

theorem Keeps.scrubClear (h : Keeps b s) : Keeps b (State.scrubClear s) :=
  h.abortCtx.clearEngines.stopPke.reseedAll.endPass

theorem Keeps.scrub (h : Keeps b s) : Keeps b (State.scrub s) := by
  unfold State.scrub
  dsimp only
  exact .settle (h.scrubClear.foldl (fun _ _ h4 => h4.rerunItem))

theorem Keeps.programStaged (h : Keeps b s) : Keeps b (State.programStaged s) :=
  h.foldl (fun _ _ h2 => h2.programAll)

theorem Keeps.rekeyDdr (h : Keeps b s) : Keeps b s.rekeyDdr :=
  .ite (.fillCopies (.withDdr h.drewBytes id)) h

theorem Keeps.stopSessions (h : Keeps b s) : Keeps b s.stopSessions :=
  .withBoards h id id fun hs => sessions_map hs fun _ hy => hy

theorem Keeps.countLockdown (h : Keeps b s) : Keeps b (State.countLockdown s) :=
  h.withPower

theorem Keeps.stopTicks (h : Keeps b s) : Keeps b (State.stopTicks s) :=
  h.withLedger

theorem Keeps.enterLockdown {cause} (h : Keeps b s) : Keeps b (State.enterLockdown s cause) := by
  unfold State.enterLockdown
  dsimp only
  exact h.stopTicks.withPower.countLockdown.dropPhase1.withdrawAll.quitTests.programStaged.rekeyDdr.stopSessions.wakeAll.devEvent

theorem Keeps.clearKeys (h : Keeps b s) : Keeps b (State.clearKeys s) := by
  unfold State.clearKeys
  dsimp only
  exact .zeroiseVault { h.scrubClear with }

theorem Keeps.lockdownResponse (h : Keeps b s) : Keeps b (State.lockdownResponse s) := by
  unfold State.lockdownResponse
  split
  · exact h.clearKeys
  · exact h.clearKeys.enterLockdown

theorem Keeps.wipeCommon (h : Keeps b s) : Keeps b s.wipeCommon := by
  have h1 : Keeps b ((s.clearEngines.clearPke).zeroiseVault).endPass := h.clearEngines.clearPke.zeroiseVault.endPass
  unfold State.wipeCommon
  generalize ((s.clearEngines.clearPke).zeroiseVault).endPass = s1 at h1 ⊢
  exact { h1 with
    tabs := fun _ => rfl
    templates := fun _ => rfl
    items := fun _ => nofun
    sessions := fun _ => nofun
    slots := fun hb => wf_filter_kept (h1.slots hb) }

theorem Keeps.keepBodies (h : Keeps b s) : Keeps b (State.keepBodies s) :=
  h.setCrates

theorem Keeps.orphanEvidence (h : Keeps b s) : Keeps b (State.orphanEvidence s) :=
  h.setCrates

theorem Keeps.eraseArray (h : Keeps b s) : Keeps b (State.eraseArray s) := by
  unfold State.eraseArray
  dsimp only
  exact .spaceBack (.withFlash (h.foldl (fun _ _ h5 => h5.foldl (fun _ _ h6 => h6.releaseLane))) id id id)

theorem Keeps.wipeStaging (h : Keeps b s) : Keeps b (State.wipeStaging s) :=
  h.withClasses

theorem Keeps.wipe {kind} (h : Keeps b s) : Keeps b (s.wipe kind) := by
  have h1 : Keeps b s.keepBodies.wipeCommon := h.keepBodies.wipeCommon
  unfold State.wipe
  dsimp only
  generalize s.keepBodies.wipeCommon = s1 at h1 ⊢
  split
  · exact h1.orphanEvidence.wipeStaging.rekeyDdr
  · exact h1.eraseArray.wipeStaging.rekeyDdr
  · exact { h1.orphanEvidence with
      ddrChans := h1.ddrChans, unitId := h1.unitId, counter := h1.counter, fuses := h1.fuses, killAllowed := h1.killAllowed }

theorem wf_keptSrcs (m : SMap Src) : (keptSrcs m).wf Src.at_ = true :=
  wf_of_foldl rfl fun k n hk => Laws.set_wf Src.at_ k n _ hk

theorem Keeps.mainReset {cause again mode} (h : Keeps b s) : Keeps b (s.mainReset cause again mode) where
  pending := h.pending
  unitId := h.unitId
  counter := h.counter
  fuses := h.fuses
  killAllowed := h.killAllowed
  rings := fun _ => rfl
  tabs := fun hb => wf_filter_kept (h.tabs hb)
  msix0 := fun _ => rfl
  msix1 := fun _ => rfl
  unitStates := fun _ => rfl
  spares := fun _ => rfl
  srcs := fun _ => wf_keptSrcs s.tamper.srcs
  templates := h.templates
  targets := fun hb => wf_map_values (wf_filter _ (h.targets hb)) fun _ _ heq => TargetState.noConfusion (congrArg Target.state heq)
  lanes := h.lanes
  chans := fun _ => rfl
  rows := fun _ => rfl
  engines := fun _ => rfl
  lastMsg := fun _ => rfl
  ddrChans := fun _ => rfl
  slots := fun hb => wf_filter_kept (h.slots hb)
  cards := fun hb => wf_filter_kept (h.cards hb)
  sessions := fun hb => sessions_map (h.sessions hb) fun _ hy => hy
  items := fun _ => nofun

theorem Keeps.loseBackup (h : Keeps b s) : Keeps b (State.loseBackup s) :=
  { h with
        srcs := fun hb => wf_filter _ (h.srcs hb) }

theorem Keeps.holdCore (h : Keeps b s) : Keeps b (State.holdCore s) :=
  .withGuard h.mainReset rfl

theorem Keeps.killBurns (h : Keeps b s) : Keeps b s.killBurns := by
  have htorn : OtpGrows s.guard.otp (match s.guard.otp.torn with | some k => s.guard.otp.burnDone k | none => s.guard.otp) := by
    split
    · exact otpGrows_burnDone _ _
    · exact otpGrows_refl _
  exact .holdCore (.withGuard (.setOtp (.wipe (h.setOtp (htorn.trans (otpGrows_burnIntent _ _)))) ((otpGrows_burnDone _ _).trans (otpGrows_burnRest _))) rfl)

theorem Keeps.killResponse (h : Keeps b s) : Keeps b (State.killResponse s) := by
  unfold State.killResponse
  dsimp only
  split
  · exact .withGuard h.lockdownResponse rfl
  · exact h.lockdownResponse.killBurns

theorem Keeps.logTamper {e} (h : Keeps b s) : Keeps b (State.logTamper s e) := by
  unfold State.logTamper
  dsimp only
  split
  · exact { h with }
  · exact { h with }

theorem Keeps.ringPut {e} (h : Keeps b s) : Keeps b (State.ringPut s e) := by
  unfold State.ringPut
  dsimp only
  split
  · exact { h with }
  · exact { h with }

theorem Keeps.tamperEvent {source} {level} {time} (h : Keeps b s) : Keeps b (State.tamperEvent s source level time) := by
  unfold State.tamperEvent
  dsimp only
  split
  · exact h.addEvent
  · split
    · exact h
    · exact { h with }

theorem Keeps.recordSeen {d} {applied} {kill} (h : Keeps b s) : Keeps b (State.recordSeen s d applied kill) := by
  unfold State.recordSeen
  dsimp only
  split
  · exact h
  · split
    · exact h.logTamper.tamperEvent.notify
    · exact h.logTamper.tamperEvent

theorem Keeps.ringSeen {l} {top} {acts} (h : Keeps b s) : Keeps b (State.ringSeen s l top acts) := by
  unfold State.ringSeen
  dsimp only
  exact h.foldl (fun _ _ h3 => .ite (.ite h3 h3.ringPut) (.ite h3.ringPut h3))

theorem Keeps.respond {l} {ringToo} (h : Keeps b s) : Keeps b (State.respond s l ringToo) := by
  unfold State.respond
  dsimp only
  split
  · exact .foldl (.ite h.ringSeen h) (fun _ _ h4 => h4.recordSeen)
  · split
    · exact .withTamper (.foldl (.ite h.ringSeen h) (fun _ _ h6 => h6.recordSeen)) id
    · split
      · exact .scrub (.withTamper (.foldl (.ite h.ringSeen h) (fun _ _ h8 => h8.recordSeen)) id)
      · exact .lockdownResponse (.withTamper (.foldl (.ite h.ringSeen h) (fun _ _ h8 => h8.recordSeen)) id)
      · exact .killResponse (.withTamper (.foldl (.ite h.ringSeen h) (fun _ _ h8 => h8.recordSeen)) id)
      · exact .withTamper (.foldl (.ite h.ringSeen h) (fun _ _ h7 => h7.recordSeen)) id

theorem Keeps.countSeen {n} (h : Keeps b s) : Keeps b (State.countSeen s n) := by
  unfold State.countSeen
  dsimp only
  exact h.setSrc

theorem Keeps.detect {dets} {fraction} {flags} (h : Keeps b s) : Keeps b (State.detect s dets fraction flags) := by
  unfold State.detect
  dsimp only
  split
  · exact h
  · exact .respond (.ite { h.foldl (fun _ _ h7 => h7.countSeen) with } (h.foldl (fun _ _ h6 => h6.countSeen)))

theorem Keeps.raise {n} {detail} (h : Keeps b s) : Keeps b (State.raise s n detail) :=
  h.detect

theorem Keeps.pulse {c} (h : Keeps b s) : Keeps b (State.pulse s c) := by
  unfold State.pulse
  dsimp only
  split
  · exact h.withPower
  · split
    · exact h.withPower
    · exact h.withPower.logFault.raise


/-! The operations of Machine/Readout. -/

theorem Keeps.withDest {t a o f} (h : Keeps b s) (hf : ∀ u, Keeps b u → ∀ x, Keeps b (f u x)) : Keeps b (s.withDest t a o f) := by
  unfold State.withDest
  dsimp only
  split
  · exact h
  · split
    · exact hf _ h.aer _
    · exact h.aer.finishWith

theorem Keeps.writeOut {t1} {es} {b3} (h : Keeps b s) : Keeps b (State.writeOut s t1 es b3) := by
  unfold State.writeOut
  dsimp only
  split
  · exact { h with }
  · exact h

theorem Keeps.deliver {t1} {a} {es} {items} {e} (h : Keeps b s) : Keeps b (State.deliver s t1 a es items e) := by
  unfold State.deliver
  dsimp only
  split
  · exact h.finishWith
  · exact h.writeOut.finish

theorem Keeps.readSealed {a} {o} (h : Keeps b s) : Keeps b (State.readSealed s a o) := by
  unfold State.readSealed
  dsimp only
  exact .withTk h fun _ => .ite (.ite h (.withDest h fun _ h7 _ => h7.deliver)) h

theorem Keeps.execReadSealed {a} {obj} (h : Keeps b s) : GoesOnKeeping b (Machine.execReadSealed a obj s) :=
  .next h.readSealed

theorem Keeps.tabStatus {a} {o} (h : Keeps b s) : Keeps b (State.tabStatus s a o) :=
  .withTk h fun _ => .ite (.withDest h fun _ h5 _ => h5.deliver) h

theorem Keeps.execTabStatusRead {a} {obj} (h : Keeps b s) : GoesOnKeeping b (Machine.execTabStatusRead a obj s) :=
  .next h.tabStatus

theorem Keeps.absenceRead {a} {o} (h : Keeps b s) : Keeps b (State.absenceRead s a o) := by
  unfold State.absenceRead
  dsimp only
  exact .withTk h fun _ => .ite (.withDest h fun _ h6 _ => h6.deliver) h

theorem Keeps.execAbsenceProofRead {a} {obj} (h : Keeps b s) : GoesOnKeeping b (Machine.execAbsenceProofRead a obj s) :=
  .next h.absenceRead

theorem Keeps.ledgerRead {a} {o} (h : Keeps b s) : Keeps b (State.ledgerRead s a o) := by
  unfold State.ledgerRead
  dsimp only
  exact .withTk h fun _ => .ite (.withDest h fun _ h6 _ => h6.deliver) h

theorem Keeps.execLedgerRead {a} {obj} (h : Keeps b s) : GoesOnKeeping b (Machine.execLedgerRead a obj s) :=
  .next h.ledgerRead

theorem Keeps.keyRead {a} {o} {kind} {f} (h : Keeps b s) : Keeps b (State.keyRead s a o kind f) := by
  unfold State.keyRead
  dsimp only
  exact .withTk h fun _ => .ite (.withDest h fun _ h6 _ => h6.deliver) h

theorem Keeps.execEscrowWrapRead {a} {obj} (h : Keeps b s) : GoesOnKeeping b (Machine.execEscrowWrapRead a obj s) :=
  .next h.keyRead

theorem Keeps.execSignerCertificateRead {a} {obj} (h : Keeps b s) : GoesOnKeeping b (Machine.execSignerCertificateRead a obj s) :=
  .next h.keyRead

theorem Keeps.execIdentityCertificateRead {a} {obj} (h : Keeps b s) : GoesOnKeeping b (Machine.execIdentityCertificateRead a obj s) :=
  .next h.keyRead

theorem Keeps.logRead {a} {o} {tab} {l} (h : Keeps b s) : Keeps b (State.logRead s a o tab l) := by
  unfold State.logRead
  dsimp only
  exact .withTk h fun _ => .ite (.withDest h fun _ h6 _ => h6.deliver) h

theorem Keeps.execTamperLogRead {a} {obj} (h : Keeps b s) : GoesOnKeeping b (Machine.execTamperLogRead a obj s) :=
  .next h.logRead

theorem Keeps.execFaultLogRead {a} {obj} (h : Keeps b s) : GoesOnKeeping b (Machine.execFaultLogRead a obj s) :=
  .next h.logRead

theorem Keeps.useEntryKey {e} (h : Keeps b s) : Keeps b (State.useEntryKey s e) := by
  unfold State.useEntryKey
  split
  · exact h.useKey
  · exact h

theorem Keeps.readClear {a} {o} (h : Keeps b s) : Keeps b (State.readClear s a o) := by
  unfold State.readClear
  dsimp only
  exact .withTk h fun _ => .ite h (.withDest h fun _ h6 _ => .deliver (h6.foldl (fun _ _ h9 => h9.useEntryKey)))

theorem Keeps.execReadClear {a} {obj} (h : Keeps b s) : GoesOnKeeping b (Machine.execReadClear a obj s) :=
  .next h.readClear


/-! The operations of Machine/CartOps. -/

theorem Keeps.rouse {n} (h : Keeps b s) : Keeps b (State.rouse s n) := by
  unfold State.rouse
  dsimp only
  exact h.setSlot

theorem Keeps.cartOut {w} (h : Keeps b s) : Keeps b (State.cartOut s w) := by
  unfold State.cartOut
  dsimp only
  exact .setSlot { h with }

theorem Keeps.rpaSend {n} {addr} {units} (h : Keeps b s) : Keeps b (State.rpaSend s n addr units) := by
  unfold State.rpaSend
  dsimp only
  split
  · exact h
  · exact h.drewBytes.cartOut.cartOut.setSlot

theorem Keeps.rpaDone {n} (h : Keeps b s) : Keeps b (State.rpaDone s n) := by
  unfold State.rpaDone
  dsimp only
  exact h.setSlot

theorem Keeps.rpaWrite {n} {addr} {units} (h : Keeps b s) : Keeps b (State.rpaWrite s n addr units) := by
  unfold State.rpaWrite
  split
  · exact h.rpaSend.rpaDone
  · exact h

theorem Keeps.writeRanges {n} {rs} (h : Keeps b s) : Keeps b (State.writeRanges s n rs) := by
  unfold State.writeRanges
  dsimp only
  exact h.foldl (fun _ _ h3 => h3.rpaWrite)

theorem Keeps.writeManifest {n} {b2} (h : Keeps b s) : Keeps b (State.writeManifest s n b2) :=
  h.rpaWrite

theorem Keeps.writePart {x} {st} {closed} {cont} (h : Keeps b s) : Keeps b (State.writePart s x st closed cont) :=
  h.cartOut.writeManifest

theorem Keeps.putSession {x} (h : Keeps b s) : Keeps b (s.putSession x) := by
  refine .withBoards h id id fun hs => sessions_map hs fun y hy => ?_
  split
  · next heq => exact heq ▸ hy
  · exact hy

theorem Keeps.openPart {x} {n} (h : Keeps b s) : Keeps b (State.openPart s x n) := by
  unfold State.openPart
  dsimp only
  exact h.rouse.putSession.cartOut.writeRanges.writeManifest

theorem Keeps.takeNext (h : Keeps b s) : Keeps b (State.takeNext s) := by
  unfold State.takeNext
  dsimp only
  split
  · split
    · exact h
    · exact .withBoards h.openPart id id id
  · exact h

theorem Keeps.endSession {x st} (h : Keeps b s) : Keeps b (s.endSession x st) :=
  .withBoards (.addEvent (.withTabs h id id)) id id fun hs y hy => hs y (List.mem_of_mem_filter hy)

theorem Keeps.abandonSession {x} (h : Keeps b s) : Keeps b (State.abandonSession s x) := by
  unfold State.abandonSession
  dsimp only
  exact .cartEvent (.withBoards (.endSession (.ite h.rouse.writePart h)) id id id)

theorem Keeps.settleHx (h : Keeps b s) : Keeps b (State.settleHx s) := by
  unfold State.settleHx
  dsimp only
  split
  · exact h
  · exact { h with }

theorem Keeps.showSeven (h : Keeps b s) : Keeps b (State.showSeven s) := by
  unfold State.showSeven
  dsimp only
  split
  · exact h.settleHx
  · exact .withBoards h.settleHx id id id

theorem Keeps.hxRemoved (h : Keeps b s) : Keeps b (State.hxRemoved s) := by
  unfold State.hxRemoved
  dsimp only
  exact .settleHx { h with }

theorem Keeps.slotFail {n} (h : Keeps b s) : Keeps b (State.slotFail s n) := by
  unfold State.slotFail
  dsimp only
  split
  · exact h.setSlot.cartEvent.settleHx
  · exact .withBoards h.setSlot.cartEvent id id id

theorem Keeps.settleRpa {n} {m} {kept} {units} (h : Keeps b s) : Keeps b (State.settleRpa s n m kept units).1 := by
  unfold State.settleRpa
  dsimp only
  split
  · exact h.setSlot
  · split
    · exact h.setSlot.rpaWrite
    · exact h.setSlot

theorem Keeps.resume {n} {blocks} (h : Keeps b s) : Keeps b (State.resume s n blocks) := by
  unfold State.resume
  dsimp only
  split
  · exact h
  · split
    · exact h
    · exact h.putSession

theorem Keeps.markAbandoned {n} (h : Keeps b s) : Keeps b (State.markAbandoned s n) := by
  unfold State.markAbandoned
  dsimp only
  split
  · exact h
  · split
    · exact h.cartOut.writeManifest
    · exact h

theorem Keeps.slotReady {n} {blocks} (h : Keeps b s) : Keeps b (State.slotReady s n blocks) := by
  unfold State.slotReady
  dsimp only
  split
  · exact h.setSlot.cartEvent.markAbandoned.resume.takeNext.showSeven
  · exact h.setSlot.cartEvent.markAbandoned.resume.takeNext.settleHx

theorem Keeps.readRpa {n} {a} (h : Keeps b s) : Keeps b (State.readRpa s n a) := by
  unfold State.readRpa
  dsimp only
  split
  · exact h.setSlot
  · exact h.cartOut.cartOut.drewBytes.setSlot

theorem Keeps.slotUp {n} {a} {last} (h : Keeps b s) : Keeps b (State.slotUp s n a last) := by
  unfold State.slotUp
  dsimp only
  split
  · split
    · exact h.setSlot.slotFail
    · exact h.setSlot
  · split
    · split
      · exact h.setSlot.slotFail
      · split
        · exact h.setSlot.readRpa.slotReady
        · split
          · exact h.setSlot.readRpa.settleRpa.slotReady
          · exact h.setSlot.readRpa.settleRpa.slotFail
    · split
      · exact h.setSlot.slotFail
      · split
        · exact h.setSlot.readRpa.slotReady
        · split
          · exact h.setSlot.readRpa.settleRpa.slotReady
          · exact h.setSlot.readRpa.settleRpa.slotFail

theorem Keeps.slotDown {n} (h : Keeps b s) : Keeps b (s.slotDown n) := by
  refine .settleHx (.withBoards h.setSlot id id fun hs => sessions_map hs fun y hy => ?_)
  split
  · exact hy
  · exact hy


/-! The operations of Machine/Cards. -/

theorem Keeps.execCardInsertion {card} (h : Keeps b s) : GoesOnKeeping b (Machine.execCardInsertion card s) := by
  unfold Machine.execCardInsertion
  dsimp only
  exact .next h.setCard

theorem Keeps.refuseCard {i} {cause} (h : Keeps b s) : Keeps b (State.refuseCard s i cause) := by
  unfold State.refuseCard
  dsimp only
  exact h.setCard.cartEvent.showSeven

theorem Keeps.cardActivate {i} {atr} {ppsOk} (h : Keeps b s) : Keeps b (State.cardActivate s i atr ppsOk) := by
  unfold State.cardActivate
  dsimp only
  split
  · exact h
  · split
    · exact h.pulse.setCard.refuseCard
    · split
      · exact h.pulse.setCard.refuseCard
      · split
        · exact h.pulse.setCard
        · exact h.pulse.setCard.refuseCard

theorem Keeps.execCardActivation {card} {atr} {ppsOk} (h : Keeps b s) : GoesOnKeeping b (Machine.execCardActivation card atr ppsOk s) :=
  .next h.cardActivate

theorem Keeps.apduAnswer {i data sw f} (h : Keeps b s) (hf : ∀ u, Keeps b u → ∀ c x, Keeps b (f u c x)) : Keeps b (s.apduAnswer i data sw f) := by
  unfold State.apduAnswer
  dsimp only
  split
  · exact h.setCard.refuseCard
  · exact .ite (hf _ h _ _) (.ite h.setCard (.ite h.setCard h.setCard.refuseCard))

theorem Keeps.selected {i} {c} {x3} (h : Keeps b s) : Keeps b (Machine.selected i s c x3) :=
  h.setCard

theorem Keeps.certRead {i} {c} {data} (h : Keeps b s) : Keeps b (Machine.certRead i s c data) := by
  unfold Machine.certRead
  dsimp only
  split
  · exact h.drewBytes.setCard
  · exact h.setCard

theorem Keeps.authAnswered {i} {c} {sig} (h : Keeps b s) : Keeps b (Machine.authAnswered i s c sig) := by
  unfold Machine.authAnswered
  dsimp only
  split
  · exact h
  · split
    · exact .refuseCard (.setCard (h.poolRun ‹_›))
    · exact .settleHx (.cartEvent (.setCard (.setCard (h.poolRun ‹_›))))

theorem Keeps.stepDone {i} {step} {x3} {x4} (h : Keeps b s) : Keeps b (Machine.stepDone i step s x3 x4) := by
  unfold Machine.stepDone
  split
  · exact h.selected
  · exact h.certRead
  · exact h.authAnswered

theorem Keeps.apdu {i} {step} {data} {sw} (h : Keeps b s) : Keeps b (State.apdu s i step data sw) := by
  unfold State.apdu
  dsimp only
  split
  · exact .apduAnswer h.setCard fun _ h4 _ _ => h4.stepDone
  · exact h

theorem Keeps.execApduSelectByName {card} {sw} (h : Keeps b s) : GoesOnKeeping b (Machine.execApduSelectByName card sw s) :=
  .next h.apdu

theorem Keeps.execApduReadBinary {card} {data} {sw} (h : Keeps b s) : GoesOnKeeping b (Machine.execApduReadBinary card data sw s) :=
  .next h.apdu

theorem Keeps.execApduInternalAuthenticate {card} {data} {sw} (h : Keeps b s) : GoesOnKeeping b (Machine.execApduInternalAuthenticate card data sw s) :=
  .next h.apdu

theorem Keeps.apduGet {i} {data} {sw} (h : Keeps b s) : Keeps b (State.apduGet s i data sw) := by
  unfold State.apduGet
  dsimp only
  split
  · exact .apduAnswer h.setCard fun _ h4 _ _ => h4.stepDone
  · exact h

theorem Keeps.execApduGetResponse {card} {data} {sw} (h : Keeps b s) : GoesOnKeeping b (Machine.execApduGetResponse card data sw s) :=
  .next h.apduGet

theorem Keeps.cardLeaves {i} (h : Keeps b s) : Keeps b (State.cardLeaves s i) := by
  unfold State.cardLeaves
  dsimp only
  split
  · exact h
  · split
    · exact h.setCard
    · exact h.pulse.setCard.cartEvent.settleHx

theorem Keeps.execCardRemoval {card} (h : Keeps b s) : GoesOnKeeping b (Machine.execCardRemoval card s) :=
  .next h.cardLeaves

theorem Keeps.expire {i} (h : Keeps b s) : Keeps b (State.expire s i) := by
  unfold State.expire
  dsimp only
  split
  · exact h.reach.setCard.settleHx
  · exact h

theorem Keeps.execAuthorisationExpiry {card} (h : Keeps b s) : GoesOnKeeping b (Machine.execAuthorisationExpiry card s) :=
  .next h.expire


/-! The operations of Machine/Cartridges. -/

theorem Keeps.execCartridgeInsertion {slot} (h : Keeps b s) : GoesOnKeeping b (Machine.execCartridgeInsertion slot s) := by
  unfold Machine.execCartridgeInsertion
  dsimp only
  exact .next h.setSlot

theorem Keeps.slotStart {n} {a} (h : Keeps b s) : Keeps b (State.slotStart s n a) := by
  unfold State.slotStart
  dsimp only
  split
  · exact h
  · split
    · exact h.setSlot.pulse.slotUp
    · split
      · exact h.slotUp
      · exact h

theorem Keeps.execSlotBringup {slot} {ans} (h : Keeps b s) : GoesOnKeeping b (Machine.execSlotBringup slot ans s) :=
  .next h.slotStart

theorem Keeps.slotRemoved {n} (h : Keeps b s) : Keeps b (State.slotRemoved s n) := by
  unfold State.slotRemoved
  dsimp only
  split
  · exact h
  · split
    · exact h.setSlot
    · exact h.setSlot.pulse.slotDown.cartEvent.hxRemoved

theorem Keeps.execRemoval {slot} (h : Keeps b s) : GoesOnKeeping b (Machine.execRemoval slot s) :=
  .next h.slotRemoved

theorem Keeps.slotTimeout {n} {a} (h : Keeps b s) : Keeps b (State.slotTimeout s n a) := by
  unfold State.slotTimeout
  dsimp only
  split
  · exact h
  · exact h.slotDown.slotUp

theorem Keeps.execLinkTimeout {slot} {ans} (h : Keeps b s) : GoesOnKeeping b (Machine.execLinkTimeout slot ans s) :=
  .next h.slotTimeout

theorem Keeps.slotIdle {n} (h : Keeps b s) : Keeps b (State.slotIdle s n) := by
  unfold State.slotIdle
  dsimp only
  split
  · exact h
  · split
    · exact h.setSlot
    · exact h.setSlot

theorem Keeps.execSlotIdle {slot} (h : Keeps b s) : GoesOnKeeping b (Machine.execSlotIdle slot s) :=
  .next h.slotIdle

theorem Keeps.linkFail {n} {crc} (h : Keeps b s) : Keeps b (State.linkFail s n crc) := by
  unfold State.linkFail
  dsimp only
  split
  · exact h.setSlot
  · split
    · exact h.setSlot.slotFail
    · exact h.setSlot

theorem Keeps.onLink {n index arg ok f} (h : Keeps b s) (hf : ∀ u, Keeps b u → ∀ c, Keeps b (f u c)) : Keeps b (s.onLink n index arg ok f) :=
  .ite (.ite (hf _ h.setSlot _) h.setSlot) h

theorem Keeps.withStatus {n index ans f} (h : Keeps b s) (hf : ∀ c, Keeps b (f c)) : Keeps b (s.withStatus n index ans f) := by
  unfold State.withStatus
  split
  · exact h.linkFail
  · exact .ite h.setSlot (.ite h.setSlot.linkFail (hf _))

theorem Keeps.withBlocks {n index ans l f} (h : Keeps b s) (hf : ∀ u, Keeps b u → ∀ c x, Keeps b (f u c x)) : Keeps b (s.withBlocks n index ans l f) := by
  refine .withStatus h fun c => ?_
  split
  · exact h.setSlot.linkFail
  · exact hf _ h _ _

theorem Keeps.mhGoIdle {n} (h : Keeps b s) : Keeps b (State.mhGoIdle s n) := by
  unfold State.mhGoIdle
  dsimp only
  split
  · exact h
  · exact h.setSlot

theorem Keeps.execMhGoIdle {slot} (h : Keeps b s) : GoesOnKeeping b (Machine.execMhGoIdle slot s) :=
  .next h.mhGoIdle

theorem Keeps.mhIdentify {n} {ans} (h : Keeps b s) : Keeps b (State.mhIdentify s n ans) :=
  .onLink h fun _ h2 _ => (by
      split
      · exact h2.linkFail
      · split
        · exact h2.setSlot
        · exact h2.setSlot)

theorem Keeps.execMhIdentify {slot} {answer} (h : Keeps b s) : GoesOnKeeping b (Machine.execMhIdentify slot answer s) :=
  .next h.mhIdentify

theorem Keeps.mhReadIdent {n} {ans} (h : Keeps b s) : Keeps b (State.mhReadIdent s n ans) := by
  unfold State.mhReadIdent
  dsimp only
  exact .onLink h fun _ h3 _ => (by
      split
      · exact h3.linkFail
      · split
        · exact h3.setSlot
        · exact h3.setSlot.slotFail)

theorem Keeps.execMhReadIdent {slot} {answer} (h : Keeps b s) : GoesOnKeeping b (Machine.execMhReadIdent slot answer s) :=
  .next h.mhReadIdent

theorem Keeps.mhSelect {n} {st} (h : Keeps b s) : Keeps b (State.mhSelect s n st) :=
  .onLink h fun _ h2 _ => .withStatus h2 fun _ => h2.setSlot

theorem Keeps.execMhSelect {slot} {answer} (h : Keeps b s) : GoesOnKeeping b (Machine.execMhSelect slot answer s) :=
  .next h.mhSelect

theorem Keeps.mhSwitch {n} {m} {st} (h : Keeps b s) : Keeps b (State.mhSwitch s n m st) := by
  unfold State.mhSwitch
  split
  · exact h
  · exact .onLink h fun _ h3 _ => .withStatus h3 fun _ => h3.setSlot

theorem Keeps.execMhSwitch {slot} {mode} {answer} (h : Keeps b s) : GoesOnKeeping b (Machine.execMhSwitch slot mode answer s) :=
  .next h.mhSwitch

theorem Keeps.mhReadCheck {n} {st} {lines} (h : Keeps b s) : Keeps b (State.mhReadCheck s n st lines) := by
  unfold State.mhReadCheck
  dsimp only
  exact .onLink h fun _ h3 _ => .withStatus h3 fun _ => .ite h3.setSlot (.ite h3.setSlot.slotFail h3.setSlot)

theorem Keeps.execMhReadCheck {slot} {answer} {lines} (h : Keeps b s) : GoesOnKeeping b (Machine.execMhReadCheck slot answer lines s) :=
  .next h.mhReadCheck

theorem Keeps.mhStop {n} {st} (h : Keeps b s) : Keeps b (State.mhStop s n st) :=
  .onLink h fun _ h2 _ => .withStatus h2 fun _ => h2.setSlot

theorem Keeps.execMhStop {slot} {answer} (h : Keeps b s) : GoesOnKeeping b (Machine.execMhStop slot answer s) :=
  .next h.mhStop

theorem Keeps.mhStatus {n} {st} (h : Keeps b s) : Keeps b (State.mhStatus s n st) := by
  unfold State.mhStatus
  dsimp only
  exact .onLink h fun _ h3 _ => (by
      split
      · exact h3.linkFail
      · exact h3.setSlot)

theorem Keeps.execMhStatus {slot} {answer} (h : Keeps b s) : GoesOnKeeping b (Machine.execMhStatus slot answer s) :=
  .next h.mhStatus

theorem Keeps.mhReadBlocks {n} {block} {st} {blocks} (h : Keeps b s) : Keeps b (State.mhReadBlocks s n block st blocks) := by
  unfold State.mhReadBlocks
  dsimp only
  exact .onLink h fun _ h3 _ => .withStatus h3 fun _ => .ite h3.setSlot ((by
      split
      · exact h3.setSlot.linkFail
      · exact h3.setSlot))

theorem Keeps.execMhReadBlocks {slot} {block} {answer} {blocks} (h : Keeps b s) : GoesOnKeeping b (Machine.execMhReadBlocks slot block answer blocks s) :=
  .next h.mhReadBlocks

theorem Keeps.mhWriteBlocks {n} {block} {data} {st} {token} (h : Keeps b s) : Keeps b (State.mhWriteBlocks s n block data st token) := by
  unfold State.mhWriteBlocks
  dsimp only
  exact .onLink h fun _ h3 _ => .withStatus h3 fun _ => .ite h3.setSlot (.ite h3.setSlot.linkFail h3.setSlot)

theorem Keeps.execMhWriteBlocks {slot} {block} {data} {answer} {token} (h : Keeps b s) : GoesOnKeeping b (Machine.execMhWriteBlocks slot block data answer token s) :=
  .next h.mhWriteBlocks

theorem Keeps.mhSetCount {n} {k} {st} (h : Keeps b s) : Keeps b (State.mhSetCount s n k st) := by
  unfold State.mhSetCount
  split
  · exact h
  · exact .onLink h fun _ h3 _ => .withStatus h3 fun _ => h3.setSlot

theorem Keeps.execMhSetCount {slot} {count} {answer} (h : Keeps b s) : GoesOnKeeping b (Machine.execMhSetCount slot count answer s) :=
  .next h.mhSetCount

theorem Keeps.readyAfterRpa {n} (h : Keeps b s) : Keeps b (State.readyAfterRpa s n) := by
  unfold State.readyAfterRpa
  dsimp only
  split
  · exact h.slotReady
  · exact h

theorem Keeps.mhCounterRead {n} {st} {lines} (h : Keeps b s) : Keeps b (State.mhCounterRead s n st lines) :=
  .onLink h fun _ h2 _ => (by
      split
      · exact h2.setSlot.readyAfterRpa
      · exact .withBlocks h2.cartOut.drewBytes fun _ h7 _ _ => .ite h7.setSlot h7.setSlot)

theorem Keeps.execMhCounterRead {slot} {answer} {lines} (h : Keeps b s) : GoesOnKeeping b (Machine.execMhCounterRead slot answer lines s) :=
  .next h.mhCounterRead

theorem Keeps.mhRpaRead {n} {st} {blocks} (h : Keeps b s) : Keeps b (State.mhRpaRead s n st blocks) :=
  .onLink h fun _ h2 _ => (by
      split
      · exact h2
      · split
        · exact .withBlocks h2 fun _ h8 _ _ => .ite (.ite h8.setSlot.rpaDone h8.setSlot) h8.setSlot
        · exact .withBlocks h2.cartOut.drewBytes fun _ h8 _ _ => .ite h8.setSlot.readyAfterRpa h8.setSlot)

theorem Keeps.execMhRpaRead {slot} {answer} {blocks} (h : Keeps b s) : GoesOnKeeping b (Machine.execMhRpaRead slot answer blocks s) :=
  .next h.mhRpaRead

theorem Keeps.mhRpaWrite {n} {addr} {units} {st} (h : Keeps b s) : Keeps b (State.mhRpaWrite s n addr units st) := by
  unfold State.mhRpaWrite
  split
  · exact .onLink h fun _ h3 _ => .withStatus h3 fun _ => h3.setSlot.rpaSend
  · exact h

theorem Keeps.execMhRpaWrite {slot} {address} {units} {answer} (h : Keeps b s) : GoesOnKeeping b (Machine.execMhRpaWrite slot address units answer s) :=
  .next h.mhRpaWrite

theorem Keeps.keepPair {maker} {serial} {key} (h : Keeps b s) : Keeps b (State.keepPair s maker serial key) :=
  h.withVault

theorem Keeps.pairWith {n block} {r : State × Bytes} (h : Keeps b s) (he : s.pairWith n block = some r) : Keeps b r.1 := by
  unfold State.pairWith at he
  dsimp only at he
  split at he
  · cases he
  · obtain ⟨u, hu, rfl⟩ := Option.map_eq_some_iff.mp he
    exact (h.drewBytes.poolRun hu).cartOut

theorem Keeps.paired {n} {key} (h : Keeps b s) : Keeps b (State.paired s n key) := by
  unfold State.paired
  dsimp only
  exact h.keepPair.setSlot

theorem Keeps.mhPair {n} {st} (h : Keeps b s) : Keeps b (State.mhPair s n st) := by
  unfold State.mhPair
  split
  · exact h
  · exact .onLink h fun _ h3 _ => (by
      split
      · exact h3
      · exact .withStatus (h3.pairWith ‹_›) fun _ => .writeImage (.paired (.setSlot (h3.pairWith ‹_›))))

theorem Keeps.execMhPair {slot} {answer} (h : Keeps b s) : GoesOnKeeping b (Machine.execMhPair slot answer s) :=
  .next h.mhPair

theorem Keeps.mhReadKey {n} {st} {lines} (h : Keeps b s) : Keeps b (State.mhReadKey s n st lines) :=
  .onLink h fun _ h2 _ => .withBlocks h2 fun _ h4 _ _ => h4.setSlot

theorem Keeps.execMhReadKey {slot} {answer} {lines} (h : Keeps b s) : GoesOnKeeping b (Machine.execMhReadKey slot answer lines s) :=
  .next h.mhReadKey

theorem Keeps.mhSleep {n} {st} (h : Keeps b s) : Keeps b (State.mhSleep s n st) := by
  unfold State.mhSleep
  split
  · exact h
  · exact .onLink h fun _ h3 _ => .withStatus h3 fun _ => h3.setSlot

theorem Keeps.execMhSleep {slot} {answer} (h : Keeps b s) : GoesOnKeeping b (Machine.execMhSleep slot answer s) :=
  .next h.mhSleep

theorem Keeps.mhWake {n} {st} (h : Keeps b s) : Keeps b (State.mhWake s n st) := by
  unfold State.mhWake
  split
  · exact h
  · exact .onLink h fun _ h3 _ => .withStatus h3 fun _ => h3.setSlot

theorem Keeps.execMhWake {slot} {answer} (h : Keeps b s) : GoesOnKeeping b (Machine.execMhWake slot answer s) :=
  .next h.mhWake


/-! The operations of Machine/LifeCycle. -/

theorem Keeps.runTicks {ms} {evs} (h : Keeps b s) : Keeps b (State.runTicks s ms evs) :=
  { h with }

theorem Keeps.openAllEpochs (h : Keeps b s) : Keeps b (State.openAllEpochs s) := by
  unfold State.openAllEpochs
  dsimp only
  exact h.withVault.foldl (fun _ _ h3 => h3.prepareEpoch.openEpoch)

theorem Keeps.refuse {t1} {a} {r} (h : Keeps b s) : Keeps b (State.refuse s t1 a r) := by
  unfold State.refuse
  dsimp only
  exact .finishWith { h with }

theorem Keeps.beginTransition {t1} {b2} (h : Keeps b s) : Keeps b (State.beginTransition s t1 b2) := by
  unfold State.beginTransition
  dsimp only
  exact .addEvent (.setTk { h with })

theorem Keeps.lifeRequest {a o kind f} (h : Keeps b s) (hf : ∀ u, Keeps b u → ∀ t x, Keeps b (f u t x)) : Keeps b (s.lifeRequest a o kind f) :=
  .withTk h fun _ => .withObj h fun _ h1 _ => .ite h1 (.verifyOn h1 fun _ h2 => .ite h2.refuse (.ite h2.finishWith (hf _ h2 _ _)))

theorem Keeps.execClaim {a} {obj} (h : Keeps b s) : GoesOnKeeping b (Machine.execClaim a obj s) :=
  .next (.lifeRequest h fun _ h2 _ _ => h2.beginTransition)

theorem Keeps.execOwnerChange {a} {obj} (h : Keeps b s) : GoesOnKeeping b (Machine.execOwnerChange a obj s) :=
  .next (.lifeRequest h fun _ h2 _ _ => h2.beginTransition)

theorem Keeps.execReturnDevice {a} {obj} (h : Keeps b s) : GoesOnKeeping b (Machine.execReturnDevice a obj s) :=
  .next (.lifeRequest h fun _ h2 _ _ => h2.beginTransition)

theorem Keeps.execScrap {a} {obj} (h : Keeps b s) : GoesOnKeeping b (Machine.execScrap a obj s) :=
  .next (.lifeRequest h fun _ h2 _ _ => h2.beginTransition)

theorem Keeps.setAuthority {a} (h : Keeps b s) : Keeps b (State.setAuthority s a) :=
  h.withVault

theorem Keeps.updateAuthority {t us x} (h : Keeps b s) : Keeps b (s.updateAuthority t x us) :=
  .addEvent (.finish (.withGuard (.ite h.setAuthority.writeImage (.withVault h.setAuthority)) rfl))

theorem Keeps.execAuthorityUpdate {a} {obj} (h : Keeps b s) : GoesOnKeeping b (Machine.execAuthorityUpdate a obj s) :=
  .next (.lifeRequest h fun _ h2 _ _ => h2.updateAuthority)

theorem Keeps.logConfig {source} {level} {detail} (h : Keeps b s) : Keeps b (State.logConfig s source level detail) :=
  h.logTamper

theorem Keeps.burnFuse {n} (h : Keeps b s) : Keeps b (s.burnFuse n) := by
  have hburn : OtpGrows s.guard.otp (if n = 31 then { s.guard.otp with killAllowed := true } else { s.guard.otp with fuses := setBit s.guard.otp.fuses n true }) := by
    split
    · exact ⟨rfl, fun _ hk => hk, fun _ hn => hn, fun _ => rfl⟩
    · exact ⟨rfl, fun _ hk => hk, fun k hk => by simp [setBit, hk], id⟩
  have h1 := h.setOtp hburn
  exact .ite h (.ite (.ite h1 h1.setSrc) (.logConfig (.ite h1 h1.setSrc)))

theorem Keeps.burnFuses {t1} {b2} {stuck} {us} (h : Keeps b s) : Keeps b (State.burnFuses s t1 b2 stuck us) := by
  unfold State.burnFuses
  dsimp only
  exact .addEvent (.finish (.withGuard (.foldl (h.foldl (fun _ _ h7 => h7.burnFuse)) (fun _ _ h6 => h6.raise)) rfl))

theorem Keeps.execFuse {a} {obj} {stuck} (h : Keeps b s) : GoesOnKeeping b (Machine.execFuse a obj stuck s) :=
  .next (.ite h (.lifeRequest h fun _ h3 _ _ => h3.burnFuses))

theorem Keeps.withCount {target f} (h : Keeps b s) (hf : ∀ u, Keeps b u → Keeps b (f u)) : Keeps b (s.withCount target f) := by
  have h1 := hf _ (h.setOtp ((otpGrows_burnIntent s.guard.otp target).trans (otpGrows_burnDone _ target)))
  exact h1.withOtp ⟨h1.unitId, h.counter, h1.fuses, h1.killAllowed⟩

theorem Keeps.newVault {a ticket firstTick authorised} (h : Keeps b s) : Keeps b (s.newVault a ticket firstTick authorised) := by
  have h1 : Keeps b ((s.drewBytes 32).setAuthority a) := h.drewBytes.setAuthority
  exact .writeImage (.newSigner { h1 with })

theorem Keeps.withRoot {n x} (h : Keeps b s) : Keeps b (s.setOtp { s.guard.otp with roots := s.guard.otp.roots.ins n x }) :=
  h.setOtp ⟨rfl, fun _ hk => hk, fun _ hn => hn, id⟩

theorem Keeps.phase3 {t} (h : Keeps b s) : Keeps b (s.phase3 t) := by
  unfold State.phase3
  split
  · exact .withCount h.withRoot fun _ h1 => h1.newVault
  · exact .withCount h.withRoot.wipe fun _ h1 => h1.newVault
  · exact h.wipe

theorem Keeps.startGeneration {t1} (h : Keeps b s) : Keeps b (State.startGeneration s t1) := by
  unfold State.startGeneration
  dsimp only
  exact h.withLedger.runTicks.openAllEpochs.writeImage

theorem Keeps.lifeReceipt {t1} (h : Keeps b s) : Keeps b (State.lifeReceipt s t1) := by
  unfold State.lifeReceipt
  dsimp only
  split
  · exact h.finish
  · exact h

theorem Keeps.phase4 {t} (h : Keeps b s) : Keeps b (s.phase4 t) := by
  have h2 : Keeps b { ((s.setOtp (s.guard.otp.burnDone t.target)).endPass) with
      guard := { ((s.setOtp (s.guard.otp.burnDone t.target)).endPass).guard with transition := none, request0 := none, request1 := none } } :=
    .withGuard (.endPass (h.setOtp (otpGrows_burnDone _ _))) rfl
  unfold State.phase4
  dsimp only
  split
  · exact .holdCore (.lifeReceipt (h2.setOtp (otpGrows_burnRest _)))
  · exact .lifeReceipt (.devEvent (.withPower h2))
  · exact .lifeReceipt (.startGeneration (.ite h2 (.devEvent (.withPower h2))))

theorem Keeps.advance {stuck} (h : Keeps b s) : Keeps b (s.advance stuck) := by
  unfold State.advance
  split
  · exact h
  · refine .ite h (.ite h.raise (.ite h.killBurns ?_))
    split
    · exact .ite (h.withOtp (h.otp_grows.trans (otpGrows_burnIntent _ _))) h
    · exact .ite h (.withGuard h.phase3 rfl)
    · exact h.phase4

theorem Keeps.execTransitionPhases {stuck} (h : Keeps b s) : GoesOnKeeping b (Machine.execTransitionPhases stuck s) := by
  unfold Machine.execTransitionPhases
  dsimp only
  exact .next (.ite h.advance.mainReset h.advance)

theorem Keeps.takePass {t1} {b2} {us} (h : Keeps b s) : Keeps b (State.takePass s t1 b2 us) := by
  unfold State.takePass
  dsimp only
  exact .addEvent (.finish (.ite { h with } (.logConfig { h with })))

theorem Keeps.execDebugPass {a} {obj} (h : Keeps b s) : GoesOnKeeping b (Machine.execDebugPass a obj s) := by
  unfold Machine.execDebugPass
  dsimp only
  exact .next (.withTk h fun _ => .withObj h fun _ h5 _ => .verifyOn h5 fun _ h7 => .ite h7.refuse (.ite h7.finishWith h7.takePass))

theorem Keeps.drawNonce (h : Keeps b s) : Keeps b s.drawNonce :=
  .withGuard h.drewBytes rfl

theorem Keeps.execNewNonce (h : Keeps b s) : GoesOnKeeping b (Machine.execNewNonce s) :=
  .next h.drawNonce

theorem Keeps.execEndPass (h : Keeps b s) : GoesOnKeeping b (Machine.execEndPass s) :=
  .next h.endPass

theorem Keeps.execPassExpiry (h : Keeps b s) : GoesOnKeeping b (Machine.execPassExpiry s) :=
  .next (.ite h.reach.endPass h)

theorem Keeps.counterCheck {damaged} (h : Keeps b s) : Keeps b (State.counterCheck s damaged) := by
  unfold State.counterCheck
  split
  · exact h.raise
  · split
    · exact h
    · exact h.raise

theorem Keeps.execCounterCheck {damaged} (h : Keeps b s) : GoesOnKeeping b (Machine.execCounterCheck damaged s) :=
  .next h.counterCheck

theorem Keeps.releaseLockdown {ticket x} (h : Keeps b s) : Keeps b (s.releaseLockdown ticket x) := by
  have h0 : Keeps b (if s.power.lossInLockdown then { s with tabs := { s.tabs with days := [] } } else s) := .ite (.withTabs h id id) h
  have h1 : ∀ a n, Keeps b ((if s.power.lossInLockdown then { s with tabs := { s.tabs with days := [] } } else s).newVault a ticket n (sha384 x)) := fun _ _ => h0.newVault
  exact .devEvent (.writeImage (.openAllEpochs (.runTicks { h1 _ _ with })))

theorem Keeps.execLockdownRelease {a} {obj} (h : Keeps b s) : GoesOnKeeping b (Machine.execLockdownRelease a obj s) := by
  unfold Machine.execLockdownRelease
  dsimp only
  exact .next (.withTk h fun _ => .withObj h fun _ h5 _ => .verifyOn h5 fun _ h7 => .ite h7.withPower.finishWith h7.releaseLockdown.finishWith)


/-! The operations of Machine/Faults. -/

theorem Keeps.escalate25 {a} (h : Keeps b s) : Keeps b (State.escalate25 s a) := by
  unfold State.escalate25
  split
  · exact h.raise
  · exact h

theorem Keeps.mismatch {a} {cls} {detail} {interrupt} (h : Keeps b s) : Keeps b (State.mismatch s a cls detail interrupt) := by
  unfold State.mismatch
  dsimp only
  exact h.pulse.countMismatch.stallFault.escalate25

theorem Keeps.execLockstepMismatch {unit} {interrupt} (h : Keeps b s) : GoesOnKeeping b (Machine.execLockstepMismatch unit interrupt s) :=
  .next (.ite h.mismatch h)

theorem Keeps.execWorstCaseOverrun {unit} {interrupt} (h : Keeps b s) : GoesOnKeeping b (Machine.execWorstCaseOverrun unit interrupt s) :=
  .next ((by
      split
      · split
        · exact h.mismatch
        · exact h
      · exact h))

theorem Keeps.retireStall {a} {code} (h : Keeps b s) : Keeps b (State.retireStall s a code) := by
  unfold State.retireStall
  dsimp only
  exact .skipRow (.ite h.setUState.logFault.setSpareFor (.ite h.setUState.logFault.setUState.setSpareFor h.setUState.logFault))

theorem Keeps.stallTested {a} {failed} (h : Keeps b s) : Keeps b (State.stallTested s a failed) := by
  unfold State.stallTested
  dsimp only
  exact .rowEvent ((by
      split
      · exact h.retireStall
      · split
        · exact h.spareBack
        · exact h.setUState.spareNext))

theorem Keeps.execStallTestComplete {unit} {failedCode} (h : Keeps b s) : GoesOnKeeping b (Machine.execStallTestComplete unit failedCode s) :=
  .next (.ite h.stallTested h)

theorem Keeps.execCheckFault {unit} {interrupt} (h : Keeps b s) : GoesOnKeeping b (Machine.execCheckFault unit interrupt s) :=
  .next (.ite h ((by
      split
      · exact h.engineFault
      · exact h.engineFault
      · exact h)))

theorem Keeps.hasherFault {e} {subtree} {interrupt} (h : Keeps b s) : Keeps b (State.hasherFault s e subtree interrupt) := by
  unfold State.hasherFault
  dsimp only
  exact h.setUState.logFault

theorem Keeps.execLedgerHasherCheck {hasher} {subtree} {interrupt} (h : Keeps b s) : GoesOnKeeping b (Machine.execLedgerHasherCheck hasher subtree interrupt s) :=
  .next (.ite h.hasherFault h)

theorem Keeps.pkeChecked {e} {interrupt} (h : Keeps b s) : Keeps b (State.pkeChecked s e interrupt) := by
  unfold State.pkeChecked
  split
  · exact h.pkeFault.drainPke
  · exact h.setPke.setUState.poolLow.logFault.drainPke

theorem Keeps.execPkeCheck {engine} {interrupt} (h : Keeps b s) : GoesOnKeeping b (Machine.execPkeCheck engine interrupt s) :=
  .next (.ite h.pkeChecked h)

theorem Keeps.retireEngine {a} (h : Keeps b s) : Keeps b (State.retireEngine s a) :=
  h.setUState.poolLow.logFault.settle

theorem Keeps.shortSet {a} {bits_} (h : Keeps b s) : Keeps b (State.shortSet s a bits_) := by
  unfold State.shortSet
  dsimp only
  split
  · exact .settle (.setUState ((by
      split
      · exact h.patchFault
      · exact h.patchFault
      · exact h)))
  · exact .retireEngine ((by
      split
      · exact h.patchFault
      · exact h.patchFault
      · exact h))

theorem Keeps.execShortSetComplete {unit} {failedBits} (h : Keeps b s) : GoesOnKeeping b (Machine.execShortSetComplete unit failedBits s) :=
  .next ((by
      split
      · split
        · exact h.shortSet
        · exact h
      · exact h))

theorem Keeps.reseedDrbg {healthy} (h : Keeps b s) : Keeps b (State.reseedDrbg s healthy) := by
  unfold State.reseedDrbg
  dsimp only
  split
  · exact h.withVault
  · split
    · exact h.withVault.logFault
    · exact h.withVault

theorem Keeps.execDrbgReseed {healthy} (h : Keeps b s) : GoesOnKeeping b (Machine.execDrbgReseed healthy s) :=
  .next h.reseedDrbg

theorem Keeps.reseedGrinder {row} {healthy} (h : Keeps b s) : Keeps b (State.reseedGrinder s row healthy) := by
  unfold State.reseedGrinder
  dsimp only
  split
  · exact h.seedGrinder
  · split
    · exact h.setRowEng.logFault.engineFault
    · exact h.setRowEng.logFault

theorem Keeps.execGrinderReseed {row} {healthy} (h : Keeps b s) : GoesOnKeeping b (Machine.execGrinderReseed row healthy s) :=
  .next h.reseedGrinder

theorem Keeps.reseedPool {healthy} (h : Keeps b s) : Keeps b (State.reseedPool s healthy) := by
  unfold State.reseedPool
  dsimp only
  split
  · exact { h with }
  · split
    · exact .foldl (.logFault { h with }) (fun _ _ h5 => h5.pkeChecked)
    · exact .logFault { h with }

theorem Keeps.execPoolReseed {healthy} (h : Keeps b s) : GoesOnKeeping b (Machine.execPoolReseed healthy s) :=
  .next h.reseedPool


/-! The operations of Machine/Ddr. -/

theorem Keeps.repullItem {t1} (h : Keeps b s) : Keeps b (State.repullItem s t1) := by
  unfold State.repullItem
  dsimp only
  split
  · split
    · split
      · exact h.rerunItem.setTk
      · exact h.rerunItem
    · exact h.rerunItem
  · split
    · exact h.skipFault
    · exact h.setTk

theorem Keeps.dropObject {e} (h : Keeps b s) : Keeps b (State.dropObject s e) :=
  .withTabs h.loseEntries.modCrate id id

theorem Keeps.recoverLine {h1} (h : Keeps b s) : Keeps b (State.recoverLine s h1).1 := by
  unfold State.recoverLine
  dsimp only
  split
  · exact h
  · exact h
  · exact h
  · exact { h with }
  · split
    · split
      · exact h.repullItem
      · exact h
    · exact h
  · split
    · split
      · exact h
      · split
        · exact h
        · exact h.dropObject
    · exact h

theorem Keeps.raise26 {chan} {what} (h : Keeps b s) : Keeps b (State.raise26 s chan what) :=
  h.pulse.raise

theorem Keeps.retirePage {chan} {page} (h : Keeps b s) : Keeps b (State.retirePage s chan page) := by
  unfold State.retirePage
  dsimp only
  split
  · exact h
  · split
    · exact .raise26 (.logFault (.withDdr h.setDdrChan id))
    · exact .logFault (.withDdr h.setDdrChan id)

theorem Keeps.correctedError {chan} {page} (h : Keeps b s) : Keeps b (State.correctedError s chan page) := by
  unfold State.correctedError
  dsimp only
  split
  · exact .retirePage (.logFault (.setDdrChan { h with }))
  · exact .logFault (.setDdrChan { h with })

theorem Keeps.checkDdrChan {chan} (h : Keeps b s) : Keeps b (State.checkDdrChan s chan) := by
  unfold State.checkDdrChan
  dsimp only
  split
  · exact h.setDdrChan.logFault.raise26
  · exact h

theorem Keeps.recoverLines {l} (h : Keeps b s) : Keeps b (s.recoverLines l).1 :=
  .foldl_fst h fun _ _ h1 => h1.recoverLine

theorem Keeps.lostLine {chan} {page} {mac} {held} {interrupt} (h : Keeps b s) : Keeps b (State.lostLine s chan page mac held interrupt) := by
  unfold State.lostLine
  dsimp only
  split
  · exact .raise26 (.checkDdrChan (.retirePage (.logFault (.recoverLines (.setDdrChan { h with })))))
  · exact .checkDdrChan (.retirePage (.logFault (.recoverLines (.setDdrChan { h with }))))

theorem Keeps.touchDdr {chan} (h : Keeps b s) : Keeps b (State.touchDdr s chan) := by
  unfold State.touchDdr
  dsimp only
  split
  · exact h.setDdrChan
  · exact h

theorem Keeps.ddrErr {chan} {page} {e} {held} {interrupt} (h : Keeps b s) : Keeps b (State.ddrErr s chan page e held interrupt) := by
  unfold State.ddrErr
  dsimp only
  split
  · exact h
  · split
    · exact h.touchDdr.correctedError
    · exact h.touchDdr.lostLine
    · exact h.touchDdr.lostLine
    · exact h.touchDdr.lostLine

theorem Keeps.execDdrError {chan} {page} {err} {held} {interrupt} (h : Keeps b s) : GoesOnKeeping b (Machine.execDdrError chan page err held interrupt s) :=
  .next h.ddrErr

theorem Keeps.patrol {errors} (h : Keeps b s) : Keeps b (State.patrol s errors) := by
  unfold State.patrol
  dsimp only
  split
  · exact h
  · exact .withDdr (.foldl (.foldl (.ite h.reach h) (fun _ _ h6 => h6.touchDdr)) (fun _ _ h5 => h5.ddrErr)) id

theorem Keeps.execPatrolScrub {errors} (h : Keeps b s) : GoesOnKeeping b (Machine.execPatrolScrub errors s) :=
  .next h.patrol

theorem Keeps.selfRefresh {chan} {enter} (h : Keeps b s) : Keeps b (State.selfRefresh s chan enter) := by
  unfold State.selfRefresh
  dsimp only
  split
  · split
    · exact h.reach.setDdrChan
    · exact h
  · exact h.touchDdr

theorem Keeps.execSelfRefresh {chan} {enter} (h : Keeps b s) : GoesOnKeeping b (Machine.execSelfRefresh chan enter s) :=
  .next h.selfRefresh

theorem Keeps.execElasticFillComplete (h : Keeps b s) : GoesOnKeeping b (Machine.execElasticFillComplete s) := by
  unfold Machine.execElasticFillComplete
  dsimp only
  exact .next (.ite { h with } h)


/-! The operations of Machine/Monitors. -/

theorem Keeps.arrived27 {dets} (h : Keeps b s) : Keeps b (State.arrived27 s dets) := by
  unfold State.arrived27
  dsimp only
  split
  · exact h.withPower
  · exact h

theorem Keeps.execTamperDetection {dets} {fraction} (h : Keeps b s) : GoesOnKeeping b (Machine.execTamperDetection dets fraction s) :=
  .next (.ite h.arrived27.detect h)

theorem Keeps.backupOne {n} (h : Keeps b s) : Keeps b (State.backupOne s n) := by
  unfold State.backupOne
  dsimp only
  split
  · exact { Keeps.ite h.setSrc.ringPut.withVault h.setSrc.ringPut with }
  · split
    · exact h.setSrc.ringPut.withVault
    · exact h.setSrc.ringPut

theorem Keeps.backupDetect {dets} (h : Keeps b s) : Keeps b (State.backupDetect s dets) := by
  unfold State.backupDetect
  split
  · exact h.foldl (fun _ _ h3 => .ite h3.backupOne h3)
  · exact h

theorem Keeps.execBackupDetection {dets} (h : Keeps b s) : GoesOnKeeping b (Machine.execBackupDetection dets s) :=
  .next h.backupDetect

theorem Keeps.clearCondition {n} (h : Keeps b s) : Keeps b (State.clearCondition s n) := by
  unfold State.clearCondition
  dsimp only
  split
  · exact h.setSrc.withPower
  · exact h.setSrc

theorem Keeps.execConditionCleared {source} (h : Keeps b s) : GoesOnKeeping b (Machine.execConditionCleared source s) :=
  .next h.clearCondition

theorem Keeps.execTamperLogFlush (h : Keeps b s) : GoesOnKeeping b (Machine.execTamperLogFlush s) :=
  .next h.flushTamper

theorem Keeps.execFaultLogFlush (h : Keeps b s) : GoesOnKeeping b (Machine.execFaultLogFlush s) :=
  .next h.flushFaults

theorem Keeps.lockTamper (h : Keeps b s) : Keeps b (State.lockTamper s) := by
  unfold State.lockTamper
  dsimp only
  split
  · exact h
  · exact { h with }

theorem Keeps.execLock (h : Keeps b s) : GoesOnKeeping b (Machine.execLock s) :=
  .next h.lockTamper

theorem Keeps.writeSrc {n} {v} (h : Keeps b s) : Keeps b (State.writeSrc s n v) := by
  unfold State.writeSrc
  dsimp only
  split
  · exact h
  · exact h.setSrc.logConfig

theorem Keeps.execTamperSrcWrite {source} {value} (h : Keeps b s) : GoesOnKeeping b (Machine.execTamperSrcWrite source value s) :=
  .next h.writeSrc

theorem Keeps.writeLockstep {v} (h : Keeps b s) : Keeps b (State.writeLockstep s v) := by
  unfold State.writeLockstep
  dsimp only
  split
  · exact h
  · exact .logConfig { h with }


/-! The operations of Machine/FlashCmds. -/

theorem Keeps.loseOp {t1} {block} (h : Keeps b s) : Keeps b (State.loseOp s t1 block) := by
  unfold State.loseOp
  split
  · exact h.reform
  · split
    · exact h.loseLane
    · exact h

theorem Keeps.opFail {t1} {lun} {plane} {block} (h : Keeps b s) : Keeps b (State.opFail s t1 lun plane block) :=
  h.blockFails.loseOp

theorem Keeps.setRetry {t1} {lun} {level} (h : Keeps b s) : Keeps b (State.setRetry s t1 lun level) := by
  unfold State.setRetry
  dsimp only
  exact h.setTarget

theorem Keeps.applyLevels {t1} {lun} (h : Keeps b s) : Keeps b (State.applyLevels s t1 lun) := by
  unfold State.applyLevels
  dsimp only
  exact h.setTarget

theorem Keeps.countSoft {t1} {n} (h : Keeps b s) : Keeps b (State.countSoft s t1 n) :=
  .withFlash h.setTarget id id id

theorem Keeps.reconstructed {t1} {block} {id} {n} (h : Keeps b s) : Keeps b (State.reconstructed s t1 block id n) := by
  unfold State.reconstructed
  dsimp only
  exact .logFault { h with }

theorem Keeps.reconstruct {t1} {block} {n} (h : Keeps b s) : Keeps b (State.reconstruct s t1 block n) := by
  unfold State.reconstruct
  dsimp only
  split
  · exact h
  · split
    · exact h
    · exact h.reconstructed

theorem Keeps.readDone {t1} {o} {failed} (h : Keeps b s) : Keeps b (State.readDone s t1 o failed) := by
  unfold State.readDone
  dsimp only
  exact .reconstruct (.setLane (.ite h.countSoft.setRetry h.countSoft))

theorem Keeps.startOp {t1} {o} (h : Keeps b s) : Keeps b (State.startOp s t1 o) := by
  unfold State.startOp
  dsimp only
  exact .setTarget (.ite h.applyLevels h)

theorem Keeps.startGo {n t} (h : Keeps b s) : Keeps b (Machine.startGo n s t) := by
  induction n generalizing s with
  | zero => exact h
  | succ n ih =>
    unfold Machine.startGo
    dsimp only
    split
    · exact h
    · next hpick =>
      split
      · exact ih (h.pickClass hpick).startOp
      · exact h

theorem Keeps.startOps {t1} (h : Keeps b s) : Keeps b (State.startOps s t1) := by
  unfold State.startOps
  dsimp only
  split
  · split
    · exact h.startGo.setTarget
    · exact h.startGo
  · split
    · exact h.setTarget
    · exact h

theorem Keeps.opLost {t1} {o} (h : Keeps b s) : Keeps b (State.opLost s t1 o) := by
  unfold State.opLost
  split
  · exact h.readDone
  · exact h.loseOp

theorem Keeps.abortOps {t1} {p} (h : Keeps b s) : Keeps b (State.abortOps s t1 p) := by
  unfold State.abortOps
  dsimp only
  exact h.setTarget.foldl (fun _ _ h3 => h3.opLost)

theorem Keeps.checkChannel {c} (h : Keeps b s) : Keeps b (State.checkChannel s c) := by
  unfold State.checkChannel
  dsimp only
  split
  · exact h.setChan.logFault
  · exact h

theorem Keeps.targetDown {t1} (h : Keeps b s) : Keeps b (State.targetDown s t1) := by
  unfold State.targetDown
  dsimp only
  exact .checkChannel (.logFault (.loseTarget (h.setTarget.foldl (fun _ _ h6 => h6.opLost))))

theorem Keeps.logStep {t1} {step} {outcome} (h : Keeps b s) : Keeps b (State.logStep s t1 step outcome) :=
  h.logFault

theorem Keeps.recoverTarget {t1} {idOk} {trainOk} {feats} {vend} (h : Keeps b s) : Keeps b (State.recoverTarget s t1 idOk trainOk feats vend) := by
  unfold State.recoverTarget
  dsimp only
  split
  · exact h.logStep.setTarget.startOps
  · exact h.logStep.logStep.targetDown

theorem Keeps.recovery {t1} {lunOk} {targetOk} {idOk} {trainOk} (h : Keeps b s) : Keeps b (State.recovery s t1 lunOk targetOk idOk trainOk) := by
  unfold State.recovery
  dsimp only
  split
  · exact h.logStep.recoverTarget
  · split
    · exact h.logStep.abortOps.logStep.setTarget.recoverTarget
    · exact h.logStep.abortOps.logStep.setTarget.logStep.targetDown

theorem Keeps.timeout {t1} {lun} {lunOk} {targetOk} {idOk} {trainOk} (h : Keeps b s) : Keeps b (State.timeout s t1 lun lunOk targetOk idOk trainOk) := by
  unfold State.timeout
  dsimp only
  exact .recovery (.foldl (.logFault (.setTarget ((by
      split
      · exact h.reach
      · exact h)))) (fun _ _ h4 => h4.opLost))

theorem Keeps.execFlashTimeout {target} {lun} {lunResetOk} {targetResetOk} {idOk} {trainOk} (h : Keeps b s) : GoesOnKeeping b (Machine.execFlashTimeout target lun lunResetOk targetResetOk idOk trainOk s) := by
  unfold Machine.execFlashTimeout
  dsimp only
  exact .next (.ite h (.ite { h with } h.timeout))

theorem Keeps.selectVolume {t1} (h : Keeps b s) : Keeps b (State.selectVolume s t1) := by
  unfold State.selectVolume
  dsimp only
  split
  · exact { h with }
  · exact h

theorem Keeps.fc {t f} (h : Keeps b s) (hf : ∀ u, Keeps b u → ∀ x, Keeps b (f u x)) : Keeps b (s.fc t f) :=
  .ite h (hf _ h.wakeGroup.selectVolume _)

theorem Keeps.fcSet {t1} {f} (h : Keeps b s) : Keeps b (State.fcSet s t1 f) :=
  .fc h fun _ h2 _ => h2.setTarget

theorem Keeps.execFcReset {target} (h : Keeps b s) : GoesOnKeeping b (Machine.execFcReset target s) := by
  unfold Machine.execFcReset
  dsimp only
  exact .next (.fc h fun _ h3 _ => h3.abortOps.setTarget)

theorem Keeps.execFcResetLun {target} {lun} (h : Keeps b s) : GoesOnKeeping b (Machine.execFcResetLun target lun s) :=
  .next (.fc h fun _ h2 _ => h2.abortOps)

theorem Keeps.execFcVolumeSelect {target} (h : Keeps b s) : GoesOnKeeping b (Machine.execFcVolumeSelect target s) := by
  unfold Machine.execFcVolumeSelect
  dsimp only
  exact .next (.fc h fun _ h3 _ => { h3 with })

theorem Keeps.execFcOdtConfigure {target} (h : Keeps b s) : GoesOnKeeping b (Machine.execFcOdtConfigure target s) :=
  .next h.fcSet

theorem Keeps.execFcReadId {target} {id} (h : Keeps b s) : GoesOnKeeping b (Machine.execFcReadId target id s) :=
  .next h.fcSet

theorem Keeps.execFcReadParameterPage {target} {agrees} (h : Keeps b s) : GoesOnKeeping b (Machine.execFcReadParameterPage target agrees s) :=
  .next h.fcSet

theorem Keeps.setFeature {t1} {key} {fa} {v} (h : Keeps b s) : Keeps b (State.setFeature s t1 key fa v) := by
  unfold State.setFeature
  dsimp only
  exact h.fcSet

theorem Keeps.getFeature {t1} {key} {fa} (h : Keeps b s) : Keeps b (State.getFeature s t1 key fa) :=
  h.fcSet

theorem Keeps.execFcSetFeatures {target} {fa} {value} (h : Keeps b s) : GoesOnKeeping b (Machine.execFcSetFeatures target fa value s) :=
  .next h.setFeature

theorem Keeps.execFcGetFeatures {target} {fa} (h : Keeps b s) : GoesOnKeeping b (Machine.execFcGetFeatures target fa s) :=
  .next h.getFeature

theorem Keeps.execFcSetFeaturesByLun {target} {lun} {fa} {value} (h : Keeps b s) : GoesOnKeeping b (Machine.execFcSetFeaturesByLun target lun fa value s) :=
  .next (.ite h.setFeature h)

theorem Keeps.execFcGetFeaturesByLun {target} {lun} {fa} (h : Keeps b s) : GoesOnKeeping b (Machine.execFcGetFeaturesByLun target lun fa s) :=
  .next (.ite h.getFeature h)

theorem Keeps.execFcZqCalibrationLong {target} (h : Keeps b s) : GoesOnKeeping b (Machine.execFcZqCalibrationLong target s) :=
  .next h.fcSet

theorem Keeps.execFcZqCalibrationShort {target} (h : Keeps b s) : GoesOnKeeping b (Machine.execFcZqCalibrationShort target s) :=
  .next h.fcSet

theorem Keeps.execFcReadDqTraining {target} {passes} (h : Keeps b s) : GoesOnKeeping b (Machine.execFcReadDqTraining target passes s) :=
  .next h.fcSet

theorem Keeps.execFcWriteTrainingTx {target} {passes} (h : Keeps b s) : GoesOnKeeping b (Machine.execFcWriteTrainingTx target passes s) :=
  .next h.fcSet

theorem Keeps.execFcWriteTrainingRx {target} {passes} (h : Keeps b s) : GoesOnKeeping b (Machine.execFcWriteTrainingRx target passes s) :=
  .next h.fcSet

theorem Keeps.askSuspend {t1} {lun} {cls} (h : Keeps b s) : Keeps b (State.askSuspend s t1 lun cls) := by
  unfold State.askSuspend
  dsimp only
  split
  · exact h.setTarget
  · exact h

theorem Keeps.flashOp {t1} {o} (h : Keeps b s) : Keeps b (State.flashOp s t1 o) := by
  unfold State.flashOp
  dsimp only
  exact .fc h fun _ h3 _ => .ite h3 (.startOps (.ite h3.setTarget.askSuspend h3.setTarget))

theorem Keeps.execFcRead {target} {lun} {block} {page} {cls} {cws} (h : Keeps b s) : GoesOnKeeping b (Machine.execFcRead target lun block page cls cws s) :=
  .next ((by
      split
      · exact h.flashOp
      · exact h))

theorem Keeps.execFcMultiPlaneRead {target} {lun} {block} {page} {cls} {cws} (h : Keeps b s) : GoesOnKeeping b (Machine.execFcMultiPlaneRead target lun block page cls cws s) :=
  .next ((by
      split
      · exact h.flashOp
      · exact h))

theorem Keeps.execFcChangeReadColumnEnhanced {target} {lun} {column} (h : Keeps b s) : GoesOnKeeping b (Machine.execFcChangeReadColumnEnhanced target lun column s) := by
  unfold Machine.execFcChangeReadColumnEnhanced
  dsimp only
  exact .next (.ite h.selectVolume.setTarget h)

theorem Keeps.calibrate {o} (h : Keeps b s) : Keeps b (State.calibrate s o).1 := by
  unfold State.calibrate
  dsimp only
  split
  · exact h
  · split
    · exact h
    · exact h.setTarget

theorem Keeps.finishWork {t1} {w} (h : Keeps b s) : Keeps b (State.finishWork s t1 w) := by
  unfold State.finishWork
  dsimp only
  split
  · exact h.setTarget.setTarget.startOps
  · exact h.setTarget.targetDown
  · exact h.setTarget.calibrate.startOps

theorem Keeps.beginWork {t1} {w} (h : Keeps b s) : Keeps b (State.beginWork s t1 w) := by
  unfold State.beginWork
  dsimp only
  exact .fc h fun _ h3 _ => .ite h3 (.ite h3.finishWork h3.setTarget)

theorem Keeps.opEnded {t1} (h : Keeps b s) : Keeps b (State.opEnded s t1) := by
  unfold State.opEnded
  dsimp only
  split
  · split
    · exact h.startOps.finishWork
    · exact h.startOps
  · exact h.startOps

theorem Keeps.flashAgain (h : Keeps b s) : Keeps b (State.flashAgain s) := by
  unfold State.flashAgain
  dsimp only
  exact .foldl (.foldl { h with } (fun _ _ h4 => .ite h4.timeout h4)) (fun _ _ h3 => h3.opEnded)

theorem Keeps.poll {t1} {lun} {ready} {fail} (h : Keeps b s) : Keeps b (State.poll s t1 lun ready fail) := by
  unfold State.poll
  dsimp only
  split
  · exact h
  · split
    · exact h
    · split
      · exact h.setTarget.opEnded
      · exact .opEnded (.ite h.setTarget.readDone (.ite h.setTarget.opFail h.setTarget))

theorem Keeps.execFcReadStatusEnhanced {target} {lun} {ready} {fail} (h : Keeps b s) : GoesOnKeeping b (Machine.execFcReadStatusEnhanced target lun ready fail s) :=
  .next h.poll

theorem Keeps.execFcPageProgram {target} {lun} {block} {page} (h : Keeps b s) : GoesOnKeeping b (Machine.execFcPageProgram target lun block page s) :=
  .next h.flashOp

theorem Keeps.execFcMultiPlaneProgram {target} {lun} {block} {page} (h : Keeps b s) : GoesOnKeeping b (Machine.execFcMultiPlaneProgram target lun block page s) :=
  .next h.flashOp

theorem Keeps.execFcBlockErase {target} {lun} {block} (h : Keeps b s) : GoesOnKeeping b (Machine.execFcBlockErase target lun block s) :=
  .next h.flashOp

theorem Keeps.execFcMultiPlaneErase {target} {lun} {block} (h : Keeps b s) : GoesOnKeeping b (Machine.execFcMultiPlaneErase target lun block s) :=
  .next h.flashOp

theorem Keeps.execFcEraseSuspend {target} {lun} {cls} (h : Keeps b s) : GoesOnKeeping b (Machine.execFcEraseSuspend target lun cls s) :=
  .next (.fc h fun _ h2 _ => h2.askSuspend)

theorem Keeps.execFcEraseResume {target} {lun} (h : Keeps b s) : GoesOnKeeping b (Machine.execFcEraseResume target lun s) :=
  .next h.fcSet


/-! The operations of Machine/FlashCare. -/

theorem Keeps.bringUp {dead} {at_} (h : Keeps b s) : Keeps b (State.bringUp s dead at_) := by
  unfold State.bringUp
  dsimp only
  exact .foldl (h.foldl (fun _ _ h4 => .ite h4 (h4.setChan.foldl (fun _ _ h6 => h6.abortOps.setTarget)))) (fun _ _ h3 => h3.targetDown)

theorem Keeps.arrayStands (h : Keeps b s) : Keeps b (State.arrayStands s) := by
  unfold State.arrayStands
  dsimp only
  split
  · exact { h with }
  · exact h

theorem Keeps.buildPass {d l extend} (h : Keeps b s) : Keeps b (s.buildPass d l extend) := by
  have h0 : Keeps b (if extend then s else { s with tabs := { s.tabs with entries := [] } }) := .ite h (.withTabs h id id)
  have h1 : Keeps b { (if extend then s else { s with tabs := { s.tabs with entries := [] } }) with
      flash := { (if extend then s.flash else s.flash.emptied) with desc := d.take (descLen d), buildState := .built, buildErr := 0, failedTarget := 0 } } := by
    cases extend
    · exact { h0 with targets := fun _ => rfl, lanes := fun _ => rfl, chans := fun _ => rfl }
    · exact { h0 with }
  exact .spaceBack (.logFault (.arrayStands (.bringUp (.foldl (.withFlash h1 id id id) fun _ _ h2 => .foldl h2 fun _ _ h3 => h3.addBad))))

theorem Keeps.buildFail {r} (h : Keeps b s) : Keeps b (State.buildFail s r) := by
  unfold State.buildFail
  dsimp only
  split
  · exact { h with }
  · exact { h with }

theorem Keeps.runBuild {extend} {desc} {l} (h : Keeps b s) : Keeps b (State.runBuild s extend desc l) := by
  unfold State.runBuild
  dsimp only
  split
  · exact h.buildFail
  · split
    · exact h.buildPass
    · exact h.buildFail

theorem Keeps.startBuild (h : Keeps b s) : Keeps b (State.startBuild s) := by
  unfold State.startBuild
  dsimp only
  split
  · exact { h with }
  · exact h

theorem Keeps.execBuild {desc} {answers} (h : Keeps b s) : GoesOnKeeping b (Machine.execBuild desc answers s) :=
  .next (.ite h (.ite h.runBuild h))

theorem Keeps.execExtension {desc} {answers} (h : Keeps b s) : GoesOnKeeping b (Machine.execExtension desc answers s) :=
  .next (.ite h (.ite h.runBuild h))

theorem Keeps.retrain {t1} {passes} (h : Keeps b s) : Keeps b (State.retrain s t1 passes) := by
  unfold State.retrain
  dsimp only
  split
  · exact h
  · exact .beginWork (.ite h.wakeGroup h.wakeGroup.reach)

theorem Keeps.execRetrain {target} {passes} (h : Keeps b s) : GoesOnKeeping b (Machine.execRetrain target passes s) :=
  .next h.retrain

theorem Keeps.execRowProgrammed {crate} {failedLanes} (h : Keeps b s) : GoesOnKeeping b (Machine.execRowProgrammed crate failedLanes s) :=
  .next h.programRow.closeFullCrates

theorem Keeps.reclaimLedger {c} (h : Keeps b s) : Keeps b (State.reclaimLedger s c) := by
  unfold State.reclaimLedger
  dsimp only
  split
  · exact h.moveAndErase
  · exact h.moveAndErase.withLedger

theorem Keeps.reclaim (h : Keeps b s) : Keeps b (State.reclaim s) := by
  unfold State.reclaim
  split
  · exact h
  · split
    · exact h.moveAndErase
    · split
      · exact h.moveAndErase
      · split
        · split
          · exact h.reclaimLedger
          · exact h
        · exact h

theorem Keeps.execReclaim (h : Keeps b s) : GoesOnKeeping b (Machine.execReclaim s) :=
  .next h.reclaim

theorem Keeps.refreshCrate {id} (h : Keeps b s) : Keeps b (State.refreshCrate s id) :=
  h.moveAndErase

theorem Keeps.rebuild (h : Keeps b s) : Keeps b (State.rebuild s) := by
  unfold State.rebuild
  dsimp only
  split
  · exact h
  · split
    · exact h.refreshCrate
    · split
      · exact h.refreshCrate
      · exact h

theorem Keeps.execRebuild (h : Keeps b s) : GoesOnKeeping b (Machine.execRebuild s) :=
  .next h.rebuild

theorem Keeps.refresh (h : Keeps b s) : Keeps b (State.refresh s) := by
  unfold State.refresh
  split
  · exact h
  · split
    · exact h.refreshCrate
    · exact h

theorem Keeps.execRefresh (h : Keeps b s) : GoesOnKeeping b (Machine.execRefresh s) :=
  .next h.refresh

theorem Keeps.scrubCodeword {c} {l} {p} (h : Keeps b s) : Keeps b (State.scrubCodeword s c l p) := by
  unfold State.scrubCodeword
  dsimp only
  split
  · split
    · exact .setRetry (.ite h.countSoft h)
    · split
      · exact h.countSoft
      · exact h
  · split
    · exact .reconstructed (.ite (.setRetry (.ite h.countSoft h)) (.ite h.countSoft h))
    · exact .loseEntries (.ite (.setRetry (.ite h.countSoft h)) (.ite h.countSoft h))

theorem Keeps.scrubCrate {o} (h : Keeps b s) : Keeps b (State.scrubCrate s o) := by
  unfold State.scrubCrate
  dsimp only
  split
  · exact h
  · split
    · exact h
    · split
      · exact .withFlash (.foldl (h.modCrate.foldl (fun _ _ h8 => h8.setLane)) (fun _ _ h7 => h7.scrubCodeword)) id id id
      · exact .foldl (h.modCrate.foldl (fun _ _ h7 => h7.setLane)) (fun _ _ h6 => h6.scrubCodeword)

theorem Keeps.execPeriodicScrub {out} (h : Keeps b s) : GoesOnKeeping b (Machine.execPeriodicScrub out s) :=
  .next (.ite h.scrubCrate h)

theorem Keeps.execReadDisturbScrub {out} (h : Keeps b s) : GoesOnKeeping b (Machine.execReadDisturbScrub out s) :=
  .next (.ite h.scrubCrate h)

theorem Keeps.levelWear (h : Keeps b s) : Keeps b (State.levelWear s) := by
  unfold State.levelWear
  dsimp only
  split
  · exact h
  · split
    · exact h.refreshCrate
    · exact h

theorem Keeps.execWearLevelling (h : Keeps b s) : GoesOnKeeping b (Machine.execWearLevelling s) :=
  .next h.levelWear

theorem Keeps.calibrateDue {o} (h : Keeps b s) : Keeps b (State.calibrateDue s o) := by
  unfold State.calibrateDue
  dsimp only
  split
  · exact h.beginWork
  · exact h

theorem Keeps.execReadLevelCalibration {out} (h : Keeps b s) : GoesOnKeeping b (Machine.execReadLevelCalibration out s) :=
  .next h.calibrateDue

theorem Keeps.calInterface {o} (h : Keeps b s) : Keeps b (State.calInterface s o).1 := by
  unfold State.calInterface
  dsimp only
  split
  · exact h.setTarget.recovery
  · exact h.setTarget

theorem Keeps.calScrub {t1} {outs} (h : Keeps b s) : Keeps b (State.calScrub s t1 outs).1 := by
  unfold State.calScrub
  dsimp only
  exact h.foldl (fun _ _ h3 => h3.scrubCrate)

theorem Keeps.calTicket {a kind f} (h : Keeps b s) (hf : ∀ u, Keeps b u → ∀ n, Keeps b (f u n).1) : Keeps b (s.calTicket a kind f) := by
  refine .withTk h fun t => .ite h (.ite h (.finish (.foldl_fst h fun p n hp => ?_)))
  split
  · exact hf _ hp _
  · exact hp

theorem Keeps.execReadLevelCal {a} {outs} (h : Keeps b s) : GoesOnKeeping b (Machine.execReadLevelCal a outs s) :=
  .next (.calTicket h fun _ h2 _ => h2.calibrate)

theorem Keeps.execInterfaceCal {a} {outs} (h : Keeps b s) : GoesOnKeeping b (Machine.execInterfaceCal a outs s) :=
  .next (.calTicket h fun _ h2 _ => h2.calInterface)

theorem Keeps.execScrubCal {a} {outs} (h : Keeps b s) : GoesOnKeeping b (Machine.execScrubCal a outs s) :=
  .next (.calTicket h fun _ h2 _ => h2.calScrub)


/-! The operations of Machine/Otnak. -/

theorem Keeps.execOAdd {w} {rd} {ra} {rb} (h : Keeps b s) : GoesOnKeeping b (Machine.execOAdd w rd ra rb s) :=
  .next (.otnak h fun _ hv => wf_next (wf_put hv))

theorem Keeps.execOSub {w} {rd} {ra} {rb} (h : Keeps b s) : GoesOnKeeping b (Machine.execOSub w rd ra rb s) :=
  .next (.otnak h fun _ hv => wf_next (wf_put hv))

theorem Keeps.execOAnd {w} {rd} {ra} {rb} (h : Keeps b s) : GoesOnKeeping b (Machine.execOAnd w rd ra rb s) :=
  .next (.otnak h fun _ hv => wf_next (wf_put hv))

theorem Keeps.execOOr {w} {rd} {ra} {rb} (h : Keeps b s) : GoesOnKeeping b (Machine.execOOr w rd ra rb s) :=
  .next (.otnak h fun _ hv => wf_next (wf_put hv))

theorem Keeps.execOXor {w} {rd} {ra} {rb} (h : Keeps b s) : GoesOnKeeping b (Machine.execOXor w rd ra rb s) :=
  .next (.otnak h fun _ hv => wf_next (wf_put hv))

theorem Keeps.execOShl {w} {rd} {ra} {rb} (h : Keeps b s) : GoesOnKeeping b (Machine.execOShl w rd ra rb s) :=
  .next (.otnak h fun _ hv => wf_next (wf_put hv))

theorem Keeps.execOShr {w} {rd} {ra} {rb} (h : Keeps b s) : GoesOnKeeping b (Machine.execOShr w rd ra rb s) :=
  .next (.otnak h fun _ hv => wf_next (wf_put hv))

theorem Keeps.execOSar {w} {rd} {ra} {rb} (h : Keeps b s) : GoesOnKeeping b (Machine.execOSar w rd ra rb s) :=
  .next (.otnak h fun _ hv => wf_next (wf_put hv))

theorem Keeps.execOMul {w} {rd} {ra} {rb} (h : Keeps b s) : GoesOnKeeping b (Machine.execOMul w rd ra rb s) :=
  .next (.otnak h fun _ hv => wf_next (wf_put hv))

theorem Keeps.execOMinu {w} {rd} {ra} {rb} (h : Keeps b s) : GoesOnKeeping b (Machine.execOMinu w rd ra rb s) :=
  .next (.otnak h fun _ hv => wf_next (wf_put hv))

theorem Keeps.execOMaxu {w} {rd} {ra} {rb} (h : Keeps b s) : GoesOnKeeping b (Machine.execOMaxu w rd ra rb s) :=
  .next (.otnak h fun _ hv => wf_next (wf_put hv))

theorem Keeps.execOSltu {w} {rd} {ra} {rb} (h : Keeps b s) : GoesOnKeeping b (Machine.execOSltu w rd ra rb s) :=
  .next (.otnak h fun _ hv => wf_next (wf_put hv))

theorem Keeps.execOBswap {w} {rd} {ra} (h : Keeps b s) : GoesOnKeeping b (Machine.execOBswap w rd ra s) :=
  .next (.otnak h fun _ hv => wf_next (wf_put hv))

theorem Keeps.execOAddi {w} {rd} {ra} {imm} (h : Keeps b s) : GoesOnKeeping b (Machine.execOAddi w rd ra imm s) :=
  .next (.otnak h fun _ hv => wf_next (wf_put hv))

theorem Keeps.execOAndi {w} {rd} {ra} {imm} (h : Keeps b s) : GoesOnKeeping b (Machine.execOAndi w rd ra imm s) :=
  .next (.otnak h fun _ hv => wf_next (wf_put hv))

theorem Keeps.execOOri {w} {rd} {ra} {imm} (h : Keeps b s) : GoesOnKeeping b (Machine.execOOri w rd ra imm s) :=
  .next (.otnak h fun _ hv => wf_next (wf_put hv))

theorem Keeps.execOXori {w} {rd} {ra} {imm} (h : Keeps b s) : GoesOnKeeping b (Machine.execOXori w rd ra imm s) :=
  .next (.otnak h fun _ hv => wf_next (wf_put hv))

theorem Keeps.execOShli {w} {rd} {ra} {imm} (h : Keeps b s) : GoesOnKeeping b (Machine.execOShli w rd ra imm s) :=
  .next (.otnak h fun _ hv => wf_next (wf_put hv))

theorem Keeps.execOShri {w} {rd} {ra} {imm} (h : Keeps b s) : GoesOnKeeping b (Machine.execOShri w rd ra imm s) :=
  .next (.otnak h fun _ hv => wf_next (wf_put hv))

theorem Keeps.execOLdi {w} {rd} {imm} (h : Keeps b s) : GoesOnKeeping b (Machine.execOLdi w rd imm s) :=
  .next (.otnak h fun _ hv => wf_next (wf_put hv))

theorem Keeps.execOLdh1 {w} {rd} {ra} {imm} (h : Keeps b s) : GoesOnKeeping b (Machine.execOLdh1 w rd ra imm s) :=
  .next (.otnak h fun _ hv => wf_next (wf_put hv))

theorem Keeps.execOLdh2 {w} {rd} {ra} {imm} (h : Keeps b s) : GoesOnKeeping b (Machine.execOLdh2 w rd ra imm s) :=
  .next (.otnak h fun _ hv => wf_next (wf_put hv))

theorem Keeps.execOLdh3 {w} {rd} {ra} {imm} (h : Keeps b s) : GoesOnKeeping b (Machine.execOLdh3 w rd ra imm s) :=
  .next (.otnak h fun _ hv => wf_next (wf_put hv))

theorem Keeps.execOLd8 {w} {rd} {ra} {imm} (h : Keeps b s) : GoesOnKeeping b (Machine.execOLd8 w rd ra imm s) :=
  .next (.otnak h fun _ hv => wf_next (wf_put hv))

theorem Keeps.execOLd16 {w} {rd} {ra} {imm} (h : Keeps b s) : GoesOnKeeping b (Machine.execOLd16 w rd ra imm s) :=
  .next (.otnak h fun _ hv => wf_next (wf_put hv))

theorem Keeps.execOLd32 {w} {rd} {ra} {imm} (h : Keeps b s) : GoesOnKeeping b (Machine.execOLd32 w rd ra imm s) :=
  .next (.otnak h fun _ hv => wf_next (wf_put hv))

theorem Keeps.execOLd64 {w} {rd} {ra} {imm} (h : Keeps b s) : GoesOnKeeping b (Machine.execOLd64 w rd ra imm s) :=
  .next (.otnak h fun _ hv => wf_next (wf_put hv))

theorem Keeps.execOSt8 {w} {rd} {ra} {imm} (h : Keeps b s) : GoesOnKeeping b (Machine.execOSt8 w rd ra imm s) :=
  .next (.otnak h fun _ hv => wf_st hv)

theorem Keeps.execOSt16 {w} {rd} {ra} {imm} (h : Keeps b s) : GoesOnKeeping b (Machine.execOSt16 w rd ra imm s) :=
  .next (.otnak h fun _ hv => wf_st hv)

theorem Keeps.execOSt32 {w} {rd} {ra} {imm} (h : Keeps b s) : GoesOnKeeping b (Machine.execOSt32 w rd ra imm s) :=
  .next (.otnak h fun _ hv => wf_st hv)

theorem Keeps.execOSt64 {w} {rd} {ra} {imm} (h : Keeps b s) : GoesOnKeeping b (Machine.execOSt64 w rd ra imm s) :=
  .next (.otnak h fun _ hv => wf_st hv)

theorem Keeps.execOIn8 {w} {rd} {ra} {imm} (h : Keeps b s) : GoesOnKeeping b (Machine.execOIn8 w rd ra imm s) :=
  .next (.otnak h fun _ hv => wf_next (wf_put hv))

theorem Keeps.execOIn16b {w} {rd} {ra} {imm} (h : Keeps b s) : GoesOnKeeping b (Machine.execOIn16b w rd ra imm s) :=
  .next (.otnak h fun _ hv => wf_next (wf_put hv))

theorem Keeps.execOIn32b {w} {rd} {ra} {imm} (h : Keeps b s) : GoesOnKeeping b (Machine.execOIn32b w rd ra imm s) :=
  .next (.otnak h fun _ hv => wf_next (wf_put hv))

theorem Keeps.execOIn32l {w} {rd} {ra} {imm} (h : Keeps b s) : GoesOnKeeping b (Machine.execOIn32l w rd ra imm s) :=
  .next (.otnak h fun _ hv => wf_next (wf_put hv))

theorem Keeps.execOHmark {w} {rd} {ra} {imm} (h : Keeps b s) : GoesOnKeeping b (Machine.execOHmark w rd ra imm s) :=
  .next (.otnak h fun _ hv => wf_next (wf_put hv))

theorem Keeps.execOQld64 {w} {rd} {ra} {imm} (h : Keeps b s) : GoesOnKeeping b (Machine.execOQld64 w rd ra imm s) :=
  .next (.otnak h fun _ hv => wf_next (wf_put hv))

theorem Keeps.execOLds {w} {rd} {imm} (h : Keeps b s) : GoesOnKeeping b (Machine.execOLds w rd imm s) :=
  .next (.otnak h fun _ hv => wf_next (wf_put hv))

theorem Keeps.execOSts {w} {rd} {imm} (h : Keeps b s) : GoesOnKeeping b (Machine.execOSts w rd imm s) :=
  .next (.otnak h fun _ hv => wf_next hv)

theorem Keeps.execOInfo {w} {rd} {imm} (h : Keeps b s) : GoesOnKeeping b (Machine.execOInfo w rd imm s) :=
  .next (.otnak h fun _ hv => wf_next (wf_put hv))

theorem Keeps.execOBeq {w} {ra} {rb} {off} (h : Keeps b s) : GoesOnKeeping b (Machine.execOBeq w ra rb off s) :=
  .next (.otnak h fun _ hv => wf_branch hv)

theorem Keeps.execOBne {w} {ra} {rb} {off} (h : Keeps b s) : GoesOnKeeping b (Machine.execOBne w ra rb off s) :=
  .next (.otnak h fun _ hv => wf_branch hv)

theorem Keeps.execOBltu {w} {ra} {rb} {off} (h : Keeps b s) : GoesOnKeeping b (Machine.execOBltu w ra rb off s) :=
  .next (.otnak h fun _ hv => wf_branch hv)

theorem Keeps.execOBgeu {w} {ra} {rb} {off} (h : Keeps b s) : GoesOnKeeping b (Machine.execOBgeu w ra rb off s) :=
  .next (.otnak h fun _ hv => wf_branch hv)

theorem Keeps.execOBlt {w} {ra} {rb} {off} (h : Keeps b s) : GoesOnKeeping b (Machine.execOBlt w ra rb off s) :=
  .next (.otnak h fun _ hv => wf_branch hv)

theorem Keeps.execOBge {w} {ra} {rb} {off} (h : Keeps b s) : GoesOnKeeping b (Machine.execOBge w ra rb off s) :=
  .next (.otnak h fun _ hv => wf_branch hv)

theorem Keeps.execOJmp {w} {off} (h : Keeps b s) : GoesOnKeeping b (Machine.execOJmp w off s) :=
  .next (.otnak h fun _ hv => wf_jump hv)

theorem Keeps.execOLoop {w} {n} {len} (h : Keeps b s) : GoesOnKeeping b (Machine.execOLoop w n len s) :=
  .next (.otnak h fun _ hv => wf_loop hv)

theorem Keeps.execOLoopb {w} {n} {len} (h : Keeps b s) : GoesOnKeeping b (Machine.execOLoopb w n len s) :=
  .next (.otnak h fun _ hv => wf_loop hv)

theorem Keeps.execOLeave {w} (h : Keeps b s) : GoesOnKeeping b (Machine.execOLeave w s) :=
  .next (.otnak h fun _ hv => wf_leave hv)

theorem Keeps.execOEnd {w} (h : Keeps b s) : GoesOnKeeping b (Machine.execOEnd w s) :=
  .next (.otnak h fun _ hv => hv)

theorem Keeps.execOFind {w} {rd} {ra} {rb} {p} {k} (h : Keeps b s) : GoesOnKeeping b (Machine.execOFind w rd ra rb p k s) :=
  .next (.otnak h fun _ hv => wf_next (wf_put hv))

theorem Keeps.execOHashm {w} {ra} {rb} {imm} (h : Keeps b s) : GoesOnKeeping b (Machine.execOHashm w ra rb imm s) :=
  .next (.otnakHash h fun _ hv => wf_hashm hv)

theorem Keeps.execOEmark {w} {ra} (h : Keeps b s) : GoesOnKeeping b (Machine.execOEmark w ra s) :=
  .next (.otnak h fun _ hv => wf_emark hv)

theorem Keeps.execOEindex {w} {ra} {rb} {kind} (h : Keeps b s) : GoesOnKeeping b (Machine.execOEindex w ra rb kind s) :=
  .next (.otnak h fun _ hv => wf_eindex hv)

theorem Keeps.execOEmatch {w} {ra} {rb} (h : Keeps b s) : GoesOnKeeping b (Machine.execOEmatch w ra rb s) :=
  .next (.otnak h fun _ hv => wf_ematch hv)

theorem Keeps.execORefuse {w} {code} (h : Keeps b s) : GoesOnKeeping b (Machine.execORefuse w code s) :=
  .next (.otnak h fun _ hv => hv)


/-! The operations of Machine/PowerCmds. -/

theorem Keeps.timeout_ (h : Keeps b s) : Keeps b (State.timeout_ s) := by
  unfold State.timeout_
  split
  · split
    · exact h.reach.changeMode
    · exact h
  · exact h

theorem Keeps.execHeartbeatTimeout (h : Keeps b s) : GoesOnKeeping b (Machine.execHeartbeatTimeout s) :=
  .next h.timeout_

theorem Keeps.endCatchup (h : Keeps b s) : Keeps b (State.endCatchup s) := by
  unfold State.endCatchup
  split
  · exact h.changeMode
  · exact h

theorem Keeps.execCatchupEnd (h : Keeps b s) : GoesOnKeeping b (Machine.execCatchupEnd s) :=
  .next h.endCatchup

theorem Keeps.losePower (h : Keeps b s) : Keeps b s.losePower := by
  have h1 : Keeps b (s.mainReset 1 0 s.downMode) := h.mainReset
  exact .ite h (.ite { h1 with } (.loseBackup { h1 with }))

theorem Keeps.execPowerLoss (h : Keeps b s) : GoesOnKeeping b (Machine.execPowerLoss s) :=
  .next h.losePower

theorem Keeps.execBrownOut (h : Keeps b s) : GoesOnKeeping b (Machine.execBrownOut s) :=
  .next (.ite h.mainReset h)

theorem Keeps.deviceReset (h : Keeps b s) : Keeps b (State.deviceReset s) := by
  unfold State.deviceReset
  dsimp only
  split
  · exact h
  · split
    · exact h.withPower
    · exact h.mainReset

theorem Keeps.execDeviceReset (h : Keeps b s) : GoesOnKeeping b (Machine.execDeviceReset s) :=
  .next h.deviceReset

theorem Keeps.execExtest (h : Keeps b s) : GoesOnKeeping b (Machine.execExtest s) :=
  .next (.ite h.mainReset h)

theorem Keeps.execVbatSwitchover {toVbat} (h : Keeps b s) : GoesOnKeeping b (Machine.execVbatSwitchover toVbat s) := by
  unfold Machine.execVbatSwitchover
  dsimp only
  exact .next h.withPower

theorem Keeps.loseVbat (h : Keeps b s) : Keeps b (State.loseVbat s) := by
  unfold State.loseVbat
  dsimp only
  split
  · split
    · exact h.withPower.raise
    · exact h.withPower
  · exact h.withPower.loseBackup

theorem Keeps.execVbatLoss (h : Keeps b s) : GoesOnKeeping b (Machine.execVbatLoss s) :=
  .next h.loseVbat

theorem Keeps.applyVbat (h : Keeps b s) : Keeps b (State.applyVbat s) := by
  unfold State.applyVbat
  dsimp only
  split
  · exact h.withPower.setSrc
  · exact h.withPower

theorem Keeps.execVbatApplied (h : Keeps b s) : GoesOnKeeping b (Machine.execVbatApplied s) :=
  .next h.applyVbat

theorem Keeps.pkePause (h : Keeps b s) : Keeps b (State.pkePause s) :=
  { h with
        engines := fun hb => wf_of_foldl (h.engines hb) fun _ _ hm0 => Laws.set_wf _ _ _ _ hm0 }

theorem Keeps.pkeAgain (h : Keeps b s) : Keeps b (State.pkeAgain s) :=
  h.foldl (fun _ _ h2 => (by
      split
      · split
        · exact h2.pkeRunOn
        · exact h2.setPke
      · exact h2))

theorem Keeps.warnOn (h : Keeps b s) : Keeps b (State.warnOn s) := by
  unfold State.warnOn
  dsimp only
  split
  · exact h
  · split
    · exact .raise (.pkePause (.pauseRows { h with }))
    · exact .pkePause (.pauseRows { h with })

theorem Keeps.execSupplyWarning (h : Keeps b s) : GoesOnKeeping b (Machine.execSupplyWarning s) :=
  .next h.warnOn

theorem Keeps.warnOff {us} (h : Keeps b s) : Keeps b (State.warnOff s us) := by
  unfold State.warnOff
  dsimp only
  split
  · exact h
  · exact .flashAgain (.settle (.pkeAgain (.ite h.withPower.raise h.withPower)))

theorem Keeps.execWarningRelease {us} (h : Keeps b s) : GoesOnKeeping b (Machine.execWarningRelease us s) :=
  .next h.warnOff

theorem Keeps.gateRow {row} (h : Keeps b s) : Keeps b (State.gateRow s row) := by
  unfold State.gateRow
  dsimp only
  split
  · exact h.withPower
  · exact h

theorem Keeps.execRowGate {row} (h : Keeps b s) : GoesOnKeeping b (Machine.execRowGate row s) :=
  .next h.gateRow

theorem Keeps.gateGroup {g} (h : Keeps b s) : Keeps b (State.gateGroup s g) := by
  unfold State.gateGroup
  dsimp only
  split
  · exact h.withPower.foldl (fun _ _ h4 => .ite h4.setChan h4)
  · exact h

theorem Keeps.execFlashGroupGate {group} (h : Keeps b s) : GoesOnKeeping b (Machine.execFlashGroupGate group s) :=
  .next h.gateGroup

theorem Keeps.loseSysclk (h : Keeps b s) : Keeps b (State.loseSysclk s) := by
  unfold State.loseSysclk
  dsimp only
  split
  · exact h
  · exact h.withPower.pauseRows.detect

theorem Keeps.execSysclkLoss (h : Keeps b s) : GoesOnKeeping b (Machine.execSysclkLoss s) :=
  .next h.loseSysclk

theorem Keeps.deliverPulses (h : Keeps b s) : Keeps b (State.deliverPulses s) :=
  h.withPower

theorem Keeps.pkeDisturbed (h : Keeps b s) : Keeps b (State.pkeDisturbed s) := by
  unfold State.pkeDisturbed
  dsimp only
  exact h.foldl (fun _ _ h3 => (by
      split
      · split
        · exact h3.setPke.pushPke
        · exact h3.setPke.pushPke.resubmit
      · exact h3))

theorem Keeps.resumeSysclk {interrupt} (h : Keeps b s) : Keeps b (State.resumeSysclk s interrupt) := by
  unfold State.resumeSysclk
  dsimp only
  split
  · exact h
  · exact .flashAgain (.settle (.logFault (.deliverPulses (.foldl (.pkeDisturbed (.ite h.withPower.tickBoundary h.withPower)) (fun _ _ h8 => h8.rerunItem)))))

theorem Keeps.execSysclkResume {interrupt} (h : Keeps b s) : GoesOnKeeping b (Machine.execSysclkResume interrupt s) :=
  .next h.resumeSysclk

theorem Keeps.execReconciliation {crossing} {total} (h : Keeps b s) : GoesOnKeeping b (Machine.execReconciliation crossing total s) := by
  unfold Machine.execReconciliation
  dsimp only
  exact .next (.ite h.withPower h)


/-! The operations of Machine/StartUp. -/

theorem Keeps.readRing (h : Keeps b s) : Keeps b (State.readRing s) := by
  unfold State.readRing
  dsimp only
  split
  · exact h.withPower
  · exact h.withPower.respond

theorem Keeps.testModeUp {high} (h : Keeps b s) : Keeps b (State.testModeUp s high) := by
  unfold State.testModeUp
  split
  · exact h.pulse.raise
  · exact h

theorem Keeps.coreUp {two} {high} (h : Keeps b s) : Keeps b (State.coreUp s two high) := by
  unfold State.coreUp
  dsimp only
  exact .testModeUp (.readRing { h with })

theorem Keeps.flashUp {a} (h : Keeps b s) : Keeps b (State.flashUp s a) := by
  unfold State.flashUp
  dsimp only
  split
  · exact h
  · exact .withFlash h.bringUp id id id

theorem Keeps.ddrChanUp {rate} {x} (h : Keeps b s) : Keeps b (State.ddrChanUp s rate x) :=
  h.setDdrChan

theorem Keeps.ddrUp {l} (h : Keeps b s) : Keeps b (s.ddrUp l) := by
  have h1 : Keeps b (l.foldl (fun s x => s.ddrChanUp (ddrRate l) x) s) := h.foldl fun _ _ h2 => h2.ddrChanUp
  exact .ite h (.ite (.withDdr h id) (.withDdr h1.drewBytes id))

theorem Keeps.retireUnit {p} (h : Keeps b s) : Keeps b (State.retireUnit s p) := by
  unfold State.retireUnit
  split
  · exact h
  · split
    · exact h.retireStall
    · exact h.retireEngine
    · exact h.retireEngine
    · exact h.retireEngine
    · exact h.retireEngine
    · exact h

theorem Keeps.unitsUp {a} (h : Keeps b s) : Keeps b (State.unitsUp s a) := by
  unfold State.unitsUp
  dsimp only
  exact .foldl (.ite (.withUnits (.ite h.seedGrinders h) id id id) (.ite h.seedGrinders h)) (fun _ _ h3 => h3.retireUnit)

theorem Keeps.withhold {cause} {detail} (h : Keeps b s) : Keeps b (State.withhold s cause detail) :=
  { h with }

theorem Keeps.staged {n} (h : Keeps b s) : Keeps b (State.staged s n) :=
  { h with }

theorem Keeps.resumeTorn {k x} (h : Keeps b s) : Keeps b (s.resumeTorn k x) := by
  have h2 : Keeps b ((s.phase3 { kind := reqKind x, target := k, phase := 3, request := x }).setOtp
      ((s.phase3 { kind := reqKind x, target := k, phase := 3, request := x }).guard.otp.burnDone k)) := h.phase3.setOtp (otpGrows_burnDone _ _)
  unfold State.resumeTorn
  dsimp only
  generalize State.setOtp _ _ = s2 at h2 ⊢
  exact .ite { h2 with } (.devEvent { h2 with })

theorem Keeps.loadImage {k} {i} (h : Keeps b s) : Keeps b (State.loadImage s k i) := by
  unfold State.loadImage
  dsimp only
  exact .eraseOld { h with }

theorem Keeps.keyTicks (h : Keeps b s) : Keeps b (State.keyTicks s) :=
  h.withVault

theorem Keeps.unwrapFails (h : Keeps b s) : Keeps b (State.unwrapFails s) :=
  h.enterLockdown.withPower

theorem Keeps.vaultUp {imageOk} (h : Keeps b s) : Keeps b (State.vaultUp s imageOk) := by
  unfold State.vaultUp
  dsimp only
  split
  · exact h
  · split
    · exact h.withPower
    · split
      · split
        · exact h.loadImage
        · exact h.unwrapFails
      · exact h.unwrapFails

theorem Keeps.timeUp (h : Keeps b s) : Keeps b (State.timeUp s) := by
  unfold State.timeUp
  dsimp only
  split
  · exact h.withLedger
  · split
    · exact h.withLedger
    · exact h

theorem Keeps.ringUp {scans} (h : Keeps b s) : Keeps b (State.ringUp s scans) :=
  { Keeps.setCrates (.foldl (h.foldl (fun _ _ h4 => h4.logFault)) (fun _ _ h3 => h3.setLane)) with }

theorem Keeps.tabsUp (h : Keeps b s) : Keeps b (State.tabsUp s) :=
  { h with
        tabs := fun hb => wf_of_foldl (h.tabs hb) fun _ _ hm0 => Laws.set_wf _ _ _ _ hm0 }

theorem Keeps.holdsUp (h : Keeps b s) : Keeps b (State.holdsUp s) :=
  { h with }

theorem Keeps.ledgerUp (h : Keeps b s) : Keeps b (State.ledgerUp s) :=
  h.withLedger

theorem Keeps.appletsUp (h : Keeps b s) : Keeps b (State.appletsUp s) :=
  { h with
        templates := fun hb => sorted_filter _ (h.templates hb) }

theorem Keeps.sessionUp {x} (h : Keeps b s) : Keeps b (s.sessionUp x) :=
  .ite h (.cartEvent (.withBoards h id id fun hs y hy => hs y (List.mem_of_mem_filter hy)))

theorem Keeps.evidenceUp {evs} (h : Keeps b s) : Keeps b (State.evidenceUp s evs) := by
  unfold State.evidenceUp
  dsimp only
  split
  · exact h.appletsUp.copiesUp.tabsUp.holdsUp.ledgerUp.keyTicks.foldl (fun _ _ h4 => h4.sessionUp)
  · exact .writeImage (.openAllEpochs (.shred (.runTicks (h.appletsUp.copiesUp.tabsUp.holdsUp.ledgerUp.keyTicks.foldl (fun _ _ h8 => h8.sessionUp)))))

theorem Keeps.becomeReady (h : Keeps b s) : Keeps b (State.becomeReady s) := by
  unfold State.becomeReady
  dsimp only
  exact .devEvent (.foldl { h with } (fun _ _ h4 => .ite h4.signal h4))

theorem Keeps.finishUp {a} {scanned} {evs} (h : Keeps b s) : Keeps b (State.finishUp s a scanned evs) := by
  unfold State.finishUp
  dsimp only
  split
  · exact h
  · split
    · exact h
    · exact .becomeReady (.ite (.evidenceUp (.staged (.ite h.vaultUp.staged.timeUp h.vaultUp.staged.timeUp.ringUp))) (.staged (.ite h.vaultUp.staged.timeUp h.vaultUp.staged.timeUp.ringUp)))

theorem Keeps.tornUp {a} (h : Keeps b s) : Keeps b (State.tornUp s a) := by
  unfold State.tornUp
  split
  · exact h.finishUp
  · split
    · exact h.withhold
    · split
      · exact h.withhold
      · split
        · exact h
        · exact h.ringUp.resumeTorn.finishUp

theorem Keeps.stepsUp {a} (h : Keeps b s) : Keeps b (State.stepsUp s a) := by
  unfold State.stepsUp
  dsimp only
  split
  · split
    · exact h.withVault.flashUp.ddrUp.unitsUp.staged.withhold
    · exact h.withVault.flashUp.ddrUp.unitsUp.staged.withhold.tornUp
  · split
    · exact h.withVault.logFault.flashUp.ddrUp.unitsUp.staged.withhold
    · exact h.withVault.logFault.flashUp.ddrUp.unitsUp.staged.withhold.tornUp

theorem Keeps.otpUp {a} (h : Keeps b s) : Keeps b (State.otpUp s a) := by
  unfold State.otpUp
  dsimp only
  split
  · split
    · exact h.counterCheck.staged.phase3.phase4
    · split
      · exact h.counterCheck.staged.withhold
      · exact h.counterCheck.staged.stepsUp
  · split
    · exact h.counterCheck.staged
    · split
      · exact h.counterCheck.staged.withhold
      · exact h.counterCheck.staged.stepsUp

theorem Keeps.startUp {a} (h : Keeps b s) : Keeps b (State.startUp s a) := by
  unfold State.startUp
  dsimp only
  split
  · exact h
  · split
    · split
      · exact h.coreUp
      · exact h.coreUp.otpUp
    · split
      · exact h
      · exact h.otpUp

theorem Keeps.execStartUp {ans} (h : Keeps b s) : GoesOnKeeping b (Machine.execStartUp ans s) :=
  .next h.startUp


/-! The operations of Machine/RegRead. -/

theorem Keeps.latch {off} {v} (h : Keeps b s) : Keeps b (State.latch s off v) :=
  { h with }

theorem Keeps.unlatch {off} (h : Keeps b s) : Keeps b (State.unlatch s off) :=
  { h with }

theorem Keeps.readOut {v} (h : Keeps b s) : Keeps b (State.readOut s v) :=
  { h with }

theorem Keeps.latchApplied {off} (h : Keeps b s) : Keeps b (State.latchApplied s off) := by
  unfold State.latchApplied
  split
  · exact h.latch.latch
  · exact h

theorem Keeps.read32 {off} (h : Keeps b s) : Keeps b (State.read32 s off) := by
  unfold State.read32
  dsimp only
  exact .readOut (.ite h.latchApplied.unlatch.latch h.latchApplied.unlatch)

theorem Keeps.read64 {off} (h : Keeps b s) : Keeps b (State.read64 s off) := by
  unfold State.read64
  dsimp only
  split
  · exact h.unlatch.unlatch.readOut
  · exact .readOut (.ite h.latchApplied.latch h)

theorem Keeps.debugAccess {r} {off} (h : Keeps b s) : Keeps b (State.debugAccess s r off) := by
  unfold State.debugAccess
  split
  · exact h
  · split
    · split
      · exact h.readOut
      · exact h.mainReset
      · exact h
    · exact h.pulse.raise

theorem Keeps.execDebugAccess {right} {offset} (h : Keeps b s) : GoesOnKeeping b (Machine.execDebugAccess right offset s) :=
  .next h.debugAccess

theorem Keeps.readReg {off} {width} (h : Keeps b s) : Keeps b (State.readReg s off width) := by
  unfold State.readReg
  split
  · exact h.readOut
  · split
    · exact h.read32
    · split
      · exact h.read64
      · exact h.readOut

theorem Keeps.readBar {p} {bar} {off} {width} (h : Keeps b s) : Keeps b (State.readBar s p bar off width) := by
  unfold State.readBar
  split
  · exact h.readReg
  · split
    · exact h.readOut
    · split
      · exact h.readOut
      · split
        · exact h.readOut
        · split
          · exact h.readOut
          · exact h.readOut

theorem Keeps.execLatchedRead {port} {bar} {offset} {width} (h : Keeps b s) : GoesOnKeeping b (Machine.execLatchedRead port bar offset width s) :=
  .next h.readBar


/-! The operations of Machine/Sessions. -/

theorem Keeps.withExport {a req kind f} (h : Keeps b s) (hf : ∀ u, Keeps b u → ∀ t n r, Keeps b (f u t n r)) : Keeps b (s.withExport a req kind f) := by
  refine .withTk h fun t => .ite h ?_
  split
  · exact h.aer.finishWith
  · split
    · exact h.aer.finishWith
    · exact .ite h (.ite h.aer.finishWith (hf _ h.aer _ _ _))

theorem Keeps.enrol {a} {req} {c} (h : Keeps b s) : Keeps b (State.enrol s a req c) := by
  unfold State.enrol
  dsimp only
  exact .withExport h fun _ h3 _ _ _ => .ite h3.finishWith (.ite h3.finishWith ((by
      split
      · exact h3.rouse.setSlot.finishWith
      · split
        · exact .finish (.settleHx (.takeNext (.setSlot (.drewBytes (.writeImage (.paired (h3.rouse.setSlot.pairWith ‹_›)))))))
        · exact .finishWith (.drewBytes (.writeImage (.paired (h3.rouse.setSlot.pairWith ‹_›)))))))

theorem Keeps.execEnrol {a} {req} {cart} (h : Keeps b s) : GoesOnKeeping b (Machine.execEnrol a req cart s) :=
  .next h.enrol

theorem Keeps.wipeCart {a} {req} {c} (h : Keeps b s) : Keeps b (State.wipeCart s a req c) :=
  .withExport h fun _ h2 _ _ _ => .ite h2.finishWith h2.rouse.writeManifest.takeNext.settleHx.finishWith

theorem Keeps.execWipe {a} {req} {cart} (h : Keeps b s) : GoesOnKeeping b (Machine.execWipe a req cart s) :=
  .next h.wipeCart

theorem Keeps.abandon {a} {req} (h : Keeps b s) : Keeps b (State.abandon s a req) :=
  .withExport h fun _ h2 _ _ _ => (by
      split
      · exact h2.finishWith
      · exact h2.abandonSession.settleHx.finishWith)

theorem Keeps.execAbandon {a} {req} {_cart} (h : Keeps b s) : GoesOnKeeping b (Machine.execAbandon a req _cart s) :=
  .next h.abandon

theorem Keeps.placeHold {h1} (h : Keeps b s) : Keeps b (State.placeHold s h1) := by
  unfold State.placeHold
  dsimp only
  exact .addEvent { h with }

theorem placeHold_boards {x : Hold} : (s.placeHold x).boards = s.boards := Laws.addEvent_boards _ _ _

theorem Keeps.openSession {n card rs content headless} (h : Keeps b s) : Keeps b (s.openSession n card rs content headless) := by
  refine .openPart (.withBoards h.placeHold id id fun hs y hy => ?_)
  rw [placeHold_boards] at hs hy
  obtain hold | hnew := List.mem_append.mp hy
  · exact (hs y hold).trans (Nat.le_succ _)
  · rw [List.mem_singleton.mp hnew]

theorem Keeps.exportOpen {a} {req} {c} (h : Keeps b s) : Keeps b (State.exportOpen s a req c) := by
  unfold State.exportOpen
  dsimp only
  exact .withExport h fun _ h3 _ _ _ => .ite h3.finishWith (.ite (.finishWith (.addEvent (.withTabs h3.placeHold id id))) h3.openSession.settleHx.finish)

theorem Keeps.execExportOpen {a} {req} {cart} (h : Keeps b s) : GoesOnKeeping b (Machine.execExportOpen a req cart s) :=
  .next h.exportOpen

theorem Keeps.closeLast {x} (h : Keeps b s) : Keeps b (State.closeLast s x) := by
  unfold State.closeLast
  dsimp only
  exact .cartEvent (.withBoards h.putSession.writePart.endSession id id id)

theorem Keeps.closeFull {x} (h : Keeps b s) : Keeps b (State.closeFull s x) := by
  unfold State.closeFull
  dsimp only
  exact h.putSession.writePart.putSession.takeNext.settleHx

theorem Keeps.checkpoint {x} (h : Keeps b s) : Keeps b (State.checkpoint s x) := by
  unfold State.checkpoint
  dsimp only
  exact h.putSession.writeManifest

theorem Keeps.unitConfirmed {x} {unit} (h : Keeps b s) : Keeps b (State.unitConfirmed s x unit) := by
  unfold State.unitConfirmed
  dsimp only
  split
  · exact h.putSession.closeLast
  · split
    · exact h.putSession.closeFull
    · split
      · exact h.putSession.checkpoint
      · exact h.putSession

theorem Keeps.streamUnit {n} {token} {writeFail} {readback} (h : Keeps b s) : Keeps b (State.streamUnit s n token writeFail readback) := by
  unfold State.streamUnit
  dsimp only
  split
  · exact h
  · split
    · exact h
    · split
      · exact h.rouse.cartOut.setSlot.linkFail
      · split
        · exact h.rouse.cartOut.linkFail
        · split
          · exact h.rouse.cartOut.setSlot
          · exact h.rouse.cartOut.setSlot.unitConfirmed.settleHx

theorem Keeps.execStreamUnitWrite {slot} {token} {writeFail} {readback} (h : Keeps b s) : GoesOnKeeping b (Machine.execStreamUnitWrite slot token writeFail readback s) :=
  .next h.streamUnit

theorem Keeps.execHeadlessAvailable (h : Keeps b s) : GoesOnKeeping b (Machine.execHeadlessAvailable s) :=
  .next h.settleHx

theorem Keeps.headlessOpen (h : Keeps b s) : Keeps b (State.headlessOpen s) := by
  unfold State.headlessOpen
  split
  · split
    · exact h
    · exact h.openSession.settleHx
  · exact h

theorem Keeps.execHeadlessSessionOpen (h : Keeps b s) : GoesOnKeeping b (Machine.execHeadlessSessionOpen s) :=
  .next h.headlessOpen

theorem Keeps.returnTimeout (h : Keeps b s) : Keeps b (State.returnTimeout s) := by
  unfold State.returnTimeout
  split
  · exact h.reach.abandonSession.settleHx
  · exact h

theorem Keeps.execCartridgeReturnTimeout (h : Keeps b s) : GoesOnKeeping b (Machine.execCartridgeReturnTimeout s) :=
  .next h.returnTimeout

theorem Keeps.hxTimeout (h : Keeps b s) : Keeps b s.hxTimeout :=
  .ite (.settleHx (.withBoards h.reach id id id)) h

theorem Keeps.execHxStTimeout (h : Keeps b s) : GoesOnKeeping b (Machine.execHxStTimeout s) :=
  .next h.hxTimeout


/-! The operations of Machine/RegWrites. -/

theorem Keeps.writeDev {o} {v} (h : Keeps b s) : Keeps b (State.writeDev s o v) := by
  unfold State.writeDev
  dsimp only
  split
  · exact { h with }
  · split
    · exact h.deviceReset
    · exact h
  · exact h

theorem Keeps.writeEnables {v} (h : Keeps b s) : Keeps b (State.writeEnables s v) := by
  unfold State.writeEnables
  dsimp only
  exact .foldl { h with } (fun _ _ h3 => .ite h3.sendIntr h3)

theorem Keeps.writeVector {c} {v} (h : Keeps b s) : Keeps b (State.writeVector s c v) := by
  unfold State.writeVector
  dsimp only
  exact .releaseIntr { h with }

theorem Keeps.writeIntr {o} {v} (h : Keeps b s) : Keeps b (State.writeIntr s o v) := by
  unfold State.writeIntr
  dsimp only
  split
  · exact h.writeVector
  · split
    · exact .settleHeld { h with }
    · exact h.writeEnables
    · exact h

theorem Keeps.writeStaging {v} (h : Keeps b s) : Keeps b (State.writeStaging s v) := by
  unfold State.writeStaging
  dsimp only
  split
  · exact h
  · exact h.withClasses

theorem Keeps.clearLat (h : Keeps b s) : Keeps b (State.clearLat s) :=
  h.withClasses

theorem Keeps.writeClass {o} {v} (h : Keeps b s) : Keeps b (State.writeClass s o v) := by
  unfold State.writeClass
  dsimp only
  split
  · split
    · exact h
    · exact h.withClasses
  · split
    · exact h
    · exact h.withClasses
  · split
    · exact h.clearLat
    · exact h
  · exact h.writeStaging
  · exact h.withClasses
  · exact h.withClasses
  · exact h

theorem Keeps.writeTick {o} {v} (h : Keeps b s) : Keeps b (State.writeTick s o v) := by
  unfold State.writeTick
  dsimp only
  split
  · exact h
  · split
    · exact h.withLedger
    · exact h.writeSlew
    · exact h.writeUnsigned
    · exact h

theorem Keeps.writeTamper {o} {v} (h : Keeps b s) : Keeps b (State.writeTamper s o v) := by
  unfold State.writeTamper
  dsimp only
  split
  · exact h
  · split
    · exact h.writeSrc
    · split
      · split
        · exact h.lockTamper
        · exact h
      · exact .settleHeld { h with }
      · exact h.writeLockstep
      · exact h

theorem Keeps.writeLcdbg {o} {v} (h : Keeps b s) : Keeps b (State.writeLcdbg s o v) := by
  unfold State.writeLcdbg
  dsimp only
  split
  · split
    · exact .drawNonce (.ite h.endPass h)
    · split
      · exact h.endPass
      · exact h
  · exact h

theorem Keeps.writeCart {o} {v} (h : Keeps b s) : Keeps b (State.writeCart s o v) := by
  unfold State.writeCart
  dsimp only
  split
  · split
    · exact h
    · exact .settleHx { h with }
  · exact .settleHeld { h with }
  · exact h

theorem Keeps.writeRing302 {o} {v} (h : Keeps b s) : Keeps b (State.writeRing302 s o v) := by
  unfold State.writeRing302
  dsimp only
  split
  · exact .spaceBack { h with }
  · exact { h with }
  · exact { h with }
  · exact { h with }
  · exact { h with }
  · exact h

theorem Keeps.writeFlash {o} {v} (h : Keeps b s) : Keeps b (State.writeFlash s o v) := by
  unfold State.writeFlash
  dsimp only
  split
  · split
    · exact .startBuild { h with }
    · exact { h with }
  · exact { h with }
  · split
    · exact h
    · exact h.writeRing302

theorem Keeps.writeDdr {o} {v} (h : Keeps b s) : Keeps b (State.writeDdr s o v) := by
  unfold State.writeDdr
  dsimp only
  split
  · exact { h with }
  · exact { h with }
  · exact { h with }
  · exact h

theorem Keeps.clearMax (h : Keeps b s) : Keeps b (State.clearMax s) :=
  h.withFault

theorem Keeps.writeFault {o} {v} (h : Keeps b s) : Keeps b (State.writeFault s o v) := by
  unfold State.writeFault
  dsimp only
  split
  · split
    · exact h.clearMax
    · exact h
  · exact h.withFault.settleHeld
  · exact h

theorem Keeps.writeClk {o} {v} (h : Keeps b s) : Keeps b (State.writeClk s o v) := by
  unfold State.writeClk
  dsimp only
  split
  · split
    · exact h.endCatchup
    · exact h
  · exact h.withPower
  · exact h.withPower
  · exact h.withPower
  · exact h.withPower
  · exact h

theorem Keeps.writeCfg {n} {v} (h : Keeps b s) : Keeps b (State.writeCfg s n v) := by
  unfold State.writeCfg
  dsimp only
  split
  · exact .writeAbort (.ite h.setRing h)
  · exact .writeEnable (.ite h.setRing h)

theorem Keeps.writeRing {n} {o} {v} (h : Keeps b s) : Keeps b (State.writeRing s n o v) := by
  unfold State.writeRing
  dsimp only
  split
  · exact h.writeCfg
  · exact h.setRing
  · split
    · exact h.setRing
    · exact h
  · exact h

theorem Keeps.writeWide {off} {v} (h : Keeps b s) : Keeps b (State.writeWide s off v) := by
  unfold State.writeWide
  dsimp only
  split
  · exact h.writeWmtBase
  · split
    · exact h.writeWmtBase
    · split
      · split
        · exact h
        · exact { h with }
      · split
        · exact h
        · split
          · exact h.setRing
          · exact h.setRing

theorem Keeps.writeNarrow {off} {v} (h : Keeps b s) : Keeps b (State.writeNarrow s off v) := by
  unfold State.writeNarrow
  dsimp only
  split
  · exact h.writeRing
  · split
    · exact h.writeDev
    · exact h.writeIntr
    · exact h.writeClass
    · exact h.writeTick
    · exact h.writeTamper
    · exact h.writeLcdbg
    · exact h.writeCart
    · exact h.writeFlash
    · exact h.writeDdr
    · exact h.writeFault
    · exact h.writeClk
    · split
      · exact { h with }
      · exact h
    · exact h

theorem Keeps.write32 {off} {v} (h : Keeps b s) : Keeps b (State.write32 s off v) := by
  unfold State.write32
  dsimp only
  split
  · exact h
  · split
    · exact { h with }
    · split
      · exact .writeWide { h with }
      · exact h.writeNarrow

theorem Keeps.write64 {off} {v} (h : Keeps b s) : Keeps b (State.write64 s off v) := by
  unfold State.write64
  split
  · exact h
  · exact h.writeWide

theorem Keeps.writeBell {p} {off} {v} (h : Keeps b s) : Keeps b (State.writeBell s p off v) := by
  unfold State.writeBell
  split
  · exact h.bellSq
  · exact h.bellCq
  · exact h

theorem Keeps.writeMsix {p off v} (h : Keeps b s) : Keeps b (s.writeMsix p off v) := by
  unfold State.writeMsix
  dsimp only
  refine .ite h ?_
  split
  · exact h.setMsix
  · exact h.setMsix
  · exact h.setMsix
  · exact .ite h.setMsix h.unmask

theorem Keeps.writeHeader {p} {off} {v} (h : Keeps b s) : Keeps b (State.writeHeader s p off v) := by
  unfold State.writeHeader
  dsimp only
  split
  · split
    · exact h
    · split
      · exact .portReturns (h.setPort fun hb => h.port _ hb)
      · exact h.bmeOff
  · split
    · exact h.setPort fun hb => h.port _ hb
    · split
      · exact h.setPort fun hb => h.port _ hb
      · split
        · exact h.setPort fun hb => h.port _ hb
        · exact h

theorem Keeps.writeReg {w} (h : Keeps b s) : Keeps b (State.writeReg s w) := by
  unfold State.writeReg
  split
  · split
    · exact h.writeHeader
    · exact h
  · exact h.write32
  · exact h.write64
  · split
    · exact h.writeBell
    · exact h
  · split
    · exact h.writeMsix
    · exact h
  · split
    · exact h.writeMsix.writeMsix
    · exact h
  · exact h

theorem Keeps.execRegisterWrite {wr} (h : Keeps b s) : GoesOnKeeping b (Machine.execRegisterWrite wr s) :=
  .next h.writeReg

theorem Keeps.execLatClear (h : Keeps b s) : GoesOnKeeping b (Machine.execLatClear s) :=
  .next h.write32

theorem Keeps.execTimeConfig {slew} {unsigned} (h : Keeps b s) : GoesOnKeeping b (Machine.execTimeConfig slew unsigned s) := by
  unfold Machine.execTimeConfig
  dsimp only
  exact .next ((by
      split
      · exact .write32 ((by
      split
      · exact h.write32
      · exact h))
      · split
        · exact h.write32
        · exact h))

theorem Keeps.execMaxClear (h : Keeps b s) : GoesOnKeeping b (Machine.execMaxClear s) :=
  .next h.write32

theorem Keeps.execIntrEnableWrite {value} (h : Keeps b s) : GoesOnKeeping b (Machine.execIntrEnableWrite value s) :=
  .next h.write32

theorem Keeps.execIntrVectorWrite {cause} {value} (h : Keeps b s) : GoesOnKeeping b (Machine.execIntrVectorWrite cause value s) :=
  .next h.write32

theorem Keeps.sendMerged {c} (h : Keeps b s) : Keeps b (s.sendMerged c) :=
  .ite (.sendIntr (h.withDev fun hm => Laws.set_wf zeroOf s.dev.lastMsg c 0 hm)) h

theorem Keeps.execMergedMessage {cause} (h : Keeps b s) : GoesOnKeeping b (Machine.execMergedMessage cause s) :=
  .next h.sendMerged


/-! The operations of Machine/Search. -/

theorem Keeps.search {a} {o} {qr} (h : Keeps b s) : Keeps b (State.search s a o qr) := by
  unfold State.search
  dsimp only
  exact .withTk h fun _ => (by
      split
      · exact .withDest h.checkCopy fun _ h8 _ => .ite h8.finishWith (.ite h8.writeOut.writeOut.finish (.finish (.writeOut (h8.foldl (fun _ _ h14 => h14.useEntryKey)))))
      · split
        · exact h.checkCopy.aer.finishWith
        · exact h.checkCopy)

theorem Keeps.execSearch {a} {dest} {query} (h : Keeps b s) : GoesOnKeeping b (Machine.execSearch a dest query s) :=
  .next h.search


/-! The operations of Machine/SelfTest. -/

theorem Keeps.lendSpare {a} (h : Keeps b s) : Keeps b (State.lendSpare s a) := by
  unfold State.lendSpare
  dsimp only
  split
  · exact h.setUState.setSpareFor.rowEvent
  · exact h

theorem Keeps.drain {a} (h : Keeps b s) : Keeps b (State.drain s a) := by
  unfold State.drain
  dsimp only
  split
  · split
    · exact h
    · exact h.setUState
  · split
    · exact h.lendSpare.setUState
    · exact h

theorem Keeps.afterTest {a} {code} {fail} (h : Keeps b s) : Keeps b (State.afterTest s a code fail) := by
  unfold State.afterTest
  split
  · split
    · exact h.retireStall.rowEvent
    · exact h.retireEngine
  · exact h.undrain

theorem Keeps.testUnit {a code o} {r : State × Bytes × Nat} (h : Keeps b s) (he : s.testUnit a code o = some r) : Keeps b r.1 := by
  unfold State.testUnit at he
  dsimp only at he
  split at he
  · cases he
    exact h.setUnit
  · split at he
    · cases he
      exact h
    · split at he
      · cases he
      · cases he
        exact h.afterTest

theorem Keeps.maskSource {n} (h : Keeps b s) : Keeps b (State.maskSource s n) := by
  unfold State.maskSource
  dsimp only
  split
  · exact h
  · exact h.setSrc

theorem Keeps.testFailed {n} {detail} (h : Keeps b s) : Keeps b (State.testFailed s n detail) := by
  unfold State.testFailed
  dsimp only
  exact h.setSrc.respond

theorem Keeps.testSource {a code o late} {r : State × Bytes × Nat} (h : Keeps b s) (he : s.testSource a code o late = some r) : Keeps b r.1 := by
  unfold State.testSource at he
  dsimp only at he
  split at he
  · cases he
    exact h
  · split at he
    · cases he
      have htested : ∀ c : Bool, ∀ n d, Keeps b (if c then (s.setSrc n { s.src n with masked := false }).testFailed n d else
          (s.setSrc n { s.src n with masked := false }).setSrc n { (s.setSrc n { s.src n with masked := false }).src n with testFail := false }) :=
        fun _ _ _ => .ite h.setSrc.testFailed h.setSrc.setSrc
      dsimp only
      split
      · exact .detect (htested _ _ _)
      · exact htested _ _ _
    · split at he
      · cases he
        exact h
      · cases he

theorem Keeps.testOne {a code o late} {r : State × Bytes × Nat} (h : Keeps b s) (he : s.testOne a code o late = some r) : Keeps b r.1 := by
  unfold State.testOne at he
  split at he
  · exact h.testSource he
  · exact h.testUnit he

theorem Keeps.beginTest {a} (h : Keeps b s) : Keeps b (State.beginTest s a) := by
  unfold State.beginTest
  split
  · exact h.maskSource
  · exact h.drain

theorem Keeps.withTest {a dest code f} (h : Keeps b s) (hf : ∀ u, Keeps b u → ∀ t n x, Keeps b (f u t n x)) : Keeps b (s.withTest a dest code f) :=
  .withTk h fun _ => .ite h (.ite (hf _ h _ _ _) (.withDest h fun _ h1 _ => hf _ h1 _ _ _))

theorem Keeps.endTest {a} {es} {recs} {result} (h : Keeps b s) : Keeps b (State.endTest s a es recs result) := by
  unfold State.endTest
  dsimp only
  exact .withTk h fun _ => (by
      split
      · exact h.finish
      · exact h.writeOut.finish)

theorem Keeps.oneTest {a dest out late code} (h : Keeps b s) : Keeps b (s.oneTest a dest out late code) := by
  refine .withTest h fun u hu _ _ _ => ?_
  split
  · exact hu.beginTest
  · exact .endTest (hu.testOne ‹_›)

theorem Keeps.execLockstepTest {a} {dest} {out} (h : Keeps b s) : GoesOnKeeping b (Machine.execLockstepTest a dest out s) :=
  .next h.oneTest

theorem Keeps.execMemoryTest {a} {dest} {out} (h : Keeps b s) : GoesOnKeeping b (Machine.execMemoryTest a dest out s) :=
  .next h.oneTest

theorem Keeps.execKatTest {a} {dest} {out} (h : Keeps b s) : GoesOnKeeping b (Machine.execKatTest a dest out s) :=
  .next h.oneTest

theorem Keeps.execMonitorTest {a} {dest} {out} (h : Keeps b s) : GoesOnKeeping b (Machine.execMonitorTest a dest out s) :=
  .next h.oneTest

theorem Keeps.fullGo {recs bad outs l} (h : Keeps b s) : Keeps b (s.fullGo recs bad outs l).1 := by
  induction l generalizing s recs bad outs with
  | nil =>
    unfold State.fullGo
    exact h
  | cons u l ih =>
    unfold State.fullGo
    dsimp only
    split
    · exact h
    · split
      · exact ih (h.testOne ‹_›)
      · exact h.beginTest

theorem Keeps.fullTest {a} {dest} {outs} (h : Keeps b s) : Keeps b (State.fullTest s a dest outs) := by
  unfold State.fullTest
  dsimp only
  exact .withTest h fun _ h3 _ _ _ => .ite h3.endTest (.ite (.withTk h3.fullGo fun _ => h3.fullGo.setTk) h3.fullGo.endTest)

theorem Keeps.execFullTest {a} {dest} {outs} (h : Keeps b s) : GoesOnKeeping b (Machine.execFullTest a dest outs s) :=
  .next h.fullTest


/-! The operations of Machine/Dispatch. -/

theorem Keeps.exec (h : Keeps b s) : ∀ c, GoesOnKeeping b (Machine.exec c s)
  | .sqTail .. => h.execSqTail
  | .cqHead .. => h.execCqHead
  | .enable .. => h.execEnable
  | .abort .. => h.execAbort
  | .ringActivation .. => h.execRingActivation
  | .ringDrainComplete .. => h.execRingDrainComplete
  | .busMasterEnableCleared .. => h.execBusMasterEnableCleared
  | .busMasterEnableSet .. => h.execBusMasterEnableSet
  | .ticketFetch .. => h.execTicketFetch
  | .completionError .. => h.execCompletionError
  | .tokenGrant .. => h.execTokenGrant
  | .spaceWaitExpiry .. => h.execSpaceWaitExpiry
  | .itemStart .. => h.execItemStart
  | .tillCommit .. => h.execTillCommit
  | .modTimeExpiry .. => h.execModTimeExpiry
  | .vectorUnmask .. => h.execVectorUnmask
  | .ingest .. => h.execIngest
  | .ingestSigned .. => h.execIngestSigned
  | .openTab .. => h.execOpenTab
  | .closeTab .. => h.execCloseTab
  | .hold .. => h.execHold
  | .releaseHold .. => h.execReleaseHold
  | .markUploaded .. => h.execMarkUploaded
  | .heartbeat .. => h.execHeartbeat
  | .holdover .. => h.execHoldover
  | .fence .. => h.execFence
  | .setTime .. => h.execSetTime
  | .readSealed .. => h.execReadSealed
  | .tabStatusRead .. => h.execTabStatusRead
  | .absenceProofRead .. => h.execAbsenceProofRead
  | .ledgerRead .. => h.execLedgerRead
  | .escrowWrapRead .. => h.execEscrowWrapRead
  | .signerCertificateRead .. => h.execSignerCertificateRead
  | .identityCertificateRead .. => h.execIdentityCertificateRead
  | .tamperLogRead .. => h.execTamperLogRead
  | .faultLogRead .. => h.execFaultLogRead
  | .readClear .. => h.execReadClear
  | .search .. => h.execSearch
  | .loadApplet .. => h.execLoadApplet
  | .loadTemplate .. => h.execLoadTemplate
  | .lockstepTest .. => h.execLockstepTest
  | .memoryTest .. => h.execMemoryTest
  | .katTest .. => h.execKatTest
  | .monitorTest .. => h.execMonitorTest
  | .fullTest .. => h.execFullTest
  | .readLevelCal .. => h.execReadLevelCal
  | .interfaceCal .. => h.execInterfaceCal
  | .scrubCal .. => h.execScrubCal
  | .enrol .. => h.execEnrol
  | .exportOpen .. => h.execExportOpen
  | .wipe .. => h.execWipe
  | .abandon _ _ c => h.execAbandon (_cart := c)
  | .lockdownRelease .. => h.execLockdownRelease
  | .claim .. => h.execClaim
  | .ownerChange .. => h.execOwnerChange
  | .returnDevice .. => h.execReturnDevice
  | .scrap .. => h.execScrap
  | .authorityUpdate .. => h.execAuthorityUpdate
  | .fuse .. => h.execFuse
  | .transitionPhases .. => h.execTransitionPhases
  | .debugPass .. => h.execDebugPass
  | .oAdd .. => h.execOAdd
  | .oSub .. => h.execOSub
  | .oAnd .. => h.execOAnd
  | .oOr .. => h.execOOr
  | .oXor .. => h.execOXor
  | .oShl .. => h.execOShl
  | .oShr .. => h.execOShr
  | .oSar .. => h.execOSar
  | .oMul .. => h.execOMul
  | .oMinu .. => h.execOMinu
  | .oMaxu .. => h.execOMaxu
  | .oSltu .. => h.execOSltu
  | .oBswap .. => h.execOBswap
  | .oAddi .. => h.execOAddi
  | .oAndi .. => h.execOAndi
  | .oOri .. => h.execOOri
  | .oXori .. => h.execOXori
  | .oShli .. => h.execOShli
  | .oShri .. => h.execOShri
  | .oLdi .. => h.execOLdi
  | .oLdh1 .. => h.execOLdh1
  | .oLdh2 .. => h.execOLdh2
  | .oLdh3 .. => h.execOLdh3
  | .oLd8 .. => h.execOLd8
  | .oLd16 .. => h.execOLd16
  | .oLd32 .. => h.execOLd32
  | .oLd64 .. => h.execOLd64
  | .oSt8 .. => h.execOSt8
  | .oSt16 .. => h.execOSt16
  | .oSt32 .. => h.execOSt32
  | .oSt64 .. => h.execOSt64
  | .oIn8 .. => h.execOIn8
  | .oIn16b .. => h.execOIn16b
  | .oIn32b .. => h.execOIn32b
  | .oIn32l .. => h.execOIn32l
  | .oHmark .. => h.execOHmark
  | .oQld64 .. => h.execOQld64
  | .oLds .. => h.execOLds
  | .oSts .. => h.execOSts
  | .oInfo .. => h.execOInfo
  | .oBeq .. => h.execOBeq
  | .oBne .. => h.execOBne
  | .oBltu .. => h.execOBltu
  | .oBgeu .. => h.execOBgeu
  | .oBlt .. => h.execOBlt
  | .oBge .. => h.execOBge
  | .oJmp .. => h.execOJmp
  | .oLoop .. => h.execOLoop
  | .oLoopb .. => h.execOLoopb
  | .oLeave .. => h.execOLeave
  | .oEnd .. => h.execOEnd
  | .oFind .. => h.execOFind
  | .oHashm .. => h.execOHashm
  | .oEmark .. => h.execOEmark
  | .oEindex .. => h.execOEindex
  | .oEmatch .. => h.execOEmatch
  | .oRefuse .. => h.execORefuse
  | .gcm .. => h.execGcm
  | .ctr .. => h.execCtr
  | .cbc .. => h.execCbc
  | .cmac .. => h.execCmac
  | .xts .. => h.execXts
  | .ecb .. => h.execEcb
  | .sha256 .. => h.execSha256
  | .sha384 .. => h.execSha384
  | .sha512 .. => h.execSha512
  | .sha3x256 .. => h.execSha3x256
  | .sha3x384 .. => h.execSha3x384
  | .hmac .. => h.execHmac
  | .ecdsaVerifyP256 .. => h.execEcdsaVerifyP256
  | .ecdsaVerifyP384 .. => h.execEcdsaVerifyP384
  | .ecdsaVerifyP521 .. => h.execEcdsaVerifyP521
  | .ecdsaSignP256 .. => h.execEcdsaSignP256
  | .ecdsaSignP384 .. => h.execEcdsaSignP384
  | .ecdsaSignP521 .. => h.execEcdsaSignP521
  | .ecdhP256 .. => h.execEcdhP256
  | .ecdhP384 .. => h.execEcdhP384
  | .ecdhP521 .. => h.execEcdhP521
  | .ecKeyGenerationP256 .. => h.execEcKeyGenerationP256
  | .ecKeyGenerationP384 .. => h.execEcKeyGenerationP384
  | .ecKeyGenerationP521 .. => h.execEcKeyGenerationP521
  | .ed25519Verify .. => h.execEd25519Verify
  | .ed25519Sign .. => h.execEd25519Sign
  | .x25519 .. => h.execX25519
  | .x25519KeyGeneration .. => h.execX25519KeyGeneration
  | .rsaPublic2048 .. => h.execRsaPublic2048
  | .rsaPublic3072 .. => h.execRsaPublic3072
  | .rsaPublic4096 .. => h.execRsaPublic4096
  | .rsaPrivate2048 .. => h.execRsaPrivate2048
  | .rsaPrivate3072 .. => h.execRsaPrivate3072
  | .rsaPrivate4096 .. => h.execRsaPrivate4096
  | .mlDsa44Verify .. => h.execMlDsa44Verify
  | .mlDsa65Verify .. => h.execMlDsa65Verify
  | .mlDsa87Verify .. => h.execMlDsa87Verify
  | .mlDsa44Sign .. => h.execMlDsa44Sign
  | .mlDsa65Sign .. => h.execMlDsa65Sign
  | .mlDsa87Sign .. => h.execMlDsa87Sign
  | .mlDsa44KeyGeneration .. => h.execMlDsa44KeyGeneration
  | .mlDsa65KeyGeneration .. => h.execMlDsa65KeyGeneration
  | .mlDsa87KeyGeneration .. => h.execMlDsa87KeyGeneration
  | .mlKem768KeyGeneration .. => h.execMlKem768KeyGeneration
  | .mlKem768Encapsulation .. => h.execMlKem768Encapsulation
  | .mlKem768Decapsulation .. => h.execMlKem768Decapsulation
  | .busyRetry => h.execBusyRetry
  | .tickBoundary => h.execTickBoundary
  | .tickRecordSealed .. => h.execTickRecordSealed
  | .tickRecordDurable .. => h.execTickRecordDurable
  | .slew => h.execSlew
  | .timeConfig .. => h.execTimeConfig
  | .epochPreparation .. => h.execEpochPreparation
  | .epochChange => h.execEpochChange
  | .shred => h.execShred
  | .drbgReseed .. => h.execDrbgReseed
  | .grinderReseed .. => h.execGrinderReseed
  | .poolReseed .. => h.execPoolReseed
  | .rowProgrammed .. => h.execRowProgrammed
  | .reclaim => h.execReclaim
  | .rebuild => h.execRebuild
  | .periodicScrub .. => h.execPeriodicScrub
  | .readDisturbScrub .. => h.execReadDisturbScrub
  | .refresh => h.execRefresh
  | .readLevelCalibration .. => h.execReadLevelCalibration
  | .wearLevelling => h.execWearLevelling
  | .build .. => h.execBuild
  | .extension .. => h.execExtension
  | .retrain .. => h.execRetrain
  | .flashTimeout .. => h.execFlashTimeout
  | .fcReset .. => h.execFcReset
  | .fcResetLun .. => h.execFcResetLun
  | .fcVolumeSelect .. => h.execFcVolumeSelect
  | .fcOdtConfigure .. => h.execFcOdtConfigure
  | .fcReadId .. => h.execFcReadId
  | .fcReadParameterPage .. => h.execFcReadParameterPage
  | .fcSetFeatures .. => h.execFcSetFeatures
  | .fcGetFeatures .. => h.execFcGetFeatures
  | .fcSetFeaturesByLun .. => h.execFcSetFeaturesByLun
  | .fcGetFeaturesByLun .. => h.execFcGetFeaturesByLun
  | .fcZqCalibrationLong .. => h.execFcZqCalibrationLong
  | .fcZqCalibrationShort .. => h.execFcZqCalibrationShort
  | .fcReadDqTraining .. => h.execFcReadDqTraining
  | .fcWriteTrainingTx .. => h.execFcWriteTrainingTx
  | .fcWriteTrainingRx .. => h.execFcWriteTrainingRx
  | .fcRead .. => h.execFcRead
  | .fcMultiPlaneRead .. => h.execFcMultiPlaneRead
  | .fcChangeReadColumnEnhanced .. => h.execFcChangeReadColumnEnhanced
  | .fcReadStatusEnhanced .. => h.execFcReadStatusEnhanced
  | .fcPageProgram .. => h.execFcPageProgram
  | .fcMultiPlaneProgram .. => h.execFcMultiPlaneProgram
  | .fcBlockErase .. => h.execFcBlockErase
  | .fcMultiPlaneErase .. => h.execFcMultiPlaneErase
  | .fcEraseSuspend .. => h.execFcEraseSuspend
  | .fcEraseResume .. => h.execFcEraseResume
  | .ddrError .. => h.execDdrError
  | .patrolScrub .. => h.execPatrolScrub
  | .selfRefresh .. => h.execSelfRefresh
  | .elasticFillComplete => h.execElasticFillComplete
  | .cartridgeInsertion .. => h.execCartridgeInsertion
  | .slotBringup .. => h.execSlotBringup
  | .removal .. => h.execRemoval
  | .linkTimeout .. => h.execLinkTimeout
  | .slotIdle .. => h.execSlotIdle
  | .mhGoIdle .. => h.execMhGoIdle
  | .mhIdentify .. => h.execMhIdentify
  | .mhReadIdent .. => h.execMhReadIdent
  | .mhSelect .. => h.execMhSelect
  | .mhSwitch .. => h.execMhSwitch
  | .mhReadCheck .. => h.execMhReadCheck
  | .mhStop .. => h.execMhStop
  | .mhStatus .. => h.execMhStatus
  | .mhReadBlocks .. => h.execMhReadBlocks
  | .mhWriteBlocks .. => h.execMhWriteBlocks
  | .mhSetCount .. => h.execMhSetCount
  | .mhRpaRead .. => h.execMhRpaRead
  | .mhRpaWrite .. => h.execMhRpaWrite
  | .mhCounterRead .. => h.execMhCounterRead
  | .mhPair .. => h.execMhPair
  | .mhReadKey .. => h.execMhReadKey
  | .mhSleep .. => h.execMhSleep
  | .mhWake .. => h.execMhWake
  | .streamUnitWrite .. => h.execStreamUnitWrite
  | .headlessAvailable => h.execHeadlessAvailable
  | .headlessSessionOpen => h.execHeadlessSessionOpen
  | .cartridgeReturnTimeout => h.execCartridgeReturnTimeout
  | .hxStTimeout => h.execHxStTimeout
  | .cardInsertion .. => h.execCardInsertion
  | .cardActivation .. => h.execCardActivation
  | .apduSelectByName .. => h.execApduSelectByName
  | .apduReadBinary .. => h.execApduReadBinary
  | .apduInternalAuthenticate .. => h.execApduInternalAuthenticate
  | .apduGetResponse .. => h.execApduGetResponse
  | .cardRemoval .. => h.execCardRemoval
  | .authorisationExpiry .. => h.execAuthorisationExpiry
  | .tamperDetection .. => h.execTamperDetection
  | .backupDetection .. => h.execBackupDetection
  | .tamperLogFlush => h.execTamperLogFlush
  | .faultLogFlush => h.execFaultLogFlush
  | .counterCheck .. => h.execCounterCheck
  | .lock => h.execLock
  | .tamperSrcWrite .. => h.execTamperSrcWrite
  | .newNonce => h.execNewNonce
  | .endPass => h.execEndPass
  | .passExpiry => h.execPassExpiry
  | .debugAccess .. => h.execDebugAccess
  | .extest => h.execExtest
  | .heartbeatTimeout => h.execHeartbeatTimeout
  | .catchupEnd => h.execCatchupEnd
  | .startUp .. => h.execStartUp
  | .powerLoss => h.execPowerLoss
  | .brownOut => h.execBrownOut
  | .deviceReset => h.execDeviceReset
  | .portReset .. => h.execPortReset
  | .flr .. => h.execFlr
  | .linkDown .. => h.execLinkDown
  | .linkUp .. => h.execLinkUp
  | .vbatSwitchover .. => h.execVbatSwitchover
  | .supplyWarning => h.execSupplyWarning
  | .warningRelease .. => h.execWarningRelease
  | .rowGate .. => h.execRowGate
  | .flashGroupGate .. => h.execFlashGroupGate
  | .sysclkLoss => h.execSysclkLoss
  | .sysclkResume .. => h.execSysclkResume
  | .reconciliation .. => h.execReconciliation
  | .lockstepMismatch .. => h.execLockstepMismatch
  | .worstCaseOverrun .. => h.execWorstCaseOverrun
  | .stallTestComplete .. => h.execStallTestComplete
  | .checkFault .. => h.execCheckFault
  | .ledgerHasherCheck .. => h.execLedgerHasherCheck
  | .pkeCheck .. => h.execPkeCheck
  | .shortSetComplete .. => h.execShortSetComplete
  | .latClear => h.execLatClear
  | .maxClear => h.execMaxClear
  | .wmtBaseWrite .. => h.execWmtBaseWrite
  | .intrEnableWrite .. => h.execIntrEnableWrite
  | .intrVectorWrite .. => h.execIntrVectorWrite
  | .latchedRead .. => h.execLatchedRead
  | .registerWrite .. => h.execRegisterWrite
  | .powerStateD3hot .. => h.execPowerStateD3hot
  | .perstRelease .. => h.execPerstRelease
  | .conditionCleared .. => h.execConditionCleared
  | .vbatLoss => h.execVbatLoss
  | .vbatApplied => h.execVbatApplied
  | .mergedMessage .. => h.execMergedMessage


/-! What every step keeps. -/

/-- A step on an empty queue is the idle one; otherwise the front command runs with the queue's rest. -/
theorem keeps_of_step {s t : State} (h : step s = .next t) : Keeps { s with pending := s.pending.tail } t := by
  unfold step at h
  split at h
  · next hempty =>
    have hs : { s with pending := s.pending.tail } = s := by rw [show s.pending.tail = s.pending by rw [hempty]; rfl]
    rw [hs]
    cases h
    exact (keeps_refl s).idle
  · next c rest hfront =>
    rw [hfront]
    exact (keeps_refl { s with pending := rest }).exec c t h

/-- Settles O3: no command reads or writes the queue. -/
theorem queueFirstInFirstOut : Obligations.QueueFirstInFirstOut :=
  fun _ _ h => (keeps_of_step h).pending

/-- Settles O59: the canonical form is carried through every operation; the queue is no part of it. -/
theorem stepKeepsCanonical : Obligations.StepKeepsCanonical := by
  intro s t hs h
  exact (keeps_of_step h).canonical hs

/-- Settles O60: the OTP is only written by burns. -/
theorem otpBitsStayBurnt : Obligations.OtpBitsStayBurnt := by
  intro c s t h
  have hk := (keeps_refl s).exec c t h
  exact ⟨hk.counter, hk.fuses, hk.killAllowed, hk.unitId⟩

end Sys2Proof.Proofs
end


section
/-! SUPPORT. Two canonical stores that read the same are the same; what a change of the values of a store reads as. -/

namespace Sys2Proof.Proofs

open Sys2Proof Sys2Proof.Machine

variable {α : Type} {d : Nat → α} {m n : SMap α}

theorem get_cons_same (k : Nat) (v : α) (m : SMap α) : SMap.get ((k, v) :: m) d k = v := by simp [SMap.get]

theorem get_cons_below {k j : Nat} (h : j < k) (v : α) (m : SMap α) : SMap.get ((k, v) :: m) d j = d j := by
  simp [SMap.get, Nat.ne_of_lt h, h]

theorem get_cons_above {k j : Nat} (h : k < j) (v : α) (m : SMap α) : SMap.get ((k, v) :: m) d j = m.get d j := by
  simp [SMap.get, Nat.ne_of_gt h, Nat.not_lt.mpr (Nat.le_of_lt h)]

variable [DecidableEq α]

theorem wf_cons {k : Nat} {v : α} (h : SMap.wf d ((k, v) :: m) = true) : v ≠ d k ∧ (∀ j ≤ k, m.get d j = d j) ∧ m.wf d = true := by
  obtain ⟨hs, hv⟩ := (Laws.wf_iff d _).mp h
  obtain ⟨habove, hs⟩ := (Laws.sorted_cons_iff k v m).mp hs
  refine ⟨hv (k, v) (List.mem_cons_self ..), fun j hj => ?_, (Laws.wf_iff d m).mpr ⟨hs, fun p hp => hv p (List.mem_cons_of_mem _ hp)⟩⟩
  exact Laws.get_above d j m fun p hp => Nat.lt_of_le_of_lt hj (habove p hp)

/-- Canonical stores are equal where they read the same at every key. -/
theorem smap_ext (hm : m.wf d = true) (hn : n.wf d = true) (h : ∀ k, m.get d k = n.get d k) : m = n := by
  induction m generalizing n with
  | nil =>
    cases n with
    | nil => rfl
    | cons p n =>
      obtain ⟨hp, -, -⟩ := wf_cons hn
      exact absurd ((h p.1).trans (get_cons_same _ _ _)).symm hp
  | cons p m ih =>
    obtain ⟨hp, hlow, hm'⟩ := wf_cons hm
    cases n with
    | nil => exact absurd ((get_cons_same p.1 p.2 m).symm.trans (h p.1)) hp
    | cons q n =>
      obtain ⟨hq, hlow', hn'⟩ := wf_cons hn
      obtain hlt | heq | hgt := Nat.lt_trichotomy p.1 q.1
      · exact absurd ((get_cons_same p.1 p.2 m).symm.trans ((h p.1).trans (get_cons_below hlt _ _))) hp
      · obtain ⟨k, v⟩ := p
        obtain ⟨k', w⟩ := q
        cases heq
        have hv : v = w := (get_cons_same k v m).symm.trans ((h k).trans (get_cons_same k w n))
        have htail : m = n := by
          refine ih hm' hn' fun j => ?_
          rcases Nat.lt_or_ge k j with hj | hj
          · exact (get_cons_above hj v m).symm.trans ((h j).trans (get_cons_above hj w n))
          · exact (hlow j hj).trans (hlow' j hj).symm
        rw [hv, htail]
      · exact absurd ((get_cons_same q.1 q.2 n).symm.trans ((h q.1).symm.trans (get_cons_below hgt _ _))) hq

theorem get_set (hm : m.wf d = true) (k j : Nat) (v : α) : (m.set d k v).get d j = if j = k then v else m.get d j := by
  split
  · next h => exact h ▸ Laws.get_set_same d m k v (Laws.wf_sorted hm)
  · next h => exact Laws.get_set_other d m k j v (Laws.wf_sorted hm) h

theorem get_upd (hm : m.wf d = true) (k j : Nat) (f : α → α) : (m.upd d k f).get d j = if j = k then f (m.get d k) else m.get d j :=
  get_set hm k j _

theorem set_set (hm : m.wf d = true) (k : Nat) (v w : α) : (m.set d k v).set d k w = m.set d k w := by
  have hv := Laws.set_wf d m k v hm
  refine smap_ext (Laws.set_wf d _ k w hv) (Laws.set_wf d m k w hm) fun j => ?_
  rw [get_set hv, get_set hm, get_set hm]
  split <;> rfl

/-- Storing what a key reads as changes nothing. -/
theorem set_get (hm : m.wf d = true) (k : Nat) : m.set d k (m.get d k) = m := by
  refine smap_ext (Laws.set_wf d m k _ hm) hm fun j => ?_
  rw [get_set hm]
  split
  · next h => rw [h]
  · rfl

theorem set_comm (hm : m.wf d = true) {k j : Nat} (h : k ≠ j) (v w : α) : (m.set d k v).set d j w = (m.set d j w).set d k v := by
  have hk := Laws.set_wf d m k v hm
  have hj := Laws.set_wf d m j w hm
  refine smap_ext (Laws.set_wf d _ j w hk) (Laws.set_wf d _ k v hj) fun i => ?_
  rw [get_set hk, get_set hm, get_set hj, get_set hm]
  by_cases hij : i = j
  · rw [if_pos hij, if_neg (hij ▸ h.symm), if_pos hij]
  · rw [if_neg hij, if_neg hij]

end Sys2Proof.Proofs
end


section
/-! SUPPORT. Commands of a flash target that takes commands: VOLUME SELECT goes before, then the target changes (R255, R260 to R264). -/

namespace Sys2Proof.Proofs

open Sys2Proof Sys2Proof.Machine Sys2Proof.Safety

variable {s : State} {t : Nat}

theorem wakeGroup_of_awake {g : Nat} (h : s.power.groupGated.getLsbD g = false) : s.wakeGroup g = s := by
  unfold State.wakeGroup
  simp [h]

theorem selectVolume_target (k : Nat) : (s.selectVolume t).target k = s.target k := by
  unfold State.selectVolume
  split <;> rfl

/-- A target that takes commands gets this one. -/
theorem fc_of_takesCommands (h : TakesCommands s t) (f : State → Target → State) : s.fc t f = f (s.selectVolume t) (s.target t) := by
  obtain ⟨⟨hwarn, hpll⟩, hans, hawake⟩ := h
  unfold State.fc
  rw [wakeGroup_of_awake hawake]
  simp [hans, hwarn, hpll, selectVolume_target]

theorem fcSet_of_takesCommands (h : TakesCommands s t) (f : Target → Target) : s.fcSet t f = (s.selectVolume t).setTarget t (f (s.target t)) :=
  fc_of_takesCommands h _

theorem fcSet_setsTarget (h : TakesCommands s t) {c : Instr} {f : Target → Target} (hc : exec c s = .next (s.fcSet t f)) : SetsTarget c s t (f (s.target t)) := by
  rw [SetsTarget, hc, fcSet_of_takesCommands h]

theorem fcVolumeSelect_of_takesCommands (h : TakesCommands s t) (hw : s.flash.selected.wf zeroOf = true) :
    exec (.fcVolumeSelect t) s = .next { s with flash := { s.flash with selected := s.flash.selected.set zeroOf (t / 4) (t % 4) } } := by
  have hgo := fc_of_takesCommands h (fun s _ => { s with flash := { s.flash with selected := s.flash.selected.set zeroOf (cePin t) (t % 4) } })
  refine congrArg Host.Outcome.next (hgo.trans ?_)
  unfold State.selectVolume
  split
  · simp only [set_set hw, cePin]
  · rfl

/-- What a feature leaves: the value, and at RETRY_FA the retry level of the LUNs that `l` names (R260). -/
theorem setFeature_setsTarget (h : TakesCommands s t) {c : Instr} {key fa v : Nat} (hc : exec c s = .next (s.setFeature t key fa v)) :
    ∃ r, SetsTarget c s t { s.target t with features := (s.target t).features.set zeroOf (256 * key + fa) v, retry := r } ∧
      (fld (s.page t) 36 1 ≠ 1 ∨ fa ≠ fld (s.page t) 37 1 → r = (s.target t).retry) ∧
      ∀ i, fld (s.page t) 36 1 = 1 → fa = fld (s.page t) 37 1 → levelOf (s.page t) v = some i →
        r = (if key = 8 then List.range (s.geo t).luns else [key]).foldl (fun m l => m.set zeroOf l i) (s.target t).retry := by
  have hset := fcSet_setsTarget h hc
  by_cases hretry : fld (s.page t) 36 1 = 1 ∧ fa = fld (s.page t) 37 1
  · cases hlevel : levelOf (s.page t) v with
    | none =>
      refine ⟨(s.target t).retry, ?_, fun _ => rfl, fun i _ _ hi => by cases hi⟩
      simpa [State.pageByte, hretry, hlevel] using hset
    | some i =>
      refine ⟨_, by simpa [State.pageByte, hretry, hlevel] using hset, fun hne => ?_, fun j _ _ hj => by cases hj; rfl⟩
      exact absurd hretry (by tauto)
  · refine ⟨(s.target t).retry, ?_, fun _ => rfl, fun i h1 h2 => absurd ⟨h1, h2⟩ hretry⟩
    simpa [State.pageByte, hretry] using hset

theorem getFeature_setsTarget (h : TakesCommands s t) {c : Instr} {key fa : Nat} (hc : exec c s = .next (s.getFeature t key fa)) :
    SetsTarget c s t { s.target t with lastValue := (s.target t).features.get zeroOf (256 * key + fa) } :=
  fcSet_setsTarget (f := fun x => { x with lastValue := x.features.get zeroOf (256 * key + fa) }) h hc

/-- Settles O28: each command is one change of its target. -/
theorem flashTargetCommands : Obligations.FlashTargetCommands := by
  intro s t lun column id b fa v h hw
  refine ⟨fcVolumeSelect_of_takesCommands h hw, ?_, ?_, ?_, ?_, ?_, ?_, ?_, ?_, setFeature_setsTarget (key := 8) h rfl, getFeature_setsTarget (key := 8) h rfl, fun hlun => ?_,
    fun hlun => ?_, fun hlun hcol => ?_⟩
  · exact fcSet_setsTarget (f := fun x => { x with odt := some (s.pageByte t 29) }) h rfl
  · exact fcSet_setsTarget (f := fun x => { x with idOk := idAgrees (s.page t) id }) h rfl
  · exact fcSet_setsTarget (f := fun x => { x with paramOk := b }) h rfl
  · exact fcSet_setsTarget (f := fun x => { x with zqLong := true }) h rfl
  · exact fcSet_setsTarget (f := fun x => { x with zqShort := true }) h rfl
  · exact fcSet_setsTarget (f := fun x => { x with dqTrained := b }) h rfl
  · exact fcSet_setsTarget (f := fun x => { x with txTrained := b }) h rfl
  · exact fcSet_setsTarget (f := fun x => { x with rxTrained := b }) h rfl
  · have hgo : exec (.fcSetFeaturesByLun t lun fa v) s = .next (s.setFeature t lun fa.toNat v.toNat) := congrArg Host.Outcome.next (if_pos hlun)
    obtain ⟨r, hset, hsame, hretry⟩ := setFeature_setsTarget h hgo
    refine ⟨r, hset, hsame, fun i h1 h2 hi => ?_⟩
    rw [hretry i h1 h2 hi, if_neg (Nat.ne_of_lt hlun)]
    rfl
  · have hgo : exec (.fcGetFeaturesByLun t lun fa) s = .next (s.getFeature t lun fa.toNat) := congrArg Host.Outcome.next (if_pos hlun)
    exact getFeature_setsTarget h hgo
  · obtain ⟨⟨-, hpll⟩, hans, -⟩ := h
    exact congrArg Host.Outcome.next (if_pos ⟨hans, by simp [hpll], hlun, hcol⟩)

end Sys2Proof.Proofs
end


section
/-! SUPPORT. Ending a ticket and posting receipts touch the rings, the tickets, what is written to the host, the classes and the space reserved in crates (R55 to R60, R78). -/

namespace Sys2Proof.Proofs

open Sys2Proof Sys2Proof.Machine Sys2Proof.Safety

/-- Only ring entries, tickets, host writes, traffic classes and crates differ. -/
def Posts (s u : State) : Prop :=
  ∃ r t o c k, u = { s with host := { s.host with rings := r, tickets := t, out := o }, classes := c, flash := { s.flash with crates := k } }

variable {s t u : State}

theorem posts_refl (s : State) : Posts s s := ⟨_, _, _, _, _, rfl⟩

theorem Posts.trans (h : Posts s t) (h' : Posts t u) : Posts s u := by
  obtain ⟨_, _, _, _, _, rfl⟩ := h
  obtain ⟨_, _, _, _, _, rfl⟩ := h'
  exact ⟨_, _, _, _, _, rfl⟩

variable {b : State}

theorem Posts.ite {c : Prop} [Decidable c] (h : Posts b s) (h' : Posts b t) : Posts b (if c then s else t) := by
  split
  · exact h
  · exact h'

theorem Posts.setRing {n r} (h : Posts b s) : Posts b (s.setRing n r) := h.trans ⟨_, _, _, _, _, rfl⟩

theorem Posts.setTk {x} (h : Posts b s) : Posts b (s.setTk x) := h.trans ⟨_, _, _, _, _, rfl⟩

theorem Posts.dropTk {n} (h : Posts b s) : Posts b (s.dropTk n) := h.trans ⟨_, _, _, _, _, rfl⟩

theorem Posts.emit {w} (h : Posts b s) : Posts b (s.emit w) := h.trans ⟨_, _, _, _, _, rfl⟩

theorem Posts.withClasses {c} (h : Posts b s) : Posts b { s with classes := c } := h.trans ⟨_, _, _, _, _, rfl⟩

theorem Posts.latReceipt {n rc} (h : Posts b s) : Posts b (s.latReceipt n rc) := .ite h.withClasses h

theorem Posts.unreserve {x} (h : Posts b s) : Posts b (s.unreserve x) := .ite (h.trans ⟨_, _, _, _, _, rfl⟩) h

theorem Posts.ringMessage {n} (h : Posts b s) : Posts b (s.ringMessage n) := .ite h.setRing.emit h.setRing

theorem Posts.moderate {n noIrq} (h : Posts b s) : Posts b (s.moderate n noIrq) :=
  .ite (.ite h h.ringMessage) (.ite h.setRing (.ite h.setRing.ringMessage h.setRing))

theorem Posts.writeReceipt {n rc} (h : Posts b s) : Posts b (s.writeReceipt n rc) := .latReceipt (.moderate (.emit h.setRing))

theorem Posts.postReceipt {n rc} (h : Posts b s) : Posts b (s.postReceipt n rc) := .ite h.setRing (.ite h.setRing (.ite h.setRing h.writeReceipt))

theorem Posts.postOne (h : Posts b s) (he : s.postOne = some u) : Posts b u := by
  unfold State.postOne at he
  split at he
  · split at he
    · cases he
      exact h.dropTk.postReceipt
    · cases he
  · cases he

theorem Posts.postReady {n} (h : Posts b s) : Posts b (postReady n s) := by
  induction n generalizing s with
  | zero => exact h
  | succ n ih =>
    unfold Machine.postReady
    split
    · next hpost => exact ih (h.postOne hpost)
    · exact h

theorem Posts.postAll (h : Posts b s) : Posts b s.postAll := h.postReady

theorem Posts.returnTokens {x} (h : Posts b s) : Posts b (s.returnTokens x) := by
  have h1 : Posts b (if x.fetchTok then s.setFetchPool (s.fetchPool.give 1) else s) := .ite h.withClasses h
  exact .unreserve (.ite (.withClasses (.ite h1.withClasses h1)) (.ite h1.withClasses h1))

theorem Posts.finish {x rc us} (h : Posts b s) : Posts b (s.finish x rc us) := h.returnTokens.setTk.postAll

/-! What stands as before. -/

section
variable (h : Posts s u)
include h

theorem Posts.tabs : u.tabs = s.tabs := by obtain ⟨_, _, _, _, _, rfl⟩ := h; rfl
theorem Posts.ledger : u.ledger = s.ledger := by obtain ⟨_, _, _, _, _, rfl⟩ := h; rfl
theorem Posts.units : u.units = s.units := by obtain ⟨_, _, _, _, _, rfl⟩ := h; rfl
theorem Posts.crypto : u.crypto = s.crypto := by obtain ⟨_, _, _, _, _, rfl⟩ := h; rfl
theorem Posts.vault : u.vault = s.vault := by obtain ⟨_, _, _, _, _, rfl⟩ := h; rfl
theorem Posts.ddr : u.ddr = s.ddr := by obtain ⟨_, _, _, _, _, rfl⟩ := h; rfl
theorem Posts.boards : u.boards = s.boards := by obtain ⟨_, _, _, _, _, rfl⟩ := h; rfl
theorem Posts.tamper : u.tamper = s.tamper := by obtain ⟨_, _, _, _, _, rfl⟩ := h; rfl
theorem Posts.guard : u.guard = s.guard := by obtain ⟨_, _, _, _, _, rfl⟩ := h; rfl
theorem Posts.power : u.power = s.power := by obtain ⟨_, _, _, _, _, rfl⟩ := h; rfl
theorem Posts.fault : u.fault = s.fault := by obtain ⟨_, _, _, _, _, rfl⟩ := h; rfl
theorem Posts.dev : u.dev = s.dev := by obtain ⟨_, _, _, _, _, rfl⟩ := h; rfl
theorem Posts.drawn : u.drawn = s.drawn := by obtain ⟨_, _, _, _, _, rfl⟩ := h; rfl
theorem Posts.tickOpen : u.tickOpen = s.tickOpen := by obtain ⟨_, _, _, _, _, rfl⟩ := h; rfl
theorem Posts.tab (n : Nat) : u.tab n = s.tab n := by obtain ⟨_, _, _, _, _, rfl⟩ := h; rfl

end

/-! The ticket a command names. -/

variable {a : TkArg} {op : Nat} {x : Tk}

theorem ready_of_admitted (h : Admitted s a op x) : s.ready? a op = some x := by
  obtain ⟨-, htk, hstage, hop⟩ := h
  simp [State.ready?, htk, hstage, hop]

theorem withTk_of_admitted (h : Admitted s a op x) (f : Tk → State) : s.withTk a op f = f x := by
  unfold State.withTk
  rw [ready_of_admitted h]
  simp [h.1]

theorem withEvent_of_fits {type : Nat} {body : Bytes} (h : s.eventFits body.length = true) (f : State → State) : s.withEvent x a type body f = (f s).addEvent type body := if_pos h

end Sys2Proof.Proofs
end


section
/-! SUPPORT. HOLD, RELEASE_HOLD and MARK_UPLOADED (R13, R120 to R122). -/

namespace Sys2Proof.Proofs

open Sys2Proof Sys2Proof.Machine Sys2Proof.Safety

/-- What a ticket's event leaves: the open tick's events grow by it, and nothing else that posting leaves alone changes (R131). -/
theorem addEvent_of_posts {s u : State} (h : Posts s u) (type : Nat) (body : Bytes) :
    (u.addEvent type body).tabs = s.tabs ∧ (s.tickOpen = true → ∃ e, (u.addEvent type body).ledger.events = s.ledger.events ++ [e] ∧ e.type = type) ∧
      (u.addEvent type body).vault = s.vault ∧ (u.addEvent type body).power = s.power := by
  refine ⟨by simp [h.tabs], fun hopen => ⟨{ type := type, body := body }, ?_, rfl⟩, by simp [h.vault], by simp [h.power]⟩
  rw [Laws.addEvent_events, if_pos (h.tickOpen.trans hopen), h.ledger]

variable {s : State} {a : TkArg} {t : Tk}

/-- The backlog is looked at in CATCH-UP only (R396). -/
theorem checkBacklog_of_not_catchup {s : State} (h : s.power.mode ≠ .catchup) : s.checkBacklog = s := by simp [State.checkBacklog, h]

theorem hold_adds (ht : Admitted s a 0x10 t) (hroom : s.tabs.holds.length < 4096) (hfits : s.eventFits 24 = true) :
    ∃ u, exec (.hold a) s = .next u ∧ u.tabs = { s.tabs with
      holds := s.tabs.holds ++ [{ id := s.tabs.holdHigh + 1, tab := t.tab, first := t.tk.op 48 8, last := t.tk.op 56 8 }], holdHigh := s.tabs.holdHigh + 1 } ∧
      (s.tickOpen = true → ∃ e, u.ledger.events = s.ledger.events ++ [e] ∧ e.type = 6) ∧ u.vault = s.vault ∧ u.power = s.power := by
  have hrun : exec (.hold a) s = .next (s.hold a) := rfl
  rw [hrun]
  unfold State.hold
  rw [withTk_of_admitted ht]
  dsimp only
  rw [if_neg (by omega), withEvent_of_fits (by simpa [Hold.body] using hfits)]
  exact ⟨_, rfl, addEvent_of_posts (.finish (posts_refl _)) 6 _⟩

theorem hold_full (ht : Admitted s a 0x10 t) (hfull : 4096 ≤ s.tabs.holds.length) : exec (.hold a) s = .next (s.finishWith t 0x12 a.us) := by
  have hrun : exec (.hold a) s = .next (s.hold a) := rfl
  rw [hrun]
  unfold State.hold
  rw [withTk_of_admitted ht]
  dsimp only
  rw [if_pos hfull]

theorem releaseHold_removes (ht : Admitted s a 0x11 t) (hknown : ∃ h ∈ s.tabs.holds, h.id = t.tk.op 48 4) (hfits : s.eventFits 8 = true) :
    ∃ u, exec (.releaseHold a) s = .next u ∧ u.tabs = { s.tabs with holds := s.tabs.holds.filter (fun h => h.id != t.tk.op 48 4) } ∧
      (s.tickOpen = true → ∃ e, u.ledger.events = s.ledger.events ++ [e] ∧ e.type = 7) ∧ u.vault = s.vault ∧ u.power = s.power := by
  have hrun : exec (.releaseHold a) s = .next (s.releaseHold a) := rfl
  rw [hrun]
  unfold State.releaseHold
  rw [withTk_of_admitted ht]
  dsimp only
  rw [if_pos (by simpa using hknown), withEvent_of_fits (by simpa [zeros] using hfits)]
  exact ⟨_, rfl, addEvent_of_posts (.finish (posts_refl _)) 7 _⟩

theorem releaseHold_unknown (ht : Admitted s a 0x11 t) (hunknown : ∀ h ∈ s.tabs.holds, h.id ≠ t.tk.op 48 4) : exec (.releaseHold a) s = .next (s.finishWith t 0x13 a.us) := by
  have hrun : exec (.releaseHold a) s = .next (s.releaseHold a) := rfl
  rw [hrun]
  unfold State.releaseHold
  rw [withTk_of_admitted ht]
  dsimp only
  rw [if_neg (by simpa using hunknown)]

variable {n : Nat}

theorem markUploaded_raises (ht : Admitted s a 0x12 t) (htab : t.tab = some n) (hcanon : TabsCanonical s) (hmode : s.power.mode ≠ .catchup) (hle : t.tk.op 48 8 ≤ (s.tab n).sealed) :
    ∃ u, exec (.markUploaded a) s = .next u ∧ u.tab n = { s.tab n with uploaded := max (s.tab n).uploaded (t.tk.op 48 8) } ∧
      (∀ m, m ≠ n → u.tab m = s.tab m) ∧ u.tabs = { s.tabs with ctx := u.tabs.ctx } ∧ u.power = s.power := by
  have hrun : exec (.markUploaded a) s = .next (s.markUploaded a) := rfl
  rw [hrun]
  unfold State.markUploaded
  rw [withTk_of_admitted ht, htab]
  dsimp only
  rw [if_neg (by simpa using hle), checkBacklog_of_not_catchup (by exact hmode)]
  have hpost : ∀ (v : State) rc, Posts v (v.finish t rc a.us) := fun v rc => .finish (posts_refl v)
  refine ⟨_, rfl, ?_, fun m hm => ?_, ?_, ?_⟩
  · rw [(hpost _ _).tab]
    exact Laws.setTab_tab_same s n _ hcanon
  · rw [(hpost _ _).tab]
    exact Laws.setTab_tab_other s n m _ hm hcanon
  · rw [(hpost _ _).tabs]
    rfl
  · rw [(hpost _ _).power]
    rfl

theorem markUploaded_refused (ht : Admitted s a 0x12 t) (htab : t.tab = some n) (hlt : (s.tab n).sealed < t.tk.op 48 8) : exec (.markUploaded a) s = .next (s.finishWith t 0x10 a.us) := by
  have hrun : exec (.markUploaded a) s = .next (s.markUploaded a) := rfl
  rw [hrun]
  unfold State.markUploaded
  rw [withTk_of_admitted ht, htab]
  exact congrArg _ (if_pos hlt)

/-- Settles O25: each ticket ends with its receipt, which changes no tab; what is left is the ticket's own change of the tabs, and its event. -/
theorem holdsAndUploaded : Obligations.HoldsAndUploaded := by
  unfold Obligations.HoldsAndUploaded
  exact ⟨fun s a t => ⟨hold_adds, hold_full, releaseHold_removes, releaseHold_unknown⟩,
    fun s a t n ht htab hcanon hmode => ⟨markUploaded_raises ht htab hcanon hmode, markUploaded_refused ht htab⟩⟩

end Sys2Proof.Proofs
end


section
/-! SUPPORT. Ring-table entries: bells, messages and posted receipts (R35 to R40, R55 to R60). -/

namespace Sys2Proof.Proofs

open Sys2Proof Sys2Proof.Machine Sys2Proof.Safety

variable {s : State}

/-! One ring-table entry changes. -/

/-- A write of one ring-table entry changes that entry alone. -/
theorem setRing_says (h : RingsCanonical s) (n : Nat) (r : Ring) : OnlyRings s (s.setRing n r) ∧ (s.setRing n r).ring n = r ∧ ∀ m, m ≠ n → (s.setRing n r).ring m = s.ring m :=
  ⟨rfl, Laws.setRing_ring_same s n r h, fun m hm => Laws.setRing_ring_other s n m r hm h⟩

theorem setRing_self (h : RingsCanonical s) (n : Nat) : s.setRing n (s.ring n) = s := by
  unfold State.setRing State.ring
  rw [set_get h]

theorem setRing_ring (h : RingsCanonical s) (n m : Nat) (r : Ring) : (s.setRing n r).ring m = if m = n then r else s.ring m := get_set h n m r

/-! Bells. -/

/-- A bell through the ring pair's own port (R28). -/
theorem bell_of_live {n : Nat} (hn : n < 4096) (hlive : (s.ring n).live = true) (f : Ring → State) : s.bell (s.ring n).port.val n f = f (s.ring n) := by
  unfold State.bell
  simp [show n < Config.ringPairs from hn, hlive]

theorem bell_of_not_live {n : Nat} (hn : n < 4096) (hdead : (s.ring n).live = false) (f : Ring → State) :
    s.bell (s.ring n).port.val n f = s.setRing n { s.ring n with bellIgnored := true } := by
  unfold State.bell
  simp [show n < Config.ringPairs from hn, hdead]

theorem bell_of_other_port {n p : Nat} (hp : p ≠ (s.ring n).port.val) (f : Ring → State) : s.bell p n f = s := if_neg fun h => hp h.2.symm

section
variable {n : Nat} {v : BitVec 32} (hn : n < 4096)
include hn

/-- The SQ_TAIL bell of a live ring pair (R38). -/
theorem exec_sqTail (hlive : (s.ring n).live = true) : exec (.sqTail (s.ring n).port n v) s = .next (if v.toNat % 65536 = (s.ring n).sqTail then s
    else if (s.ring n).size ≤ v.toNat % 65536 then s.ringError n .bellRange
    else s.setRing n { s.ring n with sqTail := v.toNat % 65536, bells := (s.ring n).bells ++ [(v.toNat % 65536, s.now)] }) :=
  congrArg Host.Outcome.next (bell_of_live hn hlive _)

/-- The CQ_HEAD bell of a live ring pair (R39). -/
theorem exec_cqHead (hlive : (s.ring n).live = true) : exec (.cqHead (s.ring n).port n v) s = .next (if v.toNat % 65536 = (s.ring n).cqHead then s
    else if (s.ring n).size ≤ v.toNat % 65536 ∨ (s.ring n).unreleased < (v.toNat % 65536 + (s.ring n).size - (s.ring n).cqHead) % (s.ring n).size then s.ringError n .cqHeadRange
    else s.setRing n { s.ring n with cqHead := v.toNat % 65536, unreleased := (s.ring n).unreleased - (v.toNat % 65536 + (s.ring n).size - (s.ring n).cqHead) % (s.ring n).size }) :=
  congrArg Host.Outcome.next (bell_of_live hn hlive _)

variable (h : RingsCanonical s)
include h

theorem sqTail_takes (hlive : (s.ring n).live = true) (hin : v.toNat % 65536 < (s.ring n).size) (hnew : v.toNat % 65536 ≠ (s.ring n).sqTail) :
    ∃ u, exec (.sqTail (s.ring n).port n v) s = .next u ∧ OnlyRings s u ∧
      u.ring n = { s.ring n with sqTail := v.toNat % 65536, bells := (s.ring n).bells ++ [(v.toNat % 65536, s.now)] } ∧ ∀ m, m ≠ n → u.ring m = s.ring m := by
  rw [exec_sqTail hn hlive, if_neg hnew, if_neg (by omega)]
  exact ⟨_, rfl, setRing_says h n _⟩

theorem sqTail_out_of_range (hlive : (s.ring n).live = true) (hout : (s.ring n).size ≤ v.toNat % 65536) (hnew : v.toNat % 65536 ≠ (s.ring n).sqTail) :
    ∃ u, exec (.sqTail (s.ring n).port n v) s = .next u ∧ OnlyRings s u ∧ u.ring n = { s.ring n with state := .error, err := .bellRange } ∧ ∀ m, m ≠ n → u.ring m = s.ring m := by
  rw [exec_sqTail hn hlive, if_neg hnew, if_pos hout]
  exact ⟨_, rfl, setRing_says h n _⟩

/-- A CQ_HEAD bell at the head as it stands passes a whole ring, which is no receipt. -/
theorem cqHead_takes (hlive : (s.ring n).live = true) (hin : v.toNat % 65536 < (s.ring n).size)
    (hpassed : (v.toNat % 65536 + (s.ring n).size - (s.ring n).cqHead) % (s.ring n).size ≤ (s.ring n).unreleased) :
    ∃ u, exec (.cqHead (s.ring n).port n v) s = .next u ∧ OnlyRings s u ∧
      u.ring n = { s.ring n with cqHead := v.toNat % 65536, unreleased := (s.ring n).unreleased - (v.toNat % 65536 + (s.ring n).size - (s.ring n).cqHead) % (s.ring n).size } ∧
      ∀ m, m ≠ n → u.ring m = s.ring m := by
  rw [exec_cqHead hn hlive]
  by_cases hsame : v.toNat % 65536 = (s.ring n).cqHead
  · rw [if_pos hsame]
    refine ⟨_, rfl, rfl, ?_, fun m _ => rfl⟩
    rw [hsame, Nat.add_sub_cancel_left, Nat.mod_self, Nat.sub_zero]
  · rw [if_neg hsame, if_neg (by omega)]
    exact ⟨_, rfl, setRing_says h n _⟩

theorem cqHead_out_of_range (hlive : (s.ring n).live = true) (hnew : v.toNat % 65536 ≠ (s.ring n).cqHead)
    (hout : (s.ring n).size ≤ v.toNat % 65536 ∨ (s.ring n).unreleased < (v.toNat % 65536 + (s.ring n).size - (s.ring n).cqHead) % (s.ring n).size) :
    ∃ u, exec (.cqHead (s.ring n).port n v) s = .next u ∧ OnlyRings s u ∧ u.ring n = { s.ring n with state := .error, err := .cqHeadRange } ∧ ∀ m, m ≠ n → u.ring m = s.ring m := by
  rw [exec_cqHead hn hlive, if_neg hnew, if_pos hout]
  exact ⟨_, rfl, setRing_says h n _⟩

theorem bells_noted (hdead : (s.ring n).live = false) : ∀ c ∈ [Instr.sqTail (s.ring n).port n v, .cqHead (s.ring n).port n v],
    ∃ u, exec c s = .next u ∧ OnlyRings s u ∧ u.ring n = { s.ring n with bellIgnored := true } ∧ ∀ m, m ≠ n → u.ring m = s.ring m := by
  have hnoted : ∀ f, ∃ u, Host.Outcome.next (φ := Fault) (ρ := Refusal) (s.bell (s.ring n).port.val n f) = .next u ∧ OnlyRings s u ∧ u.ring n = { s.ring n with bellIgnored := true } ∧
      ∀ m, m ≠ n → u.ring m = s.ring m := fun f => ⟨_, rfl, by rw [bell_of_not_live hn hdead]; exact setRing_says h n _⟩
  intro c hc
  simp only [List.mem_cons, List.not_mem_nil, or_false] at hc
  rcases hc with rfl | rfl
  · exact hnoted _
  · exact hnoted _

end

/-- Settles O15: what each bell does to its ring-table entry, by where its value stands. -/
theorem ringBells : Obligations.RingBells := by
  unfold Obligations.RingBells
  intro s n v h hn
  refine ⟨sqTail_takes hn h, fun hlive hsame => ?_, fun hlive hin _ hpassed => cqHead_takes hn h hlive hin hpassed, sqTail_out_of_range hn h, cqHead_out_of_range hn h, bells_noted hn h, fun p hp => ?_⟩
  · rw [exec_sqTail hn hlive, if_pos hsame]
  · have hport : p.val ≠ (s.ring n).port.val := fun hval => hp (Fin.ext hval)
    exact ⟨congrArg Host.Outcome.next (bell_of_other_port hport _), congrArg Host.Outcome.next (bell_of_other_port hport _)⟩

/-! Posting a receipt. -/

/-- The messages of ring pair `n` moved on: three fields of its entry, and what is written to the host (R59, R60). -/
def State.moderated (s : State) (n p : Nat) (tm hm : Bool) (rest : List HostWrite) : State :=
  { s with host := { s.host with rings := s.host.rings.set Ring.reset n { s.ring n with pending := p, timer := tm, heldMsg := hm }, out := s.host.out ++ rest } }

theorem moderated_ring (h : RingsCanonical s) (n p : Nat) (tm hm : Bool) (rest : List HostWrite) (m : Nat) :
    (State.moderated s n p tm hm rest).ring m = if m = n then { s.ring n with pending := p, timer := tm, heldMsg := hm } else s.ring m := get_set h n m _

theorem moderated_nil (s : State) (n p : Nat) (tm hm : Bool) : State.moderated s n p tm hm [] = s.setRing n { s.ring n with pending := p, timer := tm, heldMsg := hm } := by
  simp [State.moderated, State.setRing]

theorem ringMessage_says (s : State) (n : Nat) : ∃ hm rest, s.ringMessage n = State.moderated s n 0 false hm rest := by
  unfold State.ringMessage
  dsimp only
  split
  · exact ⟨_, [_], rfl⟩
  · exact ⟨_, [], (moderated_nil ..).symm⟩

theorem setRing_moderated (h : RingsCanonical s) (n p q : Nat) (tm hm : Bool) (rest : List HostWrite) :
    State.moderated (s.setRing n { s.ring n with pending := q }) n p tm hm rest = State.moderated s n p tm hm rest := by
  have hring : (s.setRing n { s.ring n with pending := q }).ring n = { s.ring n with pending := q } := Laws.setRing_ring_same s n _ h
  unfold State.moderated
  rw [hring]
  simp only [State.setRing, set_set h]

/-- Moderation changes three fields of its ring-table entry and what is written to the host. -/
theorem moderate_says (h : RingsCanonical s) (n : Nat) (noIrq : Bool) : ∃ p tm hm rest, s.moderate n noIrq = State.moderated s n p tm hm rest := by
  unfold State.moderate
  dsimp only
  split
  · split
    · exact ⟨_, _, _, [], (setRing_self h n).symm.trans (moderated_nil s n (s.ring n).pending (s.ring n).timer (s.ring n).heldMsg).symm⟩
    · exact ⟨_, _, ringMessage_says s n⟩
  · split
    · exact ⟨_, _, _, [], (moderated_nil ..).symm⟩
    · split
      · obtain ⟨hm, rest, hsay⟩ := ringMessage_says (s.setRing n { s.ring n with pending := (s.ring n).pending + 1 }) n
        exact ⟨_, _, _, _, hsay.trans (setRing_moderated h ..)⟩
      · exact ⟨_, _, _, [], (moderated_nil ..).symm⟩

theorem latReceipt_says (s : State) (cls : Nat) (rc : Receipt) : ∃ k, s.latReceipt cls rc = { s with classes := { s.classes with receiptMax := k } } := by
  unfold State.latReceipt
  split
  · exact ⟨_, rfl⟩
  · exact ⟨s.classes.receiptMax, rfl⟩

/-- The ring-table entry of a ring pair whose receipt is written (R55 to R57). -/
def Ring.posted (r : Ring) : Ring :=
  { r with cqTail := (r.cqTail + 1) % r.size, cqPhase := r.cqPhase != (r.cqTail + 1 == r.size), outstanding := r.outstanding - 1, unreleased := r.unreleased + 1 }

/-- The receipt as it is written. -/
def State.receiptWrite (s : State) (n : Nat) (rc : Receipt) : HostWrite :=
  .receipt (s.ring n).port.val ((s.ring n).cqBase.toNat + 32 * (s.ring n).cqTail) ((s.stamped rc).bytes (s.ring n).cqPhase s.openTickLow)

/-- A receipt written: its ring pair moves on to the next completion slot (R55 to R57). -/
theorem writeReceipt_says (h : RingsCanonical s) (n : Nat) (rc : Receipt) : ∃ p tm hm rest k, s.writeReceipt n rc =
    { State.moderated ((s.setRing n (Ring.posted (s.ring n))).emit (State.receiptWrite s n rc)) n p tm hm rest with classes := { s.classes with receiptMax := k } } := by
  have hcanon : RingsCanonical ((s.setRing n (Ring.posted (s.ring n))).emit (State.receiptWrite s n rc)) := Laws.setRing_canonical s n _ h
  obtain ⟨p, tm, hm, rest, hsay⟩ := moderate_says hcanon n rc.noIrq
  obtain ⟨k, hlat⟩ := latReceipt_says (State.moderated ((s.setRing n (Ring.posted (s.ring n))).emit (State.receiptWrite s n rc)) n p tm hm rest) (s.ring n).cls.val rc
  exact ⟨p, tm, hm, rest, k, (congrArg (fun v : State => v.latReceipt (s.ring n).cls.val rc) hsay).trans hlat⟩

/-- What a written receipt leaves: its write is the first, its ring pair's entry is moved on but for its messages, and no other entry changes. -/
theorem writeReceipt_frame (h : RingsCanonical s) (n : Nat) (rc : Receipt) :
    (∃ rest, (s.writeReceipt n rc).host.out = s.host.out ++ State.receiptWrite s n rc :: rest) ∧
      (∃ p tm hm, (s.writeReceipt n rc).ring n = { Ring.posted (s.ring n) with pending := p, timer := tm, heldMsg := hm }) ∧ (∀ m, m ≠ n → (s.writeReceipt n rc).ring m = s.ring m) ∧
      (∃ k, (s.writeReceipt n rc).classes = { s.classes with receiptMax := k }) ∧ (s.writeReceipt n rc).host.tickets = s.host.tickets := by
  have hcanon : RingsCanonical ((s.setRing n (Ring.posted (s.ring n))).emit (State.receiptWrite s n rc)) := Laws.setRing_canonical s n _ h
  obtain ⟨p, tm, hm, rest, k, hsay⟩ := writeReceipt_says h n rc
  have hring : ∀ m, (s.writeReceipt n rc).ring m = if m = n then { Ring.posted (s.ring n) with pending := p, timer := tm, heldMsg := hm } else s.ring m := fun m => by
    rw [hsay]
    refine (moderated_ring hcanon n p tm hm rest m).trans ?_
    split
    · exact congrArg (fun r : Ring => { r with pending := p, timer := tm, heldMsg := hm }) (Laws.setRing_ring_same s n _ h)
    · next hm => exact Laws.setRing_ring_other s n m _ hm h
  refine ⟨⟨rest, ?_⟩, ⟨p, tm, hm, (hring n).trans (if_pos rfl)⟩, fun m hmn => (hring m).trans (if_neg hmn), ⟨k, by rw [hsay]⟩, by rw [hsay]; rfl⟩
  rw [hsay]
  exact List.append_assoc ..

/-! A ticket alone in the device. -/

/-- The state with other traffic-class fields. -/
def State.inClasses (s : State) (c : Classes) : State := { s with classes := c }

theorem unreserve_of_no_crate {t : Tk} (h : t.crateTok = false) : s.unreserve t = s := by simp [State.unreserve, h]

/-- What a ticket that holds no crate space gives back (R78). -/
theorem returnTokens_of_no_crate {t : Tk} (h : t.crateTok = false) : ∃ c, s.returnTokens t = State.inClasses s c ∧
    c.fetchFree = s.classes.fetchFree + (if t.fetchTok then 1 else 0) ∧ c.stagingFree = s.classes.stagingFree + t.staging ∧ c.readbufFree = s.classes.readbufFree + t.readbuf := by
  have hfetch : ∃ c, (if t.fetchTok then s.setFetchPool (s.fetchPool.give 1) else s) = State.inClasses s c ∧ c.fetchFree = s.classes.fetchFree + (if t.fetchTok then 1 else 0) ∧
      c.stagingFree = s.classes.stagingFree ∧ c.readbufFree = s.classes.readbufFree := by
    split
    · exact ⟨_, rfl, rfl, rfl, rfl⟩
    · exact ⟨s.classes, rfl, rfl, rfl, rfl⟩
  obtain ⟨c, hs1, hc⟩ := hfetch
  have hread : ∃ d, (if 0 < t.readbuf then { State.inClasses s c with classes := { c with readbufFree := c.readbufFree + t.readbuf } } else State.inClasses s c) = State.inClasses s d ∧
      d.fetchFree = c.fetchFree ∧ d.stagingFree = c.stagingFree ∧ d.readbufFree = c.readbufFree + t.readbuf := by
    split
    · exact ⟨_, rfl, rfl, rfl, rfl⟩
    · exact ⟨c, rfl, rfl, rfl, by omega⟩
  obtain ⟨d, hs2, hd⟩ := hread
  have hstaging : ∃ e, (if 0 < t.staging then (State.inClasses s d).setStagingPool ((State.inClasses s d).stagingPool.give t.staging) else State.inClasses s d) = State.inClasses s e ∧
      e.fetchFree = d.fetchFree ∧ e.stagingFree = d.stagingFree + t.staging ∧ e.readbufFree = d.readbufFree := by
    split
    · exact ⟨_, rfl, rfl, rfl, rfl⟩
    · exact ⟨d, rfl, rfl, by omega, rfl⟩
  obtain ⟨e, hs3, he⟩ := hstaging
  refine ⟨e, ?_, by omega, by omega, by omega⟩
  rw [State.returnTokens, hs1]
  dsimp only
  rw [unreserve_of_no_crate h]
  exact (congrArg (fun v : State => if 0 < t.staging then v.setStagingPool (v.stagingPool.give t.staging) else v) hs2).trans hs3

/-- The receipt of a ticket alone in the device that is done is the one posted (R49, R58). -/
theorem postAll_of_alone {t : Tk} {rc : Receipt} (halone : s.host.tickets = [t]) (hdone : t.stage = .done) (hrc : t.rcpt = some rc) :
    s.postAll = (s.dropTk t.id).postReceipt t.ring { rc with bellAt := t.bellAt, us := t.us } := by
  have hwait : s.mustWait t = false := by simp [State.mustWait, halone]
  have hpost : s.postOne = some ((s.dropTk t.id).postReceipt t.ring { rc with bellAt := t.bellAt, us := t.us }) := by
    simp [State.postOne, halone, hdone, hrc, hwait]
  simp [State.postAll, halone, Machine.postReady, hpost]

/-- A receipt of a ring pair whose port may write host memory is written (R35, R65). -/
theorem postReceipt_of_up {n : Nat} (herr : (s.ring n).err ≠ .portDown) (hbme : (s.port (s.ring n).port.val).bme = true) (hd3 : (s.port (s.ring n).port.val).d3hot = false)
    (hl0 : (s.port (s.ring n).port.val).link.l0 = true) (rc : Receipt) : s.postReceipt n rc = s.writeReceipt n rc := by
  unfold State.postReceipt
  simp [herr, hbme, hd3, hl0]

/-- Settles O23: the ticket gives its tokens back, is alone and done, and its receipt is written. -/
theorem finishPosts : Obligations.FinishPosts := by
  unfold Obligations.FinishPosts
  intro s t rc us hcanon halone hcrate herr hbme hd3 hl0
  obtain ⟨c, hret, hfetch, hstaging, hread⟩ := returnTokens_of_no_crate (s := s) hcrate
  unfold State.finish
  rw [hret]
  generalize hd : ({ t with stage := .done, need := [], fetchTok := false, staging := 0, readbuf := 0, stall := none, tabTok := false, crateTok := false, us := us, rcpt := some rc } : Tk) = d
  have hset : (State.setTk (State.inClasses s c) d) = { s with host := { s.host with tickets := [d] }, classes := c } := by
    simp [State.setTk, State.inClasses, halone, ← hd, putTk]
  rw [hset, postAll_of_alone rfl (by rw [← hd]) (by rw [← hd])]
  have hdrop : State.dropTk { s with host := { s.host with tickets := [d] }, classes := c } d.id = { s with host := { s.host with tickets := [] }, classes := c } := by simp [State.dropTk]
  have hring : d.ring = t.ring := by rw [← hd]
  rw [hdrop, hring]
  rw [postReceipt_of_up (by exact herr) (by exact hbme) (by exact hd3) (by exact hl0)]
  obtain ⟨⟨rest, hout⟩, ⟨p, tm, hm, hsame⟩, hother, ⟨k, hclasses⟩, htickets⟩ :=
    writeReceipt_frame (s := { s with host := { s.host with tickets := [] }, classes := c }) hcanon t.ring { rc with bellAt := d.bellAt, us := d.us }
  have hposts := (posts_refl ({ s with host := { s.host with tickets := [] }, classes := c } : State)).writeReceipt (n := t.ring) (rc := { rc with bellAt := d.bellAt, us := d.us })
  refine ⟨rest, hout, htickets, by rw [hsame]; rfl, by rw [hsame]; rfl, hother, ?_, ?_, ?_, hposts.tabs, hposts.vault⟩
  · rw [hclasses]; exact hfetch
  · rw [hclasses]; exact hstaging
  · rw [hclasses]; exact hread

end Sys2Proof.Proofs
end


section
/-! SUPPORT. Messages held and sent: the moderation timer and unmasking (R59, R60). -/

namespace Sys2Proof.Proofs

open Sys2Proof Sys2Proof.Machine Sys2Proof.Safety

variable {s t u b : State}

/-- Only ring entries, host writes and the device's own registers differ. -/
def Messages (s u : State) : Prop := ∃ r o d, u = { s with host := { s.host with rings := r, out := o }, dev := d }

theorem messages_refl (s : State) : Messages s s := ⟨_, _, _, rfl⟩

theorem Messages.trans (h : Messages s t) (h' : Messages t u) : Messages s u := by
  obtain ⟨_, _, _, rfl⟩ := h
  obtain ⟨_, _, _, rfl⟩ := h'
  exact ⟨_, _, _, rfl⟩

theorem Messages.ite {c : Prop} [Decidable c] (h : Messages b s) (h' : Messages b t) : Messages b (if c then s else t) := by
  split
  · exact h
  · exact h'

theorem Messages.foldl {α : Type} {f : State → α → State} (hf : ∀ t x, Messages b t → Messages b (f t x)) (l : List α) (h : Messages b s) : Messages b (l.foldl f s) :=
  List.foldlRecOn l f h fun t ht x _ => hf t x ht

theorem Messages.setRing {n r} (h : Messages b s) : Messages b (s.setRing n r) := h.trans ⟨_, _, _, rfl⟩

theorem Messages.emit {w} (h : Messages b s) : Messages b (s.emit w) := h.trans ⟨_, _, _, rfl⟩

theorem Messages.withDev {d} (h : Messages b s) : Messages b { s with dev := d } := h.trans ⟨_, _, _, rfl⟩

theorem Messages.sendIntr {c} (h : Messages b s) : Messages b (s.sendIntr c) := .ite h (.ite h.withDev (.ite h.withDev h.withDev.emit))

theorem Messages.releaseIntr {f} (h : Messages b s) : Messages b (s.releaseIntr f) :=
  .foldl (fun _ _ ht => .ite (.ite ht.withDev (.ite ht.withDev.withDev ht.withDev.sendIntr)) ht) _ h

theorem Messages.releaseMsgs (h : Messages b s) : Messages b s.releaseMsgs :=
  .releaseIntr (.foldl (fun _ _ ht => .ite (.ite ht.setRing.emit ht.setRing) ht) _ h)

theorem Messages.port (h : Messages s u) (p : Nat) : u.port p = s.port p := by obtain ⟨_, _, _, rfl⟩ := h; rfl

/-! The ring numbers. -/

theorem keys_nodup {α : Type} {m : SMap α} (h : m.sorted = true) : (m.map (·.1)).Nodup := by
  induction m with
  | nil => exact List.nodup_nil
  | cons p r ih =>
    obtain ⟨habove, hr⟩ := (Laws.sorted_cons_iff p.1 p.2 r).mp h
    refine List.nodup_cons.mpr ⟨fun hin => ?_, ih hr⟩
    obtain ⟨q, hq, heq⟩ := List.mem_map.mp hin
    have hlt : p.1 < q.1 := habove q hq
    exact absurd heq (Nat.ne_of_gt hlt)

theorem ringNos_nodup (h : RingsCanonical s) : s.ringNos.Nodup := by
  have hkeys := (keys_nodup (Laws.wf_sorted h)).filter (fun n => decide (2 ≤ n))
  refine List.nodup_append.mpr ⟨by decide, hkeys, fun a ha b hb hab => ?_⟩
  have : 2 ≤ b := by simpa using (List.mem_filter.mp hb).2
  simp only [List.mem_cons, List.not_mem_nil, or_false] at ha
  omega

/-- A ring pair without a number listed is as it is at reset. -/
theorem mem_ringNos_or (s : State) (n : Nat) : n ∈ s.ringNos ∨ s.ring n = {} := by
  unfold State.ringNos
  by_cases hn : 2 ≤ n
  · rcases get_default_or_mem Ring.reset s.host.rings n with h | h
    · exact .inr (h.trans (reset_ring_of_two_le hn))
    · exact .inl (List.mem_append_right _ (List.mem_filter.mpr ⟨List.mem_map.mpr ⟨_, h, rfl⟩, by simpa using hn⟩))
  · obtain rfl | rfl : n = 0 ∨ n = 1 := by omega
    · simp
    · simp

/-- A fold whose step does nothing but at one element makes that one step. -/
theorem foldl_once {α β : Type} {f : β → α → β} {l : List α} {n : α} {s : β} (hnd : l.Nodup) (hn : n ∈ l) (hpre : ∀ m ∈ l, m ≠ n → f s m = s)
    (hpost : ∀ m ∈ l, m ≠ n → f (f s n) m = f s n) : l.foldl f s = f s n := by
  obtain ⟨l₁, l₂, rfl⟩ := List.append_of_mem hn
  obtain ⟨-, hnd₂, hdisj⟩ := List.nodup_append.mp hnd
  have hnot₁ : ∀ m ∈ l₁, m ≠ n := fun m hm => hdisj m hm n (by simp)
  have hnot₂ : ∀ m ∈ l₂, m ≠ n := fun m hm heq => (List.nodup_cons.mp hnd₂).1 (heq ▸ hm)
  rw [List.foldl_append, foldl_fixed fun m hm => hpre m (by simp [hm]) (hnot₁ m hm), List.foldl_cons]
  exact foldl_fixed fun m hm => hpost m (by simp [hm]) (hnot₂ m hm)

/-! The moderation timer. -/

section
variable {n : Nat} (h : RingsCanonical s)
include h

theorem modTime_sends (htimer : (s.ring n).timer = true) (hcan : s.canSignal (s.ring n).port.val (s.ring n).vector.toNat = true) :
    ∃ u, exec (.modTimeExpiry n) s = .next u ∧ OnlyHost s u ∧ u.host.out = s.host.out ++ [.msix (s.ring n).port.val (s.ring n).vector.toNat (.ring n)] ∧
      u.ring n = { s.ring n with pending := 0, timer := false } ∧ ∀ m, m ≠ n → u.ring m = s.ring m := by
  have hrun : exec (.modTimeExpiry n) s =
      .next ((s.setRing n { s.ring n with pending := 0, timer := false }).emit (.msix (s.ring n).port.val (s.ring n).vector.toNat (.ring n))) := by
    refine congrArg Host.Outcome.next ((if_pos htimer).trans ?_)
    simp [State.ringMessage, hcan]
  obtain ⟨-, hsame, hother⟩ := setRing_says h n { s.ring n with pending := 0, timer := false }
  exact ⟨_, hrun, rfl, rfl, hsame, hother⟩

theorem modTime_holds (htimer : (s.ring n).timer = true) (hcan : s.canSignal (s.ring n).port.val (s.ring n).vector.toNat = false) :
    ∃ u, exec (.modTimeExpiry n) s = .next u ∧ OnlyRings s u ∧ u.ring n = { s.ring n with pending := 0, timer := false, heldMsg := true } ∧ ∀ m, m ≠ n → u.ring m = s.ring m := by
  have hrun : exec (.modTimeExpiry n) s = .next (s.setRing n { s.ring n with pending := 0, timer := false, heldMsg := true }) := by
    refine congrArg Host.Outcome.next ((if_pos htimer).trans ?_)
    simp [State.ringMessage, hcan]
  exact ⟨_, hrun, setRing_says h n _⟩

end

/-! Unmasking. -/

theorem unmask_some_port (s : State) (p : Nat) (v : BitVec 12) :
    (s.unmask p (some v)).port p = { s.port p with msix := (s.port p).msix.upd noMsix v.toNat (fun e => { e with mask := false }) } :=
  ((messages_refl _).releaseMsgs.port p).trans (Laws.setPort_port s p _)

theorem unmask_none_port (s : State) (p : Nat) : (s.unmask p none).port p = { s.port p with msixEn := true } := ((messages_refl _).releaseMsgs.port p).trans (Laws.setPort_port s p _)

theorem vectorUnmask_unmasks (p : Fin 2) (v : BitVec 12) (hwf : (s.port p.val).msix.wf noMsix = true) :
    ∃ u, exec (.vectorUnmask p (some v)) s = .next u ∧ ((u.port p.val).msix.get noMsix v.toNat).mask = false ∧ ∀ w, w ≠ v.toNat → (u.port p.val).msix.get noMsix w = (s.port p.val).msix.get noMsix w := by
  refine ⟨_, rfl, ?_, fun w hw => ?_⟩
  · rw [unmask_some_port, get_upd hwf, if_pos rfl]
  · rw [unmask_some_port, get_upd hwf, if_neg hw]

theorem vectorUnmask_enables (p : Fin 2) : ∃ u, exec (.vectorUnmask p none) s = .next u ∧ (u.port p.val).msixEn = true ∧ (u.port p.val).msix = (s.port p.val).msix := by
  refine ⟨_, rfl, ?_, ?_⟩
  · rw [unmask_none_port]
  · rw [unmask_none_port]

theorem find?_of_unique {α : Type} {l : List α} {f : α → Bool} {a : α} (ha : a ∈ l) (hf : f a = true) (h : ∀ b, b ≠ a → f b = false) : l.find? f = some a := by
  cases hl : l.find? f with
  | none => exact absurd hf (by simpa using List.find?_eq_none.mp hl a ha)
  | some b =>
    by_contra hne
    have := h b fun heq => hne (heq ▸ rfl)
    rw [List.find?_some hl] at this
    cases this

/-- No message of the INTR block is held: none is released. -/
theorem releaseIntr_of_none_held (h : s.dev.heldMsg = 0) (sent : Nat × Nat → Bool) : s.releaseIntr sent = s := by
  refine foldl_fixed fun c _ => if_neg ?_
  simp [h]

/-- One ring pair alone holds a message whose vector can signal: it is sent (R60). -/
theorem releaseMsgs_of_one {n : Nat} (h : RingsCanonical s) (hheld : (s.ring n).heldMsg = true) (hothers : ∀ m, m ≠ n → (s.ring m).heldMsg = false) (hintr : s.dev.heldMsg = 0)
    (hcan : s.canSignal (s.ring n).port.val (s.ring n).vector.toNat = true) :
    s.releaseMsgs = (s.setRing n { s.ring n with heldMsg := false }).emit (.msix (s.ring n).port.val (s.ring n).vector.toNat (.ring n)) := by
  have hmem : n ∈ s.ringNos := (mem_ringNos_or s n).resolve_right fun hreset => by rw [hreset] at hheld; cases hheld
  have hfind : s.ringNos.find? (fun m => (s.ring m).heldOn ((s.ring n).port.val, (s.ring n).vector.toNat)) = some n :=
    find?_of_unique hmem (by simp [Ring.heldOn, hheld]) fun m hm => by simp [Ring.heldOn, hothers m hm]
  unfold State.releaseMsgs
  rw [foldl_once (ringNos_nodup h) hmem (fun m _ hm => by simp [hothers m hm]) fun m _ hm => by simp [hothers m hm]]
  dsimp only
  rw [if_pos (by simp [hheld, hcan]), if_pos (by simp [hfind])]
  exact releaseIntr_of_none_held (s := (s.setRing n { s.ring n with heldMsg := false }).emit _) hintr _

theorem vectorUnmask_sends (p : Fin 2) {n : Nat} (h : RingsCanonical s) (hport : (s.ring n).port = p) (hheld : (s.ring n).heldMsg = true) (hothers : ∀ m, m ≠ n → (s.ring m).heldMsg = false)
    (hintr : s.dev.heldMsg = 0) (hup : s.portUp p.val = true) (hen : (s.port p.val).msixEn = true) (hwf : (s.port p.val).msix.wf noMsix = true) :
    ∃ u, exec (.vectorUnmask p (some (s.ring n).vector)) s = .next u ∧ u.host.out = s.host.out ++ [.msix p.val (s.ring n).vector.toNat (.ring n)] ∧ (u.ring n).heldMsg = false := by
  obtain ⟨q, hq⟩ : ∃ q, q = { s.port p.val with msix := (s.port p.val).msix.upd noMsix (s.ring n).vector.toNat (fun e => { e with mask := false }) } := ⟨_, rfl⟩
  have hring : ∀ m, (s.setPort p.val q).ring m = s.ring m := fun m => by simp [State.ring]
  have hset : (s.setPort p.val q).port p.val = q := Laws.setPort_port s p.val q
  have hcan : (s.setPort p.val q).canSignal p.val (s.ring n).vector.toNat = true := by
    have hmask : (q.msix.get noMsix (s.ring n).vector.toNat).mask = false := by rw [hq, get_upd hwf, if_pos rfl]
    simp only [State.portUp, Bool.and_eq_true, Bool.not_eq_true'] at hup
    simp [State.canSignal, State.portUp, State.vecMasked, hset, hmask]
    simp [hq, hup, hen]
  have hrel := releaseMsgs_of_one (s := s.setPort p.val q) (n := n) (by simpa [RingsCanonical] using h) (by rw [hring]; exact hheld) (fun m hm => by rw [hring]; exact hothers m hm)
    (by simpa using hintr) (by rw [hring, hport]; exact hcan)
  have hrun : exec (.vectorUnmask p (some (s.ring n).vector)) s = .next (s.setPort p.val q).releaseMsgs := by rw [hq]; rfl
  refine ⟨_, hrun, ?_, ?_⟩
  · rw [hrel, hring, hport]
    simp [State.emit]
  · rw [hrel]
    exact congrArg Ring.heldMsg (Laws.setRing_ring_same (s.setPort p.val q) n _ (by simpa using h))

/-- Settles O20: the timer's message goes out or is held by where its vector stands; unmasking releases what is held. -/
theorem ringMessages : Obligations.RingMessages := by
  unfold Obligations.RingMessages
  intro s n h
  exact ⟨modTime_sends h, modTime_holds h, fun htimer => congrArg Host.Outcome.next (if_neg (by simp [htimer])), vectorUnmask_unmasks, vectorUnmask_enables,
    fun p hport hheld hothers hintr hup hen hwf => vectorUnmask_sends p h hport hheld hothers hintr hup hen hwf⟩

end Sys2Proof.Proofs
end


section
/-! SUPPORT. Changes of the mode (R394 to R397): what one touches, and the power domain after it. -/

namespace Sys2Proof.Proofs

open Sys2Proof Sys2Proof.Machine Sys2Proof.Safety

variable {s t u b : State}

/-! Bits. -/

theorem getLsbD_setBit {w : Nat} (v : BitVec w) (i j : Nat) (c : Bool) (hj : j < w) : (setBit v i c).getLsbD j = if j = i then c else v.getLsbD j := by
  have hbit : (BitVec.ofNat w (2 ^ i)).getLsbD j = decide (i = j) := by
    rw [BitVec.getLsbD_ofNat, Nat.testBit_two_pow, decide_eq_true hj, Bool.true_and]
  unfold setBit
  cases c
  · rw [if_neg Bool.false_ne_true, BitVec.getLsbD_and, BitVec.getLsbD_not, hbit]
    by_cases hij : i = j
    · simp [hij]
    · simp [hij, Ne.symm hij, hj]
  · rw [if_pos rfl, BitVec.getLsbD_or, hbit]
    by_cases hij : i = j
    · simp [hij]
    · simp [hij, Ne.symm hij]

/-! What a change of the mode touches. -/

/-- Only host writes, the device's registers, the open tick's events, the mode log, flash targets and channels and the power domain differ. -/
def ModeMoves (s u : State) : Prop :=
  ∃ o d l ml tg ch p, u = { s with host := { s.host with out := o }, dev := d, ledger := { s.ledger with events := l }, tamper := { s.tamper with modeLog := ml }
                                   flash := { s.flash with targets := tg, chans := ch }, power := p }

theorem modeMoves_refl (s : State) : ModeMoves s s := ⟨_, _, _, _, _, _, _, rfl⟩

theorem ModeMoves.trans (h : ModeMoves s t) (h' : ModeMoves t u) : ModeMoves s u := by
  obtain ⟨_, _, _, _, _, _, _, rfl⟩ := h
  obtain ⟨_, _, _, _, _, _, _, rfl⟩ := h'
  exact ⟨_, _, _, _, _, _, _, rfl⟩

theorem ModeMoves.ite {c : Prop} [Decidable c] (h : ModeMoves b s) (h' : ModeMoves b t) : ModeMoves b (if c then s else t) := by
  split
  · exact h
  · exact h'

theorem ModeMoves.foldl {α : Type} {f : State → α → State} (hf : ∀ t x, ModeMoves b t → ModeMoves b (f t x)) (l : List α) (h : ModeMoves b s) : ModeMoves b (l.foldl f s) :=
  List.foldlRecOn l f h fun t ht x _ => hf t x ht

theorem ModeMoves.withPower {p} (h : ModeMoves b s) : ModeMoves b { s with power := p } := h.trans ⟨_, _, _, _, _, _, _, rfl⟩

theorem ModeMoves.keepMode {x} (h : ModeMoves b s) : ModeMoves b (s.keepMode x) := .ite (h.trans ⟨_, _, _, _, _, _, _, rfl⟩) h

theorem ModeMoves.addEvent {n x} (h : ModeMoves b s) : ModeMoves b (s.addEvent n x) := .ite (h.trans ⟨_, _, _, _, _, _, _, rfl⟩) h

theorem ModeMoves.sendIntr {c} (h : ModeMoves b s) : ModeMoves b (s.sendIntr c) := h.trans (by rw [show s.sendIntr c = _ from Laws.sendIntr_says s c]; exact ⟨_, _, _, _, _, _, _, rfl⟩)

theorem ModeMoves.signal {c} (h : ModeMoves b s) : ModeMoves b (s.signal c) := .ite h.sendIntr h

theorem ModeMoves.devEvent {c} (h : ModeMoves b s) : ModeMoves b (s.devEvent c) := .ite h (.signal (h.trans ⟨_, _, _, _, _, _, _, rfl⟩))

theorem ModeMoves.setChan {c x} (h : ModeMoves b s) : ModeMoves b (s.setChan c x) := h.trans ⟨_, _, _, _, _, _, _, rfl⟩

theorem ModeMoves.wakeGroup {g} (h : ModeMoves b s) : ModeMoves b (s.wakeGroup g) :=
  .ite (.foldl (fun _ _ ht => .ite ht.setChan ht) _ (h.trans ⟨_, _, _, _, _, _, _, rfl⟩)) h

theorem ModeMoves.wakeAll (h : ModeMoves b s) : ModeMoves b s.wakeAll := .foldl (fun _ _ ht => ht.wakeGroup) _ h.withPower

theorem ModeMoves.changeMode {m cause} (h : ModeMoves b s) : ModeMoves b (s.changeMode m cause) := .ite h.withPower.keepMode.addEvent.devEvent h.withPower.keepMode.addEvent.devEvent.wakeAll

theorem ModeMoves.checkRest (h : ModeMoves b s) : ModeMoves b s.checkRest := .ite h.changeMode h

theorem ModeMoves.checkBacklog (h : ModeMoves b s) : ModeMoves b s.checkBacklog := .ite h.changeMode h

section
variable (h : ModeMoves s u)
include h

theorem ModeMoves.tabs : u.tabs = s.tabs := by obtain ⟨_, _, _, _, _, _, _, rfl⟩ := h; rfl
theorem ModeMoves.vault : u.vault = s.vault := by obtain ⟨_, _, _, _, _, _, _, rfl⟩ := h; rfl
theorem ModeMoves.ring (n : Nat) : u.ring n = s.ring n := by obtain ⟨_, _, _, _, _, _, _, rfl⟩ := h; rfl
theorem ModeMoves.rings : u.host.rings = s.host.rings := by obtain ⟨_, _, _, _, _, _, _, rfl⟩ := h; rfl
theorem ModeMoves.port (p : Nat) : u.port p = s.port p := by obtain ⟨_, _, _, _, _, _, _, rfl⟩ := h; rfl
theorem ModeMoves.tickets : u.host.tickets = s.host.tickets := by obtain ⟨_, _, _, _, _, _, _, rfl⟩ := h; rfl
theorem ModeMoves.now : u.now = s.now := by obtain ⟨_, _, _, _, _, _, _, rfl⟩ := h; rfl

end

/-! The power domain after it. -/

theorem setChan_power (n : Nat) (c : Chan) : (s.setChan n c).power = s.power := rfl

theorem foldl_power {α : Type} {f : State → α → State} (hf : ∀ t x, (f t x).power = t.power) (l : List α) (s : State) : (l.foldl f s).power = s.power :=
  List.foldlRecOn (motive := fun t => t.power = s.power) l f rfl fun t ht x _ => (hf t x).trans ht

theorem foldl_dev {α : Type} {f : State → α → State} (hf : ∀ t x, (f t x).dev = t.dev) (l : List α) (s : State) : (l.foldl f s).dev = s.dev :=
  List.foldlRecOn (motive := fun t => t.dev = s.dev) l f rfl fun t ht x _ => (hf t x).trans ht

theorem foldl_ledger {α : Type} {f : State → α → State} (hf : ∀ t x, (f t x).ledger = t.ledger) (l : List α) (s : State) : (l.foldl f s).ledger = s.ledger :=
  List.foldlRecOn (motive := fun t => t.ledger = s.ledger) l f rfl fun t ht x _ => (hf t x).trans ht

theorem wakeGroup_power (s : State) (g : Nat) : (s.wakeGroup g).power = { s.power with groupGated := setBit s.power.groupGated g false } := by
  unfold State.wakeGroup
  split
  · exact foldl_power (fun t c => by split <;> rfl) _ _
  · next hbit =>
    have hsame : setBit s.power.groupGated g false = s.power.groupGated := BitVec.eq_of_getLsbD_eq fun i hi => by
      rw [getLsbD_setBit _ _ _ _ hi]
      split
      · next heq => exact (heq ▸ (Bool.eq_false_iff.mpr hbit)).symm
      · rfl
    rw [hsame]

theorem foldl_wakeGroup_power (l : List Nat) (s : State) : ∃ gated, (l.foldl State.wakeGroup s).power = { s.power with groupGated := gated } ∧
    ∀ i < 8, gated.getLsbD i = (!l.contains i && s.power.groupGated.getLsbD i) := by
  induction l generalizing s with
  | nil => exact ⟨s.power.groupGated, rfl, fun i _ => by simp⟩
  | cons g l ih =>
    obtain ⟨gated, hpower, hbits⟩ := ih (s.wakeGroup g)
    refine ⟨gated, ?_, fun i hi => ?_⟩
    · rw [List.foldl_cons, hpower, wakeGroup_power]
    · rw [hbits i hi, wakeGroup_power, getLsbD_setBit _ _ _ _ hi]
      by_cases hig : i = g
      · simp [hig]
      · simp [hig]

/-- Every clock runs: no row and no group of the flash is gated (R414). -/
theorem wakeAll_power (s : State) : s.wakeAll.power = { s.power with rowsGated := [], groupGated := 0 } := by
  obtain ⟨gated, hpower, hbits⟩ := foldl_wakeGroup_power (List.range 8) { s with power := { s.power with rowsGated := [] } }
  have hzero : gated = 0 := BitVec.eq_of_getLsbD_eq fun i hi => by
    rw [hbits i hi]
    simp [hi]
  exact hpower.trans (by rw [hzero])

theorem wakeAll_dev (s : State) : s.wakeAll.dev = s.dev :=
  foldl_dev (fun t g => by
    unfold State.wakeGroup
    split
    · exact foldl_dev (fun t c => by split <;> rfl) _ _
    · rfl) _ _

theorem wakeAll_ledger (s : State) : s.wakeAll.ledger = s.ledger :=
  foldl_ledger (fun t g => by
    unfold State.wakeGroup
    split
    · exact foldl_ledger (fun t c => by split <;> rfl) _ _
    · rfl) _ _

theorem devEvent_sets (s : State) {c : Nat} (hc : c < 32) : (s.devEvent c).dev.events.getLsbD c = true := by
  unfold State.devEvent
  split
  · next hset => exact hset
  · rw [Laws.signal_dev_events]
    exact (getLsbD_setBit _ _ _ _ hc).trans (if_pos rfl)

/-- The mode, the cause and the timer that a change leaves; whatever else of the power domain a change to another mode than REST leaves, every clock runs. -/
theorem changeMode_power (s : State) (m : Mode) (cause : Nat) :
    (s.changeMode m cause).power.mode = m ∧ (s.changeMode m cause).power.lastCause = cause ∧ (s.changeMode m cause).power.hbStart = (if m = .service then some s.now else s.power.hbStart) ∧
      (m ≠ .rest → (s.changeMode m cause).power.rowsGated = [] ∧ (s.changeMode m cause).power.groupGated = 0) := by
  have hkeep : ∀ (t : State) x, (t.keepMode x).power = t.power := fun t x => by
    unfold State.keepMode
    split <;> rfl
  have hhb : (if (m == .service) = true then some s.now else s.power.hbStart) = (if m = .service then some s.now else s.power.hbStart) := by
    by_cases hm : m = .service <;> simp [hm]
  unfold State.changeMode
  dsimp only
  split
  · next hrest => exact ⟨by simp [hkeep], by simp [hkeep], by simp [hkeep], fun hne => absurd (by simpa using hrest) hne⟩
  · exact ⟨by simp [wakeAll_power, hkeep], by simp [wakeAll_power, hkeep], by simp [wakeAll_power, hkeep], fun _ => by simp [wakeAll_power]⟩

/-- The MODE event is set, and an open tick takes the event of the change (R131, R394). -/
theorem changeMode_events (s : State) (m : Mode) (cause : Nat) : (s.changeMode m cause).dev.events.getLsbD 1 = true ∧
    (s.ledger.running = true → ∃ e, (s.changeMode m cause).ledger.events = s.ledger.events ++ [e] ∧ e.type = 2) := by
  have hkeep : ∀ (t : State) x, (t.keepMode x).ledger = t.ledger := fun t x => by
    unfold State.keepMode
    split <;> rfl
  have hopen : ∀ t : State, t.ledger.running = true → t.tickOpen = true := fun t ht => by simp [State.tickOpen, ht]
  unfold State.changeMode
  dsimp only
  generalize hp : ({ s.power with mode := m, lastCause := cause, targets := _, hbStart := _, hbStopped := _ } : Power) = p
  generalize leBytes 1 s.power.mode.code ++ leBytes 1 m.code ++ leBytes 2 cause ++ zeros 4 ++ leBytes 8 s.now = body
  have hevent : s.ledger.running = true → (((State.keepMode { s with power := p } body).addEvent 2 body).devEvent 1).ledger.events = s.ledger.events ++ [{ type := 2, body := body }] := fun hrun => by
    rw [Laws.devEvent_ledger, Laws.addEvent_events, hkeep, if_pos (hopen _ (by rw [hkeep]; exact hrun))]
  split
  · exact ⟨devEvent_sets _ (by decide), fun hrun => ⟨_, hevent hrun, rfl⟩⟩
  · rw [wakeAll_dev, wakeAll_ledger]
    exact ⟨devEvent_sets _ (by decide), fun hrun => ⟨_, hevent hrun, rfl⟩⟩

/-! The commands that change the mode. -/

section
variable {a : TkArg} {x : Tk}

/-- HEARTBEAT: the beat, then the receipt, which leaves mode and tabs alone. -/
theorem exec_heartbeat (h : Admitted s a 0x18 x) : ∃ u, exec (.heartbeat a) s = .next u ∧ u.power = s.beat.power ∧ u.tabs = s.beat.tabs := by
  have hgo : exec (.heartbeat a) s = .next (s.beat.finish x { x.receipt 0 with result := s.beat.power.mode.code } a.us) := congrArg Host.Outcome.next (withTk_of_admitted h _)
  exact ⟨_, hgo, (posts_refl s.beat).finish.power, (posts_refl s.beat).finish.tabs⟩

theorem exec_holdover (h : Admitted s a 0x19 x) : ∃ u, exec (.holdover a) s = .next u ∧ u.power = (if s.power.mode.timed then s.changeMode .holdover 5 else s).power := by
  have hgo : exec (.holdover a) s = .next ((if s.power.mode.timed then s.changeMode .holdover 5 else s).finish x
      { x.receipt 0 with result := (if s.power.mode.timed then s.changeMode .holdover 5 else s).power.mode.code } a.us) := congrArg Host.Outcome.next (withTk_of_admitted h _)
  exact ⟨_, hgo, (posts_refl _).finish.power⟩

theorem beat_of_not_owned (h : s.owned = false) : s.beat = s := by simp [State.beat, h]

theorem beat_of_owned (h : s.owned = true) : s.beat = match s.power.mode with
    | .rest => if s.dev.ready then s.changeMode .service 1 else s
    | .service => s.restartTimer
    | .catchup => s.restartTimer
    | .holdover => if s.tabs.ctx.any (fun p => decide (p.2.uploaded < p.2.sealed)) then (s.changeMode .catchup 6).restartTimer else s.changeMode .service 7
    | _ => s := by
  unfold State.beat
  rw [h]
  rfl

theorem heartbeat_in_rest (h : Admitted s a 0x18 x) (hown : s.owned = true) (hmode : s.power.mode = .rest) (hready : s.dev.ready = true) :
    ∃ u, exec (.heartbeat a) s = .next u ∧ u.power.mode = .service ∧ u.power.lastCause = 1 ∧ u.power.hbStart = some s.now := by
  obtain ⟨u, hgo, hpower, -⟩ := exec_heartbeat h
  obtain ⟨hm, hc, hb, -⟩ := changeMode_power s .service 1
  have hbeat : s.beat = s.changeMode .service 1 := by rw [beat_of_owned hown, hmode]; exact if_pos hready
  rw [hbeat] at hpower
  exact ⟨u, hgo, by rw [hpower, hm], by rw [hpower, hc], by rw [hpower, hb, if_pos rfl]⟩

theorem heartbeat_in_service (h : Admitted s a 0x18 x) (hown : s.owned = true) (hmode : s.power.mode = .service ∨ s.power.mode = .catchup) :
    ∃ u, exec (.heartbeat a) s = .next u ∧ u.power = { s.power with hbStart := some s.now, hbStopped := none } ∧ u.tabs = s.tabs := by
  obtain ⟨u, hgo, hpower, htabs⟩ := exec_heartbeat h
  have hbeat : s.beat = s.restartTimer := by
    rw [beat_of_owned hown]
    rcases hmode with hm | hm <;> rw [hm]
  rw [hbeat] at hpower htabs
  exact ⟨u, hgo, hpower, htabs⟩

theorem heartbeat_in_holdover_behind (h : Admitted s a 0x18 x) (hown : s.owned = true) (hmode : s.power.mode = .holdover) (hbehind : ∃ p ∈ s.tabs.ctx, p.2.uploaded < p.2.sealed) :
    ∃ u, exec (.heartbeat a) s = .next u ∧ u.power.mode = .catchup ∧ u.power.lastCause = 6 ∧ u.power.hbStart = some s.now := by
  obtain ⟨u, hgo, hpower, -⟩ := exec_heartbeat h
  obtain ⟨hm, hc, -⟩ := changeMode_power s .catchup 6
  have hbeat : s.beat = (s.changeMode .catchup 6).restartTimer := by
    rw [beat_of_owned hown, hmode]
    exact if_pos (by simpa using hbehind)
  rw [hbeat] at hpower
  refine ⟨u, hgo, by rw [hpower]; exact hm, by rw [hpower]; exact hc, ?_⟩
  rw [hpower]
  exact congrArg some (modeMoves_refl s).changeMode.now

theorem heartbeat_in_holdover_level (h : Admitted s a 0x18 x) (hown : s.owned = true) (hmode : s.power.mode = .holdover) (hlevel : ∀ p ∈ s.tabs.ctx, p.2.sealed ≤ p.2.uploaded) :
    ∃ u, exec (.heartbeat a) s = .next u ∧ u.power.mode = .service ∧ u.power.lastCause = 7 ∧ u.power.hbStart = some s.now := by
  obtain ⟨u, hgo, hpower, -⟩ := exec_heartbeat h
  obtain ⟨hm, hc, hb, -⟩ := changeMode_power s .service 7
  have hbeat : s.beat = s.changeMode .service 7 := by
    rw [beat_of_owned hown, hmode]
    exact if_neg (by simpa using hlevel)
  rw [hbeat] at hpower
  exact ⟨u, hgo, by rw [hpower, hm], by rw [hpower, hc], by rw [hpower, hb, if_pos rfl]⟩

theorem exec_fence (h : Admitted s a 0x1A x) : exec (.fence a) s = .next (s.finishWith x 0 a.us) := congrArg Host.Outcome.next (withTk_of_admitted h _)

end

theorem timed_of_service {m : Mode} (h : m = .service ∨ m = .catchup) : m.timed = true := by rcases h with rfl | rfl <;> rfl

theorem heartbeatTimeout_expires {c : Nat} (hb : s.power.hbStart = some c) (hmode : s.power.mode = .service ∨ s.power.mode = .catchup) (hfits : c + s.power.timeoutS * 32768 < 2 ^ 48) :
    ∃ u, exec .heartbeatTimeout s = .next u ∧ u.power.mode = .holdover ∧ u.power.lastCause = 4 ∧ c + s.power.timeoutS * 32768 ≤ u.now ∧ u.dev.events.getLsbD 1 = true ∧ u.power.rowsGated = [] ∧
      u.power.groupGated = 0 ∧ (s.ledger.running = true → ∃ e, u.ledger.events = s.ledger.events ++ [e] ∧ e.type = 2) ∧ u.tabs = s.tabs := by
  obtain ⟨v, hv⟩ : ∃ v, v = s.reach (c + s.power.timeoutS * hz) := ⟨_, rfl⟩
  have hgo : exec .heartbeatTimeout s = .next (v.changeMode .holdover 4) := by
    refine congrArg Host.Outcome.next ?_
    rw [State.timeout_, hb, hv]
    exact if_pos (timed_of_service hmode)
  obtain ⟨hm, hc, -, hgates⟩ := changeMode_power v .holdover 4
  obtain ⟨hrows, hgroups⟩ := hgates (by decide)
  obtain ⟨hbit, hevents⟩ := changeMode_events v .holdover 4
  have hmoves := (modeMoves_refl v).changeMode (m := .holdover) (cause := 4)
  have hnow : c + s.power.timeoutS * 32768 ≤ v.now := by
    have hlt := s.ledger.rtc.isLt
    rw [hv]
    simp only [State.reach, State.now, BitVec.toNat_ofNat, hz]
    omega
  exact ⟨_, hgo, hm, hc, hmoves.now.symm ▸ hnow, hbit, hrows, hgroups, by rw [hv] at hevents ⊢; exact hevents, hmoves.tabs.trans (by rw [hv]; rfl)⟩

theorem heartbeatTimeout_untimed (h : s.power.mode.timed = false) : exec .heartbeatTimeout s = .next s := by
  refine congrArg Host.Outcome.next ?_
  unfold State.timeout_
  split
  · exact if_neg (by simp [h])
  · rfl

theorem catchupEnd_ends (h : s.power.mode = .catchup) :
    ∃ u, exec .catchupEnd s = .next u ∧ u.power.mode = .service ∧ u.power.lastCause = 9 ∧ u.power.hbStart = some s.now ∧ u.dev.events.getLsbD 1 = true ∧ u.tabs = s.tabs ∧ u.vault = s.vault := by
  have hgo : exec .catchupEnd s = .next (s.changeMode .service 9) := congrArg Host.Outcome.next (if_pos h)
  obtain ⟨hm, hc, hb, -⟩ := changeMode_power s .service 9
  have hmoves := (modeMoves_refl s).changeMode (m := .service) (cause := 9)
  exact ⟨_, hgo, hm, hc, hb, (changeMode_events s .service 9).1, hmoves.tabs, hmoves.vault⟩

/-- Settles O50: each command's beat or change, with the power domain that `changeMode` leaves. -/
theorem modesChange : Obligations.ModesChange := by
  unfold Obligations.ModesChange
  refine ⟨fun s a t => ⟨fun h hmode => ?_, fun h hmode => ?_, fun h hown => ?_, heartbeat_in_rest, heartbeat_in_service, heartbeat_in_holdover_behind, heartbeat_in_holdover_level, exec_fence⟩,
    fun s => ⟨fun c hb hmode hfits => heartbeatTimeout_expires hb hmode hfits, heartbeatTimeout_untimed, catchupEnd_ends, fun h => congrArg Host.Outcome.next (if_neg h)⟩⟩
  · obtain ⟨u, hgo, hpower⟩ := exec_holdover h
    rw [if_pos (timed_of_service hmode)] at hpower
    obtain ⟨hm, hc, -⟩ := changeMode_power s .holdover 5
    exact ⟨u, hgo, by rw [hpower, hm], by rw [hpower, hc]⟩
  · obtain ⟨u, hgo, hpower⟩ := exec_holdover h
    rw [if_neg (by simp [hmode])] at hpower
    exact ⟨u, hgo, hpower⟩
  · obtain ⟨u, hgo, hpower, htabs⟩ := exec_heartbeat h
    rw [beat_of_not_owned hown] at hpower htabs
    exact ⟨u, hgo, hpower, htabs⟩

end Sys2Proof.Proofs
end


section
/-! SUPPORT. What the engines' work leaves alone: taking calls up, ending them and running again what a fault has stopped touch the engines, the items, the tickets, the classes, the vault's
ephemeral keys, the logs and the messages (R199 to R235). -/

namespace Sys2Proof.Proofs

open Sys2Proof Sys2Proof.Machine Sys2Proof.Safety

/-- What the engines' work leaves as it is. -/
structure Settles (b s : State) : Prop where
  rings : s.host.rings = b.host.rings
  port0 : s.host.port0 = b.host.port0
  port1 : s.host.port1 = b.host.port1
  twoPorts : s.host.twoPorts = b.host.twoPorts
  out : ∃ l, s.host.out = b.host.out ++ l
  tabs : s.tabs = b.tabs
  ledger : s.ledger = b.ledger
  flash : s.flash = b.flash
  ddr : s.ddr = b.ddr
  boards : s.boards = b.boards
  tamper : s.tamper = b.tamper
  guard : s.guard = b.guard
  pending : s.pending = b.pending
  vault : ∃ e, s.vault = { b.vault with eph := e }
  power : ∃ g, s.power = { b.power with rowsGated := g }

theorem settles_refl (s : State) : Settles s s := ⟨rfl, rfl, rfl, rfl, ⟨[], (List.append_nil _).symm⟩, rfl, rfl, rfl, rfl, rfl, rfl, rfl, rfl, ⟨_, rfl⟩, ⟨_, rfl⟩⟩

variable {b s t : State}

theorem Settles.ite {c : Prop} [Decidable c] (h : Settles b s) (h' : Settles b t) : Settles b (if c then s else t) := by
  split
  · exact h
  · exact h'

theorem Settles.foldl {α : Type} {f : State → α → State} {l : List α} (h : Settles b s) (hf : ∀ s a, Settles b s → Settles b (f s a)) : Settles b (l.foldl f s) := by
  induction l generalizing s with
  | nil => exact h
  | cons a l ih => exact ih (hf s a h)

theorem Settles.withClasses {x : Classes} (h : Settles b s) : Settles b { s with classes := x } := { h with }

theorem Settles.withUnits {x : Units} (h : Settles b s) : Settles b { s with units := x } := { h with }

theorem Settles.withCrypto {x : Crypto} (h : Settles b s) : Settles b { s with crypto := x } := { h with }

theorem Settles.withEph {e} (h : Settles b s) : Settles b { s with vault := { s.vault with eph := e } } := { h with vault := by obtain ⟨_, hv⟩ := h.vault; exact ⟨e, by rw [hv]⟩ }

theorem Settles.withRowsGated {g} (h : Settles b s) : Settles b { s with power := { s.power with rowsGated := g } } := { h with power := by obtain ⟨_, hp⟩ := h.power; exact ⟨g, by rw [hp]⟩ }

theorem Settles.withFault {x : Fault_} (h : Settles b s) : Settles b { s with fault := x } := { h with }

theorem Settles.withDev {x : Dev} (h : Settles b s) : Settles b { s with dev := x } := { h with }

theorem Settles.drewBytes {n} (h : Settles b s) : Settles b (State.drewBytes s n) :=
  { h with }

theorem Settles.setTk {t1} (h : Settles b s) : Settles b (State.setTk s t1) :=
  { h with }

theorem Settles.setUnit {a} {u} (h : Settles b s) : Settles b (State.setUnit s a u) :=
  { h with }

theorem Settles.setSpareFor {row} {v} (h : Settles b s) : Settles b (State.setSpareFor s row v) :=
  { h with }

theorem Settles.setRowEng {r} {v} (h : Settles b s) : Settles b (State.setRowEng s r v) :=
  { h with }

theorem Settles.setPke {e} {v} (h : Settles b s) : Settles b (State.setPke s e v) :=
  { h with }

theorem Settles.emit {w} (h : Settles b s) : Settles b (State.emit s w) :=
  { h with
    out := by
      obtain ⟨l, hl⟩ := h.out
      exact ⟨l ++ [w], by rw [← List.append_assoc, ← hl]; rfl⟩ }

theorem Settles.messageSent {held c} (h : Settles b s) :
    Settles b { s with dev := { s.dev with heldMsg := held, lastMsg := s.dev.lastMsg.set zeroOf c (s.now + 1) } } :=
  h.withDev

theorem Settles.sendIntr {c} (h : Settles b s) : Settles b (s.sendIntr c) := by
  unfold State.sendIntr
  dsimp only
  split
  · exact h
  · split
    · exact { h with }
    · split
      · exact { h with }
      · exact h.messageSent.emit

theorem Settles.signal {c} (h : Settles b s) : Settles b (State.signal s c) := by
  unfold State.signal
  split
  · exact h.sendIntr
  · exact h

theorem Settles.devEvent {b1} (h : Settles b s) : Settles b (State.devEvent s b1) := by
  unfold State.devEvent
  dsimp only
  split
  · exact h
  · exact .signal { h with }

theorem Settles.faultEvent {b1} (h : Settles b s) : Settles b (State.faultEvent s b1) := by
  unfold State.faultEvent
  dsimp only
  split
  · exact h
  · exact h.withFault.signal

theorem Settles.countFault {a} (h : Settles b s) : Settles b (State.countFault s a) := by
  unfold State.countFault
  dsimp only
  exact h.setUnit

theorem Settles.logFault {d} (h : Settles b s) : Settles b (State.logFault s d) := by
  unfold State.logFault
  dsimp only
  exact .foldl (.withFault (.ite h.countFault h)) (fun _ _ h3 => h3.faultEvent)

theorem Settles.logFaultIf {c : Prop} [Decidable c] {d} (h : Settles b s) : Settles b (if c then s.logFault d else s) := .ite h.logFault h

theorem Settles.wakeRow {row} (h : Settles b s) : Settles b (State.wakeRow s row) :=
  h.withRowsGated

theorem Settles.setFetchPool {p} (h : Settles b s) : Settles b (State.setFetchPool s p) :=
  h.withClasses

theorem Settles.pruneRot (h : Settles b s) : Settles b (State.pruneRot s) :=
  h.withClasses

theorem Settles.markWaiting {cls} {rung} (h : Settles b s) : Settles b (State.markWaiting s cls rung) := by
  unfold State.markWaiting
  dsimp only
  split
  · exact h.withClasses.logFault
  · exact h.withClasses

theorem Settles.noteWait {cls} {rung} {us} (h : Settles b s) : Settles b (State.noteWait s cls rung us) := by
  unfold State.noteWait
  split
  · exact h.markWaiting
  · exact h

theorem Settles.noteLeave {t1} (h : Settles b s) : Settles b (State.noteLeave s t1) := by
  unfold State.noteLeave
  split
  · exact h.noteWait
  · exact h

theorem Settles.pickClass {point q cost} {r : Nat × State} (h : Settles b s) (he : s.pickClass point q cost = some r) : Settles b r.2 := by
  unfold State.pickClass at he
  split at he
  · cases he
    exact h
  · obtain ⟨x, -, rfl⟩ := Option.map_eq_some_iff.mp he
    exact { h with }

theorem Settles.skip {t1} {cause} (h : Settles b s) : Settles b (State.skip s t1 cause) := by
  unfold State.skip
  dsimp only
  exact .setTk (.ite h.setFetchPool h)

theorem Settles.report {hash d} (h : Settles b s) : Settles b (s.report hash d) := by
  unfold State.report
  cases hash <;> exact .ite (.logFault { h with }) { h with }

theorem Settles.strikeCipher {row} {p} {st} (h : Settles b s) : Settles b (State.strikeCipher s row p st) := by
  unfold State.strikeCipher
  dsimp only
  split
  · exact h
  · exact h.setRowEng.foldl (fun _ _ h4 => h4.report)

theorem Settles.strikeHash {row} {p} {st} (h : Settles b s) : Settles b (State.strikeHash s row p st) := by
  unfold State.strikeHash
  dsimp only
  split
  · exact h
  · exact h.setRowEng.foldl (fun _ _ h4 => h4.report)

theorem Settles.abortCtx {owners} {st} (h : Settles b s) : Settles b (State.abortCtx s owners st) :=
  .withCrypto (h.foldl (fun _ _ h2 => h2.strikeCipher.strikeHash))

theorem Settles.abortPke {p} {fault} (h : Settles b s) : Settles b (State.abortPke s p fault) :=
  { h with }

theorem Settles.abortWork {ids} (h : Settles b s) : Settles b (State.abortWork s ids) := by
  unfold State.abortWork
  dsimp only
  exact h.abortCtx.abortPke

theorem Settles.setUState {a} {st} (h : Settles b s) : Settles b (State.setUState s a st) := by
  unfold State.setUState
  dsimp only
  exact h.setUnit

theorem Settles.dropItems {p : Item → Bool} (h : Settles b s) : Settles b { s with units := { s.units with items := s.units.items.filter p } } :=
  .withUnits h

theorem Settles.skipFault {t} (h : Settles b s) : Settles b (s.skipFault t) :=
  .dropItems (.pruneRot (.skip (.noteLeave (.abortWork h))))

theorem Settles.rerunItem {i keep fault} (h : Settles b s) : Settles b (s.rerunItem i keep fault) := by
  have h1 : Settles b { s.abortWork [i.ticket] with units := { s.units with items := s.units.items.filter (fun x => x.ticket != i.ticket) } } :=
    h.abortWork.withUnits
  unfold State.rerunItem
  dsimp only
  split
  · exact h1
  · exact .ite h1.skipFault h1.setTk

theorem Settles.rowEvent {old} {row} (h : Settles b s) : Settles b (State.rowEvent s old row) := by
  unfold State.rowEvent
  dsimp only
  split
  · exact .devEvent (.ite h.faultEvent h)
  · split
    · exact h.faultEvent
    · exact h

theorem Settles.spareNext {row} (h : Settles b s) : Settles b (State.spareNext s row) := by
  unfold State.spareNext
  dsimp only
  split
  · split
    · exact h.setSpareFor.devEvent
    · exact h.setSpareFor.setUState.devEvent
  · exact h

theorem Settles.spareBack {row} (h : Settles b s) : Settles b (State.spareBack s row) := by
  unfold State.spareBack
  split
  · exact h.setUState.setSpareFor
  · exact h.setUState.setSpareFor

theorem Settles.rerunOwners {owners} {fault} (h : Settles b s) : Settles b (State.rerunOwners s owners fault) :=
  h.foldl (fun _ _ h2 => h2.rerunItem)

theorem Settles.poolLow {old} (h : Settles b s) : Settles b (State.poolLow s old) := by
  unfold State.poolLow
  split
  · exact h.logFault
  · exact h

theorem Settles.callerFault {row} {owner} (h : Settles b s) : Settles b (State.callerFault s row owner) := by
  unfold State.callerFault
  dsimp only
  exact h.rerunOwners.logFault

theorem Settles.cipherBegin {eng} {c} (h : Settles b s) : Settles b (State.cipherBegin s eng c) := by
  unfold State.cipherBegin
  dsimp only
  split
  · exact .setRowEng (.wakeRow { h with })
  · split
    · exact .callerFault (.wakeRow { h with })
    · exact .setRowEng (.wakeRow { h with })

theorem Settles.cipherTake {eng} (h : Settles b s) : Settles b (State.cipherTake s eng) := by
  unfold State.cipherTake
  dsimp only
  split
  · exact h
  · split
    · exact h
    · split
      · exact .cipherBegin (h.pickClass ‹_›)
      · exact h

theorem Settles.answer {hash} {d} (h : Settles b s) : Settles b (State.answer s hash d) := by
  unfold State.answer
  dsimp only
  split
  · exact h.report.rerunOwners.logFault
  · exact h.report

theorem Settles.cipherEnd {row} (h : Settles b s) : Settles b (State.cipherEnd s row) := by
  unfold State.cipherEnd
  dsimp only
  split
  · exact h
  · split
    · exact h
    · exact h.setRowEng.answer

theorem Settles.hashBegin {eng} {c} (h : Settles b s) : Settles b (State.hashBegin s eng c) := by
  unfold State.hashBegin
  dsimp only
  split
  · exact .setRowEng (.wakeRow { h with })
  · split
    · exact .setRowEng (.wakeRow { h with })
    · exact .callerFault (.wakeRow { h with })

theorem Settles.hashTake {eng} (h : Settles b s) : Settles b (State.hashTake s eng) := by
  unfold State.hashTake
  dsimp only
  split
  · exact h
  · split
    · exact h
    · split
      · exact .hashBegin (h.pickClass ‹_›)
      · exact h

theorem Settles.laneEnd {row} {b2} (h : Settles b s) : Settles b (State.laneEnd s row b2) := by
  unfold State.laneEnd
  dsimp only
  split
  · exact h
  · split
    · exact h
    · exact h.setRowEng.answer

theorem Settles.settleRows (h : Settles b s) : Settles b (State.settleRows s) := by
  unfold State.settleRows
  dsimp only
  split
  · exact h
  · exact .foldl (.foldl (h.foldl (fun _ _ h6 => h6.cipherEnd.laneEnd.laneEnd)) (fun _ _ h5 => h5.cipherTake)) (fun _ _ h4 => h4.hashTake)

theorem Settles.keyBus {h1} {b2} (h : Settles b s) : Settles b (State.keyBus s h1 b2) := by
  unfold State.keyBus
  dsimp only
  split
  · exact h.withEph
  · exact h

theorem Settles.clearEph {w} (h : Settles b s) : Settles b (State.clearEph s w) := by
  unfold State.clearEph
  dsimp only
  split
  · split
    · exact h.withEph
    · exact h
  · exact h

theorem Settles.pushPke {d} (h : Settles b s) : Settles b (State.pushPke s d) :=
  { h with }

theorem Settles.queuePke {w} (h : Settles b s) : Settles b (State.queuePke s w) :=
  { h with }

theorem Settles.resubmit {w} (h : Settles b s) : Settles b (State.resubmit s w).1 := by
  unfold State.resubmit
  dsimp only
  split
  · split
    · exact .skipFault (.ite h h.queuePke)
    · exact .setTk (.ite h h.queuePke)
  · exact .ite h h.queuePke

theorem Settles.pkeFault {e} {w} {interrupt} (h : Settles b s) : Settles b (State.pkeFault s e w interrupt) := by
  unfold State.pkeFault
  dsimp only
  exact h.setPke.setUState.poolLow.pushPke.resubmit.logFault

theorem Settles.requesterFault {w d again} (h : Settles b s) : Settles b (s.requesterFault w d again) := by
  unfold State.requesterFault
  refine .logFault ?_
  split
  · exact h.pushPke.resubmit
  · split
    · exact h.pushPke.skipFault
    · exact h.pushPke

theorem Settles.pkeRunOn {e} {w} {key} (h : Settles b s) : Settles b (State.pkeRunOn s e w key) := by
  unfold State.pkeRunOn
  dsimp only
  exact h.drewBytes.setPke

theorem Settles.pkeBegin {e} {w} (h : Settles b s) : Settles b (State.pkeBegin s e w) := by
  unfold State.pkeBegin
  dsimp only
  exact (by
      split
      · exact .requesterFault { h with }
      · exact .pkeRunOn (.setPke { h with }))

theorem Settles.pkeEnd {e} (h : Settles b s) : Settles b (State.pkeEnd s e) := by
  unfold State.pkeEnd
  dsimp only
  split
  · exact h
  · split
    · exact h
    · split
      · exact h.pkeFault
      · refine .logFaultIf (.ite (.requesterFault (.clearEph ?_)) (.pushPke (.clearEph ?_)))
        all_goals
          split
          · exact .ite h.setPke.keyBus h.setPke
          · exact h.setPke

theorem Settles.pkeNext {r : State × PkeWait × Nat} (h : Settles b s) (he : s.pkeNext = some r) : Settles b r.1 := by
  unfold State.pkeNext at he
  dsimp only at he
  split at he
  · cases he
  · next hpick =>
    obtain ⟨x, -, rfl⟩ := Option.map_eq_some_iff.mp he
    exact h.pickClass hpick

theorem Settles.pkeDrain {n} (h : Settles b s) : Settles b (Machine.pkeDrain n s) := by
  induction n generalizing s with
  | zero => exact h
  | succ n ih =>
    unfold Machine.pkeDrain
    split
    · next hnext => exact ih (h.pkeNext hnext).pkeBegin
    · exact h

theorem Settles.drainPke (h : Settles b s) : Settles b (State.drainPke s) := by
  unfold State.drainPke
  dsimp only
  split
  · exact h
  · exact .pkeDrain (h.foldl (fun _ _ h5 => h5.pkeEnd))

theorem Settles.settle (h : Settles b s) : Settles b (State.settle s) :=
  h.settleRows.drainPke

theorem Settles.undrain {a} (h : Settles b s) : Settles b (State.undrain s a) := by
  unfold State.undrain
  dsimp only
  split
  · exact .rowEvent (.ite h.spareBack h.setUState.spareNext)
  · exact h.setUState.settle

end Sys2Proof.Proofs
end


section
/-! SUPPORT. Ports: Bus Master Enable, the watermark base, links, resets and power states (R25, R35, R65, R66, R447, R448). -/

namespace Sys2Proof.Proofs

open Sys2Proof Sys2Proof.Machine Sys2Proof.Safety

variable {s t u b : State}

/-! Changes of every ring pair of a port. -/

/-- Each ring pair of a list that `P` holds of changes, and no other. -/
theorem foldl_mapRing {P : Machine.Ring → Prop} [DecidablePred P] {g : Machine.Ring → Machine.Ring} (hg : ∀ r, ¬ P (g r)) (l : List Nat) (s : State) (h : RingsCanonical s) :
    OnlyRings s (l.foldl (fun s n => if P (s.ring n) then s.setRing n (g (s.ring n)) else s) s) ∧
      ∀ m, (l.foldl (fun s n => if P (s.ring n) then s.setRing n (g (s.ring n)) else s) s).ring m = if m ∈ l ∧ P (s.ring m) then g (s.ring m) else s.ring m := by
  induction l generalizing s with
  | nil => exact ⟨rfl, fun m => by simp⟩
  | cons n l ih =>
    rw [List.foldl_cons]
    by_cases hP : P (s.ring n)
    · rw [if_pos hP]
      obtain ⟨honly, hring⟩ := ih _ (Laws.setRing_canonical s n (g (s.ring n)) h)
      refine ⟨honly, fun m => ?_⟩
      rw [hring m, setRing_ring h]
      by_cases hmn : m = n
      · subst hmn
        simp [hP, hg]
      · simp [hmn]
    · rw [if_neg hP]
      obtain ⟨honly, hring⟩ := ih s h
      refine ⟨honly, fun m => ?_⟩
      rw [hring m]
      by_cases hmn : m = n
      · subst hmn
        simp [hP]
      · simp [hmn]

/-- The ACTIVE ring pairs of a port change; every other is as before. -/
theorem foldl_active_rings (p : Fin 2) {g : Machine.Ring → Machine.Ring} (hg : ∀ r, (g r).state ≠ .active) (s v : State) (hv : v.host.rings = s.host.rings) (h : RingsCanonical s) :
    OnlyRings v (s.ringNos.foldl (fun s n => if (s.ring n).port.val = p.val ∧ (s.ring n).state = .active then s.setRing n (g (s.ring n)) else s) v) ∧
      ∀ m, (s.ringNos.foldl (fun s n => if (s.ring n).port.val = p.val ∧ (s.ring n).state = .active then s.setRing n (g (s.ring n)) else s) v).ring m =
        if (s.ring m).port = p ∧ (s.ring m).state = .active then g (s.ring m) else s.ring m := by
  obtain ⟨honly, hring⟩ := foldl_mapRing (P := fun r => r.port.val = p.val ∧ r.state = .active) (g := g) (fun r hr => hg r hr.2) s.ringNos v (by rw [RingsCanonical, hv]; exact h)
  have hsame : ∀ m, v.ring m = s.ring m := fun m => by rw [State.ring, hv, State.ring]
  refine ⟨honly, fun m => (hring m).trans ?_⟩
  rw [hsame]
  refine if_congr ?_ rfl rfl
  rw [Fin.ext_iff]
  refine ⟨fun hm => hm.2, fun hm => ⟨(mem_ringNos_or s m).resolve_right fun hreset => ?_, hm⟩⟩
  rw [hreset] at hm
  exact absurd hm.2 (by decide)

/-- With Bus Master Enable cleared the ACTIVE ring pairs of the port wait (R35). -/
theorem busMasterEnableCleared_waits (h : RingsCanonical s) (p : Fin 2) : ∃ u, exec (.busMasterEnableCleared p) s = .next u ∧ OnlyHost s u ∧ u.port p.val = { s.port p.val with bme := false } ∧
    u.host.tickets = s.host.tickets ∧ u.host.out = s.host.out ∧ ∀ n, u.ring n = if (s.ring n).port = p ∧ (s.ring n).state = .active then { s.ring n with state := .waiting } else s.ring n := by
  obtain ⟨honly, hring⟩ := foldl_active_rings p (g := fun r => { r with state := .waiting }) (fun r => by simp) s (s.setPort p.val { s.port p.val with bme := false }) (by simp) h
  refine ⟨_, rfl, ?_, ?_, ?_, ?_, hring⟩
  · rw [show s.bmeOff p.val = _ from honly, OnlyHost]
    unfold State.setPort
    split <;> rfl
  · rw [show s.bmeOff p.val = _ from honly]
    exact Laws.setPort_port s p.val _
  · rw [show s.bmeOff p.val = _ from honly]
    exact Laws.setPort_host_tickets s p.val _
  · rw [show s.bmeOff p.val = _ from honly]
    exact Laws.setPort_host_out s p.val _

/-! A port that may write again. -/

theorem postHeld_of_none {n : Nat} (h : RingsCanonical s) (hheld : (s.ring n).held = []) : s.postHeld n = s := by
  unfold State.postHeld
  simp only [hheld, List.foldl_nil]
  rw [← hheld]
  exact setRing_self h n

theorem flushMarked_of_none (h : s.host.wmtMarked = []) : s.flushMarked = s := by simp [State.flushMarked, h]

theorem releaseMsgs_of_none (hrings : ∀ n, (s.ring n).heldMsg = false) (hintr : s.dev.heldMsg = 0) : s.releaseMsgs = s := by
  unfold State.releaseMsgs
  rw [foldl_fixed fun n _ => by simp [hrings n]]
  exact releaseIntr_of_none_held hintr _

/-- Nothing held for the port: nothing goes out. -/
theorem portReturns_of_none (h : RingsCanonical s) (hmarked : s.host.wmtMarked = []) (hintr : s.dev.heldMsg = 0) (hrings : ∀ n, (s.ring n).heldMsg = false ∧ (s.ring n).held = []) (p : Nat) :
    s.portReturns p = s := by
  have hheld : s.ringNos.foldl (fun s n => if (s.ring n).port.val = p then s.postHeld n else s) s = s := foldl_fixed fun n _ => by
    rw [postHeld_of_none h (hrings n).2, ite_self]
  unfold State.portReturns
  rw [hheld, ite_self]
  dsimp only
  rw [flushMarked_of_none hmarked]
  exact releaseMsgs_of_none (fun n => (hrings n).1) hintr

theorem setPort_ring (s : State) (p : Nat) (v : Port) (n : Nat) : (s.setPort p v).ring n = s.ring n := by
  unfold State.setPort
  split <;> rfl

theorem portReturns_setPort_of_none (h : RingsCanonical s) (hmarked : s.host.wmtMarked = []) (hintr : s.dev.heldMsg = 0) (hrings : ∀ n, (s.ring n).heldMsg = false ∧ (s.ring n).held = []) (p : Nat) (v : Port) :
    (s.setPort p v).portReturns p = s.setPort p v :=
  portReturns_of_none (by simpa [RingsCanonical] using h) (by simpa using hmarked) (by simpa using hintr) (fun n => by rw [setPort_ring]; exact hrings n) p

/-! The watermark base. -/

theorem writeWmtBase_takes (p : Fin 2) (v : BitVec 64) (hused : s.portUsed p.val = true) (hrings : ∀ n, (s.ring n).port = p → (s.ring n).state = .disabled ∨ (s.ring n).state = .waiting)
    (hmarked : s.host.wmtMarked = []) : exec (.wmtBaseWrite p v) s = .next (s.setPort p.val { s.port p.val with wmtBase := v &&& 0xFFFFFFFFFFFFF000 }) := by
  have hall : s.ringNos.all (fun n => (s.ring n).port.val != p.val || (s.ring n).state == .disabled || (s.ring n).state == .waiting) = true := List.all_eq_true.mpr fun n _ => by
    by_cases hp : (s.ring n).port = p
    · rcases hrings n hp with hd | hd <;> simp [hd]
    · simp [Fin.val_ne_of_ne hp]
  have hgo : exec (.wmtBaseWrite p v) s = .next (s.setPort p.val { s.port p.val with wmtBase := v &&& ~~~(0xFFF : BitVec 64) }).flushMarked :=
    congrArg Host.Outcome.next (if_pos (by rw [hused]; exact hall))
  rw [hgo, flushMarked_of_none (by simpa using hmarked)]
  rfl

theorem writeWmtBase_refused (p : Fin 2) (v : BitVec 64) {n : Nat} (hn : n ∈ s.ringNos) (hport : (s.ring n).port = p) (hd : (s.ring n).state ≠ .disabled) (hw : (s.ring n).state ≠ .waiting) :
    exec (.wmtBaseWrite p v) s = .next s := by
  refine congrArg Host.Outcome.next (if_neg fun hgo => ?_)
  have := List.all_eq_true.mp (Bool.and_eq_true_iff.mp hgo).2 n hn
  simp [hport, hd, hw] at this

/-! Links. -/

theorem linkDown_errors (h : RingsCanonical s) (p : Fin 2) (hl0 : (s.port p.val).link.l0 = true) : ∃ u, exec (.linkDown p) s = .next u ∧ (u.port p.val).link.l0 = false ∧
    (u.port p.val).link.downSince = s.now ∧ u.dev.events.getLsbD 6 = true ∧
    (∀ n, u.ring n = if (s.ring n).port = p ∧ (s.ring n).state = .active then { s.ring n with state := .error, err := .portDown } else s.ring n) ∧ u.host.tickets = s.host.tickets ∧ u.tabs = s.tabs := by
  obtain ⟨q, hq⟩ : ∃ q, q = { s.port p.val with link := { (s.port p.val).link with l0 := false, downSince := s.now } } := ⟨_, rfl⟩
  obtain ⟨honly, hring⟩ := foldl_active_rings p (g := fun r => { r with state := .error, err := .portDown }) (fun r => by simp) s (s.setPort p.val q) (by simp) h
  obtain ⟨v, hv⟩ : ∃ v, v = s.ringNos.foldl (fun s n => if (s.ring n).port.val = p.val ∧ (s.ring n).state = .active then s.setRing n { s.ring n with state := .error, err := .portDown } else s)
    (s.setPort p.val q) := ⟨_, rfl⟩
  rw [← hv] at honly hring
  have hgo : exec (.linkDown p) s = .next (v.devEvent 6) := congrArg Host.Outcome.next ((if_pos hl0).trans (by rw [hv, hq]; rfl))
  have hmoves := (modeMoves_refl v).devEvent (c := 6)
  have hport : v.port p.val = q := by rw [show v = _ from honly]; exact Laws.setPort_port s p.val q
  refine ⟨_, hgo, ?_, ?_, devEvent_sets v (by decide), fun n => (hmoves.ring n).trans (hring n), ?_, ?_⟩
  · rw [hmoves.port, hport, hq]
  · rw [hmoves.port, hport, hq]
  · rw [hmoves.tickets, show v = _ from honly]
    exact Laws.setPort_host_tickets s p.val q
  · rw [hmoves.tabs, show v = _ from honly]
    exact Laws.setPort_tabs s p.val q

/-! A port that returns. -/

/-- What posting and sending touch. -/
def Returns (s u : State) : Prop :=
  ∃ r t o m w c k d, u = { s with host := { s.host with rings := r, tickets := t, out := o, wmtMarked := m, wmtLast := w }, classes := c, flash := { s.flash with crates := k }, dev := d }

theorem returns_refl (s : State) : Returns s s := ⟨_, _, _, _, _, _, _, _, rfl⟩

theorem Returns.trans (h : Returns s t) (h' : Returns t u) : Returns s u := by
  obtain ⟨_, _, _, _, _, _, _, _, rfl⟩ := h
  obtain ⟨_, _, _, _, _, _, _, _, rfl⟩ := h'
  exact ⟨_, _, _, _, _, _, _, _, rfl⟩

theorem Posts.returns (h : Posts s u) : Returns s u := by
  obtain ⟨_, _, _, _, _, rfl⟩ := h
  exact ⟨_, _, _, _, _, _, _, _, rfl⟩

theorem Messages.returns (h : Messages s u) : Returns s u := by
  obtain ⟨_, _, _, rfl⟩ := h
  exact ⟨_, _, _, _, _, _, _, _, rfl⟩

theorem returns_writeWmt (s : State) (n : Nat) : Returns s (s.writeWmt n) := by
  unfold State.writeWmt
  split
  · exact ⟨_, _, _, _, _, _, _, _, rfl⟩
  · exact ⟨_, _, _, _, _, _, _, _, rfl⟩

theorem returns_flushMarked (s : State) : Returns s s.flushMarked :=
  List.foldlRecOn (motive := Returns s) s.host.wmtMarked _ (returns_refl s) fun t ht n _ => by
    split
    · exact ht.trans (returns_writeWmt t n)
    · exact ht

theorem Posts.foldl {α : Type} {f : State → α → State} (hf : ∀ t x, Posts b t → Posts b (f t x)) (l : List α) (h : Posts b s) : Posts b (l.foldl f s) :=
  List.foldlRecOn l f h fun t ht x _ => hf t x ht

theorem Posts.postHeld {n} (h : Posts b s) : Posts b (s.postHeld n) := .foldl (fun _ _ ht => ht.postReceipt) _ h.setRing

theorem returns_portReturns (s : State) (p : Nat) : Returns s (s.portReturns p) := by
  have hposts : Posts s (if (s.port p).bme && !(s.port p).d3hot then s.ringNos.foldl (fun s n => if (s.ring n).port.val = p then s.postHeld n else s) s else s) :=
    .ite (.foldl (fun _ _ ht => .ite ht.postHeld ht) _ (posts_refl s)) (posts_refl s)
  exact (hposts.returns.trans (returns_flushMarked _)).trans (messages_refl _).releaseMsgs.returns

theorem Returns.port (h : Returns s u) (p : Nat) : u.port p = s.port p := by obtain ⟨_, _, _, _, _, _, _, _, rfl⟩ := h; rfl

/-- A link of a port in use and out of reset comes up (R448). -/
theorem linkUp_comes_up (p : Fin 2) {speed width : Nat} (hs : speed < 8) (hw : width < 32) (hused : s.portUsed p.val = true) (hreset : (s.port p.val).inReset = false) :
    ∃ u, exec (.linkUp p speed width) s = .next u ∧ (u.port p.val).link.l0 = true ∧ (u.port p.val).link.speed = speed ∧ (u.port p.val).link.width = width := by
  obtain ⟨q, hq⟩ : ∃ q, q = { s.port p.val with link := { (s.port p.val).link with l0 := true, trained := true, speed := speed % 8, width := width % 32 } } := ⟨_, rfl⟩
  obtain ⟨v, hv⟩ : ∃ v, v = if !(s.port p.val).link.l0 && (s.port p.val).link.trained then (s.setPort p.val q).devEvent 6 else s.setPort p.val q := ⟨_, rfl⟩
  have hgo : exec (.linkUp p speed width) s = .next (v.portReturns p.val) := congrArg Host.Outcome.next ((if_pos (by simp [hused, hreset])).trans (by rw [hv, hq]))
  have hport : (v.portReturns p.val).port p.val = q := by
    have hmoves : ModeMoves (s.setPort p.val q) v := hv ▸ .ite (.devEvent (modeMoves_refl _)) (modeMoves_refl _)
    rw [(returns_portReturns v p.val).port, hmoves.port, Laws.setPort_port]
  refine ⟨_, hgo, by rw [hport, hq], ?_, ?_⟩
  · rw [hport, hq]
    exact Nat.mod_eq_of_lt hs
  · rw [hport, hq]
    exact Nat.mod_eq_of_lt hw

/-! A receipt that was held. -/

/-- What goes out later is added to what the host was written, and of a ring pair's entry the held message alone differs. -/
structure SendsOn (s u : State) : Prop where
  canonical : RingsCanonical u
  out : ∃ l, u.host.out = s.host.out ++ l
  ring : ∀ n, ∃ c, u.ring n = { s.ring n with heldMsg := c }

theorem sendsOn_refl (h : RingsCanonical s) : SendsOn s s := ⟨h, ⟨[], (List.append_nil _).symm⟩, fun n => ⟨(s.ring n).heldMsg, rfl⟩⟩

/-- A step that leaves the ring entries and writes more to the host. -/
theorem SendsOn.emits (h : SendsOn b s) (hr : t.host.rings = s.host.rings) (ho : ∃ l, t.host.out = s.host.out ++ l) : SendsOn b t := by
  obtain ⟨l, hl⟩ := h.out
  obtain ⟨k, hk⟩ := ho
  exact ⟨by rw [RingsCanonical, hr]; exact h.canonical, ⟨l ++ k, by rw [hk, hl, List.append_assoc]⟩, fun n => by rw [State.ring, hr]; exact h.ring n⟩

theorem SendsOn.holds (h : SendsOn b s) (n : Nat) (c : Bool) : SendsOn b (s.setRing n { s.ring n with heldMsg := c }) := by
  refine ⟨Laws.setRing_canonical s n _ h.canonical, h.out, fun m => ?_⟩
  rw [setRing_ring h.canonical]
  obtain ⟨d, hd⟩ := h.ring m
  split
  · next hmn =>
    subst hmn
    exact ⟨c, by rw [hd]⟩
  · exact ⟨d, hd⟩

theorem SendsOn.ite {c : Prop} [Decidable c] (h : SendsOn b s) (h' : SendsOn b t) : SendsOn b (if c then s else t) := by
  split
  · exact h
  · exact h'

theorem SendsOn.foldl {α : Type} {f : State → α → State} (hf : ∀ t x, SendsOn b t → SendsOn b (f t x)) (l : List α) (h : SendsOn b s) : SendsOn b (l.foldl f s) :=
  List.foldlRecOn l f h fun t ht x _ => hf t x ht

theorem SendsOn.emit {w} (h : SendsOn b s) : SendsOn b (s.emit w) := h.emits rfl ⟨[w], rfl⟩

theorem SendsOn.withDev {d} (h : SendsOn b s) : SendsOn b { s with dev := d } := h.emits rfl ⟨[], (List.append_nil _).symm⟩

theorem SendsOn.sendIntr {c} (h : SendsOn b s) : SendsOn b (s.sendIntr c) := .ite h (.ite h.withDev (.ite h.withDev h.withDev.emit))

theorem SendsOn.releaseIntr {f} (h : SendsOn b s) : SendsOn b (s.releaseIntr f) :=
  .foldl (fun _ _ ht => .ite (.ite ht.withDev (.ite ht.withDev.withDev ht.withDev.sendIntr)) ht) _ h

theorem SendsOn.releaseMsgs (h : SendsOn b s) : SendsOn b s.releaseMsgs :=
  .releaseIntr (.foldl (fun _ n ht => .ite (.ite (ht.holds n false).emit (ht.holds n false)) ht) _ h)

theorem SendsOn.writeWmt {n} (h : SendsOn b s) : SendsOn b (s.writeWmt n) := by
  unfold State.writeWmt
  split
  · exact h.emits rfl ⟨[], (List.append_nil _).symm⟩
  · exact h.emits rfl ⟨[_], rfl⟩

theorem SendsOn.flushMarked (h : SendsOn b s) : SendsOn b s.flushMarked :=
  .foldl (fun _ _ ht => by
    split
    · exact ht.writeWmt
    · exact ht) _ h

/-- The bytes of a receipt begin with its tag and its status (R57). -/
theorem receipt_bytes_tag (r : Receipt) (phase : Bool) (now : Nat) : fld (r.bytes phase now) 0 2 = r.tag % 2 ^ 16 ∧ fld (r.bytes phase now) 2 1 = r.status % 2 ^ 8 := by
  constructor
  · simp [Receipt.bytes, fld, slice, leBytes, leNat]
    omega
  · simp [Receipt.bytes, fld, slice, leBytes, leNat]

theorem writeReceipt_canonical (h : RingsCanonical s) (n : Nat) (rc : Receipt) : RingsCanonical (s.writeReceipt n rc) := by
  obtain ⟨p, tm, hm, rest, k, hsay⟩ := writeReceipt_says h n rc
  rw [hsay]
  exact Laws.set_wf _ _ _ _ (Laws.setRing_canonical s n _ h)

/-- The receipt that a ring pair holds is posted when its port may write again (R35). -/
theorem busMasterEnableSet_posts (h : RingsCanonical s) {p : Fin 2} {n : Nat} {rc : Receipt} (hport : (s.ring n).port = p) (hheld : (s.ring n).held = [rc])
    (hothers : ∀ m, m ≠ n → (s.ring m).held = []) (herr : (s.ring n).err ≠ .portDown) (hd3 : (s.port p.val).d3hot = false) (hl0 : (s.port p.val).link.l0 = true) :
    ∃ u r rest, exec (.busMasterEnableSet p) s = .next u ∧ u.host.out = s.host.out ++ .receipt p.val ((s.ring n).cqBase.toNat + 32 * (s.ring n).cqTail) r :: rest ∧ fld r 0 2 = rc.tag % 2 ^ 16 ∧
      fld r 2 1 = rc.status % 2 ^ 8 ∧ (u.ring n).held = [] ∧ (u.ring n).outstanding = (s.ring n).outstanding - 1 := by
  obtain ⟨q, hq⟩ : ∃ q, q = { s.port p.val with bme := true } := ⟨_, rfl⟩
  obtain ⟨v, hv⟩ : ∃ v, v = s.setPort p.val q := ⟨_, rfl⟩
  have hvcanon : RingsCanonical v := by rw [hv, RingsCanonical, Laws.setPort_host_rings]; exact h
  have hvring : ∀ m, v.ring m = s.ring m := fun m => by rw [hv, setPort_ring]
  have hvport : v.port p.val = q := by rw [hv, Laws.setPort_port]
  obtain ⟨w, hw⟩ : ∃ w, w = v.setRing n { s.ring n with held := [] } := ⟨_, rfl⟩
  have hwcanon : RingsCanonical w := hw ▸ Laws.setRing_canonical v n _ hvcanon
  have hwring : ∀ m, w.ring m = if m = n then { s.ring n with held := [] } else s.ring m := fun m => by rw [hw, setRing_ring hvcanon, hvring]
  have hwsame : w.ring n = { s.ring n with held := [] } := (hwring n).trans (if_pos rfl)
  have hwport : w.port p.val = q := by rw [hw]; exact hvport
  have hpost : v.postHeld n = w.writeReceipt n rc := by
    have hfold : v.postHeld n = w.postReceipt n rc := by
      unfold State.postHeld
      dsimp only
      rw [hvring, hheld, ← hw]
      rfl
    rw [hfold]
    refine postReceipt_of_up ?_ ?_ ?_ ?_ rc
    · rw [hwsame]; exact herr
    all_goals
      rw [hwsame]
      dsimp only
      rw [hport, hwport, hq]
    · exact hd3
    · exact hl0
  obtain ⟨⟨rest, hout⟩, ⟨_, _, _, hsame⟩, hother, -, -⟩ := writeReceipt_frame hwcanon n rc
  have hmem : n ∈ v.ringNos := (mem_ringNos_or v n).resolve_right fun hreset => by
    rw [← hvring, hreset] at hheld
    cases hheld
  have hfold : v.ringNos.foldl (fun s n => if (s.ring n).port.val = p.val then s.postHeld n else s) v = w.writeReceipt n rc := by
    have hstep : (if (v.ring n).port.val = p.val then v.postHeld n else v) = w.writeReceipt n rc := by rw [hvring, hport, if_pos rfl, hpost]
    refine (foldl_once (ringNos_nodup hvcanon) hmem (fun m _ hm => ?_) fun m _ hm => ?_).trans hstep
    · rw [postHeld_of_none hvcanon (by rw [hvring]; exact hothers m hm), ite_self]
    · rw [hstep, postHeld_of_none (writeReceipt_canonical hwcanon n rc) (by rw [hother m hm, hwring, if_neg hm]; exact hothers m hm), ite_self]
  have hgo : exec (.busMasterEnableSet p) s = .next (w.writeReceipt n rc).flushMarked.releaseMsgs := by
    refine congrArg Host.Outcome.next ?_
    rw [← hq, ← hv]
    unfold State.portReturns
    rw [hvport, hfold, if_pos (by rw [hq]; simp [hd3])]
  have hsends : SendsOn (w.writeReceipt n rc) (w.writeReceipt n rc).flushMarked.releaseMsgs := (sendsOn_refl (writeReceipt_canonical hwcanon n rc)).flushMarked.releaseMsgs
  obtain ⟨more, hmore⟩ := hsends.out
  obtain ⟨c, hring⟩ := hsends.ring n
  refine ⟨_, (w.stamped rc).bytes (s.ring n).cqPhase w.openTickLow, rest ++ more, hgo, ?_, ?_, ?_, ?_, ?_⟩
  · rw [hmore, hout, State.receiptWrite, hwsame]
    simp [hport, show w.host.out = s.host.out by rw [hw, hv]; exact Laws.setPort_host_out s p.val q]
  · rw [(receipt_bytes_tag _ _ _).1]; rfl
  · rw [(receipt_bytes_tag _ _ _).2]; rfl
  · rw [hring, hsame, hwsame]; rfl
  · rw [hring, hsame, hwsame]; rfl

/-! Resets of a function (R65). -/

/-- The ring table and both ports are as before. -/
def TableKept (s u : State) : Prop := u.host.rings = s.host.rings ∧ u.host.port0 = s.host.port0 ∧ u.host.port1 = s.host.port1

theorem tableKept_refl (s : State) : TableKept s s := ⟨rfl, rfl, rfl⟩

theorem TableKept.trans (h : TableKept s t) (h' : TableKept t u) : TableKept s u := by
  obtain ⟨hr, hp, hq⟩ := h
  obtain ⟨hr', hp', hq'⟩ := h'
  exact ⟨hr'.trans hr, hp'.trans hp, hq'.trans hq⟩

theorem TableKept.ring (h : TableKept s u) (n : Nat) : u.ring n = s.ring n := by
  obtain ⟨hr, -⟩ := h
  rw [State.ring, hr, State.ring]

theorem TableKept.port (h : TableKept s u) (p : Nat) : u.port p = s.port p := by
  obtain ⟨-, hp, hq⟩ := h
  rw [State.port, hp, hq, State.port]

theorem TableKept.foldl {α : Type} {f : State → α → State} (hf : ∀ t x, TableKept t (f t x)) (l : List α) (s : State) : TableKept s (l.foldl f s) :=
  List.foldlRecOn (motive := TableKept s) l f (tableKept_refl s) fun t ht x _ => ht.trans (hf t x)

theorem Settles.table (h : Settles s u) : TableKept s u := ⟨h.rings, h.port0, h.port1⟩

theorem returnTokens_host (s : State) (x : Tk) : (s.returnTokens x).host = s.host := by
  unfold State.returnTokens State.unreserve
  dsimp only
  split_ifs <;> rfl

theorem undoTab_host (s : State) (x : Tk) : (s.undoTab x).host = s.host := by
  unfold State.undoTab
  dsimp only
  split
  · rfl
  · split_ifs
    · rfl
    · split
      · split_ifs <;> rfl
      · rfl

theorem tableKept_of_host (h : u.host = s.host) : TableKept s u := by
  rw [TableKept, h]
  exact ⟨rfl, rfl, rfl⟩

theorem dropPhase1_host (s : State) (f : Tk → Bool) : (s.dropPhase1 f).host = s.host := by
  unfold State.dropPhase1
  split
  · split_ifs <;> rfl
  · rfl

/-- Withdrawing tickets without their receipts leaves the ring table and the ports. -/
theorem withdrawAll_table (s : State) (f : Tk → Bool) (status : Nat) : TableKept s (s.withdrawAll f status false) := by
  have hleave : ∀ (t : State) x, TableKept t (((t.noteLeave x).returnTokens x).undoTab x) := fun t x =>
    (settles_refl t).noteLeave.table.trans (tableKept_of_host (by rw [undoTab_host, returnTokens_host]))
  have hgone := TableKept.foldl hleave
  unfold State.withdrawAll State.withdraw
  exact ((settles_refl s).abortWork.table.trans (hgone _ _)).trans ⟨rfl, rfl, rfl⟩

theorem quitTests_table (s : State) : TableKept s s.quitTests := by
  have hundrain : ∀ l : List (Nat × UnitSt), TableKept s (l.foldl (fun s p => s.undrain p.1) s) := fun l => .foldl (fun t _ => (settles_refl t).undrain.table) l s
  exact (hundrain _).trans (.foldl (f := fun s n => s.setSrc n { s.src n with masked := false }) (fun _ _ => ⟨rfl, rfl, rfl⟩) _ _)

/-- The ring-table entries of a list at reset, their tabs released: the ports and the tickets as before. -/
theorem foldl_resetRings (l : List Nat) (s : State) (h : RingsCanonical s) :
    (l.foldl (fun s n => (s.setRing n (Ring.reset n)).releaseTabs n) s).host = { s.host with rings := (l.foldl (fun s n => (s.setRing n (Ring.reset n)).releaseTabs n) s).host.rings } ∧
      ∀ m, (l.foldl (fun s n => (s.setRing n (Ring.reset n)).releaseTabs n) s).ring m = if m ∈ l then Ring.reset m else s.ring m := by
  induction l generalizing s with
  | nil => exact ⟨rfl, fun m => by simp⟩
  | cons n l ih =>
    obtain ⟨hhost, hring⟩ := ih ((s.setRing n (Ring.reset n)).releaseTabs n) (Laws.setRing_canonical s n _ h)
    refine ⟨hhost.trans rfl, fun m => ?_⟩
    rw [List.foldl_cons, hring m]
    have hset : ((s.setRing n (Ring.reset n)).releaseTabs n).ring m = if m = n then Ring.reset n else s.ring m := setRing_ring h n m _
    by_cases hmn : m = n
    · subst hmn
      simp [hset]
    · simp [hset, hmn]

/-- The ring pairs of a port. -/
def State.ringsOf (s : State) (p : Nat) : List Nat := s.ringNos.filter (fun n => (s.ring n).port.val == p)

theorem mem_ringsOf {p : Fin 2} {n : Nat} : n ∈ State.ringsOf s p.val ↔ n ∈ s.ringNos ∧ (s.ring n).port = p := by
  simp [State.ringsOf, Fin.ext_iff]

/-- The tickets of a port's ring pairs withdrawn without their receipts, and what they held given back. -/
def State.withdrawPort (s : State) (p : Nat) : State :=
  let mine := fun t : Tk => (State.ringsOf s p).contains t.ring
  let s0 := ((s.dropPhase1 mine).withdrawAll (fun t => mine t && !s.pastIntent t.id) 0 false).quitTests
  (s0.host.tickets.filter mine).foldl State.returnTokens s0

/-- No ticket of the port's ring pairs is left. -/
def State.dropTickets (s1 s : State) (p : Nat) : State :=
  let mine := fun t : Tk => (State.ringsOf s p).contains t.ring
  { s1 with host := { s1.host with tickets := s1.host.tickets.filter (fun t => !mine t) }
            guard := { s1.guard with transition := s1.guard.transition.map (fun (t : Transition) => if (t.ticket.bind s.tk?).any mine then { t with ticket := none } else t) } }

/-- A function's own registers at reset (R65, log 8). -/
def Port.afterReset (q : Port) : Port := { q with bme := false, msixEn := false, d3hot := false, wmtBase := 0, msix := [], bar0 := 0, bar2 := 0, bar4 := 0, aerLogged := 0 }

/-- The port's ring-table entries at reset, and its tabs released. -/
def State.resetRings (s : State) (nos : List Nat) : State := nos.foldl (fun s n => (s.setRing n (Ring.reset n)).releaseTabs n) s

/-- A function's reset: its tickets go, its ring-table entries return to reset, then its own registers (R65). -/
theorem functionReset_eq (s : State) (p : Nat) : s.functionReset p =
    ((State.resetRings (State.dropTickets (State.withdrawPort s p) s p) (State.ringsOf s p)).setPort p
      (Port.afterReset ((State.resetRings (State.dropTickets (State.withdrawPort s p) s p) (State.ringsOf s p)).port p))).checkRest := by
  dsimp only [State.functionReset, State.resetRings, State.dropTickets, State.withdrawPort, Port.afterReset, State.ringsOf]
  congr 3

theorem foldl_returnTokens_table (l : List Tk) (s : State) : TableKept s (l.foldl State.returnTokens s) := .foldl (fun t x => tableKept_of_host (returnTokens_host t x)) l s

theorem quitTickets_table (s : State) (mine keep : Tk → Bool) : TableKept s ((s.dropPhase1 mine).withdrawAll keep 0 false).quitTests :=
  ((tableKept_of_host (dropPhase1_host s mine)).trans (withdrawAll_table _ keep 0)).trans (quitTests_table _)

theorem withdrawPort_table (s : State) (p : Nat) : TableKept s (State.withdrawPort s p) := by
  unfold State.withdrawPort
  exact (quitTickets_table s _ _).trans (foldl_returnTokens_table _ _)

theorem dropTickets_table (s1 s : State) (p : Nat) : TableKept s1 (State.dropTickets s1 s p) := ⟨rfl, rfl, rfl⟩

theorem dropTickets_gone (s1 s : State) (p : Nat) : ∀ t ∈ (State.dropTickets s1 s p).host.tickets, t.ring ∉ State.ringsOf s p := by
  simp [State.dropTickets]

/-- What a reset of a port's function leaves of its registers, its ring-table entries and its tickets. -/
def FunctionReset (s u : State) (p : Fin 2) : Prop :=
  (u.port p.val).bme = false ∧ (u.port p.val).wmtBase = 0 ∧ (u.port p.val).msixEn = false ∧ (u.port p.val).d3hot = false ∧
    (∀ n, (s.ring n).port = p → u.ring n = Ring.reset n) ∧ (∀ n, (s.ring n).port ≠ p → u.ring n = s.ring n) ∧ ∀ t ∈ u.host.tickets, (s.ring t.ring).port = p → t.ring ∉ s.ringNos

/-- A ring pair without a number listed is as it is at reset. -/
theorem ring_of_not_listed {n : Nat} (h : n ∉ s.ringNos) : s.ring n = Ring.reset n := by
  have hn : 2 ≤ n := by
    by_contra hlt
    obtain rfl | rfl : n = 0 ∨ n = 1 := by omega
    · exact h (by simp [State.ringNos])
    · exact h (by simp [State.ringNos])
  rw [(mem_ringNos_or s n).resolve_left h]
  exact (reset_ring_of_two_le hn).symm

theorem functionReset_says (h : RingsCanonical s) (p : Fin 2) : FunctionReset s (s.functionReset p.val) p := by
  have hgo := functionReset_eq s p.val
  have htable := (withdrawPort_table s p.val).trans (dropTickets_table (State.withdrawPort s p.val) s p.val)
  have hgone := dropTickets_gone (State.withdrawPort s p.val) s p.val
  generalize State.dropTickets (State.withdrawPort s p.val) s p.val = s2 at hgo htable hgone
  obtain ⟨hhost, hrings⟩ := foldl_resetRings (State.ringsOf s p.val) s2 (by rw [RingsCanonical, htable.1]; exact h)
  obtain ⟨s3, hs3⟩ : ∃ s3, s3 = State.resetRings s2 (State.ringsOf s p.val) := ⟨_, rfl⟩
  rw [← hs3] at hgo
  rw [← State.resetRings, ← hs3] at hhost
  have hrings3 : ∀ m, s3.ring m = if m ∈ State.ringsOf s p.val then Ring.reset m else s2.ring m := by rw [hs3]; exact hrings
  have hmoves := (modeMoves_refl (s3.setPort p.val (Port.afterReset (s3.port p.val)))).checkRest
  rw [← hgo] at hmoves
  have hport : (s.functionReset p.val).port p.val = Port.afterReset (s3.port p.val) := (hmoves.port p.val).trans (Laws.setPort_port s3 p.val _)
  have hring : ∀ n, (s.functionReset p.val).ring n = if n ∈ State.ringsOf s p.val then Ring.reset n else s.ring n := fun n => by
    rw [hmoves.ring, setPort_ring, hrings3, htable.ring]
  refine ⟨by rw [hport]; rfl, by rw [hport]; rfl, by rw [hport]; rfl, by rw [hport]; rfl, fun n hn => ?_, fun n hn => ?_, fun t ht hp hin => ?_⟩
  · rw [hring]
    split
    · rfl
    · next hnot => exact ring_of_not_listed fun hin => hnot (mem_ringsOf.mpr ⟨hin, hn⟩)
  · rw [hring, if_neg fun hin => hn (mem_ringsOf.mp hin).2]
  · rw [hmoves.tickets, Laws.setPort_host_tickets, hhost] at ht
    exact hgone t ht (mem_ringsOf.mpr ⟨hin, hp⟩)

/-- A port's reset takes its link out of L0 besides. -/
theorem portReset_says (h : RingsCanonical s) (p : Fin 2) : FunctionReset s (s.portReset p.val) p := by
  obtain ⟨hb, hw, hm, hd, hmine, hother, htickets⟩ := functionReset_says h p
  unfold State.portReset
  dsimp only
  split
  · generalize hq : ({ (s.functionReset p.val).port p.val with link := _ } : Port) = q
    generalize s.functionReset p.val = v at *
    have hmoves := (modeMoves_refl (v.setPort p.val q)).devEvent (c := 6)
    have hport : ((v.setPort p.val q).devEvent 6).port p.val = q := (hmoves.port p.val).trans (Laws.setPort_port v p.val q)
    have hring : ∀ n, ((v.setPort p.val q).devEvent 6).ring n = v.ring n := fun n => (hmoves.ring n).trans (setPort_ring v p.val q n)
    refine ⟨by rw [hport, ← hq]; exact hb, by rw [hport, ← hq]; exact hw, by rw [hport, ← hq]; exact hm, by rw [hport, ← hq]; exact hd, fun n hn => (hring n).trans (hmine n hn),
      fun n hn => (hring n).trans (hother n hn), ?_⟩
    rw [hmoves.tickets, Laws.setPort_host_tickets]
    exact htickets
  · exact functionReset_says h p

/-- Settles O21: each port command changes its port, then what follows of the port's ring pairs, tickets and held writes. -/
theorem portControl : Obligations.PortControl := by
  unfold Obligations.PortControl
  refine ⟨⟨fun s p h => ⟨busMasterEnableCleared_waits h p, fun hmarked hintr hrings => ⟨?_, ?_⟩, fun n rc hport hheld hothers herr hd3 hl0 => busMasterEnableSet_posts h hport hheld hothers herr hd3 hl0, rfl⟩,
    fun s p v hused => ⟨writeWmtBase_takes p v hused, fun n hn hport hd hw => writeWmtBase_refused p v hn hport hd hw⟩⟩,
    fun s p h => ⟨linkDown_errors h p, fun hl0 => congrArg Host.Outcome.next (if_neg (by simp [hl0])), fun speed width hs hw hused hreset => linkUp_comes_up p hs hw hused hreset, fun c hc => ?_, rfl⟩⟩
  · exact congrArg Host.Outcome.next (portReturns_setPort_of_none h hmarked hintr hrings p.val _)
  · exact congrArg Host.Outcome.next (portReturns_setPort_of_none h hmarked hintr hrings p.val _)
  · simp only [List.mem_cons, List.not_mem_nil, or_false] at hc
    rcases hc with rfl | rfl
    · exact ⟨_, rfl, functionReset_says h p⟩
    · exact ⟨_, rfl, portReset_says h p⟩

end Sys2Proof.Proofs
end


section
/-! SUPPORT. Reads of the registers and of the other BARs (R24 to R28, R37, R437, R438). -/

namespace Sys2Proof.Proofs

open Sys2Proof Sys2Proof.Machine Sys2Proof.Safety

variable {s : State} {p : Fin 2} {off : Nat}

theorem exec_latchedRead_bar0 (p : Fin 2) (off width : Nat) : exec (.latchedRead p 0 off width) s = .next (s.readReg off width) := rfl

theorem exec_latchedRead_word (hoff : off < 0x100000) (halign : off % 4 = 0) : exec (.latchedRead p 0 off 4) s = .next (s.read32 off) := by
  rw [exec_latchedRead_bar0, State.readReg, if_neg (by omega), if_pos ⟨rfl, halign⟩]

/-- TICK.NOW is a 64-bit register once the device is READY (R161). -/
theorem wideAt_tickNow (h : s.dev.ready = true) : s.wideAt 0x3010 = true := by
  simp [State.wideAt, State.regAt, h, State.tickReg, r64]

/-- A read of a 32-bit register takes nothing along. -/
theorem latchApplied_of_narrow (h : s.wideAt off = false) : s.latchApplied off = s := by
  refine if_neg fun ⟨hoff, hready⟩ => ?_
  rw [hoff, wideAt_tickNow hready] at h
  cases h

theorem latchApplied_of_ne (h : off ≠ 0x3010) : s.latchApplied off = s := if_neg fun hn => h hn.1

theorem latched_of_empty (h : s.dev.latchedHigh = []) : s.latched off = s.wordAt off := by simp [State.latched, h, SMap.has]

theorem unlatch_of_empty (h : s.dev.latchedHigh = []) : s.unlatch off = s := by
  have hdel : s.dev.latchedHigh.del off = s.dev.latchedHigh := by rw [h]; rfl
  rw [State.unlatch, hdel]

theorem read32_narrow (hwide : s.wideAt off = false) (h : s.dev.latchedHigh = []) : s.read32 off = s.readOut (s.wordAt off) := by
  unfold State.read32
  simp [latchApplied_of_narrow hwide, unlatch_of_empty h, latched_of_empty h, hwide]

theorem read32_wide (hwide : s.wideAt off = true) (h : s.dev.latchedHigh = []) (hne : off ≠ 0x3010) : s.read32 off = (s.latch (off + 4) (s.wordAt (off + 4))).readOut (s.wordAt off) := by
  unfold State.read32
  simp [latchApplied_of_ne hne, unlatch_of_empty h, latched_of_empty h, hwide, h, SMap.has]

theorem read32_latched {v : Word32} (hwide : s.wideAt off = false) (h : s.dev.latchedHigh = [(off, v)]) : s.read32 off = (s.unlatch off).readOut v.toNat := by
  have hlatched : s.latched off = v.toNat := by simp [State.latched, h, SMap.has, SMap.get]
  unfold State.read32
  simp [latchApplied_of_narrow hwide, hlatched, hwide]

/-- An access of a wrong width or alignment, or beyond the map, reads 0. -/
theorem readReg_of_bad {w : Nat} (h : 0x100000 ≤ off ∨ (w ≠ 4 ∧ w ≠ 8) ∨ off % 4 ≠ 0 ∨ (w = 8 ∧ s.wideAt off = false)) : s.readReg off w = s.readOut 0 := by
  unfold State.readReg
  split
  · rfl
  · next hin =>
    rw [if_neg, if_neg]
    · rintro ⟨hw, halign, hwide⟩
      rcases h with h | ⟨-, h⟩ | h | ⟨-, h⟩
      · exact hin h
      · exact h hw
      · omega
      · simp [h] at hwide
    · rintro ⟨hw, halign⟩
      rcases h with h | ⟨h, -⟩ | h | ⟨h, -⟩ <;> omega

/-- The data word of a vector stands 8 bytes into its entry of the MSI-X table (R25). -/
theorem msixWord_data {v : Nat} (p : Nat) (hv : v < 4096) : s.msixWord p (16 * v + 8) = ((s.port p).msix.get noMsix v).data.toNat := by
  have hdiv : (16 * v + 8) / 16 = v := by omega
  have hmod : (16 * v + 8) % 16 = 8 := by omega
  unfold State.msixWord
  rw [hdiv, hmod, if_pos (by omega)]
  rfl

theorem ofNat_toNat_zeroExtend (v : Word32) : BitVec.ofNat 64 v.toNat = v.zeroExtend 64 := by
  apply BitVec.eq_of_toNat_eq
  simp

/-- Settles O54: what the read of each space leaves as its answer. -/
theorem registersRead : Obligations.RegistersRead := by
  unfold Obligations.RegistersRead
  intro s p off hoff halign
  refine ⟨fun hwide h => ?_, fun hwide h hne => ?_, fun v hwide h => ?_, fun o w h => congrArg Host.Outcome.next (readReg_of_bad h), fun o w => congrArg Host.Outcome.next ?_, fun v hv hused => ?_,
    fun hused => ?_⟩
  · rw [exec_latchedRead_word hoff halign, read32_narrow hwide h]
    rfl
  · rw [exec_latchedRead_word hoff halign, read32_wide hwide h hne]
    simp [State.latch, State.readOut, h, SMap.ins]
  · rw [exec_latchedRead_word hoff halign, read32_latched hwide h]
    simp [State.unlatch, State.readOut, h, SMap.del]
  · unfold State.readBar
    simp [cfgSpace, State.readOut]
  · have hgo : exec (.latchedRead p 4 (16 * v + 8) 4) s = .next (s.readBar p.val 4 (16 * v + 8) 4) := rfl
    rw [hgo, State.readBar, if_neg (by decide), if_neg (by simp [hused]), if_pos ⟨rfl, by simp only [barSize]; omega, rfl, by omega⟩, msixWord_data p.val hv, State.readOut, ofNat_toNat_zeroExtend]
  · have hgo : exec (.latchedRead p cfgSpace 8 4) s = .next (s.readBar p.val cfgSpace 8 4) := rfl
    rw [hgo, State.readBar, if_neg (by decide), if_neg (by simp [hused]), if_neg (by simp [cfgSpace]), if_neg (by simp [cfgSpace]), if_pos ⟨rfl, rfl, by decide⟩]
    rfl

end Sys2Proof.Proofs
end


section
/-! SUPPORT. The clears and the INTR block (R91, R435, R449 to R451). -/

namespace Sys2Proof.Proofs

open Sys2Proof Sys2Proof.Machine Sys2Proof.Safety

variable {s : State}

section
variable (hon : s.mainOn = true) (hready : s.dev.ready = true)
include hon hready

/-- A 32-bit write of the INTR block (R439). -/
theorem write32_intr {o v : Nat} (ho : o < 4096) (hoff : NarrowAt (0x1000 + o)) (hv : v < 2 ^ 32) : s.write32 (0x1000 + o) v = s.writeIntr o v := by
  have hb : (0x1000 + o) / 4096 = 1 := by omega
  have hm : (0x1000 + o) % 4096 = o := by omega
  rw [write32_narrow hoff (accepts_of_ready hon hready _) hv]
  simp [State.writeNarrow, hb, hm]

theorem exec_latClear : exec .latClear s = .next { s with classes := { s.classes with tickMax := 0, receiptMax := 0 } } := by
  refine congrArg Host.Outcome.next ?_
  rw [write32_narrow (by decide) (accepts_of_ready hon hready _) (by decide)]
  exact writeNarrow_latClear_of_odd s rfl

theorem exec_maxClear : exec .maxClear s = .next { s with fault := { s.fault with maxInterrupt := 0 } } := by
  refine congrArg Host.Outcome.next ?_
  rw [write32_narrow (by decide) (accepts_of_ready hon hready _) (by decide)]
  rfl

theorem exec_intrEnableWrite (v : BitVec 32) : exec (.intrEnableWrite v) s = .next (s.writeEnables v.toNat) :=
  congrArg Host.Outcome.next (write32_intr hon hready (o := 8) (by decide) (by decide) v.isLt)

theorem exec_intrVectorWrite (c : Fin 4) (v : BitVec 32) : exec (.intrVectorWrite c v) s = .next (s.writeVector c.val v.toNat) := by
  have hwrite := write32_intr hon hready (o := 0x10 + 4 * c.val) (v := v.toNat) (by omega) (by fin_cases c <;> decide) v.isLt
  refine congrArg Host.Outcome.next ((congrArg (fun o => s.write32 o v.toNat) (by omega)).trans (hwrite.trans ?_))
  have hdiv : (0x10 + 4 * c.val - 0x10) / 4 = c.val := by omega
  exact (if_pos (by omega)).trans (by rw [hdiv])

end

theorem ofNat_toNat_low (n : Nat) (v : BitVec 32) : BitVec.ofNat n v.toNat = v.extractLsb' 0 n := by
  apply BitVec.eq_of_toNat_eq
  simp

/-- INTR.ENABLE with a cause in it that is neither set nor newly enabled sends nothing (R450). -/
theorem writeEnables_of_none {v : BitVec 32} (h : ∀ c, c < 4 → v.getLsbD c = true → s.dev.enable.getLsbD c = true ∨ s.causeSet c = false) :
    s.writeEnables v.toNat = { s with dev := { s.dev with enable := v.extractLsb' 0 4 } } := by
  unfold State.writeEnables
  rw [ofNat_toNat_low]
  refine foldl_fixed fun c hc => if_neg fun hsend => ?_
  simp only [Bool.and_eq_true, Bool.not_eq_true'] at hsend
  obtain ⟨⟨hbit, hold⟩, hset⟩ := hsend
  have hc4 : c < 4 := by
    simp only [List.mem_cons, List.not_mem_nil, or_false] at hc
    omega
  rcases h c hc4 hbit with hen | hclear
  · rw [hen] at hold
    cases hold
  · exact Bool.false_ne_true (hclear.symm.trans hset)

/-- A cause whose message can go out now sends it (R450, R451). -/
theorem sendIntr_of_can {c : Nat} (hready : s.dev.ready = true) (hcan : s.canSignal (s.causeVec c).1 (s.causeVec c).2 = true) (hlast : s.dev.lastMsg.get zeroOf c ≠ s.now + 1) :
    s.sendIntr c = State.emit { s with dev := { s.dev with heldMsg := setBit s.dev.heldMsg c false, lastMsg := s.dev.lastMsg.set zeroOf c (s.now + 1) } } (.msix (s.causeVec c).1 (s.causeVec c).2 (.intr c)) := by
  unfold State.sendIntr
  simp [hready, hcan, hlast]

/-- Enabling one cause that is set sends its message (R450). -/
theorem writeEnables_sends (c : Fin 4) (hready : s.dev.ready = true) (hset : s.causeSet c.val = true) (hen : s.dev.enable = 0) (hcan : s.canSignal (s.causeVec c.val).1 (s.causeVec c.val).2 = true)
    (hlast : s.dev.lastMsg.get zeroOf c.val ≠ s.now + 1) : (s.writeEnables (2 ^ c.val)).dev.enable = BitVec.ofNat 4 (2 ^ c.val) ∧
      (s.writeEnables (2 ^ c.val)).host.out = s.host.out ++ [.msix (s.causeVec c.val).1 (s.causeVec c.val).2 (.intr c.val)] ∧ (s.writeEnables (2 ^ c.val)).dev.events = s.dev.events := by
  obtain ⟨v, hv⟩ : ∃ v : State, v = { s with dev := { s.dev with enable := BitVec.ofNat 4 (2 ^ c.val) } } := ⟨_, rfl⟩
  have hother : ∀ (t : State) m, m ≠ c.val → (if bit (2 ^ c.val) m && !s.dev.enable.getLsbD m && t.causeSet m then t.sendIntr m else t) = t := fun t m hm =>
    if_neg (by simp [bit, Ne.symm hm])
  have hone : s.writeEnables (2 ^ c.val) = v.sendIntr c.val := by
    unfold State.writeEnables
    rw [foldl_once (n := c.val) (by decide) (by fin_cases c <;> decide) (fun m _ hm => hother _ m hm) fun m _ hm => hother _ m hm, ← hv]
    refine if_pos ?_
    have hcause : v.causeSet c.val = s.causeSet c.val := by rw [hv]; rfl
    simp [bit, Nat.testBit_two_pow_self, hen, hcause, hset]
  have hsend : v.sendIntr c.val = State.emit { v with dev := { v.dev with heldMsg := setBit v.dev.heldMsg c.val false, lastMsg := v.dev.lastMsg.set zeroOf c.val (v.now + 1) } }
      (.msix (v.causeVec c.val).1 (v.causeVec c.val).2 (.intr c.val)) := sendIntr_of_can (by rw [hv]; exact hready) (by rw [hv]; exact hcan) (by rw [hv]; exact hlast)
  rw [hone, hsend, hv]
  exact ⟨rfl, rfl, rfl⟩

/-- A merged message goes out (R450, log 12). -/
theorem sendMerged_sends (c : Fin 4) (hready : s.dev.ready = true) (hmerged : s.dev.merged.getLsbD c.val = true) (hwf : s.dev.lastMsg.wf zeroOf = true)
    (hcan : s.canSignal (s.causeVec c.val).1 (s.causeVec c.val).2 = true) :
    ∃ u, exec (.mergedMessage c) s = .next u ∧ u.host.out = s.host.out ++ [.msix (s.causeVec c.val).1 (s.causeVec c.val).2 (.intr c.val)] ∧ u.dev.merged.getLsbD c.val = false := by
  obtain ⟨v, hv⟩ : ∃ v : State, v = { s with dev := { s.dev with merged := setBit s.dev.merged c.val false, lastMsg := s.dev.lastMsg.set zeroOf c.val 0 } } := ⟨_, rfl⟩
  have hlast : v.dev.lastMsg.get zeroOf c.val = 0 := by
    rw [hv]
    exact (get_set (m := s.dev.lastMsg) hwf c.val c.val 0).trans (if_pos rfl)
  have hgo : exec (.mergedMessage c) s = .next (v.sendIntr c.val) := congrArg Host.Outcome.next ((if_pos hmerged).trans (by rw [hv]))
  have hsend : v.sendIntr c.val = State.emit { v with dev := { v.dev with heldMsg := setBit v.dev.heldMsg c.val false, lastMsg := v.dev.lastMsg.set zeroOf c.val (v.now + 1) } }
      (.msix (v.causeVec c.val).1 (v.causeVec c.val).2 (.intr c.val)) := sendIntr_of_can (by rw [hv]; exact hready) (by rw [hv]; exact hcan) (by rw [hlast]; omega)
  refine ⟨_, hgo, ?_, ?_⟩
  · rw [hsend, hv]; rfl
  · rw [hsend, hv]
    exact (getLsbD_setBit _ _ _ _ c.isLt).trans (if_pos rfl)

/-- Settles O56: each write reaches its register, and the INTR block sends or holds by its enables. -/
theorem messagesAndClears : Obligations.MessagesAndClears := by
  unfold Obligations.MessagesAndClears
  intro s hon hready
  refine ⟨exec_latClear hon hready, exec_maxClear hon hready, fun v h => ?_, fun c hset hen hcan hlast => ?_, fun c v hheld => ?_, fun c => sendMerged_sends c hready, fun c hmerged => ?_, fun p v hevents => ?_⟩
  · rw [exec_intrEnableWrite hon hready, writeEnables_of_none h]
  · have hval : (BitVec.ofNat 32 (2 ^ c.val)).toNat = 2 ^ c.val := by fin_cases c <;> rfl
    have hgo := exec_intrEnableWrite hon hready (BitVec.ofNat 32 (2 ^ c.val))
    rw [hval] at hgo
    exact ⟨_, hgo, writeEnables_sends c hready hset hen hcan hlast⟩
  · rw [exec_intrVectorWrite hon hready, State.writeVector, releaseIntr_of_none_held (by exact hheld), ofNat_toNat_low]
    rfl
  · exact congrArg Host.Outcome.next (if_neg (by rw [hmerged]; exact Bool.false_ne_true))
  · rw [exec_registerWrite_narrow p (by decide) hon hready v.isLt]
    refine congrArg Host.Outcome.next ?_
    have hw1c : w1c s.dev.events v.toNat = s.dev.events &&& ~~~v := by simp [w1c]
    have hwrite : s.writeNarrow 0x1004 v.toNat = State.settleHeld { s with dev := { s.dev with events := w1c s.dev.events v.toNat } } 3 := rfl
    rw [hwrite, hw1c]
    exact if_pos (by simpa [State.causeSet] using hevents)

end Sys2Proof.Proofs
end


section
/-! SUPPORT. The checks of a fetched ticket, in their order (R48). -/

namespace Sys2Proof.Proofs

open Sys2Proof Sys2Proof.Machine Sys2Proof.Safety

variable {s : State} {ring : Nat} {t : Ticket}

/-- An opcode that is assigned: its fields, its class and its DATA are checked, then its tab, its mode and binding, and the want of a tab. -/
theorem check_of_class {c : Nat} (h : opClass t.opcode = some c) : s.check ring t =
    if !s.fieldsOk t then 0x10 else if c ≠ 4 ∧ c ≠ (s.ring ring).cls.val then 0x10 else if !t.dataCheck then 0x10 else if !s.tabOk t then 0x11
    else if !s.modeAllows t || !s.bindingAllows ring t then 0x13 else if !s.tabSpace t then 0x12 else 0 := by
  unfold State.check
  rw [h]

theorem check_of_no_class (h : opClass t.opcode = none) : s.check ring t = 0x10 := by
  unfold State.check
  rw [h]

/-- What the format checks find is BAD_TICKET, whichever of them finds it first. -/
theorem check_of_bad_format (h : s.fieldsOk t = false ∨ (∀ c, opClass t.opcode = some c → c ≠ 4 ∧ c ≠ (s.ring ring).cls.val) ∨ t.dataCheck = false) : s.check ring t = 0x10 := by
  cases hc : opClass t.opcode with
  | none => exact check_of_no_class hc
  | some c =>
    rw [check_of_class hc]
    rcases h with h | h | h
    · simp [h]
    · simp [h c hc]
    · simp [h]

theorem fieldsOk_of_reserved_flag (h : 4 ≤ t.flags) : s.fieldsOk t = false := by
  have : t.flags / 4 ≠ 0 := by omega
  simp [State.fieldsOk, this]

/-- A ticket whose format is in order is answered by its tab, its mode and binding, or the want of a tab. -/
theorem check_of_good_format {c : Nat} (hclass : opClass t.opcode = some c) (hc : c = 4 ∨ c = (s.ring ring).cls.val) (hfields : s.fieldsOk t = true) (hdata : t.dataCheck = true) :
    s.check ring t = if !s.tabOk t then 0x11 else if !s.modeAllows t || !s.bindingAllows ring t then 0x13 else if !s.tabSpace t then 0x12 else 0 := by
  rw [check_of_class hclass, if_neg (by simp [hfields]), if_neg (by omega), if_neg (by simp [hdata])]

/-- A FENCE with every other field 0 passes in every mode, except at a torn step (R48, R75). -/
theorem check_fence (hop : t.opcode = 0x1A) (hflags : t.flags = 0) (htab : t.tab = 0) (hsource : t.source = 0) (hdata : t.data = zeros 32) (hoper : t.oper = zeros 16) (htorn : s.dev.holdCause ≠ 2) :
    s.check ring t = 0 := by
  have hrest : t.restZero 48 = true := by simp [Ticket.restZero, hoper]; decide
  have hnone : t.noData = true := by
    rw [Ticket.noData, hdata, Ticket.basket, hflags]
    decide
  have hfields : s.fieldsOk t = true := by simp [State.fieldsOk, hop, hflags, hnone, Ticket.noTab, htab, hsource, hrest]
  have hmode : s.modeAllows t = true := by
    unfold State.modeAllows
    split_ifs <;> simp_all [Ticket.inLockdown, Ticket.outsideOwned]
  rw [check_of_good_format (c := 4) (by rw [hop]; rfl) (.inl rfl) hfields (by simp [Ticket.dataCheck, hop])]
  simp [State.tabOk, hop, hmode, State.bindingAllows, State.tabSpace]

/-- Settles O18: the format checks first, then the tab, the mode and binding, and the space. -/
theorem checksInOrder : Obligations.ChecksInOrder := by
  unfold Obligations.ChecksInOrder
  intro s ring t
  refine ⟨check_of_no_class, fun h => check_of_bad_format (.inl (fieldsOk_of_reserved_flag h)), fun c hc h4 hcls => check_of_bad_format (.inr (.inl fun d hd => ?_)),
    fun h => check_of_bad_format (.inr (.inr h)), fun c hclass hc hfields hdata => ?_, check_fence⟩
  · cases hc.symm.trans hd
    exact ⟨h4, hcls⟩
  · rw [check_of_good_format hclass hc hfields hdata]
    refine ⟨fun htab => by simp [htab], fun htab hno => ?_, fun htab hmode hbind => ?_⟩
    · rcases hno with hno | hno <;> simp [htab, hno]
    · cases hspace : s.tabSpace t <;> simp [htab, hmode, hbind]

end Sys2Proof.Proofs
end


section
/-! SUPPORT. Start-up of a device that is not owned (R377, R383, R407, R445). -/

namespace Sys2Proof.Proofs

open Sys2Proof Sys2Proof.Machine Sys2Proof.Safety

variable {s u : State} {a : StartAns}

/-! The steps of a device whose array and DDR4 stand as they are. -/

theorem otpUp_of_sound (hbad : a.counterBad = none) (hcons : s.guard.otp.consistent = true) (htorn : s.guard.otp.torn = none) (hcount : s.lifeCount < 20) :
    s.otpUp a = if s.lifeCount < 2 then (s.staged 2).withhold 1 s.lifeCount else (s.staged 2).stepsUp a := by
  have hcheck : s.counterCheck a.counterBad = s := by simp [State.counterCheck, hbad, hcons]
  have htorn' : (s.staged 2).guard.otp.torn = none := htorn
  have hscrap : (s.staged 2).scrapped = false := by
    have : (s.staged 2).lifeCount = s.lifeCount := rfl
    simp [State.scrapped, this, hcount]
  unfold State.otpUp
  rw [hcheck]
  simp only [htorn', hscrap]
  rfl

theorem startUp_of_sound (hready : s.dev.ready = false) (hwarn : s.power.warn = false) (hstage : 1 ≤ s.dev.stage) (hbad : a.counterBad = none) (hcons : s.guard.otp.consistent = true)
    (htorn : s.guard.otp.torn = none) (hcount : s.lifeCount < 20) : exec (.startUp a) s = .next (if s.lifeCount < 2 then (s.staged 2).withhold 1 s.lifeCount else (s.staged 2).stepsUp a) := by
  have hscrap : s.scrapped = false := by simp [State.scrapped, hcount]
  refine congrArg Host.Outcome.next ?_
  unfold State.startUp
  dsimp only
  rw [if_neg (by simp [hready, hscrap, hwarn]), if_neg (show ¬s.dev.stage = 0 by omega), hscrap, if_neg Bool.false_ne_true, otpUp_of_sound hbad hcons htorn hcount]

/-- Seeding the grinders draws randomness and changes the row engines. -/
theorem seedGrinders_says (s : State) : ∃ r d, s.seedGrinders = { s with crypto := { s.crypto with rows := r }, drawn := d } :=
  List.foldlRecOn (motive := fun t => ∃ r d, t = { s with crypto := { s.crypto with rows := r }, drawn := d }) (List.range 64) State.seedGrinder ⟨_, _, rfl⟩ fun t ht row _ => by
    obtain ⟨r, d, rfl⟩ := ht
    exact ⟨_, _, rfl⟩

/-- The device once its units have been seeded and tested, none of them failing. -/
def State.unitsTested (s : State) (a : StartAns) (r : SMap RowEng) (d : Nat) : State :=
  { s with crypto := { s.crypto with rows := r }, drawn := d, units := { s.units with fw := if a.firmware = 0 then a.fw else s.units.fw }, vault := { s.vault with entropyFails := 0 } }

theorem unitsUp_of_none_failed (hfailed : a.failed = []) (hentropy : s.vault.entropyFails = 0) : ∃ r d, s.unitsUp a = State.unitsTested s a r d := by
  obtain ⟨r, d, hseed⟩ := seedGrinders_says s
  refine ⟨r, d, ?_⟩
  have hok : s.entropyOk = true := by simp [State.entropyOk, hentropy]
  unfold State.unitsUp State.unitsTested
  rw [hfailed, hok, if_pos rfl, hseed, ← hentropy]
  split <;> rfl

/-- Steps 3 to 5 where the array and DDR4 stand as they are: what they find, and what follows them. -/
theorem stepsUp_of_working (hentropy : a.entropyOk = true) (hfailed : a.failed = []) (hflash : s.flash.desc = [] ∨ s.flash.buildState ≠ .none) (hddr : s.ddr.state = .ready) :
    ∃ r d n, s.stepsUp a = if ((State.unitsTested s a r d).holdFor a.firmware).1 ≠ 0
      then ((State.unitsTested s a r d).staged n).withhold ((State.unitsTested s a r d).holdFor a.firmware).1 ((State.unitsTested s a r d).holdFor a.firmware).2
      else (((State.unitsTested s a r d).staged n).withhold ((State.unitsTested s a r d).holdFor a.firmware).1 ((State.unitsTested s a r d).holdFor a.firmware).2).tornUp a := by
  obtain ⟨v, hv⟩ : ∃ v : State, v = { s with vault := { s.vault with entropyFails := 0 } } := ⟨_, rfl⟩
  obtain ⟨r, d, hunits⟩ := unitsUp_of_none_failed (s := v) hfailed (by rw [hv])
  have htested : State.unitsTested v a r d = State.unitsTested s a r d := by rw [hv]; rfl
  have hflashUp : v.flashUp a = v := if_pos (by rw [hv]; exact hflash)
  have hddrUp : v.ddrUp a.ddr = v := if_pos (by simp [hv, hddr])
  refine ⟨r, d, (State.unitsTested s a r d).stageOf a.firmware, ?_⟩
  unfold State.stepsUp
  rw [hentropy]
  dsimp only
  rw [if_pos rfl, if_pos rfl, ← hv, hflashUp, hddrUp, hunits, htested]

/-! READY. -/

/-- What READY and the steps before it leave. -/
structure StartKeeps (s u : State) : Prop where
  otp : u.guard.otp = s.guard.otp
  tickets : u.host.tickets = s.host.tickets
  running : u.ledger.running = s.ledger.running
  fw : u.units.fw = s.units.fw

theorem StartKeeps.trans {t : State} (h : StartKeeps s t) (h' : StartKeeps t u) : StartKeeps s u :=
  ⟨h'.otp.trans h.otp, h'.tickets.trans h.tickets, h'.running.trans h.running, h'.fw.trans h.fw⟩

theorem startKeeps_refl (s : State) : StartKeeps s s := ⟨rfl, rfl, rfl, rfl⟩

theorem StartKeeps.foldl {α : Type} {f : State → α → State} (hf : ∀ t x, StartKeeps t (f t x)) (l : List α) (s : State) : StartKeeps s (l.foldl f s) :=
  List.foldlRecOn (motive := StartKeeps s) l f (startKeeps_refl s) fun t ht x _ => ht.trans (hf t x)

theorem startKeeps_logFault (s : State) (d : Detection) : StartKeeps s (s.logFault d) := ⟨by simp, by simp, by simp, by simp⟩

theorem startKeeps_signal (s : State) (c : Nat) : StartKeeps s (s.signal c) := ⟨by simp, by simp, by simp, by simp⟩

theorem startKeeps_devEvent (s : State) (c : Nat) : StartKeeps s (s.devEvent c) := ⟨by simp, by simp, by simp, by simp⟩

theorem startKeeps_ringUp (s : State) (scans : List ScanAns) : StartKeeps s (s.ringUp scans) := by
  have hlog := StartKeeps.foldl (f := fun s (c : Crate) => s.logFault { cls := 0x37, outcome := 0, unit := 0x8000, detail := c.id }) (fun t c => startKeeps_logFault t _)
  have hfree := StartKeeps.foldl (f := fun s l => s.setLane l { s.lane l with used := false }) (fun _ _ => ⟨rfl, rfl, rfl, rfl⟩)
  unfold State.ringUp
  exact ((hlog _ s).trans (hfree _ _)).trans ⟨rfl, rfl, rfl, rfl⟩

theorem startKeeps_timeUp (s : State) : StartKeeps s s.timeUp := by
  unfold State.timeUp
  dsimp only
  split
  · exact ⟨rfl, rfl, rfl, rfl⟩
  · split
    · exact ⟨rfl, rfl, rfl, rfl⟩
    · exact startKeeps_refl s

theorem lifeCount_of_otp (h : u.guard.otp = s.guard.otp) : u.lifeCount = s.lifeCount := by rw [State.lifeCount, h, State.lifeCount]

theorem becomeReady_says (s : State) : StartKeeps s s.becomeReady ∧ s.becomeReady.dev.ready = true ∧ s.becomeReady.dev.stage = 8 ∧ s.becomeReady.dev.holdCause = 0 ∧ s.becomeReady.dev.events.getLsbD 0 = true := by
  obtain ⟨v, hv⟩ : ∃ v : State, v = { s with dev := { s.dev with ready := true, stage := 8, holdCause := 0, holdDetail := 0 }, power := { s.power with fresh := false } } := ⟨_, rfl⟩
  have hsignals : StartKeeps v ([0, 1, 2, 3].foldl (fun s c => if s.causeSet c then s.signal c else s) v) ∧
      ([0, 1, 2, 3].foldl (fun s c => if s.causeSet c then s.signal c else s) v).dev.ready = true ∧ ([0, 1, 2, 3].foldl (fun s c => if s.causeSet c then s.signal c else s) v).dev.stage = 8 ∧
      ([0, 1, 2, 3].foldl (fun s c => if s.causeSet c then s.signal c else s) v).dev.holdCause = 0 :=
    List.foldlRecOn (motive := fun t : State => StartKeeps v t ∧ t.dev.ready = true ∧ t.dev.stage = 8 ∧ t.dev.holdCause = 0) [0, 1, 2, 3] _
      ⟨startKeeps_refl v, by rw [hv], by rw [hv], by rw [hv]⟩ fun t ⟨hk, hr, hs, hh⟩ c _ => by
        split
        · exact ⟨hk.trans (startKeeps_signal t c), by simpa using hr, by simpa using hs, by simpa using hh⟩
        · exact ⟨hk, hr, hs, hh⟩
  have hgo : s.becomeReady = ([0, 1, 2, 3].foldl (fun s c => if s.causeSet c then s.signal c else s) v).devEvent 0 := by rw [hv]; rfl
  obtain ⟨hk, hr, hs, hh⟩ := hsignals
  have hsv : StartKeeps s v := by rw [hv]; exact ⟨rfl, rfl, rfl, rfl⟩
  rw [hgo]
  exact ⟨(hsv.trans hk).trans (startKeeps_devEvent _ 0), by simpa using hr, by simpa using hs, by simpa using hh, devEvent_sets _ (by decide)⟩

/-- A device that is not owned goes on to READY (R407). -/
theorem finishUp_of_unowned (h : s.lifeCount = 2) (evs : List TickEvent) : StartKeeps s (s.finishUp a false evs) ∧ (s.finishUp a false evs).dev.ready = true ∧
    (s.finishUp a false evs).dev.stage = 8 ∧ (s.finishUp a false evs).dev.holdCause = 0 ∧ (s.finishUp a false evs).dev.events.getLsbD 0 = true := by
  have hown : ∀ t : State, StartKeeps s t → t.owned = false := fun t ht => by simp [State.owned, lifeCount_of_otp ht.otp, h]
  have hscrap : s.scrapped = false := by simp [State.scrapped, h]
  have hvault : s.vaultUp a.imageOk = s := by simp [State.vaultUp, hown s (startKeeps_refl s)]
  obtain ⟨v, hv⟩ : ∃ v, v = ((s.staged 6).timeUp.ringUp a.scans).staged 7 := ⟨_, rfl⟩
  have hstaged : ∀ (t : State) n, StartKeeps t (t.staged n) := fun t n => ⟨rfl, rfl, rfl, rfl⟩
  have hkeep : StartKeeps s v := hv ▸ (((hstaged s 6).trans (startKeeps_timeUp _)).trans (startKeeps_ringUp _ a.scans)).trans (hstaged _ 7)
  have hgo : s.finishUp a false evs = v.becomeReady := by
    unfold State.finishUp
    rw [hscrap, hown s (startKeeps_refl s), hvault, hv]
    dsimp only
    rw [if_neg Bool.false_ne_true, if_neg (by simp), if_neg Bool.false_ne_true, ← hv, hown v hkeep, if_neg Bool.false_ne_true]
  obtain ⟨hk, hrest⟩ := becomeReady_says v
  rw [hgo]
  exact ⟨hkeep.trans hk, hrest⟩

/-- Settles O53: the steps of start-up in order, and for a device that is not owned what follows them. -/
theorem startsUp : Obligations.StartsUp := by
  unfold Obligations.StartsUp
  intro s a
  refine ⟨fun h => congrArg Host.Outcome.next (if_pos ?_), fun hready hwarn hstage hbad hcons htorn hcount => ?_, fun hready hwarn hstage hbad hentropy hfailed hcons htorn hcount hddr herr hhash hpke => ?_⟩
  · rcases h with h | h | h
    · simp [h]
    · simp [State.scrapped, h]
    · simp [h]
  · rw [startUp_of_sound hready hwarn hstage hbad hcons htorn (by omega), if_pos hcount]
    exact ⟨_, rfl, hready, rfl, rfl⟩
  · have hgo := startUp_of_sound hready hwarn hstage hbad hcons htorn (by omega)
    rw [if_neg (by omega)] at hgo
    rw [hgo]
    have hsteps := fun hflash => stepsUp_of_working (s := s.staged 2) (a := a) hentropy hfailed hflash hddr
    refine ⟨fun hdesc => ?_, fun hdesc hbuilt hfw => ?_, fun hdesc hbuilt hfw => ?_⟩
    · obtain ⟨r, d, n, hs⟩ := hsteps (.inl hdesc)
      have hhold : (State.unitsTested (s.staged 2) a r d).holdFor a.firmware = (4, s.flash.buildErr) := if_pos (.inl hdesc)
      rw [hs, hhold, if_pos (Nat.succ_ne_zero _)]
      exact ⟨_, rfl, hready, rfl, rfl⟩
    · obtain ⟨r, d, n, hs⟩ := hsteps (.inr (by rw [show (s.staged 2).flash = s.flash from rfl, hbuilt]; decide))
      have hhold : (State.unitsTested (s.staged 2) a r d).holdFor a.firmware = (3, a.firmware) :=
        (if_neg (fun h => h.elim hdesc fun h => h hbuilt)).trans ((if_neg (fun h => h herr)).trans (if_pos hfw))
      rw [hs, hhold, if_pos (Nat.succ_ne_zero _)]
      exact ⟨_, rfl, hready, rfl, rfl⟩
    · obtain ⟨r, d, n, hs⟩ := hsteps (.inr (by rw [show (s.staged 2).flash = s.flash from rfl, hbuilt]; decide))
      have hhold : (State.unitsTested (s.staged 2) a r d).holdFor a.firmware = (0, 0) :=
        (if_neg (fun h => h.elim hdesc fun h => h hbuilt)).trans ((if_neg (fun h => h herr)).trans ((if_neg (fun h => h hfw)).trans ((if_neg hhash).trans (if_neg hpke))))
      rw [hs, hhold, if_neg (by decide)]
      obtain ⟨w, hw⟩ : ∃ w, w = ((State.unitsTested (s.staged 2) a r d).staged n).withhold 0 0 := ⟨_, rfl⟩
      rw [← hw]
      have htornUp : w.tornUp a = w.finishUp a false [] := by
        unfold State.tornUp
        rw [show w.guard.otp.torn = none by rw [hw]; exact htorn]
      obtain ⟨hk, hr, hst, hc, hev⟩ := finishUp_of_unowned (a := a) (s := w) (by rw [hw]; exact hcount) []
      rw [htornUp]
      refine ⟨_, rfl, hr, hst, hc, ?_, hev, hk.otp.trans (by rw [hw]; rfl), hk.tickets.trans (by rw [hw]; rfl), hk.running.trans (by rw [hw]; rfl)⟩
      rw [hk.fw, hw]
      exact if_pos hfw

end Sys2Proof.Proofs
end


section
/-! SUPPORT. Cartridge slots: insertion, bring-up, removal, timeout and sleep (R325 to R329). -/

namespace Sys2Proof.Proofs

open Sys2Proof Sys2Proof.Machine Sys2Proof.Safety

variable {s t u b : State} {n : Nat}

/-! What the panel shows. -/

/-- Only messages, the cartridge events and the head-less status differ. -/
def PanelOnly (s u : State) : Prop :=
  ∃ o d ev hx hb ha, u = { s with host := { s.host with out := o }, dev := d, boards := { s.boards with events := ev, hx := hx, hxBefore := hb, hxAt := ha } }

theorem panelOnly_refl (s : State) : PanelOnly s s := ⟨_, _, _, _, _, _, rfl⟩

theorem PanelOnly.trans (h : PanelOnly s t) (h' : PanelOnly t u) : PanelOnly s u := by
  obtain ⟨_, _, _, _, _, _, rfl⟩ := h
  obtain ⟨_, _, _, _, _, _, rfl⟩ := h'
  exact ⟨_, _, _, _, _, _, rfl⟩

theorem PanelOnly.ite {c : Prop} [Decidable c] (h : PanelOnly b s) (h' : PanelOnly b t) : PanelOnly b (if c then s else t) := by
  split
  · exact h
  · exact h'

theorem PanelOnly.signal {c} (h : PanelOnly b s) : PanelOnly b (s.signal c) := h.trans (by rw [show s.signal c = _ from Laws.signal_says s c]; exact ⟨_, _, _, _, _, _, rfl⟩)

theorem PanelOnly.cartEvent {c} (h : PanelOnly b s) : PanelOnly b (s.cartEvent c) := .ite h (.signal (h.trans ⟨_, _, _, _, _, _, rfl⟩))

theorem PanelOnly.settleHx (h : PanelOnly b s) : PanelOnly b s.settleHx := .ite h (h.trans ⟨_, _, _, _, _, _, rfl⟩)

theorem PanelOnly.showSeven (h : PanelOnly b s) : PanelOnly b s.showSeven := .ite h.settleHx (h.settleHx.trans ⟨_, _, _, _, _, _, rfl⟩)

theorem PanelOnly.hxRemoved (h : PanelOnly b s) : PanelOnly b s.hxRemoved := .settleHx (h.trans ⟨_, _, _, _, _, _, rfl⟩)

section
variable (h : PanelOnly s u)
include h

theorem PanelOnly.slots : u.boards.slots = s.boards.slots := by obtain ⟨_, _, _, _, _, _, rfl⟩ := h; rfl
theorem PanelOnly.slot (m : Nat) : u.slot m = s.slot m := by obtain ⟨_, _, _, _, _, _, rfl⟩ := h; rfl
theorem PanelOnly.sessions : u.boards.sessions = s.boards.sessions := by obtain ⟨_, _, _, _, _, _, rfl⟩ := h; rfl
theorem PanelOnly.cards : u.boards.cards = s.boards.cards := by obtain ⟨_, _, _, _, _, _, rfl⟩ := h; rfl
theorem PanelOnly.tabs : u.tabs = s.tabs := by obtain ⟨_, _, _, _, _, _, rfl⟩ := h; rfl
theorem PanelOnly.vault : u.vault = s.vault := by obtain ⟨_, _, _, _, _, _, rfl⟩ := h; rfl
theorem PanelOnly.power : u.power = s.power := by obtain ⟨_, _, _, _, _, _, rfl⟩ := h; rfl
theorem PanelOnly.now : u.now = s.now := by obtain ⟨_, _, _, _, _, _, rfl⟩ := h; rfl

end

theorem cartEvent_sets (s : State) {c : Nat} (hc : c < 32) : (s.cartEvent c).boards.events.getLsbD c = true := by
  unfold State.cartEvent
  split
  · next hset => exact hset
  · rw [Laws.signal_boards]
    exact (getLsbD_setBit _ _ _ _ hc).trans (if_pos rfl)

theorem settleHx_events (s : State) : s.settleHx.boards.events = s.boards.events := by
  unfold State.settleHx
  split <;> rfl

theorem showSeven_events (s : State) : s.showSeven.boards.events = s.boards.events := by
  unfold State.showSeven
  dsimp only
  split
  · exact settleHx_events s
  · exact settleHx_events s

/-! One slot changes. -/

theorem setSlot_slot (h : s.boards.slots.wf noSlot = true) (n m : Nat) (c : Slot) : (s.setSlot n c).slot m = if m = n then c else s.slot m := get_set h n m c

theorem setSlot_wf (h : s.boards.slots.wf noSlot = true) (n : Nat) (c : Slot) : (s.setSlot n c).boards.slots.wf noSlot = true := Laws.set_wf _ _ _ _ h

theorem setSlot_setSlot (h : s.boards.slots.wf noSlot = true) (n : Nat) (c d : Slot) : (s.setSlot n c).setSlot n d = s.setSlot n d := by
  simp only [State.setSlot, set_set h]

/-- A slot that fails: it alone changes (R325). -/
theorem slotFail_says (h : s.boards.slots.wf noSlot = true) (n : Nat) : ∀ m, (s.slotFail n).slot m = if m = n then { s.slot n with state := .failed } else s.slot m := by
  have hpanel : PanelOnly (s.setSlot n { s.slot n with state := .failed }) (s.slotFail n) := .ite (panelOnly_refl _).cartEvent.settleHx ((panelOnly_refl _).cartEvent.trans ⟨_, _, _, _, _, _, rfl⟩)
  intro m
  rw [hpanel.slot, setSlot_slot h]

theorem slotFail_frame (s : State) (n : Nat) : (s.slotFail n).boards.sessions = s.boards.sessions ∧ (s.slotFail n).tabs = s.tabs := by
  have hpanel : PanelOnly (s.setSlot n { s.slot n with state := .failed }) (s.slotFail n) := .ite (panelOnly_refl _).cartEvent.settleHx ((panelOnly_refl _).cartEvent.trans ⟨_, _, _, _, _, _, rfl⟩)
  exact ⟨hpanel.sessions, hpanel.tabs⟩

/-- A slot that loses its cartridge is without power, and its session waits (R329, R347). -/
theorem slotDown_says (h : s.boards.slots.wf noSlot = true) (n : Nat) : (∀ m, (s.slotDown n).slot m = if m = n then (s.slot n).unpowered else s.slot m) ∧
    (s.slotDown n).boards.slots.wf noSlot = true ∧ (∀ x ∈ (s.slotDown n).boards.sessions, x.slot = n → x.state ≠ .opened) ∧ (s.slotDown n).tabs = s.tabs := by
  unfold State.slotDown
  dsimp only
  generalize hl : List.map _ _ = l
  have hpanel := (panelOnly_refl ({ s.setSlot n (s.slot n).unpowered with boards := { (s.setSlot n (s.slot n).unpowered).boards with sessions := l } } : State)).settleHx
  refine ⟨fun m => (hpanel.slot m).trans (setSlot_slot h n m _), by rw [hpanel.slots]; exact setSlot_wf h n _, fun x hx hn => ?_, hpanel.tabs⟩
  rw [hpanel.sessions, ← hl] at hx
  obtain ⟨y, -, rfl⟩ := List.mem_map.mp hx
  by_cases hopen : y.state = .opened ∧ y.slot = n
  · rw [if_pos hopen]
    exact fun hw => SessState.noConfusion hw
  · rw [if_neg hopen] at hn ⊢
    exact fun hop => hopen ⟨hop, hn⟩

/-! Bring-up. -/

/-- The slot of a cartridge that has answered, before it is READY or FAILED (R325). -/
def Slot.found (c : Slot) (v : BitVec 120) (mode : Nat) : Slot :=
  { c.powered with ident := some (identOf v), identified := true, link := .transfer, mode := min mode (if (identOf v).gen = 1 then 2 else 4)
                   checked := decide (1 ≤ min mode (if (identOf v).gen = 1 then 2 else 4)), state := .bringup }

theorem slotUp_of_unusable {a : BringAns} {v : BitVec 120} (hv : a.ident = some v) (hbad : (identOf v).known = false ∨ a.mode = 0) (last : Bool) :
    s.slotUp n a last = (s.setSlot n (Slot.found (s.slot n) v a.mode)).slotFail n := by
  unfold State.slotUp
  rw [hv]
  refine if_pos ?_
  rcases hbad with hbad | hbad
  · simp [hbad]
  · simp [hbad]

/-- No paired cartridge and no session: the counter and the manifest are not read, and nothing goes on (R331, R347). -/
theorem slotUp_of_unpaired {a : BringAns} {v : BitVec 120} (hv : a.ident = some v) (hknown : (identOf v).known = true) (hmode : a.mode = 2) (hpairing : s.vault.pairing = [])
    (hwriting : ∀ m, (s.slot m).rpaWriting = false) (hwf : s.boards.slots.wf noSlot = true) (last : Bool) :
    s.slotUp n a last = (s.setSlot n { Slot.found (s.slot n) v a.mode with enrolled := false, manifest := none }).slotReady n a.blocks := by
  have htorn : (s.setSlot n (Slot.found (s.slot n) v a.mode)).tornSlot n = none := by
    refine List.find?_eq_none.mpr fun m _ => ?_
    rw [setSlot_slot hwf]
    split
    · simp [show (Slot.found (s.slot n) v a.mode).rpaWriting = (s.slot n).rpaWriting from rfl, hwriting]
    · simp [hwriting]
  have hkey : (s.setSlot n (Slot.found (s.slot n) v a.mode)).cartKey n = none := by
    simp [State.cartKey, hpairing]
  have hread : (s.setSlot n (Slot.found (s.slot n) v a.mode)).readRpa n a = s.setSlot n { Slot.found (s.slot n) v a.mode with enrolled := false, manifest := none } := by
    unfold State.readRpa
    rw [hkey]
    dsimp only
    rw [setSlot_slot hwf, if_pos rfl, setSlot_setSlot hwf]
  have hmode' : min a.mode (if (identOf v).gen = 1 then 2 else 4) ≠ 0 := by
    rw [hmode]
    split <;> decide
  have hgo : s.slotUp n a last = match (s.setSlot n (Slot.found (s.slot n) v a.mode)).tornSlot n with
      | none => ((s.setSlot n (Slot.found (s.slot n) v a.mode)).readRpa n a).slotReady n a.blocks
      | some m => if (((s.setSlot n (Slot.found (s.slot n) v a.mode)).readRpa n a).settleRpa n m ((s.setSlot n (Slot.found (s.slot n) v a.mode)).slot m).rpaCounter a.units).2
          then (((s.setSlot n (Slot.found (s.slot n) v a.mode)).readRpa n a).settleRpa n m ((s.setSlot n (Slot.found (s.slot n) v a.mode)).slot m).rpaCounter a.units).1.slotReady n a.blocks
          else (((s.setSlot n (Slot.found (s.slot n) v a.mode)).readRpa n a).settleRpa n m ((s.setSlot n (Slot.found (s.slot n) v a.mode)).slot m).rpaCounter a.units).1.slotFail n := by
    conv_lhs => unfold State.slotUp
    rw [hv]
    exact if_neg (by simp [hknown, hmode'])
  rw [hgo, htorn, ← hread]

/-- With no session and no manifest a slot that is READY shows itself and nothing goes on. -/
theorem slotReady_of_no_session (hwf : s.boards.slots.wf noSlot = true) (hsessions : s.boards.sessions = []) (hman : (s.slot n).manifest = none) (blocks : List Bytes) :
    PanelOnly (s.setSlot n { s.slot n with state := .ready, link := .transfer, retried := false }) (s.slotReady n blocks) ∧ (n < 32 → (s.slotReady n blocks).boards.events.getLsbD n = true) := by
  obtain ⟨v, hv⟩ : ∃ v, v = (s.setSlot n { s.slot n with state := .ready, link := .transfer, retried := false }).cartEvent n := ⟨_, rfl⟩
  have hpanel : PanelOnly (s.setSlot n { s.slot n with state := .ready, link := .transfer, retried := false }) v := hv ▸ (panelOnly_refl _).cartEvent
  have hmanifest : (v.slot n).manifest = none := by rw [hpanel.slot, setSlot_slot hwf, if_pos rfl]; exact hman
  have hnone : v.boards.sessions = [] := hpanel.sessions.trans hsessions
  have hmark : v.markAbandoned n = v := by simp [State.markAbandoned, hmanifest]
  have hresume : v.resume n blocks = v := by simp [State.resume, State.waitsFor, hmanifest]
  have hnext : v.takeNext = v := by simp [State.takeNext, hnone]
  have hgo : s.slotReady n blocks = if (v.sessionOn n).isNone && !(v.enrolled n && v.slotBlank n) then v.showSeven else v.settleHx := by
    unfold State.slotReady
    rw [← hv, hmark, hresume]
    dsimp only
    rw [hnext]
  rw [hgo]
  refine ⟨.ite hpanel.showSeven hpanel.settleHx, fun hn => ?_⟩
  split
  · rw [showSeven_events, hv]
    exact cartEvent_sets _ hn
  · rw [settleHx_events, hv]
    exact cartEvent_sets _ hn

theorem linkRuns_says (h : s.linkRuns = true) : s.dev.ready = true ∧ s.power.warn = false ∧ s.power.pllSwitching = false := by
  simpa [State.linkRuns, and_assoc] using h

theorem pulse_of_steady (h : s.power.pllSwitching = false) (c : Nat) : s.pulse c = { s with power := { s.power with hTotal := s.power.hTotal.set zeroOf c ((s.power.hTotal.get zeroOf c + 1) % 65536) } } :=
  if_pos (by simp [h])

section
variable (hwf : s.boards.slots.wf noSlot = true) (n : Fin 4)
include hwf

theorem slotBringup_fails {a : BringAns} {v : BitVec 120} (hruns : s.linkRuns = true) (hseated : (s.slot n.val).seated = true) (hstate : (s.slot n.val).state = .bringup) (hv : a.ident = some v)
    (hbad : (identOf v).known = false ∨ a.mode = 0) :
    ∃ u, exec (.slotBringup n a) s = .next u ∧ (u.slot n.val).state = .failed ∧ (∀ m, m ≠ n.val → u.slot m = s.slot m) ∧ u.boards.sessions = s.boards.sessions := by
  have hgo : exec (.slotBringup n a) s = .next ((s.setSlot n.val (Slot.found (s.slot n.val) v a.mode)).slotFail n.val) := by
    refine congrArg Host.Outcome.next ?_
    rw [State.slotStart, if_neg (by simp [hruns, hseated]), if_neg (by rw [hstate]; decide), if_pos hstate, slotUp_of_unusable hv hbad]
  have hslots := slotFail_says (setSlot_wf hwf n.val (Slot.found (s.slot n.val) v a.mode)) n.val
  obtain ⟨hsessions, -⟩ := slotFail_frame (s.setSlot n.val (Slot.found (s.slot n.val) v a.mode)) n.val
  refine ⟨_, hgo, by rw [hslots, if_pos rfl], fun m hm => ?_, hsessions⟩
  rw [hslots, if_neg hm, setSlot_slot hwf, if_neg hm]

theorem slotBringup_ready {a : BringAns} {v : BitVec 120} (hruns : s.linkRuns = true) (hseated : (s.slot n.val).seated = true) (hstate : (s.slot n.val).state = .empty) (hv : a.ident = some v)
    (hknown : (identOf v).known = true) (hmode : a.mode = 2) (hsessions : s.boards.sessions = []) (hpairing : s.vault.pairing = []) (hwriting : ∀ m, (s.slot m).rpaWriting = false) :
    ∃ u, exec (.slotBringup n a) s = .next u ∧ (u.slot n.val).state = .ready ∧ (u.slot n.val).link = .transfer ∧ (u.slot n.val).mode = 2 ∧ (u.slot n.val).ident = some (identOf v) ∧
      (u.slot n.val).pwren = true ∧ u.boards.events.getLsbD n.val = true ∧ (∀ m, m ≠ n.val → u.slot m = s.slot m) ∧
      u.power.hTotal = s.power.hTotal.set zeroOf (41 + n.val) ((s.power.hTotal.get zeroOf (41 + n.val) + 1) % 65536) := by
  obtain ⟨-, -, hpll⟩ := linkRuns_says hruns
  obtain ⟨c, hc⟩ : ∃ c, c = { s.slot n.val with crcErrors := 0, retried := false } := ⟨_, rfl⟩
  obtain ⟨w, hw⟩ : ∃ w, w = (s.setSlot n.val c).pulse (41 + n.val) := ⟨_, rfl⟩
  have hpulse := hw.trans (pulse_of_steady (s := s.setSlot n.val c) hpll (41 + n.val))
  have hwslot : ∀ m, w.slot m = if m = n.val then c else s.slot m := fun m => by rw [hpulse]; exact setSlot_slot hwf n.val m c
  have hwwf : w.boards.slots.wf noSlot = true := by rw [hpulse]; exact setSlot_wf hwf n.val c
  have hup := slotUp_of_unpaired (s := w) (n := n.val) hv hknown hmode (by rw [hpulse]; exact hpairing) (fun m => by
    rw [hwslot]
    split
    · rw [hc]; exact hwriting n.val
    · exact hwriting m) hwwf false
  obtain ⟨d, hd⟩ : ∃ d, d = { Slot.found (w.slot n.val) v a.mode with enrolled := false, manifest := none } := ⟨_, rfl⟩
  rw [← hd] at hup
  obtain ⟨hpanel, hevent⟩ := slotReady_of_no_session (n := n.val) (setSlot_wf hwwf n.val d) (by rw [hpulse]; exact hsessions) (by rw [setSlot_slot hwwf, if_pos rfl, hd]) a.blocks
  have hgo : exec (.slotBringup n a) s = .next ((w.setSlot n.val d).slotReady n.val a.blocks) := by
    refine congrArg Host.Outcome.next ?_
    rw [← hup, hw, hc]
    exact (if_neg (by simp [hruns, hseated])).trans (if_pos hstate)
  have hslot : ∀ m, ((w.setSlot n.val d).slotReady n.val a.blocks).slot m = if m = n.val then { d with state := .ready, link := .transfer, retried := false } else w.slot m := fun m => by
    rw [hpanel.slot, setSlot_setSlot hwwf, setSlot_slot hwwf, setSlot_slot hwwf, if_pos rfl]
  have hsame := (hslot n.val).trans (if_pos rfl)
  have hmin : d.mode = 2 := by
    rw [hd, Slot.found, hmode]
    dsimp only
    split <;> rfl
  refine ⟨_, hgo, by rw [hsame], by rw [hsame], by rw [hsame]; exact hmin, by rw [hsame, hd]; rfl, by rw [hsame, hd]; rfl, hevent (by omega), fun m hm => ?_, ?_⟩
  · rw [hslot, if_neg hm, hwslot, if_neg hm]
  · rw [hpanel.power, hpulse]
    rfl

theorem removal_empties (hseated : (s.slot n.val).seated = true) (hstate : (s.slot n.val).state ≠ .empty) (hpll : s.power.pllSwitching = false) :
    ∃ u, exec (.removal n) s = .next u ∧ u.slot n.val = { (s.slot n.val).unpowered with seated := false } ∧ (∀ m, m ≠ n.val → u.slot m = s.slot m) ∧ u.boards.events.getLsbD (4 + n.val) = true ∧
      (∀ x ∈ u.boards.sessions, x.slot = n.val → x.state ≠ .opened) ∧ u.tabs = s.tabs := by
  obtain ⟨w, hw⟩ : ∃ w, w = (s.setSlot n.val { s.slot n.val with seated := false }).pulse (41 + n.val) := ⟨_, rfl⟩
  have hpulse := hw.trans (pulse_of_steady (s := s.setSlot n.val { s.slot n.val with seated := false }) hpll (41 + n.val))
  have hwslot : ∀ m, w.slot m = if m = n.val then { s.slot n.val with seated := false } else s.slot m := fun m => by rw [hpulse]; exact setSlot_slot hwf n.val m _
  obtain ⟨hslots, -, hsessions, htabs⟩ := slotDown_says (s := w) (by rw [hpulse]; exact setSlot_wf hwf n.val _) n.val
  have hgo : exec (.removal n) s = .next ((w.slotDown n.val).cartEvent (4 + n.val)).hxRemoved := by
    refine congrArg Host.Outcome.next ?_
    rw [hw]
    exact (if_neg (by simp [hseated])).trans (if_neg hstate)
  have hpanel : PanelOnly (w.slotDown n.val) ((w.slotDown n.val).cartEvent (4 + n.val)).hxRemoved := (panelOnly_refl _).cartEvent.hxRemoved
  refine ⟨_, hgo, ?_, fun m hm => ?_, ?_, ?_, ?_⟩
  · rw [hpanel.slot, hslots, if_pos rfl, hwslot, if_pos rfl]
    rfl
  · rw [hpanel.slot, hslots, if_neg hm, hwslot, if_neg hm]
  · rw [State.hxRemoved, settleHx_events]
    exact cartEvent_sets _ (by omega)
  · rw [hpanel.sessions]
    exact hsessions
  · rw [hpanel.tabs, htabs, hpulse]
    rfl

theorem linkTimeout_fails {a : BringAns} (hruns : s.linkRuns = true) (hseated : (s.slot n.val).seated = true) (hstate : (s.slot n.val).state = .ready) (hv : a.ident = none) :
    ∃ u, exec (.linkTimeout n a) s = .next u ∧ (u.slot n.val).state = .failed ∧ (∀ x ∈ u.boards.sessions, x.slot = n.val → x.state ≠ .opened) ∧ u.tabs = s.tabs := by
  obtain ⟨-, hdwf, hsessions, htabs⟩ := slotDown_says hwf n.val
  obtain ⟨c, hc⟩ : ∃ c, c = { ((s.slotDown n.val).slot n.val).powered with state := .failed } := ⟨_, rfl⟩
  have hgo : exec (.linkTimeout n a) s = .next (((s.slotDown n.val).setSlot n.val c).slotFail n.val) := by
    refine congrArg Host.Outcome.next ((if_neg (by simp [hruns, hseated, hstate])).trans ?_)
    rw [State.slotUp, hv, hc]
    exact if_pos rfl
  obtain ⟨hkeep, htabs'⟩ := slotFail_frame ((s.slotDown n.val).setSlot n.val c) n.val
  refine ⟨_, hgo, ?_, ?_, htabs'.trans htabs⟩
  · rw [slotFail_says (setSlot_wf hdwf n.val c), if_pos rfl]
  · rw [hkeep]
    exact hsessions

end

/-- Settles O40: what each of the slot's events leaves of it, by its state. -/
theorem slotsComeAndGo : Obligations.SlotsComeAndGo := by
  unfold Obligations.SlotsComeAndGo
  intro s n hwf
  refine ⟨rfl, fun ans hseated => congrArg Host.Outcome.next (if_pos (by simp [hseated])), fun ans v hruns hseated hstate hv hbad => slotBringup_fails hwf n hruns hseated hstate hv hbad,
    fun ans v hruns hseated hstate hv hknown hmode hsessions hpairing hwriting => slotBringup_ready hwf n hruns hseated hstate hv hknown hmode hsessions hpairing hwriting,
    removal_empties hwf n, fun ans hruns hseated hstate hv => linkTimeout_fails hwf n hruns hseated hstate hv, fun hruns hstate hlink => ?_⟩
  refine congrArg Host.Outcome.next ((if_neg (by simp [hruns, hstate, hlink])).trans ?_)
  split <;> rfl

end Sys2Proof.Proofs
end


section
/-! SUPPORT. The Mahano link: frames, lines and the link commands (R317 to R327). -/

namespace Sys2Proof.Proofs

open Sys2Proof Sys2Proof.Machine Sys2Proof.Safety

variable {s t u b : State} {n : Nat}

/-! Frames and lines are read back. -/

theorem shortPayload_shortAnswer (k : Nat) (v : BitVec 32) : shortPayload k (shortAnswer k v) = some v := by
  obtain ⟨q, hq, hframe⟩ : ∃ q < 128, frameOf 40 (k % 64 * 2 ^ 32 + v.toNat) = (k % 64 * 2 ^ 32 + v.toNat) * 256 + q * 2 + 1 := ⟨_, (crc7 _).isLt, rfl⟩
  have hv := v.isLt
  have hk := Nat.mod_lt k (show 0 < 64 by decide)
  have hp : BitVec.ofNat 32 ((shortAnswer k v).toNat / 256) = v := by
    refine BitVec.eq_of_toNat_eq ?_
    rw [shortAnswer, hframe, BitVec.toNat_ofNat, BitVec.toNat_ofNat]
    omega
  unfold shortPayload
  dsimp only
  rw [hp, if_pos rfl]

theorem longPayload_longAnswer (i : BitVec 120) : longPayload (longAnswer i) = some i := by
  obtain ⟨q, hq, hframe⟩ : ∃ q < 128, longAnswer i = BitVec.ofNat 136 ((0x3F * 2 ^ 120 + i.toNat) * 256 + q * 2 + 1) := ⟨_, (crc7 _).isLt, rfl⟩
  have hi := i.isLt
  have hp : BitVec.ofNat 120 ((longAnswer i).toNat / 256) = i := by
    refine BitVec.eq_of_toNat_eq ?_
    rw [hframe, BitVec.toNat_ofNat, BitVec.toNat_ofNat]
    omega
  unfold longPayload
  dsimp only
  rw [hp, if_pos rfl]

theorem shortPayload_none {k : Nat} {f : BitVec 48} (h : ∀ p, f ≠ shortAnswer k p) : shortPayload k f = none := if_neg (h _)

/-- Lines that all carry their share of a block give it back, where their bits are those of its bytes. -/
theorem blockRead_of_lines {w : Nat} {b : Bytes} (hcount : (lineData w b).length = w) (hlen : ∀ d ∈ lineData w b, d.length = 8 * b.length / w)
    (hbits : ∀ (i : Nat) (hi : i < b.length), ∀ k < 8, lineBit w (lineData w b) i k = b[i].getLsbD k) : blockRead w b.length (blockLines w b) = some b := by
  have hread : (blockLines w b).filterMap (lineRead (8 * b.length / w)) = lineData w b := by
    rw [blockLines, List.filterMap_map, List.filterMap_congr (g := some), List.filterMap_some]
    intro d hd
    rw [Function.comp_apply, ← hlen d hd]
    exact Laws.lineRead_lineFrame d
  simp only [blockRead, hread]
  rw [if_pos ⟨by rw [blockLines, List.length_map, hcount], hcount⟩]
  refine congrArg some (List.ext_getElem (by simp) fun i h1 h2 => ?_)
  simp only [List.getElem_map, List.getElem_range]
  exact (Laws.byteOf_congr _ _ (hbits i h2)).trans (Laws.byteOf_getLsbD _)

/-- Equal shares stand one after the other. -/
theorem getElem?_flatMap_of_length {α β : Type} {f : α → List β} {m : Nat} (hf : ∀ x, (f x).length = m) (l : List α) (i j : Nat) (hi : i < l.length) (hj : j < m) :
    (l.flatMap f)[m * i + j]? = (f l[i])[j]? := by
  induction l generalizing i with
  | nil => exact absurd hi (Nat.not_lt_zero i)
  | cons x r ih =>
    rw [List.flatMap_cons]
    cases i with
    | zero => rw [List.getElem?_append_left (by rw [hf]; omega)]; simp
    | succ i =>
      rw [List.getElem?_append_right (by rw [hf, Nat.mul_succ]; omega), hf, show m * (i + 1) + j - m = m * i + j by rw [Nat.mul_succ]; omega]
      exact ih i (Nat.lt_of_succ_lt_succ hi)

theorem length_flatMap_of_length {α β : Type} {f : α → List β} {m : Nat} (hf : ∀ x, (f x).length = m) (l : List α) : (l.flatMap f).length = m * l.length := by
  rw [List.length_flatMap, List.map_congr_left (g := fun _ => m) (fun x _ => hf x)]
  simp [Nat.mul_comm]

theorem blockRead_four (b : Bytes) : blockRead 4 b.length (blockLines 4 b) = some b := by
  refine blockRead_of_lines (by simp [lineData]) (fun d hd => ?_) fun i hi k hk => ?_
  · obtain ⟨j, -, rfl⟩ := List.mem_map.mp hd
    rw [length_flatMap_of_length (m := 2) (fun _ => rfl)]
    omega
  · have hget := getElem?_flatMap_of_length (f := fun x : Byte => [x.getLsbD (4 + k % 4), x.getLsbD (k % 4)]) (m := 2) (fun _ => rfl) b i (1 - k / 4) hi (by omega)
    have hline : (lineData 4 b).getD (k % 4) [] = b.flatMap (fun x => [x.getLsbD (4 + k % 4), x.getLsbD (k % 4)]) := by
      simp [lineData, List.getD, Nat.mod_lt]
    simp only [lineBit, hline, List.getD_eq_getElem?_getD, hget]
    by_cases hhigh : k < 4
    · rw [Nat.div_eq_of_lt hhigh, Nat.mod_eq_of_lt hhigh]
      rfl
    · rw [show k / 4 = 1 by omega, show 4 + k % 4 = k by omega]
      rfl

theorem blockRead_one (b : Bytes) : blockRead 1 b.length (blockLines 1 b) = some b := by
  refine blockRead_of_lines rfl (fun d hd => ?_) fun i hi k hk => ?_
  · rw [List.mem_singleton.mp hd, length_flatMap_of_length (m := 8) (fun _ => by simp)]
    omega
  · have hget := getElem?_flatMap_of_length (f := fun x : Byte => (List.range 8).map (fun i => x.getLsbD (7 - i))) (m := 8) (fun _ => by simp) b i (7 - k) hi (by omega)
    simp only [lineBit, lineData, List.getD_eq_getElem?_getD, List.getElem?_cons_zero, Option.getD_some, hget]
    rw [List.getElem?_map, List.getElem?_range (by omega), Option.map_some, Option.getD_some, show 7 - (7 - k) = k by omega]

theorem blockRead_lineCount (mode : Nat) (b : Bytes) : blockRead (lineCount mode) b.length (blockLines (lineCount mode) b) = some b := by
  unfold lineCount
  split
  · exact blockRead_one b
  · split
    · exact blockRead_four b
    · exact Laws.blockRead_eight b

/-! A command on the link. -/

/-- The slot whose status word has been read. -/
def answeredSlot (c : Slot) (v : BitVec 32) : Slot := { c with status := v, repeats := 0 }

section
variable {sent : Nat → Nat → Slot} (hsent : ∀ i a, sent i a = { s.slot n with cmd := commandFrame i a })
include hsent

theorem sent_repeats (i a : Nat) : (sent i a).repeats = (s.slot n).repeats := by
  rw [hsent]

theorem sent_crcErrors (i a : Nat) : (sent i a).crcErrors = (s.slot n).crcErrors := by
  rw [hsent]

theorem sent_link (i a : Nat) : (sent i a).link = (s.slot n).link := by
  rw [hsent]

theorem sent_mode (i a : Nat) : (sent i a).mode = (s.slot n).mode := by
  rw [hsent]

theorem sent_count (i a : Nat) : (sent i a).count = (s.slot n).count := by
  rw [hsent]

theorem sent_state (i a : Nat) : (sent i a).state = (s.slot n).state := by
  rw [hsent]

theorem onLink_of_powered {i a : Nat} {ok : LinkState → Bool} {f : State → Slot → State} (hruns : s.linkRuns = true) (hpower : (s.slot n).pwren = true) (hstate : (s.slot n).state ≠ .failed) :
    s.onLink n i a ok f = if ok (s.slot n).link then f (s.setSlot n (sent i a)) (sent i a) else s.setSlot n (sent i a) := by
  rw [State.onLink, ← hsent i a, sent_link hsent]
  exact if_pos (by rw [hsent]; simp [hruns, hpower, hstate])

theorem onLink_of_onLink {i a : Nat} {ok : LinkState → Bool} {f : State → Slot → State} {l : LinkState} (h : OnLink s n l) (hok : ok l = true) :
    s.onLink n i a ok f = f (s.setSlot n (sent i a)) (sent i a) := by
  obtain ⟨hruns, hpower, hstate, hlink⟩ := h
  rw [onLink_of_powered hsent hruns hpower hstate, hlink, if_pos hok]

end

theorem onLink_of_unpowered {i a : Nat} {ok : LinkState → Bool} {f : State → Slot → State} (hpower : (s.slot n).pwren = false) : s.onLink n i a ok f = s := if_neg (by simp [hpower])

theorem withStatus_some {i : Nat} {a : BitVec 48} {v : BitVec 32} (ha : shortPayload i a = some v) (hv : Plain v) (f : Slot → State) :
    s.withStatus n i a f = f (answeredSlot (s.slot n) v) := by
  obtain ⟨hcrc, hillegal⟩ := hv
  rw [State.withStatus, ha]
  exact (if_neg (by rw [hcrc]; decide)).trans (if_neg (by rw [hillegal]; decide))

/-- Blocks that all come through go on after their status word (R320, R327). -/
theorem withBlocks_read {i : Nat} {a : BitVec 48} {v : BitVec 32} {c : Slot} {l : List LineBits} {bs : List Bytes} (ha : shortPayload i a = some v) (hv : Plain v) (hc : s.slot n = c)
    (hbs : blocksRead (lineCount c.mode) 512 l = some bs) (f : State → Slot → List Bytes → State) :
    s.withBlocks n i a l f = f s { answeredSlot c v with lines := l.getLastD [], block := bs.getLastD [] } bs := by
  subst hc
  rw [State.withBlocks, withStatus_some ha hv]
  dsimp only [answeredSlot]
  rw [hbs]

theorem linkFail_few {c : Slot} (hc : s.slot n = c) (h : c.repeats < 3) (crc : Bool) :
    s.linkFail n crc = s.setSlot n { c with repeats := c.repeats + 1, crcErrors := if crc then sat 16 (c.crcErrors + 1) else c.crcErrors } := by
  subst hc
  exact if_pos h

theorem withStatus_none {i : Nat} {a : BitVec 48} (ha : shortPayload i a = none) (f : Slot → State) : s.withStatus n i a f = s.linkFail n true := by
  rw [State.withStatus, ha]

section
variable (hwf : s.boards.slots.wf noSlot = true)
include hwf

theorem slot_setSlot (n : Nat) (c : Slot) : (s.setSlot n c).slot n = c := by rw [setSlot_slot hwf, if_pos rfl]

theorem withStatus_plain {v : BitVec 32} (hv : Plain v) (i : Nat) (c : Slot) (f : Slot → State) : (s.setSlot n c).withStatus n i (shortAnswer i v) f = f (answeredSlot c v) := by
  rw [withStatus_some (shortPayload_shortAnswer i v) hv, slot_setSlot hwf]

theorem linkFail_again {c : Slot} (h : c.repeats < 3) (crc : Bool) :
    (s.setSlot n c).linkFail n crc = s.setSlot n { c with repeats := c.repeats + 1, crcErrors := if crc then sat 16 (c.crcErrors + 1) else c.crcErrors } := by
  rw [linkFail_few (slot_setSlot hwf n c) h, setSlot_setSlot hwf]

end

section
variable (hwf : s.boards.slots.wf noSlot = true) {sent : Nat → Nat → Slot} (hsent : ∀ i a, sent i a = { s.slot n with cmd := commandFrame i a })
include hwf hsent

/-- A command whose answer is a status word goes on from it. -/
theorem statusCommand {i a : Nat} {ok : LinkState → Bool} {l : LinkState} {v : BitVec 32} {f : State → Slot → Slot → State} (h : OnLink s n l) (hok : ok l = true) (hv : Plain v) :
    s.onLink n i a ok (fun t d => t.withStatus n i (shortAnswer i v) (f t d)) = f (s.setSlot n (sent i a)) (sent i a) (answeredSlot (sent i a) v) :=
  (onLink_of_onLink hsent h hok).trans (withStatus_plain hwf hv i _ _)

/-- A frame that is no answer has its command sent again (R323, R327). -/
theorem onLink_again {i a : Nat} {ok : LinkState → Bool} {l : LinkState} {f : State → Slot → State} (h : OnLink s n l) (hok : ok l = true) (hless : (s.slot n).repeats < 3)
    (hf : ∀ t d, f t d = t.linkFail n true) : s.onLink n i a ok f = s.setSlot n { sent i a with repeats := (s.slot n).repeats + 1, crcErrors := sat 16 ((s.slot n).crcErrors + 1) } := by
  rw [onLink_of_onLink hsent h hok, hf, linkFail_again hwf (c := sent i a) (by rwa [sent_repeats hsent]) true, sent_repeats hsent, sent_crcErrors hsent, if_pos rfl]

end

section
variable (hwf : s.boards.slots.wf noSlot = true) (n : Fin 4) {sent : Nat → Nat → Slot} (hsent : ∀ i a, sent i a = { s.slot n.val with cmd := commandFrame i a })
include hwf hsent

/-- The commands whose answers are frames are sent again for one that is none (R323, R327). -/
theorem setsSlot_again (blk : BitVec 32) {f : BitVec 48} {c : Instr} {i a : Nat} {l : LinkState}
    (hmem : (c, i, a, l) ∈ [(Instr.mhIdentify n f, 1, 0x01000000, .idle), (.mhSelect n f, 3, 0, .ready), (.mhSwitch n 2 f, 6, 2, .transfer), (.mhStop n f, 12, 0, .receiving), (.mhStatus n f, 13, 0, (s.slot n.val).link),
        (.mhReadBlocks n blk f [], 17, blk.toNat, .transfer), (.mhWriteBlocks n blk [] f 5, 18, blk.toNat, .transfer), (.mhSetCount n 1 f, 23, 1, .transfer), (.mhReadKey n f [], 37, 0, .transfer)])
    (h : OnLink s n l) (hf : ∀ p, f ≠ shortAnswer i p) (hless : (s.slot n.val).repeats < 3) :
    SetsSlot c s n { sent i a with repeats := (s.slot n.val).repeats + 1, crcErrors := sat 16 ((s.slot n.val).crcErrors + 1) } := by
  have hnone := shortPayload_none hf
  have again : ∀ (ok : LinkState → Bool) (g : State → Slot → State), ok l = true → (∀ t d, g t d = t.linkFail n true) → exec c s = .next (s.onLink n i a ok g) →
      SetsSlot c s n { sent i a with repeats := (s.slot n.val).repeats + 1, crcErrors := sat 16 ((s.slot n.val).crcErrors + 1) } :=
    fun ok g hok hg hrun => hrun.trans (congrArg Host.Outcome.next (onLink_again hwf hsent h hok hless hg))
  simp only [List.mem_cons, List.not_mem_nil, or_false, Prod.mk.injEq] at hmem
  rcases hmem with ⟨rfl, rfl, rfl, rfl⟩ | ⟨rfl, rfl, rfl, rfl⟩ | ⟨rfl, rfl, rfl, rfl⟩ | ⟨rfl, rfl, rfl, rfl⟩ | ⟨rfl, rfl, rfl, rfl⟩ | ⟨rfl, rfl, rfl, rfl⟩ | ⟨rfl, rfl, rfl, rfl⟩ | ⟨rfl, rfl, rfl, rfl⟩ | ⟨rfl, rfl, rfl, rfl⟩
  case inl => exact again _ _ rfl (fun t d => by rw [hnone]) rfl
  case inr.inl => exact again _ _ rfl (fun t d => withStatus_none hnone _) rfl
  case inr.inr.inl => exact again _ _ rfl (fun t d => withStatus_none hnone _) (congrArg Host.Outcome.next (if_neg (by simp)))
  case inr.inr.inr.inl => exact again _ _ rfl (fun t d => withStatus_none hnone _) rfl
  case inr.inr.inr.inr.inl => exact again _ _ rfl (fun t d => by rw [hnone]) rfl
  case inr.inr.inr.inr.inr.inl => exact again _ _ rfl (fun t d => withStatus_none hnone _) rfl
  case inr.inr.inr.inr.inr.inr.inl => exact again _ _ rfl (fun t d => withStatus_none hnone _) rfl
  case inr.inr.inr.inr.inr.inr.inr.inl => exact again _ _ rfl (fun t d => withStatus_none hnone _) rfl
  case inr.inr.inr.inr.inr.inr.inr.inr => exact again _ _ rfl (fun t d => withStatus_none hnone _) rfl

end

theorem blocksRead_single {w k : Nat} {l : LineBits} {b : Bytes} (h : blockRead w k l = some b) : blocksRead w k [l] = some [b] := by
  simp [blocksRead, h]

section
variable (hwf : s.boards.slots.wf noSlot = true) (n : Fin 4) {v : BitVec 32} (hv : Plain v) {sent : Nat → Nat → Slot} (hsent : ∀ i a, sent i a = { s.slot n.val with cmd := commandFrame i a })
include hwf hsent hv

/-- A command that goes on from its status word to one write of its slot. -/
theorem setsSlot_of_status {c : Instr} {i a : Nat} {ok : LinkState → Bool} {l : LinkState} {f : State → Slot → Slot → State} {x : Slot} (h : OnLink s n l) (hok : ok l = true)
    (hrun : exec c s = .next (s.onLink n i a ok (fun t d => t.withStatus n i (shortAnswer i v) (f t d))))
    (hf : f (s.setSlot n (sent i a)) (sent i a) (answeredSlot (sent i a) v) = (s.setSlot n (sent i a)).setSlot n x) : SetsSlot c s n x := by
  rw [SetsSlot, hrun, statusCommand hwf hsent h hok hv, hf, setSlot_setSlot hwf]

theorem mhReadCheck_passes {l : LineBits} (h : OnLink s n .transfer) (hgot : blockRead (lineCount (s.slot n.val).mode) 64 l = some checkPattern) :
    SetsSlot (.mhReadCheck n (shortAnswer 8 v) l) s n.val { answeredSlot (sent 8 0) v with lines := l, checked := true } := by
  refine setsSlot_of_status hwf n hv hsent h rfl rfl (if_pos ?_)
  rw [show (answeredSlot (sent 8 0) v).mode = (s.slot n.val).mode from sent_mode hsent 8 0, hgot]

theorem mhReadCheck_fails {l : LineBits} (h : OnLink s n .transfer) (hgot : blockRead (lineCount (s.slot n.val).mode) 64 l ≠ some checkPattern) (hmode : 1 < (s.slot n.val).mode) :
    SetsSlot (.mhReadCheck n (shortAnswer 8 v) l) s n.val { answeredSlot (sent 8 0) v with
        lines := l, checked := false, mode := (s.slot n.val).mode - 1
        crcErrors := if (blockRead (lineCount (s.slot n.val).mode) 64 l).isSome then (s.slot n.val).crcErrors else sat 16 ((s.slot n.val).crcErrors + 1) } := by
  rw [← sent_crcErrors hsent 8 0]
  rw [← sent_mode hsent 8 0] at hgot hmode ⊢
  exact setsSlot_of_status hwf n hv hsent h rfl rfl ((if_neg hgot).trans (if_neg (Nat.not_le.mpr hmode)))

theorem mhReadBlocks_reads {blk : BitVec 32} {bl : List LineBits} {l : List Bytes} (h : OnLink s n .transfer) (hrange : v.getLsbD 31 = false)
    (hgot : blocksRead (lineCount (s.slot n.val).mode) 512 bl = some l) :
    SetsSlot (.mhReadBlocks n blk (shortAnswer 17 v) bl) s n.val { (answeredSlot (sent 17 blk.toNat) v).at_ (if (s.slot n.val).count.isSome then .transfer else .sending) with
        count := none, lines := bl.getLastD [], block := l.getLastD [] } := by
  refine setsSlot_of_status hwf n hv hsent h rfl rfl ((if_neg (by rw [answeredSlot, hrange]; decide)).trans ?_)
  rw [show (answeredSlot (sent 17 blk.toNat) v).mode = (s.slot n.val).mode from sent_mode hsent _ _, hgot, ← sent_count hsent 17 blk.toNat]
  rfl

theorem mhWriteBlocks_accepted {blk : BitVec 32} {data : Bytes} {token : BitVec 5} (h : OnLink s n .transfer) (hrange : v.getLsbD 31 = false) (hprot : v.getLsbD 30 = false)
    (htoken : tokenOf token = some 2) :
    SetsSlot (.mhWriteBlocks n blk data (shortAnswer 18 v) token) s n.val { (answeredSlot (sent 18 blk.toNat) v).at_ (if (s.slot n.val).count.isSome then .transfer else .receiving) with
        count := none, lines := blockLines (lineCount (s.slot n.val).mode) (lastBlock data) } := by
  rw [← sent_count hsent 18 blk.toNat, ← sent_mode hsent 18 blk.toNat]
  exact setsSlot_of_status hwf n hv hsent h rfl rfl ((if_neg (by rw [answeredSlot, hrange, hprot]; decide)).trans (if_neg (not_not.mpr htoken)))

theorem mhWriteBlocks_again {blk : BitVec 32} {data : Bytes} {token : BitVec 5} (h : OnLink s n .transfer) (hrange : v.getLsbD 31 = false) (hprot : v.getLsbD 30 = false)
    (htoken : tokenOf token ≠ some 2) (hless : (s.slot n.val).repeats < 3) :
    SetsSlot (.mhWriteBlocks n blk data (shortAnswer 18 v) token) s n.val { sent 12 0 with
        status := v, count := none, lines := blockLines (lineCount (s.slot n.val).mode) (lastBlock data), repeats := (s.slot n.val).repeats + 1
        crcErrors := if tokenOf token = some 5 then sat 16 ((s.slot n.val).crcErrors + 1) else (s.slot n.val).crcErrors } := by
  refine setsSlot_of_status hwf n hv hsent h rfl rfl ((if_neg (by rw [answeredSlot, hrange, hprot]; decide)).trans ((if_pos htoken).trans ?_))
  rw [slot_setSlot hwf, sent_repeats hsent]
  rw [linkFail_again (setSlot_wf hwf _ _) (by exact hless), setSlot_setSlot hwf, setSlot_setSlot hwf]
  rw [hsent, hsent]
  generalize commandFrame 18 blk.toNat = f
  generalize commandFrame 12 0 = g
  simp only [answeredSlot, decide_eq_true_eq]

theorem mhReadKey_reads {l : LineBits} {b : Bytes} (h : OnLink s n .transfer) (hgot : blockRead (lineCount (s.slot n.val).mode) 512 l = some b) :
    SetsSlot (.mhReadKey n (shortAnswer 37 v) l) s n.val { answeredSlot (sent 37 0) v with lines := l, block := b, keyBlock := b } := by
  refine (congrArg Host.Outcome.next (onLink_of_onLink hsent h rfl)).trans ?_
  rw [← sent_mode hsent 37 0] at hgot
  rw [withBlocks_read (shortPayload_shortAnswer 37 v) hv (slot_setSlot hwf n _) (blocksRead_single hgot)]
  exact congrArg Host.Outcome.next (setSlot_setSlot hwf _ _ _)

end

/-- Settles O41: each link command's answer read back, and the one write of its slot. -/
theorem linkCommands : Obligations.LinkCommands := by
  unfold Obligations.LinkCommands
  refine ⟨fun k v i => ⟨shortPayload_shortAnswer _ _, longPayload_longAnswer i⟩, blockRead_lineCount, fun s n v blk k sent hwf hv hsent => ?_⟩
  have status := fun {c i a ok l f x} => setsSlot_of_status hwf n hv hsent (c := c) (i := i) (a := a) (ok := ok) (l := l) (f := f) (x := x)
  refine ⟨?goIdle, ?identReady, ?identBusy, ?readIdent, ?select, ?switch, fun l => mhReadCheck_passes hwf n hv hsent, fun l => mhReadCheck_fails hwf n hv hsent, ?stopWrite, ?stopRead, ?status,
    fun bl l => mhReadBlocks_reads hwf n hv hsent, ?readRange, fun data token => mhWriteBlocks_accepted hwf n hv hsent, fun data token => mhWriteBlocks_again hwf n hv hsent, ?setCount,
    fun l b => mhReadKey_reads hwf n hv hsent, ?sleep, ?wake, fun f c i a l => setsSlot_again hwf n hsent blk, ?illegal, ?unpowered⟩
  case goIdle =>
    intro hruns hseated hstate hsession
    exact congrArg Host.Outcome.next (if_neg (by simp [hruns, hseated, hstate, hsession]))
  case identReady =>
    intro h hready
    refine (congrArg Host.Outcome.next (onLink_of_onLink hsent h rfl)).trans ?_
    rw [shortPayload_shortAnswer]
    exact congrArg Host.Outcome.next ((if_pos hready).trans (setSlot_setSlot hwf _ _ _))
  case identBusy =>
    intro h hready
    refine (congrArg Host.Outcome.next (onLink_of_onLink hsent h rfl)).trans ?_
    rw [shortPayload_shortAnswer]
    exact congrArg Host.Outcome.next ((if_neg (by rw [hready]; decide)).trans (setSlot_setSlot hwf _ _ _))
  case readIdent =>
    intro i h hknown
    refine (congrArg Host.Outcome.next (onLink_of_onLink hsent h rfl)).trans ?_
    rw [longPayload_longAnswer]
    exact congrArg Host.Outcome.next ((if_pos hknown).trans (setSlot_setSlot hwf _ _ _))
  case select => exact fun h => status h rfl rfl rfl
  case switch =>
    intro m h hm hgen
    have hallowed : ¬(m.val = 0 ∨ ((s.slot n.val).gen ≠ 2 ∧ 2 < m.val)) := by
      have hpos : m.val ≠ 0 := fun he => hm (Fin.ext he)
      omega
    exact status h rfl (congrArg Host.Outcome.next (if_neg hallowed)) rfl
  case stopWrite => exact fun h => status h rfl rfl (by rw [if_pos ((sent_link hsent 12 0).trans h.2.2.2)]; rfl)
  case stopRead => exact fun h => status h rfl rfl (by rw [if_neg (by rw [sent_link hsent 12 0, h.2.2.2]; decide)]; rfl)
  case status =>
    intro w h
    refine (congrArg Host.Outcome.next (onLink_of_onLink hsent h rfl)).trans ?_
    rw [shortPayload_shortAnswer, ← sent_link hsent 13 0]
    exact congrArg Host.Outcome.next (setSlot_setSlot hwf _ _ _)
  case readRange => exact fun bl h hrange => status h rfl rfl (if_pos hrange)
  case setCount =>
    intro h hk
    exact status h rfl (congrArg Host.Outcome.next (if_neg fun he => hk (BitVec.eq_of_toNat_eq he))) rfl
  case sleep =>
    intro h hgen
    rw [← sent_state hsent 40 0]
    exact status h rfl (congrArg Host.Outcome.next (if_neg (not_not.mpr hgen))) rfl
  case wake =>
    intro h hgen
    rw [← sent_state hsent 41 0]
    exact status h rfl (congrArg Host.Outcome.next (if_neg (not_not.mpr hgen))) rfl
  case illegal =>
    intro f c i a hruns hpower hstate hlink hmem
    have hout : ∀ g : State → Slot → State, exec c s = .next (s.onLink n i a inTransfer g) → SetsSlot c s n (sent i a) := fun g hrun => by
      rw [SetsSlot, hrun, onLink_of_powered hsent hruns hpower hstate, if_neg (by simpa [inTransfer] using hlink)]
    simp only [List.mem_cons, List.not_mem_nil, or_false, Prod.mk.injEq] at hmem
    rcases hmem with ⟨rfl, rfl, rfl⟩ | ⟨rfl, rfl, rfl⟩ | ⟨rfl, rfl, rfl⟩ | ⟨rfl, rfl, rfl⟩ | ⟨rfl, rfl, rfl⟩ | ⟨rfl, rfl, rfl⟩
    · exact hout _ (congrArg Host.Outcome.next (if_neg (by simp)))
    · exact hout _ rfl
    · exact hout _ rfl
    · exact hout _ rfl
    · exact hout _ (congrArg Host.Outcome.next (if_neg (by decide)))
    · exact hout _ rfl
  case unpowered =>
    intro f c hmem hpower
    have hnot : ∀ {i a ok} {g : State → Slot → State}, s.onLink n i a ok g = s := onLink_of_unpowered hpower
    simp only [List.mem_cons, List.not_mem_nil, or_false] at hmem
    rcases hmem with rfl | rfl | rfl | rfl | rfl | rfl | rfl | rfl | rfl | rfl | rfl | rfl | rfl
    · exact congrArg Host.Outcome.next hnot
    · exact congrArg Host.Outcome.next hnot
    · exact congrArg Host.Outcome.next hnot
    · exact congrArg Host.Outcome.next ((if_neg (by simp)).trans hnot)
    · exact congrArg Host.Outcome.next hnot
    · exact congrArg Host.Outcome.next hnot
    · exact congrArg Host.Outcome.next hnot
    · exact congrArg Host.Outcome.next hnot
    · exact congrArg Host.Outcome.next hnot
    · exact congrArg Host.Outcome.next ((if_neg (by decide)).trans hnot)
    · exact congrArg Host.Outcome.next hnot
    · exact congrArg Host.Outcome.next (ite_eq_left_iff.mpr fun _ => hnot)
    · exact congrArg Host.Outcome.next (ite_eq_left_iff.mpr fun _ => hnot)

end Sys2Proof.Proofs
end


section
/-! SUPPORT. The public-key pool on a command's behalf, cartridge writes and the vault image (R221, R250, R251, R320). -/

namespace Sys2Proof.Proofs

open Sys2Proof Sys2Proof.Machine Sys2Proof.Safety

variable {s t u b : State} {n : Nat}

/-! A command's operations on the pool. -/

/-- Only the completions of the pool differ. -/
def PoolDone (s u : State) : Prop := ∃ d, u = { s with crypto := { s.crypto with pke := { s.crypto.pke with done := d } } }

theorem poolDone_foldl {α : Type} (f : α → PkeDone) (l : List α) (s : State) : PoolDone s (l.foldl (fun s a => s.pushPke (f a)) s) := by
  refine List.foldlRecOn l _ (motive := fun u => PoolDone s u) ⟨_, rfl⟩ ?_
  rintro _ ⟨d, rfl⟩ a -
  exact ⟨_, rfl⟩

theorem poolTake_of_engines {cls : Fin 4} (h : ∀ short, (s.poolEngine cls short []).isSome = true) (l : List (Nat × PkeReq)) (taken : List Nat) :
    (s.poolTake cls false l taken).isSome = true := by
  induction l generalizing taken with
  | nil => rfl
  | cons o r ih =>
    obtain ⟨e, he⟩ := Option.isSome_iff_exists.mp (h (opShort o.1 o.2))
    show ((s.poolEngine cls (opShort o.1 o.2) []).bind _).isSome = true
    rw [he]
    exact ih _

/-- A pool that serves a class runs what its command asks, and nothing but the completions shows it. -/
theorem poolRun_of_serves {cls : Fin 4} (h : PoolServes s cls) (owner ticket : Nat) (outs : List (Nat × PkeReq × PkeOut)) :
    ∃ u, s.poolRun owner ticket cls false outs = some u ∧ PoolDone s u := by
  obtain ⟨⟨hwarn, hswitch⟩, hengines⟩ := h
  obtain ⟨es, hes⟩ := Option.isSome_iff_exists.mp (poolTake_of_engines hengines (outs.map fun o => (o.1, o.2.1)) [])
  refine ⟨_, ?_, poolDone_foldl (fun p : Nat × Nat × PkeReq × PkeOut =>
    { op := p.2.1, owner := owner, slot := p.2.2.1.slot.val, ticket := ticket, status := p.2.2.2.status, engine := 0x6000 + p.1, attempts := p.2.2.2.attempts, time := sat 32 p.2.2.2.time }) (es.zip outs) s⟩
  rw [State.poolRun, if_neg (by simp [State.enginesPaused, hwarn, hswitch]), hes]
  rfl

/-! What a cartridge write leaves. -/

/-- Only the boards and the count of drawn bytes differ. -/
def BoardsDrawn (s u : State) : Prop := u = { s with boards := u.boards, drawn := u.drawn }

theorem BoardsDrawn.trans (h : BoardsDrawn s t) (h' : BoardsDrawn t u) : BoardsDrawn s u := by
  unfold BoardsDrawn at h h' ⊢
  rw [h', h]

theorem boardsDrawn_setSlot (s : State) (n : Nat) (c : Slot) : BoardsDrawn s (s.setSlot n c) := rfl
theorem boardsDrawn_drewBytes (s : State) (k : Nat) : BoardsDrawn s (s.drewBytes k) := rfl
theorem boardsDrawn_cartOut (s : State) (w : CartWrite) : BoardsDrawn s (s.cartOut w) := rfl

theorem cartOut_out (s : State) (w : CartWrite) : (s.cartOut w).boards.out = s.boards.out ++ [w] := rfl

theorem cartOut_wf (h : s.boards.slots.wf noSlot = true) (w : CartWrite) : (s.cartOut w).boards.slots.wf noSlot = true := Laws.set_wf _ _ _ _ h

theorem cartOut_slot (h : s.boards.slots.wf noSlot = true) (w : CartWrite) (m : Nat) :
    (s.cartOut w).slot m = if m = w.slot then { s.slot w.slot with lines := blockLines (lineCount (s.slot w.slot).mode) (w.blocks.getLastD []) } else s.slot m := get_set h _ _ _

/-! The vault image. -/

/-- Only the events of the open tick differ. -/
def EventsOnly (s u : State) : Prop := ∃ ev, u = { s with ledger := { s.ledger with events := ev } }

theorem eventsOnly_addEvent (s : State) (type : Nat) (body : Bytes) : EventsOnly s (s.addEvent type body) := by
  unfold State.addEvent
  split
  · exact ⟨_, rfl⟩
  · exact ⟨_, rfl⟩

theorem eventsOnly_foldl {α : Type} (type : Nat) (body : α → Bytes) (l : List α) (s : State) : EventsOnly s (l.foldl (fun s a => s.addEvent type (body a)) s) := by
  refine List.foldlRecOn l _ (motive := fun u => EventsOnly s u) ⟨_, rfl⟩ ?_
  rintro _ ⟨ev, rfl⟩ a -
  obtain ⟨ev', hev⟩ := eventsOnly_addEvent { s with ledger := { s.ledger with events := ev } } type (body a)
  exact ⟨ev', hev⟩

/-- Only the images, what they replace, and the events of the open tick differ (R250, R251). -/
def ImageOnly (s u : State) : Prop :=
  ∃ ev i0 i1 n d p sr, u = { s with
    ledger := { s.ledger with events := ev }
    vault := { s.vault with image0 := i0, image1 := i1, imageSerial := n, imageDue := d, pages := p, shredding := sr } }

theorem shred_says (s : State) : ImageOnly s s.shred ∧ s.shred.vault.imageSerial = s.vault.imageSerial := by
  unfold State.shred
  split
  · exact ⟨⟨_, _, _, _, _, _, _, rfl⟩, rfl⟩
  · obtain ⟨ev, hev⟩ := eventsOnly_foldl 0xB (fun p : Nat × Nat => leBytes 1 p.1 ++ zeros 3 ++ leBytes 4 p.2) s.vault.shredding s.eraseOld
    rw [hev]
    exact ⟨⟨_, _, _, _, _, _, _, rfl⟩, rfl⟩

/-- A vault with its key writes the next image (R251). -/
theorem writeImage_says {k : Bytes} (hk : s.vault.vaultKey = some k) : ImageOnly s s.writeImage ∧ s.writeImage.vault.imageSerial = s.vault.imageSerial + 1 := by
  obtain ⟨⟨ev, i0, i1, m, d, p, sh, hshred⟩, hserial⟩ := shred_says s
  rw [hshred] at hserial
  rw [State.writeImage, if_neg (by simp [hk]), State.programImage, hk]
  dsimp only
  rw [hshred]
  exact ⟨⟨_, _, _, _, _, _, _, rfl⟩, congrArg (· + 1) hserial⟩

end Sys2Proof.Proofs
end


section
/-! SUPPORT. The replay-protected area and the pairing of a cartridge (R330 to R334). -/

namespace Sys2Proof.Proofs

open Sys2Proof Sys2Proof.Machine Sys2Proof.Safety

variable {s t u b : State} {n : Nat}

theorem readyAfterRpa_of_ready (h : (s.slot n).state = .ready) : s.readyAfterRpa n = s :=
  if_neg fun hc => absurd (h.symm.trans hc.1) (by decide)

theorem cartKey_of_ident {m : Nat} (hv : t.vault = s.vault) (hi : (t.slot m).ident = (s.slot m).ident) : t.cartKey m = s.cartKey m := by
  simp only [State.cartKey, Slot.maker, Slot.serial, hv, hi]

theorem cartOut_rpa_slot (h : s.boards.slots.wf noSlot = true) {c : Slot} (hc : s.slot n = c) (frames : List Bytes) (m : Nat) :
    (s.cartOut (.rpa n frames)).slot m = if m = n then { c with lines := blockLines (lineCount c.mode) (frames.getLastD []) } else s.slot m := by
  subst hc
  exact cartOut_slot h _ m

/-- The state in which the frames of a request have gone out under a fresh NONCE. -/
def asked (s : State) (n : Nat) (c : Slot) (frames : List Bytes) : State := ((s.setSlot n c).cartOut (.rpa n frames)).drewBytes 16

theorem asked_says (hwf : s.boards.slots.wf noSlot = true) (n : Fin 4) (c : Slot) (frames : List Bytes) : BoardsDrawn s (asked s n c frames) ∧ (asked s n c frames).drawn = s.drawn + 16 ∧ (asked s n c frames).boards.out = s.boards.out ++ [.rpa n frames] ∧
    (asked s n c frames).boards.slots.wf noSlot = true ∧ (∀ m, m ≠ n.val → (asked s n c frames).slot m = s.slot m) ∧
    (asked s n c frames).slot n = { c with lines := blockLines (lineCount c.mode) (frames.getLastD []) } := by
  have hslot := cartOut_rpa_slot (setSlot_wf hwf n c) (slot_setSlot hwf n c) frames
  refine ⟨rfl, rfl, rfl, cartOut_wf (setSlot_wf hwf n c) _, fun m hm => ?_, ?_⟩
  · exact (hslot m).trans ((if_neg hm).trans ((setSlot_slot hwf n m c).trans (if_neg hm)))
  · exact (hslot n).trans (if_pos rfl)

theorem cartKey_sent (hwf : s.boards.slots.wf noSlot = true) {sent : Nat → Nat → Slot} (hsent : ∀ i a, sent i a = { s.slot n with cmd := commandFrame i a }) (i a : Nat) :
    (s.setSlot n (sent i a)).cartKey n = s.cartKey n := by
  refine cartKey_of_ident rfl ?_
  rw [slot_setSlot hwf, hsent]

section
variable (hwf : s.boards.slots.wf noSlot = true) (n : Fin 4) {v : BitVec 32} (hv : Plain v) {sent : Nat → Nat → Slot} (hsent : ∀ i a, sent i a = { s.slot n.val with cmd := commandFrame i a })
  (hlink : OnLink s n .transfer)
include hwf hsent hlink

/-- Without a key a command of the area goes out, and nothing is read (R331). -/
theorem mhRpaRead_without_key (hkey : s.cartKey n.val = none) (f : BitVec 48) (l : List LineBits) : SetsSlot (.mhRpaRead n f l) s n (sent 32 (if (s.slot n.val).rpaWriting then 1 else 16)) := by
  refine (congrArg Host.Outcome.next (onLink_of_onLink hsent hlink rfl)).trans ?_
  rw [cartKey_sent hwf hsent, hkey]

theorem mhCounterRead_without_key (hkey : s.cartKey n.val = none) (hready : (s.slot n.val).state = .ready) (f : BitVec 48) (l : LineBits) :
    SetsSlot (.mhCounterRead n f l) s n { sent 32 1 with enrolled := false } := by
  refine (congrArg Host.Outcome.next (onLink_of_onLink hsent hlink rfl)).trans ?_
  rw [cartKey_sent hwf hsent, hkey]
  dsimp only
  rw [setSlot_setSlot hwf, readyAfterRpa_of_ready]
  rw [slot_setSlot hwf]
  exact (sent_state hsent 32 1).trans hready

include hv

theorem mhCounterRead_with_key {key : Bytes} (hkey : s.cartKey n.val = some key) {l : LineBits} {f : Bytes} (hf : blockRead (lineCount (s.slot n.val).mode) 512 l = some f) :
    ∃ u, exec (.mhCounterRead n (shortAnswer 32 v) l) s = .next u ∧ u = { s with boards := u.boards, drawn := s.drawn + 16 } ∧
        u.boards.out = s.boards.out ++ [.rpa n.val (rpaFrames key [rpaPart [] (s.drawBytes 16) 0 0 0 1])] ∧ (∀ m, m ≠ n.val → u.slot m = s.slot m) ∧
        u.slot n.val = (if rpaVerify key (s.drawBytes 16) 0x0101 [f] && rpaOk [f]
          then { sent 32 1 with status := v, repeats := 0, lines := l, block := f, enrolled := true, rpaCounter := fld f 272 4 } else { sent 32 1 with status := v, repeats := 0, lines := l, block := f }) := by
  obtain ⟨t, ht⟩ : ∃ t, t = asked s n (sent 32 1) (rpaFrames key [rpaPart [] (s.drawBytes 16) 0 0 0 1]) := ⟨_, rfl⟩
  obtain ⟨hboards, hdrawn, hout, htwf, hothers, hslot⟩ := asked_says hwf n (sent 32 1) (rpaFrames key [rpaPart [] (s.drawBytes 16) 0 0 0 1])
  rw [← ht] at hboards hdrawn hout htwf hothers hslot
  obtain ⟨c, hc⟩ : ∃ c, c = (if rpaVerify key (s.drawBytes 16) 0x0101 [f] && rpaOk [f]
          then { sent 32 1 with status := v, repeats := 0, lines := l, block := f, enrolled := true, rpaCounter := fld f 272 4 } else { sent 32 1 with status := v, repeats := 0, lines := l, block := f }) := ⟨_, rfl⟩
  have hrun : exec (.mhCounterRead n (shortAnswer 32 v) l) s = .next (t.setSlot n c) := by
    refine (congrArg Host.Outcome.next (onLink_of_onLink hsent hlink rfl)).trans ?_
    rw [cartKey_sent hwf hsent, hkey]
    dsimp only
    have hread := withBlocks_read (s := t) (n := n) (l := [l]) (bs := [f]) (shortPayload_shortAnswer 32 v) hv hslot (blocksRead_single (by rw [← hf, ← sent_mode hsent 32 1]))
    refine congrArg Host.Outcome.next (Eq.trans (by rw [ht]; rfl) ((hread _).trans ?_))
    rw [hc, apply_ite (t.setSlot n.val)]
    rfl
  refine ⟨_, hrun, ?_, hout, fun m hm => ?_, ?_⟩
  · rw [← hdrawn]
    exact hboards.trans (boardsDrawn_setSlot t n c)
  · rw [setSlot_slot htwf, if_neg hm, hothers m hm]
  · rw [slot_setSlot htwf, hc]

end

/-- The units of a write go out under the counter, and the write stands under way (R332). -/
theorem rpaSend_says {key : Bytes} {c : Slot} (hwf : s.boards.slots.wf noSlot = true) (hc : s.slot n = c) (hkey : s.cartKey n = some key) (addr : Nat) (units : List Bytes) :
    (∀ m, m ≠ n → (s.rpaSend n addr units).slot m = s.slot m) ∧
      (∃ lines, (s.rpaSend n addr units).slot n = { c with lines := lines, rpaMac := rpaMac key (units.map fun u => rpaPart u (s.drawBytes 16) c.rpaCounter addr units.length 2), rpaSent := units
                                                           rpaNonce := (s.drewBytes 16).drawBytes 16, rpaWriting := true, rpaAddr := addr, rpaMaker := c.maker, rpaSerial := c.serial }) ∧
      (s.rpaSend n addr units).boards.out = s.boards.out ++ [.rpa n (rpaFrames key (units.map fun u => rpaPart u (s.drawBytes 16) c.rpaCounter addr units.length 2)),
        .rpa n (rpaFrames key [rpaPart [] ((s.drewBytes 16).drawBytes 16) 0 0 0 4])] := by
  obtain ⟨fr, hfr⟩ : ∃ fr, fr = rpaFrames key (units.map fun u => rpaPart u (s.drawBytes 16) c.rpaCounter addr units.length 2) := ⟨_, rfl⟩
  obtain ⟨fr', hfr'⟩ : ∃ fr', fr' = rpaFrames key [rpaPart [] ((s.drewBytes 16).drawBytes 16) 0 0 0 4] := ⟨_, rfl⟩
  obtain ⟨t, ht⟩ : ∃ t, t = ((s.drewBytes 32).cartOut (.rpa n fr)).cartOut (.rpa n fr') := ⟨_, rfl⟩
  have hgo : s.rpaSend n addr units = t.setSlot n { t.slot n with
      rpaMac := rpaMac key (units.map fun u => rpaPart u (s.drawBytes 16) c.rpaCounter addr units.length 2), rpaSent := units
      rpaNonce := (s.drewBytes 16).drawBytes 16, rpaWriting := true, rpaAddr := addr, rpaMaker := c.maker, rpaSerial := c.serial } := by
    rw [State.rpaSend, hkey, ht, hfr, hfr', ← hc]
  have hw := cartOut_wf (s := s.drewBytes 32) hwf (.rpa n fr)
  have h1 := cartOut_rpa_slot (s := s.drewBytes 32) hwf hc fr
  have h2 := cartOut_rpa_slot hw ((h1 n).trans (if_pos rfl)) fr'
  rw [← ht] at h2
  have htwf : t.boards.slots.wf noSlot = true := ht ▸ cartOut_wf hw _
  rw [hgo]
  refine ⟨fun m hm => ?_, ⟨blockLines (lineCount c.mode) (fr'.getLastD []), ?_⟩, ?_⟩
  · rw [setSlot_slot htwf, if_neg hm]
    exact (h2 m).trans ((if_neg hm).trans ((h1 m).trans (if_neg hm)))
  · rw [slot_setSlot htwf, h2 n, if_pos rfl]
  · rw [ht, hfr, hfr']
    exact List.append_assoc _ _ _

section
variable (hwf : s.boards.slots.wf noSlot = true) (n : Fin 4) {v : BitVec 32} (hv : Plain v) {sent : Nat → Nat → Slot} (hsent : ∀ i a, sent i a = { s.slot n.val with cmd := commandFrame i a })
  (hlink : OnLink s n .transfer)
include hwf hv hsent hlink

theorem mhRpaWrite_sends {key : Bytes} (hkey : s.cartKey n.val = some key) {addr : Nat} {units : List Bytes} (henrolled : (s.slot n.val).enrolled = true) (hidle : (s.slot n.val).rpaWriting = false)
    (hsome : 1 ≤ units.length) (hfew : units.length ≤ 16) (hroom : addr + units.length ≤ 16384) :
    ∃ u, exec (.mhRpaWrite n addr units (shortAnswer 33 v)) s = .next u ∧ (u.slot n.val).rpaWriting = true ∧ (u.slot n.val).rpaSent = units.map (fitTo 256) ∧ (u.slot n.val).rpaAddr = addr ∧
          (u.slot n.val).rpaCounter = (s.slot n.val).rpaCounter ∧ (u.slot n.val).cmd = commandFrame 33 units.length ∧
          u.boards.out = s.boards.out ++ [.rpa n.val (rpaFrames key (units.map (fun x => rpaPart (fitTo 256 x) (s.drawBytes 16) (s.slot n.val).rpaCounter addr units.length 2))),
            .rpa n.val (rpaFrames key [rpaPart [] (u.slot n.val).rpaNonce 0 0 0 4])] ∧ ∀ m, m ≠ n.val → u.slot m = s.slot m := by
  obtain ⟨c, hc⟩ : ∃ c, c = answeredSlot (sent 33 units.length) v := ⟨_, rfl⟩
  have hcounter : c.rpaCounter = (s.slot n.val).rpaCounter := by rw [hc, answeredSlot, hsent]
  have hcmd : c.cmd = commandFrame 33 units.length := by rw [hc, answeredSlot, hsent]
  have hrun : exec (.mhRpaWrite n addr units (shortAnswer 33 v)) s = .next ((s.setSlot n c).rpaSend n addr (units.map (fitTo 256))) := by
    refine congrArg Host.Outcome.next ((if_pos ⟨henrolled, by rw [hidle]; decide, hsome, hfew, hroom⟩).trans ?_)
    rw [onLink_of_onLink hsent hlink rfl, withStatus_plain hwf hv, setSlot_setSlot hwf, hc]
  have hkey' : (s.setSlot n c).cartKey n = some key := by
    rw [← hkey]
    refine cartKey_of_ident rfl ?_
    rw [slot_setSlot hwf, hc, answeredSlot, hsent]
  obtain ⟨hothers, ⟨lines, hslot⟩, hout⟩ := rpaSend_says (setSlot_wf hwf n c) (slot_setSlot hwf n c) hkey' addr (units.map (fitTo 256))
  refine ⟨_, hrun, ?_, ?_, ?_, ?_, ?_, ?_, fun m hm => ?_⟩
  · rw [hslot]
  · rw [hslot]
  · rw [hslot]
  · rw [hslot]
    exact hcounter
  · rw [hslot]
    exact hcmd
  · rw [hout, hslot, hcounter, List.length_map, List.map_map]
    rfl
  · rw [hothers m hm, setSlot_slot hwf, if_neg hm]

/-- The result of a write that holds takes the counter one up (R332). -/
theorem mhRpaRead_result {key : Bytes} (hkey : s.cartKey n.val = some key) {l : List LineBits} {f : Bytes} (hwriting : (s.slot n.val).rpaWriting = true)
    (hf : blocksRead (lineCount (s.slot n.val).mode) 512 l = some [f]) (hmac : rpaVerify key (s.slot n.val).rpaNonce 0x0104 [f] = true) (hok : rpaOk [f] = true)
    (hcounter : fld f 272 4 = (s.slot n.val).rpaCounter + 1) :
    ∃ u, exec (.mhRpaRead n (shortAnswer 32 v) l) s = .next u ∧ (u.slot n.val).rpaCounter = (s.slot n.val).rpaCounter + 1 ∧ (u.slot n.val).rpaWriting = false ∧
          ∀ m, m ≠ n.val → u.slot m = s.slot m := by
  have hw : (sent 32 1).rpaWriting = true := by rw [hsent]; exact hwriting
  have hn : (sent 32 1).rpaNonce = (s.slot n.val).rpaNonce := by rw [hsent]
  have hcnt : (sent 32 1).rpaCounter = (s.slot n.val).rpaCounter := by rw [hsent]
  obtain ⟨c, hc⟩ : ∃ c : Slot, c = { answeredSlot (sent 32 1) v with lines := l.getLastD [], block := [f].getLastD [] } := ⟨_, rfl⟩
  have hcc : c.rpaCounter = (s.slot n.val).rpaCounter := by rw [hc]; exact hcnt
  have hcn : c.rpaNonce = (s.slot n.val).rpaNonce := by rw [hc]; exact hn
  have hrun : exec (.mhRpaRead n (shortAnswer 32 v) l) s = .next ((s.setSlot n c).rpaDone n) := by
    refine congrArg Host.Outcome.next ?_
    unfold State.mhRpaRead
    rw [if_pos hwriting, onLink_of_onLink hsent hlink rfl, cartKey_sent hwf hsent, hkey]
    dsimp only
    rw [if_pos hw, withBlocks_read (bs := [f]) (shortPayload_shortAnswer 32 v) hv (slot_setSlot hwf n _) (by rw [← hf, ← sent_mode hsent 32 1]), ← hc]
    rw [if_pos ⟨rfl, by rw [hcn, hmac]⟩, if_pos (by rw [hok, hcc, List.headD_cons, hcounter]; simp), setSlot_setSlot hwf]
  have hslot : ∀ m, ((s.setSlot n c).rpaDone n).slot m = if m = n.val then { c with
      rpaCounter := c.rpaCounter + 1, rpaWriting := false
      manifest := if c.rpaAddr = 0 ∧ c.rpaSent.length = 16 then some c.rpaSent.flatten else c.manifest } else s.slot m := by
    intro m
    unfold State.rpaDone
    rw [slot_setSlot hwf, setSlot_setSlot hwf, setSlot_slot hwf]
  refine ⟨_, hrun, ?_, ?_, fun m hm => ?_⟩
  · rw [hslot, if_pos rfl]
    exact congrArg (· + 1) hcc
  · rw [hslot, if_pos rfl]
  · rw [hslot, if_neg hm]

/-- A manifest that holds is kept (R333). -/
theorem mhRpaRead_manifest {key : Bytes} (hkey : s.cartKey n.val = some key) {l : List LineBits} {bs : List Bytes} (hwriting : (s.slot n.val).rpaWriting = false) (hready : (s.slot n.val).state = .ready)
    (hf : blocksRead (lineCount (s.slot n.val).mode) 512 l = some bs) (hlen : bs.length = 16) (hmac : rpaVerify key (s.drawBytes 16) 0x0103 bs = true) (hok : rpaOk bs = true) :
    ∃ u, exec (.mhRpaRead n (shortAnswer 32 v) l) s = .next u ∧ u.slot n.val = { sent 32 16 with
          status := v, repeats := 0, lines := l.getLastD [], block := bs.getLastD [], manifest := some (bs.map (fun f => f.take 256)).flatten } ∧ ∀ m, m ≠ n.val → u.slot m = s.slot m := by
  have hw : (sent 32 16).rpaWriting = false := by rw [hsent]; exact hwriting
  obtain ⟨t, ht⟩ : ∃ t, t = asked s n (sent 32 16) (rpaFrames key [rpaPart [] (s.drawBytes 16) 0 0 16 3]) := ⟨_, rfl⟩
  obtain ⟨-, -, -, htwf, hothers, hslot⟩ := asked_says hwf n (sent 32 16) (rpaFrames key [rpaPart [] (s.drawBytes 16) 0 0 16 3])
  rw [← ht] at htwf hothers hslot
  obtain ⟨c, hc⟩ : ∃ c : Slot, c = { sent 32 16 with
          status := v, repeats := 0, lines := l.getLastD [], block := bs.getLastD [], manifest := some (bs.map (fun f => f.take 256)).flatten } := ⟨_, rfl⟩
  have hcs : c.state = .ready := by rw [hc]; exact (sent_state hsent 32 16).trans hready
  have hrun : exec (.mhRpaRead n (shortAnswer 32 v) l) s = .next (t.setSlot n c) := by
    refine congrArg Host.Outcome.next ?_
    unfold State.mhRpaRead
    rw [if_neg (by rw [hwriting]; decide), onLink_of_onLink hsent hlink rfl, cartKey_sent hwf hsent, hkey]
    dsimp only
    rw [if_neg (by rw [hw]; decide)]
    have hread := withBlocks_read (s := t) (n := n) (l := l) (bs := bs) (shortPayload_shortAnswer 32 v) hv hslot (by rw [← hf, ← sent_mode hsent 32 16])
    refine Eq.trans (by rw [ht]; rfl) ((hread _).trans ?_)
    rw [if_pos ⟨hlen, hmac, hok⟩]
    refine Eq.trans (readyAfterRpa_of_ready ?_) ?_
    · rw [slot_setSlot htwf]
      exact (sent_state hsent 32 16).trans hready
    · rw [hc]
      rfl
  exact ⟨_, hrun, by rw [slot_setSlot htwf, hc], fun m hm => by rw [setSlot_slot htwf, if_neg hm, hothers m hm]⟩

end

/-! Pairing (R331). -/

/-- The key that is kept stands under the cartridge's identity, and the others stay. -/
theorem keepPair_pairing (s : State) (maker serial : Nat) (key : Bytes) :
    (∃ p ∈ (s.keepPair maker serial key).vault.pairing, p.maker = maker ∧ p.serial = serial) ∧
      ∀ p ∈ s.vault.pairing, (p.maker = maker ∧ p.serial = serial) ∨ p ∈ (s.keepPair maker serial key).vault.pairing := by
  refine ⟨⟨_, List.mem_append_right _ (List.mem_singleton_self _), rfl, rfl⟩, fun p hp => ?_⟩
  by_cases hsame : p.maker = maker ∧ p.serial = serial
  · exact .inl hsame
  · refine .inr (List.mem_append_left _ (List.mem_filter.mpr ⟨hp, ?_⟩))
    simpa [← not_and_or] using hsame

/-- A pool that serves the class makes the ephemeral key and the shared x, and the PAIR block goes out. -/
theorem pairWith_of_serves {block : Bytes} {q} (hq : p256.decode (block.take 64) = some q) (hserves : PoolServes s 2) :
    ∃ w key u, PoolDone (s.drewBytes p256.seedBytes) u ∧ s.pairWith n block = some (u.cartOut (.pair n w), key) := by
  have hserves' : PoolServes (s.drewBytes p256.seedBytes) 2 := hserves
  unfold State.pairWith
  rw [hq]
  dsimp only
  obtain ⟨u, hu, hdone⟩ := poolRun_of_serves hserves' (0xA000 + n) 0 [(0x40, { owner := 0xA000 + n }, { status := .ok, time := ct256.gen }),
    (0x30, { owner := 0xA000 + n, inputs := [block.take 64] }, { status := .ok, time := ct256.dh })]
  rw [hu]
  exact ⟨_, _, u, hdone, rfl⟩

section
variable (hwf : s.boards.slots.wf noSlot = true) (n : Fin 4) {v : BitVec 32} (hv : Plain v) {sent : Nat → Nat → Slot} (hsent : ∀ i a, sent i a = { s.slot n.val with cmd := commandFrame i a })
  (hlink : OnLink s n .transfer)
include hwf hv hsent hlink

/-- PAIR keeps the cartridge's key, with the next image (R331). -/
theorem mhPair_keeps {q k} (hblock : (s.slot n.val).keyBlock ≠ []) (hvault : s.vault.vaultKey = some k) (hentropy : s.entropyOk = true) (hroom : s.vault.pairing.length < 4096)
    (hq : p256.decode ((s.slot n.val).keyBlock.take 64) = some q) (hserves : PoolServes s 2) :
      ∃ u, exec (.mhPair n (shortAnswer 36 v)) s = .next u ∧ (∃ p ∈ u.vault.pairing, p.maker = (s.slot n.val).maker ∧ p.serial = (s.slot n.val).serial) ∧
        (∀ p ∈ s.vault.pairing, (p.maker = (s.slot n.val).maker ∧ p.serial = (s.slot n.val).serial) ∨ p ∈ u.vault.pairing) ∧ u.vault.imageSerial = s.vault.imageSerial + 1 ∧
        (u.slot n.val).rpaCounter = 0 ∧ (u.slot n.val).enrolled = false ∧ u.vault.epochs = s.vault.epochs := by
  have hkeyBlock : (sent 36 0).keyBlock = (s.slot n.val).keyBlock := by rw [hsent]
  obtain ⟨w, key, r, hdone, hpair⟩ := pairWith_of_serves (s := s.setSlot n (sent 36 0)) (n := n) (block := (sent 36 0).keyBlock) (q := q) (by rw [hkeyBlock]; exact hq) hserves
  have hrv : r.vault = s.vault := by obtain ⟨d, rfl⟩ := hdone; rfl
  have hrwf : r.boards.slots.wf noSlot = true := by obtain ⟨d, rfl⟩ := hdone; exact setSlot_wf hwf n _
  have hrslot : r.slot n = sent 36 0 := by obtain ⟨d, rfl⟩ := hdone; exact slot_setSlot hwf n _
  obtain ⟨t, ht⟩ : ∃ t, t = r.cartOut (.pair n w) := ⟨_, rfl⟩
  have htwf : t.boards.slots.wf noSlot = true := ht ▸ cartOut_wf hrwf _
  have htv : t.vault = s.vault := by rw [ht]; exact hrv
  have htident : (t.slot n.val).ident = (s.slot n.val).ident := by
    rw [ht]
    refine (congrArg Slot.ident ((cartOut_slot hrwf (.pair n w) n).trans (if_pos rfl))).trans ?_
    rw [show (CartWrite.pair n w).slot = n.val from rfl, hrslot, hsent]
  obtain ⟨c, hc⟩ : ∃ c, c = answeredSlot (t.slot n) v := ⟨_, rfl⟩
  have hmaker : c.maker = (s.slot n.val).maker := by rw [hc, Slot.maker, Slot.maker, ← htident]; rfl
  have hserial : c.serial = (s.slot n.val).serial := by rw [hc, Slot.serial, Slot.serial, ← htident]; rfl
  obtain ⟨x, hx⟩ : ∃ x : Slot, x = { c with enrolled := false, rpaCounter := 0, rpaWriting := false, manifest := some (zeros 4096) } := ⟨_, rfl⟩
  have hrun : exec (.mhPair n (shortAnswer 36 v)) s = .next ((((t.setSlot n c).keepPair c.maker c.serial key).setSlot n x).writeImage) := by
    refine congrArg Host.Outcome.next ?_
    unfold State.mhPair
    rw [if_neg (by simp [hblock, hvault, hentropy, Nat.not_le.mpr hroom]), onLink_of_onLink hsent hlink rfl, hpair]
    dsimp only
    rw [← ht]
    rw [withStatus_some (shortPayload_shortAnswer 36 v) hv, ← hc, State.paired, slot_setSlot htwf, hx]
  have hkv : ((((t.setSlot n c).keepPair c.maker c.serial key).setSlot n x)).vault.vaultKey = some k := by rw [← hvault, ← htv]; rfl
  obtain ⟨⟨ev, i0, i1, m, d', p, sr, himage⟩, hnext⟩ := writeImage_says hkv
  obtain ⟨hkept, hothers⟩ := keepPair_pairing (t.setSlot n c) c.maker c.serial key
  rw [hmaker, hserial] at hkept hothers
  have hslot : ((((t.setSlot n c).keepPair c.maker c.serial key).setSlot n x)).slot n = x := slot_setSlot (setSlot_wf htwf n c) n x
  refine ⟨_, hrun, ?_, ?_, ?_, ?_, ?_, ?_⟩
  · rw [himage, hmaker, hserial]
    exact hkept
  · rw [himage, hmaker, hserial, ← htv]
    exact hothers
  · rw [hnext, ← htv]
    rfl
  · rw [himage]
    exact (congrArg Slot.rpaCounter hslot).trans (by rw [hx])
  · rw [himage]
    exact (congrArg Slot.enrolled hslot).trans (by rw [hx])
  · rw [himage, ← htv]
    rfl

end

/-- Settles O42: what each command of the area reads, sends and keeps, by the key of its cartridge. -/
theorem replayProtection : Obligations.ReplayProtection := by
  unfold Obligations.ReplayProtection
  intro s n v sent hlink hwf hv hsent
  refine ⟨fun hkey => ⟨mhRpaRead_without_key hwf n hsent hlink hkey, fun hready => mhCounterRead_without_key hwf n hsent hlink hkey hready⟩,
    fun key hkey => ⟨fun l f => mhCounterRead_with_key hwf n hv hsent hlink hkey, fun addr units => mhRpaWrite_sends hwf n hv hsent hlink hkey,
      fun l f => mhRpaRead_result hwf n hv hsent hlink hkey, fun l bs hwriting hready hf hlen hmac hok => mhRpaRead_manifest hwf n hv hsent hlink hkey hwriting hready hf hlen hmac hok⟩,
    fun q k => mhPair_keeps hwf n hv hsent hlink⟩

end Sys2Proof.Proofs
end


section
/-! SUPPORT. Operator cards: activation, the exchange, authorisation, removal and expiry (R335 to R339). -/

namespace Sys2Proof.Proofs

open Sys2Proof Sys2Proof.Machine Sys2Proof.Safety

variable {s t u b : State} {n : Nat}

/-! One card changes. -/

theorem setCard_card (h : s.boards.cards.wf noCard = true) (n m : Nat) (c : Card) : (s.setCard n c).card m = if m = n then c else s.card m := get_set h n m c

theorem card_setCard (h : s.boards.cards.wf noCard = true) (n : Nat) (c : Card) : (s.setCard n c).card n = c := (setCard_card h n n c).trans (if_pos rfl)

theorem setCard_wf (h : s.boards.cards.wf noCard = true) (n : Nat) (c : Card) : (s.setCard n c).boards.cards.wf noCard = true := Laws.set_wf _ _ _ _ h

theorem setCard_setCard (h : s.boards.cards.wf noCard = true) (n : Nat) (c d : Card) : (s.setCard n c).setCard n d = s.setCard n d := by
  simp only [State.setCard, set_set h]

theorem PanelOnly.card (h : PanelOnly s u) (m : Nat) : u.card m = s.card m := by rw [State.card, State.card, h.cards]

theorem PanelOnly.ledger (h : PanelOnly s u) : u.ledger = s.ledger := by obtain ⟨_, _, _, _, _, _, rfl⟩ := h; rfl

/-- A refused card says why, and has no rights (R338). -/
theorem refuseCard_says (h : s.boards.cards.wf noCard = true) (n cause : Nat) (hn : n < 24) :
    ((s.refuseCard n cause).card n).state = .refused ∧ ((s.refuseCard n cause).card n).refusal = cause ∧ ((s.refuseCard n cause).card n).rights = 0 ∧
      (s.refuseCard n cause).boards.events.getLsbD (8 + n) = true := by
  obtain ⟨c, hc⟩ : ∃ c, c = { s.card n with state := .refused, refusal := cause, rights := 0, getPending := false, buf := [] } := ⟨_, rfl⟩
  have hgo : s.refuseCard n cause = ((s.setCard n c).cartEvent (8 + n)).showSeven := by rw [hc]; rfl
  have hpanel := (panelOnly_refl (s.setCard n c)).cartEvent (c := 8 + n) |>.showSeven
  rw [hgo, hpanel.card, card_setCard h, hc, showSeven_events]
  exact ⟨rfl, rfl, rfl, cartEvent_sets _ (by omega)⟩

/-! The exchange (R337). -/

section
variable (hruns : s.linkRuns = true) (hwf : s.boards.cards.wf noCard = true) (i : Fin 2) {sent : Card}
  (hsent : sent = { s.card i.val with
      state := .authenticating, sent := (s.card i.val).command (if !(s.card i.val).t1 && decide ((s.card i.val).lastSw / 256 = 0x6C) && (s.card i.val).sent != [] then some ((s.card i.val).lastSw % 256) else none) })
include hruns hwf hsent

/-- A response 90 00 completes the command of the card's step. -/
theorem apdu_completes {step : Nat} (hin : (s.card i.val).inExchange = true) (hget : (s.card i.val).getPending = false) (hstep : (s.card i.val).step = step) (d : Bytes) :
    ∃ c, s.apdu i step d (some 0x9000) = stepDone i step (s.setCard i c) { sent with lastSw := 0x9000, buf := [] } ((s.card i.val).buf ++ d) := by
  obtain ⟨cmd, hcmd⟩ : ∃ cmd, cmd = (s.card i.val).command (if !(s.card i.val).t1 && decide ((s.card i.val).lastSw / 256 = 0x6C) && (s.card i.val).sent != [] then some ((s.card i.val).lastSw % 256) else none) := ⟨_, rfl⟩
  rw [← hcmd] at hsent
  refine ⟨{ s.card i.val with sent := cmd }, (if_pos (by simp [hruns, hin, hget, hstep])).trans ?_⟩
  rw [← hcmd]
  unfold State.apduAnswer
  rw [card_setCard hwf, hsent, ← hget]
  rfl

theorem selectByName_done (hin : (s.card i.val).inExchange = true) (hget : (s.card i.val).getPending = false) (hstep : (s.card i.val).step = 0) :
    exec (.apduSelectByName i (some 0x9000)) s = .next (s.setCard i { sent with lastSw := 0x9000, buf := [], step := 1 }) := by
  obtain ⟨c, hgo⟩ := apdu_completes hruns hwf i hsent hin hget hstep []
  exact congrArg Host.Outcome.next (hgo.trans (setCard_setCard hwf _ _ _))

theorem readBinary_goes_on (d : Bytes) (hin : (s.card i.val).inExchange = true) (hget : (s.card i.val).getPending = false) (hstep : (s.card i.val).step = 1) (hreads : (s.card i.val).reads < 13)
    (hlen : ((s.card i.val).cert ++ ((s.card i.val).buf ++ d).take 256).length < 3568) :
    exec (.apduReadBinary i d (some 0x9000)) s = .next (s.setCard i { sent with
        lastSw := 0x9000, buf := [], reads := (s.card i.val).reads + 1, cert := (s.card i.val).cert ++ ((s.card i.val).buf ++ d).take 256 }) := by
  obtain ⟨c, hgo⟩ := apdu_completes hruns hwf i hsent hin hget hstep d
  have hc : sent.cert = (s.card i.val).cert := by rw [hsent]
  have hr : sent.reads = (s.card i.val).reads := by rw [hsent]
  rw [← hc] at hlen
  rw [← hr] at hreads
  rw [← hc, ← hr]
  exact congrArg Host.Outcome.next (hgo.trans ((if_neg (by dsimp only; omega)).trans (setCard_setCard hwf _ _ _)))

theorem readBinary_ends (d : Bytes) (hin : (s.card i.val).inExchange = true) (hget : (s.card i.val).getPending = false) (hstep : (s.card i.val).step = 1) (hreads : (s.card i.val).reads = 13) :
    exec (.apduReadBinary i d (some 0x9000)) s = .next ((s.drewBytes 16).setCard i { sent with
        lastSw := 0x9000, buf := [], reads := 14, cert := ((s.card i.val).cert ++ ((s.card i.val).buf ++ d).take 256).take 3568, step := 2, challenge := s.drawBytes 16 ++ s.unitId }) := by
  obtain ⟨c, hgo⟩ := apdu_completes hruns hwf i hsent hin hget hstep d
  have hc : sent.cert = (s.card i.val).cert := by rw [hsent]
  have hr : sent.reads = 13 := by rw [hsent]; exact hreads
  rw [← hc]
  refine congrArg Host.Outcome.next (hgo.trans ((if_pos (.inr (by dsimp only; omega))).trans ?_))
  dsimp only
  rw [hr]
  exact setCard_setCard (s := s.drewBytes 16) hwf _ _ _

/-- INTERNAL AUTHENTICATE is answered by the first check that fails (R338). -/
theorem internalAuthenticate_checks (d : Bytes) {k : Nat} (hin : (s.card i.val).inExchange = true) (hget : (s.card i.val).getPending = false) (hstep : (s.card i.val).step = 2) (hserves : PoolServes s 2)
    (hcheck : s.cardCheck (s.card i.val).cert (s.card i.val).challenge ((s.card i.val).buf ++ d) = k) :
    ∃ r : State, r.boards.cards.wf noCard = true ∧ r.now = s.now ∧ r.vault = s.vault ∧ exec (.apduInternalAuthenticate i d (some 0x9000)) s = .next (
      if k ≠ 0 then (r.setCard i { sent with lastSw := 0x9000, buf := [], step := 3 }).refuseCard i k
      else ((r.setCard i { sent with lastSw := 0x9000, buf := [], step := 3, state := .authorised, refusal := 0, rights := fld (s.card i.val).cert 4 4, authAt := r.now }).cartEvent (8 + i)).settleHx) := by
  obtain ⟨c, hgo⟩ := apdu_completes hruns hwf i hsent hin hget hstep d
  have hc : sent.cert = (s.card i.val).cert := by rw [hsent]
  have hch : sent.challenge = (s.card i.val).challenge := by rw [hsent]
  obtain ⟨t, ht⟩ : ∃ t, t = s.setCard i c := ⟨_, rfl⟩
  have hcheck' : t.cardCheck sent.cert sent.challenge ((s.card i.val).buf ++ d) = k := by rw [hc, hch, ht]; exact hcheck
  have hserves' : PoolServes t 2 := ht ▸ hserves
  obtain ⟨r, hrun, hdone⟩ := poolRun_of_serves hserves' (0xB000 + i) 0 (t.cardOps i sent.cert sent.challenge ((s.card i.val).buf ++ d) k)
  have hrwf : r.boards.cards.wf noCard = true := by obtain ⟨_, rfl⟩ := hdone; exact ht ▸ setCard_wf hwf i c
  refine ⟨r, hrwf, by obtain ⟨_, rfl⟩ := hdone; rw [ht]; rfl, by obtain ⟨_, rfl⟩ := hdone; rw [ht]; rfl, congrArg Host.Outcome.next (hgo.trans ?_)⟩
  show authAnswered i (s.setCard i c) _ _ = _
  rw [← ht, ← hc]
  unfold authAnswered
  dsimp only
  rw [hcheck', hrun]
  dsimp only
  rw [setCard_setCard hrwf]

theorem internalAuthenticate_authorises (d : Bytes) (hin : (s.card i.val).inExchange = true) (hget : (s.card i.val).getPending = false) (hstep : (s.card i.val).step = 2) (hserves : PoolServes s 2)
    (hcheck : s.cardCheck (s.card i.val).cert (s.card i.val).challenge ((s.card i.val).buf ++ d) = 0) :
    ∃ u, exec (.apduInternalAuthenticate i d (some 0x9000)) s = .next u ∧ (u.card i.val).state = .authorised ∧
        (u.card i.val).rights = fld (s.card i.val).cert 4 4 ∧ (u.card i.val).authAt = s.now ∧ u.boards.events.getLsbD (8 + i.val) = true ∧ u.vault = s.vault := by
  obtain ⟨r, hrwf, hnow, hvault, hrun⟩ := internalAuthenticate_checks hruns hwf i hsent d hin hget hstep hserves hcheck
  rw [if_neg (not_not.mpr rfl), hnow] at hrun
  obtain ⟨x, hx⟩ : ∃ x : Card, x = { sent with lastSw := 0x9000, buf := [], step := 3, state := .authorised, refusal := 0, rights := fld (s.card i.val).cert 4 4, authAt := s.now } := ⟨_, rfl⟩
  rw [← hx] at hrun
  have hpanel := (panelOnly_refl (r.setCard i x)).cartEvent (c := 8 + i.val) |>.settleHx
  refine ⟨_, hrun, ?_, ?_, ?_, ?_, hpanel.vault.trans hvault⟩
  · rw [hpanel.card, card_setCard hrwf, hx]
  · rw [hpanel.card, card_setCard hrwf, hx]
  · rw [hpanel.card, card_setCard hrwf, hx]
  · rw [settleHx_events]
    exact cartEvent_sets _ (by omega)

theorem internalAuthenticate_refuses (d : Bytes) (k : Nat) (hin : (s.card i.val).inExchange = true) (hget : (s.card i.val).getPending = false) (hstep : (s.card i.val).step = 2) (hserves : PoolServes s 2)
    (hcheck : s.cardCheck (s.card i.val).cert (s.card i.val).challenge ((s.card i.val).buf ++ d) = k) (hk : k ≠ 0) :
    ∃ u, exec (.apduInternalAuthenticate i d (some 0x9000)) s = .next u ∧ (u.card i.val).state = .refused ∧ (u.card i.val).refusal = k ∧ (u.card i.val).rights = 0 := by
  obtain ⟨r, hrwf, -, -, hrun⟩ := internalAuthenticate_checks hruns hwf i hsent d hin hget hstep hserves hcheck
  rw [if_pos hk] at hrun
  obtain ⟨hstate, hrefusal, hrights, -⟩ := refuseCard_says (setCard_wf hrwf i _) i k (by omega)
  exact ⟨_, hrun, hstate, hrefusal, hrights⟩

end

/-! Activation, removal and expiry (R336, R339). -/

section
variable (hwf : s.boards.cards.wf noCard = true) (i : Fin 2)
include hwf

theorem getResponse_asks (hruns : s.linkRuns = true) (d : Bytes) (sw : BitVec 16) (hin : (s.card i.val).inExchange = true) (ht0 : (s.card i.val).t1 = false) (hget : (s.card i.val).getPending = true)
    (hsw : sw.toNat / 256 = 0x61) : exec (.apduGetResponse i d (some sw)) s = .next (s.setCard i.val { s.card i.val with
        state := .authenticating, sent := [0x00, 0xC0, 0x00, 0x00, BitVec.ofNat 8 (s.card i.val).lastSw], lastSw := sw.toNat, buf := (s.card i.val).buf ++ d }) := by
  have hmore : sw ≠ 0x9000 := fun h => absurd (h ▸ hsw) (by decide)
  refine congrArg Host.Outcome.next ((if_pos (by simp [hruns, hin, hget])).trans ?_)
  unfold State.apduAnswer
  rw [card_setCard hwf]
  refine (if_neg hmore).trans ((if_pos (by simp [ht0, hsw])).trans ?_)
  rw [setCard_setCard hwf, ← hget]

theorem cardActivation_answers (hruns : s.linkRuns = true) (a : AtrAns) (b : Bool) (hpresent : (s.card i.val).present = true) (hempty : (s.card i.val).state = .empty) (hlow : 1 ≤ a.cls) (hhigh : a.cls ≤ 3)
    (hprot : a.t0 = true ∨ a.t1 = true) : ∃ u, exec (.cardActivation i (some a) b) s = .next u ∧ u.boards.slots = s.boards.slots ∧ u.card i.val = {
        present := true, state := .authenticating, vsel := 4 - a.cls, cls := a.cls, t1 := a.t1, pps := b, fi := if b then a.fi else 372, di := if b then min 16 a.di else 1
        clockKhz := if b then min 5000 a.maxKhz else 4000, ifsd := if a.t1 then 254 else 0, crc := a.t1 && a.crc } := by
  obtain ⟨-, -, hpll⟩ := linkRuns_says hruns
  obtain ⟨w, hw⟩ : ∃ w, w = s.pulse (49 + i.val) := ⟨_, rfl⟩
  have hboards : w.boards = s.boards := by rw [hw, pulse_of_steady hpll]
  have hwwf : w.boards.cards.wf noCard = true := by rw [hboards]; exact hwf
  refine ⟨_, congrArg Host.Outcome.next ((if_neg (by simp [hruns, hpresent, hempty])).trans ((if_neg (not_not.mpr ⟨hlow, hhigh⟩)).trans (if_pos (by
    rcases hprot with h | h <;> simp [h])))), ?_, ?_⟩
  · rw [← hw, ← hboards]
    rfl
  · rw [← hw]
    exact card_setCard hwwf i _

theorem cardActivation_silent (hruns : s.linkRuns = true) (b : Bool) (hpresent : (s.card i.val).present = true) (hempty : (s.card i.val).state = .empty) :
    ∃ u, exec (.cardActivation i none b) s = .next u ∧ (u.card i.val).state = .refused ∧ (u.card i.val).refusal = 1 ∧ u.boards.events.getLsbD (8 + i.val) = true := by
  obtain ⟨-, -, hpll⟩ := linkRuns_says hruns
  have hwwf : (s.pulse (49 + i.val)).boards.cards.wf noCard = true := by rw [pulse_of_steady hpll]; exact hwf
  obtain ⟨hstate, hrefusal, -, hevent⟩ := refuseCard_says (setCard_wf hwwf i { present := true, state := .activating }) i 1 (by omega)
  exact ⟨_, congrArg Host.Outcome.next (if_neg (by simp [hruns, hpresent, hempty])), hstate, hrefusal, hevent⟩

theorem cardRemoval_empties (hruns : s.linkRuns = true) (hpresent : (s.card i.val).present = true) (hstate : (s.card i.val).state ≠ .empty) :
    ∃ u, exec (.cardRemoval i) s = .next u ∧ u.card i.val = {} ∧ u.boards.events.getLsbD (10 + i.val) = true ∧ (∀ k, k ≠ i.val → u.card k = s.card k) := by
  obtain ⟨-, -, hpll⟩ := linkRuns_says hruns
  obtain ⟨w, hw⟩ : ∃ w, w = s.pulse (49 + i.val) := ⟨_, rfl⟩
  have hboards : w.boards = s.boards := by rw [hw, pulse_of_steady hpll]
  have hwwf : w.boards.cards.wf noCard = true := by rw [hboards]; exact hwf
  have hpanel := (panelOnly_refl (w.setCard i {})).cartEvent (c := 10 + i.val) |>.settleHx
  refine ⟨((w.setCard i {}).cartEvent (10 + i.val)).settleHx, ?_, ?_, ?_, fun k hk => ?_⟩
  · rw [hw]
    exact congrArg Host.Outcome.next ((if_neg (by simp [hpresent])).trans (if_neg hstate))
  · rw [hpanel.card, card_setCard hwwf]
  · rw [settleHx_events]
    exact cartEvent_sets _ (by omega)
  · rw [hpanel.card, setCard_card hwwf, if_neg hk, State.card, State.card, hboards]

theorem authorisationExpiry_expires (hstate : (s.card i.val).state = .authorised) :
    ∃ u, exec (.authorisationExpiry i) s = .next u ∧ (u.card i.val).state = .expired ∧ (u.card i.val).rights = 0 ∧ (u.card i.val).step = 0 ∧
      u.ledger = (s.reach ((s.card i.val).authAt + s.boards.cardMin * 60 * 32768)).ledger ∧ u.card (1 - i.val) = s.card (1 - i.val) := by
  obtain ⟨c, hc⟩ : ∃ c : Card, c = { s.card i.val with state := .expired, rights := 0, step := 0, reads := 0, cert := [], challenge := [], getPending := false, buf := [], sent := [] } := ⟨_, rfl⟩
  obtain ⟨w, hw⟩ : ∃ w, w = s.reach ((s.card i.val).authAt + s.boards.cardMin * 60 * 32768) := ⟨_, rfl⟩
  have hboards : w.boards = s.boards := hw ▸ rfl
  have hwwf : w.boards.cards.wf noCard = true := by rw [hboards]; exact hwf
  have hpanel := (panelOnly_refl (w.setCard i c)).settleHx
  refine ⟨(w.setCard i c).settleHx, ?_, ?_, ?_, ?_, ?_, ?_⟩
  · rw [hw, hc]
    exact congrArg Host.Outcome.next (if_pos hstate)
  · rw [hpanel.card, card_setCard hwwf, hc]
  · rw [hpanel.card, card_setCard hwwf, hc]
  · rw [hpanel.card, card_setCard hwwf, hc]
  · rw [hpanel.ledger, ← hw]
    rfl
  · rw [hpanel.card, setCard_card hwwf, if_neg (by omega), State.card, State.card, hboards]

end

/-- Settles O43: what each card command and event leaves of its card, by the card's state and step. -/
theorem cardsAuthorise : Obligations.CardsAuthorise := by
  unfold Obligations.CardsAuthorise
  intro s i sent hruns hwf hsent
  refine ⟨rfl, cardActivation_answers hwf i hruns, cardActivation_silent hwf i hruns, selectByName_done hruns hwf i hsent,
    fun d hin hget hstep => ⟨readBinary_goes_on hruns hwf i hsent d hin hget hstep, readBinary_ends hruns hwf i hsent d hin hget hstep⟩,
    internalAuthenticate_authorises hruns hwf i hsent, internalAuthenticate_refuses hruns hwf i hsent, getResponse_asks hwf i hruns, cardRemoval_empties hwf i hruns,
    authorisationExpiry_expires hwf i, fun hin d sw => ?_⟩
  have hout : ∀ step d, s.apdu i step d sw = s := fun step d => if_neg (by simp [hin])
  exact ⟨congrArg Host.Outcome.next (hout 0 _), congrArg Host.Outcome.next (hout 1 _), congrArg Host.Outcome.next (hout 2 _), congrArg Host.Outcome.next (if_neg (by simp [hin]))⟩

end Sys2Proof.Proofs
end


section
/-! SUPPORT. The stream of a session and head-less sessions (R342 to R351). -/

namespace Sys2Proof.Proofs

open Sys2Proof Sys2Proof.Machine Sys2Proof.Safety

variable {s t u b : State} {n : Nat} {x : Session}

/-! What the stream is read from. -/

theorem exportGo_of_boards (h : BoardsDrawn s u) (content idx tab : Nat) (l : List Entry) (start : Option Nat) : u.exportGo content idx tab start l = s.exportGo content idx tab start l := by
  obtain ⟨bd, k, rfl⟩ : ∃ bd k, u = { s with boards := bd, drawn := k } := ⟨_, _, h⟩
  induction l generalizing start with
  | nil => rfl
  | cons e r ih =>
    simp only [State.exportGo, ih]
    rfl

/-- The stream does not depend on the boards, nor on how far its session has come (R344). -/
theorem stream_of_boards (h : BoardsDrawn s u) {y : Session} (hranges : y.ranges = x.ranges) (hcontent : y.content = x.content) (hhold : y.hold = x.hold) : u.stream y = s.stream x := by
  have hgo := fun content idx tab start l => exportGo_of_boards h content idx tab l start
  obtain ⟨bd, k, rfl⟩ : ∃ bd k, u = { s with boards := bd, drawn := k } := ⟨_, _, h⟩
  simp only [State.stream, State.streamItems, State.streamKeys, State.holdLast, hgo, hranges, hcontent, hhold]
  rfl

/-! Writes to the cartridges. -/

/-- Only the slots, the writes to the cartridges and the count of drawn bytes differ. -/
def SlotsOut (s u : State) : Prop := ∃ l o k, u = { s with boards := { s.boards with slots := l, out := o }, drawn := k }

theorem slotsOut_refl (s : State) : SlotsOut s s := ⟨_, _, _, rfl⟩

theorem SlotsOut.trans (h : SlotsOut s t) (h' : SlotsOut t u) : SlotsOut s u := by
  obtain ⟨_, _, _, rfl⟩ := h
  obtain ⟨_, _, _, rfl⟩ := h'
  exact ⟨_, _, _, rfl⟩

theorem SlotsOut.setSlot {m c} (h : SlotsOut b s) : SlotsOut b (s.setSlot m c) := h.trans ⟨_, _, _, rfl⟩

theorem SlotsOut.cartOut {w} (h : SlotsOut b s) : SlotsOut b (s.cartOut w) := h.trans ⟨_, _, _, rfl⟩

theorem SlotsOut.drewBytes {k} (h : SlotsOut b s) : SlotsOut b (s.drewBytes k) := h.trans ⟨_, _, _, rfl⟩

theorem SlotsOut.rouse {m} (h : SlotsOut b s) : SlotsOut b (s.rouse m) := h.setSlot

theorem SlotsOut.rpaSend {m addr units} (h : SlotsOut b s) : SlotsOut b (s.rpaSend m addr units) := by
  unfold State.rpaSend
  split
  · exact h
  · exact h.drewBytes.cartOut.cartOut.setSlot

theorem SlotsOut.rpaWrite {m addr units} (h : SlotsOut b s) : SlotsOut b (s.rpaWrite m addr units) := by
  unfold State.rpaWrite
  split
  · exact h.rpaSend.setSlot
  · exact h

theorem SlotsOut.writeManifest {m bytes} (h : SlotsOut b s) : SlotsOut b (s.writeManifest m bytes) := h.rpaWrite

theorem SlotsOut.writeRanges {m rs} (h : SlotsOut b s) : SlotsOut b (s.writeRanges m rs) :=
  List.foldlRecOn _ _ (motive := fun u => SlotsOut b u) h fun _ hu _ _ => hu.rpaWrite

theorem SlotsOut.writePart {y st closed cont} (h : SlotsOut b s) : SlotsOut b (s.writePart y st closed cont) := h.cartOut.writeManifest

section
variable (h : SlotsOut s u)
include h

theorem SlotsOut.sessions : u.boards.sessions = s.boards.sessions := by obtain ⟨_, _, _, rfl⟩ := h; rfl
theorem SlotsOut.lastSession : u.boards.lastSession = s.boards.lastSession := by obtain ⟨_, _, _, rfl⟩ := h; rfl
theorem SlotsOut.abandoned : u.boards.abandoned = s.boards.abandoned := by obtain ⟨_, _, _, rfl⟩ := h; rfl
theorem SlotsOut.tabs : u.tabs = s.tabs := by obtain ⟨_, _, _, rfl⟩ := h; rfl
theorem SlotsOut.vault : u.vault = s.vault := by obtain ⟨_, _, _, rfl⟩ := h; rfl
theorem SlotsOut.ledger : u.ledger = s.ledger := by obtain ⟨_, _, _, rfl⟩ := h; rfl
theorem SlotsOut.boardsDrawn : BoardsDrawn s u := by obtain ⟨_, _, _, rfl⟩ := h; rfl

end

theorem PanelOnly.lastSession (h : PanelOnly s u) : u.boards.lastSession = s.boards.lastSession := by obtain ⟨_, _, _, _, _, _, rfl⟩ := h; rfl
theorem PanelOnly.abandoned (h : PanelOnly s u) : u.boards.abandoned = s.boards.abandoned := by obtain ⟨_, _, _, _, _, _, rfl⟩ := h; rfl
theorem PanelOnly.shown (h : PanelOnly s u) : u.boards.shownId = s.boards.shownId ∧ u.boards.shownState = s.boards.shownState := by obtain ⟨_, _, _, _, _, _, rfl⟩ := h; exact ⟨rfl, rfl⟩
theorem PanelOnly.out (h : PanelOnly s u) : u.boards.out = s.boards.out := by obtain ⟨_, _, _, _, _, _, rfl⟩ := h; rfl
theorem PanelOnly.rtc (h : PanelOnly s u) : u.ledger = s.ledger := by obtain ⟨_, _, _, _, _, _, rfl⟩ := h; rfl

/-! The end of a session. -/

/-- A session that ends is gone, its hold released, and the registers show it (R348). -/
theorem endSession_says (s : State) (x : Session) (st : SessState) :
    (s.endSession x st).boards.sessions = s.boards.sessions.filter (fun y => y.id != x.id) ∧ (s.endSession x st).boards.shownId = x.id ∧ (s.endSession x st).boards.shownState = st ∧
      (s.endSession x st).boards.abandoned = s.boards.abandoned ∧ (s.endSession x st).tabs = { s.tabs with holds := s.tabs.holds.filter (fun h => h.id != x.hold) } ∧
      (s.endSession x st).ledger.rtc = s.ledger.rtc := by
  unfold State.endSession
  dsimp only
  refine ⟨by rw [Laws.addEvent_boards], rfl, rfl, by rw [Laws.addEvent_boards], by rw [Laws.addEvent_tabs], by rw [Laws.addEvent_ledger_rtc]⟩

/-- An abandoned session is gone and noted (R348). -/
theorem abandonSession_says (s : State) (x : Session) :
    (s.abandonSession x).boards.sessions = s.boards.sessions.filter (fun y => y.id != x.id) ∧ (s.abandonSession x).boards.abandoned = s.boards.abandoned ++ [x.id] ∧
      (s.abandonSession x).tabs = { s.tabs with holds := s.tabs.holds.filter (fun h => h.id != x.hold) } ∧ (s.abandonSession x).ledger.rtc = s.ledger.rtc ∧
      (s.abandonSession x).boards.events.getLsbD 13 = true ∧ (x.headless = true → (s.abandonSession x).boards.hx = 6) := by
  obtain ⟨w, hw⟩ : ∃ w, w = (if x.state = .opened then (s.rouse x.slot).writePart x 3 0 false else s) := ⟨_, rfl⟩
  have hout : SlotsOut s w := by
    rw [hw]
    split
    · exact (slotsOut_refl s).rouse.writePart
    · exact slotsOut_refl s
  obtain ⟨hsessions, -, -, habandoned, htabs, hrtc⟩ := endSession_says w x .abandoned
  obtain ⟨e, he⟩ : ∃ e, e = w.endSession x .abandoned := ⟨_, rfl⟩
  rw [← he] at hsessions habandoned htabs hrtc
  obtain ⟨v, hv⟩ : ∃ v : State, v = { e with boards := { e.boards with abandoned := e.boards.abandoned ++ [x.id], hx := if x.headless then 6 else e.boards.hx } } := ⟨_, rfl⟩
  have hgo : s.abandonSession x = v.cartEvent 13 := by rw [hv, he, hw]; rfl
  have hpanel := (panelOnly_refl v).cartEvent (c := 13)
  rw [hgo, hpanel.sessions, hpanel.abandoned, hpanel.tabs, hpanel.rtc]
  refine ⟨?_, ?_, ?_, ?_, cartEvent_sets _ (by decide), fun hh => ?_⟩
  · rw [hv, ← hout.sessions, ← hsessions]
  · rw [hv, ← hout.abandoned, ← habandoned]
  · rw [hv, ← hout.tabs, ← htabs]
  · rw [hv, ← hout.ledger, ← hrtc]
  · have hhx : ∀ q : State, (q.cartEvent 13).boards.hx = q.boards.hx := fun q => by
      unfold State.cartEvent
      split
      · rfl
      · rw [Laws.signal_boards]
    rw [hhx, hv]
    exact if_pos hh

/-! A session that begins. -/

/-- A part that opens on a slot puts its session there (R342). -/
theorem openPart_says (s : State) (x : Session) (n : Nat) : ∃ y, y = { x with state := .opened, slot := n, maker := (s.slot n).maker, serial := (s.slot n).serial, needNext := false, removedAt := none, started := s.now, confirmed := 0, recent := [], checkpoint := 0 } ∧
    SlotsOut ((s.rouse n).putSession y) (s.openPart x n) :=
  ⟨_, rfl, (slotsOut_refl _).cartOut.writeRanges.writeManifest⟩

/-- An opened session stands last, under the next identifier, with its selection held (R342). -/
theorem openSession_says (s : State) (n card : Nat) (rs : List ExpRange) (content : Nat) (headless : Bool) (hids : ∀ y ∈ s.boards.sessions, y.id ≤ s.boards.lastSession) :
    ∃ x, (s.openSession n card rs content headless).boards.sessions = s.boards.sessions ++ [x] ∧ x.id = s.boards.lastSession + 1 ∧ x.state = .opened ∧ x.slot = n ∧ x.ranges = rs ∧ x.content = content ∧
      x.headless = headless ∧ x.confirmed = 0 ∧ x.hold = s.tabs.holdHigh + 1 ∧ (s.openSession n card rs content headless).boards.lastSession = s.boards.lastSession + 1 ∧
      (s.openSession n card rs content headless).tabs = { s.tabs with holds := s.tabs.holds ++ [s.selectionHold rs], holdHigh := s.tabs.holdHigh + 1 } := by
  obtain ⟨x, hx⟩ : ∃ x : Session, x = {
      id := s.boards.lastSession + 1, state := .opened, headless := headless, slot := n, hold := (s.selectionHold rs).id, ranges := rs, content := content
      operatorId := slice (s.card card).cert 8 16, certHash := sha384 (s.card card).cert, started := s.now } := ⟨_, rfl⟩
  obtain ⟨p, hp⟩ : ∃ p, p = s.placeHold (s.selectionHold rs) := ⟨_, rfl⟩
  obtain ⟨w, hw⟩ : ∃ w : State, w = { p with boards := { p.boards with sessions := p.boards.sessions ++ [x], lastSession := s.boards.lastSession + 1 } } := ⟨_, rfl⟩
  have hgo : s.openSession n card rs content headless = w.openPart x n := by rw [hw, hp, hx]; rfl
  have hpb : p.boards = s.boards := by rw [hp, State.placeHold, Laws.addEvent_boards]
  have hpt : p.tabs = { s.tabs with holds := s.tabs.holds ++ [s.selectionHold rs], holdHigh := (s.selectionHold rs).id } := by rw [hp, State.placeHold, Laws.addEvent_tabs]
  obtain ⟨y, hy, hopen⟩ := openPart_says w x n
  refine ⟨y, ?_, ?_, ?_, ?_, ?_, ?_, ?_, ?_, ?_, ?_, ?_⟩
  · rw [hgo, hopen.sessions]
    have hmap : ((w.rouse n).putSession y).boards.sessions = (s.boards.sessions ++ [x]).map (fun z => if z.id = y.id then y else z) := by rw [← hpb, hw]; rfl
    have hid : y.id = s.boards.lastSession + 1 := by rw [hy, hx]
    rw [hmap, List.map_append, List.map_singleton, if_pos (by rw [hy])]
    refine congrArg (· ++ [y]) ((List.map_congr_left fun z hz => if_neg ?_).trans (List.map_id _))
    have := hids z hz
    omega
  · rw [hy, hx]
  · rw [hy]
  · rw [hy]
  · rw [hy, hx]
  · rw [hy, hx]
  · rw [hy, hx]
  · rw [hy]
  · rw [hy, hx]
    rfl
  · rw [hgo, hopen.lastSession, hw]
    rfl
  · rw [hgo, hopen.tabs]
    refine Eq.trans ?_ hpt
    rw [hw]
    rfl

/-! A unit of the stream (R344, R346). -/

/-- A failed answer leaves sessions and tabs as they are (R323, R327). -/
theorem linkFail_frame (s : State) (n : Nat) (crc : Bool) : (s.linkFail n crc).boards.sessions = s.boards.sessions ∧ (s.linkFail n crc).tabs = s.tabs := by
  unfold State.linkFail
  dsimp only
  split
  · exact ⟨rfl, rfl⟩
  · split
    · exact slotFail_frame _ n
    · exact ⟨rfl, rfl⟩

theorem find?_single {α : Type} {p : α → Bool} {l : List α} {a y : α} (hl : l = [a]) (h : l.find? p = some y) : p a = true := by
  subst hl
  have hy := List.find?_some h
  rw [List.mem_singleton.mp (List.mem_of_find?_eq_some h)] at hy
  exact hy

theorem cartOut_ident (hwf : s.boards.slots.wf noSlot = true) (w : CartWrite) (m : Nat) : ((s.cartOut w).slot m).ident = (s.slot m).ident := by
  rw [cartOut_slot hwf]
  split
  · next h => rw [h]
  · rfl

theorem rouse_ident (hwf : s.boards.slots.wf noSlot = true) (m : Nat) : ((s.rouse m).slot m).ident = (s.slot m).ident := by
  unfold State.rouse
  rw [slot_setSlot hwf]

/-- A confirmed unit closes the session, fills its part, comes to a checkpoint, or is only counted (R346, R348). -/
theorem unitConfirmed_eq {y : Session} {unit : Bytes} (hy : y = { x with confirmed := x.confirmed + 1, recent := x.recent ++ [sha384 unit] }) : s.unitConfirmed x unit =
    if (s.stream y).length ≤ y.offset + y.confirmed * 16384 then (s.putSession y).closeLast y
    else if (s.slot x.slot).room ≤ y.confirmed then (s.putSession y).closeFull y
    else if y.confirmed % 256 = 0 then (s.putSession y).checkpoint y
    else s.putSession y := by
  subst hy
  rfl

/-- The state in which the session's next unit has gone out to its cartridge. -/
def unitSent (s : State) (n : Nat) (x : Session) : State := (s.rouse n).cartOut (.unit n (x.confirmed + 1) (s.unitData x (x.confirmed + 1)))

section
variable (n : Fin 4) (hone : s.boards.sessions = [x]) (hon : s.sessionOn n.val = some x) (hruns : s.linkRuns = true) (hmode : s.power.mode ≠ .lockdown) (hready : (s.slot n.val).state = .ready)
  (hgen : (s.slot n.val).gen = 2) (hstream : s.streamReady x = true)
include hon hruns hmode hready hstream

theorem streamUnit_of_refusal {tok : BitVec 5} (htok : tokenOf tok ≠ some 2) :
    ∃ c crc, exec (.streamUnitWrite n tok false []) s = .next (((unitSent s n x).setSlot n c).linkFail n crc) := by
  refine ⟨{ (unitSent s n x).slot n with cmd := commandFrame 12 0 }, decide (tokenOf tok = some 5), congrArg Host.Outcome.next ?_⟩
  unfold State.streamUnit
  rw [hon]
  dsimp only
  rw [if_neg (by simp [hruns, hmode, Slot.usable, hready, hstream]), if_pos htok, ← unitSent]

theorem streamUnit_refused (hone : s.boards.sessions = [x]) {tok : BitVec 5} (htok : tokenOf tok ≠ some 2) : ∃ u, exec (.streamUnitWrite n tok false []) s = .next u ∧ u.boards.sessions = [x] ∧ u.tabs = s.tabs := by
  obtain ⟨c, crc, hgo⟩ := streamUnit_of_refusal n hon hruns hmode hready hstream htok
  obtain ⟨hsessions, htabs⟩ := linkFail_frame ((unitSent s n x).setSlot n c) n crc
  exact ⟨_, hgo, hsessions.trans hone, htabs⟩

include hgen

theorem streamUnit_of_acceptance {tok : BitVec 5} (htok : tokenOf tok = some 2) :
    ∃ c, c.ident = ((unitSent s n x).slot n).ident ∧
      exec (.streamUnitWrite n tok false []) s = .next ((((unitSent s n x).setSlot n c).unitConfirmed x (s.unitData x (x.confirmed + 1))).settleHx) := by
  refine ⟨{ (unitSent s n x).slot n with repeats := 0 }, rfl, congrArg Host.Outcome.next ?_⟩
  unfold State.streamUnit
  rw [hon]
  dsimp only
  rw [if_neg (by simp [hruns, hmode, Slot.usable, hready, hstream]), if_neg (not_not.mpr htok), if_neg (by decide), if_neg (by simp [hgen]), ← unitSent]

include hone

theorem streamUnit_confirms {tok : BitVec 5} (htok : tokenOf tok = some 2) (hmore : x.offset + (x.confirmed + 1) * 16384 < (s.stream x).length) (hroom : x.confirmed + 1 < (s.slot n.val).room)
    (hcheck : (x.confirmed + 1) % 256 ≠ 0)
    (hwf : s.boards.slots.wf noSlot = true) :
    ∃ u, exec (.streamUnitWrite n tok false []) s = .next u ∧ u.boards.sessions = [{ x with confirmed := x.confirmed + 1, recent := x.recent ++ [sha384 (s.unitData x (x.confirmed + 1))] }] ∧
      u.boards.out = s.boards.out ++ [.unit n.val (x.confirmed + 1) (s.unitData x (x.confirmed + 1))] ∧ u.tabs = s.tabs ∧ u.vault = s.vault := by
  obtain ⟨c, hident, hgo⟩ := streamUnit_of_acceptance n hon hruns hmode hready hgen hstream htok
  obtain ⟨unit, hunit⟩ : ∃ unit, unit = s.unitData x (x.confirmed + 1) := ⟨_, rfl⟩
  obtain ⟨w, hw⟩ : ∃ w, w = (unitSent s n x).setSlot n c := ⟨_, rfl⟩
  have hsent : SlotsOut s w := by rw [hw]; exact (slotsOut_refl s).rouse.cartOut.setSlot
  rw [← hw, ← hunit] at hgo
  obtain ⟨y, hy⟩ : ∃ y : Session, y = { x with confirmed := x.confirmed + 1, recent := x.recent ++ [sha384 unit] } := ⟨_, rfl⟩
  have hslot : x.slot = n.val := by
    have := find?_single hone hon
    simp only [Bool.and_eq_true, beq_iff_eq] at this
    exact this.2
  have hput : w.unitConfirmed x unit = w.putSession y := by
    have hstr : w.stream y = s.stream x := stream_of_boards hsent.boardsDrawn (by rw [hy]) (by rw [hy]) (by rw [hy])
    have hwroom : (w.slot n).room = (s.slot n).room := by
      have hi : (w.slot n).ident = (s.slot n).ident := by
        rw [hw, slot_setSlot (s := unitSent s n x) (cartOut_wf (setSlot_wf hwf n _) _), hident]
        exact (cartOut_ident (setSlot_wf hwf n _) _ n).trans (rouse_ident hwf n)
      simp only [Slot.room]
      rw [hi]
    rw [unitConfirmed_eq hy, if_neg (by rw [hstr, hy]; exact Nat.not_le.mpr hmore), if_neg (by rw [hslot, hwroom, hy]; exact Nat.not_le.mpr hroom), if_neg (by rw [hy]; exact hcheck)]
  rw [hput] at hgo
  have hpanel := (panelOnly_refl (w.putSession y)).settleHx
  refine ⟨_, hgo, ?_, ?_, ?_, ?_⟩
  · rw [hpanel.sessions]
    show w.boards.sessions.map _ = _
    rw [hsent.sessions, hone, List.map_singleton, if_pos (by rw [hy]), hy, hunit]
  · rw [hpanel.out, hw]
    rfl
  · rw [hpanel.tabs]
    exact hsent.tabs
  · rw [hpanel.vault]
    exact hsent.vault

theorem streamUnit_closes {tok : BitVec 5} (htok : tokenOf tok = some 2) (hend : (s.stream x).length ≤ x.offset + (x.confirmed + 1) * 16384) :
    ∃ u, exec (.streamUnitWrite n tok false []) s = .next u ∧ u.boards.sessions = [] ∧ u.boards.shownState = .closed ∧
        u.boards.shownId = x.id ∧ u.tabs.holds = s.tabs.holds.filter (fun h => h.id != x.hold) ∧ u.boards.events.getLsbD 12 = true ∧ u.tabs.entries = s.tabs.entries := by
  obtain ⟨c, -, hgo⟩ := streamUnit_of_acceptance n hon hruns hmode hready hgen hstream htok
  obtain ⟨unit, hunit⟩ : ∃ unit, unit = s.unitData x (x.confirmed + 1) := ⟨_, rfl⟩
  obtain ⟨w, hw⟩ : ∃ w, w = (unitSent s n x).setSlot n c := ⟨_, rfl⟩
  have hsent : SlotsOut s w := by rw [hw]; exact (slotsOut_refl s).rouse.cartOut.setSlot
  rw [← hw, ← hunit] at hgo
  obtain ⟨y, hy⟩ : ∃ y : Session, y = { x with confirmed := x.confirmed + 1, recent := x.recent ++ [sha384 unit] } := ⟨_, rfl⟩
  obtain ⟨z, hz⟩ : ∃ z : Session, z = { y with checkpoint := y.confirmed, recent := [] } := ⟨_, rfl⟩
  obtain ⟨p, hp⟩ : ∃ p, p = (((w.putSession y).putSession z).writePart z 2 (w.putSession y).now false) := ⟨_, rfl⟩
  obtain ⟨e, he⟩ : ∃ e, e = p.endSession z .closed := ⟨_, rfl⟩
  obtain ⟨v, hv⟩ : ∃ v : State, v = { e with boards := { e.boards with hx := if y.headless then 5 else e.boards.hx } } := ⟨_, rfl⟩
  have hclose : w.unitConfirmed x unit = v.cartEvent 12 := by
    have hstr : w.stream y = s.stream x := stream_of_boards hsent.boardsDrawn (by rw [hy]) (by rw [hy]) (by rw [hy])
    rw [unitConfirmed_eq hy, if_pos (by rw [hstr, hy]; exact hend), hv, he, hp, hz]
    rfl
  rw [hclose] at hgo
  have hpart : SlotsOut ((w.putSession y).putSession z) p := hp ▸ (slotsOut_refl _).writePart
  obtain ⟨hsessions, hid, hstate, -, htabs, -⟩ := endSession_says p z .closed
  rw [← he] at hsessions hid hstate htabs
  have hpanel := (panelOnly_refl v).cartEvent (c := 12) |>.settleHx
  obtain ⟨hshownId, hshownState⟩ := hpanel.shown
  have hptabs : p.tabs = s.tabs := hpart.tabs.trans hsent.tabs
  refine ⟨_, hgo, ?_, ?_, ?_, ?_, ?_, ?_⟩
  · rw [hpanel.sessions, hv]
    refine hsessions.trans ?_
    rw [hpart.sessions]
    show ((w.boards.sessions.map _).map _).filter _ = _
    rw [hsent.sessions, hone]
    have hzid : z.id = x.id := by rw [hz, hy]
    have hyid : y.id = x.id := by rw [hy]
    simp [hzid, hyid]
  · rw [hshownState, hv]
    exact hstate
  · rw [hshownId, hv]
    exact hid.trans (by rw [hz, hy])
  · rw [hpanel.tabs, hv]
    refine (congrArg (fun y => y.holds) htabs).trans ?_
    rw [hptabs, hz, hy]
  · rw [settleHx_events]
    exact cartEvent_sets _ (by decide)
  · rw [hpanel.tabs, hv]
    exact (congrArg (fun y => y.entries) htabs).trans (by rw [hptabs])

end

/-! Head-less sessions (R350, R351). -/

theorem headlessOpen_opens (hright : s.hasRight 0 1 = true) (hok : s.headlessOk = true) (hruns : s.linkRuns = true) (hfresh : s.freshSlot 0 = true) (hholds : s.tabs.holds.length < 4096)
    (hfits : s.eventFits 24 = true) : ∃ u y, exec .headlessSessionOpen s = .next u ∧ u.boards.sessions = [y] ∧ y.headless = true ∧ y.slot = 0 ∧ y.content = 7 ∧ y.ranges = s.headlessRanges ∧
        u.boards.lastSession = s.boards.lastSession + 1 ∧ u.tabs.entries = s.tabs.entries := by
  have hnone : s.boards.sessions = [] := by
    simp only [State.headlessOk, Bool.and_eq_true, List.isEmpty_iff] at hok
    exact hok.1.2
  have hgo : exec .headlessSessionOpen s = .next (s.openSession 0 0 s.headlessRanges 7 true).settleHx := by
    refine congrArg Host.Outcome.next ?_
    unfold State.headlessOpen
    rw [show [0, 1].find? (fun i => s.hasRight i 1) = some 0 from List.find?_cons_of_pos hright, show (List.range 4).find? s.freshSlot = some 0 from List.find?_cons_of_pos hfresh]
    dsimp only
    rw [if_neg (by simp [hok, hruns, Nat.not_le.mpr hholds, hfits])]
  obtain ⟨y, hsessions, -, -, hslot, hranges, hcontent, hheadless, -, -, hlast, htabs⟩ := openSession_says s 0 0 s.headlessRanges 7 true (by simp [hnone])
  have hpanel := (panelOnly_refl (s.openSession 0 0 s.headlessRanges 7 true)).settleHx
  refine ⟨_, y, hgo, ?_, hheadless, hslot, hcontent, hranges, hpanel.lastSession.trans hlast, ?_⟩
  · rw [hpanel.sessions, hsessions, hnone]
    rfl
  · rw [hpanel.tabs, htabs]

theorem headlessOpen_of_unavailable (h : s.headlessOk = false) : s.headlessOpen = s := by
  unfold State.headlessOpen
  split
  · exact if_pos (by simp [h])
  · rfl

theorem returnTimeout_abandons {b : Nat} (hone : s.boards.sessions = [x]) (hheadless : x.headless = true) (hstate : x.state = .waiting) (hremoved : x.removedAt = some b) :
    ∃ u, exec .cartridgeReturnTimeout s = .next u ∧ u.boards.sessions = [] ∧
      x.id ∈ u.boards.abandoned ∧ u.boards.hx = 6 ∧ u.tabs.holds = s.tabs.holds.filter (fun h => h.id != x.hold) ∧ u.ledger.rtc = (s.reach (b + 600 * 32768)).ledger.rtc := by
  obtain ⟨r, hr⟩ : ∃ r, r = s.reach (b + 600 * 32768) := ⟨_, rfl⟩
  have hfind : s.boards.sessions.find? (fun x => x.headless && x.state == .waiting && x.removedAt.isSome) = some x := by
    rw [hone]
    exact List.find?_cons_of_pos (by simp [hheadless, hstate, hremoved])
  have hgo : exec .cartridgeReturnTimeout s = .next (r.abandonSession x).settleHx := by
    refine congrArg Host.Outcome.next ?_
    unfold State.returnTimeout
    rw [hfind, hr]
    dsimp only
    rw [hremoved]
    rfl
  obtain ⟨hsessions, habandoned, htabs, hrtc, -, hhx⟩ := abandonSession_says r x
  have hpanel := (panelOnly_refl (r.abandonSession x)).settleHx
  refine ⟨_, hgo, ?_, ?_, ?_, ?_, ?_⟩
  · rw [hpanel.sessions, hsessions, hr]
    show s.boards.sessions.filter _ = []
    simp [hone]
  · rw [hpanel.abandoned, habandoned]
    exact List.mem_append_right _ (List.mem_singleton_self _)
  · rw [State.settleHx, if_pos (by rw [hhx hheadless]; decide)]
    exact hhx hheadless
  · rw [hpanel.tabs, htabs, hr]
    rfl
  · rw [hpanel.rtc, hrtc, hr]

theorem hxTimeout_gives_way (hseven : s.boards.hx = 7) {v : State} (hv : v = s.reach (s.boards.hxAt + 5 * 32768)) :
    exec .hxStTimeout s = .next { v with boards := { v.boards with hx := if 5 ≤ s.boards.hxBefore then s.boards.hxBefore else v.hxBase } } := by
  refine congrArg Host.Outcome.next ((if_pos hseven).trans ?_)
  rw [show s.reach (s.boards.hxAt + 5 * hz) = v from hv.symm]
  unfold State.settleHx
  by_cases hheld : 5 ≤ s.boards.hxBefore
  · rw [if_pos hheld, if_pos hheld, hv]
    rfl
  · rw [if_neg hheld, if_neg hheld, hv]
    rfl

/-- Settles O45: each unit by its token and place in the stream, and the head-less status by its code. -/
theorem sessionsRun : Obligations.SessionsRun := by
  unfold Obligations.SessionsRun
  refine fun s n x tok => ⟨fun hone hon hruns hmode hready hgen hstream hwf => ⟨fun htok hmore hroom hcheck => streamUnit_confirms n hone hon hruns hmode hready hgen hstream htok hmore hroom hcheck hwf,
      streamUnit_closes n hone hon hruns hmode hready hgen hstream, streamUnit_refused n hon hruns hmode hready hstream hone⟩,
    fun hnone => ?_, fun hlow => congrArg Host.Outcome.next (if_neg (Nat.not_le.mpr hlow)), fun hhigh => congrArg Host.Outcome.next (if_pos hhigh),
    headlessOpen_opens, fun h => congrArg Host.Outcome.next (headlessOpen_of_unavailable h), fun b => returnTimeout_abandons, fun v hv hseven => hxTimeout_gives_way hseven hv,
    fun hnot => congrArg Host.Outcome.next (if_neg hnot)⟩
  refine congrArg Host.Outcome.next ?_
  unfold State.streamUnit
  rw [hnone]

end Sys2Proof.Proofs
end


section
/-! SUPPORT. EXPORT tickets: their requests, enrolment, sessions and their end (R331, R340 to R348). -/

namespace Sys2Proof.Proofs

open Sys2Proof Sys2Proof.Machine Sys2Proof.Safety

variable {s t u b : State} {n : Nat}

/-! The ticket's request. -/

/-- A read that delivered its bytes adds no AER error (R64). -/
theorem aer_of_delivered (s : State) (p : Nat) (bytes : Bytes) : s.aer p [.ok bytes] = s := by
  have hport : ∀ q : Port, { q with aerLogged := q.aerLogged + readErrors [.ok bytes] } = q := fun q => rfl
  unfold State.aer State.setPort
  rw [hport]
  unfold State.port
  split
  · rfl
  · rfl

section
variable {a : TkArg} {x : Tk} {bytes : Bytes} {r : ExpReq} (hadm : Admitted s a 0x23 x) (hmasters : s.masters x = true)
include hadm hmasters

/-- A request that breaks its format ends with BAD_TICKET (R341). -/
theorem withExport_of_bad_format (hreq : exportReq bytes (x.tk.op 56 4) = none) (kind : Nat) (f : State → Tk → Nat → ExpReq → State) :
    s.withExport a (.ok bytes) kind f = s.finishWith x 0x10 a.us := by
  unfold State.withExport
  rw [withTk_of_admitted hadm]
  dsimp only
  rw [aer_of_delivered, if_neg (by simp [hmasters]), hreq]

variable (hwarn : s.power.warn = false) (hreq : exportReq bytes (x.tk.op 56 4) = some r)
include hwarn hreq

theorem withExport_of_forbidden (hmay : s.exportMay (x.tk.op 60 1) r = false) {kind : Nat} (hkind : r.kind = kind) (f : State → Tk → Nat → ExpReq → State) :
    s.withExport a (.ok bytes) kind f = s.finishWith x 0x13 a.us := by
  unfold State.withExport
  rw [withTk_of_admitted hadm]
  dsimp only
  rw [aer_of_delivered, if_neg (by simp [hmasters]), hreq]
  dsimp only
  rw [if_neg (by simp [hkind, hwarn]), if_pos (by simp [hmay])]

theorem withExport_of_permitted (hmay : s.exportMay (x.tk.op 60 1) r = true) {kind : Nat} (hkind : r.kind = kind) (f : State → Tk → Nat → ExpReq → State) :
    s.withExport a (.ok bytes) kind f = f s x (x.tk.op 60 1) r := by
  unfold State.withExport
  rw [withTk_of_admitted hadm]
  dsimp only
  rw [aer_of_delivered, if_neg (by simp [hmasters]), hreq]
  dsimp only
  rw [if_neg (by simp [hkind, hwarn]), if_neg (by simp [hmay])]

end

/-! Enrolment (R331). -/

/-- Tabs and vault are not changed by a session that goes on with its next part (R348). -/
theorem takeNext_frame (s : State) : s.takeNext.tabs = s.tabs ∧ s.takeNext.vault = s.vault := by
  unfold State.takeNext
  split
  · next y m _ _ =>
    split
    · exact ⟨rfl, rfl⟩
    · obtain ⟨z, -, hopen⟩ := openPart_says s y m
      exact ⟨hopen.tabs, hopen.vault⟩
  · exact ⟨rfl, rfl⟩

/-- A fresh pairing and the next image: the key is kept, and no tab changes. -/
theorem paired_image {key k : Bytes} (hk : s.vault.vaultKey = some k) (n : Nat) :
    (∃ p ∈ ((s.paired n key).writeImage).vault.pairing, p.maker = (s.slot n).maker ∧ p.serial = (s.slot n).serial) ∧
      ((s.paired n key).writeImage).vault.imageSerial = s.vault.imageSerial + 1 ∧ ((s.paired n key).writeImage).tabs = s.tabs := by
  obtain ⟨hkept, -⟩ := keepPair_pairing s (s.slot n).maker (s.slot n).serial key
  obtain ⟨⟨ev, i0, i1, m, d, p, sr, himage⟩, hnext⟩ := writeImage_says (s := s.paired n key) (k := k) hk
  rw [hnext, himage]
  exact ⟨hkept, rfl, rfl⟩

/-- What an enrolment leaves in the vault and the tabs, whatever ends it. -/
def Enrolled (s u : State) (maker serial : Nat) : Prop :=
  (∃ p ∈ u.vault.pairing, p.maker = maker ∧ p.serial = serial) ∧ u.vault.imageSerial = s.vault.imageSerial + 1 ∧ u.tabs = s.tabs

theorem Enrolled.of_frame {m k : Nat} (h : Enrolled s t m k) (hv : u.vault = t.vault) (ht : u.tabs = t.tabs) : Enrolled s u m k := by
  rw [Enrolled, hv, ht]
  exact h

theorem enrol_enrols {a : TkArg} {x : Tk} {bytes : Bytes} {r : ExpReq} {ca : CartAns} (hadm : Admitted s a 0x23 x) (hmasters : s.masters x = true) (hwarn : s.power.warn = false)
    (hreq : exportReq bytes (x.tk.op 56 4) = some r) (hmay : s.exportMay (x.tk.op 60 1) r = true) (hkind : r.kind = 1) (hroom : s.pairRoom (x.tk.op 60 1) = true) (hok : ca.ok = true)
    (hlen : ca.keyBlock.length = 512) (hentropy : s.entropyOk = true) (hkey : (p256.decode (ca.keyBlock.take 64)).isSome = true) (hvault : s.vault.vaultKey.isSome = true)
    (hwf : s.boards.slots.wf noSlot = true) (hserves : PoolServes s 2) :
    ∃ u, exec (.enrol a (.ok bytes) ca) s = .next u ∧ Enrolled s u (s.slot (x.tk.op 60 1)).maker (s.slot (x.tk.op 60 1)).serial := by
  obtain ⟨m, hm⟩ : ∃ m, m = x.tk.op 60 1 := ⟨_, rfl⟩
  obtain ⟨q, hq⟩ := Option.isSome_iff_exists.mp hkey
  obtain ⟨k, hk⟩ := Option.isSome_iff_exists.mp hvault
  obtain ⟨r1, hr1⟩ : ∃ r1, r1 = (s.rouse m).setSlot m { (s.rouse m).slot m with keyBlock := ca.keyBlock } := ⟨_, rfl⟩
  have hr1out : SlotsOut s r1 := hr1 ▸ (slotsOut_refl s).rouse.setSlot
  have hr1wf : r1.boards.slots.wf noSlot = true := hr1 ▸ setSlot_wf (setSlot_wf hwf m _) m _
  have hr1ident : (r1.slot m).ident = (s.slot m).ident := by
    rw [hr1, slot_setSlot (s := s.rouse m) (setSlot_wf hwf m _)]
    exact rouse_ident hwf m
  obtain ⟨w, key, g, hdone, hpair⟩ := pairWith_of_serves (s := r1) (n := m) (block := ca.keyBlock) hq (by obtain ⟨_, _, _, rfl⟩ := hr1out; exact hserves)
  obtain ⟨s1, hs1⟩ : ∃ s1, s1 = g.cartOut (.pair m w) := ⟨_, rfl⟩
  have hg : g.vault = s.vault ∧ g.tabs = s.tabs ∧ g.boards = r1.boards := by
    obtain ⟨_, rfl⟩ := hdone
    exact ⟨hr1out.vault, hr1out.tabs, rfl⟩
  obtain ⟨hgv, hgt, hgb⟩ := hg
  have hident : (s1.slot m).ident = (s.slot m).ident := by
    rw [hs1, cartOut_ident (by rw [hgb]; exact hr1wf), ← hr1ident, State.slot, State.slot, hgb]
  have hs1v : s1.vault = s.vault := hs1 ▸ hgv
  have hs1t : s1.tabs = s.tabs := hs1 ▸ hgt
  obtain ⟨s2, hs2⟩ : ∃ s2, s2 = (s1.paired m key).writeImage := ⟨_, rfl⟩
  have henrolled : Enrolled s s2 (s.slot m).maker (s.slot m).serial := by
    obtain ⟨hkept, hserial, htabs⟩ := paired_image (s := s1) (key := key) (k := k) (by rw [hs1v, hk]) m
    rw [← hs2] at hkept hserial htabs
    rw [hs1v] at hserial
    rw [Slot.maker, Slot.serial, hident, ← Slot.maker, ← Slot.serial] at hkept
    exact ⟨hkept, hserial, htabs.trans hs1t⟩
  rw [← hm]
  have hgo : exec (.enrol a (.ok bytes) ca) s = .next (
      if rpaVerify key (s2.drawBytes 16) 0x0101 [ca.counter] && rpaOk [ca.counter] then
        (((s2.drewBytes 16).setSlot m { (s2.drewBytes 16).slot m with enrolled := true, rpaCounter := fld ca.counter 272 4 }).takeNext.settleHx).finish x { x.receipt 0 with result := 0 } a.us
      else (s2.drewBytes 16).finishWith x 0x20 a.us) := by
    refine congrArg Host.Outcome.next ((withExport_of_permitted hadm hmasters hwarn hreq hmay hkind _).trans ?_)
    rw [← hm] at hroom ⊢
    rw [if_neg (by simp [hroom]), if_neg (by simp [hok, hlen, hentropy])]
    dsimp only
    rw [← hr1, hpair]
    dsimp only
    rw [← hs1, ← hs2]
  refine ⟨_, hgo, ?_⟩
  split
  · obtain ⟨v, hv⟩ : ∃ v, v = (s2.drewBytes 16).setSlot m { (s2.drewBytes 16).slot m with enrolled := true, rpaCounter := fld ca.counter 272 4 } := ⟨_, rfl⟩
    rw [← hv]
    obtain ⟨htabs, hvault⟩ := takeNext_frame v
    have hpanel := (panelOnly_refl v.takeNext).settleHx
    have hposts := (posts_refl v.takeNext.settleHx).finish (x := x) (rc := { x.receipt 0 with result := 0 }) (us := a.us)
    refine henrolled.of_frame ?_ ?_
    · rw [hposts.vault, hpanel.vault, hvault, hv]
      rfl
    · rw [hposts.tabs, hpanel.tabs, htabs, hv]
      rfl
  · have hposts := (posts_refl (s2.drewBytes 16)).finish (x := x) (rc := x.receipt 0x20) (us := a.us)
    exact henrolled.of_frame hposts.vault hposts.tabs

/-! Opening and ending a session (R342, R348). -/

section
variable {a : TkArg} {x : Tk} {bytes : Bytes} {r : ExpReq} (hadm : Admitted s a 0x23 x) (hmasters : s.masters x = true) (hwarn : s.power.warn = false)
  (hreq : exportReq bytes (x.tk.op 56 4) = some r) (hmay : s.exportMay (x.tk.op 60 1) r = true)
include hadm hmasters hwarn hreq hmay

theorem exportOpen_opens {ca : CartAns} (hkind : r.kind = 2) (hok : ca.ok = true) (hholds : s.tabs.holds.length < 4096) (hfits : s.eventFits 24 = true)
    (hids : ∀ y ∈ s.boards.sessions, y.id ≤ s.boards.lastSession) :
    ∃ u y, exec (.exportOpen a (.ok bytes) ca) s = .next u ∧
        u.boards.sessions = s.boards.sessions ++ [y] ∧ y.id = s.boards.lastSession + 1 ∧ y.state = .opened ∧ y.slot = x.tk.op 60 1 ∧ y.ranges = r.ranges ∧ y.content = r.content ∧ y.headless = false ∧
        y.confirmed = 0 ∧ u.boards.lastSession = s.boards.lastSession + 1 ∧ y.hold = s.tabs.holdHigh + 1 ∧ u.tabs.holds = s.tabs.holds ++ [s.selectionHold r.ranges] ∧ u.tabs.entries = s.tabs.entries := by
  obtain ⟨y, hsessions, hid, hstate, hslot, hranges, hcontent, hheadless, hconfirmed, hhold, hlast, htabs⟩ := openSession_says s (x.tk.op 60 1) r.card r.ranges r.content false hids
  obtain ⟨v, hv⟩ : ∃ v, v = s.openSession (x.tk.op 60 1) r.card r.ranges r.content false := ⟨_, rfl⟩
  rw [← hv] at hsessions hlast htabs
  have hgo : exec (.exportOpen a (.ok bytes) ca) s = .next (v.settleHx.finish x { x.receipt 0 with result := v.settleHx.boards.lastSession } a.us) := by
    refine congrArg Host.Outcome.next ((withExport_of_permitted hadm hmasters hwarn hreq hmay hkind _).trans ?_)
    rw [if_neg (by simp [Nat.not_le.mpr hholds, hfits]), if_neg (by simp [hok]), hv]
  have hpanel := (panelOnly_refl v).settleHx
  have hposts := (posts_refl v.settleHx).finish (x := x) (rc := { x.receipt 0 with result := v.settleHx.boards.lastSession }) (us := a.us)
  refine ⟨_, y, hgo, ?_, hid, hstate, hslot, hranges, hcontent, hheadless, hconfirmed, ?_, hhold, ?_, ?_⟩
  · rw [hposts.boards, hpanel.sessions, hsessions]
  · rw [hposts.boards, hpanel.lastSession, hlast]
  · rw [hposts.tabs, hpanel.tabs, htabs]
  · rw [hposts.tabs, hpanel.tabs, htabs]

theorem abandon_ends {ca : CartAns} {y : Session} (hkind : r.kind = 4) (hone : s.boards.sessions = [y]) (hid : y.id = r.session) :
    ∃ u, exec (.abandon a (.ok bytes) ca) s = .next u ∧ u.boards.sessions = [] ∧
        r.session ∈ u.boards.abandoned ∧ u.tabs.holds = s.tabs.holds.filter (fun h => h.id != y.hold) ∧ u.boards.events.getLsbD 13 = true := by
  have hgo : exec (.abandon a (.ok bytes) ca) s = .next (((s.abandonSession y).settleHx).finishWith x 0 a.us) := by
    refine congrArg Host.Outcome.next ((withExport_of_permitted hadm hmasters hwarn hreq hmay hkind _).trans ?_)
    rw [hone, List.find?_cons_of_pos (by simp [hid])]
  obtain ⟨hsessions, habandoned, htabs, -, hevent, -⟩ := abandonSession_says s y
  have hpanel := (panelOnly_refl (s.abandonSession y)).settleHx
  have hposts := (posts_refl (s.abandonSession y).settleHx).finish (x := x) (rc := x.receipt 0) (us := a.us)
  refine ⟨_, hgo, ?_, ?_, ?_, ?_⟩
  · rw [State.finishWith, hposts.boards, hpanel.sessions, hsessions, hone]
    simp
  · rw [State.finishWith, hposts.boards, hpanel.abandoned, habandoned, ← hid]
    exact List.mem_append_right _ (List.mem_singleton_self _)
  · rw [State.finishWith, hposts.tabs, hpanel.tabs, htabs]
  · rw [State.finishWith, hposts.boards, settleHx_events]
    exact hevent

end

/-- Settles O44: each kind of request by the first check that fails, and what a permitted one does. -/
theorem exportTickets : Obligations.ExportTickets := by
  unfold Obligations.ExportTickets
  intro s a x bytes ca r hadm hmasters hwarn hreq
  have forbidden := fun hmay {kind} hkind => withExport_of_forbidden hadm hmasters hwarn hreq hmay (kind := kind) hkind
  have permitted := fun hmay {kind} hkind => withExport_of_permitted hadm hmasters hwarn hreq hmay (kind := kind) hkind
  refine ⟨congrArg Host.Outcome.next (withExport_of_bad_format hadm hmasters (if_neg fun h => ?_) 2 _), fun hmay => ⟨?_, ?_, ?_, ?_⟩, fun hmay => ⟨?_, ?_, ?_, ?_, ?_, ?_, ?_⟩⟩
  · obtain ⟨hlen, hlong, -⟩ := h
    exact absurd (hlen ▸ hlong) (by decide)
  · exact fun hkind => congrArg Host.Outcome.next (forbidden hmay hkind _)
  · exact fun hkind => congrArg Host.Outcome.next (forbidden hmay hkind _)
  · exact fun hkind => congrArg Host.Outcome.next (forbidden hmay hkind _)
  · exact fun hkind => congrArg Host.Outcome.next (forbidden hmay hkind _)
  · exact fun hkind hroom => congrArg Host.Outcome.next ((permitted hmay hkind _).trans (if_pos (by simp [hroom])))
  · exact fun hkind hroom hok => congrArg Host.Outcome.next ((permitted hmay hkind _).trans ((if_neg (by simp [hroom])).trans (if_pos (by simp [hok]))))
  · intro hkind hroom hok hlen hentropy hkey hvault hwf hserves
    obtain ⟨u, hgo, hkept, hserial, htabs⟩ := enrol_enrols hadm hmasters hwarn hreq hmay hkind hroom hok hlen hentropy hkey hvault hwf hserves
    exact ⟨u, hgo, hkept, hserial, by rw [htabs], by rw [htabs]⟩
  · intro hkind
    refine congrArg Host.Outcome.next ((permitted hmay hkind _).trans ?_)
    cases ca.ok <;> rfl
  · intro hkind hfull
    refine congrArg Host.Outcome.next ((permitted hmay hkind _).trans (if_pos ?_))
    exact hfull.imp id fun h => by simp [h]
  · exact fun hkind hok hholds hfits hids => exportOpen_opens hadm hmasters hwarn hreq hmay hkind hok hholds hfits hids
  · exact fun y hkind hone hid _ => abandon_ends hadm hmasters hwarn hreq hmay hkind hone hid

end Sys2Proof.Proofs
end


section
/-! SUPPORT. Detections that are logged and notified, the resets of the main domains, and what the backup domain keeps (R355 to R362, R368, R404 to R411, R446). -/

namespace Sys2Proof.Proofs

open Sys2Proof Sys2Proof.Machine Sys2Proof.Safety

variable {s t u b : State} {n : Nat}

/-! What recording a detection leaves. -/

/-- Only messages, the events of the open tick and what the monitor records differ. -/
def Records (s u : State) : Prop :=
  ∃ o d ev q nx ll wt nt rg ov lv ls, u = { s with
    host := { s.host with out := o }, dev := d, ledger := { s.ledger with events := ev }
    tamper := { s.tamper with queue := q, next := nx, logLost := ll, waiting := wt, notified := nt, ring := rg, overflow := ov, lastLevel := lv, lastSource := ls } }

theorem records_refl (s : State) : Records s s := ⟨_, _, _, _, _, _, _, _, _, _, _, _, rfl⟩

theorem Records.trans (h : Records s t) (h' : Records t u) : Records s u := by
  obtain ⟨_, _, _, _, _, _, _, _, _, _, _, _, rfl⟩ := h
  obtain ⟨_, _, _, _, _, _, _, _, _, _, _, _, rfl⟩ := h'
  exact ⟨_, _, _, _, _, _, _, _, _, _, _, _, rfl⟩

theorem Records.ite {c : Prop} [Decidable c] (h : Records b s) (h' : Records b t) : Records b (if c then s else t) := by
  split
  · exact h
  · exact h'

theorem Records.foldl {α : Type} {f : State → α → State} {l : List α} (h : Records b s) (hf : ∀ s a, Records b s → Records b (f s a)) : Records b (l.foldl f s) :=
  List.foldlRecOn l f (motive := Records b) h fun s hs a _ => hf s a hs

theorem Records.signal {c} (h : Records b s) : Records b (s.signal c) := h.trans (by rw [show s.signal c = _ from Laws.signal_says s c]; exact ⟨_, _, _, _, _, _, _, _, _, _, _, _, rfl⟩)

theorem Records.addEvent {type body} (h : Records b s) : Records b (s.addEvent type body) := .ite (h.trans ⟨_, _, _, _, _, _, _, _, _, _, _, _, rfl⟩) h

theorem Records.logTamper {e} (h : Records b s) : Records b (s.logTamper e) := .ite (h.trans ⟨_, _, _, _, _, _, _, _, _, _, _, _, rfl⟩) (h.trans ⟨_, _, _, _, _, _, _, _, _, _, _, _, rfl⟩)

theorem Records.ringPut {e} (h : Records b s) : Records b (s.ringPut e) := .ite (h.trans ⟨_, _, _, _, _, _, _, _, _, _, _, _, rfl⟩) (h.trans ⟨_, _, _, _, _, _, _, _, _, _, _, _, rfl⟩)

theorem Records.tamperEvent {source level time} (h : Records b s) : Records b (s.tamperEvent source level time) := .ite h.addEvent (.ite h (h.trans ⟨_, _, _, _, _, _, _, _, _, _, _, _, rfl⟩))

theorem Records.notify {source} (h : Records b s) : Records b (s.notify source) := .ite h (.signal (h.trans ⟨_, _, _, _, _, _, _, _, _, _, _, _, rfl⟩))

theorem Records.recordSeen {d applied kill} (h : Records b s) : Records b (s.recordSeen d applied kill) := .ite h (.ite h.logTamper.tamperEvent.notify h.logTamper.tamperEvent)

theorem Records.ringSeen {l top acts} (h : Records b s) : Records b (s.ringSeen l top acts) := h.foldl fun _ _ hs => .ite (.ite hs hs.ringPut) (.ite hs.ringPut hs)

section
variable (h : Records s u)
include h

theorem Records.tabs : u.tabs = s.tabs := by obtain ⟨_, _, _, _, _, _, _, _, _, _, _, _, rfl⟩ := h; rfl
theorem Records.vault : u.vault = s.vault := by obtain ⟨_, _, _, _, _, _, _, _, _, _, _, _, rfl⟩ := h; rfl
theorem Records.power : u.power = s.power := by obtain ⟨_, _, _, _, _, _, _, _, _, _, _, _, rfl⟩ := h; rfl
theorem Records.guard : u.guard = s.guard := by obtain ⟨_, _, _, _, _, _, _, _, _, _, _, _, rfl⟩ := h; rfl
theorem Records.units : u.units = s.units := by obtain ⟨_, _, _, _, _, _, _, _, _, _, _, _, rfl⟩ := h; rfl
theorem Records.crypto : u.crypto = s.crypto := by obtain ⟨_, _, _, _, _, _, _, _, _, _, _, _, rfl⟩ := h; rfl
theorem Records.fault : u.fault = s.fault := by obtain ⟨_, _, _, _, _, _, _, _, _, _, _, _, rfl⟩ := h; rfl
theorem Records.src (n : Nat) : u.src n = s.src n := by obtain ⟨_, _, _, _, _, _, _, _, _, _, _, _, rfl⟩ := h; rfl

end

/-- Detections below SCRUB are only recorded (R359). -/
theorem Records.respond {l : List Seen} {ringToo} (h : Records b s) (hmild : (topSeen l).1 ≤ 2) : Records b (s.respond l ringToo) := by
  have hall : ∀ (applied : Seen → Nat) (kill : Seen → Bool), Records b (l.foldl (fun s d => s.recordSeen d (applied d) (kill d)) (if ringToo then s.ringSeen l (topSeen l) (!(s.power.mode == .lockdown) || (topSeen l).1 == 5) else s)) :=
    fun applied kill => (Records.ite h.ringSeen h).foldl fun _ _ hs => hs.recordSeen
  unfold State.respond
  dsimp only
  split
  · exact hall _ _
  · split
    · exact (hall _ _).trans ⟨_, _, _, _, _, _, _, _, _, _, _, _, rfl⟩
    · split
      · omega
      · omega
      · omega
      · exact (hall _ _).trans ⟨_, _, _, _, _, _, _, _, _, _, _, _, rfl⟩

theorem countSeen_src (hwf : s.tamper.srcs.wf Src.at_ = true) (n : Nat) : (s.countSeen n).src n = { s.src n with count := sat 16 ((s.src n).count + 1), active := (s.src n).active || lasting n } :=
  (get_set hwf n n _).trans (if_pos rfl)

/-- One armed source that detects below SCRUB is counted, shown where its condition lasts, and recorded (R355, R359). -/
theorem detect_of_mild {d : Det} (harmed : s.armed d.source = true) (hnot9 : d.source ≠ 9) (hmild : (s.src d.source).level ≤ 2) (fraction flags : Nat) :
    Records (s.countSeen d.source) (s.detect [d] fraction flags) := by
  have hhit : [d].filter (fun d => s.armed d.source) = [d] := by simp [harmed]
  unfold State.detect
  dsimp only
  rw [hhit, if_neg (List.cons_ne_nil _ _), if_neg (by simp [hnot9])]
  refine (records_refl _).respond ?_
  simp only [topSeen, List.map_cons, List.map_nil, List.foldl_cons, List.foldl_nil]
  split
  · exact hmild
  · decide

theorem detect_of_unarmed {d : Det} (h : s.armed d.source = false) (fraction flags : Nat) : s.detect [d] fraction flags = s := by
  have hnone : [d].filter (fun d => s.armed d.source) = [] := by simp [h]
  unfold State.detect
  dsimp only
  rw [hnone, if_pos rfl]

/-! The resets of the main domains. -/

/-- What every reset of the main domains takes away and leaves (R405, R410, R411). -/
def ResetLeaves (s u : State) (cause : Nat) : Prop :=
  u.host.tickets = [] ∧ u.host.rings = [] ∧ u.units.items = [] ∧ u.vault.vaultKey = none ∧ u.vault.epochs = [] ∧ u.dev.ready = false ∧ u.power.resetCause = cause ∧
        u.guard.otp = s.guard.otp ∧ u.flash.desc = s.flash.desc ∧ u.flash.lanes = s.flash.lanes ∧ u.tabs.entries = s.tabs.entries.filter Entry.programmed ∧ u.tabs.holds = [] ∧ u.tabs.applets = s.tabs.applets ∧
        u.ledger.durableTick = s.ledger.durableTick ∧ u.pending = s.pending ∧ (s.power.vbat = true ∨ cause ≠ 1 → u.vault.enclosure = s.vault.enclosure ∧ u.ledger.rtc = s.ledger.rtc ∧ u.tabs.holdHigh = s.tabs.holdHigh) ∧
        (cause = 1 → u.power.pwrOk = false ∧ (s.power.vbat = true → u.power.mode = .backup) ∧ (s.power.vbat = false → u.power.mode = .off ∧ u.vault.enclosure = none ∧ u.ledger.rtc = 0 ∧ u.power.fresh = true))

theorem mainReset_leaves (s : State) {cause : Nat} (hcause : cause ≠ 1) (again : Nat) (mode : Mode) : ResetLeaves s (s.mainReset cause again mode) cause :=
  ⟨rfl, rfl, rfl, rfl, rfl, rfl, rfl, rfl, rfl, rfl, rfl, rfl, rfl, rfl, rfl, fun _ => ⟨rfl, rfl, rfl⟩, fun h => absurd h hcause⟩

theorem losePower_leaves (hok : s.power.pwrOk = true) : ResetLeaves s s.losePower 1 := by
  unfold State.losePower
  rw [if_neg (by simp [hok])]
  by_cases hvbat : s.power.vbat = true
  · have hmode : s.downMode = .backup := if_pos hvbat
    simp only [hvbat, hmode, if_true]
    exact ⟨rfl, rfl, rfl, rfl, rfl, rfl, rfl, rfl, rfl, rfl, rfl, rfl, rfl, rfl, rfl, fun _ => ⟨rfl, rfl, rfl⟩, fun _ => ⟨rfl, fun _ => rfl, fun h => absurd h (by simp [hvbat])⟩⟩
  · have hmode : s.downMode = .off := if_neg hvbat
    rw [if_neg hvbat, hmode]
    exact ⟨rfl, rfl, rfl, rfl, rfl, rfl, rfl, rfl, rfl, rfl, rfl, rfl, rfl, rfl, rfl, fun h => absurd h (by simp [hvbat]), fun _ => ⟨rfl, fun h => absurd h hvbat, fun _ => ⟨rfl, rfl, rfl, rfl⟩⟩⟩

/-- Settles O51: each reset by what it leaves, and the cell by whether main power stands. -/
theorem resetsKeep : Obligations.ResetsKeep := by
  unfold Obligations.ResetsKeep
  intro s
  refine ⟨fun c cause hmem hok hmain hnone => ?_, fun hmain ⟨t, ht, hphase⟩ => ?_, fun b => rfl, fun hok hoff => ?_, fun hmain harmed hlevel hwf => ?_, fun hok => ?_, fun hok => ?_, fun hok hmode => ?_⟩
  · simp only [List.mem_cons, Prod.mk.injEq, List.not_mem_nil, or_false] at hmem
    rcases hmem with ⟨rfl, rfl⟩ | ⟨rfl, rfl⟩ | ⟨rfl, rfl⟩ | ⟨rfl, rfl⟩
    · exact ⟨_, rfl, losePower_leaves hok⟩
    · exact ⟨_, congrArg Host.Outcome.next (if_pos hok), mainReset_leaves s (by decide) 0 s.downMode⟩
    · refine ⟨_, congrArg Host.Outcome.next ((if_neg (by simp [hmain])).trans (if_neg (by simp [hnone]))), mainReset_leaves s (by decide) 1 .rest⟩
    · exact ⟨_, congrArg Host.Outcome.next (if_pos hmain), mainReset_leaves s (by decide) 1 .rest⟩
  · exact congrArg Host.Outcome.next ((if_neg (by simp [hmain])).trans (if_pos (by simp [ht, hphase])))
  · refine congrArg Host.Outcome.next ((if_pos hok).trans ?_)
    rcases hoff with hmain | harmed
    · exact if_neg (by simp [hmain])
    · split
      · exact detect_of_unarmed (s := { s with power := { s.power with vbat := false, onVbat := false } }) (d := { source := 8, detail := 0 }) harmed 0 0
      · rfl
  · obtain ⟨w, hw⟩ : ∃ w : State, w = { s with power := { s.power with vbat := false, onVbat := false } } := ⟨_, rfl⟩
    have hok : s.power.pwrOk = true := by
      simp only [State.mainOn, Bool.and_eq_true] at hmain
      exact hmain.1.1.1
    have hrun : exec .vbatLoss s = .next (w.raise 8 0) := by
      rw [hw]
      exact congrArg Host.Outcome.next ((if_pos hok).trans (if_pos hmain))
    have hrec : Records (w.countSeen 8) (w.raise 8 0) := by
      have harmed' : w.armed 8 = true := hw ▸ harmed
      have hlevel' : (w.src 8).level ≤ 2 := hw ▸ hlevel
      exact detect_of_mild (d := { source := 8, detail := 0 }) harmed' (by decide) hlevel' 0 0
    refine ⟨_, hrun, ?_, ?_, ?_, ?_⟩
    · rw [hrec.power, hw]
      rfl
    · have hsrc : w.src 8 = s.src 8 := hw ▸ rfl
      rw [hrec.src, countSeen_src (s := w) (hw ▸ hwf), hsrc, show lasting 8 = true from rfl, Bool.or_true]
    · rw [hrec.guard, hw]
      rfl
    · rw [hrec.vault, hw]
      rfl
  · exact ⟨_, congrArg Host.Outcome.next (if_neg (by simp [hok])), rfl, rfl, rfl, rfl, rfl⟩
  · exact congrArg Host.Outcome.next (if_pos hok)
  · refine congrArg Host.Outcome.next ((if_neg (by simp [hok])).trans ?_)
    rw [if_pos hmode]

end Sys2Proof.Proofs
end


section
/-! SUPPORT. Monitor settings, detections in BACKUP and the flushes of both logs (R355, R361 to R368, R430). -/

namespace Sys2Proof.Proofs

open Sys2Proof Sys2Proof.Machine Sys2Proof.Safety

variable {s t u b : State} {n : Nat}

/-! Writes of TAMPER.SRC (R365). -/

theorem levelStored_of_lt {new : Nat} (h : new < 5) (old : Nat) (kill : Bool) : levelStored old new kill = new := by
  unfold levelStored
  rw [if_neg (by omega), if_neg (by omega)]

theorem write_level_of_lt (c : Src) (n : Nat) {v : BitVec 32} (kill : Bool) (h : v.toNat / 2 ^ 29 < 5) : (c.write n v.toNat kill).level = v.toNat / 2 ^ 29 :=
  (congrArg (fun x => levelStored c.level x kill) (bits_level v)).trans (levelStored_of_lt h _ _)

theorem logTamper_of_room {e : TamperEntry} (h : s.tamper.queue.length < 256) :
    s.logTamper e = { s with tamper := { s.tamper with queue := s.tamper.queue ++ [{ e with seq := s.tamper.next }], next := s.tamper.next + 1 } } := if_neg (Nat.not_le.mpr h)

section
variable (n : Fin 32) (v : BitVec 32)

theorem writeSrc_of_forbidden (h : s.power.mode = .lockdown ∨ s.guard.otp.fuses.getLsbD n.val = true) : s.writeSrc n v.toNat = s := by
  refine if_pos ?_
  rcases h with h | h
  · simp [h]
  · have hfused : s.fused n.val = true := h
    simp [hfused]

theorem writeSrc_of_lock (hlock : s.tamper.lock = true) (hlow : v.toNat / 2 ^ 29 < (s.src n.val).level) (hfour : v.toNat / 2 ^ 29 < 4) : s.writeSrc n v.toNat = s := by
  refine if_pos ?_
  have hlowers : (s.src n.val).lowers ((s.src n.val).write n.val v.toNat s.guard.otp.killAllowed) = true := by
    have hless : decide (((s.src n.val).write n.val v.toNat s.guard.otp.killAllowed).level < (s.src n.val).level) = true :=
      decide_eq_true (by rwa [write_level_of_lt (s.src n.val) n.val s.guard.otp.killAllowed (Nat.lt_of_lt_of_le hfour (by decide))])
    rw [Src.lowers, hless]
    rfl
  simp [hlock, hlowers]

/-- A permitted change is stored and logged (R365, R368). -/
theorem writeSrc_stores (hwf : s.tamper.srcs.wf Src.at_ = true) (hmode : s.power.mode ≠ .lockdown) (hfuse : s.guard.otp.fuses.getLsbD n.val = false) (hlock : s.tamper.lock = false)
    (hfive : v.toNat / 2 ^ 29 < 5) (hchange : v.toNat / 2 ^ 29 ≠ (s.src n.val).level) (hqueue : s.tamper.queue.length < 256) :
    ∃ u e, exec (.tamperSrcWrite n v) s = .next u ∧ (u.src n.val).level = v.toNat / 2 ^ 29 ∧ (n.val ≤ 9 → (u.src n.val).debounce = min 64 (v.toNat / 65536 % 256) ∧ (u.src n.val).backupErase = v.getLsbD 28) ∧
        (9 < n.val → (u.src n.val).debounce = (s.src n.val).debounce ∧ (u.src n.val).backupErase = (s.src n.val).backupErase) ∧
        u.tamper.queue = s.tamper.queue ++ [e] ∧ e.source = n.val ∧ e.flags = 8 ∧ e.level = v.toNat / 2 ^ 29 ∧ (∀ k, k ≠ n.val → u.src k = s.src k) ∧ u.power = s.power := by
  have hfused : s.fused n.val = false := hfuse
  obtain ⟨d, hd⟩ : ∃ d, d = (s.src n.val).write n.val v.toNat s.guard.otp.killAllowed := ⟨_, rfl⟩
  have hlevel : d.level = v.toNat / 2 ^ 29 := hd ▸ write_level_of_lt (s.src n.val) n.val _ hfive
  have hnew : s.src n.val ≠ d := fun h => hchange (hlevel.symm.trans (congrArg Src.level h.symm))
  have hrun : exec (.tamperSrcWrite n v) s = .next ((s.setSrc n d).logConfig n d.level 0) := by
    refine congrArg Host.Outcome.next ?_
    unfold State.writeSrc
    dsimp only
    rw [← hd]
    exact if_neg (by simp [hmode, hfused, hlock, hnew])
  have hsrc := fun k : Nat => (logConfig_src (s.setSrc n d) n d.level 0 k).trans (get_set hwf n.val k d)
  have hlog := logTamper_of_room (s := s.setSrc n d) (e := { seq := 0, time := s.now, source := n, level := d.level, flags := 8, mode := s.power.mode.code, detail := 0 % 2 ^ 24, tick := s.tickLow }) hqueue
  have hsame := (hsrc n).trans (if_pos rfl)
  refine ⟨_, _, hrun, ?_, fun hlow => ⟨?_, ?_⟩, fun hhigh => ⟨?_, ?_⟩, congrArg (fun u => u.tamper.queue) hlog, rfl, rfl, hlevel, fun k hk => (hsrc k).trans (if_neg hk), (congrArg (fun u => u.power) hlog).trans rfl⟩
  · rw [hsame, hlevel]
  · rw [hsame, hd]
    exact if_pos hlow
  · rw [hsame, hd]
    exact if_pos hlow
  · rw [hsame, hd]
    exact if_neg (Nat.not_le.mpr hhigh)
  · rw [hsame, hd]
    exact if_neg (Nat.not_le.mpr hhigh)

end

/-! Detections in BACKUP (R361, R362). -/

theorem ringPut_of_room {e : RingEvent} (h : s.tamper.ring.length < 16) : s.ringPut e = { s with tamper := { s.tamper with ring := s.tamper.ring ++ [e] } } := if_pos h

theorem backupDetect_says (hn : n ≤ 9) (d : Nat) (hwf : s.tamper.srcs.wf Src.at_ = true) (hmode : s.power.mode = .backup) (harmed : s.armed n = true) (hring : s.tamper.ring.length < 16) :
    ∃ u, exec (.backupDetection [{ source := n, detail := d }]) s = .next u ∧
      u.vault = (if (s.src n).backupErase then { s.vault with enclosure := none } else s.vault) ∧ u.src n = { s.src n with active := true } ∧
      u.ledger = (if n = 9 then { s.ledger with uncertain := true } else s.ledger) ∧ u.guard = s.guard ∧
      u.tamper.ring = s.tamper.ring ++ [{ main := false, erased := (s.src n).backupErase && s.vault.enclosure.isSome, action := if (s.src n).backupErase then 2 else 1, source := n, rtc := s.now }] := by
  have hrun : exec (.backupDetection [{ source := n, detail := d }]) s = .next (s.backupOne n) := by
    refine congrArg Host.Outcome.next ((if_pos hmode).trans ?_)
    simp [hn, harmed]
  obtain ⟨c, hc⟩ : ∃ c, c = { s.src n with active := true } := ⟨_, rfl⟩
  obtain ⟨e, he⟩ : ∃ e, e = (s.src n).backupErase := ⟨_, rfl⟩
  have hput := ringPut_of_room (s := s.setSrc n c) (e := { main := false, erased := e && s.vault.enclosure.isSome, action := if e then 2 else 1, source := n, rtc := s.now }) hring
  have hsrc : ∀ u : State, u.tamper.srcs = (s.setSrc n c).tamper.srcs → u.src n = c := fun u hu => (congrArg (fun m => m.get Src.at_ n) hu).trans ((get_set hwf n n c).trans (if_pos rfl))
  refine ⟨_, hrun, ?_⟩
  unfold State.backupOne
  dsimp only
  rw [← hc, ← he, hput]
  cases e
  · by_cases hnine : n = 9
    · rw [if_pos hnine, if_pos hnine]
      exact ⟨rfl, hsrc _ rfl, rfl, rfl, rfl⟩
    · rw [if_neg hnine, if_neg hnine]
      exact ⟨rfl, hsrc _ rfl, rfl, rfl, rfl⟩
  · by_cases hnine : n = 9
    · rw [if_pos hnine, if_pos hnine]
      exact ⟨rfl, hsrc _ rfl, rfl, rfl, rfl⟩
    · rw [if_neg hnine, if_neg hnine]
      exact ⟨rfl, hsrc _ rfl, rfl, rfl, rfl⟩

/-- The crystal runs again: TS09 can detect, and the RTC goes on from it (R355). -/
theorem conditionCleared_nine (hwf : s.tamper.srcs.wf Src.at_ = true) :
    ∃ u, exec (.conditionCleared 9) s = .next u ∧ (u.src 9).active = false ∧ u.power = { s.power with xtalRc := false } ∧ u.ledger = s.ledger := by
  obtain ⟨c, hc⟩ : ∃ c, c = { s.src 9 with active := false } := ⟨_, rfl⟩
  have hsrc : (s.setSrc 9 c).src 9 = c := (get_set hwf 9 9 c).trans (if_pos rfl)
  refine ⟨{ s.setSrc 9 c with power := { s.power with xtalRc := false } }, ?_, ?_, rfl, rfl⟩
  · rw [hc]
    rfl
  · exact (congrArg Src.active hsrc).trans (by rw [hc])

/-! The flushes (R362, R368, R430). -/

theorem newest_of_room {α : Type} {k : Nat} {l : List α} (h : l.length ≤ k) : newest k l = l := by
  rw [newest, Nat.sub_eq_zero_of_le h, List.drop_zero]

/-- Settles O47: each setting, detection in BACKUP and flush by what forbids it. -/
theorem protectionSettings : Obligations.ProtectionSettings := by
  unfold Obligations.ProtectionSettings
  refine ⟨fun s n v hwf => ⟨fun hmode => congrArg Host.Outcome.next (if_neg (by simp [hmode])), fun hmode => congrArg Host.Outcome.next (if_pos (by simp [hmode])),
      fun h => congrArg Host.Outcome.next (writeSrc_of_forbidden n v h), fun hlock hlow hfour => congrArg Host.Outcome.next (writeSrc_of_lock n v hlock hlow hfour), writeSrc_stores n v hwf⟩,
    fun s n d hn hwf => ⟨fun hmode l => congrArg Host.Outcome.next (if_neg hmode), backupDetect_says hn d hwf, fun k hk => congrArg Host.Outcome.next (if_neg fun h => hk (Fin.ext h)),
      conditionCleared_nine hwf, fun harea hroom => ?_, fun harea hroom => ?_, fun harea => ?_⟩⟩
  · have hlog : newest 65536 (s.tamper.log ++ s.tamper.queue) = s.tamper.log ++ s.tamper.queue := newest_of_room (by rwa [List.length_append])
    obtain ⟨r, hr⟩ : ∃ r, r = s.tamper.ring.filter (fun e => !s.tamper.queue.any (fun q => q.source == e.source && q.time == e.rtc)) := ⟨_, rfl⟩
    refine ⟨{ s with tamper := { s.tamper with log := s.tamper.log ++ s.tamper.queue, queue := [], ring := r } }, congrArg Host.Outcome.next ((if_pos harea).trans ?_), rfl, rfl, rfl⟩
    rw [hlog, hr]
  · have hlog : newest 65536 (s.fault.log ++ s.fault.queue) = s.fault.log ++ s.fault.queue := newest_of_room (by rwa [List.length_append])
    refine congrArg Host.Outcome.next ((if_pos harea).trans ?_)
    rw [hlog]
  · exact ⟨congrArg Host.Outcome.next (if_neg (by simp [harea])), congrArg Host.Outcome.next (if_neg (by simp [harea]))⟩

end Sys2Proof.Proofs
end


section
/-! SUPPORT. What a LOCKDOWN has decided stays decided while the device withdraws its tickets, gives its units back and programs what is staged (R357, R400). -/

namespace Sys2Proof.Proofs

open Sys2Proof Sys2Proof.Machine Sys2Proof.Safety

variable {s t u b : State}

/-- The keys of the vault, the mode with its cause, the warning, whether ticks run, and the OTP. -/
def lockView (s : State) :=
  (s.vault.enclosure, s.vault.vaultKey, s.vault.epochs, s.vault.signing, s.vault.pairing, s.vault.authority, s.power.mode, s.power.lockCause, s.power.warn, s.ledger.running, s.guard.otp)

/-- Nothing of `lockView` differs. -/
def HoldsLock (b s : State) : Prop := lockView s = lockView b

theorem holdsLock_refl (s : State) : HoldsLock s s := rfl

theorem HoldsLock.trans (h : HoldsLock b s) (h' : HoldsLock s t) : HoldsLock b t := Eq.trans h' h

theorem HoldsLock.ite {c : Prop} [Decidable c] (h : HoldsLock b s) (h' : HoldsLock b t) : HoldsLock b (if c then s else t) := by
  split
  · exact h
  · exact h'

theorem HoldsLock.foldl {α : Type} {f : State → α → State} {l : List α} (h : HoldsLock b s) (hf : ∀ s a, HoldsLock b s → HoldsLock b (f s a)) : HoldsLock b (l.foldl f s) :=
  List.foldlRecOn l f (motive := HoldsLock b) h fun s hs a _ => hf s a hs

theorem Settles.lock (h : Settles b s) : HoldsLock b s := by
  obtain ⟨_, hvault⟩ := h.vault
  obtain ⟨_, hpower⟩ := h.power
  rw [HoldsLock, lockView, lockView, hvault, hpower, h.ledger, h.guard]

theorem Posts.lock (h : Posts b s) : HoldsLock b s := by
  rw [HoldsLock, lockView, lockView, h.vault, h.power, h.ledger, h.guard]

theorem HoldsLock.settles (h : HoldsLock b s) (h' : Settles s t) : HoldsLock b t := h.trans h'.lock

/-! Tickets withdrawn and tests quit. -/

theorem HoldsLock.dropPhase1 {p} (h : HoldsLock b s) : HoldsLock b (s.dropPhase1 p) := by
  unfold State.dropPhase1
  split
  · exact .ite h h
  · exact h

theorem HoldsLock.undoTab {x} (h : HoldsLock b s) : HoldsLock b (s.undoTab x) := by
  unfold State.undoTab
  dsimp only
  split
  · exact h
  · split
    · exact h
    · split
      · exact .ite h h
      · exact h

theorem HoldsLock.withdraw {p status post} (h : HoldsLock b s) : HoldsLock b (s.withdraw p status post) := by
  have hgone : ∀ l : List Tk, HoldsLock b (l.foldl (fun s t => ((s.noteLeave t).returnTokens t).undoTab t) s) :=
    fun l => h.foldl fun t _ ht => ((ht.settles (settles_refl t).noteLeave).trans (posts_refl _).returnTokens.lock).undoTab
  unfold State.withdraw
  dsimp only
  refine .ite (.trans ?_ (posts_refl _).postAll.lock) ?_
  · exact hgone _
  · exact hgone _

theorem HoldsLock.withdrawAll {p status post} (h : HoldsLock b s) : HoldsLock b (s.withdrawAll p status post) :=
  (h.settles (settles_refl s).abortWork).withdraw

theorem HoldsLock.quitTests (h : HoldsLock b s) : HoldsLock b s.quitTests :=
  (h.foldl fun t _ ht => ht.settles (settles_refl t).undrain).foldl fun _ _ ht => ht

/-! Staged rows programmed. -/

theorem HoldsLock.devEvent {n} (h : HoldsLock b s) : HoldsLock b (s.devEvent n) := h.settles (settles_refl s).devEvent

theorem HoldsLock.eraseLane {l} (h : HoldsLock b s) : HoldsLock b (s.eraseLane l) := .ite (.devEvent h) h

theorem HoldsLock.takeLane {l} (h : HoldsLock b s) : HoldsLock b (s.takeLane l) := h.eraseLane

theorem HoldsLock.newCrate {kind stream prefer} {r : State × Crate} (h : HoldsLock b s) (he : s.newCrate kind stream prefer = some r) : HoldsLock b r.1 := by
  unfold State.newCrate at he
  split at he
  · cases he
  · cases he
    exact h.foldl fun _ _ ht => ht.takeLane

theorem HoldsLock.prepare {st} (h : HoldsLock b s) : HoldsLock b (s.prepare st) := by
  unfold State.prepare
  split
  · exact h
  · split
    · next hnew => exact h.newCrate hnew
    · exact h

theorem HoldsLock.openPrepared {st} (h : HoldsLock b s) : HoldsLock b (s.openPrepared st) := by
  unfold State.openPrepared
  split
  · exact h
  · exact h

theorem HoldsLock.summarise {id} (h : HoldsLock b s) : HoldsLock b (s.summarise id) := by
  unfold State.summarise
  dsimp only
  split
  · exact h
  · refine .ite h (.ite ?_ h)
    exact (HoldsLock.prepare (s := State.modCrate ..) h).openPrepared.prepare

theorem HoldsLock.maybeClose {id} (h : HoldsLock b s) : HoldsLock b (s.maybeClose id) := by
  unfold State.maybeClose
  split
  · exact h
  · exact .ite h.summarise h

theorem HoldsLock.fill {k n} (h : HoldsLock b s) : HoldsLock b (s.fill k n) := .ite h h

theorem HoldsLock.padRow {id} (h : HoldsLock b s) : HoldsLock b (s.padRow id) := by
  unfold State.padRow
  dsimp only
  split
  · exact h
  · exact .maybeClose (.fill h)

theorem HoldsLock.writeWmt {n} (h : HoldsLock b s) : HoldsLock b (s.writeWmt n) := by
  unfold State.writeWmt
  split
  · exact h
  · exact h

theorem HoldsLock.raiseGo {n k} (h : HoldsLock b s) : HoldsLock b (raiseGo n s k) := by
  induction n generalizing s with
  | zero => exact h
  | succ n ih =>
    unfold Machine.raiseGo
    dsimp only
    split
    · split
      · exact ih h
      · exact h
    · exact h

theorem HoldsLock.raiseDurable {n} (h : HoldsLock b s) : HoldsLock b (s.raiseDurable n) := .ite h.raiseGo.writeWmt h.raiseGo

theorem HoldsLock.settleCrate {id} (h : HoldsLock b s) : HoldsLock b (s.settleCrate id) := by
  unfold State.settleCrate
  dsimp only
  split
  · exact h
  · refine .foldl ?_ fun _ _ ht => ht.raiseDurable
    exact HoldsLock.foldl (s := State.modCrate ..) h fun _ _ ht => .ite ht ht

theorem HoldsLock.closeDone {id} (h : HoldsLock b s) : HoldsLock b (s.closeDone id) := by
  unfold State.closeDone
  dsimp only
  split
  · exact h
  · exact .ite (.ite (.devEvent h) h) h

theorem HoldsLock.programAll {id} (h : HoldsLock b s) : HoldsLock b (s.programAll id) := by
  unfold State.programAll
  dsimp only
  split
  · exact h.padRow
  · refine .ite h.padRow (.closeDone (.settleCrate ?_))
    exact h.padRow

theorem HoldsLock.withGates {g f} (h : HoldsLock b s) : HoldsLock b { s with power := { s.power with groupGated := g }, flash := f } := h

theorem HoldsLock.withRowsGated {g} (h : HoldsLock b s) : HoldsLock b { s with power := { s.power with rowsGated := g } } := h

theorem HoldsLock.wakeGroup {g} (h : HoldsLock b s) : HoldsLock b (s.wakeGroup g) := by
  unfold State.wakeGroup
  dsimp only
  exact .ite (h.withGates.foldl fun _ _ ht => .ite ht ht) h

theorem HoldsLock.wakeAll (h : HoldsLock b s) : HoldsLock b s.wakeAll := h.withRowsGated.foldl fun _ _ ht => ht.wakeGroup

theorem HoldsLock.stopSessions (h : HoldsLock b s) : HoldsLock b s.stopSessions := h

theorem HoldsLock.countLockdown (h : HoldsLock b s) : HoldsLock b s.countLockdown := h

theorem HoldsLock.rekeyDdr (h : HoldsLock b s) : HoldsLock b s.rekeyDdr := .ite h h

theorem HoldsLock.programStaged (h : HoldsLock b s) : HoldsLock b s.programStaged := h.foldl fun _ _ ht => ht.programAll

/-! The way into LOCKDOWN. -/

/-- The mode, its cause and the ticks that stop. -/
def lockedAs (s : State) (cause : Nat) : State :=
  let stopped := if s.power.mode.timed then s.power.hbStart.map (fun b => s.now - b) else s.power.hbStopped
  { s.stopTicks with power := { s.power with mode := .lockdown, lockCause := cause, hbStopped := stopped, lossInLockdown := false } }

theorem enterLockdown_holds (s : State) (cause : Nat) : HoldsLock (lockedAs s cause) (s.enterLockdown cause) := by
  unfold State.enterLockdown
  dsimp only
  exact (holdsLock_refl (lockedAs s cause)).countLockdown.dropPhase1.withdrawAll.quitTests.programStaged.rekeyDdr.stopSessions.wakeAll.devEvent

end Sys2Proof.Proofs
end


section
/-! SUPPORT. Detections and their responses (R355 to R360, R367, R368). -/

namespace Sys2Proof.Proofs

open Sys2Proof Sys2Proof.Machine Sys2Proof.Safety

variable {s t u b w : State}

/-! Engines that hold nothing. -/

/-- A row's engines hold no context, key or operation. -/
def RowEmpty (e : RowEng) : Prop := e.ctxs = [] ∧ e.keys = [] ∧ e.run = none ∧ e.hctxs = [] ∧ e.hmacKeys = [] ∧ e.laneA = none ∧ e.laneB = none

/-- No engine call waits or runs, and no engine holds a context or a key. -/
structure EnginesEmpty (s : State) : Prop where
  cipherQueue : s.crypto.cipherQueue = []
  hashQueue : s.crypto.hashQueue = []
  wf : s.crypto.rows.wf noRow = true
  rows : ∀ r, RowEmpty (s.rowEng r)
  engines : s.crypto.pke.engines = []
  queue : s.crypto.pke.queue = []
  deferred : s.crypto.pke.deferred = []

/-- What waits for the engines, and the pool. -/
def callsView (s : State) := (s.crypto.cipherQueue, s.crypto.hashQueue, s.crypto.pke)

/-- The calls that wait and the pool are the same, and the rows stay canonical. -/
def KeepsCalls (s u : State) : Prop := callsView u = callsView s ∧ (s.crypto.rows.wf noRow = true → u.crypto.rows.wf noRow = true)

theorem keepsCalls_refl (s : State) : KeepsCalls s s := ⟨rfl, id⟩

theorem KeepsCalls.trans (h : KeepsCalls s t) (h' : KeepsCalls t u) : KeepsCalls s u := ⟨h'.1.trans h.1, h'.2 ∘ h.2⟩

theorem KeepsCalls.foldl {α : Type} {f : State → α → State} (hf : ∀ s a, KeepsCalls s (f s a)) (l : List α) : KeepsCalls s (l.foldl f s) :=
  List.foldlRecOn l f (motive := KeepsCalls s) (keepsCalls_refl s) fun t ht a _ => ht.trans (hf t a)

theorem keepsCalls_setRowEng (s : State) (r : Nat) (e : RowEng) : KeepsCalls s (s.setRowEng r e) := ⟨rfl, Laws.set_wf _ _ _ _⟩

theorem keepsCalls_logFault (s : State) (d : Detection) : KeepsCalls s (s.logFault d) := by
  rw [KeepsCalls, callsView, callsView, Laws.logFault_crypto]
  exact ⟨rfl, id⟩

theorem keepsCalls_report (s : State) (hash : Bool) (d : EngDone) : KeepsCalls s (s.report hash d) := by
  have hdone : KeepsCalls s { s with crypto := if hash then { s.crypto with hashDone := pushAns s.crypto.hashDone d } else { s.crypto with cipherDone := pushAns s.crypto.cipherDone d } } := by
    cases hash <;> exact ⟨rfl, id⟩
  unfold State.report
  dsimp only
  split
  · exact hdone.trans (keepsCalls_logFault _ _)
  · exact hdone

theorem keepsCalls_strikeCipher (s : State) (r : Nat) (p : Nat × Nat → Bool) (st : EngStatus) : KeepsCalls s (s.strikeCipher r p st) := by
  unfold State.strikeCipher
  dsimp only
  split
  · exact keepsCalls_refl s
  · exact (keepsCalls_setRowEng s r _).trans (KeepsCalls.foldl (fun t _ => keepsCalls_report t _ _) _)

theorem keepsCalls_strikeHash (s : State) (r : Nat) (p : Nat × Nat → Bool) (st : EngStatus) : KeepsCalls s (s.strikeHash r p st) := by
  unfold State.strikeHash
  dsimp only
  split
  · exact keepsCalls_refl s
  · exact (keepsCalls_setRowEng s r _).trans (KeepsCalls.foldl (fun t _ => keepsCalls_report t _ _) _)

theorem abortCtx_calls (s : State) (owners : List Nat) (st : EngStatus) (hcipher : s.crypto.cipherQueue = []) (hhash : s.crypto.hashQueue = []) : KeepsCalls s (s.abortCtx owners st) := by
  obtain ⟨v, hv⟩ : ∃ v, v = s.crypto.rows.foldl (fun s r => (s.strikeCipher r.1 (fun o => owners.contains o.1) st).strikeHash r.1 (fun o => owners.contains o.1) st) s := ⟨_, rfl⟩
  have hkeep : KeepsCalls s v := hv ▸ KeepsCalls.foldl (fun t _ => (keepsCalls_strikeCipher t _ _ _).trans (keepsCalls_strikeHash _ _ _ _)) _
  obtain ⟨hview, hwf⟩ := hkeep
  simp only [callsView, Prod.mk.injEq] at hview
  obtain ⟨hc, hh, hp⟩ := hview
  unfold State.abortCtx
  dsimp only
  rw [← hv]
  refine ⟨?_, hwf⟩
  simp only [callsView, hc, hh, hp, hcipher, hhash, List.filter_nil]

/-- Clearing every listed row leaves no row with anything in it. -/
theorem clearRows_empty {f : RowEng → RowEng} (hf : ∀ e, RowEmpty (f e)) (l m : SMap RowEng) (hwf : m.wf noRow = true) (hrest : ∀ r, RowEmpty (m.get noRow r) ∨ r ∈ l.map Prod.fst) :
    SMap.wf noRow (l.foldl (fun m p => m.set noRow p.1 (f p.2)) m) = true ∧ ∀ r, RowEmpty ((l.foldl (fun m p => m.set noRow p.1 (f p.2)) m).get noRow r) := by
  induction l generalizing m with
  | nil => exact ⟨hwf, fun r => (hrest r).resolve_right (List.not_mem_nil)⟩
  | cons p l ih =>
    refine ih (m.set noRow p.1 (f p.2)) (Laws.set_wf _ _ _ _ hwf) fun r => ?_
    rw [get_set hwf]
    split
    · exact .inl (hf _)
    · next hne => exact (hrest r).imp_right fun hmem => (List.mem_cons.mp hmem).resolve_left hne

theorem clearEngines_empty (hwf : s.crypto.rows.wf noRow = true) : s.clearEngines.crypto.rows.wf noRow = true ∧ ∀ r, RowEmpty (s.clearEngines.rowEng r) := by
  refine clearRows_empty (f := fun e => { e with ctxs := [], keys := [], run := none, hctxs := [], hmacKeys := [], laneA := none, laneB := none }) (fun e => ⟨rfl, rfl, rfl, rfl, rfl, rfl, rfl⟩)
    s.crypto.rows s.crypto.rows hwf fun r => ?_
  rcases get_default_or_mem noRow s.crypto.rows r with h | h
  · left
    rw [h]
    exact ⟨rfl, rfl, rfl, rfl, rfl, rfl, rfl⟩
  · exact .inr (List.mem_map.mpr ⟨_, h, rfl⟩)

theorem EnginesEmpty.seedGrinder (h : EnginesEmpty s) (row : Nat) : EnginesEmpty (s.seedGrinder row) :=
  { cipherQueue := h.cipherQueue, hashQueue := h.hashQueue, wf := Laws.set_wf _ _ _ _ h.wf, engines := h.engines, queue := h.queue, deferred := h.deferred
    rows := fun r => by
      refine (congrArg RowEmpty (get_set h.wf row r _)).mpr ?_
      split
      · exact h.rows row
      · exact h.rows r }

theorem EnginesEmpty.congr (h : EnginesEmpty s) (hu : u.crypto = s.crypto) : EnginesEmpty u := by
  obtain ⟨hcipher, hhash, hwf, hrows, hengines, hqueue, hdeferred⟩ := h
  rw [← hu] at hcipher hhash hwf hengines hqueue hdeferred
  exact ⟨hcipher, hhash, hwf, fun r => by rw [State.rowEng, hu]; exact hrows r, hengines, hqueue, hdeferred⟩

theorem EnginesEmpty.seedGrinders (h : EnginesEmpty s) : EnginesEmpty s.seedGrinders :=
  List.foldlRecOn (motive := fun t => EnginesEmpty t) (List.range 64) State.seedGrinder h fun _ ht row _ => ht.seedGrinder row

theorem EnginesEmpty.withReseeds {n v} (h : EnginesEmpty s) : EnginesEmpty { s with vault := v, crypto := { s.crypto with pke := { s.crypto.pke with reseeds := n } } } :=
  { cipherQueue := h.cipherQueue, hashQueue := h.hashQueue, wf := h.wf, rows := h.rows, engines := h.engines, queue := h.queue, deferred := h.deferred }

theorem EnginesEmpty.reseedAll (h : EnginesEmpty s) : EnginesEmpty s.reseedAll := h.seedGrinders.withReseeds

/-- What a SCRUB clears (R356), where no call waits. -/
theorem scrubClear_empty (hrows : RowsIdle s) (hpool : PoolIdle s) (hdeferred : s.crypto.pke.deferred = []) : EnginesEmpty s.scrubClear := by
  obtain ⟨hcipher, hhash, hwf, -⟩ := hrows
  obtain ⟨hqueue, -, -⟩ := hpool
  obtain ⟨hview, hkept⟩ := abortCtx_calls s s.ctxOwners .keyCleared hcipher hhash
  simp only [callsView, Prod.mk.injEq] at hview
  obtain ⟨hc, hh, hp⟩ := hview
  obtain ⟨hclearwf, hclear⟩ := clearEngines_empty (hkept hwf)
  have hstop : EnginesEmpty (((s.abortCtx s.ctxOwners .keyCleared).clearEngines).stopPke) :=
    { cipherQueue := hc.trans hcipher, hashQueue := hh.trans hhash, wf := hclearwf, rows := hclear, engines := rfl
      queue := (congrArg PkePool.queue hp).trans hqueue, deferred := (congrArg PkePool.deferred hp).trans hdeferred }
  exact hstop.reseedAll.congr rfl

/-- An entry of a canonical store is what its key reads as. -/
theorem get_of_mem {α : Type} [DecidableEq α] {d : Nat → α} {m : SMap α} (hm : m.wf d = true) {p : Nat × α} (hp : p ∈ m) : m.get d p.1 = p.2 := by
  induction m with
  | nil => cases hp
  | cons q m ih =>
    obtain ⟨-, -, hwf⟩ := wf_cons hm
    obtain ⟨habove, -⟩ := (Laws.sorted_cons_iff q.1 q.2 m).mp ((Laws.wf_iff d _).mp hm).1
    rcases List.mem_cons.mp hp with rfl | hp
    · exact get_cons_same _ _ _
    · exact (get_cons_above (habove p hp) _ _).trans (ih hwf hp)

/-- Engines that hold nothing have nothing to end or to take up. -/
theorem EnginesEmpty.settle (h : EnginesEmpty s) : s.settle = s := by
  refine settle_of_idle ⟨h.cipherQueue, h.hashQueue, h.wf, fun p hp => ?_⟩ ⟨h.queue, by rw [h.engines]; rfl, by rw [h.engines]; exact fun p hp => absurd hp List.not_mem_nil⟩
  obtain ⟨-, -, hrun, -, -, hA, hB⟩ := h.rows p.1
  rw [State.rowEng, get_of_mem h.wf hp] at hrun hA hB
  exact ⟨hrun, hA, hB⟩

/-- Nothing of anyone's is left in the engines to abort. -/
theorem EnginesEmpty.abortWork (h : EnginesEmpty s) (ids : List Nat) : s.abortWork ids = s := by
  have hstrike : ∀ r p st, s.strikeCipher r p st = s ∧ s.strikeHash r p st = s := fun r p st => by
    obtain ⟨hctxs, -, hrun, hhctxs, -, hA, hB⟩ := h.rows r
    exact ⟨if_pos (by simp [RowEng.cipherOpen, hctxs, hrun]), if_pos (by simp [RowEng.hashOpen, RowEng.lanes, hhctxs, hA, hB])⟩
  have hfold : ∀ st, s.crypto.rows.foldl (fun s r => (s.strikeCipher r.1 (fun o => ids.contains o.1) st).strikeHash r.1 (fun o => ids.contains o.1) st) s = s := fun st =>
    foldl_fixed fun r _ => by rw [(hstrike r.1 _ st).1, (hstrike r.1 _ st).2]
  have hctx : s.abortCtx ids .aborted = s := by
    unfold State.abortCtx
    dsimp only
    rw [hfold, h.cipherQueue, h.hashQueue, List.filter_nil, List.filter_nil]
    conv_rhs => rw [show s = { s with crypto := { s.crypto with cipherQueue := s.crypto.cipherQueue, hashQueue := s.crypto.hashQueue } } from rfl, h.cipherQueue, h.hashQueue]
  unfold State.abortWork State.abortPke
  dsimp only
  rw [hctx, h.engines, h.queue, h.deferred]
  conv_rhs => rw [show s = { s with crypto := { s.crypto with pke := { s.crypto.pke with engines := s.crypto.pke.engines, queue := s.crypto.pke.queue, deferred := s.crypto.pke.deferred } } } from rfl, h.engines, h.queue, h.deferred]
  rfl

theorem EnginesEmpty.rerunItem (h : EnginesEmpty s) (i : Item) (keep : Bool) : EnginesEmpty (s.rerunItem i keep false) := by
  unfold State.rerunItem
  rw [h.abortWork]
  dsimp only
  split
  · exact h.congr rfl
  · exact h.congr rfl

/-! SCRUB, LOCKDOWN and KILL. -/

/-- What the clearing of a SCRUB leaves as it is, and that no debug pass is left (R356). -/
structure ScrubKeeps (s u : State) : Prop where
  tabs : u.tabs = s.tabs
  ledger : u.ledger = s.ledger
  tamper : u.tamper = s.tamper
  vault : ∃ e n, u.vault = { s.vault with eph := e, drbgReseeds := n }
  power : ∃ g, u.power = { s.power with rowsGated := g }
  otp : u.guard.otp = s.guard.otp
  pass : u.guard.passActive = false ∧ u.guard.passRights = 0

theorem ScrubKeeps.settles (h : ScrubKeeps s t) (h' : Settles t u) : ScrubKeeps s u := by
  obtain ⟨_, hpower⟩ := h.power
  obtain ⟨_, hpower'⟩ := h'.power
  obtain ⟨_, _, hvault⟩ := h.vault
  obtain ⟨_, hvault'⟩ := h'.vault
  exact { tabs := h'.tabs.trans h.tabs, ledger := h'.ledger.trans h.ledger, tamper := h'.tamper.trans h.tamper, vault := ⟨_, _, by rw [hvault', hvault]⟩, power := ⟨_, by rw [hpower', hpower]⟩
          otp := (congrArg Guard.otp h'.guard).trans h.otp, pass := by rw [h'.guard]; exact h.pass }

theorem reseedAll_says (s : State) : ∃ r d n m, s.reseedAll = { s with crypto := { s.crypto with rows := r, pke := { s.crypto.pke with reseeds := n } }, drawn := d, vault := { s.vault with drbgReseeds := m } } := by
  obtain ⟨r, d, h⟩ := seedGrinders_says s
  unfold State.reseedAll
  rw [h]
  exact ⟨_, _, _, _, rfl⟩

theorem scrubClear_keeps (s : State) : ScrubKeeps s s.scrubClear := by
  have hset : Settles s (((s.abortCtx s.ctxOwners .keyCleared).clearEngines).stopPke) := (settles_refl s).abortCtx.withCrypto.withCrypto
  unfold State.scrubClear
  generalize (((s.abortCtx s.ctxOwners .keyCleared).clearEngines).stopPke) = t at hset ⊢
  obtain ⟨_, _, _, _, hreseed⟩ := reseedAll_says t
  obtain ⟨_, hpower⟩ := hset.power
  obtain ⟨_, hvault⟩ := hset.vault
  have hotp : t.guard.otp = s.guard.otp := congrArg Guard.otp hset.guard
  rw [hreseed]
  exact { tabs := hset.tabs, ledger := hset.ledger, tamper := hset.tamper, vault := ⟨_, _, by rw [State.endPass, hvault]⟩, power := ⟨_, hpower⟩, otp := hotp, pass := ⟨rfl, rfl⟩ }

/-- A SCRUB with no engine call waiting or running (R356). -/
theorem scrub_says (hrows : RowsIdle s) (hpool : PoolIdle s) (hdeferred : s.crypto.pke.deferred = []) : ScrubKeeps s s.scrub ∧ EnginesEmpty s.scrub := by
  have hclear := scrubClear_empty hrows hpool hdeferred
  obtain ⟨v, hv⟩ : ∃ v, v = s.scrubClear := ⟨_, rfl⟩
  have hall : ∀ l : List Item, ScrubKeeps s (l.foldl (fun s i => s.rerunItem i true false) v) ∧ EnginesEmpty (l.foldl (fun s i => s.rerunItem i true false) v) := fun l =>
    List.foldlRecOn (motive := fun t => ScrubKeeps s t ∧ EnginesEmpty t) l _ (hv ▸ ⟨scrubClear_keeps s, hclear⟩) fun t ⟨hkeep, hempty⟩ i _ =>
      ⟨hkeep.settles (settles_refl t).rerunItem, hempty.rerunItem i true⟩
  unfold State.scrub
  dsimp only
  rw [← hv, (hall _).2.settle]
  exact hall _

/-- What clearing the keys leaves (R357). -/
theorem clearKeys_view (s : State) :
    lockView s.clearKeys = (none, none, [], none, [], none, s.power.mode, s.power.lockCause, s.power.warn, s.ledger.running, s.guard.otp) := by
  have h := scrubClear_keeps s
  obtain ⟨_, hpower⟩ := h.power
  unfold State.clearKeys lockView
  generalize s.scrubClear = t at h hpower
  simp only [State.zeroiseVault, hpower, h.ledger, h.otp]

/-- What a LOCKDOWN response leaves outside LOCKDOWN (R357, R400). -/
theorem lockdown_view (hmode : s.power.mode ≠ .lockdown) :
    lockView s.lockdownResponse = (none, none, [], none, [], none, .lockdown, 1, s.power.warn, false, s.guard.otp) := by
  have hgo : s.lockdownResponse = s.clearKeys.enterLockdown 1 := if_neg (by simp [hmode])
  have hclear := clearKeys_view s
  have hview : lockView (s.clearKeys.enterLockdown 1) = lockView (lockedAs s.clearKeys 1) := enterLockdown_holds _ _
  rw [hgo, hview]
  generalize s.clearKeys = t at hclear
  simp only [lockView, Prod.mk.injEq] at hclear
  obtain ⟨h1, h2, h3, h4, h5, h6, -, -, h7, -, h8⟩ := hclear
  simp only [lockView, lockedAs, State.stopTicks, h1, h2, h3, h4, h5, h6, h7, h8]

theorem lockdown_warn (s : State) : s.lockdownResponse.power.warn = s.power.warn := by
  by_cases hmode : s.power.mode = .lockdown
  · have hgo : s.lockdownResponse = s.clearKeys := if_pos (by simp [hmode])
    have hview := clearKeys_view s
    simp only [lockView, Prod.mk.injEq] at hview
    obtain ⟨-, -, -, -, -, -, -, -, hwarn, -⟩ := hview
    rw [hgo, hwarn]
  · have hview := lockdown_view hmode
    simp only [lockView, Prod.mk.injEq] at hview
    obtain ⟨-, -, -, -, -, -, -, -, hwarn, -⟩ := hview
    exact hwarn

theorem killResponse_of_supply (h : s.power.warn = false) : s.killResponse = s.lockdownResponse.killBurns := if_neg (by rw [lockdown_warn, h]; decide)

/-- SCRAPPED and no bit of what stands is cleared by the burns that follow (R381). -/
theorem burnRest_keeps (o : Otp) {k : Nat} (h : o.counter.getLsbD k = true) : o.burnRest.counter.getLsbD k = true ∧ o.burnRest.deviceSecret = o.deviceSecret := by
  unfold Otp.burnRest
  refine List.foldlRecOn (motive := fun p : Otp => p.counter.getLsbD k = true ∧ p.deviceSecret = o.deviceSecret) _ _ ⟨h, rfl⟩ fun p ⟨hp, hd⟩ i _ => ⟨?_, hd⟩
  simp only [Otp.burnDone, Otp.burnIntent, BitVec.getLsbD_or, hp, Bool.true_or]

theorem killBurns_says (s : State) : s.killBurns.guard.otp.counter.getLsbD 39 = true ∧ s.killBurns.guard.killBurnt = true ∧ s.killBurns.guard.otp.deviceSecret = List.replicate 32 0xFF ∧
    s.killBurns.vault.vaultKey = none ∧ s.killBurns.vault.enclosure = none ∧ s.killBurns.dev.ready = false := by
  unfold State.killBurns
  dsimp only
  generalize s.setOtp _ = t
  have hdone : ((t.wipe 4).guard.otp.burnDone 20).counter.getLsbD 39 = true := by
    simp only [Otp.burnDone, BitVec.getLsbD_or]
    rw [show (BitVec.ofNat 128 (2 ^ (2 * (20 - 1) + 1))).getLsbD 39 = true from by decide, Bool.or_true]
  obtain ⟨hbit, hsecret⟩ := burnRest_keeps _ hdone
  exact ⟨hbit, rfl, hsecret, rfl, rfl, rfl⟩

/-! One detection. -/

/-- What is known of a detection of `n`. -/
def seenOf (s : State) (n d fr : Nat) : Seen := { source := n, detail := d, level := (s.src n).level, time := s.now, fraction := fr }

/-- Only what the monitor counts, the crystal and the certainty of secure time differ. -/
def Counted (s u : State) : Prop := ∃ m c x h, u = { s with
  tamper := { s.tamper with srcs := m }
  ledger := { s.ledger with uncertain := c }
  power := { s.power with xtalRc := x, hTotal := h } }

/-- TS09 takes the crystal away, and with an armed level the certainty of secure time (R156, R354). -/
def crystalLost (s : State) (lost : Bool) : State :=
  if lost then { s with ledger := { s.ledger with uncertain := s.ledger.uncertain || decide (0 < (s.src 9).level) }, power := { s.power with xtalRc := true } } else s

theorem Counted.keeps (h : Counted s u) :
    u.tamper.queue = s.tamper.queue ∧ u.tamper.notified = s.tamper.notified ∧ u.tabs = s.tabs ∧ u.vault = s.vault ∧ u.guard = s.guard ∧ u.crypto = s.crypto ∧ u.power.mode = s.power.mode ∧ u.power.warn = s.power.warn := by
  obtain ⟨_, _, _, _, rfl⟩ := h
  exact ⟨rfl, rfl, rfl, rfl, rfl, rfl, rfl, rfl⟩

/-- An armed source that detects is counted, shown where its condition lasts, and answered alone (R355). -/
theorem detection_responds {n : Nat} (hwf : s.tamper.srcs.wf Src.at_ = true) (harmed : s.armed n = true) (hon : s.mainOn = true) (d fr : Nat) :
    ∃ w, Counted s w ∧ w.src n = { s.src n with count := sat 16 ((s.src n).count + 1), active := (s.src n).active || lasting n } ∧
      exec (.tamperDetection [{ source := n, detail := d }] fr) s = .next (w.respond [seenOf s n d fr] true) := by
  obtain ⟨h, hv⟩ : ∃ h, s.arrived27 [{ source := n, detail := d }] = { s with power := { s.power with hTotal := h } } := by
    unfold State.arrived27
    split
    · exact ⟨_, rfl⟩
    · exact ⟨s.power.hTotal, rfl⟩
  obtain ⟨v, hvdef⟩ : ∃ v : State, v = { s with power := { s.power with hTotal := h } } := ⟨_, rfl⟩
  have hhit : [({ source := n, detail := d } : Det)].filter (fun d => v.armed d.source) = [{ source := n, detail := d }] := by
    have harmed' : v.armed n = true := hvdef ▸ harmed
    simp [harmed']
  have hseen : seenOf v n d fr = seenOf s n d fr := hvdef ▸ rfl
  have hsrc : (v.countSeen n).src n = { s.src n with count := sat 16 ((s.src n).count + 1), active := (s.src n).active || lasting n } := by
    rw [countSeen_src (hvdef ▸ hwf)]
    exact hvdef ▸ rfl
  have hgo : exec (.tamperDetection [{ source := n, detail := d }] fr) s = .next (v.detect [{ source := n, detail := d }] fr 0) := by
    rw [hvdef, ← hv]
    exact congrArg Host.Outcome.next (if_pos hon)
  have hdetect : v.detect [{ source := n, detail := d }] fr 0 = (crystalLost (v.countSeen n) (n == 9)).respond [seenOf v n d fr] true := by
    unfold State.detect
    dsimp only
    rw [hhit, if_neg (List.cons_ne_nil _ _)]
    simp only [List.foldl_cons, List.foldl_nil, List.map_cons, List.map_nil, List.any_cons, List.any_nil, Bool.or_false]
    rfl
  have hsame : (crystalLost (v.countSeen n) (n == 9)).src n = (v.countSeen n).src n := by
    unfold crystalLost
    split <;> rfl
  refine ⟨_, ?_, hsame.trans hsrc, by rw [hgo, hdetect, hseen]⟩
  unfold crystalLost
  split
  · rw [hvdef]
    exact ⟨_, _, _, _, rfl⟩
  · rw [hvdef]
    exact ⟨_, s.ledger.uncertain, s.power.xtalRc, h, rfl⟩

/-- A detection recorded with the level of its answer (R360, R362, R368). -/
def recorded (s : State) (e : Seen) (acts : Bool) : State :=
  let v := (s.ringSeen [e] (e.level, e.source) acts).recordSeen e (if acts then e.level else min 2 e.level) (acts && e.level == 5 && e.source == e.source)
  { v with tamper := { v.tamper with lastLevel := if acts then e.level else min 2 e.level, lastSource := e.source } }

/-- The answer to a level (R359). -/
def answered (s : State) (level : Nat) : State :=
  match level with
  | 3 => s.scrub
  | 4 => s.lockdownResponse
  | 5 => s.killResponse
  | _ => s

theorem respond_single {e : Seen} (hlevel : 0 < e.level) (acts : Bool) (hacts : acts = (!(s.power.mode == .lockdown) || e.level == 5)) :
    s.respond [e] true = if acts then answered (recorded s e acts) e.level else recorded s e acts := by
  have htop : topSeen [e] = (e.level, e.source) := if_pos hlevel
  unfold State.respond
  dsimp only
  rw [htop, ← hacts, if_neg (Nat.ne_of_gt hlevel)]
  cases acts <;> rfl

theorem recorded_records (s : State) (e : Seen) (acts : Bool) : Records s (recorded s e acts) := ((records_refl s).ringSeen.recordSeen).trans ⟨_, _, _, _, _, _, _, _, _, _, _, _, rfl⟩

theorem tamperEvent_notify (s : State) (a l t : Nat) : (s.tamperEvent a l t).tamper.queue = s.tamper.queue ∧ (s.tamperEvent a l t).tamper.notified = s.tamper.notified := by
  unfold State.tamperEvent
  dsimp only
  split
  · rw [Laws.addEvent_tamper]
    exact ⟨rfl, rfl⟩
  · split <;> exact ⟨rfl, rfl⟩

theorem ringPut_notify (s : State) (e : RingEvent) : (s.ringPut e).tamper.queue = s.tamper.queue ∧ (s.ringPut e).tamper.notified = s.tamper.notified := by
  unfold State.ringPut
  split <;> exact ⟨rfl, rfl⟩

theorem ringSeen_notify (s : State) (e : Seen) (top : Nat × Nat) (acts : Bool) :
    (s.ringSeen [e] top acts).tamper.queue = s.tamper.queue ∧ (s.ringSeen [e] top acts).tamper.notified = s.tamper.notified := by
  simp only [State.ringSeen, List.foldl_cons, List.foldl_nil]
  split
  · split
    · exact ⟨rfl, rfl⟩
    · exact ringPut_notify _ _
  · split
    · exact ringPut_notify _ _
    · exact ⟨rfl, rfl⟩

theorem notify_bit (s : State) {n : Nat} (hn : n < 32) : (s.notify n).tamper.notified.getLsbD n = true := by
  unfold State.notify
  split
  · assumption
  · rw [Laws.signal_tamper]
    exact (getLsbD_setBit s.tamper.notified n n true hn).trans (if_pos rfl)

/-- The log's entry of a detection with main power (R368). -/
def entryOf (s : State) (e : Seen) (acts : Bool) : TamperEntry :=
  { seq := s.tamper.next, time := e.time, fraction := e.fraction, source := e.source, level := e.level, applied := if acts then e.level else min 2 e.level
    flags := e.flags % 256 + 16 * b2n (acts && e.level == 5 && e.source == e.source), mode := s.power.mode.code, detail := e.detail % 2 ^ 24, tick := s.tickLow }

/-- The entry of a recorded detection (R368). -/
theorem recorded_queue {e : Seen} (hlevel : 0 < e.level) (hmain : e.main = true) (acts : Bool) (hroom : s.tamper.queue.length < 256) (hsource : e.source < 32) :
    (∃ v, (recorded s e acts).tamper.queue = s.tamper.queue ++ [entryOf v e acts]) ∧
    (2 ≤ e.level → (recorded s e acts).tamper.notified.getLsbD e.source = true) ∧ (e.level = 1 → (recorded s e acts).tamper.notified = s.tamper.notified) := by
  obtain ⟨hring, hringbits⟩ := ringSeen_notify s e (e.level, e.source) acts
  unfold recorded
  dsimp only
  generalize s.ringSeen [e] (e.level, e.source) acts = v at hring hringbits
  rw [← hring] at hroom
  unfold State.recordSeen
  rw [if_neg (by omega)]
  dsimp only
  rw [logTamper_of_room hroom, hmain]
  dsimp only [if_true]
  rw [← hring, ← hringbits]
  refine ⟨⟨v, ?_⟩, fun htwo => ?_, fun hone => ?_⟩
  · split
    · rw [Laws.notify_tamper_queue]
      exact (tamperEvent_notify _ _ _ _).1
    · exact (tamperEvent_notify _ _ _ _).1
  · rw [if_pos htwo]
    exact notify_bit _ hsource
  · rw [if_neg (by omega)]
    exact (tamperEvent_notify _ _ _ _).2

theorem detection_of_unarmed {n : Nat} (harmed : s.armed n = false) (d fr : Nat) : exec (.tamperDetection [{ source := n, detail := d }] fr) s = .next s := by
  have hsame : s.arrived27 [{ source := n, detail := d }] = s := by
    refine if_neg ?_
    by_cases hn : n = 27
    · rw [← hn, harmed]
      simp
    · simp [hn]
  refine congrArg Host.Outcome.next ?_
  rw [hsame, detect_of_unarmed harmed]
  exact ite_self _

/-- Outside LOCKDOWN, and for a KILL in it, a detection is recorded and answered at its level. -/
theorem detection_answered {n : Nat} (hwf : s.tamper.srcs.wf Src.at_ = true) (harmed : s.armed n = true) (hon : s.mainOn = true) (hlevel : 0 < (s.src n).level)
    (hmode : s.power.mode ≠ .lockdown ∨ (s.src n).level = 5) (d fr : Nat) :
    ∃ w, Counted s w ∧ w.src n = { s.src n with count := sat 16 ((s.src n).count + 1), active := (s.src n).active || lasting n } ∧
      exec (.tamperDetection [{ source := n, detail := d }] fr) s = .next (answered (recorded w (seenOf s n d fr) true) (s.src n).level) := by
  obtain ⟨w, hw, hsrc, hgo⟩ := detection_responds hwf harmed hon d fr
  obtain ⟨-, -, -, -, -, -, hsame, -⟩ := hw.keeps
  refine ⟨w, hw, hsrc, hgo.trans (congrArg Host.Outcome.next ?_)⟩
  refine (respond_single (e := seenOf s n d fr) hlevel true ?_).trans (if_pos rfl)
  rw [hsame]
  rcases hmode with hmode | hkill
  · simp [hmode]
  · simp [seenOf, hkill]

/-- What a detection below LOCKDOWN leaves (R355, R356, R359). -/
theorem answered_says {level : Nat} (hhigh : level ≤ 3) (hidle : level = 3 → RowsIdle s ∧ PoolIdle s ∧ s.crypto.pke.deferred = []) :
    (answered s level).tabs = s.tabs ∧ (answered s level).tamper = s.tamper ∧ (answered s level).power.mode = s.power.mode ∧ (answered s level).guard.otp = s.guard.otp ∧
      (answered s level).vault.epochs = s.vault.epochs ∧ (answered s level).vault.vaultKey = s.vault.vaultKey ∧
      (level = 3 → EnginesEmpty (answered s level) ∧ (answered s level).guard.passActive = false ∧ (answered s level).guard.passRights = 0) := by
  by_cases hscrub : level = 3
  · obtain ⟨hrows, hpool, hdeferred⟩ := hidle hscrub
    obtain ⟨hkeep, hempty⟩ := scrub_says hrows hpool hdeferred
    obtain ⟨_, hpower⟩ := hkeep.power
    obtain ⟨_, _, hvault⟩ := hkeep.vault
    rw [hscrub]
    show s.scrub.tabs = _ ∧ s.scrub.tamper = _ ∧ s.scrub.power.mode = _ ∧ s.scrub.guard.otp = _ ∧ s.scrub.vault.epochs = _ ∧ s.scrub.vault.vaultKey = _ ∧ (_ → EnginesEmpty s.scrub ∧ s.scrub.guard.passActive = _ ∧ s.scrub.guard.passRights = _)
    exact ⟨hkeep.tabs, hkeep.tamper, by rw [hpower], hkeep.otp, by rw [hvault], by rw [hvault], fun _ => ⟨hempty, hkeep.pass⟩⟩
  · have hmild : answered s level = s := by
      unfold answered
      split
      · contradiction
      · omega
      · omega
      · rfl
    rw [hmild]
    exact ⟨rfl, rfl, rfl, rfl, rfl, rfl, fun h => absurd h hscrub⟩

/-- Settles O46: the detection is recorded, then answered by its level. -/
theorem tamperResponds : Obligations.TamperResponds := by
  unfold Obligations.TamperResponds
  intro s n d fr hn hsrcs hrows
  refine ⟨fun hoff l => congrArg Host.Outcome.next (if_neg (by simp [hoff])), fun harmed => detection_of_unarmed harmed d fr, fun hon harmed hlow hhigh hroom hmode hidle => ?_, fun hon harmed hlevel hmode => ?_,
    fun hon harmed hlevel hwarn => ?_, fun hon harmed hlevel hmode hroom => ?_⟩
  · obtain ⟨w, hw, hsrc, hgo⟩ := detection_answered hsrcs harmed hon hlow (.inl hmode) d fr
    obtain ⟨hwqueue, hwbits, hwtabs, hwvault, hwguard, hwcrypto, hwmode, -⟩ := hw.keeps
    have hrec := recorded_records w (seenOf s n d fr) true
    obtain ⟨⟨v, hqueue⟩, hnotify, hquiet⟩ := recorded_queue (s := w) (e := seenOf s n d fr) hlow rfl true (by rwa [hwqueue]) (Nat.lt_succ_of_lt hn)
    generalize recorded w (seenOf s n d fr) true = r at *
    have hidle' : (s.src n).level = 3 → RowsIdle r ∧ PoolIdle r ∧ r.crypto.pke.deferred = [] := by
      rw [RowsIdle, PoolIdle, hrec.crypto, hwcrypto]
      exact hidle
    obtain ⟨htabs, htamper, hmode', hotp, hepochs, hkey, hscrub⟩ := answered_says hhigh hidle'
    refine ⟨_, entryOf v (seenOf s n d fr) true, hgo, ?_, rfl, rfl, rfl, rfl, rfl, rfl, ?_, ?_, fun h => ?_, fun h => ?_, fun h => ?_, ?_, ?_, ?_, ?_, ?_⟩
    · rw [htamper, hqueue, hwqueue]
    · rw [State.src, htamper, ← State.src, hrec.src, hsrc]
    · rw [State.src, htamper, ← State.src, hrec.src, hsrc]
    · rw [htamper]
      exact hnotify h
    · rw [htamper, hquiet h, hwbits]
    · obtain ⟨hempty, hpass⟩ := hscrub h
      refine ⟨fun row => ?_, hpass⟩
      obtain ⟨-, hkeys, -, -, hhmac, -, -⟩ := hempty.rows row
      exact ⟨hkeys, hhmac⟩
    · rw [hepochs, hrec.vault, hwvault]
    · rw [hkey, hrec.vault, hwvault]
    · rw [htabs, hrec.tabs, hwtabs]
    · rw [hmode', hrec.power, hwmode]
    · rw [hotp, hrec.guard, hwguard]
  · obtain ⟨w, hw, -, hgo⟩ := detection_answered hsrcs harmed hon (by omega) (.inl hmode) d fr
    obtain ⟨-, -, -, -, hwguard, -, hwmode, -⟩ := hw.keeps
    have hrec := recorded_records w (seenOf s n d fr) true
    have hview := lockdown_view (s := recorded w (seenOf s n d fr) true) (by rwa [hrec.power, hwmode])
    simp only [lockView, Prod.mk.injEq, hrec.guard, hwguard] at hview
    obtain ⟨henclosure, hkey, hepochs, hsigning, hpairing, hauthority, hlock, hcause, -, hticks, hotp⟩ := hview
    rw [hlevel] at hgo
    exact ⟨_, hgo, hlock, hcause, hticks, henclosure, hkey, hepochs, hsigning, hpairing, hauthority, hotp⟩
  · obtain ⟨w, hw, -, hgo⟩ := detection_answered hsrcs harmed hon (by omega) (.inr hlevel) d fr
    obtain ⟨-, -, -, -, -, -, -, hwwarn⟩ := hw.keeps
    have hrec := recorded_records w (seenOf s n d fr) true
    rw [hlevel] at hgo
    exact ⟨_, hgo.trans (congrArg Host.Outcome.next (killResponse_of_supply (by rw [hrec.power, hwwarn, hwarn]))), killBurns_says _⟩
  · obtain ⟨w, hw, -, hgo⟩ := detection_responds hsrcs harmed hon d fr
    obtain ⟨hwqueue, -, -, hwvault, -, -, hwmode, -⟩ := hw.keeps
    have hrec := recorded_records w (seenOf s n d fr) false
    have hlow : 0 < (seenOf s n d fr).level := by
      show 0 < (s.src n).level
      omega
    have hsingle := respond_single (s := w) hlow false (by simp [hwmode, hmode, seenOf, hlevel])
    obtain ⟨⟨v, hqueue⟩, -, -⟩ := recorded_queue (s := w) hlow rfl false (by rwa [hwqueue]) (Nat.lt_succ_of_lt hn)
    refine ⟨_, entryOf v (seenOf s n d fr) false, hgo.trans (congrArg Host.Outcome.next hsingle), hqueue.trans (by rw [hwqueue]), rfl, ?_, hrec.vault.trans hwvault, ?_⟩
    · show min 2 (s.src n).level = 2
      omega
    · rw [if_neg Bool.false_ne_true, hrec.power, hwmode, hmode]

end Sys2Proof.Proofs
end


section
/-! SUPPORT. The supply warning, clock gating, the loss of SYSCLK and the crossings (R408 to R417, R425). -/

namespace Sys2Proof.Proofs

open Sys2Proof Sys2Proof.Machine Sys2Proof.Safety

variable {s t u : State}

/-! The supply warning. -/

theorem sat_of_lt {n v : Nat} (h : v < 2 ^ n) : sat n v = v := if_pos h

/-- What a fold that sets the listed keys anew reads as. -/
theorem get_foldl_set {α : Type} [DecidableEq α] {d : Nat → α} {f : α → α} {m : SMap α} (l acc : SMap α) (hacc : acc.wf d = true) (hl : ∀ p ∈ l, m.get d p.1 = p.2) (e : Nat) :
    SMap.get (l.foldl (fun m p => m.set d p.1 (f p.2)) acc) d e = if e ∈ l.map Prod.fst then f (m.get d e) else acc.get d e := by
  induction l generalizing acc with
  | nil => rfl
  | cons p l ih =>
    rw [List.foldl_cons, ih _ (Laws.set_wf _ _ _ _ hacc) (fun q hq => hl q (List.mem_cons_of_mem _ hq)), get_set hacc]
    by_cases he : e = p.1
    · have hp : p.2 = m.get d e := by rw [he, hl p (List.mem_cons_self ..)]
      rw [if_pos he, hp, ite_self, if_pos (by simp [he])]
    · rw [if_neg he, List.map_cons]
      simp only [List.mem_cons, he, false_or]

theorem pkePause_pke (hwf : s.crypto.pke.engines.wf noPke = true) (e : Nat) : s.pkePause.pke e = { s.pke e with work := [], result := [] } := by
  refine (get_foldl_set (f := fun x : PkeEng => { x with work := [], result := [] }) _ _ hwf (fun p hp => get_of_mem hwf hp) e).trans ?_
  split
  · rfl
  · next hmem =>
    have hnone : s.pke e = noPke e := (get_default_or_mem noPke s.crypto.pke.engines e).resolve_right fun h => hmem (List.mem_map.mpr ⟨_, h, rfl⟩)
    exact hnone.trans (by rw [hnone]; rfl)

theorem warnOn_first (hon : s.mainOn = true) (hwarn : s.power.warn = false) (hfalls : s.tamper.falls = []) :
    s.warnOn = State.pkePause (State.pauseRows { s with power := { s.power with warn := true, dips := sat 32 (s.power.dips + 1) }, tamper := { s.tamper with falls := [s.now] } }) := by
  have hkept : s.tamper.falls.filter (fun t => decide (s.now < t + hz + 1)) ++ [s.now] = [s.now] := by
    rw [hfalls]
    rfl
  unfold State.warnOn
  rw [if_neg (by simp [hon, hwarn])]
  dsimp only
  rw [hkept, if_neg (by simp)]

theorem pkeAgain_of_idle (h : PoolIdle s) : s.pkeAgain = s := by
  obtain ⟨-, -, hnone⟩ := h
  exact foldl_fixed fun p hp => by rw [hnone p hp]

theorem pkeDisturbed_of_idle (h : PoolIdle s) : s.pkeDisturbed = s := by
  obtain ⟨-, -, hnone⟩ := h
  exact foldl_fixed fun p hp => by rw [hnone p hp]

theorem target_idle (h : FlashIdle s) (n : Nat) : (s.target n).queue = [] ∧ (s.target n).work = none ∧ ∀ e ∈ (s.target n).ops, e.suspended = false := by
  obtain ⟨-, -, htargets⟩ := h
  exact get_of_forall (P := fun x : Target => x.queue = [] ∧ x.work = none ∧ ∀ e ∈ x.ops, e.suspended = false) (fun _ => ⟨rfl, rfl, fun _ h => absurd h List.not_mem_nil⟩) htargets n

theorem resumed_of_quiet {x : Target} (hops : ∀ e ∈ x.ops, e.suspended = false) (now : Nat) : x.resumed now = x := by
  have hmap : x.ops.map (fun e => if e.suspended && (x.opOf e.lun).isNone && (x.work.isSome || !x.queue.any (fun o => o.lun == e.lun && x.mayStart o))
      then { e with suspended := false, served := 0, deadline := now + e.left } else e) = x.ops :=
    (List.map_congr_left fun e he => if_neg (by simp [hops e he])).trans (List.map_id _)
  unfold Target.resumed
  rw [hmap]

/-- A target with nothing waiting and nothing suspended goes on as it is (R265, R267). -/
theorem startOps_of_quiet {n : Nat} (hwf : s.flash.targets.wf noTarget = true) (hqueue : (s.target n).queue = []) (hops : ∀ e ∈ (s.target n).ops, e.suspended = false) : s.startOps n = s := by
  unfold State.startOps
  dsimp only
  rw [hqueue, show startGo ([] : List LunOp).length s n = s from rfl, ite_self, resumed_of_quiet hops]
  split
  · show { s with flash := { s.flash with targets := s.flash.targets.set noTarget n (s.target n) } } = s
    rw [State.target, set_get hwf]
  · rfl

theorem opEnded_of_quiet {n : Nat} (hwf : s.flash.targets.wf noTarget = true) (hqueue : (s.target n).queue = []) (hwork : (s.target n).work = none) (hops : ∀ e ∈ (s.target n).ops, e.suspended = false) :
    s.opEnded n = s := by
  unfold State.opEnded
  dsimp only
  rw [startOps_of_quiet hwf hqueue hops, hwork]

theorem opEnded_of_idle (h : FlashIdle s) (n : Nat) : s.opEnded n = s := by
  obtain ⟨hqueue, hwork, hops⟩ := target_idle h n
  exact opEnded_of_quiet h.2.1 hqueue hwork hops

theorem flashAgain_of_idle (h : FlashIdle s) : s.flashAgain = s := by
  have hoverdue : s.flash.overdue = [] := h.1
  have hsame : ({ s with flash := { s.flash with overdue := [] } } : State) = s := by rw [← hoverdue]
  unfold State.flashAgain
  dsimp only
  rw [hoverdue, List.foldl_nil, hsame]
  exact foldl_fixed fun p _ => opEnded_of_idle h p.1

/-! Gating. -/

theorem mem_insertRow (row k : Nat) (l : List Nat) : k ∈ insertRow row l ↔ k = row ∨ k ∈ l := by
  induction l with
  | nil => simp [insertRow]
  | cons a l ih =>
    unfold insertRow
    split
    · simp
    · rw [List.mem_cons, ih, List.mem_cons]
      exact or_left_comm

/-- An ACTIVE channel is gated. -/
def gateChan (s : State) (c : Nat) : State := if (s.chan c).state = .active then s.setChan c { s.chan c with state := .gated } else s

theorem gateChan_says (hwf : s.flash.chans.wf noChan = true) (c : Nat) : (gateChan s c).flash.chans.wf noChan = true ∧
    ∀ k, ((gateChan s c).chan k).state = if k = c ∧ (s.chan k).state = .active then .gated else (s.chan k).state := by
  unfold gateChan
  split
  · next hactive =>
    have hset : ∀ v, (s.setChan c v).flash.chans.wf noChan = true := fun v => Laws.set_wf noChan s.flash.chans c v hwf
    refine ⟨hset _, fun k => ?_⟩
    rw [show (s.setChan c _).chan k = _ from get_set hwf c k _]
    by_cases hk : k = c
    · rw [if_pos hk, if_pos ⟨hk, hk ▸ hactive⟩]
    · rw [if_neg hk, if_neg (fun h => hk h.1)]
      rfl
  · next hidle => exact ⟨hwf, fun k => (if_neg fun ⟨hk, hactive⟩ => hidle (hk ▸ hactive)).symm⟩

theorem gateChans_state (hwf : s.flash.chans.wf noChan = true) (l : List Nat) (k : Nat) :
    ((l.foldl gateChan s).chan k).state = if k ∈ l ∧ (s.chan k).state = .active then .gated else (s.chan k).state := by
  induction l generalizing s with
  | nil => simp
  | cons c l ih =>
    obtain ⟨hwf', hstate⟩ := gateChan_says hwf c
    rw [List.foldl_cons, ih hwf', hstate]
    by_cases hactive : (s.chan k).state = .active
    · rcases eq_or_ne k c with rfl | hk
      · simp [hactive]
      · simp [hk, hactive]
    · simp [hactive]

theorem gateChans_frame (l : List Nat) (s : State) : (l.foldl gateChan s).power = s.power ∧ (l.foldl gateChan s).flash.targets = s.flash.targets :=
  List.foldlRecOn (motive := fun t => t.power = s.power ∧ t.flash.targets = s.flash.targets) l gateChan ⟨rfl, rfl⟩ fun t ht c _ => by
    unfold gateChan
    split
    · exact ht
    · exact ht

theorem mem_groupChans (g k : Nat) : k ∈ groupChans g ↔ k / 8 = g := by
  simp only [groupChans, List.mem_map, List.mem_range]
  constructor
  · rintro ⟨i, hi, rfl⟩
    omega
  · intro h
    exact ⟨k % 8, by omega, by omega⟩

/-! SYSCLK. -/

/-- Sources that detect below SCRUB in one cycle are counted and recorded (R355, R359). -/
theorem detect_of_all_mild {dets : List Det} (h : ∀ d ∈ dets, d.source ≠ 9 ∧ (s.src d.source).level ≤ 2) (fraction flags : Nat) :
    Records ((dets.filter (fun d => s.armed d.source)).foldl (fun s d => s.countSeen d.source) s) (s.detect dets fraction flags) := by
  obtain ⟨hit, hhit⟩ : ∃ hit, hit = dets.filter (fun d => s.armed d.source) := ⟨_, rfl⟩
  have hmem : ∀ d ∈ hit, d.source ≠ 9 ∧ (s.src d.source).level ≤ 2 := fun d hd => h d (List.mem_of_mem_filter (hhit ▸ hd))
  unfold State.detect
  dsimp only
  rw [← hhit]
  split
  · next hnone =>
    rw [hnone]
    exact records_refl s
  · rw [if_neg (by simpa using fun d hd => (hmem d hd).1)]
    refine (records_refl _).respond (List.foldlRecOn (motive := fun b : Nat × Nat => b.1 ≤ 2) _ _ (Nat.zero_le _) fun b hb d hd => ?_)
    obtain ⟨x, hx, rfl⟩ := List.mem_map.mp hd
    dsimp only
    split
    · exact (hmem x hx).2
    · exact hb

theorem countSeen_frame (l : List Det) (s : State) : ∃ m, l.foldl (fun s d => s.countSeen d.source) s = { s with tamper := { s.tamper with srcs := m } } :=
  List.foldlRecOn (motive := fun t => ∃ m, t = { s with tamper := { s.tamper with srcs := m } }) l _ ⟨_, rfl⟩ fun t ⟨m, ht⟩ d _ => by
    rw [ht]
    exact ⟨_, rfl⟩

theorem logFault_lastClass (s : State) (d : Detection) : (s.logFault d).fault.lastClass = d.cls := by
  have hbits : ∀ (l : List Nat) (t : State), (l.foldl State.faultEvent t).fault.lastClass = t.fault.lastClass := fun l t =>
    List.foldlRecOn (motive := fun u => u.fault.lastClass = t.fault.lastClass) l _ rfl fun u hu n _ => (Laws.faultEvent_fault_lastClass u n).trans hu
  unfold State.logFault
  dsimp only
  rw [hbits]
  dsimp only
  generalize (if d.counts = true then s.countFault d.unit else s) = v
  split
  · rfl
  · split
    · rfl
    · split <;> rfl

theorem get_set_ne_default {α : Type} [DecidableEq α] {d : Nat → α} (m : SMap α) {k : Nat} {v : α} (hv : v ≠ d k) : (m.set d k v).get d k = v := by
  rw [SMap.set, if_neg hv, Laws.get_ins_same]

/-- What the resume delivers and logs (R417, R425). -/
theorem resume_of_idle (us : Nat) (hpll : s.power.pllSwitching = true) (hheld : s.ledger.boundaryHeld = false) (hitems : s.units.items = []) (hrows : RowsIdle s) (hpool : PoolIdle s) (hflash : FlashIdle s) :
    s.resumeSysclk us = ({ s with power := { s.power with pllSwitching := false } } : State).deliverPulses.logFault { cls := 0x40, outcome := 0, interrupt := us, detail := sat 32 0, escalated := true } := by
  obtain ⟨v, hv⟩ : ∃ v : State, v = ({ s with power := { s.power with pllSwitching := false } } : State).deliverPulses.logFault { cls := 0x40, outcome := 0, interrupt := us, detail := sat 32 0, escalated := true } := ⟨_, rfl⟩
  have hcrypto : v.crypto = s.crypto := by rw [hv, Laws.logFault_crypto]; rfl
  have hvflash : v.flash = s.flash := by rw [hv, Laws.logFault_flash]; rfl
  have hdisturbed : ({ s with power := { s.power with pllSwitching := false } } : State).pkeDisturbed = { s with power := { s.power with pllSwitching := false } } := pkeDisturbed_of_idle hpool
  unfold State.resumeSysclk
  dsimp only
  rw [if_neg (by simp [hpll]), if_neg (by simp [hheld]), hdisturbed, hitems, List.length_nil, if_pos rfl, List.foldl_nil, ← hv,
    settle_of_idle (by rw [RowsIdle, hcrypto]; exact hrows) (by rw [PoolIdle, hcrypto]; exact hpool), flashAgain_of_idle (by rw [FlashIdle, hvflash]; exact hflash)]

/-- Settles O52: each supply and clock command by what it pauses, gates or lets run again. -/
theorem supplyAndClocks : Obligations.SupplyAndClocks := by
  unfold Obligations.SupplyAndClocks
  intro s us row g
  refine ⟨fun hon hwarn hfalls hdips hwf => ?_, fun hwarn => ?_, fun hwarn hus hrows hpool hflash => ?_, fun hwarn => ?_, fun hon hmode hitems htickets hcipher hhash hgated => ?_, fun hmode => ?_,
    fun hon hmay hgated hwf => ?_, fun hon hbackup h22 h23 => ?_, fun hpll hheld hitems hrows hpool hflash => ?_, fun c hc v => ?_, fun c v hc => ?_⟩
  · refine ⟨_, congrArg Host.Outcome.next (warnOn_first hon hwarn hfalls), ?_, rfl, rfl, rfl, fun e => ?_⟩
    · show { s.power with warn := true, dips := sat 32 (s.power.dips + 1) } = _
      rw [sat_of_lt (show s.power.dips + 1 < 2 ^ 32 by omega)]
    · exact pkePause_pke (s := State.pauseRows _) hwf e
  · exact congrArg Host.Outcome.next (if_pos (by simp [hwarn]))
  · refine congrArg Host.Outcome.next ?_
    unfold State.warnOff
    dsimp only
    rw [if_neg (by simp [hwarn]), if_neg (by omega), sat_of_lt (show us < 2 ^ 16 by omega)]
    have hv : ∀ v : State, v.crypto = s.crypto → v.flash = s.flash → v.pkeAgain.settle.flashAgain = v := fun v hcrypto hvflash => by
      rw [pkeAgain_of_idle (by rw [PoolIdle, hcrypto]; exact hpool), settle_of_idle (by rw [RowsIdle, hcrypto]; exact hrows) (by rw [PoolIdle, hcrypto]; exact hpool), flashAgain_of_idle (by rw [FlashIdle, hvflash]; exact hflash)]
    exact hv _ rfl rfl
  · exact congrArg Host.Outcome.next (if_pos (by simp [hwarn]))
  · refine ⟨_, congrArg Host.Outcome.next (if_pos ?_), rfl, fun k => mem_insertRow _ _ _⟩
    have hidle : s.rowBusy row.val = false := by simp [State.rowBusy, hitems, htickets, hcipher, hhash]
    rw [hon, hmode, hidle, hgated]
    rfl
  · exact congrArg Host.Outcome.next (if_neg (by simp [hmode]))
  · obtain ⟨v, hv⟩ : ∃ v : State, v = { s with power := { s.power with groupGated := setBit s.power.groupGated g.val true, groupGatedAt := s.power.groupGatedAt.set zeroOf g.val s.now } } := ⟨_, rfl⟩
    have hgo : exec (.flashGroupGate g) s = .next ((groupChans g.val).foldl gateChan v) := by
      rw [hv]
      exact congrArg Host.Outcome.next (if_pos (by rw [hon, hmay, hgated]; rfl))
    obtain ⟨hpower, htargets⟩ := gateChans_frame (groupChans g.val) v
    refine ⟨_, hgo, ?_, fun k => ?_, ?_⟩
    · rw [hpower, hv]
      exact (getLsbD_setBit _ _ _ _ g.isLt).trans (if_pos rfl)
    · rw [gateChans_state (hv ▸ hwf)]
      simp only [mem_groupChans]
      rw [hv]
      rfl
    · rw [htargets, hv]
  · obtain ⟨v, hv⟩ : ∃ v : State, v = State.pauseRows { s with power := { s.power with sysclkBackup := true, pllSwitching := true } } := ⟨_, rfl⟩
    obtain ⟨dets, hdets, hgo⟩ : ∃ dets : List Det, (∀ d ∈ dets, d.source = 22 ∨ d.source = 23) ∧ exec .sysclkLoss s = .next (v.detect dets 0 0) := by
      refine ⟨_, ?_, (congrArg Host.Outcome.next (if_neg (by simp [hon, hbackup]))).trans (by rw [hv])⟩
      intro d hd
      rcases List.mem_cons.mp hd with rfl | hd
      · exact .inl rfl
      · right
        split at hd
        · rw [List.mem_singleton.mp hd]
        · cases hd
    have hlevel : ∀ d ∈ dets, d.source ≠ 9 ∧ (v.src d.source).level ≤ 2 := fun d hd => by
      rcases hdets d hd with h | h
      · rw [h]
        exact ⟨by decide, hv ▸ h22⟩
      · rw [h]
        exact ⟨by decide, hv ▸ h23⟩
    have hrec := detect_of_all_mild hlevel 0 0
    obtain ⟨m, hm⟩ := countSeen_frame (dets.filter (fun d => v.armed d.source)) v
    rw [hm] at hrec
    refine ⟨_, hgo, ?_, ?_, ?_, ?_, ?_⟩
    · rw [hrec.power, hv]; rfl
    · rw [hrec.power, hv]; rfl
    · rw [hrec.power, hv]; rfl
    · rw [hrec.units, hv]; rfl
    · rw [hrec.vault, hv]; rfl
  · refine ⟨_, congrArg Host.Outcome.next (resume_of_idle us hpll hheld hitems hrows hpool hflash), ?_, logFault_lastClass _ _, ?_, ?_, ?_⟩
    · rw [Laws.logFault_power]; rfl
    · rw [Laws.logFault_power]; rfl
    · rw [Laws.logFault_power]; rfl
    · rw [Laws.logFault_tabs]; rfl
  · refine ⟨_, congrArg Host.Outcome.next (if_pos (List.contains_iff_mem.mpr hc)), rfl, fun hv => get_set_ne_default _ ?_⟩
    exact fun h => hv (BitVec.eq_of_toNat_eq h)
  · exact congrArg Host.Outcome.next (if_neg (by simpa using hc))

end Sys2Proof.Proofs
end


section
/-! SUPPORT. DDR4: errors, self-refresh, the elastic fill and the patrol scrub (R310 to R314). -/

namespace Sys2Proof.Proofs

open Sys2Proof Sys2Proof.Machine Sys2Proof.Safety

variable {s t u : State}

theorem ddrChan_setDdrChan (hwf : s.ddr.chans.wf noDdrChan = true) (c k : Nat) (v : DdrChan) : (s.setDdrChan c v).ddrChan k = if k = c then v else s.ddrChan k := get_set hwf c k v

theorem setDdrChan_wf (hwf : s.ddr.chans.wf noDdrChan = true) (c : Nat) (v : DdrChan) : (s.setDdrChan c v).ddr.chans.wf noDdrChan = true := Laws.set_wf noDdrChan s.ddr.chans c v hwf

theorem ddrChan_logFault (s : State) (d : Detection) (k : Nat) : (s.logFault d).ddrChan k = s.ddrChan k := by rw [State.ddrChan, Laws.logFault_ddr, State.ddrChan]

theorem touchDdr_of_active {c : Nat} (h : (s.ddrChan c).state = .active) : s.touchDdr c = s.setDdrChan c { s.ddrChan c with state := .active, usedAt := s.now } := if_pos (.inr h)

/-- A read of a page of an ACTIVE channel that shows an error (R311). -/
theorem ddrErr_of_active {c page : Nat} (hruns : s.ddrRuns = true) (hgo : Runs s) (hactive : (s.ddrChan c).state = .active) (hpage : page < (s.ddrChan c).gib * 262144)
    (hfresh : (s.ddrChan c).retiredPages.contains page = false) (e : DdrErr) (held : List LineHeld) (i : Nat) :
    s.ddrErr c page e held i = match e with
      | .corrected => (s.touchDdr c).correctedError c page
      | .uncorrectable => (s.touchDdr c).lostLine c page false (held.take 1) i
      | .mac => (s.touchDdr c).lostLine c page true (held.take 1) i
      | .macLine => (s.touchDdr c).lostLine c page false (held.take 8) i := by
  obtain ⟨hwarn, hpll⟩ := hgo
  refine if_neg ?_
  rw [hruns, hwarn, hpll, hactive, hfresh, decide_eq_false (Nat.not_le.mpr hpage)]
  decide

/-- Nothing but the DDR4 controller and the logs' side of a fault differs. -/
theorem retirePage_of_spare {c page : Nat} (hwf : s.ddr.chans.wf noDdrChan = true) (hfresh : (s.ddrChan c).retiredPages.contains page = false) (hspare : 0 < (s.ddrChan c).spares) :
    (s.retirePage c page).ddrChan c = { s.ddrChan c with
        spares := (s.ddrChan c).spares - 1
        retiredPages := (s.ddrChan c).retiredPages ++ [page]
        ce := (s.ddrChan c).ce.filter (fun p => p.1 != page) } ∧
      (s.retirePage c page).ddr.ue = s.ddr.ue ∧ (s.retirePage c page).flash = s.flash ∧ (s.retirePage c page).vault = s.vault := by
  unfold State.retirePage
  dsimp only
  rw [if_neg (by rw [hfresh]; decide), if_neg (Nat.ne_of_gt hspare), ddrChan_logFault, Laws.logFault_ddr, Laws.logFault_flash, Laws.logFault_vault]
  refine ⟨?_, rfl, rfl, rfl⟩
  exact (ddrChan_setDdrChan hwf c c _).trans (if_pos rfl)

theorem checkDdrChan_of_one {c : Nat} {x : Nat × Nat} (h : (s.ddrChan c).lostPages = [x]) : s.checkDdrChan c = s := by
  refine if_neg (Nat.not_lt.mpr (Nat.le_trans (List.Sublist.length_le (List.dedup_sublist _)) ?_))
  rw [List.length_map, h]
  exact Nat.le_trans (List.length_filter_le ..) (show 1 ≤ 64 by decide)

theorem corrected_says {c page : Nat} (hwf : s.ddr.chans.wf noDdrChan = true) (hactive : (s.ddrChan c).state = .active) (hce : (s.ddrChan c).ce = []) (hretire : 1 < s.ddr.ceRetire) (hcount : s.ddr.ce < 65535) :
    ((s.touchDdr c).correctedError c page).ddr.ce = s.ddr.ce + 1 ∧ ((s.touchDdr c).correctedError c page).fault.lastClass = 0x20 ∧ (((s.touchDdr c).correctedError c page).ddrChan c).ce = [(page, s.now)] ∧
      (((s.touchDdr c).correctedError c page).ddrChan c).retiredPages = (s.ddrChan c).retiredPages ∧ ((s.touchDdr c).correctedError c page).flash = s.flash ∧ ((s.touchDdr c).correctedError c page).vault = s.vault := by
  obtain ⟨v, hv⟩ : ∃ v, v = s.touchDdr c := ⟨_, rfl⟩
  have hset : v = s.setDdrChan c { s.ddrChan c with state := .active, usedAt := s.now } := hv.trans (touchDdr_of_active hactive)
  have hchan : v.ddrChan c = { s.ddrChan c with state := .active, usedAt := s.now } := by rw [hset, ddrChan_setDdrChan hwf, if_pos rfl]
  have hone : (v.ddrChan c).ce.filter (fun p => decide (v.now < p.2 + 86400 * hz)) ++ [(page, v.now)] = [(page, s.now)] := by
    rw [hchan]
    dsimp only
    rw [hce, hset]
    rfl
  have hwfv : v.ddr.chans.wf noDdrChan = true := hset ▸ setDdrChan_wf hwf c _
  have hlimit : ¬ max 1 v.ddr.ceRetire ≤ [(page, s.now)].countP (fun p => p.1 == page) := by
    rw [hset]
    exact fun h => absurd (Nat.le_trans (Nat.le_trans (Nat.le_max_right ..) h) (List.countP_le_length ..)) (Nat.not_le.mpr hretire)
  rw [← hv]
  unfold State.correctedError
  dsimp only
  rw [hone, if_neg hlimit, logFault_lastClass, ddrChan_logFault, Laws.logFault_ddr, Laws.logFault_flash, Laws.logFault_vault]
  have hget : ∀ x, (State.setDdrChan { v with ddr := { v.ddr with ce := sat 16 (v.ddr.ce + 1) } } c x).ddrChan c = x := fun x => (ddrChan_setDdrChan hwfv c c x).trans (if_pos rfl)
  rw [hget, hchan]
  refine ⟨?_, rfl, rfl, rfl, ?_, ?_⟩
  · rw [hset]
    exact sat_of_lt (show s.ddr.ce + 1 < 2 ^ 16 by omega)
  · rw [hset]
    rfl
  · rw [hset]
    rfl

theorem recoverLines_duplicated (s : State) : s.recoverLines [.duplicated] = (s, 4) := rfl

theorem lostLine_says {c page : Nat} (i : Nat) (hwf : s.ddr.chans.wf noDdrChan = true) (hactive : (s.ddrChan c).state = .active) (hfresh : (s.ddrChan c).retiredPages.contains page = false)
    (hlost : (s.ddrChan c).lostPages = []) (hspare : 0 < (s.ddrChan c).spares) (hcount : s.ddr.ue < 65535) :
    ∃ u, (s.touchDdr c).lostLine c page false [.duplicated] i = u ∧ u.ddr.ue = s.ddr.ue + 1 ∧ page ∈ (u.ddrChan c).retiredPages ∧ (u.ddrChan c).spares = (s.ddrChan c).spares - 1 ∧
      (u.ddrChan c).state = .active ∧ u.flash = s.flash ∧ u.vault = s.vault := by
  obtain ⟨v, hv⟩ : ∃ v, v = s.touchDdr c := ⟨_, rfl⟩
  have hset : v = s.setDdrChan c { s.ddrChan c with state := .active, usedAt := s.now } := hv.trans (touchDdr_of_active hactive)
  have hchan : v.ddrChan c = { s.ddrChan c with state := .active, usedAt := s.now } := by rw [hset, ddrChan_setDdrChan hwf, if_pos rfl]
  have hwfv : v.ddr.chans.wf noDdrChan = true := hset ▸ setDdrChan_wf hwf c _
  obtain ⟨x, hx⟩ : ∃ x : DdrChan, x = { v.ddrChan c with lostPages := [(page, v.now)] } := ⟨_, rfl⟩
  obtain ⟨w, hw⟩ : ∃ w : State, w = State.setDdrChan { v with ddr := { v.ddr with ue := sat 16 (v.ddr.ue + 1) } } c x := ⟨_, rfl⟩
  obtain ⟨y, hy⟩ : ∃ y : State, y = w.logFault { cls := 0x21, outcome := 4, unit := 0x9000, interrupt := i, detail := ddrDetail c page, escalated := false } := ⟨_, rfl⟩
  have hone : (v.ddrChan c).lostPages.filter (fun p => decide (v.now < p.2 + hz + 1)) ++ [(page, v.now)] = [(page, v.now)] := by
    rw [hchan]
    dsimp only
    rw [hlost]
    rfl
  have hline : v.lostLine c page false [.duplicated] i = (y.retirePage c page).checkDdrChan c := by
    rw [hy, hw, hx, ← hone]
    unfold State.lostLine
    dsimp only
    rw [if_neg Bool.false_ne_true, if_neg Bool.false_ne_true, if_neg Bool.false_ne_true, recoverLines_duplicated]
    rfl
  have hychan : y.ddrChan c = x := by
    rw [hy, ddrChan_logFault, hw]
    exact (ddrChan_setDdrChan hwfv c c x).trans (if_pos rfl)
  have hxchan : x = { s.ddrChan c with state := .active, usedAt := s.now, lostPages := [(page, v.now)] } := by rw [hx, hchan]
  have hywf : y.ddr.chans.wf noDdrChan = true := by
    rw [hy, Laws.logFault_ddr, hw]
    exact setDdrChan_wf (s := { v with ddr := _ }) hwfv c x
  obtain ⟨hretired, hue, hflash, hvault⟩ := retirePage_of_spare (s := y) (page := page) hywf (by rw [hychan, hxchan]; exact hfresh) (by rw [hychan, hxchan]; exact hspare)
  rw [hychan, hxchan] at hretired
  refine ⟨_, rfl, ?_⟩
  rw [← hv, hline, checkDdrChan_of_one (x := (page, v.now)) (by rw [hretired]), hretired, hue, hflash, hvault]
  refine ⟨?_, List.mem_append_right _ (List.mem_singleton_self _), rfl, rfl, ?_, ?_⟩
  · rw [hy, Laws.logFault_ddr, hw, hset]
    exact sat_of_lt (show s.ddr.ue + 1 < 2 ^ 16 by omega)
  · rw [hy, Laws.logFault_flash, hw, hset]
    rfl
  · rw [hy, Laws.logFault_vault, hw, hset]
    rfl

/-! The patrol scrub. -/

/-- Only the DDR4 controller differs. -/
theorem touchDdr_says (s : State) (c : Nat) : ∃ m, s.touchDdr c = { s with ddr := { s.ddr with chans := m } } := by
  unfold State.touchDdr
  dsimp only
  split
  · exact ⟨_, rfl⟩
  · exact ⟨s.ddr.chans, rfl⟩

theorem touchDdr_state (hwf : s.ddr.chans.wf noDdrChan = true) (c : Nat) : (s.touchDdr c).ddr.chans.wf noDdrChan = true ∧ ((s.touchDdr c).ddrChan c).state ≠ .selfRefresh ∧
    ∀ k, (s.ddrChan k).state ≠ .selfRefresh → ((s.touchDdr c).ddrChan k).state ≠ .selfRefresh := by
  unfold State.touchDdr
  dsimp only
  split
  · refine ⟨setDdrChan_wf hwf c _, ?_, fun k hk => ?_⟩
    · rw [ddrChan_setDdrChan hwf, if_pos rfl]
      exact nofun
    · rw [ddrChan_setDdrChan hwf]
      split
      · exact nofun
      · exact hk
  · next hidle => exact ⟨hwf, fun h => hidle (.inl h), fun _ hk => hk⟩

theorem touchDdrs_says (l : List Nat) (hwf : s.ddr.chans.wf noDdrChan = true) : (∃ m, l.foldl State.touchDdr s = { s with ddr := { s.ddr with chans := m } }) ∧
    ∀ k, (k ∈ l ∨ (s.ddrChan k).state ≠ .selfRefresh) → ((l.foldl State.touchDdr s).ddrChan k).state ≠ .selfRefresh := by
  induction l generalizing s with
  | nil => exact ⟨⟨_, rfl⟩, fun k hk => hk.resolve_left List.not_mem_nil⟩
  | cons c l ih =>
    obtain ⟨hwf', hc, hkept⟩ := touchDdr_state hwf c
    obtain ⟨m, hm⟩ := touchDdr_says s c
    obtain ⟨⟨m', hm'⟩, hall⟩ := ih hwf'
    refine ⟨⟨m', ?_⟩, fun k hk => hall k ?_⟩
    · rw [List.foldl_cons, hm', hm]
    · rcases hk with hk | hk
      · rcases List.mem_cons.mp hk with rfl | hk
        · exact .inr hc
        · exact .inl hk
      · exact .inr (hkept k hk)

theorem patrol_says (hruns : s.ddrRuns = true) (hgo : Runs s) (hwf : s.ddr.chans.wf noDdrChan = true) :
    ∃ u, s.patrol [] = u ∧ u.ddr.patrols = s.ddr.patrols + 1 ∧ u.ddr.patrolledAt = u.now ∧ u = { s with ddr := u.ddr, ledger := { s.ledger with rtc := u.ledger.rtc } } ∧ ∀ k, k < 4 → (u.ddrChan k).state ≠ .selfRefresh := by
  obtain ⟨hwarn, hpll⟩ := hgo
  obtain ⟨v, hv⟩ : ∃ v, v = if 0 < s.ddr.patrols then s.reach (s.ddr.patrolledAt + s.ddr.scrubHours * 3600 * hz) else s := ⟨_, rfl⟩
  obtain ⟨r, hr⟩ : ∃ r, v = { s with ledger := { s.ledger with rtc := r } } := by
    rw [hv]
    split
    · exact ⟨_, rfl⟩
    · exact ⟨s.ledger.rtc, rfl⟩
  obtain ⟨⟨m, hm⟩, hawake⟩ := touchDdrs_says (s := v) (List.range 4) (hr ▸ hwf)
  obtain ⟨w, hw⟩ : ∃ w, w = (List.range 4).foldl State.touchDdr v := ⟨_, rfl⟩
  rw [← hw] at hm hawake
  have hpatrol : s.patrol [] = { w with ddr := { w.ddr with patrols := w.ddr.patrols + 1, patrolledAt := w.now } } := by
    unfold State.patrol
    dsimp only
    rw [if_neg (by simp [hruns, hwarn, hpll]), List.foldl_nil, ← hv, ← hw]
  refine ⟨_, hpatrol, ?_, rfl, ?_, fun k hk => hawake k (.inl (List.mem_range.mpr hk))⟩
  · rw [hm, hr]
  · rw [hm, hr]

/-- Settles O34: each event by the state of its channel. -/
theorem ddr4Events : Obligations.Ddr4Events := by
  unfold Obligations.Ddr4Events
  intro s c page i hruns hgo hwf
  refine ⟨fun hactive hpage hfresh => ⟨fun hce hretire hcount => ?_, fun hlost hspare hcount => ?_⟩, fun hactive hmode hidle => ?_, fun hfill => congrArg Host.Outcome.next (if_pos hfill), ?_⟩
  · exact ⟨_, congrArg Host.Outcome.next (ddrErr_of_active hruns hgo hactive hpage hfresh .corrected _ i), corrected_says hwf hactive hce hretire hcount⟩
  · obtain ⟨u, hu, hsays⟩ := lostLine_says i hwf hactive hfresh hlost hspare hcount
    exact ⟨u, congrArg Host.Outcome.next ((ddrErr_of_active hruns hgo hactive hpage hfresh .uncorrectable _ i).trans hu), hsays⟩
  · refine ⟨_, rfl, congrArg Host.Outcome.next ((if_pos rfl).trans (if_pos ?_))⟩
    rw [hmode, hactive, hruns, decide_eq_true hidle]
    decide
  · obtain ⟨u, hu, hsays⟩ := patrol_says hruns hgo hwf
    exact ⟨u, congrArg Host.Outcome.next hu, hsays⟩

end Sys2Proof.Proofs
end


section
/-! SUPPORT. What the crates' work leaves alone: placing objects, closing crates, programming rows and losing lanes touch the flash array, the tabs' entries, the escrow wraps' durability, the tickets, the
logs and the messages (R272 to R285). -/

namespace Sys2Proof.Proofs

open Sys2Proof Sys2Proof.Machine Sys2Proof.Safety

variable {s t u b : State}

/-- What the crates' work leaves as it is. -/
structure CrateWork (b s : State) : Prop where
  ledger : s.ledger = b.ledger
  crypto : s.crypto = b.crypto
  ddr : s.ddr = b.ddr
  boards : s.boards = b.boards
  tamper : s.tamper = b.tamper
  guard : s.guard = b.guard
  power : s.power = b.power
  drawn : s.drawn = b.drawn
  pending : s.pending = b.pending
  vault : ∃ w, s.vault = { b.vault with wraps := w }

theorem crateWork_refl (s : State) : CrateWork s s := ⟨rfl, rfl, rfl, rfl, rfl, rfl, rfl, rfl, rfl, ⟨_, rfl⟩⟩

theorem CrateWork.trans (h : CrateWork b s) (h' : CrateWork s t) : CrateWork b t := by
  obtain ⟨_, hvault⟩ := h.vault
  obtain ⟨_, hvault'⟩ := h'.vault
  exact ⟨h'.ledger.trans h.ledger, h'.crypto.trans h.crypto, h'.ddr.trans h.ddr, h'.boards.trans h.boards, h'.tamper.trans h.tamper, h'.guard.trans h.guard, h'.power.trans h.power, h'.drawn.trans h.drawn,
    h'.pending.trans h.pending, ⟨_, by rw [hvault', hvault]⟩⟩

theorem CrateWork.ite {c : Prop} [Decidable c] (h : CrateWork b s) (h' : CrateWork b t) : CrateWork b (if c then s else t) := by
  split
  · exact h
  · exact h'

theorem CrateWork.foldl {α : Type} {f : State → α → State} {l : List α} (h : CrateWork b s) (hf : ∀ s a, CrateWork b s → CrateWork b (f s a)) : CrateWork b (l.foldl f s) :=
  List.foldlRecOn l f (motive := CrateWork b) h fun s hs a _ => hf s a hs

theorem CrateWork.devEvent {n} (h : CrateWork b s) : CrateWork b (s.devEvent n) :=
  h.trans ⟨by simp, by simp, by simp, by simp, by simp, by simp, by simp, by simp, by simp, _, (Laws.devEvent_vault s n).trans rfl⟩

theorem CrateWork.logFault {d} (h : CrateWork b s) : CrateWork b (s.logFault d) :=
  h.trans ⟨by simp, by simp, by simp, by simp, by simp, by simp, by simp, by simp, by simp, _, (Laws.logFault_vault s d).trans rfl⟩

theorem CrateWork.withTabs {x : TabStore} (h : CrateWork b s) : CrateWork b { s with tabs := x } := { h with }

theorem CrateWork.withFlash {x : Flash} (h : CrateWork b s) : CrateWork b { s with flash := x } := { h with }

theorem CrateWork.setCrates {l} (h : CrateWork b s) : CrateWork b (s.setCrates l) := { h with }

theorem CrateWork.modCrate {id f} (h : CrateWork b s) : CrateWork b (s.modCrate id f) := { h with }

theorem CrateWork.setLane {l v} (h : CrateWork b s) : CrateWork b (s.setLane l v) := { h with }

theorem CrateWork.setStagingPool {p} (h : CrateWork b s) : CrateWork b (s.setStagingPool p) := { h with }

/-! Lanes taken and lost. -/

theorem CrateWork.eraseLane {l} (h : CrateWork b s) : CrateWork b (s.eraseLane l) := .ite h.setLane.devEvent h.setLane

theorem CrateWork.takeLane {l} (h : CrateWork b s) : CrateWork b (s.takeLane l) := h.eraseLane.setLane

theorem CrateWork.newCrate {kind stream prefer} {r : State × Crate} (h : CrateWork b s) (he : s.newCrate kind stream prefer = some r) : CrateWork b r.1 := by
  unfold State.newCrate at he
  split at he
  · cases he
  · cases he
    exact h.foldl fun _ _ ht => ht.takeLane

theorem CrateWork.prepare {st} (h : CrateWork b s) : CrateWork b (s.prepare st) := by
  unfold State.prepare
  split
  · exact h
  · split
    · next hnew => exact (h.newCrate hnew).setCrates
    · exact h

theorem CrateWork.openAs {c} (h : CrateWork b s) : CrateWork b (s.openAs c) := { h with }

theorem CrateWork.openPrepared {st} (h : CrateWork b s) : CrateWork b (s.openPrepared st) := by
  unfold State.openPrepared
  split
  · exact h
  · exact { h with }

theorem CrateWork.ensureStream {st} (h : CrateWork b s) : CrateWork b (s.ensureStream st) := by
  unfold State.ensureStream
  exact .ite h.prepare.openPrepared.prepare h.prepare

theorem CrateWork.ensureKind {k} (h : CrateWork b s) : CrateWork b (s.ensureKind k) := by
  unfold State.ensureKind
  split
  · exact h
  · split
    · next hnew => exact (h.newCrate hnew).openAs
    · exact h

theorem CrateWork.addBad {t lun plane block grown} (h : CrateWork b s) : CrateWork b (s.addBad t lun plane block grown) := by
  have hreplace : ∀ {v : State} {x}, CrateWork b v → CrateWork b (v.replaceBlock t lun plane x) := fun {v x} hv => by
    unfold State.replaceBlock
    dsimp only
    split
    · exact { hv with }
    · exact { hv with }
  unfold State.addBad
  dsimp only
  split
  · exact h
  · split
    · exact hreplace h.withFlash
    · split
      · exact hreplace h.withFlash
      · exact h.withFlash

theorem CrateWork.blockFails {t lun plane block} (h : CrateWork b s) : CrateWork b (s.blockFails t lun plane block) := h.addBad.logFault

/-! Objects placed, rows padded and programmed. -/

theorem CrateWork.summarise {id} (h : CrateWork b s) : CrateWork b (s.summarise id) := by
  unfold State.summarise
  dsimp only
  split
  · exact h
  · exact .ite h (.ite h.modCrate.prepare.openPrepared.prepare h.modCrate)

theorem CrateWork.maybeClose {id} (h : CrateWork b s) : CrateWork b (s.maybeClose id) := by
  unfold State.maybeClose
  split
  · exact h
  · exact .ite h.summarise h

theorem CrateWork.fill {k n} (h : CrateWork b s) : CrateWork b (s.fill k n) := .ite h.withFlash h

theorem CrateWork.padRow {id} (h : CrateWork b s) : CrateWork b (s.padRow id) := by
  unfold State.padRow
  dsimp only
  split
  · exact h
  · exact h.modCrate.fill.maybeClose

theorem CrateWork.placeIn {c o tick} (h : CrateWork b s) : CrateWork b (s.placeIn c o tick) := h.modCrate.fill

theorem CrateWork.placeKind {k o tick} {r : State × Nat × Nat} (h : CrateWork b s) (he : s.placeKind k o tick = some r) : CrateWork b r.1 := by
  unfold State.placeKind at he
  dsimp only at he
  split at he
  · cases he
    exact h.ensureKind.placeIn
  · split at he
    · cases he
      exact (h.ensureKind.foldl fun _ _ ht => ht.summarise).ensureKind.placeIn
    · cases he

theorem CrateWork.writeWmt {n} (h : CrateWork b s) : CrateWork b (s.writeWmt n) := by
  unfold State.writeWmt
  split
  · exact { h with }
  · exact { h with }

theorem CrateWork.raiseDurable {n} (h : CrateWork b s) : CrateWork b (s.raiseDurable n) := by
  have hgo : ∀ k {v : State}, CrateWork b v → CrateWork b (raiseGo k v n) := fun k => by
    induction k with
    | zero => exact fun hv => hv
    | succ k ih =>
      intro v hv
      unfold raiseGo
      dsimp only
      split
      · exact .ite (ih { hv with }) hv
      · exact hv
  exact .ite (hgo _ h).writeWmt (hgo _ h)

theorem CrateWork.settleCrate {id} (h : CrateWork b s) : CrateWork b (s.settleCrate id) := by
  have hwraps : ∀ {v : State} {x : TabStore} {w}, CrateWork b v → CrateWork b { v with tabs := x, vault := { v.vault with wraps := w } } := fun {v x w} hv =>
    { hv with vault := by obtain ⟨_, hvault⟩ := hv.vault; exact ⟨w, by rw [hvault]⟩ }
  unfold State.settleCrate
  dsimp only
  split
  · exact h
  · exact (hwraps (h.modCrate.foldl fun _ _ ht => .ite ht.setStagingPool ht)).foldl fun _ _ ht => ht.raiseDurable

theorem CrateWork.closeDone {id} (h : CrateWork b s) : CrateWork b (s.closeDone id) := by
  unfold State.closeDone
  dsimp only
  split
  · exact h
  · exact .ite (.ite h.modCrate.devEvent h.modCrate) h

theorem CrateWork.programAll {id} (h : CrateWork b s) : CrateWork b (s.programAll id) := by
  unfold State.programAll
  dsimp only
  split
  · exact h.padRow
  · exact .ite h.padRow h.padRow.modCrate.settleCrate.closeDone

theorem CrateWork.loseEntries {id keys} (h : CrateWork b s) : CrateWork b (s.loseEntries id keys) := by
  unfold State.loseEntries
  exact .ite (CrateWork.logFault { h with }) { h with }

theorem CrateWork.loseLane {id lane} (h : CrateWork b s) : CrateWork b (s.loseLane id lane) := by
  unfold State.loseLane
  dsimp only
  split
  · exact h
  · exact .ite h (.ite (.loseEntries (.ite (.ite h.modCrate.summarise h.modCrate) (.ite h.modCrate.modCrate.devEvent h.modCrate.modCrate))) (.ite (.ite h.modCrate.summarise h.modCrate) (.ite h.modCrate.modCrate.devEvent h.modCrate.modCrate)))

theorem CrateWork.failLanes {id failed} (h : CrateWork b s) : CrateWork b (s.failLanes id failed) := by
  unfold State.failLanes
  split
  · exact h
  · refine h.foldl fun _ _ ht => ?_
    split
    · exact ht.blockFails.loseLane
    · exact ht

theorem CrateWork.movedEntry {o crate slot recordOnly} (h : CrateWork b s) : CrateWork b (s.movedEntry o crate slot recordOnly) := h.withTabs

theorem CrateWork.moveObj {id o recordOnly} (h : CrateWork b s) (he : s.moveObj id o recordOnly = some u) : CrateWork b u := by
  unfold State.moveObj at he
  dsimp only at he
  split at he
  · cases he
  · next hplace =>
    cases he
    exact .programAll (.ite (h.placeKind hplace).modCrate.movedEntry (h.placeKind hplace).modCrate)

theorem CrateWork.moveRow {id below} (h : CrateWork b s) : CrateWork b (s.moveRow id below) := by
  unfold State.moveRow
  dsimp only
  split
  · exact h
  · refine h.foldl fun _ _ ht => ?_
    split
    · next hmove => exact .ite (ht.moveObj hmove).modCrate.setStagingPool (ht.moveObj hmove).modCrate
    · exact ht

theorem CrateWork.programLanes {id failed} (h : CrateWork b s) : CrateWork b (s.programLanes id failed) := by
  unfold State.programLanes
  dsimp only
  split
  · exact h.padRow.failLanes
  · exact .ite h.padRow.failLanes.moveRow h.padRow.failLanes.programAll

theorem CrateWork.ledgerPut {o tick failed} (h : CrateWork b s) : CrateWork b (s.ledgerPut o tick failed) := by
  unfold State.ledgerPut
  split
  · exact h.programLanes
  · split
    · next hplace => exact (h.placeKind hplace).programLanes
    · exact h

theorem CrateWork.programWrap {g epoch len} (h : CrateWork b s) : CrateWork b (s.programWrap g epoch len) := by
  unfold State.programWrap
  dsimp only
  split
  · exact h.ensureStream
  · split
    · next hplace => exact (h.ensureStream.placeIn.programAll.maybeClose.placeKind hplace).programAll
    · exact h.ensureStream.placeIn.programAll.maybeClose

end Sys2Proof.Proofs
end


section
/-! SUPPORT. Tick boundaries, the slew, SET_TIME and TIME_CONFIG (R129 to R131, R153 to R160). -/

namespace Sys2Proof.Proofs

open Sys2Proof Sys2Proof.Machine Sys2Proof.Safety

variable {s t u b : State}

/-! What a boundary does after the turn leaves the ledger. -/

theorem poolRun_done {owner ticket cls apart outs} (h : s.poolRun owner ticket cls apart outs = some u) : PoolDone s u := by
  unfold State.poolRun at h
  split at h
  · cases h
  · obtain ⟨es, -, rfl⟩ := Option.map_eq_some_iff.mp h
    exact poolDone_foldl (fun p : Nat × Nat × PkeReq × PkeOut =>
      { op := p.2.1, owner := owner, slot := p.2.2.1.slot.val, ticket := ticket, status := p.2.2.2.status, engine := 0x6000 + p.1, attempts := p.2.2.2.attempts, time := sat 32 p.2.2.2.time }) (es.zip outs) s

/-- Of the ledger only the events of the open tick differ. -/
def OnlyEvents (s u : State) : Prop := ∃ e, u.ledger = { s.ledger with events := e }

theorem onlyEvents_refl (s : State) : OnlyEvents s s := ⟨_, rfl⟩

theorem OnlyEvents.trans (h : OnlyEvents b s) (h' : OnlyEvents s t) : OnlyEvents b t := by
  obtain ⟨_, hs⟩ := h
  obtain ⟨_, ht⟩ := h'
  exact ⟨_, ht.trans (by rw [hs])⟩

theorem OnlyEvents.of_eq (h : OnlyEvents b s) (hu : u.ledger = s.ledger) : OnlyEvents b u := by
  rw [OnlyEvents, hu]
  exact h

theorem CrateWork.onlyEvents (h : CrateWork s u) : OnlyEvents s u := (onlyEvents_refl s).of_eq h.ledger

theorem OnlyEvents.ite {c : Prop} [Decidable c] (h : OnlyEvents b s) (h' : OnlyEvents b t) : OnlyEvents b (if c then s else t) := by
  split
  · exact h
  · exact h'

theorem OnlyEvents.foldl {α : Type} {f : State → α → State} {l : List α} (h : OnlyEvents b s) (hf : ∀ s a, OnlyEvents b s → OnlyEvents b (f s a)) : OnlyEvents b (l.foldl f s) :=
  List.foldlRecOn l f (motive := OnlyEvents b) h fun s hs a _ => hf s a hs

theorem OnlyEvents.addEvent {type body} (h : OnlyEvents b s) : OnlyEvents b (s.addEvent type body) := .ite (h.trans ⟨_, rfl⟩) h

theorem OnlyEvents.withVault {v} (h : OnlyEvents b s) : OnlyEvents b { s with vault := v } := h

theorem OnlyEvents.drewBytes {n} (h : OnlyEvents b s) : OnlyEvents b (s.drewBytes n) := h

theorem OnlyEvents.dropHandles {gone} (h : OnlyEvents b s) : OnlyEvents b (s.dropHandles gone) := h

theorem OnlyEvents.savePage {n anew} (h : OnlyEvents b s) : OnlyEvents b (s.savePage anew n) := by
  unfold State.savePage
  dsimp only
  exact .withVault (.ite h h.drewBytes)

theorem OnlyEvents.savePages {anew l} (h : OnlyEvents b s) : OnlyEvents b (s.savePages anew l) := h.foldl fun _ _ ht => ht.savePage

theorem OnlyEvents.shred (h : OnlyEvents b s) : OnlyEvents b s.shred := by
  have herase : OnlyEvents b s.eraseOld := h
  exact .ite h (.withVault (herase.foldl fun _ _ ht => ht.addEvent))

theorem OnlyEvents.programImage (h : OnlyEvents b s) : OnlyEvents b s.programImage := by
  unfold State.programImage
  split
  · exact h
  · exact h.shred

theorem OnlyEvents.writeImage (h : OnlyEvents b s) : OnlyEvents b s.writeImage := .ite h h.programImage

theorem OnlyEvents.takeKeys {gone} (h : OnlyEvents b s) : OnlyEvents b (s.takeKeys gone) := h

theorem OnlyEvents.testKeys (h : OnlyEvents b s) : OnlyEvents b s.testKeys := by
  unfold State.testKeys
  dsimp only
  exact .ite h.withVault.savePages (.withVault h.withVault.shred.takeKeys.savePages.savePages.programImage)

theorem OnlyEvents.programWrap {g epoch len} (h : OnlyEvents b s) : OnlyEvents b (s.programWrap g epoch len) := h.trans (crateWork_refl s).programWrap.onlyEvents

theorem OnlyEvents.poolDone (h : OnlyEvents b s) (hu : PoolDone s u) : OnlyEvents b u := by
  obtain ⟨_, rfl⟩ := hu
  exact h

theorem OnlyEvents.prepareEpoch {g planned} (h : OnlyEvents b s) : OnlyEvents b (s.prepareEpoch g planned) := by
  unfold State.prepareEpoch
  split
  · exact .ite h h.programWrap
  · split
    · exact h
    · split
      · exact h
      · dsimp only
        split
        · exact h
        · next hpool => exact (h.drewBytes.poolDone (poolRun_done hpool)).withVault.programWrap.savePage

theorem OnlyEvents.setWork {w} (h : OnlyEvents b s) : OnlyEvents b (s.setWork w) := by
  unfold State.setWork
  dsimp only
  exact .withVault (.ite h h.dropHandles)

theorem OnlyEvents.openEpoch {g} (h : OnlyEvents b s) : OnlyEvents b (s.openEpoch g) := by
  unfold State.openEpoch
  split
  · exact h
  · split
    · exact h
    · exact h.withVault.setWork.savePages.addEvent

theorem OnlyEvents.openOverdue (h : OnlyEvents b s) : OnlyEvents b s.openOverdue := .ite h (.writeImage (h.foldl fun _ _ ht => ht.prepareEpoch.openEpoch))

theorem OnlyEvents.newRide {now} (h : OnlyEvents b s) : OnlyEvents b (s.newRide now) := by
  unfold State.newRide
  dsimp only
  exact h.trans (CrateWork.ite (crateWork_refl s).withFlash.withFlash.devEvent (crateWork_refl s).withFlash.withFlash).onlyEvents

/-- Everything that happens at a boundary after the open tick has turned. -/
def afterTurn (s : State) (b : Nat) : State := ((((((s.padBoundary.closeFullCrates.boundaryWmt).newRide b).testKeys).openOverdue).dueImage).flushTamper).flushFaults

theorem CrateWork.boundaryCrates (s : State) : CrateWork s s.padBoundary.closeFullCrates.boundaryWmt := by
  have hclose : ∀ {v : State}, CrateWork s v → CrateWork s v.closeFullCrates := fun {v} hv => hv.foldl fun _ _ ht => by
    split
    · exact ht.maybeClose
    · exact ht
  exact (hclose ((crateWork_refl s).foldl fun _ _ ht => ht.padRow)).foldl fun _ _ ht => .ite ht ht.writeWmt

theorem afterTurn_onlyEvents (s : State) (b : Nat) : OnlyEvents s (afterTurn s b) := by
  have hflush : ∀ {v : State}, OnlyEvents s v → OnlyEvents s v.flushTamper.flushFaults := fun {v} hv => by
    have htamper : OnlyEvents s v.flushTamper := .ite hv hv
    exact .ite htamper htamper
  have himage : ∀ {v : State}, OnlyEvents s v → OnlyEvents s v.dueImage := fun {v} hv => .ite hv.writeImage hv
  exact hflush (himage (CrateWork.boundaryCrates s).onlyEvents.newRide.testKeys.openOverdue)

/-- A boundary freezes the open tick and opens the next (R129, R131, R136). -/
theorem tickBoundary_turns (hrun : s.ledger.running = true) (hpll : s.power.pllSwitching = false) : ∃ u b, exec .tickBoundary s = .next u ∧ u.ledger.builds = s.ledger.builds ++ [b] ∧ u.ledger.current = s.ledger.current + 1 ∧
      u.ledger.began = s.ledger.nextBoundary + s.ledger.stepPending.getD 0 ∧ u.ledger.stepPending = none ∧ u.ledger.nextBoundary = boundaryAfter s.ledger.periodMs u.ledger.began ∧
      u.ledger.periodInForce = s.ledger.periodMs ∧ b.at_.tick = s.ledger.current ∧ b.at_.boundary = s.ledger.nextBoundary ∧ b.prevBoundary = s.ledger.began ∧ b.heads = s.openHeads ∧
      b.events = s.ledger.events ++ s.ledger.periodEvent ∧ u.ledger.records = s.ledger.records := by
  obtain ⟨v, hv⟩ : ∃ v, v = (s.reach s.ledger.nextBoundary).turnTick := ⟨_, rfl⟩
  have hgo : exec .tickBoundary s = .next (afterTurn v s.ledger.nextBoundary) := by
    rw [hv]
    exact congrArg Host.Outcome.next ((if_neg (by simp [hrun])).trans (if_neg (by simp [hpll])))
  obtain ⟨e, he⟩ := afterTurn_onlyEvents v s.ledger.nextBoundary
  obtain ⟨x, hbuilds, hx⟩ : ∃ x : TickBuild, v.ledger.builds = s.ledger.builds ++ [x] ∧ x.at_.tick = s.ledger.current ∧ x.at_.boundary = s.ledger.nextBoundary ∧ x.prevBoundary = s.ledger.began ∧
      x.heads = s.openHeads ∧ x.events = s.ledger.events ++ s.ledger.periodEvent := by
    rw [hv]
    exact ⟨_, rfl, rfl, rfl, rfl, rfl, rfl⟩
  obtain ⟨htick, hboundary, hprev, hheads, hevents⟩ := hx
  refine ⟨_, x, hgo, ?_⟩
  rw [he]
  refine ⟨hbuilds, ?_, ?_, ?_, ?_, ?_, htick, hboundary, hprev, hheads, hevents, ?_⟩
  all_goals
    rw [hv]
    rfl

/-! The slew and its settings. -/

theorem slewAct_of_runs (hon : s.power.mode ≠ .off ∨ s.power.pwrOk = true) (hleft : s.ledger.slewRemain ≠ 0) : (s.power.mode == .off && !s.power.pwrOk || s.ledger.slewRemain == 0) = false := by
  rcases hon with h | h <;> simp [h, hleft]

theorem mainOn_addEvent (s : State) (type : Nat) (body : Bytes) : (s.addEvent type body).mainOn = s.mainOn := by
  unfold State.mainOn State.scrapped State.lifeCount
  rw [Laws.addEvent_power, Laws.addEvent_guard]

theorem write32_tick {o v : Nat} (ho : o < 4096) (hoff : NarrowAt (0x3000 + o)) (hon : s.mainOn = true) (hready : s.dev.ready = true) (hv : v < 2 ^ 32) : s.write32 (0x3000 + o) v = s.writeTick o v := by
  rw [write32_narrow hoff (accepts_of_ready hon hready _) hv]
  exact writeNarrow_tick s ho v

theorem clamp_from_zero (v hi : Nat) : clamp v 0 hi = min v hi := by
  unfold clamp
  rw [if_neg (Nat.not_lt_zero v)]
  split <;> omega

/-- The two writes of TIME_CONFIG store their values clamped (R160). -/
theorem timeConfig_says (v w : BitVec 32) (hon : s.mainOn = true) (hready : s.dev.ready = true) (hmode : s.power.mode ≠ .lockdown) :
    ∃ u, exec (.timeConfig (some v) (some w)) s = .next u ∧ u.ledger.slewMaxMs = clamp (v.toNat % 65536) 100 60000 ∧
      u.ledger.slewShift = clamp (v.toNat / 65536 % 16) 10 16 ∧ u.ledger.unsignedMs = min (w.toNat % 65536) 2000 ∧ u.ledger.rtc = s.ledger.rtc ∧ u.tabs = s.tabs ∧ u.vault = s.vault := by
  obtain ⟨x, hx⟩ : ∃ x : State, x = State.timeConfigEvent { s with ledger := { s.ledger with slewShift := clamp (bits v.toNat 16 4) 10 16, slewMaxMs := clamp (bits v.toNat 0 16) 100 60000 } } := ⟨_, rfl⟩
  have hslew : s.write32 0x3008 v.toNat = x := by
    rw [write32_tick (o := 8) (by decide) (by decide) hon hready v.isLt, hx]
    exact (if_neg hmode : s.writeTick 8 v.toNat = s.writeSlew v.toNat).trans (if_neg (by simp [hmode]))
  have hxpower : x.power = s.power := by rw [hx, State.timeConfigEvent, Laws.addEvent_power]
  have hxon : x.mainOn = true := by
    rw [hx, State.timeConfigEvent, mainOn_addEvent]
    exact hon
  have hxready : x.dev.ready = true := by
    rw [hx, State.timeConfigEvent, Laws.addEvent_dev]
    exact hready
  have hunsigned : x.write32 0x300C w.toNat = State.timeConfigEvent { x with ledger := { x.ledger with unsignedMs := clamp (bits w.toNat 0 16) 0 2000 } } := by
    rw [write32_tick (o := 12) (by decide) (by decide) hxon hxready w.isLt]
    have hxmode : x.power.mode ≠ .lockdown := hxpower ▸ hmode
    exact (if_neg hxmode : x.writeTick 12 w.toNat = x.writeUnsigned w.toNat).trans (if_neg (by simp [hxmode]))
  refine ⟨_, congrArg Host.Outcome.next ((congrArg (fun y : State => y.write32 0x300C w.toNat) hslew).trans hunsigned), ?_⟩
  have hledger : ∀ (y : State), ∃ e, y.timeConfigEvent.ledger = { y.ledger with events := e } := fun y => (onlyEvents_refl y).addEvent
  obtain ⟨e, he⟩ := hledger { x with ledger := { x.ledger with unsignedMs := clamp (bits w.toNat 0 16) 0 2000 } }
  obtain ⟨e', he'⟩ := hledger { s with ledger := { s.ledger with slewShift := clamp (bits v.toNat 16 4) 10 16, slewMaxMs := clamp (bits v.toNat 0 16) 100 60000 } }
  rw [← hx] at he'
  rw [he, State.timeConfigEvent, Laws.addEvent_tabs, Laws.addEvent_vault]
  dsimp only
  rw [he', bits_from_zero, bits_from_zero, clamp_from_zero]
  refine ⟨rfl, rfl, rfl, rfl, ?_, ?_⟩
  · rw [hx, State.timeConfigEvent, Laws.addEvent_tabs]
  · rw [hx, State.timeConfigEvent, Laws.addEvent_vault]

/-! SET_TIME. -/

theorem aer_of_read (s : State) (p : Nat) {r r' : HostRead} (h : r ≠ .err) (h' : r' ≠ .err) : s.aer p [r, r'] = s := by
  have hnone : readErrors [r, r'] = 0 := by simp [readErrors, h, h']
  have hport : ∀ q : Port, { q with aerLogged := q.aerLogged + readErrors [r, r'] } = q := fun q => by
    rw [hnone]
    rfl
  unfold State.aer State.setPort
  rw [hport]
  unfold State.port
  split
  · rfl
  · rfl

theorem withObj_of_carries {t : Tk} {o : ObjRead} {b : Bytes} (h : Carries s t o b) (a : TkArg) (f : State → Bytes → State) : s.withObj t a o f = f s b := by
  obtain ⟨hmasters, hobj, hbasket, hdata⟩ := h
  unfold State.withObj
  rw [if_neg (by simp [hmasters])]
  dsimp only
  rw [hobj, aer_of_read s _ hbasket hdata]

theorem verifyOn_of_serves {t : Tk} (h : PoolServes s t.cls) (objs : List (Bytes × Bytes × Nat)) (f : State → State) : ∃ v, PoolDone s v ∧ s.verifyOn t objs f = f v := by
  unfold State.verifyOn
  split
  · exact ⟨s, ⟨_, rfl⟩, rfl⟩
  · obtain ⟨v, hv, hdone⟩ := poolRun_of_serves h 0xF001 t.id (objs.flatMap (fun o => verifierOps { owner := 0xF001 } o.1 o.2.1 o.2.2))
    exact ⟨v, hdone, by rw [hv]⟩

theorem PoolDone.onlyCrypto (h : PoolDone s u) : OnlyCrypto s u := by
  obtain ⟨_, rfl⟩ := h
  rfl

/-- Settles O35: each clause by the case of its command. -/
theorem timeRuns : Obligations.TimeRuns := by
  unfold Obligations.TimeRuns
  refine ⟨fun s a o t b keys hadm hcarries hpool hkeys => ⟨?_, fun hsigned hsmall => ?_⟩, fun s => ⟨fun hstop => congrArg Host.Outcome.next (if_pos (by simp [hstop])), fun hrun hpll => ?_, tickBoundary_turns, fun v hv hon => ⟨fun hpos => ?_, fun hneg => ?_, fun hzero => ?_⟩,
    fun v w => timeConfig_says v w⟩⟩
  · obtain ⟨v, hdone, hverify⟩ := verifyOn_of_serves hpool (if bit (fld b 2 1) 0 ∧ b.length = 3469 then keys.toList.map (fun k => (k, b, 64)) else []) (fun s => s.judgeTime t a keys b)
    refine ⟨v, hdone.onlyCrypto, congrArg Host.Outcome.next ?_⟩
    unfold State.setTime
    rw [withTk_of_admitted hadm, withObj_of_carries hcarries]
    dsimp only
    rw [← hkeys, hverify]
    obtain ⟨d, rfl⟩ := hdone
    have hcheck : ({ s with crypto := { s.crypto with pke := { s.crypto.pke with done := d } } } : State).timeCheck keys b = s.timeCheck keys b := rfl
    unfold State.judgeTime
    dsimp only
    rw [hcheck]
    by_cases hok : s.timeCheck keys b = 0
    · rw [if_neg (not_not.mpr hok), if_pos hok]
      rfl
    · rw [if_pos hok, if_neg hok]
  · have hstep : ¬ (msCounts s.ledger.slewMaxMs : Int) < s.correction b := Int.not_lt.mpr hsmall
    unfold State.applyTime
    dsimp only
    rw [hsigned, if_neg Bool.false_ne_true, if_neg hstep, Bool.false_or]
  · exact congrArg Host.Outcome.next ((if_neg (by simp [hrun])).trans (if_pos hpll))
  · rw [hv]
    refine congrArg Host.Outcome.next ((if_neg ?_).trans (if_pos hpos))
    rw [slewAct_of_runs hon (by omega)]
    exact Bool.false_ne_true
  · rw [hv]
    refine congrArg Host.Outcome.next ((if_neg ?_).trans (if_neg (Int.not_lt.mpr (Int.le_of_lt hneg))))
    rw [slewAct_of_runs hon (by omega)]
    exact Bool.false_ne_true
  · exact congrArg Host.Outcome.next (if_pos (by simp [hzero]))

end Sys2Proof.Proofs
end


section
/-! SUPPORT. Tick records sealed and durable (R15, R134, R137 to R139). -/

namespace Sys2Proof.Proofs

open Sys2Proof Sys2Proof.Machine Sys2Proof.Safety

variable {s t u : State}

theorem programCerts_of_durable (h : ∀ c ∈ s.vault.certs, c.durable = true) : s.programCerts = s := foldl_fixed fun c hc => if_pos (h c hc)

/-- Two operations that want engines of their own find them. -/
theorem poolTake_two {cls : Fin 4} (h : ∀ l : List Nat, l.length ≤ 1 → (s.poolEngine cls false l).isSome = true ∧ (s.poolEngine cls true l).isSome = true) (o o' : Nat × PkeReq) :
    (s.poolTake cls true [o, o'] []).isSome = true := by
  have hall : ∀ (short : Bool) (l : List Nat), l.length ≤ 1 → (s.poolEngine cls short l).isSome = true := fun short l hl => by
    cases short
    · exact (h l hl).1
    · exact (h l hl).2
  obtain ⟨e, he⟩ := Option.isSome_iff_exists.mp (hall (opShort o.1 o.2) (if true && decide (1 < s.pkeWorking.length) then [] else []) (by split <;> exact Nat.zero_le _))
  obtain ⟨e', he'⟩ := Option.isSome_iff_exists.mp (hall (opShort o'.1 o'.2) (if true && decide (1 < s.pkeWorking.length) then [e] else []) (by split <;> simp))
  simp only [State.poolTake, he, he', Option.bind_some, Option.isSome_some]

theorem poolRun_two {cls : Fin 4} (hgo : Runs s) (h : ∀ l : List Nat, l.length ≤ 1 → (s.poolEngine cls false l).isSome = true ∧ (s.poolEngine cls true l).isSome = true) (owner ticket : Nat)
    (o o' : Nat × PkeReq × PkeOut) : ∃ u, s.poolRun owner ticket cls true [o, o'] = some u ∧ PoolDone s u := by
  obtain ⟨hwarn, hpll⟩ := hgo
  obtain ⟨es, hes⟩ := Option.isSome_iff_exists.mp (poolTake_two h (o.1, o.2.1) (o'.1, o'.2.1))
  obtain ⟨u, hu⟩ : ∃ u, s.poolRun owner ticket cls true [o, o'] = some u := by
    rw [State.poolRun, if_neg (by simp [State.enginesPaused, hwarn, hpll])]
    simp only [List.map_cons, List.map_nil, hes, Option.map_some]
    exact ⟨_, rfl⟩
  exact ⟨u, hu, poolRun_done hu⟩

/-! Sealing. -/

/-- The record of a build with its two signatures (R137, R138). -/
def State.signedRecord (s : State) (b : TickBuild) (k : SignPair) : TickRecord :=
  { s.recordOf b k with
    sigEcdsa := signEcdsa k.d ((s.recordOf b k).message s.unitId) (s.drawBytes 32)
    sigMldsa := (dsaSign mlDsa65 k.mldsaSk [] ((s.recordOf b k).message s.unitId) ((s.drewBytes 32).drawBytes 32)).1 }

/-- What a record takes from its build (R134, R137). -/
theorem signedRecord_says (s : State) (b : TickBuild) (k : SignPair) :
    (State.signedRecord s b k).at_ = b.at_ ∧ (State.signedRecord s b k).prevHash = s.recordHash (b.at_.tick - 1) ∧ (State.signedRecord s b k).root = tickRoot b.heads b.at_.tick ∧ (State.signedRecord s b k).signerId = k.id ∧
      (State.signedRecord s b k).presentCount = b.heads.length ∧ (State.signedRecord s b k).entryCount = b.entryCount ∧ (State.signedRecord s b k).prevBoundary = b.prevBoundary ∧ (State.signedRecord s b k).heads = b.heads ∧
      (State.signedRecord s b k).sigEcdsa = signEcdsa k.d ((s.recordOf b k).message s.unitId) (s.drawBytes 32) := by
  simp only [State.signedRecord, State.recordOf, and_self]

/-- Only the fault log, its messages and the classes differ. -/
theorem logFault_keeps (s : State) (d : Detection) : (s.logFault d).ledger = s.ledger ∧ (s.logFault d).tabs = s.tabs ∧ (s.logFault d).flash = s.flash := ⟨Laws.logFault_ledger s d, Laws.logFault_tabs s d, Laws.logFault_flash s d⟩

theorem logFault_if_keeps (c : Prop) [Decidable c] (s : State) (d : Detection) :
    (if c then s.logFault d else s).ledger = s.ledger ∧ (if c then s.logFault d else s).tabs = s.tabs ∧ (if c then s.logFault d else s).flash = s.flash := by
  split
  · exact logFault_keeps s d
  · exact ⟨rfl, rfl, rfl⟩

/-- The oldest waiting tick is sealed where its signer, a hasher and two engines are there (R137). -/
theorem sealTick_says {b : TickBuild} {rest : List TickBuild} {k : SignPair} (delay extra : Nat) (hcerts : ∀ c ∈ s.vault.certs, c.durable = true) (hbuilds : s.ledger.builds = b :: rest)
    (hsigning : s.vault.signing = some k) (hmode : s.power.mode ≠ .lockdown) (hgo : Runs s) (hpool : ∀ l : List Nat, l.length ≤ 1 → (s.poolEngine 0 false l).isSome = true ∧ (s.poolEngine 0 true l).isSome = true)
    (hhashers : s.hashersWorking ≠ []) :
    (s.sealTick delay extra).ledger = { s.ledger with builds := rest, sealedTick := b.at_.tick, records := s.ledger.records ++ [State.signedRecord s b k], signerDue := none } ∧
      (s.sealTick delay extra).tabs = s.tabs ∧ (s.sealTick delay extra).flash = s.flash := by
  obtain ⟨m, hm⟩ : ∃ m, m = (s.recordOf b k).message s.unitId := ⟨_, rfl⟩
  obtain ⟨se, hse⟩ : ∃ se, se = signEcdsa k.d m (s.drawBytes 32) := ⟨_, rfl⟩
  obtain ⟨sm, hsm⟩ : ∃ sm, sm = dsaSign mlDsa65 k.mldsaSk [] m ((s.drewBytes 32).drawBytes 32) := ⟨_, rfl⟩
  have hrecord : State.signedRecord s b k = { s.recordOf b k with sigEcdsa := se, sigMldsa := sm.1 } := by
    rw [State.signedRecord, ← hm, ← hse, ← hsm]
  obtain ⟨v, hv, hdone⟩ := poolRun_two (s := s.drewBytes 64) hgo hpool 0xF000 0
    (0x21, { owner := 0xF000, inputs := [sha384 m], key := .handle 0x20000000 }, { result := se, time := ct384.sign })
    (0xA1, { owner := 0xF000, inputs := [[]], stream := true, msg := m, key := .handle 0x30000000 }, { result := sm.1, attempts := sm.2, time := 57900 + 1200 * sm.2 + kibTime m.length })
  have hfree : (s.power.mode == .lockdown || s.hashersWorking == [] || s.vault.certs.any (fun c => !c.durable)) = false := by
    have hall : s.vault.certs.any (fun c => !c.durable) = false := List.any_eq_false.mpr fun c hc => by simp [hcerts c hc]
    simp [hmode, hhashers, hall]
  unfold State.sealTick
  dsimp only
  rw [programCerts_of_durable hcerts, hbuilds, hsigning]
  dsimp only
  rw [hfree, if_neg Bool.false_ne_true, ← hm, ← hse, ← hsm, hv, hrecord]
  dsimp only
  obtain ⟨hledger, htabs, hflash⟩ := logFault_if_keeps (400 < delay) (if 120 < sm.2 + extra then
    ({ v with ledger := { v.ledger with builds := rest, sealedTick := b.at_.tick, records := v.ledger.records ++ [{ s.recordOf b k with sigEcdsa := se, sigMldsa := sm.1 }], signerDue := none }
              classes := { v.classes with tickMax := max v.classes.tickMax (sat 16 delay) } } : State).logFault { cls := 0x1A, unit := 0x6000 + s.class0Engines.headD 0, detail := sm.2 + extra } else
    { v with ledger := { v.ledger with builds := rest, sealedTick := b.at_.tick, records := v.ledger.records ++ [{ s.recordOf b k with sigEcdsa := se, sigMldsa := sm.1 }], signerDue := none }
             classes := { v.classes with tickMax := max v.classes.tickMax (sat 16 delay) } }) { cls := 0x52, detail := delay }
  obtain ⟨hledger', htabs', hflash'⟩ := logFault_if_keeps (120 < sm.2 + extra)
    ({ v with ledger := { v.ledger with builds := rest, sealedTick := b.at_.tick, records := v.ledger.records ++ [{ s.recordOf b k with sigEcdsa := se, sigMldsa := sm.1 }], signerDue := none }
              classes := { v.classes with tickMax := max v.classes.tickMax (sat 16 delay) } } : State) { cls := 0x1A, unit := 0x6000 + s.class0Engines.headD 0, detail := sm.2 + extra }
  rw [hledger, htabs, hflash, hledger', htabs', hflash']
  obtain ⟨_, rfl⟩ := hdone
  exact ⟨rfl, rfl, rfl⟩

/-! Durability. -/

theorem mem_of_mem_newest {α : Type} {n : Nat} {l : List α} {x : α} (h : x ∈ newest n l) : x ∈ l := List.mem_of_mem_drop h

theorem prune_says (l : Ledger) : (∀ j ∈ l.prune.journal, j ∈ l.journal) ∧ ∀ j ∈ l.journal, l.durableTick < j.tick → j ∈ l.prune.journal := by
  refine ⟨fun j hj => ?_, fun j hj hlate => List.mem_append_left _ (List.mem_filter.mpr ⟨hj, decide_eq_true hlate⟩)⟩
  rcases List.mem_append.mp hj with hj | hj
  · exact List.mem_of_mem_filter hj
  · exact mem_of_mem_newest (List.mem_of_mem_filter hj)

theorem durableTick_of_rows {r : TickRecord} {n : Nat} (failed : List Nat) (hn : n = s.ledger.durableTick + 1) (hr : s.record? n = some r) (hrows : s.rowsIn n = true) (hnot : s.inLedger 4 n = false) :
    s.durableTick failed = (fun v : State => (fun w : State => if w.inLedger 4 n && w.inLedger 5 n then { w with ledger := { w.ledger with durableTick := n }.prune } else w.logFault { cls := 0x38, unit := 0x8000, detail := n })
      (if !v.inLedger 4 n || v.inLedger 5 n then v else v.ledgerPut { type := 5, key := n, length := 16 + Config.tabs / 8 + 48 * r.presentCount } n []))
      (s.ledgerPut { type := 4, key := n, length := (r.bytes s.unitId).length } n failed) := by
  unfold State.durableTick
  dsimp only
  rw [← hn, hr]
  dsimp only
  rw [hrows, hnot]
  rfl

/-- Settles O36: sealing by the build at the front, durability by what the ledger crate holds. -/
theorem recordsSealInOrder : Obligations.RecordsSealInOrder := by
  unfold Obligations.RecordsSealInOrder
  intro s b rest k delay extra hcerts
  refine ⟨fun hbuilds hsigning hmode hgo hpool hhashers => ?_, fun hnone => ?_, fun r n failed hn hr => ⟨fun ⟨e, he, htick, hprog, hlost⟩ => ?_, fun v w hrows hnot hv => ⟨fun hin hnot5 hw hin4 hin5 => ?_, fun hnot4 => ?_⟩⟩⟩
  · obtain ⟨hledger, htabs, hflash⟩ := sealTick_says delay extra hcerts hbuilds hsigning hmode hgo hpool hhashers
    obtain ⟨hat, hprev, hroot, hsigner, hpresent, hcount, hbefore, hheads, hsig⟩ := signedRecord_says s b k
    refine ⟨s.sealTick delay extra, State.signedRecord s b k, rfl, ?_⟩
    rw [hledger]
    exact ⟨rfl, rfl, rfl, hat, hprev, hroot, hsigner, hpresent, hcount, hbefore, hheads, hsig, htabs, hflash⟩
  · refine congrArg Host.Outcome.next ?_
    unfold State.sealTick
    dsimp only
    rw [programCerts_of_durable hcerts, hnone]
  · have hwaits : s.rowsIn n = false := List.all_eq_false.mpr ⟨e, he, by simp [htick, hprog, hlost]⟩
    refine congrArg Host.Outcome.next ?_
    unfold State.durableTick
    dsimp only
    rw [← hn, hr]
    dsimp only
    rw [hwaits]
    rfl
  · have hledger : w.ledger = s.ledger := by rw [hw, (crateWork_refl v).ledgerPut.ledger, hv, (crateWork_refl s).ledgerPut.ledger]
    have hgo : exec (.tickRecordDurable failed) s = .next { w with ledger := { w.ledger with durableTick := n }.prune } := by
      refine congrArg Host.Outcome.next ?_
      rw [durableTick_of_rows failed hn hr hrows hnot, ← hv]
      dsimp only
      rw [hin, hnot5, Bool.not_true, Bool.false_or, if_neg Bool.false_ne_true, ← hw, hin4, hin5]
      rfl
    obtain ⟨hsub, hkeep⟩ := prune_says { w.ledger with durableTick := n }
    refine ⟨_, hgo, rfl, rfl, ?_, ?_, ?_⟩
    · exact (show w.ledger.records = s.ledger.records by rw [hledger])
    · exact fun j hj => hledger ▸ hsub j hj
    · exact fun j hj hlate => hkeep j (hledger ▸ hj) hlate
  · refine ⟨v.logFault { cls := 0x38, unit := 0x8000, detail := n }, congrArg Host.Outcome.next ?_, ?_, logFault_lastClass _ _⟩
    · rw [durableTick_of_rows failed hn hr hrows hnot, ← hv]
      dsimp only
      rw [hnot4, Bool.not_false, Bool.true_or, if_pos rfl, hnot4, Bool.false_and, if_neg Bool.false_ne_true]
    · rw [Laws.logFault_ledger, hv, (crateWork_refl s).ledgerPut.ledger]

end Sys2Proof.Proofs
end


section
/-! SUPPORT. Epochs prepared and changed, key destruction, reseeds (R208, R236, R239, R246, R250, R251). -/

namespace Sys2Proof.Proofs

open Sys2Proof Sys2Proof.Machine Sys2Proof.Safety

variable {s t u b : State}

/-! What stands in the key table while pages, images and events are written. -/

/-- The tabs, the key table with the wraps, the epochs that are due, and the number of the open tick. -/
def tableView (s : State) := (s.tabs, s.vault.epochs, s.vault.prepared, s.vault.wraps, s.vault.lastHour, s.vault.unopened, s.ledger.current)

/-- Nothing of `tableView` differs. -/
def HoldsTable (b s : State) : Prop := tableView s = tableView b

theorem holdsTable_refl (s : State) : HoldsTable s s := rfl

theorem HoldsTable.trans (h : HoldsTable b s) (h' : HoldsTable s t) : HoldsTable b t := Eq.trans h' h

theorem HoldsTable.ite {c : Prop} [Decidable c] (h : HoldsTable b s) (h' : HoldsTable b t) : HoldsTable b (if c then s else t) := by
  split
  · exact h
  · exact h'

theorem HoldsTable.foldl {α : Type} {f : State → α → State} {l : List α} (h : HoldsTable b s) (hf : ∀ s a, HoldsTable b s → HoldsTable b (f s a)) : HoldsTable b (l.foldl f s) :=
  List.foldlRecOn l f (motive := HoldsTable b) h fun s hs a _ => hf s a hs

theorem HoldsTable.addEvent {type body} (h : HoldsTable b s) : HoldsTable b (s.addEvent type body) := .ite h h

theorem HoldsTable.logFault {d} (h : HoldsTable b s) : HoldsTable b (s.logFault d) := h.trans (by simp [HoldsTable, tableView])

theorem HoldsTable.drewBytes {n} (h : HoldsTable b s) : HoldsTable b (s.drewBytes n) := h

theorem HoldsTable.dropHandles {gone} (h : HoldsTable b s) : HoldsTable b (s.dropHandles gone) := h

theorem HoldsTable.withWork {w} (h : HoldsTable b s) : HoldsTable b { s with vault := { s.vault with work := w } } := h

theorem savePage_says (s : State) (anew : Bool) (n : Nat) : ∃ k p d, s.savePage anew n = { s with drawn := d, vault := { s.vault with pageKeys := k, pages := p } } := by
  unfold State.savePage
  dsimp only
  generalize (if anew = true then none else (s.vault.pageKeys.find? (fun p => p.page == n)).map PageKey.key) = held
  cases held <;> exact ⟨_, _, _, rfl⟩

theorem HoldsTable.savePage {anew n} (h : HoldsTable b s) : HoldsTable b (s.savePage anew n) := by
  obtain ⟨_, _, _, hu⟩ := savePage_says s anew n
  rw [hu]
  exact h

theorem HoldsTable.savePages {anew l} (h : HoldsTable b s) : HoldsTable b (s.savePages anew l) := h.foldl fun _ _ ht => ht.savePage

theorem HoldsTable.setWork {w} (h : HoldsTable b s) : HoldsTable b (s.setWork w) := by
  unfold State.setWork
  dsimp only
  exact .withWork (.ite h h.dropHandles)

theorem HoldsTable.writeImage (h : HoldsTable b s) : HoldsTable b s.writeImage := by
  rcases hkey : s.vault.vaultKey with _ | k
  · have hnone : s.writeImage = s := if_pos (by simp [hkey])
    rw [hnone]
    exact h
  · obtain ⟨⟨_, _, _, _, _, _, _, hu⟩, -⟩ := writeImage_says hkey
    rw [hu]
    exact h

/-! Preparation. -/

theorem prepareEpoch_of_durable {g : Nat} {p : PrepEpoch} (hp : s.vault.prepared.find? (fun e => e.group == g) = some p) (hdurable : s.vault.wraps.any (fun w => w.group == g && w.epoch == p.epoch && w.durable) = true)
    (planned : Nat) : s.prepareEpoch g planned = s := by
  unfold State.prepareEpoch
  rw [hp]
  exact if_pos hdurable

/-- A group without a prepared epoch has one generated under the next number (R246). -/
theorem prepareEpoch_adds {g : Nat} (planned : Nat) (hnone : s.vault.prepared.find? (fun e => e.group == g) = none) (hauth : s.vault.authority.isSome = true) (hentropy : s.entropyOk = true)
    (hroom : s.vault.epochs.length + s.vault.prepared.length < tableSize) (hpool : PoolServes s 1) :
    (s.prepareEpoch g planned).vault.prepared = s.vault.prepared ++ [{ group := g, epoch := s.nextEpoch g, key := s.drawBytes 32, planned := planned }] := by
  obtain ⟨a, ha⟩ := Option.isSome_iff_exists.mp hauth
  have hsave : ∀ (v : State) (n : Nat), (v.savePage false n).vault.prepared = v.vault.prepared := fun v n => by
    have h := (holdsTable_refl v).savePage (anew := false) (n := n)
    simp only [HoldsTable, tableView, Prod.mk.injEq] at h
    obtain ⟨-, -, hprepared, -⟩ := h
    exact hprepared
  have hwrap : ∀ (v : State) (n len : Nat), (v.programWrap g n len).vault.prepared = v.vault.prepared := fun v n len => by
    obtain ⟨_, h⟩ := ((crateWork_refl v).programWrap (g := g) (epoch := n) (len := len)).vault
    rw [h]
  unfold State.prepareEpoch
  dsimp only
  rw [hnone, ha]
  dsimp only
  rw [if_neg (by simp [hentropy, hroom])]
  obtain ⟨v, hv, d, hd⟩ := poolRun_of_serves (s := s.drewBytes (32 + 88 * a.escrowCount)) hpool 0xF002 0
    ((List.range a.escrowCount).map (fun i => wrapOps (a.escrow i) ((s.drewBytes (32 + 88 * i)).drawBytes 32) (((s.drewBytes (32 + 88 * i)).drewBytes 32).drawBytes 56))).flatten
  rw [hv]
  dsimp only
  rw [hsave, hwrap]
  dsimp only
  rw [hd]
  rfl

/-! The change at the hour. -/

/-- The hour reached, with nothing opened yet. -/
def HourReached (s : State) (p : PrepEpoch) (w : Wrap) (u : State) : Prop :=
  u.vault.prepared = [p] ∧ u.vault.epochs = [] ∧ u.vault.wraps = [w] ∧ u.vault.lastHour = s.nextHour ∧ u.vault.unopened = [] ∧ u.tabs = s.tabs ∧ u.ledger.current = s.ledger.current

/-- The hour reached, with the prepared epoch current. -/
def EpochTurned (s : State) (p : PrepEpoch) (w : Wrap) (u : State) : Prop :=
  u.vault.prepared = [] ∧ u.vault.epochs = [{ s.prepRow p with firstTick := s.ledger.current }] ∧ u.vault.wraps = [w] ∧ u.vault.lastHour = s.nextHour ∧ u.vault.unopened = [] ∧ u.tabs = s.tabs

/-- A group without a durable prepared epoch is noted as late. -/
theorem changeEpoch_late {g : Nat} (hopen : t.vault.unopened = []) (hnone : ∀ e ∈ t.vault.prepared, e.group ≠ g) : HoldsTable t (t.changeEpoch g) := by
  have hany : t.vault.prepared.any (fun e => e.group == g && decide (e.planned ≤ t.vault.lastHour) && t.vault.wraps.any (fun w => w.group == g && w.epoch == e.epoch && w.durable)) = false :=
    List.any_eq_false.mpr fun e he => by simp [hnone e he]
  have hlate : ∀ l, HoldsTable t { t with vault := { t.vault with late := l } } := fun _ => rfl
  unfold State.changeEpoch
  dsimp only
  rw [if_neg (by simp [hopen]), if_neg (by simp [hany])]
  exact (hlate _).logFault

variable {p : PrepEpoch} {w : Wrap}

theorem openEpoch_turns (hgroup : w.group = p.group) (hepoch : w.epoch = p.epoch) (hdurable : w.durable = true) (h : HourReached s p w t) : EpochTurned s p w (t.openEpoch p.group) := by
  obtain ⟨hprepared, hepochs, hwraps, hhour, hopen, htabs, hcurrent⟩ := h
  have hfind : t.vault.prepared.find? (fun e => e.group == p.group) = some p := by rw [hprepared]; simp
  have hwrap : t.vault.wraps.find? (fun x => x.group == p.group && x.epoch == p.epoch && x.durable) = some w := by rw [hwraps]; simp [hgroup, hepoch, hdurable]
  have hrow : t.prepRow p = s.prepRow p := by rw [State.prepRow, State.days, htabs]; rfl
  obtain ⟨v, hv⟩ : ∃ v : State, v = { t with vault := { t.vault with
      epochs := [{ s.prepRow p with firstTick := s.ledger.current }], prepared := [], unopened := [], late := t.vault.late.filter (· != p.group) } } := ⟨_, rfl⟩
  have hheld : HoldsTable v (t.openEpoch p.group) := by
    unfold State.openEpoch
    rw [hfind]
    dsimp only
    rw [hwrap]
    dsimp only
    rw [hepochs, hprepared, hopen, hrow, hcurrent]
    simp only [List.filter_cons, List.filter_nil, bne_self_eq_false, Bool.false_eq_true, if_false, List.map_nil, List.nil_append]
    rw [← hv]
    exact (holdsTable_refl v).setWork.savePages.addEvent
  simp only [HoldsTable, tableView, Prod.mk.injEq] at hheld
  obtain ⟨h1, h2, h3, h4, h5, h6, -⟩ := hheld
  rw [hv] at h1 h2 h3 h4 h5 h6
  exact ⟨h3, h2, h4.trans hwraps, h5.trans hhour, h6, h1.trans htabs⟩

theorem changeEpoch_turns (hgroup : w.group = p.group) (hepoch : w.epoch = p.epoch) (hdurable : w.durable = true) (hplanned : p.planned ≤ s.nextHour) (h : HourReached s p w t) : EpochTurned s p w (t.changeEpoch p.group) := by
  have hopens : t.changeEpoch p.group = t.openEpoch p.group := by
    obtain ⟨hprepared, -, hwraps, hhour, hopen, -, -⟩ := h
    unfold State.changeEpoch
    rw [hopen, hprepared, hwraps, hhour, if_neg (by simp), if_pos (by simp [hplanned, hgroup, hepoch, hdurable])]
  rw [hopens]
  exact openEpoch_turns hgroup hepoch hdurable h

theorem EpochTurned.holds (h : EpochTurned s p w t) (hu : HoldsTable t u) : EpochTurned s p w u := by
  simp only [HoldsTable, tableView, Prod.mk.injEq] at hu
  obtain ⟨h1, h2, h3, h4, h5, h6, -⟩ := hu
  obtain ⟨k1, k2, k3, k4, k5, k6⟩ := h
  exact ⟨h3.trans k1, h2.trans k2, h4.trans k3, h5.trans k4, h6.trans k5, h1.trans k6⟩

theorem HourReached.holds (h : HourReached s p w t) (hu : HoldsTable t u) : HourReached s p w u := by
  simp only [HoldsTable, tableView, Prod.mk.injEq] at hu
  obtain ⟨h1, h2, h3, h4, h5, h6, h7⟩ := hu
  obtain ⟨k1, k2, k3, k4, k5, k6, k7⟩ := h
  exact ⟨h3.trans k1, h2.trans k2, h4.trans k3, h5.trans k4, h6.trans k5, h1.trans k6, h7.trans k7⟩

theorem changeEpochs_keep (l : List Nat) (h : EpochTurned s p w t) : EpochTurned s p w (l.foldl State.changeEpoch t) :=
  List.foldlRecOn l State.changeEpoch (motive := EpochTurned s p w) h fun u hu g _ => by
    obtain ⟨hprepared, -, -, -, hopen, -⟩ := id hu
    exact hu.holds (changeEpoch_late hopen (by rw [hprepared]; exact fun _ h => absurd h List.not_mem_nil))

theorem changeEpochs_turn (hgroup : w.group = p.group) (hepoch : w.epoch = p.epoch) (hdurable : w.durable = true) (hplanned : p.planned ≤ s.nextHour) {l : List Nat} (hmem : p.group ∈ l) (h : HourReached s p w t) :
    EpochTurned s p w (l.foldl State.changeEpoch t) := by
  induction l generalizing t with
  | nil => exact absurd hmem List.not_mem_nil
  | cons g l ih =>
    rw [List.foldl_cons]
    by_cases hg : g = p.group
    · rw [hg]
      exact changeEpochs_keep l (changeEpoch_turns hgroup hepoch hdurable hplanned h)
    · obtain ⟨hprepared, -, -, -, hopen, -, -⟩ := id h
      refine ih ((List.mem_cons.mp hmem).resolve_left (Ne.symm hg)) (h.holds (changeEpoch_late hopen ?_))
      rw [hprepared]
      intro e he
      rw [List.mem_singleton.mp he]
      exact Ne.symm hg

/-! Destroyed keys. -/

theorem addEvents_of_open {α : Type} (type : Nat) (body : α → Bytes) (l : List α) (hopen : s.tickOpen = true) :
    (l.foldl (fun s a => s.addEvent type (body a)) s).ledger.events = s.ledger.events ++ l.map (fun a => { type := type, body := body a }) := by
  induction l generalizing s with
  | nil => simp
  | cons a l ih =>
    have hnext : (s.addEvent type (body a)).tickOpen = true := by
      rw [State.addEvent, if_pos hopen]
      exact hopen
    rw [List.foldl_cons, ih hnext, Laws.addEvent_events, if_pos hopen, List.map_cons, List.append_assoc]
    rfl

theorem shred_records (s : State) : s.shred.vault.shredding = [] ∧ s.shred.vault.epochs = s.vault.epochs ∧ s.shred.tabs = s.tabs ∧
    (s.tickOpen = true → s.shred.ledger.events = s.ledger.events ++ s.vault.shredding.map (fun p => { type := 0xB, body := leBytes 1 p.1 ++ zeros 3 ++ leBytes 4 p.2 })) := by
  obtain ⟨⟨_, _, _, _, _, _, _, hsays⟩, -⟩ := shred_says s
  refine ⟨?_, by rw [hsays], by rw [hsays], fun hopen => ?_⟩
  · unfold State.shred
    split
    · assumption
    · rfl
  · unfold State.shred
    split
    · next hnone =>
      rw [hnone]
      exact (List.append_nil _).symm
    · exact addEvents_of_open (s := s.eraseOld) 0xB (fun p : Nat × Nat => leBytes 1 p.1 ++ zeros 3 ++ leBytes 4 p.2) s.vault.shredding hopen

theorem reach_says (s : State) (n : Nat) : ∃ r, s.reach n = { s with ledger := { s.ledger with rtc := r } } := ⟨_, rfl⟩

theorem nextEpoch_withRtc (s : State) (r : BitVec 48) (g : Nat) : ({ s with ledger := { s.ledger with rtc := r } } : State).nextEpoch g = s.nextEpoch g := rfl

theorem epochPreparation_of_durable {g : Fin 64} (hopen : s.vaultOpen = true) (hunopened : g.val ∉ s.vault.unopened) (hlate : g.val ∉ s.vault.late)
    (hp : s.vault.prepared.find? (fun e => e.group == g.val) = some p) (hdurable : s.vault.wraps.any (fun w => w.group == g.val && w.epoch == p.epoch && w.durable) = true) :
    exec (.epochPreparation g) s = .next (s.reach (s.nextHour - minute)) := by
  obtain ⟨r, hr⟩ := reach_says s (s.nextHour - minute)
  have hnotdue : (s.vault.unopened.contains g.val || s.vault.late.contains g.val) = false := by simp [hunopened, hlate]
  have hprep : ({ s with ledger := { s.ledger with rtc := r } } : State).prepareEpoch g.val s.nextHour = { s with ledger := { s.ledger with rtc := r } } :=
    prepareEpoch_of_durable (s := { s with ledger := { s.ledger with rtc := r } }) hp hdurable _
  refine congrArg Host.Outcome.next (?_ : s.prepareNext g.val = _)
  unfold State.prepareNext
  dsimp only
  rw [hopen, hnotdue, hr, hprep]
  exact if_pos rfl

theorem epochPreparation_adds {g : Fin 64} (hopen : s.vaultOpen = true) (hunopened : g.val ∉ s.vault.unopened) (hlate : g.val ∉ s.vault.late) (hnone : s.vault.prepared.find? (fun e => e.group == g.val) = none)
    (hauth : s.vault.authority.isSome = true) (hentropy : s.entropyOk = true) (hroom : s.vault.epochs.length + s.vault.prepared.length < tableSize) (hpool : PoolServes s 1) :
    ∃ u p, exec (.epochPreparation g) s = .next u ∧ u.vault.prepared = s.vault.prepared ++ [p] ∧ p.group = g.val ∧ p.epoch = s.nextEpoch g.val ∧ p.planned = s.nextHour ∧ p.key = s.drawBytes 32 := by
  obtain ⟨r, hr⟩ := reach_says s (s.nextHour - minute)
  have hnotdue : (s.vault.unopened.contains g.val || s.vault.late.contains g.val) = false := by simp [hunopened, hlate]
  obtain ⟨v, hv⟩ : ∃ v, v = ({ s with ledger := { s.ledger with rtc := r } } : State).prepareEpoch g.val s.nextHour := ⟨_, rfl⟩
  have hadds : v.vault.prepared = s.vault.prepared ++ [{ group := g.val, epoch := s.nextEpoch g.val, key := s.drawBytes 32, planned := s.nextHour }] := by
    rw [hv]
    exact prepareEpoch_adds (s := { s with ledger := { s.ledger with rtc := r } }) s.nextHour hnone hauth hentropy hroom hpool
  have hgo : exec (.epochPreparation g) s = .next v.writeImage := by
    refine congrArg Host.Outcome.next (?_ : s.prepareNext g.val = _)
    unfold State.prepareNext
    dsimp only
    rw [hopen, hnotdue, hr, ← hv]
    refine (if_neg ?_ : (if v.vault.prepared = s.vault.prepared then v else v.writeImage) = _)
    rw [hadds]
    simp
  have himage := (holdsTable_refl v).writeImage
  simp only [HoldsTable, tableView, Prod.mk.injEq] at himage
  obtain ⟨-, -, hprepared, -⟩ := himage
  exact ⟨_, _, hgo, hprepared.trans hadds, rfl, rfl, rfl, rfl⟩

theorem epochChange_turns (hopen : s.vaultOpen = true) (hbetween : s.ledger.running = false ∨ s.ledger.nextBoundary ≠ s.nextHour) (hunopened : s.vault.unopened = []) (hprepared : s.vault.prepared = [p])
    (hgroup : p.group < 64) (hplanned : p.planned ≤ s.nextHour) (hwraps : s.vault.wraps = [w]) (hwgroup : w.group = p.group) (hwepoch : w.epoch = p.epoch) (hdurable : w.durable = true) (hepochs : s.vault.epochs = []) :
    ∃ u, exec .epochChange s = .next u ∧ u.vault.prepared = [] ∧ u.vault.epochs = [{ s.prepRow p with firstTick := s.ledger.current }] ∧ u.vault.wraps = [w] ∧ u.vault.lastHour = s.nextHour ∧ u.tabs = s.tabs := by
  obtain ⟨r, hr⟩ := reach_says s s.nextHour
  obtain ⟨h, hh⟩ : ∃ h, h = s.nextHour := ⟨_, rfl⟩
  obtain ⟨v, hv⟩ : ∃ v : State, v = { s with ledger := { s.ledger with rtc := r }, vault := { s.vault with lastHour := h } } := ⟨_, rfl⟩
  have hgo : exec .epochChange s = .next ((List.range 64).foldl State.changeEpoch v).writeImage := by
    refine congrArg Host.Outcome.next ((if_pos hopen).trans ?_)
    unfold State.hourChange
    dsimp only
    rw [if_neg (by rcases hbetween with h | h <;> simp [h]), hr, hv, hh]
  have hreached : HourReached s p w v := by
    rw [hv]
    exact ⟨hprepared, hepochs, hwraps, hh, hunopened, rfl, rfl⟩
  obtain ⟨h1, h2, h3, h4, -, h5⟩ := (changeEpochs_turn hwgroup hwepoch hdurable hplanned (List.mem_range.mpr hgroup) hreached).holds (holdsTable_refl _).writeImage
  exact ⟨_, hgo, h1, h2, h3, h4, h5⟩

theorem drbgReseed_fails (h : s.vault.entropyFails < 2) : exec (.drbgReseed false) s = .next { s with vault := { s.vault with entropyFails := s.vault.entropyFails + 1 } } := by
  refine congrArg Host.Outcome.next (?_ : s.reseedDrbg false = _)
  unfold State.reseedDrbg
  dsimp only
  rw [if_neg Bool.false_ne_true, if_neg (by omega)]

theorem grinderReseed_fails {r : Fin 64} (hwf : s.crypto.rows.wf noRow = true) (hthird : ¬ 3 ∣ (s.rowEng r.val).grinderFails + 1) : ∃ u, exec (.grinderReseed r false) s = .next u ∧
    u.rowEng r.val = { s.rowEng r.val with grinderFails := (s.rowEng r.val).grinderFails + 1, grinderOk := false } ∧ u.fault.lastClass = 0x16 := by
  obtain ⟨v, hv⟩ : ∃ v : State, v = s.setRowEng r.val { s.rowEng r.val with grinderFails := (s.rowEng r.val).grinderFails + 1, grinderOk := false } := ⟨_, rfl⟩
  have hgo : exec (.grinderReseed r false) s = .next (v.logFault { cls := 0x16, unit := cipherAddr r.val, detail := (s.rowEng r.val).grinderFails + 1 }) := by
    refine congrArg Host.Outcome.next (?_ : s.reseedGrinder r.val false = _)
    unfold State.reseedGrinder
    dsimp only
    rw [if_neg Bool.false_ne_true, ← hv, if_neg fun h => hthird (Nat.dvd_of_mod_eq_zero h.1)]
  refine ⟨_, hgo, ?_, logFault_lastClass _ _⟩
  rw [State.rowEng, Laws.logFault_crypto, hv]
  exact (get_set hwf r.val r.val _).trans (if_pos rfl)

theorem poolReseed_fails (hthird : ¬ 3 ∣ s.crypto.pke.fails + 1) : ∃ u, exec (.poolReseed false) s = .next u ∧ u.crypto.pke.fails = s.crypto.pke.fails + 1 ∧ u.fault.lastClass = 0x16 := by
  obtain ⟨v, hv⟩ : ∃ v : State, v = { s with crypto := { s.crypto with pke := { s.crypto.pke with fails := s.crypto.pke.fails + 1 } } } := ⟨_, rfl⟩
  have hgo : exec (.poolReseed false) s = .next (v.logFault { cls := 0x16, unit := 0x6000, detail := s.crypto.pke.fails + 1 }) := by
    refine congrArg Host.Outcome.next (?_ : s.reseedPool false = _)
    unfold State.reseedPool
    dsimp only
    rw [if_neg Bool.false_ne_true, ← hv, if_neg fun h => hthird (Nat.dvd_of_mod_eq_zero h)]
  refine ⟨_, hgo, ?_, logFault_lastClass _ _⟩
  rw [Laws.logFault_crypto, hv]

/-- Settles O37: preparation and change by the key table, the reseeds by whether the health test passed. -/
theorem epochsTurn : Obligations.EpochsTurn := by
  unfold Obligations.EpochsTurn
  intro s
  refine ⟨fun g hopen hunopened hlate => ⟨fun p hp hdurable => epochPreparation_of_durable hopen hunopened hlate hp hdurable, fun hnone hauth hentropy hroom hpool => epochPreparation_adds hopen hunopened hlate hnone hauth hentropy hroom hpool⟩,
    fun hclosed => ⟨fun g => congrArg Host.Outcome.next (if_pos (by simp [hclosed])), congrArg Host.Outcome.next (if_neg (by simp [hclosed]))⟩,
    fun p w hopen hbetween hunopened hprepared hgroup hplanned hwraps hwgroup hwepoch hdurable hepochs => epochChange_turns hopen hbetween hunopened hprepared hgroup hplanned hwraps hwgroup hwepoch hdurable hepochs,
    ⟨s.shred, rfl, shred_records s⟩, rfl, drbgReseed_fails, fun r => ⟨s.seedGrinder r.val, rfl, rfl⟩, fun r hwf hthird => grinderReseed_fails hwf hthird, rfl, poolReseed_fails⟩

end Sys2Proof.Proofs
end


section
/-! SUPPORT. Life-cycle requests, LOCKDOWN releases and debug passes (R379 to R381, R385, R402, R403). -/

namespace Sys2Proof.Proofs

open Sys2Proof Sys2Proof.Machine Sys2Proof.Safety

variable {s : State} {a : TkArg} {o : ObjRead} {t : Tk} {b : Bytes}

/-- A request of the kind that its command names is answered by the checks once the pool has verified its signatures (R380). -/
theorem lifeRequest_answers (hcarries : Carries s t o b) (hpool : PoolServes s t.cls) (hadm : Admitted s a 0x41 t) {k : Nat} (hkind : reqForm b = true → reqKind b = k) (f : State → Tk → Bytes → State) :
    ∃ v, OnlyCrypto s v ∧ s.lifeRequest a o k f = if (s.reqCheck b).2 = 0 then (if s.eventFits 56 then f v t b else v.finishWith t 0x12 a.us)
      else ({ v with guard := { s.guard with lastRefusal := (s.reqCheck b).1 } } : State).finishWith t (s.reqCheck b).2 a.us := by
  have hthis : (reqForm b && reqKind b != k) = false := by
    rcases hform : reqForm b with _ | _
    · rfl
    · simp [hkind hform]
  obtain ⟨v, ⟨d, hd⟩, hv⟩ := verifyOn_of_serves hpool (reqObjects b (s.reqCheck b).1) (fun v => if (s.reqCheck b).2 ≠ 0 then v.refuse t a (s.reqCheck b) else if !v.eventFits 56 then v.finishWith t 0x12 a.us else f v t b)
  have hfits : v.eventFits 56 = s.eventFits 56 := by rw [hd]; rfl
  refine ⟨v, PoolDone.onlyCrypto ⟨d, hd⟩, ?_⟩
  unfold State.lifeRequest
  rw [withTk_of_admitted hadm, withObj_of_carries hcarries]
  dsimp only
  rw [hthis, if_neg Bool.false_ne_true, hv, hfits]
  by_cases hok : (s.reqCheck b).2 = 0
  · rw [if_neg (not_not.mpr hok), if_pos hok]
    cases s.eventFits 56 <;> rfl
  · rw [if_pos hok, if_neg hok, State.refuse, hd]

theorem lockdownRelease_answers (hcarries : Carries s t o b) (hpool : PoolServes s t.cls) (hadm : Admitted s a 0x40 t) :
    ∃ v, OnlyCrypto s v ∧ exec (.lockdownRelease a o) s = .next (if (s.releaseCheck b).2 = 0 then (v.releaseLockdown t.id b).finishWith t 0 a.us
      else ({ v with power := { s.power with lockRefusal := (s.releaseCheck b).1 } } : State).finishWith t (s.releaseCheck b).2 a.us) := by
  obtain ⟨v, ⟨d, hd⟩, hv⟩ := verifyOn_of_serves hpool
    ((if (s.releaseCheck b).1 = 0 ∨ 5 ≤ (s.releaseCheck b).1 then [(slice b 64 2048, b, 2112 + fld b 24 4)] else []) ++
      (if (s.releaseCheck b).1 = 0 ∨ 6 ≤ (s.releaseCheck b).1 then [(Authority.root { bytes := slice b 2112 (fld b 24 4) }, slice b 2112 (fld b 24 4), Authority.signedLen { bytes := slice b 2112 (fld b 24 4) })] else []))
    (fun v => if (s.releaseCheck b).2 ≠ 0 then { v with power := { v.power with lockRefusal := (s.releaseCheck b).1 } }.finishWith t (s.releaseCheck b).2 a.us else (v.releaseLockdown t.id b).finishWith t 0 a.us)
  refine ⟨v, PoolDone.onlyCrypto ⟨d, hd⟩, congrArg Host.Outcome.next ?_⟩
  rw [withTk_of_admitted hadm, withObj_of_carries hcarries]
  refine hv.trans ?_
  by_cases hok : (s.releaseCheck b).2 = 0
  · rw [if_neg (not_not.mpr hok), if_pos hok]
  · rw [if_pos hok, if_neg hok, hd]

theorem debugPass_answers (hcarries : Carries s t o b) (hpool : PoolServes s t.cls) (hadm : Admitted s a 0x42 t) :
    ∃ v, OnlyCrypto s v ∧ exec (.debugPass a o) s = .next (if (s.passCheck b).2 = 0 then (if s.eventFits 56 then v.takePass t b a.us else v.finishWith t 0x12 a.us)
      else ({ v with guard := { s.guard with lastRefusal := (s.passCheck b).1 } } : State).finishWith t (s.passCheck b).2 a.us) := by
  obtain ⟨v, ⟨d, hd⟩, hv⟩ := verifyOn_of_serves hpool (if (s.passCheck b).1 = 0 ∨ 7 ≤ (s.passCheck b).1 then [(slice b 48 2048, b, 2096)] else [])
    (fun v => if (s.passCheck b).2 ≠ 0 then v.refuse t a (s.passCheck b) else if !v.eventFits 56 then v.finishWith t 0x12 a.us else v.takePass t b a.us)
  have hfits : v.eventFits 56 = s.eventFits 56 := by rw [hd]; rfl
  refine ⟨v, PoolDone.onlyCrypto ⟨d, hd⟩, congrArg Host.Outcome.next ?_⟩
  rw [withTk_of_admitted hadm, withObj_of_carries hcarries]
  dsimp only
  rw [hv, hfits]
  by_cases hok : (s.passCheck b).2 = 0
  · rw [if_neg (not_not.mpr hok), if_pos hok]
    cases s.eventFits 56 <;> rfl
  · rw [if_pos hok, if_neg hok, State.refuse, hd]

/-- A well-formed request whose nonce is not the device's fails check 5 (R380, R388). -/
theorem reqCheck_of_other_nonce (hform : reqForm b = true) (hunit : slice b 8 16 = s.unitId) (hfrom : reqFrom b = s.lifeCount) (htarget : reqTarget (reqKind b) s.lifeCount = some (reqTo b))
    (hnone : s.guard.transition = none) (hcons : s.guard.otp.consistent = true) (hnonce : slice b 24 16 ≠ s.guard.nonce) : s.reqCheck b = (5, 0x13) := by
  have hbusy : (s.guard.transition.isSome || !s.guard.otp.consistent) = false := by simp [hnone, hcons]
  have hother : s.nonceFits (slice b 24 16) = false := by simp [State.nonceFits, hnonce]
  unfold State.reqCheck
  dsimp only
  rw [if_neg (by simp [hform]), if_neg (not_not.mpr hunit), if_neg (by simp [hfrom, htarget]), hbusy, if_neg Bool.false_ne_true, hother]
  rfl

theorem beginTransition_says (s : State) (t : Tk) (b : Bytes) : (s.beginTransition t b).guard.nonce = [] ∧ (s.beginTransition t b).guard.request0 = some b ∧ (s.beginTransition t b).guard.request1 = some b ∧
    (s.beginTransition t b).guard.otp = s.guard.otp ∧ ∃ tr, (s.beginTransition t b).guard.transition = some tr ∧ tr.phase = 1 ∧ tr.target = reqTo b := by
  rw [State.beginTransition, Laws.addEvent_guard]
  exact ⟨rfl, rfl, rfl, rfl, _, rfl, rfl, rfl⟩

/-- Settles O38: each object by its checks. -/
theorem requestsAnswered : Obligations.RequestsAnswered := by
  unfold Obligations.RequestsAnswered
  intro s a o t b hcarries hpool
  refine ⟨fun c k f stuck hmem hadm hkind => ?_, lockdownRelease_answers hcarries hpool, debugPass_answers hcarries hpool, reqCheck_of_other_nonce, beginTransition_says s t b⟩
  obtain ⟨v, hv, hgo⟩ := lifeRequest_answers hcarries hpool hadm hkind f
  refine ⟨v, hv, ?_⟩
  rw [← hgo]
  simp only [List.mem_cons, Prod.mk.injEq, List.not_mem_nil, or_false] at hmem
  obtain ⟨rfl, rfl, rfl⟩ | ⟨rfl, rfl, rfl⟩ | ⟨rfl, rfl, rfl⟩ | ⟨rfl, rfl, rfl⟩ | ⟨rfl, rfl, rfl⟩ | ⟨rfl, rfl, rfl⟩ := hmem
  · rfl
  · rfl
  · rfl
  · rfl
  · rfl
  · obtain ⟨⟨hwarn, -⟩, -⟩ := hpool
    exact congrArg Host.Outcome.next (if_neg (by simp [hwarn]))

end Sys2Proof.Proofs
end


section
/-! SUPPORT. LOAD_TEMPLATE and LOAD_APPLET (R105 to R107, R187 to R189, R227). -/

namespace Sys2Proof.Proofs

open Sys2Proof Sys2Proof.Machine Sys2Proof.Safety

variable {s u : State} {a : TkArg} {o : ObjRead} {t : Tk} {b : Bytes}

/-- An event that fits is added once the ticket has its receipt. -/
theorem withEvent_says {type : Nat} {body : Bytes} (h : s.eventFits body.length = true) (v : State) (rc : Receipt) (us : Nat) (hledger : v.tickOpen = s.tickOpen) :
    s.withEvent t a type body (fun _ => v.finish t rc us) = (v.finish t rc us).addEvent type body ∧ ((v.finish t rc us).addEvent type body).tabs = v.tabs ∧
      (s.tickOpen = true → ((v.finish t rc us).addEvent type body).ledger.events = v.ledger.events ++ [{ type := type, body := body }]) := by
  have hposts := (posts_refl v).finish (x := t) (rc := rc) (us := us)
  refine ⟨withEvent_of_fits h _, ?_, fun hopen => ?_⟩
  · rw [Laws.addEvent_tabs, hposts.tabs]
  · rw [Laws.addEvent_events, hposts.ledger, hposts.tickOpen, hledger, if_pos hopen]

/-! Templates. -/

theorem validateKeys_of_free {p : Template} (h : p.keys.all (fun k => k.alg == 4) = true ∨ (s.checkStall.isSome = true ∧ PoolServes s t.cls)) (f : State → State) :
    ∃ v, PoolDone s v ∧ s.validateKeys t p f = f v := by
  unfold State.validateKeys
  dsimp only
  split
  · exact ⟨s, ⟨_, rfl⟩, rfl⟩
  · next hall =>
    obtain ⟨hstall, hpool⟩ := h.resolve_left hall
    obtain ⟨unit, hunit⟩ := Option.isSome_iff_exists.mp hstall
    obtain ⟨v, hv, hdone⟩ := poolRun_of_serves hpool unit t.id (p.keys.flatMap (fun k => k.check unit))
    refine ⟨v, hdone, ?_⟩
    rw [hunit, Option.bind_some, hv]

/-- The image written with a new retention period adds what it shreds to the open tick. -/
theorem writeImage_events (s : State) (hopen : s.tickOpen = true) : ∃ l, s.writeImage.ledger.events = s.ledger.events ++ l := by
  obtain ⟨-, -, -, hshred⟩ := shred_records s
  unfold State.writeImage
  split
  · exact ⟨[], (List.append_nil _).symm⟩
  · next hkey =>
    refine ⟨_, Eq.trans ?_ (hshred hopen)⟩
    unfold State.programImage
    split
    · next hnone => exact absurd (by rw [hnone]; rfl) hkey
    · rfl

/-- The template table with a template in it, before the tabs follow (R107). -/
def templated (s : State) (n : Nat) (p : Template) (days : Nat) : State :=
  let v := { s with tabs := { s.tabs with templates := s.tabs.templates.ins n p, days := if days = 0 then s.tabs.days else s.tabs.days.set days30 p.group days } }
  if v.tabs.days = s.tabs.days then v else v.writeImage

theorem templated_says (s : State) (n : Nat) (p : Template) (days : Nat) : (templated s n p days).tabs.templates = s.tabs.templates.ins n p ∧ (templated s n p days).tabs.entries = s.tabs.entries ∧
    (templated s n p days).tabs.holds = s.tabs.holds ∧ (templated s n p days).tickOpen = s.tickOpen ∧ (s.tickOpen = true → ∃ l, (templated s n p days).ledger.events = s.ledger.events ++ l) := by
  unfold templated
  dsimp only
  generalize (if days = 0 then s.tabs.days else s.tabs.days.set days30 p.group days) = d
  split
  · exact ⟨rfl, rfl, rfl, rfl, fun _ => ⟨[], (List.append_nil _).symm⟩⟩
  · obtain ⟨v, hv⟩ : ∃ v : State, v = { s with tabs := { s.tabs with templates := s.tabs.templates.ins n p, days := d } } := ⟨_, rfl⟩
    rw [← hv]
    have hsame : v.writeImage.tabs = v.tabs ∧ v.writeImage.tickOpen = v.tickOpen := by
      rcases hkey : v.vault.vaultKey with _ | k
      · have hnone : v.writeImage = v := if_pos (by simp [hkey])
        rw [hnone]
        exact ⟨rfl, rfl⟩
      · obtain ⟨⟨_, _, _, _, _, _, _, hu⟩, -⟩ := writeImage_says hkey
        rw [hu]
        exact ⟨rfl, rfl⟩
    obtain ⟨htabs, hopen⟩ := hsame
    rw [htabs, hopen]
    have hevents := writeImage_events v
    rw [hv] at hevents ⊢
    exact ⟨rfl, rfl, rfl, rfl, fun h => hevents h⟩

theorem loadTemplate_of_malformed (hcarries : Carries s t o b) (hadm : Admitted s a 0x31 t) (hnone : templateOf b = none) : s.loadTemplate a o = s.finishWith t 0x10 a.us := by
  unfold State.loadTemplate
  rw [withTk_of_admitted hadm, withObj_of_carries hcarries]
  dsimp only
  rw [hnone]

variable {p : Template} {days : Nat}

/-- A template that passes its checks is stored once its keys have been validated (R106, R107, R227). -/
theorem loadTemplate_of_checked (hcarries : Carries s t o b) (hadm : Admitted s a 0x31 t) (hrecord : templateOf b = some (p, days)) (hkeys : p.keys.all CamKey.valid = true) (hfits : s.appletFits p = true)
    (hfree : p.keys.all (fun k => k.alg == 4) = true ∨ (s.checkStall.isSome = true ∧ PoolServes s t.cls))
    (hroom : s.tabs.keyCount - (s.tabs.templates.get noTempl (t.tk.op 48 2)).keys.length + p.keys.length ≤ 131072) (hevent : s.eventFits 56 = true) :
    ∃ v, PoolDone s v ∧ s.loadTemplate a o = ((((templated v (t.tk.op 48 2) p days).retemplate (t.tk.op 48 2)).templateStored (t.tk.op 48 2) p).finish t { t.receipt 0 with result := t.tk.op 48 2 } a.us).addEvent 8
      (leBytes 2 (t.tk.op 48 2) ++ zeros 6 ++ sha384 b) := by
  have hbody : (leBytes 2 (t.tk.op 48 2) ++ zeros 6 ++ sha384 b).length = 56 := by simp [Laws.leBytes_length, Laws.zeros_length, Laws.sha384_length]
  unfold State.loadTemplate
  rw [withTk_of_admitted hadm, withObj_of_carries hcarries]
  dsimp only
  rw [hrecord]
  dsimp only
  obtain ⟨v, ⟨d, hd⟩, hv⟩ := validateKeys_of_free hfree (fun v => if !p.keys.all CamKey.valid then v.finishWith t 0x10 a.us
      else if !v.appletFits p then v.finishWith t 0x13 a.us
      else if 131072 < v.tabs.keyCount - (v.tabs.templates.get noTempl (t.tk.op 48 2)).keys.length + p.keys.length then v.finishWith t 0x12 a.us
      else v.withEvent t a 8 (leBytes 2 (t.tk.op 48 2) ++ zeros 6 ++ sha384 b) (fun v =>
        (((templated v (t.tk.op 48 2) p days).retemplate (t.tk.op 48 2)).templateStored (t.tk.op 48 2) p).finish t { t.receipt 0 with result := t.tk.op 48 2 } a.us))
  refine ⟨v, ⟨d, hd⟩, hv.trans ?_⟩
  have hfits' : v.appletFits p = true := hd ▸ hfits
  have hroom' : ¬ 131072 < v.tabs.keyCount - (v.tabs.templates.get noTempl (t.tk.op 48 2)).keys.length + p.keys.length := by
    rw [hd]
    exact Nat.not_lt.mpr hroom
  have hevent' : v.eventFits (leBytes 2 (t.tk.op 48 2) ++ zeros 6 ++ sha384 b).length = true := by
    rw [hbody, hd]
    exact hevent
  rw [hkeys, hfits', if_neg (by decide), if_neg (by decide), if_neg hroom']
  exact withEvent_of_fits hevent' _

/-! Applets. -/

/-- What follows the check of an image (R188, R189). -/
def answerImage (s : State) (t : Tk) (a : TkArg) (b : Bytes) (e : Except (Nat × Nat) Applet) : State :=
  match e with
  | .error (st, r) => s.finish t { t.receipt st with result := r } a.us
  | .ok ap =>
    if (s.tabs.templates.filter (fun p => p.2.applet == t.tk.op 48 2)).any (fun p => ap.search || decide (p.2.budgetSegment < ap.wSeg) || decide (p.2.budgetKib < ap.wKib)) then
      s.finish t { t.receipt 0x13 with result := sat 32 ap.wSeg } a.us
    else s.withEvent t a 9 (leBytes 2 (t.tk.op 48 2) ++ zeros 6 ++ sha384 b) (fun s =>
      (State.appletStored { s with tabs := { s.tabs with applets := s.tabs.applets.ins (t.tk.op 48 2) ap } } (t.tk.op 48 2) ap).finish t { t.receipt 0 with result := sat 32 ap.wSeg } a.us)

theorem loadApplet_runs (hcarries : Carries s t o b) (hadm : Admitted s a 0x30 t) {k : Authority} (hauth : t.auth = some k) {e : Except (Nat × Nat) Applet}
    (himage : imageOf b (t.tk.op 48 2) (s.unitMatches (slice b 16 16) && decide (fld b 32 1 = s.lifeCount)) (pairVerifyAt k.applet b (imageSigned b)) = e) (hpool : PoolServes s t.cls) :
    ∃ v, PoolDone s v ∧ s.loadApplet a o = answerImage v t a b e := by
  have hruns : ∃ objs, s.loadApplet a o = s.verifyOn t objs (fun v => answerImage v t a b e) := by
    unfold State.loadApplet
    rw [withTk_of_admitted hadm, withObj_of_carries hcarries]
    dsimp only
    rw [hauth]
    dsimp only
    rw [himage]
    exact ⟨_, rfl⟩
  obtain ⟨objs, hobjs⟩ := hruns
  obtain ⟨v, hdone, hv⟩ := verifyOn_of_serves hpool objs (fun v => answerImage v t a b e)
  exact ⟨v, hdone, hobjs.trans hv⟩

/-- An accepted image that no template uses is stored under its number, with its event. -/
theorem answerImage_of_ok (ap : Applet) (husers : ∀ p ∈ s.tabs.templates, p.2.applet ≠ t.tk.op 48 2) (hevent : s.eventFits 56 = true) :
    (answerImage s t a b (.ok ap)).tabs = { s.tabs with applets := s.tabs.applets.ins (t.tk.op 48 2) ap, imageDigests := (answerImage s t a b (.ok ap)).tabs.imageDigests } ∧
      (s.tickOpen = true → ∃ ev, (answerImage s t a b (.ok ap)).ledger.events = s.ledger.events ++ [ev] ∧ ev.type = 9) := by
  have hbody : (leBytes 2 (t.tk.op 48 2) ++ zeros 6 ++ sha384 b).length = 56 := by simp [Laws.leBytes_length, Laws.zeros_length, Laws.sha384_length]
  have hnone : s.tabs.templates.filter (fun p => p.2.applet == t.tk.op 48 2) = [] := List.filter_eq_nil_iff.mpr fun p hp => by simp [husers p hp]
  obtain ⟨hgo, htabs, hevents⟩ := withEvent_says (s := s) (t := t) (a := a) (type := 9) (body := leBytes 2 (t.tk.op 48 2) ++ zeros 6 ++ sha384 b) (by rw [hbody]; exact hevent)
    (State.appletStored { s with tabs := { s.tabs with applets := s.tabs.applets.ins (t.tk.op 48 2) ap } } (t.tk.op 48 2) ap) { t.receipt 0 with result := sat 32 ap.wSeg } a.us rfl
  have hstored : answerImage s t a b (.ok ap) = _ := (if_neg (by simp [hnone])).trans hgo
  rw [hstored]
  exact ⟨htabs.trans (by rw [htabs]; rfl), fun hopen => ⟨_, hevents hopen, rfl⟩⟩

/-- Settles O26: the records by their checks, the images by theirs. -/
theorem templatesAndAppletsLoad : Obligations.TemplatesAndAppletsLoad := by
  unfold Obligations.TemplatesAndAppletsLoad
  intro s a o t b hcarries
  refine ⟨fun hadm hnone => congrArg Host.Outcome.next (loadTemplate_of_malformed hcarries hadm hnone), fun p days hadm hrecord hkeys hfits hfree hroom hevent hsorted => ?_, fun e k hadm hauth himage hpool husers hevent => ?_⟩
  · obtain ⟨v, ⟨d, hd⟩, hgo⟩ := loadTemplate_of_checked hcarries hadm hrecord hkeys hfits hfree hroom hevent
    obtain ⟨htemplates, hentries, hholds, hopen, hevents⟩ := templated_says v (t.tk.op 48 2) p days
    generalize templated v (t.tk.op 48 2) p days = w at *
    have hposts := (posts_refl ((w.retemplate (t.tk.op 48 2)).templateStored (t.tk.op 48 2) p)).finish (x := t) (rc := { t.receipt 0 with result := t.tk.op 48 2 }) (us := a.us)
    refine ⟨_, congrArg Host.Outcome.next hgo, ?_⟩
    rw [Laws.addEvent_tabs, Laws.addEvent_events, hposts.tabs, hposts.ledger, hposts.tickOpen]
    have hget : ∀ k, (((w.retemplate (t.tk.op 48 2)).templateStored (t.tk.op 48 2) p).tabs.templates).get noTempl k = (s.tabs.templates.ins (t.tk.op 48 2) p).get noTempl k := fun k => by
      show w.tabs.templates.get noTempl k = _
      rw [htemplates, hd]
    refine ⟨(hget _).trans (Laws.get_ins_same ..), fun k hk => (hget k).trans (Laws.get_ins_other _ _ _ _ _ hk), ?_, ?_, fun hticks => ?_⟩
    · exact hentries.trans (by rw [hd])
    · exact hholds.trans (by rw [hd])
    · have hvticks : v.tickOpen = true := hd ▸ hticks
      obtain ⟨l, hl⟩ := hevents hvticks
      refine ⟨l, { type := 8, body := leBytes 2 (t.tk.op 48 2) ++ zeros 6 ++ sha384 b }, ?_, rfl⟩
      have hwopen : ((w.retemplate (t.tk.op 48 2)).templateStored (t.tk.op 48 2) p).tickOpen = true := hopen.trans hvticks
      rw [if_pos hwopen]
      show w.ledger.events ++ _ = _
      rw [hl, hd]
  · obtain ⟨v, hdone, hgo⟩ := loadApplet_runs hcarries hadm hauth himage hpool
    refine ⟨_, congrArg Host.Outcome.next hgo, ?_⟩
    rcases e with ⟨st, r⟩ | ap
    · exact ⟨v, hdone.onlyCrypto, rfl⟩
    · obtain ⟨d, rfl⟩ := hdone
      exact answerImage_of_ok (s := { s with crypto := _ }) ap husers hevent

end Sys2Proof.Proofs
end


section
/-! SUPPORT. The readouts: the destination that can be written, runs of items, and the search's end (R52, R146 to R149, R194, R249, R369). -/

namespace Sys2Proof.Proofs
open Sys2Proof Sys2Proof.Machine Sys2Proof.Safety

section
variable {s v w : State} {a : TkArg} {o : ObjRead} {t : Tk} {es : List Extent}

/-! The destination. -/

theorem aer_of_one_read (s : State) (p : Nat) {r : HostRead} (h : r ≠ .err) : s.aer p [r] = s := by
  have hnone : readErrors [r] = 0 := by simp [readErrors, h]
  have hport : ∀ q : Port, { q with aerLogged := q.aerLogged + readErrors [r] } = q := fun q => by
    rw [hnone]
    rfl
  unfold State.aer State.setPort
  rw [hport]
  unfold State.port
  split
  · rfl
  · rfl

/-- A destination that can be written is the one the readout gets, in a state whose host block is the same. -/
theorem withDest_of_delivers (hdest : Delivers s t o es) (hhost : v.host = s.host) (f : State → List Extent → State) : v.withDest t a o f = f v es := by
  obtain ⟨hext, hok, hbme, hd3⟩ := hdest
  have hport : v.port (v.ring t.ring).port.val = s.port (s.ring t.ring).port.val := by
    unfold State.port State.ring
    rw [hhost]
  unfold State.withDest
  dsimp only
  rw [hport, if_neg (by simp [hbme, hd3]), aer_of_one_read _ _ hok, hext]

/-! Runs of items (R58, R149, R249). -/

theorem proofRun_of_all {g : Nat → Option OutItem} {f : Nat → OutItem} : ∀ {l : List Nat}, (∀ n ∈ l, g n = some (f n)) → proofRun g l = (l.map f, false)
  | [], _ => rfl
  | n :: r, h => by
    rw [proofRun, h n (List.mem_cons_self ..)]
    dsimp only
    rw [proofRun_of_all (fun m hm => h m (List.mem_cons_of_mem _ hm))]
    rfl

theorem proofRun_shifted {g : Nat → Option OutItem} {f : Nat → OutItem} {first count : Nat} (h : ∀ i < count, g (first + i) = some (f i)) :
    proofRun g ((List.range count).map (fun i => first + i)) = ((List.range count).map f, false) := by
  have hall := proofRun_of_all (g := g) (f := fun n => f (n - first)) (l := (List.range count).map (fun i => first + i)) (by
    intro n hn
    obtain ⟨i, hi, rfl⟩ := List.mem_map.mp hn
    rw [h i (List.mem_range.mp hi), Nat.add_sub_cancel_left])
  rw [hall, List.map_map]
  simp [Function.comp_def]

theorem tickSpan_of_durable {first count : Nat} (h : first + count ≤ s.ledger.durableTick + 1) : s.tickSpan first count = ((List.range count).map (fun i => first + i), false) := by
  unfold State.tickSpan
  rw [Nat.min_eq_left (by omega)]
  have hend : ¬ s.ledger.durableTick < first + count - 1 := by omega
  simp [hend]

theorem keyRun_of_first {g : Nat → Option Bytes} {kind : Nat} : ∀ {k count n : Nat} {f : Nat → Bytes}, k ≤ count → (∀ i < k, g (n + i) = some (f i)) → (k < count → g (n + k) = none) →
    keyRun g kind n count = ((List.range k).map (fun i => keyItem kind (n + i) (f i)), decide (k < count))
  | 0, 0, _, _, _, _, _ => rfl
  | 0, count + 1, n, _, _, _, hend => by
    have hnone : g n = none := hend (Nat.succ_pos _)
    rw [keyRun, hnone]
    simp
  | k + 1, 0, _, _, hle, _, _ => absurd hle (Nat.not_succ_le_zero _)
  | k + 1, count + 1, n, f, hle, hall, hend => by
    have hfirst : g n = some (f 0) := hall 0 (Nat.succ_pos _)
    have hrest := keyRun_of_first (g := g) (kind := kind) (k := k) (count := count) (n := n + 1) (f := fun i => f (i + 1)) (by omega)
      (fun i hi => by rw [Nat.add_right_comm, Nat.add_assoc]; exact hall (i + 1) (by omega))
      (fun hlt => by rw [Nat.add_right_comm, Nat.add_assoc]; exact hend (by omega))
    rw [keyRun, hfirst]
    dsimp only
    rw [hrest, List.range_succ_eq_map]
    have hshift : ∀ i, n + 1 + i = n + (i + 1) := fun i => by omega
    simp [hshift, Function.comp_def]

theorem logItems_of_log {α : Type} {item : α → OutItem} {seq : α → Nat} (hseq : ∀ e, (item e).seq = seq e) {log l : List α} {first count : Nat}
    (hl : l = (log.filter (fun e => decide (first ≤ seq e))).take count) : logItems (log.map item) first count = (l.map item, decide (l.length < count)) := by
  have hkept : ((log.map item).filter (fun i => decide (first ≤ i.seq))).take count = l.map item := by
    rw [hl, List.filter_map, List.map_take]
    simp [Function.comp_def, hseq]
  unfold logItems
  dsimp only
  rw [hkept, List.length_map]

/-! The readouts of keys and logs. -/

theorem keyRead_of_delivers (hadm : Admitted s a 0x20 t) (hdest : Delivers s t o es) {kind : Nat} (htab : t.tk.tab = 0xFFFFFFFD) (hkind : t.tk.op 60 1 = kind)
    (f : State → Tk → List OutItem × Bool) : s.keyRead a o kind f = s.deliver t a es (f s t).1 { truncated := (f s t).2 } := by
  unfold State.keyRead
  rw [withTk_of_admitted hadm]
  dsimp only
  rw [if_pos ⟨htab, hkind⟩, withDest_of_delivers hdest rfl]

theorem logRead_of_delivers (hadm : Admitted s a 0x20 t) (hdest : Delivers s t o es) {tab : Nat} (htab : t.tk.tab = tab) (l : List OutItem) :
    s.logRead a o tab l = s.deliver t a es (logItems l (t.tk.op 48 8) (t.tk.op 56 4)).1 { truncated := (logItems l (t.tk.op 48 8) (t.tk.op 56 4)).2 } := by
  unfold State.logRead
  rw [withTk_of_admitted hadm]
  dsimp only
  rw [if_pos htab, withDest_of_delivers hdest rfl]

/-! The search (R194). -/

theorem useKey_onlyKeys (h : OnlyKeys s w) (g n : Nat) : OnlyKeys s (w.useKey g n) := by
  have hset : ∀ k, OnlyKeys s (w.setWork k) := by
    intro k
    unfold OnlyKeys at h ⊢
    rw [h]
    unfold State.setWork
    split
    · rfl
    · rfl
  unfold State.useKey
  split
  · exact hset _
  · split
    · exact hset _
    · exact h

theorem useEntryKey_onlyKeys (h : OnlyKeys s w) (e : Entry) : OnlyKeys s (w.useEntryKey e) := by
  unfold State.useEntryKey
  split
  · exact useKey_onlyKeys h _ _
  · exact h

theorem useEntryKeys_onlyKeys (h : OnlyKeys s w) (l : List Entry) : OnlyKeys s (l.foldl State.useEntryKey w) :=
  List.foldlRecOn l _ h (fun _ hw e _ => useEntryKey_onlyKeys hw e)

/-- The check of a copy changes nothing but what the DDR4 holds (R308). -/
theorem checkCopy_onlyKeys (s : State) (c : Copy) : OnlyKeys s (s.checkCopy c) := by
  unfold State.checkCopy
  split
  · rfl
  · split
    · rfl
    · cases c <;> rfl

theorem checkCopy_host (s : State) (c : Copy) : (s.checkCopy c).host = s.host := by
  have h := checkCopy_onlyKeys s c
  unfold OnlyKeys at h
  rw [h]

/-- What a search whose query and applet stand does at its destination. -/
theorem search_of_query (hadm : Admitted s a 0x22 t) (hdest : Delivers s t o es) {b : Bytes} {q : Query} {ap : Applet} {st : SState} (hq : queryOf (t.tk.op 56 4) b = some q)
    (hap : queryApplet (t.tk.op 60 2) t.applet q = some ap) (hv : v = s.checkCopy (.image (t.tk.op 60 2)))
    (hst : st = (v.searchSpan t.tab q).foldl (v.searchEntry (extentsLen es) (t.tk.op 60 2) ap q) {}) :
    s.search a o (.ok b) =
      if extentsLen es < 96 then v.finishWith t 0x12 a.us
      else if st.stop ≠ 0 then ((v.writeOut t es st.out).writeOut t es (zeros 4)).finish t { t.receipt st.stop with tab := st.lastTab, seq := st.lastSeq } a.us
      else ((((v.searchSpan t.tab q).filter (fun e => v.covered e.commitTick)).foldl State.useEntryKey v).writeOut t es (st.out ++ st.summary)).finish t
        { t.receipt 0 with tab := st.lastTab, seq := st.lastSeq, flags := 8 * b2n st.truncated, result := st.matches_ } a.us := by
  unfold State.search
  rw [withTk_of_admitted hadm]
  dsimp only
  rw [hq, Option.bind_some, hap, ← hv]
  dsimp only
  rw [withDest_of_delivers hdest (by rw [hv, checkCopy_host]), hst]

theorem flag_of_bool (b : Bool) : 8 * b2n b = if b then 8 else 0 := by cases b <;> rfl

end

/-- Settles O27: the destination of `Delivers` is the one the readout gets (`withDest_of_delivers`), and the runs of items over ticks, key records and log entries are the ones
the statement names. -/
theorem readoutsDeliver : Obligations.ReadoutsDeliver := by
  unfold Obligations.ReadoutsDeliver
  intro s a o t es hdest
  have hstep : ∀ {u v : State} {r : Host.Outcome State Fault Refusal}, r = .next u → u = v → r = .next v := fun hr hu => hu ▸ hr
  refine ⟨?_, ?_, ?_, ?_, ?_, ?_, ?_, ?_, ?_, ?_, ?_⟩
  · intro hadm htab h1 h7 hawait
    refine ⟨_, rfl, hstep (u := s.readSealed a o) rfl ?_⟩
    unfold State.readSealed
    rw [withTk_of_admitted hadm]
    dsimp only
    rw [if_pos ⟨htab, h1, h7⟩, if_neg (by simp [hawait]), withDest_of_delivers hdest rfl]
  · intro hadm htab hop
    refine hstep (u := s.tabStatus a o) rfl ?_
    unfold State.tabStatus
    rw [withTk_of_admitted hadm]
    rw [if_pos ⟨htab, hop⟩, withDest_of_delivers hdest rfl]
  · intro f hadm htab hop _ hdurable hitems
    refine hstep (u := s.absenceRead a o) rfl ?_
    unfold State.absenceRead
    rw [withTk_of_admitted hadm]
    dsimp only
    rw [if_pos ⟨htab, hop⟩, withDest_of_delivers hdest rfl, tickSpan_of_durable hdurable, proofRun_shifted hitems]
    rfl
  · intro f hadm htab _ hdurable hitems
    refine hstep (u := s.ledgerRead a o) rfl ?_
    unfold State.ledgerRead
    rw [withTk_of_admitted hadm]
    dsimp only
    rw [if_pos htab, withDest_of_delivers hdest rfl, tickSpan_of_durable hdurable, proofRun_shifted hitems]
    rfl
  · intro hadm hawait
    refine ⟨_, rfl, hstep (u := s.readClear a o) rfl ?_⟩
    unfold State.readClear
    rw [withTk_of_admitted hadm]
    dsimp only
    rw [if_neg (by simp [hawait]), withDest_of_delivers hdest rfl]
  · rintro q qr ⟨q', ap⟩ v st hadm rfl hq hap hv hst
    have hrun := search_of_query hadm hdest hq hap hv hst
    refine ⟨fun hsmall => ?_, fun hroom hstop => ?_, fun hroom hgoes => ?_⟩
    · exact hstep (u := s.search a o (.ok q)) rfl (hrun.trans (if_pos hsmall))
    · exact hstep (u := s.search a o (.ok q)) rfl (hrun.trans ((if_neg (by omega)).trans (if_pos hstop)))
    · refine ⟨_, useEntryKeys_onlyKeys (hv ▸ checkCopy_onlyKeys s _) ((v.searchSpan t.tab q').filter (fun e => v.covered e.commitTick)), hstep (u := s.search a o (.ok q)) rfl ?_⟩
      rw [hrun, if_neg (by omega), if_neg (not_not.mpr hgoes), flag_of_bool]
  · intro k f hadm htab hkind hle hall hend
    refine (congrArg Host.Outcome.next (keyRead_of_delivers hadm hdest htab hkind _)).trans ?_
    rw [keyRun_of_first hle hall hend]
  · intro k f hadm htab hkind hle hall hend
    refine (congrArg Host.Outcome.next (keyRead_of_delivers hadm hdest htab hkind _)).trans ?_
    rw [keyRun_of_first hle hall hend]
  · intro hadm htab hkind
    exact congrArg Host.Outcome.next (keyRead_of_delivers hadm hdest htab hkind _)
  · intro l hadm htab hl
    refine (congrArg Host.Outcome.next (logRead_of_delivers hadm hdest htab _)).trans ?_
    rw [logItems_of_log (fun _ => rfl) hl]
  · intro l hadm htab hl
    refine (congrArg Host.Outcome.next (logRead_of_delivers hadm hdest htab _)).trans ?_
    rw [logItems_of_log (fun _ => rfl) hl]

end Sys2Proof.Proofs
end


section
/-! SUPPORT. The fetch: the ring pair whose turn it is, one ticket taken or refused, and the ring table it leaves (R48, R64, R72, R77). -/

namespace Sys2Proof.Proofs
open Sys2Proof Sys2Proof.Machine Sys2Proof.Safety

section
variable {s u : State} {n : Nat}

/-! Whose turn it is (R71, R72). -/

theorem nextRing_mem {c : Nat} (h : s.nextRing c = some n) : s.fetchable n = true ∧ (s.ring n).cls.val = c := by
  have hmem : n ∈ (s.ringNos.filter (fun n => s.fetchable n && (s.ring n).cls.val == c)).mergeSort := by
    unfold State.nextRing at h
    dsimp only at h
    split at h
    · next hfind =>
      rw [← Option.some.inj h]
      exact List.mem_of_find?_eq_some hfind
    · exact List.mem_of_mem_head? h
  have hfilter := (List.mem_filter.mp (List.mem_mergeSort.mp hmem)).2
  simpa using hfilter

/-- What a ring pair that can be fetched from has (R35, R72). -/
theorem fetchable_says (h : s.fetchable n = true) :
    (s.ring n).state = .active ∧ 0 < (s.ring n).waiting ∧ 0 < (s.ring n).freeSlots ∧ s.portUp (s.ring n).port.val = true ∧ s.fetchPool.can (s.ring n).cls.val 1 = true := by
  unfold State.fetchable at h
  simp only [Bool.and_eq_true, beq_iff_eq, decide_eq_true_eq] at h
  obtain ⟨⟨⟨⟨⟨⟨⟨hact, hwait⟩, hslots⟩, hup⟩, hcan⟩, _⟩, _⟩, _⟩ := h
  exact ⟨hact, hwait, hslots, hup, hcan⟩

theorem fetchBurst_pos (h : s.nextRing 0 = some n) : 0 < s.fetchBurst n := by
  obtain ⟨hfetch, hcls⟩ := nextRing_mem h
  obtain ⟨_, hwait, hslots, _, hcan⟩ := fetchable_says hfetch
  have hfree : 1 ≤ s.fetchPool.free := by simpa [Pool.can, hcls] using hcan
  have hzero : (s.ring n).cls = 0 := Fin.ext hcls
  unfold State.fetchBurst
  simp only [hzero, if_pos]
  omega

/-- The state in which the turn of ring pair `n` of class 0 is noted (R71). -/
def State.turned (s : State) (n : Nat) : State := { s with classes := { s.classes with lastRing := s.classes.lastRing.set zeroOf 0 n } }

theorem fetch_of_turn (h : s.nextRing 0 = some n) (m us : Nat) (reads : List HostRead) :
    s.fetch m us reads = if n = m then (State.turned s n).fetchRun m (reads.take (s.fetchBurst m)) else s := by
  have hpick : s.pickClass 0 (fun c => (s.nextRing c).isSome) (fun _ => s.fetchBurst m) = some (0, s) := if_pos (by simp [h])
  unfold State.fetch
  rw [hpick]
  dsimp only
  rw [h]
  by_cases hnm : n = m
  · subst hnm
    rw [if_pos rfl, if_pos rfl]
    exact if_neg (by simp)
  · rw [if_neg hnm, if_neg (by simpa using hnm)]

theorem fetch_one (h : s.nextRing 0 = some n) (us : Nat) (r : HostRead) : s.fetch n us [r] = (State.turned s n).fetchRun n [r] := by
  obtain ⟨k, hk⟩ := Nat.exists_eq_succ_of_ne_zero (Nat.pos_iff_ne_zero.mp (fetchBurst_pos h))
  rw [fetch_of_turn h, if_pos rfl, hk, List.take_succ_cons, List.take_nil]

/-! The ring table. -/

theorem passBell_says (h : RingsCanonical s) (n k : Nat) : ∃ bells, s.passBell n k = s.setRing n { s.ring n with bells := bells } := by
  unfold State.passBell
  split
  · split
    · exact ⟨_, rfl⟩
    · exact ⟨(s.ring n).bells, (setRing_self h n).symm⟩
  · exact ⟨(s.ring n).bells, (setRing_self h n).symm⟩

/-- The ring-table entry of a ring pair from which a ticket is taken (R72). -/
def Ring.fetched (r : Ring) : Ring := { r with sqHead := (r.sqHead + 1) % r.size, outstanding := r.outstanding + 1 }

/-- The check of a ticket looks at no part of the ring table but the ring pair's class (R48). -/
theorem check_of_fetched (h : RingsCanonical s) (tk : Ticket) : ((State.turned s n).setRing n (Ring.fetched (s.ring n))).check n tk = s.check n tk := by
  have hcls : (((State.turned s n).setRing n (Ring.fetched (s.ring n))).ring n).cls = (s.ring n).cls := by
    rw [(setRing_says (s := State.turned s n) h n (Ring.fetched (s.ring n))).2.1]
    rfl
  unfold State.check
  rw [hcls]
  rfl

/-! A ticket accepted (R48, R77). -/

/-- The ring table, the identifiers given, the vault and the ledger are the same. -/
def SameTable (s u : State) : Prop := u.host.rings = s.host.rings ∧ u.host.nextId = s.host.nextId ∧ u.vault = s.vault ∧ u.ledger = s.ledger

theorem acceptTab_says (s : State) (ring : Nat) (t : Tk) : SameTable s (s.acceptTab ring t).1 ∧ (s.acceptTab ring t).1.host = s.host ∧
    (s.acceptTab ring t).2.id = t.id ∧ (s.acceptTab ring t).2.ring = t.ring ∧ (s.acceptTab ring t).2.tk = t.tk ∧ (s.acceptTab ring t).2.cls = t.cls := by
  have hsame : ∀ k c, SameTable s (s.setTab k c) := fun k c => ⟨rfl, rfl, rfl, rfl⟩
  have hself : SameTable s s := ⟨rfl, rfl, rfl, rfl⟩
  unfold State.acceptTab
  split
  · exact ⟨hsame _ _, rfl, rfl, rfl, rfl, rfl⟩
  · split
    · exact ⟨hself, rfl, rfl, rfl, rfl, rfl⟩
    · dsimp only
      split
      · exact ⟨hsame _ _, rfl, rfl, rfl, rfl, rfl⟩
      · exact ⟨hsame _ _, rfl, rfl, rfl, rfl, rfl⟩
  · split
    · split
      · exact ⟨hsame _ _, rfl, rfl, rfl, rfl, rfl⟩
      · split
        · exact ⟨hself, rfl, rfl, rfl, rfl, rfl⟩
        · exact ⟨hsame _ _, rfl, rfl, rfl, rfl, rfl⟩
    · exact ⟨hself, rfl, rfl, rfl, rfl, rfl⟩

/-- A ticket that reaches its next rung, or is admitted, or is skipped: it stands in the device, and the ring table stays (R71, R77, R83). -/
theorem arrive_says (s : State) (t : Tk) (hin : ∃ x ∈ s.host.tickets, x.id = t.id) :
    SameTable s (s.arrive t) ∧ ∃ x ∈ (s.arrive t).host.tickets, x.id = t.id ∧ x.ring = t.ring ∧ x.tk = t.tk ∧ x.cls = t.cls := by
  have hput : ∀ y : Tk, y.id = t.id → y ∈ putTk s.host.tickets y := fun y hy => by
    obtain ⟨x, hx, hid⟩ := hin
    exact List.mem_map.mpr ⟨x, hx, if_pos (hid.trans hy.symm)⟩
  have hskip : ∀ cause, SameTable s (s.skip t cause) ∧ ∃ x ∈ (s.skip t cause).host.tickets, x.id = t.id ∧ x.ring = t.ring ∧ x.tk = t.tk ∧ x.cls = t.cls := fun cause => by
    unfold State.skip
    dsimp only
    split
    · exact ⟨⟨rfl, rfl, rfl, rfl⟩, _, hput _ rfl, rfl, rfl, rfl, rfl⟩
    · exact ⟨⟨rfl, rfl, rfl, rfl⟩, _, hput _ rfl, rfl, rfl, rfl, rfl⟩
  unfold State.arrive
  split
  · dsimp only
    split
    · exact ⟨⟨rfl, rfl, rfl, rfl⟩, _, hput _ rfl, rfl, rfl, rfl, rfl⟩
    · exact ⟨⟨rfl, rfl, rfl, rfl⟩, _, hput _ rfl, rfl, rfl, rfl, rfl⟩
  · dsimp only
    split
    · exact hskip 2
    · split
      · exact hskip 1
      · unfold State.enterRot
        split
        · exact ⟨⟨rfl, rfl, rfl, rfl⟩, _, hput _ rfl, rfl, rfl, rfl, rfl⟩
        · exact ⟨⟨rfl, rfl, rfl, rfl⟩, _, hput _ rfl, rfl, rfl, rfl, rfl⟩

theorem takeTicket_accepts {b : Bytes} (hcheck : s.check n (Ticket.ofBytes b) = 0) :
    (s.takeTicket n b).host.rings = s.host.rings ∧ (s.takeTicket n b).host.nextId = s.host.nextId + 1 ∧ (s.takeTicket n b).vault = s.vault ∧ (s.takeTicket n b).ledger = s.ledger ∧
      ∃ t ∈ (s.takeTicket n b).host.tickets, t.id = s.host.nextId ∧ t.ring = n ∧ t.tk = Ticket.ofBytes b ∧ t.cls = (s.ring n).cls := by
  unfold State.takeTicket
  dsimp only
  rw [if_pos hcheck]
  generalize hbase : ({ id := s.host.nextId, ring := n, cls := (s.ring n).cls, tk := Ticket.ofBytes b, bellAt := (((s.ring n).bells.head?).map (·.2)).getD s.now } : Tk) = base
  obtain ⟨v, hv⟩ : ∃ v, v = (({ s with host := { { s.host with nextId := s.host.nextId + 1 } with tickets := s.host.tickets ++ [base] } } : State).setFetchPool (s.fetchPool.take 1)) := ⟨_, rfl⟩
  obtain ⟨hsame, hhost, hid, hring, htk, hcls⟩ := acceptTab_says v n { base with need := (Ticket.ofBytes b).rungs }
  have hin : ∃ x ∈ (v.acceptTab n { base with need := (Ticket.ofBytes b).rungs }).1.host.tickets, x.id = (v.acceptTab n { base with need := (Ticket.ofBytes b).rungs }).2.id := by
    rw [hhost, hid, hv]
    exact ⟨base, List.mem_append_right _ (List.mem_singleton_self base), rfl⟩
  obtain ⟨⟨hr, hn, hva, hl⟩, x, hx, hxid, hxring, hxtk, hxcls⟩ := arrive_says _ _ hin
  obtain ⟨hr', hn', hva', hl'⟩ := hsame
  subst hv
  subst hbase
  exact ⟨hr.trans hr', hn.trans hn', hva.trans hva', hl.trans hl', x, hx, hxid.trans hid, hxring.trans hring, hxtk.trans htk, hxcls.trans hcls⟩

/-! A ticket refused (R48, R55). -/

/-- A ticket that fails a check, alone in the device, is answered at once by the next receipt of its ring pair. -/
theorem takeTicket_refuses {b : Bytes} (hcheck : s.check n (Ticket.ofBytes b) ≠ 0) (halone : s.host.tickets = []) (herr : (s.ring n).err ≠ .portDown) (hup : s.portUp (s.ring n).port.val = true) :
    ∃ rc : Receipt, rc.tag = (Ticket.ofBytes b).tag ∧ rc.status = s.check n (Ticket.ofBytes b) ∧
      s.takeTicket n b = ({ s with host := { s.host with nextId := s.host.nextId + 1, tickets := [] } } : State).writeReceipt n rc := by
  unfold State.takeTicket
  dsimp only
  rw [if_neg hcheck]
  obtain ⟨tab, htab⟩ : ∃ o, o = if (Ticket.ofBytes b).namesTab ∧ (Ticket.ofBytes b).tab < Config.tabs ∧ (s.tab (Ticket.ofBytes b).tab).ring = n then some (Ticket.ofBytes b).tab else none := ⟨_, rfl⟩
  obtain ⟨shown, hshown⟩ : ∃ k, k = if s.check n (Ticket.ofBytes b) = 0x13 ∨ s.check n (Ticket.ofBytes b) = 0x12 then (s.foundTab (Ticket.ofBytes b)).getD 0 else 0 := ⟨_, rfl⟩
  rw [← htab, ← hshown]
  generalize hd : ({ id := s.host.nextId, ring := n, cls := (s.ring n).cls, tk := Ticket.ofBytes b, bellAt := (((s.ring n).bells.head?).map (·.2)).getD s.now, stage := .done, fetchTok := false
                     refused := true, tab := tab
                     rcpt := some { tag := (Ticket.ofBytes b).tag, status := s.check n (Ticket.ofBytes b), tab := shown, noIrq := (Ticket.ofBytes b).noIrq } } : Tk) = d
  rw [halone, List.nil_append]
  rw [postAll_of_alone (t := d) rfl (by rw [← hd]) (by rw [← hd])]
  have hring : d.ring = n := by rw [← hd]
  have hdrop : ({ s with host := { { s.host with nextId := s.host.nextId + 1 } with tickets := [d] } } : State).dropTk d.id =
      { s with host := { s.host with nextId := s.host.nextId + 1, tickets := [] } } := by simp [State.dropTk]
  unfold State.portUp at hup
  simp only [Bool.and_eq_true, Bool.not_eq_true'] at hup
  obtain ⟨⟨hl0, hbme⟩, hd3⟩ := hup
  refine ⟨{ ({ tag := (Ticket.ofBytes b).tag, status := s.check n (Ticket.ofBytes b), tab := shown, noIrq := (Ticket.ofBytes b).noIrq } : Receipt) with bellAt := d.bellAt, us := d.us }, rfl, rfl, ?_⟩
  rw [hdrop, hring]
  exact postReceipt_of_up (by exact herr) (by exact hbme) (by exact hd3) (by exact hl0) _

theorem check_bounded (s : State) (n : Nat) (tk : Ticket) : s.check n tk < 256 := by
  unfold State.check
  repeat' split
  all_goals decide

/-! The turn of a ring pair. -/

/-- One read that delivers a ticket: the ring pair's entry moves on, and the ticket is taken (R72). -/
theorem fetch_delivered (h : s.nextRing 0 = some n) (us : Nat) (b : Bytes) :
    exec (.ticketFetch n us [.ok b]) s =
      .next ((((State.turned s n).setRing n (Ring.fetched (s.ring n))).takeTicket n b).passBell n (((s.ring n).sqHead + 1) % (s.ring n).size)) := by
  obtain ⟨hfetch, _⟩ := nextRing_mem h
  obtain ⟨hact, _⟩ := fetchable_says hfetch
  refine congrArg Host.Outcome.next ((fetch_one h us (.ok b)).trans ?_)
  rw [State.fetchRun]
  dsimp only
  rw [if_pos (show ((State.turned s n).ring n).state = .active from hact), State.fetchRun]
  rfl

theorem ticketFetch_accepts (hcanon : RingsCanonical s) (h : s.nextRing 0 = some n) (us : Nat) {b : Bytes} (hcheck : s.check n (Ticket.ofBytes b) = 0) :
    ∃ u, exec (.ticketFetch n us [.ok b]) s = .next u ∧ (∃ t ∈ u.host.tickets, t.id = s.host.nextId ∧ t.ring = n ∧ t.tk = Ticket.ofBytes b ∧ t.cls = 0) ∧
      u.host.nextId = s.host.nextId + 1 ∧ (u.ring n).sqHead = ((s.ring n).sqHead + 1) % (s.ring n).size ∧ (u.ring n).outstanding = (s.ring n).outstanding + 1 ∧ (∀ m, m ≠ n → u.ring m = s.ring m) ∧
      u.vault = s.vault ∧ u.ledger = s.ledger := by
  obtain ⟨hfetch, hcls⟩ := nextRing_mem h
  obtain ⟨v, hv⟩ : ∃ v, v = (State.turned s n).setRing n (Ring.fetched (s.ring n)) := ⟨_, rfl⟩
  obtain ⟨_, hself, hother⟩ := setRing_says (s := State.turned s n) hcanon n (Ring.fetched (s.ring n))
  have hcheck' : v.check n (Ticket.ofBytes b) = 0 := by rw [hv, check_of_fetched hcanon, hcheck]
  obtain ⟨hrings, hid, hvault, hledger, t, ht, htid, htring, httk, htcls⟩ := takeTicket_accepts hcheck'
  have hvcanon : RingsCanonical v := hv ▸ Laws.setRing_canonical _ _ _ hcanon
  have hcanon' : RingsCanonical (v.takeTicket n b) := by
    unfold RingsCanonical
    rw [hrings]
    exact hvcanon
  have hring : ∀ m, (v.takeTicket n b).ring m = v.ring m := fun m => by
    unfold State.ring
    rw [hrings]
  obtain ⟨bells, hbell⟩ := passBell_says hcanon' n (((s.ring n).sqHead + 1) % (s.ring n).size)
  obtain ⟨_, hpass, hpassed⟩ := setRing_says hcanon' n { (v.takeTicket n b).ring n with bells := bells }
  rw [← hv] at hself hother
  refine ⟨_, fetch_delivered h us b, ?_⟩
  rw [← hv, hbell]
  refine ⟨⟨t, ht, htid.trans (by rw [hv]; rfl), htring, httk, htcls.trans ?_⟩, hid.trans (by rw [hv]; rfl), ?_, ?_, fun m hm => ?_, hvault.trans (by rw [hv]; rfl), hledger.trans (by rw [hv]; rfl)⟩
  · rw [hself]
    exact Fin.ext hcls
  · rw [hpass, hring, hself]
    rfl
  · rw [hpass, hring, hself]
    rfl
  · rw [hpassed m hm, hring, hother m hm]
    rfl

theorem ticketFetch_refuses (hcanon : RingsCanonical s) (h : s.nextRing 0 = some n) (us : Nat) {b : Bytes} (hcheck : s.check n (Ticket.ofBytes b) ≠ 0) (halone : s.host.tickets = [])
    (herr : (s.ring n).err ≠ .portDown) :
    ∃ u r rest, exec (.ticketFetch n us [.ok b]) s = .next u ∧ u.host.tickets = [] ∧
      u.host.out = s.host.out ++ .receipt (s.ring n).port.val ((s.ring n).cqBase.toNat + 32 * (s.ring n).cqTail) r :: rest ∧ fld r 0 2 = (Ticket.ofBytes b).tag % 2 ^ 16 ∧
      fld r 2 1 = s.check n (Ticket.ofBytes b) ∧ (u.ring n).sqHead = ((s.ring n).sqHead + 1) % (s.ring n).size ∧ u.classes.fetchFree = s.classes.fetchFree ∧ u.tabs = s.tabs ∧ u.vault = s.vault := by
  obtain ⟨hfetch, _⟩ := nextRing_mem h
  obtain ⟨_, _, _, hup, _⟩ := fetchable_says hfetch
  obtain ⟨v, hv⟩ : ∃ v, v = (State.turned s n).setRing n (Ring.fetched (s.ring n)) := ⟨_, rfl⟩
  obtain ⟨_, hself, _⟩ := setRing_says (s := State.turned s n) hcanon n (Ring.fetched (s.ring n))
  have hcheck' : v.check n (Ticket.ofBytes b) = s.check n (Ticket.ofBytes b) := by rw [hv, check_of_fetched hcanon]
  rw [← hv] at hself
  have hup' : v.portUp (v.ring n).port.val = true := by
    rw [hself, hv]
    exact hup
  obtain ⟨rc, htag, hstatus, htake⟩ := takeTicket_refuses (s := v) (n := n) (b := b) (by rw [hcheck']; exact hcheck) (by rw [hv]; exact halone) (by rw [hself]; exact herr) hup'
  obtain ⟨w, hw⟩ : ∃ w : State, w = { v with host := { v.host with nextId := v.host.nextId + 1, tickets := [] } } := ⟨_, rfl⟩
  have hwcanon : RingsCanonical w := by
    rw [hw, hv]
    exact Laws.setRing_canonical _ _ _ hcanon
  have hwring : w.ring n = Ring.fetched (s.ring n) := by
    rw [hw]
    exact hself
  obtain ⟨⟨rest, hout⟩, ⟨p, tm, hm, hring⟩, _, ⟨k, hclasses⟩, htickets⟩ := writeReceipt_frame hwcanon n rc
  have hposts := (posts_refl w).writeReceipt (n := n) (rc := rc)
  obtain ⟨bells, hbell⟩ := passBell_says (writeReceipt_canonical hwcanon n rc) n (((s.ring n).sqHead + 1) % (s.ring n).size)
  obtain ⟨_, hpass, _⟩ := setRing_says (writeReceipt_canonical hwcanon n rc) n { (w.writeReceipt n rc).ring n with bells := bells }
  obtain ⟨hbtag, hbstatus⟩ := receipt_bytes_tag (w.stamped rc) (s.ring n).cqPhase w.openTickLow
  refine ⟨_, (w.stamped rc).bytes (s.ring n).cqPhase w.openTickLow, rest, fetch_delivered h us b, ?_⟩
  rw [← hv, htake, ← hw, hbell]
  refine ⟨htickets.trans (by rw [hw]), ?_, hbtag.trans (by rw [← htag]; rfl), hbstatus.trans ?_, ?_, ?_, hposts.tabs.trans (by rw [hw, hv]; rfl), hposts.vault.trans (by rw [hw, hv]; rfl)⟩
  · refine hout.trans ?_
    unfold State.receiptWrite
    rw [hwring, hw, hv]
    rfl
  · rw [show (w.stamped rc).status = rc.status from rfl, hstatus, hcheck']
    exact Nat.mod_eq_of_lt (check_bounded ..)
  · rw [hpass, hring, hwring]
    rfl
  · refine (congrArg Classes.fetchFree hclasses).trans ?_
    rw [hw, hv]
    rfl

theorem ticketFetch_fails (hcanon : RingsCanonical s) (h : s.nextRing 0 = some n) (us : Nat) :
    ∃ u, exec (.ticketFetch n us [.err]) s = .next u ∧ (u.ring n).state = .error ∧ (u.ring n).err = .fetchError ∧ (u.ring n).sqHead = (s.ring n).sqHead ∧
      (u.port (s.ring n).port.val).aerLogged = (s.port (s.ring n).port.val).aerLogged + 1 ∧ u.host.tickets = s.host.tickets ∧ u.host.nextId = s.host.nextId := by
  obtain ⟨p, hp⟩ : ∃ p : Fin 2, p = (s.ring n).port := ⟨_, rfl⟩
  obtain ⟨v, hv⟩ : ∃ v, v = (State.turned s n).aer p.val [.err] := ⟨_, rfl⟩
  have hring : v.ring n = s.ring n := by
    rw [hv]
    exact setPort_ring _ _ _ _
  have hrings : v.host.rings = s.host.rings := by
    rw [hv]
    exact Laws.setPort_host_rings _ _ _
  have hvcanon : RingsCanonical v := by
    unfold RingsCanonical
    rw [hrings]
    exact hcanon
  obtain ⟨_, hself, _⟩ := setRing_says hvcanon n { v.ring n with state := .error, err := .fetchError }
  have hport : v.port p.val = { s.port p.val with aerLogged := (s.port p.val).aerLogged + 1 } := by
    rw [hv]
    exact Laws.setPort_port _ p _
  have hgo : exec (.ticketFetch n us [.err]) s = .next (v.ringError n .fetchError) := by
    refine congrArg Host.Outcome.next ((fetch_one h us .err).trans ?_)
    rw [State.fetchRun, hv, hp]
    rfl
  refine ⟨_, hgo, (congrArg Ring.state hself).trans rfl, (congrArg Ring.err hself).trans rfl, (congrArg Ring.sqHead hself).trans (show (v.ring n).sqHead = _ from congrArg Ring.sqHead hring), ?_, ?_, ?_⟩
  · rw [← hp]
    exact congrArg Port.aerLogged hport
  · rw [hv]
    exact Laws.setPort_host_tickets _ _ _
  · rw [hv]
    exact Laws.setPort_host_nextId _ _ _

end

/-- Settles O17: the turn of a class-0 ring pair is a fetch of one ticket, which the checks accept or refuse, or whose read fails. -/
theorem ticketsFetched : Obligations.TicketsFetched := by
  unfold Obligations.TicketsFetched
  intro s n us hturn hcanon
  refine ⟨fun b hcheck => ticketFetch_accepts hcanon hturn us hcheck, fun b hcheck halone herr => ticketFetch_refuses hcanon hturn us hcheck halone herr, ticketFetch_fails hcanon hturn us, ?_⟩
  intro m reads hm
  exact congrArg Host.Outcome.next ((fetch_of_turn hturn m us reads).trans (if_neg (Ne.symm hm)))

end Sys2Proof.Proofs
end


section
/-! SUPPORT. Two uncommitted tickets under one identifier, which no hypothesis of O16 excludes (R35, R81). -/

namespace Sys2Proof.Proofs
open Sys2Proof Sys2Proof.Machine Sys2Proof.Safety

/-- An uncommitted ticket of a ring pair under identifier 1. -/
def twinTicket (ring : Nat) : Tk := { id := 1, ring := ring, cls := 1, tk := { opcode := 0x1A } }

/-- The reset state, whose ring pairs 0 and 1 wait, with an uncommitted ticket of each under the same identifier. -/
def twinState : State := { State.reset with host := { State.reset.host with tickets := [twinTicket 0, twinTicket 1] } }

/-- The receipt of the ticket that ABORT withdraws takes both tickets of its identifier out of the device. -/
theorem abort_drops_twin : (twinState.writeAbort 0).host.tickets = [] := by decide +kernel

theorem twinState_units : twinState.units.st = [] := rfl

theorem twinState_sources (k : Nat) : (twinState.src k).masked = false := rfl

/-- Refutes O16: two tickets of different ring pairs may carry the same identifier, and ABORT of one ring pair then takes the uncommitted ticket of the other with it. -/
theorem not_ringStates : ¬ Obligations.RingStates := by
  unfold Obligations.RingStates
  rintro ⟨_, habort⟩
  obtain ⟨u, hu, _, _, _, _, hothers, _⟩ := habort twinState 0 rfl (by decide) (by decide) rfl (by rw [twinState_units]; exact fun p hp => absurd hp List.not_mem_nil) twinState_sources
  have hkept : twinTicket 1 ∈ u.host.tickets := hothers (twinTicket 1) (List.mem_cons_of_mem _ (List.mem_singleton_self _)) (by decide) (by decide)
  rw [← Host.Outcome.next.inj hu, abort_drops_twin] at hkept
  exact List.not_mem_nil hkept

end Sys2Proof.Proofs
end


section
/-! SUPPORT. Grants on the token ladder: what a granted rung leaves, crate space taken, and tickets skipped for want of space (R71, R77, R78, R83). -/

namespace Sys2Proof.Proofs
open Sys2Proof Sys2Proof.Machine Sys2Proof.Safety

section
variable {b s u : State} {t : Tk}

/-! A ticket that takes its last rung is admitted (R77). -/

theorem tk_of_put {l : List Tk} {y : Tk} (hin : ∃ x ∈ l, x.id = y.id) : (putTk l y).find? (fun x => x.id == y.id) = some y := by
  obtain ⟨x, hx, hid⟩ := hin
  have hmem : y ∈ putTk l y := List.mem_map.mpr ⟨x, hx, if_pos hid⟩
  obtain ⟨z, hz⟩ := Option.isSome_iff_exists.mp (List.find?_isSome (p := fun x : Tk => x.id == y.id) |>.mpr ⟨y, hmem, beq_self_eq_true _⟩)
  obtain ⟨w, _, hw⟩ := List.mem_map.mp (List.mem_of_find?_eq_some hz)
  have hzid : z.id = y.id := by simpa using List.find?_some hz
  by_cases hwid : w.id = y.id
  · rw [if_pos hwid] at hw
    rw [hz, hw]
  · rw [if_neg hwid] at hw
    exact absurd (hw ▸ hzid) hwid

theorem setTk_tk_self {y : Tk} (hin : ∃ x ∈ s.host.tickets, x.id = y.id) : (s.setTk y).tk? y.id = some y := tk_of_put hin

theorem mem_of_tk (h : s.tk? t.id = some t) : ∃ x ∈ s.host.tickets, x.id = t.id := ⟨t, List.mem_of_find?_eq_some h, rfl⟩

/-- The ticket `t`, with every rung, has been admitted between `s` and `u`; its ticket buffer is given back (R77, R78). -/
structure Admits (s : State) (t : Tk) (u : State) : Prop where
  ticket : ∃ t', u.tk? t.id = some t' ∧ t'.stage = .admitted ∧ t'.need = t.need ∧ t'.fetchTok = false ∧ t'.tk = t.tk ∧ t'.tab = t.tab ∧ t'.tabTok = t.tabTok ∧ t'.stall = t.stall ∧
    t'.staging = t.staging ∧ t'.readbuf = t.readbuf ∧ t'.crateTok = t.crateTok
  fetchFree : u.classes.fetchFree = s.classes.fetchFree + (if t.fetchTok then 1 else 0)
  stagingFree : u.classes.stagingFree = s.classes.stagingFree
  readbufFree : u.classes.readbufFree = s.classes.readbufFree
  vault : u.vault = s.vault
  rings : u.host.rings = s.host.rings

theorem arrive_admits (hneed : t.need = []) (hin : ∃ x ∈ s.host.tickets, x.id = t.id) : Admits s t (s.arrive t) := by
  unfold State.arrive
  rw [hneed]
  dsimp only
  split
  · next htok =>
    exact ⟨⟨_, setTk_tk_self (by exact hin), rfl, hneed.symm, rfl, rfl, rfl, rfl, rfl, rfl, rfl, rfl⟩, (by rw [htok]; rfl), rfl, rfl, rfl, rfl⟩
  · next htok =>
    exact ⟨⟨_, setTk_tk_self (by exact hin), rfl, hneed.symm, rfl, rfl, rfl, rfl, rfl, rfl, rfl, rfl⟩, (by rw [if_neg htok]; rfl), rfl, rfl, rfl, rfl⟩

/-! Crate space taken (R277). -/

/-- The identifier of a ticket and the tab that serves it. -/
def Tk.place (t : Tk) : Nat × Option Nat := (t.id, t.tab)

/-- What the opening of crates leaves as it is. -/
structure Opens (b s : State) : Prop where
  rings : s.host.rings = b.host.rings
  places : s.host.tickets.map Tk.place = b.host.tickets.map Tk.place
  tabs : s.tabs = b.tabs
  classes : s.classes = b.classes
  vault : s.vault = b.vault

theorem opens_refl (s : State) : Opens s s := ⟨rfl, rfl, rfl, rfl, rfl⟩

theorem Opens.ite {c : Prop} [Decidable c] (h : Opens b s) (h' : Opens b u) : Opens b (if c then s else u) := by
  split
  · exact h
  · exact h'

theorem Opens.foldl {α : Type} {f : State → α → State} {l : List α} (h : Opens b s) (hf : ∀ s a, Opens b s → Opens b (f s a)) : Opens b (l.foldl f s) :=
  List.foldlRecOn l f (motive := Opens b) h fun s hs a _ => hf s a hs

theorem Opens.withFlash {x : Flash} (h : Opens b s) : Opens b { s with flash := x } := { h with }

theorem Opens.setCrates {l} (h : Opens b s) : Opens b (s.setCrates l) := h.withFlash

theorem Opens.modCrate {id f} (h : Opens b s) : Opens b (s.modCrate id f) := h.withFlash

theorem Opens.modPrepared {st f} (h : Opens b s) : Opens b (s.modPrepared st f) := h.withFlash

theorem Opens.devEvent {n} (h : Opens b s) : Opens b (s.devEvent n) :=
  ⟨(Laws.devEvent_host_rings s n).trans h.rings, (congrArg (List.map Tk.place) (Laws.devEvent_host_tickets s n)).trans h.places, (Laws.devEvent_tabs s n).trans h.tabs, (Laws.devEvent_classes s n).trans h.classes,
    (Laws.devEvent_vault s n).trans h.vault⟩

theorem Opens.takeLane {l} (h : Opens b s) : Opens b (s.takeLane l) := by
  have herase : Opens b (s.eraseLane l) := .ite h.withFlash.devEvent h.withFlash
  exact herase.withFlash

theorem Opens.prepare {st} (h : Opens b s) : Opens b (s.prepare st) := by
  unfold State.prepare
  split
  · exact h
  · split
    · next hnew =>
      unfold State.newCrate at hnew
      split at hnew
      · cases hnew
      · cases hnew
        exact (h.foldl fun _ _ hs => hs.takeLane).setCrates
    · exact h

theorem Opens.openPrepared {st} (h : Opens b s) : Opens b (s.openPrepared st) := by
  unfold State.openPrepared
  split
  · exact h
  · refine ⟨h.rings, ?_, h.tabs, h.classes, h.vault⟩
    dsimp only
    rw [List.map_map, ← h.places]
    exact List.map_congr_left fun t _ => by
      simp only [Function.comp_apply]
      split <;> rfl

theorem Opens.ensureStream {st} (h : Opens b s) : Opens b (s.ensureStream st) := .ite h.prepare.openPrepared.prepare h.prepare

theorem Opens.summarise {id} (h : Opens b s) : Opens b (s.summarise id) := by
  unfold State.summarise
  split
  · exact h
  · exact .ite h (.ite h.modCrate.prepare.openPrepared.prepare h.modCrate)

theorem Opens.maybeClose {id} (h : Opens b s) : Opens b (s.maybeClose id) := by
  unfold State.maybeClose
  split
  · exact h
  · exact .ite h.summarise h

theorem Opens.closeFullCrates (h : Opens b s) : Opens b s.closeFullCrates :=
  h.foldl fun s st hs => by
    split
    · exact hs.maybeClose
    · exact hs

/-- A reservation: crates may open, and the ticket holds crate space. -/
theorem reserve_says {t2 : Tk} (h : s.reserve t = some (u, t2)) : Opens s u ∧ ∃ st id n, t2 = { t with crateTok := true, crateStream := st, crateId := id, crateSlots := n } := by
  have hopens := (opens_refl s).closeFullCrates.ensureStream (st := s.streamOf (t.tab.getD 0))
  unfold State.reserve at h
  dsimp only at h
  split at h
  · cases h
  · split at h
    · cases h
      exact ⟨hopens.modCrate, _, _, _, rfl⟩
    · split at h
      · split at h
        · cases h
          exact ⟨hopens.modPrepared, _, _, _, rfl⟩
        · cases h
      · cases h

/-- Whether crate space can be reserved does not depend on the rungs that the ticket still needs. -/
theorem crateOk_withNeed (s : State) (t : Tk) (l : List Rung) : s.crateOk { t with need := l } = s.crateOk t := by
  unfold State.crateOk State.reserve
  dsimp only
  rw [show Tk.crateNeed { t with need := l } = t.crateNeed from rfl]
  split
  · rfl
  · split
    · rfl
    · split
      · split <;> rfl
      · rfl

/-! The grant (R71, R77). -/

/-- What the grant of rung `r` gives the ticket and takes from the pools (R77, R78). -/
structure Grants (s : State) (r : Fin 4) (t : Tk) (u : State) : Prop where
  ticket : ∃ t', u.tk? t.id = some t' ∧ t'.stage = .admitted ∧ t'.need = [] ∧ t'.fetchTok = false ∧ t'.tk = t.tk ∧ t'.tab = t.tab ∧ (r = 0 → t'.tabTok = true) ∧ (r = 1 → t'.stall = s.stallFor t) ∧
    (r = 2 → t.tk.readout = false → t'.staging = t.tk.units) ∧ (r = 2 → t.tk.readout = true → t'.readbuf = t.tk.readUnits) ∧ (r = 3 → t'.crateTok = true)
  fetchFree : u.classes.fetchFree = s.classes.fetchFree + (if t.fetchTok then 1 else 0)
  stagingFree : r = 2 → t.tk.readout = false → u.classes.stagingFree = s.classes.stagingFree - t.tk.units
  readbufFree : r = 2 → t.tk.readout = true → u.classes.readbufFree = s.classes.readbufFree - t.tk.readUnits
  vault : u.vault = s.vault
  rings : u.host.rings = s.host.rings

theorem checkCopy_rest (s : State) (c : Copy) : (s.checkCopy c).host = s.host ∧ (s.checkCopy c).classes = s.classes ∧ (s.checkCopy c).vault = s.vault := by
  unfold State.checkCopy
  split
  · exact ⟨rfl, rfl, rfl⟩
  · split
    · exact ⟨rfl, rfl, rfl⟩
    · cases c <;> exact ⟨rfl, rfl, rfl⟩

theorem Admits.grants_tab {v : State} {y : Tk} (h : Admits v y u) (hc : v.classes = s.classes) (hv : v.vault = s.vault) (hh : v.host = s.host) (hid : y.id = t.id) (hneed : y.need = [])
    (htok : y.fetchTok = t.fetchTok) (htk : y.tk = t.tk) (htab : y.tab = t.tab) (htabTok : y.tabTok = true) : Grants s 0 t u := by
  obtain ⟨⟨t', ht, hstage, hn, hf, hk, hb, hw, _⟩, hfetch, _, _, hvault, hrings⟩ := h
  exact ⟨⟨t', hid ▸ ht, hstage, hn.trans hneed, hf, hk.trans htk, hb.trans htab, fun _ => hw.trans htabTok, fun h => (by cases h), fun h => (by cases h), fun h => (by cases h), fun h => (by cases h)⟩,
    hfetch.trans (by rw [hc, htok]), fun h => (by cases h), fun h => (by cases h), hvault.trans hv, hrings.trans (by rw [hh])⟩

theorem grant_grants {r : Fin 4} (hcan : s.canGrant (rungOf r) State.crateOk t = true) (hin : ∃ x ∈ s.host.tickets, x.id = t.id) (hneed : t.need = [rungOf r]) :
    Grants s r t (s.grant State.reserve t) := by
  unfold State.grant
  rw [hneed]
  dsimp only
  match r with
  | 0 =>
    dsimp only [rungOf]
    obtain ⟨hhost, hclasses, hvault⟩ := checkCopy_rest s (.fixed (s.templFor t (t.tab.getD 0)))
    exact (arrive_admits (by exact rfl) (by rw [hhost]; exact hin)).grants_tab hclasses hvault hhost rfl rfl rfl rfl rfl rfl
  | 1 =>
    dsimp only [rungOf]
    obtain ⟨⟨t', ht, hstage, hnd, htok, htk, htab, _, hstall, _⟩, hfetch, _, _, hv, hr⟩ := arrive_admits (s := s) (t := { t with need := [], stall := s.stallFor t }) rfl hin
    exact ⟨⟨t', ht, hstage, hnd, htok, htk, htab, fun h => (by cases h), fun _ => hstall, fun h => (by cases h), fun h => (by cases h), fun h => (by cases h)⟩, hfetch,
      fun h => (by cases h), fun h => (by cases h), hv, hr⟩
  | 2 =>
    dsimp only [rungOf]
    split
    · next hread =>
      obtain ⟨⟨t', ht, hstage, hnd, htok, htk, htab, _, _, _, hbuf, _⟩, hfetch, _, hfree, hv, hr⟩ :=
        arrive_admits (s := { s with classes := { s.classes with readbufFree := s.classes.readbufFree - t.tk.readUnits } }) (t := { t with need := [], readbuf := t.tk.readUnits }) rfl hin
      exact ⟨⟨t', ht, hstage, hnd, htok, htk, htab, fun h => (by cases h), fun h => (by cases h), fun _ h => by simp [hread] at h, fun _ _ => hbuf, fun h => (by cases h)⟩, hfetch,
        fun _ h => by simp [hread] at h, fun _ _ => hfree, hv, hr⟩
    · next hread =>
      obtain ⟨⟨t', ht, hstage, hnd, htok, htk, htab, _, _, hstaging, _⟩, hfetch, hfree, _, hv, hr⟩ :=
        arrive_admits (s := s.setStagingPool (s.stagingPool.take t.tk.units)) (t := { t with need := [], staging := t.tk.units }) rfl hin
      exact ⟨⟨t', ht, hstage, hnd, htok, htk, htab, fun h => (by cases h), fun h => (by cases h), fun _ _ => hstaging, fun _ h => absurd h hread, fun h => (by cases h)⟩, hfetch,
        fun _ _ => hfree, fun _ h => absurd h hread, hv, hr⟩
  | 3 =>
    dsimp only [rungOf]
    have hok : (s.reserve { t with need := [] }).isSome = true := by
      have hcrate : s.crateOk t = true := by
        unfold State.canGrant at hcan
        exact (Bool.and_eq_true _ _ |>.mp hcan).2
      rw [← crateOk_withNeed s t []] at hcrate
      exact hcrate
    obtain ⟨⟨v, t2⟩, hres⟩ := Option.isSome_iff_exists.mp hok
    rw [hres]
    dsimp only
    obtain ⟨hopens, st, id, n, rfl⟩ := reserve_says hres
    have hin' : ∃ x ∈ v.host.tickets, x.id = t.id := by
      obtain ⟨x, hx, hid⟩ := hin
      have hmem : Tk.place x ∈ v.host.tickets.map Tk.place := hopens.places ▸ List.mem_map_of_mem hx
      obtain ⟨y, hy, hplace⟩ := List.mem_map.mp hmem
      exact ⟨y, hy, (congrArg Prod.fst hplace).trans hid⟩
    obtain ⟨⟨t', ht, hstage, hnd, htok, htk, htab, _, _, _, _, hcrate⟩, hfetch, _, _, hv, hr⟩ :=
      arrive_admits (s := v) (t := { t with need := [], crateTok := true, crateStream := st, crateId := id, crateSlots := n }) rfl hin'
    exact ⟨⟨t', ht, hstage, hnd, htok, htk, htab, fun h => (by cases h), fun h => (by cases h), fun h => (by cases h), fun h => (by cases h), fun _ => hcrate⟩, hfetch.trans (by rw [hopens.classes]),
      fun h => (by cases h), fun h => (by cases h), hv.trans hopens.vault, hr.trans hopens.rings⟩

/-- The ticket that a class grants next can have the rung. -/
theorem nextAt_canGrant {rung : Rung} {ok : State → Tk → Bool} {c : Nat} {k : RotKey} (h : s.nextAt rung ok c = some (k, t)) : s.canGrant rung ok t = true := by
  obtain ⟨x, _, hx⟩ := List.mem_filterMap.mp (List.mem_of_mem_head? h)
  split at hx
  · split at hx
    · split at hx
      · next hcan =>
        cases hx
        exact hcan
      · cases hx
    · cases hx
  · cases hx

/-- A turn of the rotation, and a row that wakes, change nothing that a grant gives. -/
theorem Grants.rotate {r : Fin 4} {k : RotKey} (h : Grants s r t u) : Grants s r t (u.rotate k) := ⟨h.ticket, h.fetchFree, h.stagingFree, h.readbufFree, h.vault, h.rings⟩

theorem Grants.wakeRow {r : Fin 4} {row : Nat} (h : Grants s r t u) : Grants s r t (u.wakeRow row) := ⟨h.ticket, h.fetchFree, h.stagingFree, h.readbufFree, h.vault, h.rings⟩

theorem tokenGrant_grants {r : Fin 4} {k : RotKey} (us : Nat) (hfed : s.class0Starved (rungOf r) = false) (hnext : s.nextAt (rungOf r) State.crateOk 0 = some (k, t)) (htk : s.tk? t.id = some t)
    (hneed : t.need = [rungOf r]) : Grants s r t (s.tokenGrant r us) := by
  have hpick : ∀ cost, s.pickClass (rungOf r).code (fun c => (s.nextAt (rungOf r) State.crateOk c).isSome) cost = some (0, s) := fun cost => if_pos (by simp [hnext])
  have hgrant := (grant_grants (nextAt_canGrant hnext) (mem_of_tk htk) hneed).rotate (k := k)
  have hquiet : ∀ (v : State) code n, v.noteWait 0 code n = v := fun v code n => if_neg (by simp)
  unfold State.tokenGrant
  dsimp only
  rw [if_neg (by simp [hfed]), hpick]
  dsimp only
  rw [hnext]
  dsimp only
  rw [hquiet]
  split
  · split
    · exact hgrant.wakeRow
    · exact hgrant
  · exact hgrant

theorem pick_of_none (d : Drr) (w : Nat → Nat) {q : Nat → Bool} (hq : ∀ c, q c = false) (cost : Nat → Nat) : d.pick w q cost = none := by
  simp [Drr.pick, hq]

theorem tokenGrant_of_none {r : Fin 4} (us : Nat) (hfed : s.class0Starved (rungOf r) = false) (hnone : ∀ c, s.nextAt (rungOf r) State.crateOk c = none) : s.tokenGrant r us = s := by
  have hpick : ∀ cost, s.pickClass (rungOf r).code (fun c => (s.nextAt (rungOf r) State.crateOk c).isSome) cost = none := fun cost => by
    unfold State.pickClass
    rw [pick_of_none _ _ (fun c => by simp [hnone])]
    simp [hnone]
  unfold State.tokenGrant
  dsimp only
  rw [if_neg (by simp [hfed]), hpick]

/-! The space wait (R83). -/

/-- A ticket that waits for crate space with a segment, and one that the space wait has skipped (R83). -/
def Tk.skipped (t : Tk) : Prop := t.stage = .ready ∧ t.need = [] ∧ t.result.isSome = true

theorem skipped_not_atCrate (h : Tk.skipped t) : t.atCrate = false := by simp [Tk.atCrate, h.1]

theorem noteLeave_host_tickets (s : State) (t : Tk) : (s.noteLeave t).host.tickets = s.host.tickets ∧ (s.noteLeave t).classes.exhausted = s.classes.exhausted := by
  unfold State.noteLeave
  split
  · unfold State.noteWait
    split
    · unfold State.markWaiting
      dsimp only
      split
      · exact ⟨Laws.logFault_host_tickets _ _, by rw [Laws.logFault_classes]⟩
      · exact ⟨rfl, rfl⟩
    · exact ⟨rfl, rfl⟩
  · exact ⟨rfl, rfl⟩

theorem skip_says (s : State) (t : Tk) (cause : Nat) : ∃ y : Tk, y.id = t.id ∧ Tk.skipped y ∧ (s.skip t cause).host.tickets = putTk s.host.tickets y ∧ (s.skip t cause).classes.exhausted = s.classes.exhausted := by
  unfold State.skip
  dsimp only
  split
  · exact ⟨_, by exact rfl, ⟨by exact rfl, by exact rfl, by exact rfl⟩, rfl, rfl⟩
  · exact ⟨_, by exact rfl, ⟨by exact rfl, by exact rfl, by exact rfl⟩, rfl, rfl⟩

/-- What is left of the tickets `l` once those of the identifiers `gone` have been skipped. -/
def SkipsTo (l : List Tk) (gone : List Nat) (l' : List Tk) : Prop :=
  List.Forall₂ (fun x y : Tk => y.id = x.id ∧ (Tk.skipped y ∨ y = x) ∧ (x.id ∈ gone → Tk.skipped y)) l l'

theorem skipsTo_refl (l : List Tk) : SkipsTo l [] l := List.forall₂_same.mpr fun _ _ => ⟨rfl, .inr rfl, fun h => absurd h List.not_mem_nil⟩

theorem SkipsTo.put {l l' : List Tk} {gone : List Nat} {y : Tk} (h : SkipsTo l gone l') (hy : Tk.skipped y) : SkipsTo l (y.id :: gone) (putTk l' y) := by
  unfold SkipsTo putTk
  rw [List.forall₂_map_right_iff]
  refine h.imp fun x z ⟨hid, hz, hgone⟩ => ?_
  split
  · next hzid => exact ⟨hzid.symm.trans hid, .inl hy, fun _ => hy⟩
  · next hzid =>
    refine ⟨hid, hz, fun hmem => ?_⟩
    rcases List.mem_cons.mp hmem with hxy | hmem
    · exact absurd (hid.trans hxy) hzid
    · exact hgone hmem

theorem skips_say (l : List Tk) : ∀ {s : State} {orig : List Tk} {gone : List Nat}, SkipsTo orig gone s.host.tickets →
    ∃ gone', (∀ n ∈ gone, n ∈ gone') ∧ (∀ t ∈ l, t.id ∈ gone') ∧ SkipsTo orig gone' (l.foldl (fun s t => (s.noteLeave t).skip t 1) s).host.tickets ∧
      (l.foldl (fun s t => (s.noteLeave t).skip t 1) s).classes.exhausted = s.classes.exhausted := by
  induction l with
  | nil => exact fun h => ⟨_, fun _ h => h, fun _ h => absurd h List.not_mem_nil, h, rfl⟩
  | cons t l ih =>
    intro s orig gone h
    obtain ⟨htickets, hex⟩ := noteLeave_host_tickets s t
    obtain ⟨y, hid, hy, hput, hex'⟩ := skip_says (s.noteLeave t) t 1
    rw [htickets] at hput
    obtain ⟨gone', hold, hnew, hskips, hall⟩ := ih (s := (s.noteLeave t).skip t 1) (orig := orig) (gone := y.id :: gone) (by rw [hput]; exact h.put hy)
    refine ⟨gone', fun n hn => hold n (List.mem_cons_of_mem _ hn), fun x hx => ?_, hskips, hall.trans (hex'.trans hex)⟩
    rcases List.mem_cons.mp hx with rfl | hx
    · exact hold _ (hid ▸ List.mem_cons_self ..)
    · exact hnew x hx

theorem forall₂_of_mem_left {α β : Type} {R : α → β → Prop} {l : List α} {l' : List β} (h : List.Forall₂ R l l') {x : α} (hx : x ∈ l) : ∃ y ∈ l', R x y := by
  induction h with
  | nil => exact absurd hx List.not_mem_nil
  | cons hab _ ih =>
    rcases List.mem_cons.mp hx with rfl | hx
    · exact ⟨_, List.mem_cons_self .., hab⟩
    · obtain ⟨y, hy, hr⟩ := ih hx
      exact ⟨y, List.mem_cons_of_mem _ hy, hr⟩

theorem spaceWait_skips (htk : s.tk? t.id = some t) (hat : t.atCrate = true) (hok : s.crateOk t = false) (hspace : s.ringSpace = false) :
    ∃ u, exec (.spaceWaitExpiry t.id) s = .next u ∧ u.classes.exhausted = true ∧ (∀ x ∈ u.host.tickets, x.atCrate = false) ∧ u.host.tickets.length = s.host.tickets.length ∧
      (∀ x ∈ s.host.tickets, x.atCrate = true → ∃ y ∈ u.host.tickets, y.id = x.id ∧ y.stage = .ready ∧ y.result.isSome = true) := by
  obtain ⟨r, hr⟩ := reach_says s (t.waitSince + msCounts s.classes.spaceWaitMs)
  obtain ⟨v, hv⟩ : ∃ v : State, v = { s with ledger := { s.ledger with rtc := r }, classes := { s.classes with exhausted := true } } := ⟨_, rfl⟩
  obtain ⟨w, hw⟩ : ∃ w, w = (s.host.tickets.filter Tk.atCrate).foldl (fun s t => (s.noteLeave t).skip t 1) v := ⟨_, rfl⟩
  have hgo : s.spaceWait t.id = w.pruneRot := by
    unfold State.spaceWait
    rw [htk]
    dsimp only
    rw [if_pos (by simp [hat, hok, hspace]), hr, hw, hv]
  obtain ⟨gone, _, hgone, hskips, hex⟩ := skips_say (s.host.tickets.filter Tk.atCrate) (s := v) (orig := s.host.tickets) (gone := []) (by rw [hv]; exact skipsTo_refl _)
  rw [← hw] at hskips hex
  have hskipped : ∀ x ∈ s.host.tickets, x.atCrate = true → x.id ∈ gone := fun x hx hxat => hgone x (List.mem_filter.mpr ⟨hx, hxat⟩)
  refine ⟨w.pruneRot, congrArg Host.Outcome.next hgo, hex.trans (by rw [hv]), fun y hy => ?_, hskips.length_eq.symm, fun x hx hxat => ?_⟩
  · obtain ⟨x, hx, _, hkept, hgoneSkipped⟩ := forall₂_of_mem_left (R := fun y x => _) hskips.flip hy
    cases hxat : x.atCrate with
    | true => exact skipped_not_atCrate (hgoneSkipped (hskipped x hx hxat))
    | false =>
      rcases hkept with hsk | rfl
      · exact skipped_not_atCrate hsk
      · exact hxat
  · obtain ⟨y, hy, hid, _, hgoneSkipped⟩ := forall₂_of_mem_left hskips hx
    obtain ⟨hstage, _, hresult⟩ := hgoneSkipped (hskipped x hx hxat)
    exact ⟨y, hy, hid, hstage, hresult⟩

end

/-- Settles O19: a ticket that takes its last rung is admitted with what the rung gives, nothing is granted where nothing can be, and the space wait skips every ticket at the crate rung. -/
theorem tokensGranted : Obligations.TokensGranted := by
  unfold Obligations.TokensGranted
  refine ⟨fun s us r k t hfed hnext htk hneed => ?_, fun s us r hfed hnone => congrArg Host.Outcome.next (tokenGrant_of_none us hfed hnone),
    fun s t htk hat hok hspace => spaceWait_skips htk hat hok hspace⟩
  obtain ⟨⟨t', ht, hstage, hn, hf, hk, hb, h0, h1, h2, h2', h3⟩, hfetch, hstaging, hread, hvault, hrings⟩ := tokenGrant_grants us hfed hnext htk hneed
  exact ⟨_, t', rfl, ht, hstage, hn, hf, hk, hb, hfetch, h0, h1, fun hr hno => ⟨h2 hr hno, hstaging hr hno⟩, fun hr hyes => ⟨h2' hr hyes, hread hr hyes⟩, h3, hvault, hrings⟩

end Sys2Proof.Proofs
end


section
/-! SUPPORT. Ingest tickets: their reads, their failed reads, and the stall that takes one up (R11, R64, R171, R177). -/

namespace Sys2Proof.Proofs
open Sys2Proof Sys2Proof.Machine Sys2Proof.Safety

section
variable {s : State} {a : TkArg} {t : Tk}

/-! The port that reads (R64). -/

theorem aer_onlyHost (s : State) (p : Nat) (l : List HostRead) : OnlyHost s (s.aer p l) := by
  unfold State.aer State.setPort OnlyHost
  split <;> rfl

/-- Reads reported at a port change neither the tickets, nor the ring table, nor what goes to the host. -/
theorem aer_host (s : State) (p : Nat) (l : List HostRead) : (s.aer p l).host.tickets = s.host.tickets ∧ (s.aer p l).host.rings = s.host.rings ∧ (s.aer p l).host.out = s.host.out := by
  unfold State.aer State.setPort
  split <;> exact ⟨rfl, rfl, rfl⟩

theorem aer_failed (s : State) (p : Fin 2) : ((s.aer p.val [.err]).port p.val).aerLogged = (s.port p.val).aerLogged + 1 :=
  (congrArg Port.aerLogged (Laws.setPort_port s p _)).trans rfl

theorem setTk_onlyHost {u : State} (h : OnlyHost s u) (y : Tk) : OnlyHost s (u.setTk y) := by
  unfold OnlyHost at h ⊢
  rw [h]
  rfl

/-- An ingest ticket whose reads are done is staged (R11). -/
theorem ingest_stages {op : Nat} (hadm : Admitted s a op t) (hmasters : s.masters t = true) (r : IngestRead) :
    ∃ t', OnlyHost s (s.ingest a op r) ∧ (s.ingest a op r).tk? a.id = some t' ∧ t' = { t with stage := .staged, ing := ingestOf t.tk r } ∧
      (s.ingest a op r).host.tickets.length = s.host.tickets.length ∧ (s.ingest a op r).host.rings = s.host.rings ∧ (s.ingest a op r).host.out = s.host.out := by
  have hgo : s.ingest a op r = (s.aer (s.portOf t) [r.basket, r.side, r.data]).setTk { t with stage := .staged, ing := ingestOf t.tk r } := by
    unfold State.ingest
    rw [withTk_of_admitted hadm]
    exact if_pos hmasters
  obtain ⟨_, htk, _⟩ := hadm
  obtain ⟨htickets, hrings, hout⟩ := aer_host s (s.portOf t) [r.basket, r.side, r.data]
  have hid := tk_id htk
  rw [hgo]
  refine ⟨_, setTk_onlyHost (aer_onlyHost ..) _, ?_, rfl, ?_, hrings, hout⟩
  · rw [← hid]
    exact setTk_tk_self (by rw [htickets]; exact ⟨t, List.mem_of_find?_eq_some htk, rfl⟩)
  · exact (List.length_map _).trans (by rw [htickets])

/-- A failed read of an admitted ingest ticket stages it with cause HOST_READ (R64). -/
theorem completionError_stages (htk : s.tk? a.id = some t) (hstage : t.stage = .admitted) (hmasters : s.masters t = true) (hop : t.tk.opcode = 1 ∨ t.tk.opcode = 2) :
    ∃ t', OnlyHost s (s.completionError a) ∧ (s.completionError a).tk? a.id = some t' ∧ t'.stage = .staged ∧ t'.ing.cause = 0x22 ∧
      ((s.completionError a).port (s.portOf t)).aerLogged = (s.port (s.portOf t)).aerLogged + 1 := by
  have hgo : s.completionError a = (s.aer (s.portOf t) [.err]).setTk { t with stage := .staged, ing := { read := true, cause := 0x22 } } := by
    unfold State.completionError
    rw [htk]
    dsimp only
    rw [if_neg (by simp [hmasters]), if_pos hop, if_pos hstage]
  obtain ⟨htickets, _, _⟩ := aer_host s (s.portOf t) [.err]
  have hid := tk_id htk
  rw [hgo]
  refine ⟨{ t with stage := .staged, ing := { read := true, cause := 0x22 } }, setTk_onlyHost (aer_onlyHost ..) _, ?_, rfl, rfl, aer_failed s (s.ring t.ring).port⟩
  rw [← hid]
  exact setTk_tk_self (by rw [htickets]; exact ⟨t, List.mem_of_find?_eq_some htk, rfl⟩)

theorem completionError_ends (htk : s.tk? a.id = some t) (hstage : t.stage = .admitted) (hmasters : s.masters t = true) (h1 : t.tk.opcode ≠ 1) (h2 : t.tk.opcode ≠ 2) (hreads : t.tk.readsHost = true) :
    s.completionError a = (s.aer (s.portOf t) [.err]).finishWith t 0x10 a.us := by
  unfold State.completionError
  rw [htk]
  dsimp only
  rw [if_neg (by simp [hmasters]), if_neg (by simp [h1, h2]), if_pos ⟨hstage, hreads⟩]

/-- The check of a copy changes nothing but what the DDR4 holds (R308). -/
theorem checkCopy_says (s : State) (c : Copy) : ∃ d, s.checkCopy c = { s with ddr := d } := by
  unfold State.checkCopy
  split
  · exact ⟨s.ddr, rfl⟩
  · split
    · exact ⟨s.ddr, rfl⟩
    · cases c <;> exact ⟨_, rfl⟩

/-! The stall that takes an item up (R171, R177). -/

section
variable {unit : Nat} (hfree : s.units.items.any (fun i => i.unit == unit) = false)
include hfree

theorem noItem_of_unit {i : Item} (hi : i ∈ s.units.items) : i.unit ≠ unit := fun hu => by
  have hany : s.units.items.any (fun i => i.unit == unit) = true := List.any_eq_true.mpr ⟨i, hi, by simpa using hu⟩
  rw [hfree] at hany
  cases hany

theorem endPlain_of_free (hruns : Runs s) : s.endPlain (fun i => i.unit == unit) = s := by
  obtain ⟨hwarn, hpll⟩ := hruns
  have hnone : s.units.items.find? (fun i => (i.unit == unit) && (i.core || s.coreFree i.unit)) = none :=
    List.find?_eq_none.mpr fun i hi => by simp [noItem_of_unit hfree hi]
  unfold State.endPlain
  rw [if_neg (by simp [State.enginesPaused, hwarn, hpll]), hnone]

theorem itemStart_takes (hruns : Runs s) {st e : Nat} (hnext : s.nextItem unit = some (t, st))
    (hepoch : t.epoch = some e ∨ (t.epoch = none ∧ (s.currentEpoch (s.groupOf t)).map EpochKey.epoch = some e)) : s.itemStart unit = s.startItem { t with stall := some st } unit e := by
  obtain ⟨hwarn, hpll⟩ := hruns
  have hcore : s.coreFree unit = true := List.all_eq_true.mpr fun i hi => by simp [noItem_of_unit hfree hi]
  have hcount : s.units.items.countP (fun i => i.unit == unit) = 0 := List.countP_eq_zero.mpr fun i hi => by simpa using noItem_of_unit hfree hi
  unfold State.itemStart
  dsimp only
  rw [endPlain_of_free hfree ⟨hwarn, hpll⟩, if_neg (by simp [State.enginesPaused, hwarn, hpll, hcore, hcount]), hnext]
  dsimp only
  rcases hepoch with he | ⟨he, hcur⟩
  · rw [he]
  · rw [he, hcur]

/-- The item stands on a stall without items: in its first work slot, on the cores (R171). -/
theorem startItem_takes {x : Tk} {e : Nat} {ap : Applet} (hap : x.applet = some ap) :
    ∃ d, s.startItem x unit e =
      { (({ s with ddr := d } : State).setTk { x with stage := .running, epoch := some e, repull := false }) with
        units := { s.units with items := s.units.items ++ [{ ticket := x.id, unit := unit, slot := 0, core := true, epoch := e, vm := s.vmStart x ap }] } } := by
  have hcopy : ∃ d, (x.templ.map (fun p => s.checkCopy (.image p.applet))).getD s = { s with ddr := d } := by
    cases x.templ with
    | none => exact ⟨_, rfl⟩
    | some p => exact checkCopy_says s (.image p.applet)
  have hslot : ∀ d, ({ s with ddr := d } : State).lowSlot unit = 0 := fun d => by
    have hall : s.units.items.all (fun i => i.unit != unit || i.slot != 0) = true := List.all_eq_true.mpr fun i hi => by simp [noItem_of_unit hfree hi]
    unfold State.lowSlot
    rw [show List.range 4 = [0, 1, 2, 3] from rfl]
    exact congrArg (Option.getD · 0) (List.find?_cons_of_pos (p := fun n => s.units.items.all (fun i => i.unit != unit || i.slot != n)) hall)
  have hcore : s.units.items.all (fun i => i.unit != unit || !i.core) = true := List.all_eq_true.mpr fun i hi => by simp [noItem_of_unit hfree hi]
  obtain ⟨d, hd⟩ := hcopy
  refine ⟨d, ?_⟩
  unfold State.startItem
  rw [hd, hap]
  dsimp only
  rw [hslot, hcore]
  rfl

end

end

/-- A machine at its start reads 0 in every register (R177, R180). -/
theorem vmStart_get (s : State) (t : Tk) (ap : Applet) (r : Fin 16) : (s.vmStart t ap).get r = 0 := by
  unfold Vm.get
  split
  · rfl
  · exact Vector.getElem_replicate _

/-- Settles O22: the reads stage the ticket, a failed read stages it with its cause or ends it, and a free stall takes the staged ticket up with a machine at its start. -/
theorem ingestRuns : Obligations.IngestRuns := by
  unfold Obligations.IngestRuns
  refine ⟨fun s a r t c op hc hadm hmasters => ?_, fun s t unit st e ap hruns hfree hnext htk hap hepoch => ?_, fun s a t htk hstage hmasters => ⟨fun hop => ?_, fun h1 h2 hreads => ?_⟩⟩
  · obtain ⟨t', h⟩ := ingest_stages hadm hmasters r
    have hgo : exec c s = .next (s.ingest a op r) := by
      rcases List.mem_cons.mp hc with hcop | hcop
      · cases hcop
        rfl
      · cases List.mem_singleton.mp hcop
        rfl
    exact ⟨_, t', hgo, h⟩
  · obtain ⟨d, hgo⟩ := startItem_takes (x := { t with stall := some st }) (e := e) hfree hap
    have hgo' : exec (.itemStart unit) s = .next _ := congrArg Host.Outcome.next ((itemStart_takes hfree hruns hnext hepoch).trans hgo)
    have hput := setTk_tk_self (s := s) (y := { t with stall := some st, stage := .running, epoch := some e, repull := false }) ⟨t, List.mem_of_find?_eq_some htk, rfl⟩
    exact ⟨_, s.vmStart { t with stall := some st } ap, { t with stall := some st, stage := .running, epoch := some e, repull := false }, hgo', rfl, rfl, rfl, rfl, rfl, vmStart_get s _ ap, rfl, rfl, rfl, hput, rfl, rfl, rfl, rfl, rfl⟩
  · obtain ⟨t', h⟩ := completionError_stages htk hstage hmasters hop
    exact ⟨_, t', rfl, h⟩
  · exact congrArg Host.Outcome.next (completionError_ends htk hstage hmasters h1 h2 hreads)

end Sys2Proof.Proofs
end


section
/-! SUPPORT. Commits: one entry at the head of a tab's window (R9, R99 to R102, R112, R117). -/

namespace Sys2Proof.Proofs
open Sys2Proof Sys2Proof.Machine Sys2Proof.Safety

section
variable {b s u : State} {a : TkArg} {t : Tk} {n : Nat}

/-! Receipts posted take tickets out and put none in (R58). -/

theorem postReceipt_tickets (s : State) (n : Nat) (rc : Receipt) : (s.postReceipt n rc).host.tickets = s.host.tickets := by
  have hmessage : ∀ v : State, (v.ringMessage n).host.tickets = v.host.tickets := fun v => by
    unfold State.ringMessage
    dsimp only
    split <;> rfl
  have hmoderate : ∀ v : State, (v.moderate n rc.noIrq).host.tickets = v.host.tickets := fun v => by
    unfold State.moderate
    dsimp only
    split
    · split
      · rfl
      · exact hmessage v
    · split
      · rfl
      · split
        · exact hmessage _
        · rfl
  have hlat : ∀ (v : State) c, (v.latReceipt c rc).host.tickets = v.host.tickets := fun v c => by
    obtain ⟨k, hk⟩ := latReceipt_says v c rc
    rw [hk]
  have hwrite : (s.writeReceipt n rc).host.tickets = s.host.tickets := (hlat _ _).trans (hmoderate _)
  unfold State.postReceipt
  dsimp only
  split
  · rfl
  · split
    · rfl
    · split
      · rfl
      · exact hwrite

theorem postReady_tickets (k : Nat) : ∀ s : State, ∀ x ∈ (postReady k s).host.tickets, x ∈ s.host.tickets := by
  induction k with
  | zero => exact fun s x hx => hx
  | succ k ih =>
    intro s x hx
    unfold postReady at hx
    split at hx
    · next s1 hone =>
      have hin := ih s1 x hx
      unfold State.postOne at hone
      split at hone
      · split at hone
        · cases hone
          rw [postReceipt_tickets] at hin
          exact List.mem_of_mem_filter hin
        · cases hone
      · cases hone
    · exact hx

/-- A ticket that ends leaves no ticket of its identifier but one that is done (R78). -/
theorem finish_tickets (s : State) (t : Tk) (rc : Receipt) (us : Nat) : ∀ x ∈ (s.finish t rc us).host.tickets, (x.id = t.id ∧ x.stage = .done) ∨ (x ∈ s.host.tickets ∧ x.id ≠ t.id) := by
  intro x hx
  have hin := postReady_tickets _ _ x hx
  unfold State.setTk putTk at hin
  obtain ⟨y, hy, hyx⟩ := List.mem_map.mp hin
  rw [returnTokens_host] at hy
  dsimp only at hyx
  split at hyx
  · exact .inl ⟨hyx ▸ rfl, hyx ▸ rfl⟩
  · next hid => exact .inr ⟨hyx ▸ hy, hyx ▸ hid⟩

/-! An entry put (R9, R112, R117). -/

theorem crateFor_opens (s : State) (stream : Nat) (inPrepared : Bool) (k : Nat) : Opens s (s.crateFor stream inPrepared k).1 := by
  unfold State.crateFor
  split
  · exact (opens_refl s).ensureStream
  · split
    · exact opens_refl s
    · split
      · exact opens_refl s
      · exact (opens_refl s).summarise

theorem Opens.placeIn {c o tick} (h : Opens b s) : Opens b (s.placeIn c o tick) := .ite h.modCrate.withFlash h.modCrate

/-- What an entry put at the head of its tab leaves (R9, R117). -/
structure Puts (s : State) (e : Entry) (u : State) (e' : Entry) : Prop where
  hdr : e'.hdr = e.hdr
  cipher : e'.cipher = e.cipher
  ctHash : e'.ctHash = e.ctHash
  chain : e'.chain = chainNext (s.headOfTab e.hdr.tab) e.hdr.bytes e.ctHash
  entries : u.tabs.entries = s.tabs.entries ++ [e']
  canonical : TabsCanonical u
  nextSeq : (u.tab e.hdr.tab).nextSeq = e.hdr.seq + 1
  sealed : (u.tab e.hdr.tab).sealed = e.hdr.seq
  places : u.host.tickets.map Tk.place = s.host.tickets.map Tk.place

theorem putEntry_puts (hcanon : TabsCanonical s) {e e' : Entry} {stream staging : Nat} {inPrepared : Bool} {keep : Option (List Word64)}
    (h : s.putEntry e stream inPrepared staging keep = some (u, e')) : Puts s e u e' := by
  unfold State.putEntry at h
  dsimp only at h
  split at h
  · cases h
  · next cr _ =>
    obtain ⟨v, hv⟩ : ∃ v, v = (((s.crateFor stream inPrepared (slotsOf e.objectLength)).1.placeIn cr { type := 1, tab := e.hdr.tab, key := e.hdr.seq, length := e.objectLength, staging := staging }
      s.ledger.current).maybeClose cr.id) := ⟨_, rfl⟩
    have hopens : Opens s v := hv ▸ (crateFor_opens s stream inPrepared _).placeIn.maybeClose
    rw [← hv] at h
    cases h
    have hvcanon : TabsCanonical v := by
      unfold TabsCanonical
      rw [hopens.tabs]
      exact hcanon
    have hentries : v.tabs.entries = s.tabs.entries := by rw [hopens.tabs]
    refine ⟨rfl, rfl, rfl, rfl, congrArg (· ++ _) hentries, Laws.set_wf _ _ _ _ hvcanon, ?_, ?_, hopens.places⟩
    · exact congrArg Tab.nextSeq (Laws.setTab_tab_same _ _ _ (by exact hvcanon))
    · exact congrArg Tab.sealed (Laws.setTab_tab_same _ _ _ (by exact hvcanon))

/-! The head of a tab's window (R112). -/

theorem unreserve_says (s : State) (t : Tk) : ∃ l, s.unreserve t = s.setCrates l := by
  unfold State.unreserve
  split
  · exact ⟨_, rfl⟩
  · exact ⟨s.flash.crates, rfl⟩

/-- Only ticket `t` stands in tab `n`'s window, and it is the one that its identifier names: it is the window's oldest. -/
theorem oldestSlot_of_only (hmem : s.tk? t.id = some t) (htab : t.tab = some n) (htok : t.tabTok = true) (hstage : t.stage ≠ .done) (honly : ∀ x ∈ s.host.tickets, x.tab = some n → x.id = t.id) :
    s.oldestSlot n = some t := by
  unfold State.oldestSlot
  unfold State.tk? at hmem
  rw [List.find?_eq_some_iff_append] at hmem ⊢
  obtain ⟨_, l, r, hl, hbefore⟩ := hmem
  refine ⟨by simp [htok, htab, hstage], l, r, hl, fun x hx => ?_⟩
  have hxid : x.id ≠ t.id := by simpa using hbefore x hx
  have hxtab : x.tab ≠ some n := fun hxt => hxid (honly x (hl ▸ List.mem_append_left _ hx) hxt)
  simp [hxtab]

theorem oldestSlot_of_none (hnone : ∀ x ∈ s.host.tickets, x.tab = some n → x.stage = .done) : s.oldestSlot n = none :=
  List.find?_eq_none.mpr fun x hx => by
    by_cases hxt : x.tab = some n
    · simp [hnone x hx hxt]
    · simp [hxt]

/-- The one ticket of a tab's window, ready, commits, and nothing follows it (R112). -/
theorem commitTab_of_only (hpll : s.power.pllSwitching = false) (hmem : s.tk? t.id = some t) (htab : t.tab = some n) (htok : t.tabTok = true) (hstage : t.stage = .ready)
    (honly : ∀ x ∈ s.host.tickets, x.tab = some n → x.id = t.id) (hcommit : s.commitOne t = some u) (hdone : ∀ x ∈ u.host.tickets, x.tab = some n → x.stage = .done) : s.commitTab n = u := by
  refine (if_neg (by simp [hpll])).trans ?_
  rw [commitRun, oldestSlot_of_only hmem htab htok (by rw [hstage]; decide) honly]
  dsimp only
  rw [if_pos hstage, hcommit]
  dsimp only
  rw [commitRun, oldestSlot_of_none hdone]

theorem honly_setTk {y : Tk} (honly : ∀ x ∈ s.host.tickets, x.tab = some n → x.id = y.id) : ∀ x ∈ (s.setTk y).host.tickets, x.tab = some n → x.id = y.id := fun x hx hxt => by
  obtain ⟨z, hz, hzx⟩ := List.mem_map.mp hx
  split at hzx
  · rw [← hzx]
  · exact hzx ▸ honly z hz (hzx ▸ hxt)

/-! What each commit leaves (R99 to R102, R112). -/

/-- The commit's last act: its ticket ends, in a state with the same tickets in the same tabs. -/
def EndsIn (s : State) (t : Tk) (w u : State) : Prop := (∃ (y : Tk) (rc : Receipt), y.id = t.id ∧ u = w.finish y rc 0) ∧ w.host.tickets.map Tk.place = s.host.tickets.map Tk.place

theorem EndsIn.tabs {w : State} (h : EndsIn s t w u) : u.tabs = w.tabs := by
  obtain ⟨⟨_, _, _, rfl⟩, _⟩ := h
  exact ((posts_refl w).finish).tabs

theorem EndsIn.tab {w : State} (h : EndsIn s t w u) (k : Nat) : u.tab k = w.tab k := by
  unfold State.tab
  rw [h.tabs]

theorem EndsIn.done {w : State} (h : EndsIn s t w u) (honly : ∀ x ∈ s.host.tickets, x.tab = some n → x.id = t.id) : ∀ x ∈ u.host.tickets, x.tab = some n → x.stage = .done := by
  obtain ⟨⟨y, rc, hid, rfl⟩, hplaces⟩ := h
  intro x hx hxt
  rcases finish_tickets w y rc 0 x hx with ⟨_, hstage⟩ | ⟨hin, hne⟩
  · exact hstage
  · have hplace : Tk.place x ∈ s.host.tickets.map Tk.place := hplaces ▸ List.mem_map_of_mem hin
    obtain ⟨z, hz, hzx⟩ := List.mem_map.mp hplace
    have hzid := honly z hz ((congrArg Prod.snd hzx).trans hxt)
    exact absurd ((congrArg Prod.fst hzx).symm.trans (hzid.trans hid.symm)) hne

theorem commitOne_opens (hcanon : TabsCanonical s) (hop : t.tk.opcode = 8) (htab : t.tab = some n) (h : s.commitOne t = some u) :
    ∃ w e, EndsIn s t w u ∧ w.tabs.entries = s.tabs.entries ++ [e] ∧ e.hdr.kind = 4 ∧ e.hdr.seq = (s.tab n).nextSeq ∧ (w.tab n).isOpen = true ∧
        (w.tab n).source = t.tk.source ∧ (w.tab n).template = t.tk.op 48 2 ∧ (w.tab n).nextSeq = (s.tab n).nextSeq + 1 ∧ (w.tab n).sealed = (s.tab n).nextSeq := by
  obtain ⟨l, hl⟩ := unreserve_says s t
  unfold State.commitOne at h
  rw [hl] at h
  dsimp only at h
  rw [hop, htab] at h
  obtain ⟨⟨v, e⟩, hput, hu⟩ := Option.map_eq_some_iff.mp h
  have hputs := putEntry_puts (by exact hcanon) hput
  have hset := fun c : Tab => Laws.setTab_tab_same v n c hputs.canonical
  refine ⟨v.opened n (t.tk.op 48 2) t.tk.source (t.newAffinity.getD (s.tab n).home), e, ⟨⟨_, _, by exact rfl, hu.symm⟩, hputs.places⟩, hputs.entries, (congrArg Header.kind hputs.hdr).trans rfl,
    (congrArg Header.seq hputs.hdr).trans rfl, (congrArg Tab.isOpen (hset _)).trans rfl, (congrArg Tab.source (hset _)).trans rfl, (congrArg Tab.template (hset _)).trans rfl,
    (congrArg Tab.nextSeq (hset _)).trans hputs.nextSeq, (congrArg Tab.sealed (hset _)).trans hputs.sealed⟩

theorem commitOne_closes (hcanon : TabsCanonical s) (hop : t.tk.opcode = 9) (htab : t.tab = some n) (h : s.commitOne t = some u) :
    ∃ w e, EndsIn s t w u ∧ w.tabs.entries = s.tabs.entries ++ [e] ∧ e.hdr.kind = 5 ∧ e.hdr.seq = (s.tab n).nextSeq ∧ (w.tab n).isOpen = false ∧
        (w.tab n).closing = false ∧ (w.tab n).ring = 0xFFFF ∧ (w.tab n).sealed = (s.tab n).nextSeq := by
  obtain ⟨l, hl⟩ := unreserve_says s t
  unfold State.commitOne at h
  rw [hl] at h
  dsimp only at h
  rw [hop, htab] at h
  obtain ⟨⟨v, e⟩, hput, hu⟩ := Option.map_eq_some_iff.mp h
  have hputs := putEntry_puts (by exact hcanon) hput
  have hset := fun c : Tab => Laws.setTab_tab_same v n c hputs.canonical
  exact ⟨v.setTab n { v.tab n with isOpen := false, closing := false, ring := 0xFFFF }, e, ⟨⟨_, _, by exact rfl, hu.symm⟩, hputs.places⟩, hputs.entries, (congrArg Header.kind hputs.hdr).trans rfl,
    (congrArg Header.seq hputs.hdr).trans rfl, (congrArg Tab.isOpen (hset _)).trans rfl, (congrArg Tab.closing (hset _)).trans rfl, (congrArg Tab.ring (hset _)).trans rfl,
    (congrArg Tab.sealed (hset _)).trans hputs.sealed⟩

/-- A capture later than the tab's last, or a template that asks for no order, leaves the result as it is (R116). -/
theorem captureOrder_in_order {r : TillResult} (h : t.templ.any Template.captureMonotonic = false ∨ (s.tab (t.tab.getD 0)).lastCapture < t.ing.captureStart) : s.captureOrder t r = (t, r) := by
  unfold State.captureOrder
  dsimp only
  rw [if_neg]
  rcases h with h | h
  · simp [h]
  · simp [Nat.not_le.mpr h]

theorem commitOne_ingests {r : TillResult} (hcanon : TabsCanonical s) (hop : t.tk.opcode = 1 ∨ t.tk.opcode = 2) (htab : t.tab = some n) (hauto : t.autoTab = false) (hr : t.result = some r)
    (horder : t.templ.any Template.captureMonotonic = false ∨ (s.tab n).lastCapture < t.ing.captureStart) (h : s.commitOne t = some u) :
    ∃ w e, EndsIn s t w u ∧ w.tabs.entries = s.tabs.entries ++ [e] ∧ e.hdr = ({ t with seq := (s.tab n).nextSeq } : Tk).header r ∧ e.cipher = r.cipher ∧ e.hdr.seq = (s.tab n).nextSeq ∧
      (w.tab n).nextSeq = (s.tab n).nextSeq + 1 ∧ (w.tab n).sealed = (s.tab n).nextSeq ∧ e.chain = chainNext (s.headOfTab n) e.hdr.bytes e.ctHash := by
  obtain ⟨l, hl⟩ := unreserve_says s t
  have hcapture : (s.setCrates l).captureOrder { t with crateTok := false, result := some r, seq := ((s.setCrates l).tab n).nextSeq } r =
      ({ t with crateTok := false, result := some r, seq := ((s.setCrates l).tab n).nextSeq }, r) :=
    captureOrder_in_order (by dsimp only; rw [htab]; exact horder)
  have hn : t.tab.getD 0 = n := by rw [htab]; rfl
  have h8 : t.tk.opcode ≠ 8 := by omega
  have h9 : t.tk.opcode ≠ 9 := by omega
  unfold State.commitOne at h
  rw [hl] at h
  dsimp only at h
  split at h
  · next hop8 => exact absurd hop8 h8
  · next hop9 => exact absurd hop9 h9
  · rw [hr] at h
    dsimp only at h
    rw [if_neg (by simp [hauto]), Option.bind_some, hn, hcapture] at h
    obtain ⟨⟨v, e⟩, hput, hu⟩ := Option.map_eq_some_iff.mp h
    have hputs := putEntry_puts (by exact hcanon) hput
    obtain ⟨w, hw⟩ : ∃ w, w = if r.stored then v.touchEpoch r.group r.epoch (s.setCrates l).ledger.current else v := ⟨_, rfl⟩
    have htabs : w.tabs = v.tabs := by
      rw [hw]
      split <;> rfl
    have hhost : w.host = v.host := by
      rw [hw]
      split <;> rfl
    have htab' : w.tab n = v.tab n := by
      unfold State.tab
      rw [htabs]
    dsimp only at hu
    rw [← hw] at hu
    have htabNo : (Tk.header { t with crateTok := false, result := some r, seq := ((s.setCrates l).tab n).nextSeq } r).tab = n := hn
    obtain ⟨hhdr, hcipher, hct, hchain, hentries, _, hnext, hsealed, hplaces⟩ := hputs
    dsimp only at hhdr hnext hsealed hchain
    rw [htabNo] at hnext hsealed hchain
    refine ⟨w, e, ⟨⟨_, _, by exact rfl, hu.symm⟩, by rw [hhost]; exact hplaces⟩, by rw [htabs]; exact hentries, hhdr.trans rfl, hcipher, (congrArg Header.seq hhdr).trans rfl,
      (congrArg Tab.nextSeq htab').trans hnext, (congrArg Tab.sealed htab').trans hsealed, hchain.trans ?_⟩
    rw [hhdr, hct]
    rfl

/-- No item ends where the tickets that the items serve are not running (R112). -/
theorem endPlain_of_not_running {p : Item → Bool} (h : ∀ i, p i = true → ∀ x, s.tk? i.ticket = some x → x.stage ≠ .running) : s.endPlain p = s := by
  unfold State.endPlain
  split
  · rfl
  · split
    · next i hi =>
      have hfound := List.find?_some hi
      have hp : p i = true := (Bool.and_eq_true _ _ |>.mp hfound).1
      split
      · next x hx => exact if_pos (h i hp x hx)
      · rfl
    · rfl

/-- A record ticket's entry commits at once (R99, R101). -/
theorem record_commits {op : Nat} (hadm : Admitted s a op t) (htab : t.tab = some n) (htok : t.tabTok = true) (honly : ∀ x ∈ s.host.tickets, x.tab = some n → x.id = t.id)
    (hcommit : (s.setTk { t with stage := .ready }).commitOne { t with stage := .ready } = some u) (hdone : ∀ x ∈ u.host.tickets, x.tab = some n → x.stage = .done) : s.record a op = u := by
  have hgo : s.record a op = (s.setTk { t with stage := .ready }).commitTab n := by
    unfold State.record
    rw [withTk_of_admitted hadm, htab]
    rfl
  obtain ⟨hpll, htk, _⟩ := hadm
  have hput := setTk_tk_self (s := s) (y := { t with stage := .ready }) ⟨t, List.mem_of_find?_eq_some htk, rfl⟩
  exact hgo.trans (commitTab_of_only hpll hput htab htok rfl (honly_setTk honly) hcommit hdone)

end

/-- Settles O24: the ticket is the only one of its tab's window, its entry goes to the tab's head, and its end leaves the tab as the commit made it. -/
theorem tabsCommit : Obligations.TabsCommit := by
  unfold Obligations.TabsCommit
  refine ⟨fun s a t n hcanon htab htok honly => ⟨fun hadm hsome => ?_, fun hadm hsome => ?_⟩, fun s a t n r hcanon hpll htk hstage hop htab htok hauto hr horder honly hsome => ?_⟩
  · obtain ⟨u, hu⟩ := Option.isSome_iff_exists.mp hsome
    obtain ⟨w, e, hends, hentries, hkind, hseq, hopen, hsource, htempl, hnext, hsealed⟩ := commitOne_opens (s := s.setTk { t with stage := .ready }) (t := { t with stage := .ready }) hcanon hadm.2.2.2 htab hu
    refine ⟨u, e, congrArg Host.Outcome.next (record_commits hadm htab htok honly hu (hends.done (honly_setTk honly))), ?_⟩
    rw [hends.tabs, hends.tab]
    exact ⟨hentries, hkind, hseq, hopen, hsource, htempl, hnext, hsealed⟩
  · obtain ⟨u, hu⟩ := Option.isSome_iff_exists.mp hsome
    obtain ⟨w, e, hends, hentries, hkind, hseq, hopen, hclosing, hring, hsealed⟩ := commitOne_closes (s := s.setTk { t with stage := .ready }) (t := { t with stage := .ready }) hcanon hadm.2.2.2 htab hu
    refine ⟨u, e, congrArg Host.Outcome.next (record_commits hadm htab htok honly hu (hends.done (honly_setTk honly))), ?_⟩
    rw [hends.tabs, hends.tab]
    exact ⟨hentries, hkind, hseq, hopen, hclosing, hring, hsealed⟩
  · obtain ⟨u, hu⟩ := Option.isSome_iff_exists.mp hsome
    obtain ⟨w, e, hends, hentries, hhdr, hcipher, hseq, hnext, hsealed, hchain⟩ := commitOne_ingests hcanon hop htab hauto hr horder hu
    have hid := tk_id htk
    have hplain : s.endPlain (fun i => i.ticket == a.id) = s := endPlain_of_not_running (fun i hi => by rw [show i.ticket = a.id by simpa using hi, htk]; exact fun x hx => by cases hx; rw [hstage]; decide)
    have hgo : s.tillCommit a = u := by
      unfold State.tillCommit
      dsimp only
      rw [hplain, htk]
      dsimp only
      rw [htab]
      dsimp only
      rw [if_pos htok]
      exact commitTab_of_only hpll (by rw [hid]; exact htk) htab htok hstage honly hu (hends.done honly)
    refine ⟨u, e, congrArg Host.Outcome.next hgo, ?_⟩
    rw [hends.tabs, hends.tab]
    exact ⟨hentries, hhdr, hcipher, hseq, hnext, hsealed, hchain⟩

end Sys2Proof.Proofs
end


section
/-! SUPPORT. Calls of the row engines that are taken up at once: the arbitration among one caller, the operation that the engine runs, and what it yields for a whole message (R68, R199 to R205, R214). -/

namespace Sys2Proof.Proofs
open Sys2Proof Sys2Proof.Machine Sys2Proof.Safety

/-! The arbitration where one class waits (R68). -/

theorem roundsTo_gives_credit (d : Int) {w : Nat} (hw : 0 < w) : 0 < d + (roundsTo d w * w : Nat) := by
  unfold roundsTo
  split
  · next h => simpa using h
  · next h =>
    have hlt : (-d).toNat < ((-d).toNat / w + 1) * w := by
      rw [Nat.add_mul, Nat.one_mul]
      exact Nat.lt_div_mul_add hw
    omega

theorem pick_of_one (d : Drr) (w cost : Nat → Nat) {q : Nat → Bool} {k : Nat} (hk : k = 1 ∨ k = 2 ∨ k = 3) (hq : ∀ j, q j = decide (j = k)) : ∃ d', d.pick w q cost = some (k, d') := by
  have hwaiting : [1, 2, 3].filter (fun c => q c && decide (0 < w c)) = if 0 < w k then [k] else [] := by
    rcases hk with rfl | rfl | rfl <;> simp only [hq, List.filter_cons, List.filter_nil] <;> simp
  have hfound : [1, 2, 3].find? q = some k := by
    rcases hk with rfl | rfl | rfl <;> simp [hq]
  unfold Drr.pick
  rw [hwaiting]
  split_ifs with hw
  · have hcredit : 0 < d.credit k + (roundsTo (d.credit k) (w k) : Int) * w k := by exact_mod_cast roundsTo_gives_credit (d.credit k) hw
    simp [hcredit]
  · simp [hfound]

/-- Where only class `k` waits, the arbitration serves it; only its credits change. -/
theorem pickClass_of_one (s : State) (point : Nat) (k : Fin 4) (cost : Nat → Nat) :
    ∃ m, s.pickClass point (fun j => k.val == j) cost = some (k.val, { s with classes := { s.classes with drr := m } }) := by
  by_cases hk : k = 0
  · subst hk
    exact ⟨s.classes.drr, rfl⟩
  · have hclass : k.val = 1 ∨ k.val = 2 ∨ k.val = 3 := by omega
    obtain ⟨d', hd⟩ := pick_of_one (s.classes.drr.get noDrr point) s.weight cost (q := fun j => k.val == j) hclass (fun j => by simp [eq_comm, beq_eq_decide])
    refine ⟨s.classes.drr.set noDrr point d', ?_⟩
    unfold State.pickClass
    rw [if_neg (by simpa using fun h => hk (Fin.ext h)), hd]
    rfl

/-! A cipher call taken up at once (R199, R202, R203). -/

section
variable {s : State} {m : CipherMode} {r : CipherReq} {eng : Nat}

/-- Where no engine of a row runs anything, none ends anything. -/
theorem rowsEnd_of_idle {v : State} (h : ∀ p ∈ v.crypto.rows, p.2.run = none ∧ p.2.laneA = none ∧ p.2.laneB = none) :
    v.crypto.rows.foldl (fun s p => ((s.cipherEnd p.1).laneEnd p.1 false).laneEnd p.1 true) v = v := foldl_fixed fun p _ => by
  obtain ⟨hrun, ha, hb⟩ : (v.rowEng p.1).run = none ∧ (v.rowEng p.1).laneA = none ∧ (v.rowEng p.1).laneB = none :=
    get_of_forall (P := fun e : RowEng => e.run = none ∧ e.laneA = none ∧ e.laneB = none) (fun _ => ⟨rfl, rfl, rfl⟩) h p.1
  rw [cipherEnd_of_no_run hrun, laneEnd_of_no_run _ ha hb, laneEnd_of_no_run _ ha hb]

/-- The state in which call `c` is the only one that waits at the cipher engines. -/
def State.asking (s : State) (c : CipherCall) (drr : SMap Drr) : State := { s with crypto := { s.crypto with cipherQueue := [c] }, classes := { s.classes with drr := drr } }

/-- The state in which engine `eng` has taken the only call up and stands as `e`. -/
def State.takenBy (s : State) (eng : Nat) (drr : SMap Drr) (e : RowEng) : State :=
  { s with
    crypto := { s.crypto with cipherQueue := [], rows := s.crypto.rows.set noRow eng e }
    classes := { s.classes with drr := drr }
    power := { s.power with rowsGated := s.power.rowsGated.filter (· != eng) } }

theorem cipherTake_of_one {c : CipherCall} (hrun : (s.rowEng eng).run = none) (heng : s.cipherEngine c.req = some eng) (hmay : s.cipherMay eng c = true) (drr : SMap Drr) :
    ∃ drr', (State.asking s c drr).cipherTake eng = (State.asking s c drr').cipherBegin eng c := by
  obtain ⟨drr', hpick⟩ := pickClass_of_one (State.asking s c drr) (16 + eng) c.cls (fun _ => 1)
  have heng' : (State.asking s c drr).cipherEngine c.req = some eng := heng
  have hmay' : (State.asking s c drr).cipherMay eng c = true := hmay
  have hq : (State.asking s c drr).crypto.cipherQueue = [c] := rfl
  refine ⟨drr', ?_⟩
  unfold State.cipherTake
  rw [if_neg (by simp [show ((State.asking s c drr).rowEng eng).run = none from hrun])]
  dsimp only
  rw [hq]
  simp only [List.filter_cons, List.filter_nil, heng', hmay', List.find?_cons, beq_self_eq_true, Bool.and_self, if_true, List.any_cons, List.any_nil, Bool.or_false]
  rw [hpick]
  simp only [beq_self_eq_true]
  rfl

theorem settleRows_of_asking {c : CipherCall} (hruns : Runs s) (hidle : RowsIdle s) (heng : s.cipherEngine c.req = some eng) (hmay : s.cipherMay eng c = true) {e : RowEng}
    (hbegin : ∀ drr, (State.asking s c drr).cipherBegin eng c = State.takenBy s eng drr e) : ∃ drr, (State.asking s c s.classes.drr).settleRows = State.takenBy s eng drr e := by
  obtain ⟨hwarn, hpll⟩ := hruns
  obtain ⟨drr, htake⟩ := cipherTake_of_one (rowEng_idle hidle eng).1 heng hmay s.classes.drr
  obtain ⟨hcq, hhq, hwf, hrows⟩ := hidle
  have heng' : (State.asking s c s.classes.drr).cipherEngine c.req = some eng := heng
  have hq : (State.asking s c s.classes.drr).crypto.cipherQueue = [c] := rfl
  have hhash : (State.takenBy s eng drr e).crypto.hashQueue = [] := hhq
  refine ⟨drr, ?_⟩
  unfold State.settleRows
  rw [if_neg (by simp [State.enginesPaused, State.asking, hwarn, hpll])]
  dsimp only
  rw [rowsEnd_of_idle (by exact hrows), hq]
  simp only [List.filterMap_cons, List.filterMap_nil, heng', (List.nodup_singleton eng).dedup, List.foldl_cons, List.foldl_nil]
  rw [htake, hbegin, hhash]
  rfl

theorem cipherCall_of_begin (h : CipherTaken s m r eng) {e : RowEng}
    (hbegin : ∀ drr, (State.asking s { mode := m, req := r, cls := s.callClass r.owner } drr).cipherBegin eng { mode := m, req := r, cls := s.callClass r.owner } = State.takenBy s eng drr e) :
    ∃ drr, s.cipherCall m r = State.takenBy s eng drr e := by
  obtain ⟨hruns, hidle, hrow, hlen, hclose, heng, hmay⟩ := h
  obtain ⟨drr, hsettle⟩ := settleRows_of_asking (c := { mode := m, req := r, cls := s.callClass r.owner }) hruns hidle heng hmay hbegin
  refine ⟨drr, ?_⟩
  unfold State.cipherCall
  rw [if_neg (by simp [hrow, maxOp, hlen]), if_neg (by simp [hclose]), hidle.1]
  exact hsettle

/-- What `CipherRuns` says of the state in which the engine stands with the operation. -/
theorem cipherRuns_of_taken {c : Instr} {drr : SMap Drr} {e : RowEng} {x : CipherRun} (hrows : s.crypto.rows.wf noRow = true) (hgo : exec c s = .next (s.cipherCall m r))
    (hcall : s.cipherCall m r = State.takenBy s eng drr e) (hrun : e.run = some x) (hreq : x.call.req = r) (hafter : x.after = none) (hready : s.now ≤ x.ready) :
    CipherRuns c s r eng x.status x.out := by
  have heng : (State.takenBy s eng drr e).rowEng eng = e := Laws.get_set_same noRow s.crypto.rows eng e (Laws.wf_sorted hrows)
  exact ⟨State.takenBy s eng drr e, x, by rw [hgo, hcall], by rw [heng]; exact hrun, hreq, rfl, rfl, hafter, hready, rfl, rfl⟩

/-! The operation on a whole message (R199, R202 to R204). -/

/-- The context that a call opens. -/
def freshCtx (m : CipherMode) (r : CipherReq) : CipherCtx :=
  { owner := r.owner, ctx := r.ctx, mode := m, src := r.key, encrypt := r.encrypt, iv := r.iv, aadLen := r.aadLen, dataLen := r.dataLen, aad := [], data := [], tag := none, given := 0 }

theorem feed_data (m : CipherMode) (r : CipherReq) : ((freshCtx m r).feed r).data = r.data := rfl

theorem feed_tag (m : CipherMode) (r : CipherReq) : ((freshCtx m r).feed r).tag = r.tag := by
  change r.tag.orElse (fun _ => none) = r.tag
  cases r.tag <;> rfl

theorem feed_aad (m : CipherMode) (hat : r.aadAt = 0) : aadBytes ((freshCtx m r).feed r).aad = r.aad ∧ aadLength ((freshCtx m r).feed r).aad = r.aad.length := by
  by_cases haad : r.aad = []
  · have hfed : ((freshCtx m r).feed r).aad = [] := if_pos haad
    rw [hfed, haad]
    exact ⟨rfl, rfl⟩
  · have hfed : ((freshCtx m r).feed r).aad = [(0, r.aad)] := (if_neg haad).trans (by rw [hat]; rfl)
    rw [hfed]
    exact ⟨List.append_nil _, Nat.add_zero _⟩

section
variable (hmore : r.more = false) (hat : r.aadAt = 0) (haad : r.aadLen = r.aad.length) (hdata : r.dataLen = r.data.length)
include hmore hat haad hdata

theorem feed_last (m : CipherMode) : ((freshCtx m r).feed r).last r = true := by
  have hfull : ((freshCtx m r).feed r).full = true := by
    unfold CipherCtx.full
    rw [(feed_aad m hat).2, feed_data]
    simpa [CipherCtx.feed, freshCtx] using ⟨haad.symm, hdata.symm⟩
  unfold CipherCtx.last
  rw [hfull, hmore]
  simp

/-- The lengths of a whole message are judged as R202's table has them. -/
theorem feed_lengths (m : CipherMode) : ((freshCtx m r).feed r).lengths (freshCtx m r).aad r = true ↔ TableLengths m r := by
  have hfits : aadFits [] r.aadAt r.aad r.aad.length = true := by
    unfold aadFits
    rw [hat]
    simp
  have hlast := feed_last hmore hat haad hdata m
  unfold CipherCtx.lengths
  rw [hlast]
  unfold TableLengths
  cases m with
  | gcm =>
    simp [CipherCtx.feed, freshCtx, hfits, maxAad, maxMessage, haad, hdata]
    omega
  | ctr => simp [CipherCtx.feed, freshCtx, lengthsOk, maxMessage]
  | cbc =>
    cases henc : r.encrypt <;> simp [CipherCtx.feed, freshCtx, lengthsOk, maxMessage, henc]
  | cmac => simp [CipherCtx.feed, freshCtx, lengthsOk, maxMessage]
  | xts => simp [CipherCtx.feed, freshCtx, lengthsOk, maxMessage]
  | ecb => simp [CipherCtx.feed, freshCtx, lengthsOk, maxMessage]

theorem cipherStep_whole (m : CipherMode) (k : KeySlot) (hok : TableLengths m r) :
    cipherStep k (freshCtx m r) r = ((cipherResult k ((freshCtx m r).feed r)).1, (cipherResult k ((freshCtx m r).feed r)).2, none) := by
  have hlen := (feed_lengths hmore hat haad hdata m).mpr hok
  unfold cipherStep
  dsimp only
  rw [if_neg (by simp [hlen]), if_pos (feed_last hmore hat haad hdata m)]
  rfl

theorem cipherStep_bad_lengths (m : CipherMode) (k : KeySlot) (hbad : ¬ TableLengths m r) : cipherStep k (freshCtx m r) r = (.length, [], none) := by
  have hlen : ((freshCtx m r).feed r).lengths (freshCtx m r).aad r = false := Bool.eq_false_iff.mpr fun h => hbad ((feed_lengths hmore hat haad hdata m).mp h)
  unfold cipherStep
  dsimp only
  rw [if_pos (by simp [hlen])]

end

/-! Refusals and operations, as the engine takes them up. -/

theorem cipherBegin_of_refused {c : CipherCall} (h : cipherRefused c (s.cipherKey (s.rowEng eng) c.req) = true) (drr : SMap Drr) :
    (State.asking s c drr).cipherBegin eng c =
      State.takenBy s eng drr { s.rowEng eng with run := some { call := c, ready := s.now + cycleCounts 8, status := .modeRefused, out := [], after := none } } := by
  have herase : [c].erase c = [] := List.erase_cons_head c []
  unfold State.cipherBegin
  rw [show (State.asking s c drr).crypto.cipherQueue = [c] from rfl, herase]
  exact if_pos h

theorem cipherBegin_of_key {c : CipherCall} {k : KeySlot} (hkey : s.cipherKey (s.rowEng eng) c.req = some k) (h : cipherRefused c (some k) = false) (drr : SMap Drr) :
    (State.asking s c drr).cipherBegin eng c =
      State.takenBy s eng drr { s.rowEng eng with
        keys := ((s.rowEng eng).keysWith k).getD (s.rowEng eng).keys
        run := some { call := c, ready := s.now + cycleCounts (cipherCycles c.mode k.key.length c.req.aad.length c.req.data.length), status := (cipherStep k ((s.rowEng eng).openCtx c) c.req).1
                      out := (cipherStep k ((s.rowEng eng).openCtx c) c.req).2.1, after := (cipherStep k ((s.rowEng eng).openCtx c) c.req).2.2 }
        grinderPos := (s.rowEng eng).grinderPos + c.req.data.length / 16 + 1 } := by
  have herase : [c].erase c = [] := List.erase_cons_head c []
  unfold State.cipherBegin
  rw [show (State.asking s c drr).crypto.cipherQueue = [c] from rfl, herase]
  refine (if_neg (show ¬ cipherRefused c (s.cipherKey (s.rowEng eng) c.req) = true by rw [hkey, h]; decide)).trans ?_
  split
  · next hnone => exact absurd (hkey.symm.trans hnone) (Option.some_ne_none k)
  · next k' hk' =>
    have hk : k' = k := Option.some.inj (hk'.symm.trans hkey)
    subst hk
    rfl

theorem openCtx_of_none {e : RowEng} {c : CipherCall} (h : e.cipherCtx c.req = none) : e.openCtx c = freshCtx c.mode c.req := by
  unfold RowEng.openCtx
  rw [h]
  rfl

theorem cipherRuns_of_refused {c : Instr} (h : CipherTaken s m r eng) (hgo : exec c s = .next (s.cipherCall m r)) 
    (href : cipherRefused { mode := m, req := r, cls := s.callClass r.owner } (s.cipherKey (s.rowEng eng) r) = true) : CipherRuns c s r eng .modeRefused [] := by
  obtain ⟨drr, hcall⟩ := cipherCall_of_begin h (cipherBegin_of_refused href)
  obtain ⟨_, ⟨_, _, hwf, _⟩, _⟩ := h
  exact cipherRuns_of_taken hwf hgo hcall rfl rfl rfl (Nat.le_add_right _ _)

/-- A whole message that R203 does not refuse runs its one operation under the key. -/
theorem cipherRuns_of_whole {c : Instr} {key : Bytes} (h : CipherTaken s m r eng) (hw : WholeMessage s r eng key) (hfits : keyFits m key.length = true) (hself : m = .ecb → r.selfTest = true)
    (hgo : exec c s = .next (s.cipherCall m r)) {st : EngStatus} {out : Bytes} (hstep : cipherStep (KeySlot.of r.key key) (freshCtx m r) r = (st, out, none)) : CipherRuns c s r eng st out := by
  obtain ⟨_, _, _, _, hctx, hkey⟩ := hw
  have hecb : (m == CipherMode.ecb && !r.selfTest) = false := by
    by_cases hm : m = .ecb
    · simp [hself hm]
    · simp [hm]
  have href : cipherRefused { mode := m, req := r, cls := s.callClass r.owner } (some (KeySlot.of r.key key)) = false := by
    unfold cipherRefused
    rw [hecb]
    simp [KeySlot.of, hfits]
  obtain ⟨drr, hcall⟩ := cipherCall_of_begin h (cipherBegin_of_key (c := { mode := m, req := r, cls := s.callClass r.owner }) hkey href)
  rw [openCtx_of_none (c := { mode := m, req := r, cls := s.callClass r.owner }) hctx, hstep] at hcall
  obtain ⟨_, ⟨_, _, hwf, _⟩, _⟩ := h
  exact cipherRuns_of_taken hwf hgo hcall rfl rfl rfl (Nat.le_add_right _ _)

theorem keyFits_of_table {n : Nat} (h : TableKey m n) : keyFits m n = true := by
  cases m <;> simpa [TableKey, keyFits, or_assoc] using h

/-! What each mode yields (R202 to R204). -/

theorem keySlot_subkey {src : KeySrc} {key : Bytes} (h : TableKey m key.length) (hm : m ≠ .xts) : (KeySlot.of src key).h = aesEnc (roundKeys key) (zeros 16) := by
  unfold TableKey at h
  rw [if_neg hm] at h
  exact if_pos h

theorem keySlot_cmac {src : KeySrc} {key : Bytes} (h : TableKey .cmac key.length) (data : Bytes) :
    cmacRun (roundKeys key) (KeySlot.of src key).k1 (KeySlot.of src key).k2 data = aesCmac key data := by
  have hsub := keySlot_subkey (src := src) h (by decide)
  have hk1 : (KeySlot.of src key).k1 = cmacK1 (KeySlot.of src key).h := rfl
  have hk2 : (KeySlot.of src key).k2 = cmacDouble (cmacK1 (KeySlot.of src key).h) := rfl
  rw [hk1, hk2, hsub]
  rfl

theorem keySlot_gcmTag {src : KeySrc} {key : Bytes} (h : TableKey .gcm key.length) (iv aad ct : Bytes) :
    gcmTagWith (roundKeys key) (KeySlot.of src key).h iv aad ct = gcmTag (roundKeys key) iv aad ct := by
  rw [keySlot_subkey h (by decide)]
  rfl

section
variable {key : Bytes} (hat : r.aadAt = 0)
include hat

theorem cipherResult_gcm (htable : TableKey .gcm key.length) : cipherResult (KeySlot.of r.key key) ((freshCtx .gcm r).feed r) =
    if r.encrypt then (.ok, aesGcmEnc key r.iv r.aad r.data)
    else if tagAgrees r.tag (gcmTag (roundKeys key) r.iv r.aad r.data) then (.ok, gcmRun (roundKeys key) r.iv 2 (toBlocks r.data)) else (.tagFail, []) := by
  have hres : cipherResult (KeySlot.of r.key key) ((freshCtx .gcm r).feed r) =
      if r.encrypt then (.ok, gcmRun (roundKeys key) r.iv 2 (toBlocks r.data) ++
        gcmTagWith (roundKeys key) (KeySlot.of r.key key).h r.iv (aadBytes ((freshCtx .gcm r).feed r).aad) (gcmRun (roundKeys key) r.iv 2 (toBlocks r.data)))
      else if tagAgrees ((freshCtx .gcm r).feed r).tag (gcmTagWith (roundKeys key) (KeySlot.of r.key key).h r.iv (aadBytes ((freshCtx .gcm r).feed r).aad) r.data) then
        (.ok, gcmRun (roundKeys key) r.iv 2 (toBlocks r.data)) else (.tagFail, []) := rfl
  rw [hres, (feed_aad .gcm hat).1, feed_tag, keySlot_gcmTag htable, keySlot_gcmTag htable]
  rfl

omit hat in
theorem cipherResult_cmac (htable : TableKey .cmac key.length) : cipherResult (KeySlot.of r.key key) ((freshCtx .cmac r).feed r) =
    if r.tag.isNone then (.ok, aesCmac key r.data) else if tagAgrees r.tag (aesCmac key r.data) then (.ok, []) else (.tagFail, []) := by
  have hres : cipherResult (KeySlot.of r.key key) ((freshCtx .cmac r).feed r) =
      if ((freshCtx .cmac r).feed r).tag.isNone then (.ok, cmacRun (roundKeys key) (KeySlot.of r.key key).k1 (KeySlot.of r.key key).k2 r.data)
      else if tagAgrees ((freshCtx .cmac r).feed r).tag (cmacRun (roundKeys key) (KeySlot.of r.key key).k1 (KeySlot.of r.key key).k2 r.data) then (.ok, []) else (.tagFail, []) := rfl
  rw [hres, feed_tag, keySlot_cmac htable]

end

theorem cipherResult_cbc (key : Bytes) (r : CipherReq) : cipherResult (KeySlot.of r.key key) ((freshCtx .cbc r).feed r) =
    if r.encrypt then (.ok, aesCbcEnc key r.iv r.data) else match aesCbcDec key r.iv r.data with | some p => (.ok, p) | none => (.padFail, []) := rfl

theorem cipherResult_xts (key : Bytes) (r : CipherReq) : cipherResult (KeySlot.of r.key key) ((freshCtx .xts r).feed r) = (.ok, aesXts key r.encrypt r.iv r.data) := rfl

theorem cipherResult_ecb (key : Bytes) (r : CipherReq) : cipherResult (KeySlot.of r.key key) ((freshCtx .ecb r).feed r) = (.ok, aesEcb key r.encrypt r.data) := rfl

/-- A tag that `aesGcmDec` accepts agrees, and what it releases is the plaintext (R204). -/
theorem tagAgrees_of_gcmDec {key iv aad ct tag out : Bytes} (h : aesGcmDec key iv aad ct tag = some out) :
    tagAgrees (some tag) (gcmTag (roundKeys key) iv aad ct) = true ∧ gcmRun (roundKeys key) iv 2 (toBlocks ct) = out := by
  unfold aesGcmDec at h
  dsimp only at h
  split at h
  · next hok => exact ⟨by simpa [tagAgrees] using hok, Option.some.inj h⟩
  · cases h

theorem tagAgrees_of_differs {want : Option Bytes} {tag : Bytes} (h : ∀ w, want = some w → w = [] ∨ tag.take w.length ≠ w) : tagAgrees want tag = false := by
  unfold tagAgrees
  split
  · next w =>
    rcases h w rfl with hw | hw
    · simp [hw]
    · simp [hw]
  · rfl

end

/-- Settles O10: the one operation of the whole message fails its check, and yields nothing. -/
theorem cipherReleasesNothing : Obligations.CipherReleasesNothing := by
  unfold Obligations.CipherReleasesNothing
  intro r s eng key hw
  have ⟨hmore, hat, haad, hdata, _⟩ := hw
  have hstep := fun m hok => cipherStep_whole hmore hat haad hdata m (KeySlot.of r.key key) hok
  refine ⟨fun h henc hkey hok htag => ?_, fun tag h hkey htag hdiffers => ?_, fun h henc hkey hok hpad => ?_⟩
  · refine cipherRuns_of_whole h hw (keyFits_of_table hkey) (fun h => by cases h) rfl ((hstep .gcm hok).trans ?_)
    rw [cipherResult_gcm hat hkey, henc, tagAgrees_of_differs htag]
    rfl
  · have hok : TableLengths .cmac r := ⟨by have := h.2.2.2.1; omega, trivial⟩
    refine cipherRuns_of_whole h hw (keyFits_of_table hkey) (fun h => by cases h) rfl ((hstep .cmac hok).trans ?_)
    rw [cipherResult_cmac hkey, htag, tagAgrees_of_differs (fun w hw => .inr (Option.some.inj hw ▸ hdiffers))]
    rfl
  · refine cipherRuns_of_whole h hw (keyFits_of_table hkey) (fun h => by cases h) rfl ((hstep .cbc hok).trans ?_)
    rw [cipherResult_cbc, henc, hpad]
    rfl

theorem exec_cipherCommand {c : Instr} {m : CipherMode} {r : CipherReq} (h : CipherCommand c m r) (s : State) : exec c s = .next (s.cipherCall m r) := by
  unfold CipherCommand at h
  simp only [List.mem_cons, Prod.mk.injEq, List.not_mem_nil, or_false] at h
  rcases h with ⟨rfl, rfl⟩ | ⟨rfl, rfl⟩ | ⟨rfl, rfl⟩ | ⟨rfl, rfl⟩ | ⟨rfl, rfl⟩ | ⟨rfl, rfl⟩ <;> rfl

/-- Settles O11: ECB and 192-bit XTS keys are refused before any operation, and lengths outside the table end the operation with LENGTH. -/
theorem cipherRefuses : Obligations.CipherRefuses := by
  unfold Obligations.CipherRefuses
  refine fun r s eng => ⟨fun h hself => ?_, fun k h hkey hlen => ?_, fun c m key hc h hw hkey hself hbad => ?_⟩
  · exact cipherRuns_of_refused h rfl (by simp [cipherRefused, hself])
  · exact cipherRuns_of_refused h rfl (by simp [cipherRefused, hkey, keyFits, hlen])
  · have ⟨hmore, hat, haad, hdata, _⟩ := hw
    exact cipherRuns_of_whole h hw (keyFits_of_table hkey) hself (exec_cipherCommand hc s) (cipherStep_bad_lengths hmore hat haad hdata m _ hbad)


section
variable {s : State} {a : HashAlg} {src? : Option KeySrc} {r : HashReq} {eng : Nat}

/-! A hash call taken up at once (R199, R214). -/

/-- The state in which call `c` is the only one that waits at the hash engines. -/
def State.hashing (s : State) (c : HashCall) (drr : SMap Drr) : State := { s with crypto := { s.crypto with hashQueue := [c] }, classes := { s.classes with drr := drr } }

/-- The state in which hash engine `eng` has taken the only call up and stands as `e`. -/
def State.hashTakenBy (s : State) (eng : Nat) (drr : SMap Drr) (e : RowEng) : State :=
  { s with
    crypto := { s.crypto with hashQueue := [], rows := s.crypto.rows.set noRow eng e }
    classes := { s.classes with drr := drr }
    power := { s.power with rowsGated := s.power.rowsGated.filter (· != eng) } }

theorem hashTake_of_one {c : HashCall} (ha : (s.rowEng eng).laneA = none) (hb : (s.rowEng eng).laneB = none) (heng : s.hashEngine c.req = some eng) (hmay : s.hashMay eng c = true) (drr : SMap Drr) :
    ∃ drr', (State.hashing s c drr).hashTake eng = (State.hashing s c drr').hashBegin eng c := by
  obtain ⟨drr', hpick⟩ := pickClass_of_one (State.hashing s c drr) (128 + eng) c.cls (fun _ => 1)
  have ha' : ((State.hashing s c drr).rowEng eng).laneA = none := ha
  have hb' : ((State.hashing s c drr).rowEng eng).laneB = none := hb
  have hlanes : ((State.hashing s c drr).rowEng eng).lanes = [] := by simp [RowEng.lanes, ha', hb']
  have heng' : (State.hashing s c drr).hashEngine c.req = some eng := heng
  have hmay' : (State.hashing s c drr).hashMay eng c = true := hmay
  have hq : (State.hashing s c drr).crypto.hashQueue = [c] := rfl
  refine ⟨drr', ?_⟩
  unfold State.hashTake
  dsimp only
  rw [if_neg (by simp [ha']), hq, hlanes]
  simp only [List.filter_cons, List.filter_nil, heng', hmay', List.find?_cons, beq_self_eq_true, Bool.and_self, if_true, List.any_cons, List.any_nil, Bool.or_false, Bool.not_false]
  rw [hpick]
  simp only [beq_self_eq_true]
  rfl

/-- With no call waiting a hash engine takes nothing up. -/
theorem hashTake_of_none (h : s.crypto.hashQueue = []) : s.hashTake eng = s := by
  have hpick : s.pickClass (128 + eng) (fun _ => false) (fun _ => 1) = none := by
    unfold State.pickClass
    rw [if_neg (by simp), pick_of_none _ _ (fun _ => rfl)]
    rfl
  unfold State.hashTake
  dsimp only
  split
  · rfl
  · rw [h]
    simp only [List.filter_nil, List.any_nil]
    rw [hpick]

theorem settleRows_of_hashing {c : HashCall} (hruns : Runs s) (hidle : RowsIdle s) (heng : s.hashEngine c.req = some eng) (hmay : s.hashMay eng c = true) {e : RowEng}
    (hbegin : ∀ drr, (State.hashing s c drr).hashBegin eng c = State.hashTakenBy s eng drr e) : ∃ drr, (State.hashing s c s.classes.drr).settleRows = State.hashTakenBy s eng drr e := by
  obtain ⟨hwarn, hpll⟩ := hruns
  obtain ⟨_, ha, hb⟩ := rowEng_idle hidle eng
  obtain ⟨drr, htake⟩ := hashTake_of_one ha hb heng hmay s.classes.drr
  obtain ⟨hcq, hhq, hwf, hrows⟩ := hidle
  have heng' : (State.hashing s c s.classes.drr).hashEngine c.req = some eng := heng
  have hq : (State.hashing s c s.classes.drr).crypto.hashQueue = [c] := rfl
  have hcipher : (State.hashing s c s.classes.drr).crypto.cipherQueue = [] := hcq
  refine ⟨drr, ?_⟩
  unfold State.settleRows
  rw [if_neg (by simp [State.enginesPaused, State.hashing, hwarn, hpll])]
  dsimp only
  rw [rowsEnd_of_idle (by exact hrows), hcipher]
  simp only [List.filterMap_nil, List.dedup_nil, List.foldl_nil]
  rw [hq]
  simp only [List.filterMap_cons, List.filterMap_nil, heng', (List.nodup_singleton eng).dedup, List.singleton_append, List.foldl_cons, List.foldl_nil]
  rw [htake, hbegin]
  exact hashTake_of_none rfl

/-- The lane's operation on a whole message: the call is taken up, and yields `out`. -/
theorem hashRuns_of_begin {c : Instr} {ks : List HmacSlot} {out : Bytes} {n : Nat} (h : HashTaken s a src? r eng) (hgo : exec c s = .next (s.hashCall a src? r))
    (hbegin : ∀ drr, (State.hashing s { alg := a, key := src?, req := r, cls := s.callClass r.owner } drr).hashBegin eng { alg := a, key := src?, req := r, cls := s.callClass r.owner } =
      State.hashTakenBy s eng drr (RowEng.onLane { s.rowEng eng with hmacKeys := ks }
        { call := { alg := a, key := src?, req := r, cls := s.callClass r.owner }, ready := s.now + n, status := .ok, out := out, after := none })) : HashRuns c s r eng out := by
  obtain ⟨hruns, hidle, hrow, hlen, hclose, _, heng, _, hmay⟩ := h
  obtain ⟨_, ha, _⟩ := rowEng_idle hidle eng
  obtain ⟨drr, hsettle⟩ := settleRows_of_hashing (c := { alg := a, key := src?, req := r, cls := s.callClass r.owner }) hruns hidle heng hmay hbegin
  have hcall : s.hashCall a src? r = State.hashTakenBy s eng drr (RowEng.onLane { s.rowEng eng with hmacKeys := ks }
        { call := { alg := a, key := src?, req := r, cls := s.callClass r.owner }, ready := s.now + n, status := .ok, out := out, after := none }) := by
    unfold State.hashCall
    rw [if_neg (by simp [hrow, maxOp, hlen]), if_neg (by simp [hclose]), hidle.2.1]
    exact hsettle
  have hrowEng : ∀ e, (State.hashTakenBy s eng drr e).rowEng eng = e := fun e => Laws.get_set_same noRow s.crypto.rows eng e (Laws.wf_sorted hidle.2.2.1)
  have hlane : ∀ x, (RowEng.onLane { s.rowEng eng with hmacKeys := ks } x).laneA = some x := fun x => by
    unfold RowEng.onLane
    rw [if_pos (by simp [ha])]
  exact ⟨_, _, by rw [hgo, hcall], by rw [hrowEng]; exact hlane _, rfl, rfl, rfl, rfl, Nat.le_add_right _ _, rfl, rfl⟩

theorem hashBegin_of_digest {c : HashCall} (hkey : c.key = none) (hmore : c.req.more = false) (hctx : (s.rowEng eng).hashCtx c.req = none) (drr : SMap Drr) :
    (State.hashing s c drr).hashBegin eng c = State.hashTakenBy s eng drr (RowEng.onLane { s.rowEng eng with hmacKeys := (s.rowEng eng).hmacKeys }
        { call := c, ready := s.now + cycleCounts (hashCycles c.alg c.req.data.length false), status := .ok, out := hashOf c.alg c.req.data, after := none }) := by
  have herase : [c].erase c = [] := List.erase_cons_head c []
  have hctx' : (State.wakeRow { State.hashing s c drr with crypto := { (State.hashing s c drr).crypto with hashQueue := [] } } eng).rowEng eng = s.rowEng eng := rfl
  unfold State.hashBegin
  rw [show (State.hashing s c drr).crypto.hashQueue = [c] from rfl, herase]
  dsimp only
  rw [hkey]
  dsimp only
  rw [hctx', hctx]
  unfold hashStep
  rw [if_neg (by simp [hmore])]
  rfl

theorem hashBegin_of_mac {c : HashCall} {src : KeySrc} {k : HmacSlot} (hsrc : c.key = some src) (hkey : s.hmacKey (s.rowEng eng) c src = some k) (hmore : c.req.more = false)
    (hctx : (s.rowEng eng).hashCtx c.req = none) (drr : SMap Drr) :
    (State.hashing s c drr).hashBegin eng c = State.hashTakenBy s eng drr (RowEng.onLane { s.rowEng eng with hmacKeys := ((s.rowEng eng).hmacWith k).getD (s.rowEng eng).hmacKeys }
        { call := c, ready := s.now + cycleCounts (hashCycles c.alg c.req.data.length true), status := .ok, out := k.mac c.req.data, after := none }) := by
  have herase : [c].erase c = [] := List.erase_cons_head c []
  have hctx' : (State.wakeRow { State.hashing s c drr with crypto := { (State.hashing s c drr).crypto with hashQueue := [] } } eng).rowEng eng = s.rowEng eng := rfl
  have hkey' : (State.wakeRow { State.hashing s c drr with crypto := { (State.hashing s c drr).crypto with hashQueue := [] } } eng).hmacKey (s.rowEng eng) c src = some k := hkey
  unfold State.hashBegin
  rw [show (State.hashing s c drr).crypto.hashQueue = [c] from rfl, herase]
  dsimp only
  rw [hsrc]
  dsimp only
  rw [hctx', hctx, hkey']
  unfold hashStep
  dsimp only
  rw [if_neg (by simp [hmore])]
  rfl

end

theorem map_ofNat_toNat {w : Nat} (l : List (BitVec w)) : (l.map BitVec.toNat).map (BitVec.ofNat w) = l := by
  rw [List.map_map]
  exact (List.map_congr_left fun x _ => by simp).trans (List.map_id l)

/-- The MAC from a slot's two states is HMAC under the key (R214). -/
theorem hmacSlot_mac (src : KeySrc) (key data : Bytes) : (HmacSlot.of src .sha256 key).mac data = hmacSha256 key data ∧ (HmacSlot.of src .sha384 key).mac data = hmacSha384 key data ∧
    (HmacSlot.of src .sha512 key).mac data = hmacSha512 key data := by
  exact ⟨congrArg₂ (fun i o => sha2Small.mac 32 i o data) (map_ofNat_toNat (hmac256Keyed 0x36 key)) (map_ofNat_toNat (hmac256Keyed 0x5C key)),
    congrArg₂ (fun i o => sha2Big.mac 48 i o data) (map_ofNat_toNat (hmac384Keyed 0x36 key)) (map_ofNat_toNat (hmac384Keyed 0x5C key)),
    congrArg₂ (fun i o => sha2Big.mac 64 i o data) (map_ofNat_toNat (hmac512Keyed 0x36 key)) (map_ofNat_toNat (hmac512Keyed 0x5C key))⟩

/-! Answers (R205). -/

section
variable {s : State}

theorem report_cipherDone (s : State) (d : EngDone) : (s.report false d).crypto.cipherDone.getLast? = some d := by
  have hlast : (pushAns s.crypto.cipherDone d).getLast? = some d := List.getLast?_append_cons .. |>.trans rfl
  unfold State.report
  dsimp only
  split
  · rw [Laws.logFault_crypto]
    exact hlast
  · exact hlast

theorem report_hashDone (s : State) (d : EngDone) : (s.report true d).crypto.hashDone.getLast? = some d := by
  have hlast : (pushAns s.crypto.hashDone d).getLast? = some d := List.getLast?_append_cons .. |>.trans rfl
  unfold State.report
  dsimp only
  split
  · rw [Laws.logFault_crypto]
    exact hlast
  · exact hlast

theorem answer_of_good (s : State) (hash : Bool) {d : EngDone} (h1 : d.status ≠ .length) (h2 : d.status ≠ .modeRefused) : s.answer hash d = s.report hash d := by
  unfold State.answer
  exact if_neg (by simp [h1, h2])

theorem cipherEnd_waits {row : Nat} {x : CipherRun} (hrun : (s.rowEng row).run = some x) (hready : s.now < x.ready) : s.cipherEnd row = s := by
  unfold State.cipherEnd
  dsimp only
  rw [hrun]
  exact if_pos hready

theorem cipherEnd_answers {row : Nat} {x : CipherRun} (hrun : (s.rowEng row).run = some x) (hready : x.ready ≤ s.now) (hst : x.status = .ok ∨ x.status = .tagFail ∨ x.status = .padFail) :
    CipherAnswers (s.cipherEnd row) { engine := cipherAddr row, owner := x.call.req.owner, ctx := x.call.req.ctx.val, status := x.status, out := x.out } := by
  have h1 : x.status ≠ .length := by rcases hst with h | h | h <;> rw [h] <;> decide
  have h2 : x.status ≠ .modeRefused := by rcases hst with h | h | h <;> rw [h] <;> decide
  unfold CipherAnswers State.cipherEnd
  dsimp only
  rw [hrun]
  dsimp only
  rw [if_neg (Nat.not_lt.mpr hready), answer_of_good _ _ h1 h2]
  exact report_cipherDone _ _

theorem laneEnd_waits {row : Nat} {x : HashRun} (hrun : (s.rowEng row).laneA = some x) (hready : s.now < x.ready) : s.laneEnd row false = s := by
  unfold State.laneEnd
  dsimp only
  rw [if_neg Bool.false_ne_true, hrun]
  exact if_pos hready

theorem laneEnd_answers {row : Nat} {x : HashRun} (hrun : (s.rowEng row).laneA = some x) (hready : x.ready ≤ s.now) (hst : x.status = .ok) :
    HashAnswers (s.laneEnd row false) { engine := hashAddr row, owner := x.call.req.owner, ctx := x.call.req.ctx.val, status := .ok, out := x.out } := by
  unfold HashAnswers State.laneEnd
  dsimp only
  rw [if_neg Bool.false_ne_true, hrun]
  dsimp only
  rw [if_neg (Nat.not_lt.mpr hready), hst, answer_of_good _ _ (show EngStatus.ok ≠ .length by decide) (show EngStatus.ok ≠ .modeRefused by decide)]
  exact report_hashDone _ _

end

/-- Settles O12: the one operation of a whole message yields the mode's output or the digest, and its answer waits for its time. -/
theorem enginesAnswer : Obligations.EnginesAnswer := by
  unfold Obligations.EnginesAnswer
  refine ⟨fun r s eng key c m out h hw hkey hok hself => ?_, fun r s eng => ⟨fun c a out h hmem => ?_, fun hm a src key out h hslot hmem => ?_⟩, fun s row => ⟨fun x hrun => ?_, fun x hrun => ?_⟩⟩
  · have ⟨hmore, hat, haad, hdata, _⟩ := hw
    have hruns : ∀ c, exec c s = .next (s.cipherCall m r) → cipherResult (KeySlot.of r.key key) ((freshCtx m r).feed r) = (.ok, out) → CipherRuns c s r eng .ok out := fun c hgo hres =>
      cipherRuns_of_whole h hw (keyFits_of_table hkey) hself hgo ((cipherStep_whole hmore hat haad hdata m (KeySlot.of r.key key) hok).trans (by rw [hres]))
    refine ⟨fun henc htag hmem => ?_, fun henc hmem => ?_, fun henc hm hdec => ?_, fun henc hm hdec => ?_⟩
    · simp only [List.mem_cons, Prod.mk.injEq, List.not_mem_nil, or_false] at hmem
      rcases hmem with ⟨rfl, rfl, rfl⟩ | ⟨rfl, rfl, rfl⟩ | ⟨rfl, rfl, rfl⟩ | ⟨rfl, rfl, rfl⟩ | ⟨rfl, rfl, rfl⟩ | ⟨rfl, rfl, rfl⟩
      · exact hruns _ rfl (by rw [cipherResult_gcm hat hkey, henc]; rfl)
      · exact hruns _ rfl rfl
      · exact hruns _ rfl (by rw [cipherResult_cbc, henc]; rfl)
      · exact hruns _ rfl (by rw [cipherResult_cmac hkey, htag]; rfl)
      · exact hruns _ rfl (by rw [cipherResult_xts, henc])
      · exact hruns _ rfl (by rw [cipherResult_ecb, henc])
    · simp only [List.mem_cons, Prod.mk.injEq, List.not_mem_nil, or_false] at hmem
      rcases hmem with ⟨rfl, rfl, rfl⟩ | ⟨rfl, rfl, rfl⟩ | ⟨rfl, rfl, rfl⟩
      · exact hruns _ rfl rfl
      · exact hruns _ rfl (by rw [cipherResult_xts, henc])
      · exact hruns _ rfl (by rw [cipherResult_ecb, henc])
    · subst hm
      exact hruns _ rfl (by rw [cipherResult_cbc, henc, hdec]; rfl)
    · subst hm
      obtain ⟨tag, htag, hdec⟩ := hdec
      obtain ⟨hagrees, hout⟩ := tagAgrees_of_gcmDec hdec
      exact hruns _ rfl (by rw [cipherResult_gcm hat hkey, henc, htag, hagrees, hout]; rfl)
  · have ⟨_, _, _, _, _, hmore, _, hctx, _⟩ := h
    have hbegin := hashBegin_of_digest (s := s) (eng := eng) (c := { alg := a, key := none, req := r, cls := s.callClass r.owner }) rfl hmore hctx
    have hruns : exec c s = .next (s.hashCall a none r) → hashOf a r.data = out → HashRuns c s r eng out := fun hgo hout => hashRuns_of_begin h hgo (fun drr => hout ▸ hbegin drr)
    simp only [List.mem_cons, Prod.mk.injEq, List.not_mem_nil, or_false] at hmem
    rcases hmem with ⟨rfl, rfl, rfl⟩ | ⟨rfl, rfl, rfl⟩ | ⟨rfl, rfl, rfl⟩ | ⟨rfl, rfl, rfl⟩ | ⟨rfl, rfl, rfl⟩ <;> exact hruns rfl rfl
  · have ⟨_, _, _, _, _, hmore, _, hctx, _⟩ := h
    have hbegin := hashBegin_of_mac (s := s) (eng := eng) (c := { alg := a, key := some src, req := r, cls := s.callClass r.owner }) rfl hslot hmore hctx
    have hruns : hmacAlgOf hm = a → (HmacSlot.of src a key).mac r.data = out → HashRuns (.hmac r hm src) s r eng out := fun halg hout =>
      hashRuns_of_begin h (halg ▸ rfl) (fun drr => hout ▸ hbegin drr)
    obtain ⟨h256, h384, h512⟩ := hmacSlot_mac src key r.data
    simp only [List.mem_cons, Prod.mk.injEq, List.not_mem_nil, or_false] at hmem
    rcases hmem with ⟨rfl, rfl, rfl⟩ | ⟨rfl, rfl, rfl⟩ | ⟨rfl, rfl, rfl⟩
    · exact hruns rfl h256
    · exact hruns rfl h384
    · exact hruns rfl h512
  · exact ⟨cipherEnd_waits hrun, cipherEnd_answers hrun⟩
  · exact ⟨laneEnd_waits hrun, laneEnd_answers hrun⟩

end Sys2Proof.Proofs
end


section
/-! SUPPORT. Requests of the public-key pool: one that finds a free engine runs there, one that finds none waits or is answered BUSY, and what the operations answer (R220 to R234). -/

namespace Sys2Proof.Proofs
open Sys2Proof Sys2Proof.Machine Sys2Proof.Safety

section
variable {s : State} {w : PkeWait} {e : Nat} {key : Bytes}

/-! A request that finds a free engine (R229 to R232). -/

/-- The engine once it has taken the request up (R231, R234). -/
def State.pkeAt (s : State) (w : PkeWait) (e : Nat) (key : Bytes) : PkeEng :=
  { s.pke e with
    owner := some w.from_, requests := (s.pke e).requests + 1, last := some w
    run := some { wait := w, ready := s.now + ceilDiv ((pkeRun w.op w.req key (s.drawBytes 80)).time * 32768) 10000000, out := pkeRun w.op w.req key (s.drawBytes 80) }
    input := inputRegion w.op key w.req, result := [], work := (Config.pkeWork s.drawn).take workSize }

/-- The state in which engine `e` runs the request that was the only one to wait. -/
def State.pkeRuns (s : State) (w : PkeWait) (e : Nat) (key : Bytes) (drr : SMap Drr) : State :=
  { s with
    crypto := { s.crypto with pke := { s.crypto.pke with queue := [], engines := s.crypto.pke.engines.set noPke e (State.pkeAt s w e key) } }
    classes := { s.classes with drr := drr }
    drawn := s.drawn + (pkeRun w.op w.req key (s.drawBytes 80)).drawn }

/-- The state in which the request is the only one that waits. -/
def State.pkeAsking (s : State) (w : PkeWait) (drr : SMap Drr) : State :=
  { s with crypto := { s.crypto with pke := { s.crypto.pke with queue := [w] } }, classes := { s.classes with drr := drr } }

theorem pkeRunOn_of_session (hwf : s.crypto.pke.engines.wf noPke = true) (x : PkeEng) : (s.setPke e x).pkeRunOn e w key =
    ({ s with drawn := s.drawn + (pkeRun w.op w.req key (s.drawBytes 80)).drawn } : State).setPke e { x with
      run := some { wait := w, ready := s.now + ceilDiv ((pkeRun w.op w.req key (s.drawBytes 80)).time * 32768) 10000000, out := pkeRun w.op w.req key (s.drawBytes 80) }
      input := inputRegion w.op key w.req, result := [], work := (Config.pkeWork s.drawn).take workSize } := by
  have hread : (s.setPke e x).pke e = x := Laws.get_set_same noPke _ e x (Laws.wf_sorted hwf)
  have hset : ∀ (d : Nat) y, ((s.setPke e x).drewBytes d).setPke e y = ({ s with drawn := s.drawn + d } : State).setPke e y := fun d y => by
    have hput := set_set hwf e x y
    unfold State.setPke State.drewBytes
    dsimp only
    rw [hput]
  unfold State.pkeRunOn
  rw [hread]
  exact hset _ _

theorem pkeBegin_runs (hwf : s.crypto.pke.engines.wf noPke = true) (hkey : if opKeyed w.op then s.pkeKey w.req.key = some key else key = []) (drr : SMap Drr) :
    (State.pkeAsking s w drr).pkeBegin e w = State.pkeRuns s w e key drr := by
  have herase : [w].erase w = [] := List.erase_cons_head w []
  have hfound : (if opKeyed w.op then s.pkeKey w.req.key else some []) = some key := by
    by_cases hk : opKeyed w.op = true
    · rw [if_pos hk] at hkey ⊢
      exact hkey
    · rw [if_neg hk] at hkey ⊢
      rw [hkey]
  unfold State.pkeBegin
  rw [show (State.pkeAsking s w drr).crypto.pke.queue = [w] from rfl, herase]
  dsimp only
  split
  · next hnone => exact absurd (hfound.symm.trans hnone) (Option.some_ne_none key)
  · next key' hk' =>
    have hk : key' = key := Option.some.inj (hk'.symm.trans hfound)
    subst hk
    exact pkeRunOn_of_session (s := { State.pkeAsking s w drr with crypto := { s.crypto with pke := { s.crypto.pke with queue := [] } } }) hwf _

/-- The only request that waits goes to the engine that is free for it (R68, R230). -/
theorem pkeNext_of_one (hengine : (State.pkeAsking s w s.classes.drr).pkeEngine w = some e) : ∃ drr, (State.pkeAsking s w s.classes.drr).pkeNext = some (State.pkeAsking s w drr, w, e) := by
  obtain ⟨drr, hpick⟩ := pickClass_of_one (State.pkeAsking s w s.classes.drr) 8 w.cls (fun _ => 1)
  have hq : (State.pkeAsking s w s.classes.drr).crypto.pke.queue = [w] := rfl
  refine ⟨drr, ?_⟩
  unfold State.pkeNext
  rw [hq]
  simp only [List.filterMap_cons, List.filterMap_nil, hengine, Option.map_some, List.any_cons, List.any_nil, Bool.or_false]
  rw [hpick]
  simp only [List.find?_cons, beq_self_eq_true, Option.map_some]
  rfl

/-- A request that waits alone leaves the engine that it takes as it was without it (R230). -/
theorem pkeEngine_asking (h : s.crypto.pke.queue = []) : (State.pkeAsking s w s.classes.drr).pkeEngine w = s.pkeEngine w := by
  have hpool : (State.pkeAsking s w s.classes.drr).poolEngine w.cls (opShort w.op w.req) [] = s.poolEngine w.cls (opShort w.op w.req) [] := by
    unfold State.poolEngine
    rw [h, show (State.pkeAsking s w s.classes.drr).crypto.pke.queue = [w] from rfl]
    dsimp only
    by_cases hc : w.cls = 0
    · rw [if_pos hc, if_pos hc]
      rfl
    · rw [if_neg hc, if_neg hc]
      simp only [List.any_cons, List.any_nil, beq_eq_false_iff_ne.mpr hc, Bool.or_false]
      rfl
  unfold State.pkeEngine
  rw [hpool]
  rfl

variable (hruns : Runs s) (hidle : PoolIdle s) (hengine : s.pkeEngine w = some e) (hkey : if opKeyed w.op then s.pkeKey w.req.key = some key else key = [])
include hruns hidle hengine hkey

theorem drainPke_runs : ∃ drr, (s.queuePke w).drainPke = State.pkeRuns s w e key drr := by
  obtain ⟨hwarn, hpll⟩ := hruns
  obtain ⟨hq, hwf, hengines⟩ := hidle
  have hqueue : s.queuePke w = State.pkeAsking s w s.classes.drr := by
    unfold State.queuePke
    rw [hq]
    rfl
  have hends : (State.pkeAsking s w s.classes.drr).crypto.pke.engines.foldl (fun s p => s.pkeEnd p.1) (State.pkeAsking s w s.classes.drr) = State.pkeAsking s w s.classes.drr :=
    foldl_fixed fun p _ => pkeEnd_of_no_run (pke_idle ⟨hq, hwf, hengines⟩ p.1)
  obtain ⟨drr, hnext⟩ := pkeNext_of_one ((pkeEngine_asking hq).trans hengine)
  refine ⟨drr, ?_⟩
  rw [hqueue]
  unfold State.drainPke
  rw [if_neg (by simp [State.enginesPaused, State.pkeAsking, hwarn, hpll])]
  dsimp only
  rw [hends, show (State.pkeAsking s w s.classes.drr).crypto.pke.queue.length = 1 from rfl, pkeDrain, hnext]
  dsimp only
  rw [pkeDrain, pkeBegin_runs hwf hkey]

theorem pkeSubmit_runs (hdeferred : s.crypto.pke.deferred = []) : ∃ drr, s.pkeSubmit w = State.pkeRuns s w e key drr := by
  have hdrain := drainPke_runs hruns hidle hengine hkey
  have ⟨hq, hwf, hengines⟩ := hidle
  have htaken : s.slotTaken w = false := by
    have hnone : s.crypto.pke.engines.any (fun e => e.2.run.isSome && e.2.owner == some w.from_) = false := List.any_eq_false.mpr fun p hp => by simp [hengines p hp]
    unfold State.slotTaken
    rw [hq, hdeferred, hnone]
    simp
  have hwaits : ∀ c0, s.deviceWaits c0 = 0 := fun c0 => by
    unfold State.deviceWaits
    rw [hq]
    rfl
  unfold State.pkeSubmit
  rw [htaken, hwaits, hwaits]
  dsimp only
  rw [if_neg Bool.false_ne_true, if_neg (show ¬ 32 ≤ 0 by decide), if_neg (show ¬ 224 ≤ 0 by decide)]
  split
  · exact hdrain
  · split <;> exact hdrain

end

/-- A request that its requester may make is submitted (R220, R221). -/
theorem pkeCall_of_may {s : State} {r : PkeReq} {q : Requester} {op : Nat} (hq : requesterOf r.owner = some q) (huses : q.uses op = true) (hrom : ∀ b, r.key = .rom b → requesterOf r.owner = some .selfTest) :
    s.pkeCall op r = s.pkeSubmit { op := op, req := r, cls := s.pkeClass q op r } := by
  unfold State.pkeCall
  rw [hq]
  dsimp only
  refine if_neg ?_
  rw [huses]
  cases hk : r.key with
  | handle h => simp
  | rom b =>
    cases Option.some.inj (hq.symm.trans (hrom b hk))
    simp

/-- The commands of the pool's operations, each with its code (R221). -/
def pkeCommands (r : PkeReq) : List (Instr × Nat) :=
  [(.ecdsaVerifyP256 r, 0x10), (.ecdsaVerifyP384 r, 0x11), (.ecdsaVerifyP521 r, 0x12), (.ecdsaSignP256 r, 0x20), (.ecdsaSignP384 r, 0x21), (.ecdsaSignP521 r, 0x22),
    (.ecdhP256 r, 0x30), (.ecdhP384 r, 0x31), (.ecdhP521 r, 0x32), (.ecKeyGenerationP256 r, 0x40), (.ecKeyGenerationP384 r, 0x41), (.ecKeyGenerationP521 r, 0x42),
    (.ed25519Verify r, 0x50), (.ed25519Sign r, 0x51), (.x25519 r, 0x60), (.x25519KeyGeneration r, 0x61), (.rsaPublic2048 r, 0x70), (.rsaPublic3072 r, 0x71), (.rsaPublic4096 r, 0x72),
    (.rsaPrivate2048 r, 0x80), (.rsaPrivate3072 r, 0x81), (.rsaPrivate4096 r, 0x82), (.mlDsa44Verify r, 0x90), (.mlDsa65Verify r, 0x91), (.mlDsa87Verify r, 0x92),
    (.mlDsa44Sign r, 0xA0), (.mlDsa65Sign r, 0xA1), (.mlDsa87Sign r, 0xA2), (.mlDsa44KeyGeneration r, 0xB0), (.mlDsa65KeyGeneration r, 0xB1), (.mlDsa87KeyGeneration r, 0xB2),
    (.mlKem768KeyGeneration r, 0xC0), (.mlKem768Encapsulation r, 0xC1), (.mlKem768Decapsulation r, 0xC2)]

theorem exec_pkeCommand (s : State) (r : PkeReq) : ∀ p ∈ pkeCommands r, exec p.1 s = .next (s.pkeCall p.2 r) := List.map_inj_left.mp rfl

/-! The end of an operation (R231 to R234). -/

section
variable {s : State} {e : Nat} {x : PkeRun}

theorem keyBus_says (s : State) (h : Nat) (b : Bytes) : ∃ v, s.keyBus h b = { s with vault := v } := by
  unfold State.keyBus
  split
  · exact ⟨_, rfl⟩
  · exact ⟨s.vault, rfl⟩

theorem clearEph_says (s : State) (w : PkeWait) : ∃ v, s.clearEph w = { s with vault := v } := by
  unfold State.clearEph
  split
  · split
    · exact ⟨_, rfl⟩
    · exact ⟨s.vault, rfl⟩
  · exact ⟨s.vault, rfl⟩

theorem pkeEnd_waits (hrun : (s.pke e).run = some x) (hready : s.now < x.ready) : s.pkeEnd e = s := by
  unfold State.pkeEnd
  dsimp only
  rw [hrun]
  exact if_pos hready

theorem pushDone_last (l : List PkeDone) (d : PkeDone) : (pushDone l d).getLast? = some d := List.getLast?_append_cons .. |>.trans rfl

/-- An operation that ends without a fault of its requester: the session goes on or is over, a secret goes to the vault, and the completion is pushed (R231 to R234). -/
theorem pkeEnd_completes (hrun : (s.pke e).run = some x) (hready : x.ready ≤ s.now) (hfault : x.out.fault = false) (hvalid : s.pkeInvalid x.wait x.out.status = false) :
    ∃ y v, (x.wait.req.keep = false → y = {}) ∧ (s.pkeEnd e).crypto = (({ s.setPke e y with vault := v } : State).pushPke
      { op := x.wait.op, owner := x.wait.req.owner, slot := x.wait.req.slot.val, ticket := x.wait.req.ticket, status := x.out.status, keyBus := x.out.secret.isSome && x.out.status == .ok
        result := x.out.result, engine := 0x6000 + e, attempts := x.out.attempts, time := sat 32 x.out.time }).crypto := by
  obtain ⟨y, hy⟩ : ∃ y : PkeEng, y = if x.wait.req.keep && decide ((s.pke e).requests < 4) && !(x.wait.cls != 0 && s.class0Engines.contains e) then
      { s.pke e with run := none, result := x.out.result.take resultSize, work := [] } else {} := ⟨_, rfl⟩
  obtain ⟨d, hd⟩ : ∃ d : PkeDone, d = { op := x.wait.op, owner := x.wait.req.owner, slot := x.wait.req.slot.val, ticket := x.wait.req.ticket, status := x.out.status, keyBus := x.out.secret.isSome && x.out.status == .ok
                                        result := x.out.result, engine := 0x6000 + e, attempts := x.out.attempts, time := sat 32 x.out.time } := ⟨_, rfl⟩
  have hpush : ∀ v : Vault, (if 120 < x.out.attempts then
      State.logFault (if State.pkeInvalid { s.setPke e y with vault := v } x.wait x.out.status then State.requesterFault { s.setPke e y with vault := v } x.wait d true
        else State.pushPke { s.setPke e y with vault := v } d) { cls := 0x1A, unit := 0x6000 + e, detail := x.out.attempts }
      else if State.pkeInvalid { s.setPke e y with vault := v } x.wait x.out.status then State.requesterFault { s.setPke e y with vault := v } x.wait d true
        else State.pushPke { s.setPke e y with vault := v } d).crypto = (State.pushPke { s.setPke e y with vault := v } d).crypto := fun v => by
    have hinvalid : ¬ State.pkeInvalid { s.setPke e y with vault := v } x.wait x.out.status = true := Bool.eq_false_iff.mp hvalid
    rw [if_neg hinvalid]
    split
    · exact Laws.logFault_crypto _ _
    · rfl
  have hkept : x.wait.req.keep = false → y = {} := fun hkeep => by rw [hy, hkeep]; rfl
  rw [← hd]
  unfold State.pkeEnd
  dsimp only
  rw [hrun]
  dsimp only
  rw [if_neg (Nat.not_lt.mpr hready), if_neg (by simp [hfault]), ← hy, ← hd]
  cases x.out.secret with
  | none =>
    obtain ⟨v, hv⟩ := clearEph_says (s.setPke e y) x.wait
    refine ⟨y, v, hkept, ?_⟩
    dsimp only
    rw [hv]
    exact hpush v
  | some b =>
    dsimp only
    by_cases hok : (x.out.status == PkeStatus.ok) = true
    · obtain ⟨v, hv⟩ := keyBus_says (s.setPke e y) x.wait.req.keyOut b
      obtain ⟨v', hv'⟩ := clearEph_says { s.setPke e y with vault := v } x.wait
      refine ⟨y, v', hkept, ?_⟩
      simp only [if_pos hok, hv, hv']
      exact hpush v'
    · obtain ⟨v, hv⟩ := clearEph_says (s.setPke e y) x.wait
      refine ⟨y, v, hkept, ?_⟩
      simp only [if_neg hok, hv]
      exact hpush v

end

theorem sat_min (v : Nat) : sat 32 v = min v (2 ^ 32 - 1) := by
  unfold sat
  split <;> omega

/-- Settles O13: the request is submitted and its engine runs it at once, and its end pushes the completion. -/
theorem pkeCompletes : Obligations.PkeCompletes := by
  unfold Obligations.PkeCompletes
  refine ⟨fun r s c op e key q out hmem h hout => ?_, fun s e x hrun => ⟨pkeEnd_waits hrun, fun hready hfault hvalid => ?_⟩⟩
  · obtain ⟨hruns, hidle, hdeferred, hq, huses, hrom, hengine, hkey⟩ := h
    obtain ⟨w, hw⟩ : ∃ w : PkeWait, w = { op := op, req := r, cls := s.pkeClass q op r } := ⟨_, rfl⟩
    obtain ⟨drr, hsubmit⟩ := pkeSubmit_runs (w := w) (key := key) hruns hidle (by rw [hw]; exact hengine) (by rw [hw]; exact hkey) hdeferred
    have hgo : exec c s = .next (State.pkeRuns s w e key drr) := (exec_pkeCommand s r (c, op) hmem).trans (congrArg Host.Outcome.next ((pkeCall_of_may hq huses hrom).trans (by rw [← hw]; exact hsubmit)))
    have hread : (State.pkeRuns s w e key drr).pke e = State.pkeAt s w e key := Laws.get_set_same noPke _ e (State.pkeAt s w e key) (Laws.wf_sorted hidle.2.1)
    have hout' : out = pkeRun w.op w.req key (s.drawBytes 80) := by rw [hout, hw]
    refine ⟨_, _, hgo, by rw [hread]; rfl, by rw [hw], by rw [hw], hout'.symm, Nat.le_add_right _ _, ?_, by rw [hread]; rfl, rfl, by rw [hout']; rfl⟩
    rw [hread, hw]
    rfl
  · obtain ⟨y, v, hy, hcrypto⟩ := pkeEnd_completes hrun hready hfault hvalid
    refine ⟨?_, fun hkeep hwf => ?_⟩
    · unfold PkeAnswers
      rw [hcrypto, ← sat_min]
      exact pushDone_last _ _
    · unfold State.pke
      rw [hcrypto, hy hkeep]
      exact Laws.get_set_same noPke _ e {} (Laws.wf_sorted hwf)

/-! What the operations answer (R221, R224). -/

section
variable {r : PkeReq} {t : CurveTimes} {key pub dig sg : Bytes}

/-- An ECDSA verification of inputs of the lengths its encoding fixes tells whether the signature holds, or that the point is off the curve. -/
theorem ecVerify_of_lengths (hin : r.inputs = [pub, dig, sg]) (hpub : pub.length = 2 * t.flen) (h20 : 20 ≤ dig.length) (h64 : dig.length ≤ 64) (hsg : sg.length = 2 * t.flen) :
    ecVerify t r = match t.c.decode pub with
      | some q => { status := verdict (t.c.verify q dig (beNat (sg.take t.flen)) (beNat (sg.drop t.flen))), time := t.verify }
      | none => { status := .badPoint, time := t.valid } := by
  have h0 : inp r 0 = pub := by rw [inp, hin]; rfl
  have h1 : inp r 1 = dig := by rw [inp, hin]; rfl
  have h2 : inp r 2 = sg := by rw [inp, hin]; rfl
  have hdig : digestBad dig = false := by simp [digestBad, h20, h64]
  unfold ecVerify
  rw [h0, h1, h2, hin, hpub, hsg, hdig]
  cases t.c.decode pub with
  | none => simp [firstBad]
  | some q => simp [firstBad]

theorem ecDh_of_lengths (hin : r.inputs = [pub]) (hpub : pub.length = 2 * t.flen) (hkey : key.length = t.flen) :
    ecDh t r key = if scalarBad t key then { status := .badScalar, time := t.valid } else if (t.c.decode pub).isNone then { status := .badPoint, time := t.valid }
      else { secret := some ((t.c.encode (t.c.mul (beNat key) (t.c.decode pub))).take t.flen), time := t.dh } := by
  have h0 : inp r 0 = pub := by rw [inp, hin]; rfl
  unfold ecDh
  rw [h0, hin, hpub, hkey]
  cases scalarBad t key with
  | true => simp [firstBad]
  | false =>
    cases (t.c.decode pub).isNone with
    | true => simp [firstBad]
    | false => simp [firstBad]

theorem scalarBad_iff : scalarBad t key = true ↔ beNat key = 0 ∨ t.c.n ≤ beNat key := by simp [scalarBad]

theorem pkeRun_curves {op : Nat} (h : (op, t) ∈ [(0x10, ct256), (0x11, ct384), (0x12, ct521)]) (r : PkeReq) (key rand : Bytes) :
    pkeRun op r key rand = ecVerify t r ∧ pkeRun (op + 0x20) r key rand = ecDh t r key := by
  simp only [List.mem_cons, Prod.mk.injEq, List.not_mem_nil, or_false] at h
  rcases h with ⟨rfl, rfl⟩ | ⟨rfl, rfl⟩ | ⟨rfl, rfl⟩
  · exact ⟨rfl, rfl⟩
  · exact ⟨rfl, rfl⟩
  · exact ⟨rfl, rfl⟩

/-- An answer that says BAD_LENGTH, with nothing in RESULT and no secret. -/
def BadLength (o : PkeOut) : Prop := o.status = .badLength ∧ o.result = [] ∧ o.secret = none

/-- No input: the length is wrong for every operation that takes one (R224). -/
theorem badLength_of_no_input (hin : r.inputs = []) (key rand : Bytes) :
    (∀ t, BadLength (ecVerify t r)) ∧ (∀ t extra, BadLength (ecSign t r key extra)) ∧ (∀ t, BadLength (ecDh t r key)) ∧ BadLength (edVerifyOp r) ∧ BadLength (xDh r key) ∧
      (∀ b v n, BadLength (rsaPub b v n r)) ∧ (∀ b v n, BadLength (rsaPriv b v n r key)) ∧ (∀ p v n, BadLength (dsaVerifyOp p v n r)) ∧ (∀ p v b n, BadLength (dsaSignOp p v b n r key rand)) ∧
      BadLength (kemEncOp r rand) ∧ BadLength (kemDecOp r key) := by
  have hlen : ∀ n, n ≠ 0 → decide (r.inputs.length ≠ n) = true := fun n hn => by simp [hin, hn.symm]
  have hne : ∀ n, n ≠ 0 → r.inputs.length ≠ n := fun n hn => by simp [hin, hn.symm]
  have hfirst : ∀ a b c : Bool, firstBad true a b c = some .badLength := fun _ _ _ => rfl
  refine ⟨fun t => ?_, fun t extra => ?_, fun t => ?_, ?_, ?_, fun b v n => ?_, fun b v n => ?_, fun p v n => ?_, fun p v b n => ?_, ?_, ?_⟩
  · unfold ecVerify BadLength
    simp only [hlen 3 (by decide), Bool.true_or, hfirst, and_self]
  · unfold ecSign BadLength
    simp only [hlen 1 (by decide), Bool.true_or, hfirst, and_self]
  · unfold ecDh BadLength
    simp only [hlen 1 (by decide), Bool.true_or, hfirst, and_self]
  · unfold edVerifyOp BadLength
    simp only [hlen 3 (by decide), Bool.true_or, hfirst, and_self]
  · unfold xDh BadLength
    rw [if_pos (.inl (hne 1 (by decide)))]
    exact ⟨rfl, rfl, rfl⟩
  · unfold rsaPub BadLength
    simp only [hlen 3 (by decide), Bool.true_or, hfirst, and_self]
  · unfold rsaPriv BadLength
    simp only [hlen 1 (by decide), Bool.true_or, hfirst, and_self]
  · unfold dsaVerifyOp BadLength
    rw [if_pos (.inl (hne 3 (by decide)))]
    exact ⟨rfl, rfl, rfl⟩
  · unfold dsaSignOp BadLength
    rw [if_pos (.inl (hne 1 (by decide)))]
    exact ⟨rfl, rfl, rfl⟩
  · unfold kemEncOp BadLength
    simp only [hlen 1 (by decide), Bool.true_or, hfirst, and_self]
  · unfold kemDecOp BadLength
    simp only [hlen 1 (by decide), Bool.true_or, hfirst, and_self]

end

/-! Requests that find no room (R229). -/

section
variable {s : State} {w : PkeWait}

theorem slotTaken_of_device (h : w.req.owner / 4096 ≠ 3) : s.slotTaken w = false := by simp [State.slotTaken, h]

theorem pkeSubmit_busy (howner : w.req.owner / 4096 ≠ 3) (hcls : w.cls ≠ 0) (hfull : 224 ≤ s.deviceWaits false) :
    s.pkeSubmit w = ({ s with crypto := { s.crypto with pke := { s.crypto.pke with deferred := s.crypto.pke.deferred ++ [w] } } } : State).pushPke
      { op := w.op, owner := w.req.owner, slot := w.req.slot.val, ticket := w.req.ticket, status := .busy } := by
  unfold State.pkeSubmit
  dsimp only
  rw [slotTaken_of_device howner, if_neg Bool.false_ne_true, if_neg howner, if_neg hcls, if_pos hfull]

theorem pkeSubmit_waits (howner : w.req.owner / 4096 ≠ 3) (hcls : w.cls = 0) (hfull : 32 ≤ s.deviceWaits true) :
    s.pkeSubmit w = { s with crypto := { s.crypto with pke := { s.crypto.pke with deferred := s.crypto.pke.deferred ++ [w] } } } := by
  unfold State.pkeSubmit
  dsimp only
  rw [slotTaken_of_device howner, if_neg Bool.false_ne_true, if_neg howner, if_pos hcls, if_pos hfull]

end

/-- Settles O14: the operations check their inputs in R224's order, a request that finds no room is kept, and BUSY_RETRY submits it again. -/
theorem pkeChecksAndRetries : Obligations.PkeChecksAndRetries := by
  unfold Obligations.PkeChecksAndRetries
  refine ⟨⟨fun r key rand op t hmem => ?_, fun r key rand op hmem hin => ?_⟩, ⟨fun r s q hq howner hrom => ⟨fun huses hcls hfull => ?_, fun huses hcls hfull => ?_⟩,
    fun w s s0 e key q hdef hs0 h hcls => ?_⟩⟩
  · have hverify := (pkeRun_curves hmem r [] rand).1
    have hdh := (pkeRun_curves hmem r key rand).2
    refine ⟨fun pub dig sg pt hin hpub h20 h64 hsg hdec => ?_, fun pub dig sg hin hpub h20 h64 hsg hdec => ?_, fun pub hin hpub hkey hbad => ?_, fun pub pt hin hpub hkey hpos hlt hdec => ?_⟩
    · rw [hverify, ecVerify_of_lengths hin hpub h20 h64 hsg, hdec]
      exact ⟨by unfold verdict; rfl, rfl⟩
    · rw [hverify, ecVerify_of_lengths hin hpub h20 h64 hsg, hdec]
      exact ⟨rfl, rfl⟩
    · rw [hdh, ecDh_of_lengths hin hpub hkey, if_pos (scalarBad_iff.mpr hbad)]
      exact ⟨rfl, rfl⟩
    · have hgood : ¬ scalarBad t key = true := fun hb => by have := scalarBad_iff.mp hb; omega
      rw [hdh, ecDh_of_lengths hin hpub hkey, if_neg hgood, hdec, if_neg (by simp)]
      exact ⟨rfl, rfl, rfl⟩
  · obtain ⟨hver, hsign, hdh, hed, hx, hpub, hpriv, hdver, hdsign, henc, hdec⟩ := badLength_of_no_input hin key rand
    have hall : ∀ c ∈ [0x10, 0x11, 0x12, 0x20, 0x21, 0x22, 0x30, 0x31, 0x32, 0x50, 0x60, 0x70, 0x71, 0x72, 0x80, 0x81, 0x82, 0x90, 0x91, 0x92, 0xA0, 0xA1, 0xA2, 0xC1, 0xC2], BadLength (pkeRun c r key rand) := by
      simp only [List.forall_mem_cons]
      exact ⟨hver _, hver _, hver _, hsign _ _, hsign _ _, hsign _ _, hdh _, hdh _, hdh _, hed, hx, hpub _ _ _, hpub _ _ _, hpub _ _ _, hpriv _ _ _, hpriv _ _ _, hpriv _ _ _,
        hdver _ _ _, hdver _ _ _, hdver _ _ _, hdsign _ _ _ _, hdsign _ _ _ _, hdsign _ _ _ _, henc, hdec, fun _ h => absurd h List.not_mem_nil⟩
    exact hall op hmem
  · have hgo : exec (.ecdsaVerifyP256 r) s = .next _ := congrArg Host.Outcome.next ((pkeCall_of_may hq huses hrom).trans (pkeSubmit_busy (w := { op := 0x10, req := r, cls := s.pkeClass q 0x10 r }) howner hcls hfull))
    exact ⟨_, hgo, rfl, pushDone_last _ _, rfl, rfl, rfl⟩
  · refine congrArg Host.Outcome.next ((pkeCall_of_may hq huses hrom).trans ?_)
    rw [hcls]
    exact pkeSubmit_waits howner rfl hfull
  · obtain ⟨hruns, hidle, hdeferred, _, _, _, hengine, hkey⟩ := h
    obtain ⟨drr, hsubmit⟩ := pkeSubmit_runs (s := s0) (w := w) (key := key) hruns hidle (by rw [← hcls] at hengine; exact hengine) hkey hdeferred
    have hgo : exec .busyRetry s = .next (State.pkeRuns s0 w e key drr) := by
      have hrun : exec .busyRetry s = .next (s.crypto.pke.deferred.foldl State.pkeSubmit { s with crypto := { s.crypto with pke := { s.crypto.pke with deferred := [] } } }) := rfl
      rw [hrun, hdef, ← hs0, List.foldl_cons, List.foldl_nil, hsubmit]
    have hread : (State.pkeRuns s0 w e key drr).pke e = State.pkeAt s0 w e key := Laws.get_set_same noPke _ e (State.pkeAt s0 w e key) (Laws.wf_sorted hidle.2.1)
    have hdraw : s0.drawBytes 80 = s.drawBytes 80 := by rw [hs0]; rfl
    exact ⟨_, _, hgo, hdeferred, rfl, by rw [hread]; rfl, rfl, by rw [← hdraw]⟩

end Sys2Proof.Proofs
end


section
/-! SUPPORT. A flash target that stands alone: its operations start, end, are suspended and taken away, and no other target changes (R260, R264 to R266). -/

namespace Sys2Proof.Proofs

open Sys2Proof Sys2Proof.Machine Sys2Proof.Safety

variable {s : State} {t : Nat}

/-! The targets' store. -/

theorem target_setTarget (hwf : s.flash.targets.wf noTarget = true) (k : Nat) (v : Target) : (s.setTarget t v).target k = if k = t then v else s.target k :=
  get_set hwf t k v

theorem target_setTarget_same (hwf : s.flash.targets.wf noTarget = true) (v : Target) : (s.setTarget t v).target t = v :=
  (target_setTarget hwf t v).trans (if_pos rfl)

theorem target_setTarget_other (hwf : s.flash.targets.wf noTarget = true) {k : Nat} (hk : k ≠ t) (v : Target) : (s.setTarget t v).target k = s.target k :=
  (target_setTarget hwf k v).trans (if_neg hk)

theorem setTarget_wf (hwf : s.flash.targets.wf noTarget = true) (v : Target) : (s.setTarget t v).flash.targets.wf noTarget = true :=
  Laws.set_wf _ _ _ _ hwf

theorem setTarget_twice (hwf : s.flash.targets.wf noTarget = true) (v w : Target) : (s.setTarget t v).setTarget t w = s.setTarget t w := by
  show ({ s with flash := { s.flash with targets := _ } } : State) = { s with flash := { s.flash with targets := _ } }
  rw [show (s.setTarget t v).flash.targets = s.flash.targets.set noTarget t v from rfl, set_set hwf]

theorem setTarget_self (hwf : s.flash.targets.wf noTarget = true) : s.setTarget t (s.target t) = s := by
  show ({ s with flash := { s.flash with targets := s.flash.targets.set noTarget t (s.flash.targets.get noTarget t) } } : State) = s
  rw [set_get hwf]

theorem answers_setTarget (hwf : s.flash.targets.wf noTarget = true) {v : Target} (hv : v.state = (s.target t).state) : (s.setTarget t v).answers t = s.answers t := by
  unfold State.answers State.serves
  rw [target_setTarget_same hwf, hv]
  rfl

theorem answers_congr {u : State} (hflash : u.flash.targets = s.flash.targets) (hdesc : u.flash.desc = s.flash.desc) : u.answers t = s.answers t := by
  unfold State.answers State.serves State.present State.target
  rw [hflash, hdesc]

theorem selectVolume_onlyFlash : ∃ m, s.selectVolume t = { s with flash := { s.flash with selected := m } } := by
  unfold State.selectVolume
  split
  · exact ⟨_, rfl⟩
  · exact ⟨s.flash.selected, rfl⟩

theorem map_eq_self {α : Type} {l : List α} {f : α → α} (h : ∀ e ∈ l, f e = e) : l.map f = l :=
  (List.map_congr_left h).trans (List.map_id _)

/-! Read levels (R260). -/

/-- The target once a LUN's calibrated offsets are applied, with the parameter page's bytes `b`. -/
def levelled (b : Nat → Nat) (lun : Nat) (x : Target) : Target :=
  (List.range (ceilDiv (b 171) 4)).foldl (fun y k => y.setParam (b 168) (b 169) (b 170) lun k (levelWord (x.offsets.get (fun _ => []) lun) k)) x

theorem applyLevels_eq (lun : Nat) : s.applyLevels t lun = s.setTarget t (levelled (s.pageByte t) lun (s.target t)) := rfl

theorem setParam_queue (x : Target) (q : List LunOp) (kind fa op lun i v : Nat) : ({ x with queue := q } : Target).setParam kind fa op lun i v = { x.setParam kind fa op lun i v with queue := q } := by
  unfold Target.setParam
  split <;> rfl

theorem setParam_frame (x : Target) (kind fa op lun i v : Nat) : ∃ f w, x.setParam kind fa op lun i v = { x with features := f, vendor := w } := by
  unfold Target.setParam
  split
  · exact ⟨_, _, rfl⟩
  · exact ⟨_, _, rfl⟩
  · exact ⟨x.features, x.vendor, rfl⟩

theorem levelled_queue (b : Nat → Nat) (lun : Nat) (x : Target) (q : List LunOp) : levelled b lun { x with queue := q } = { levelled b lun x with queue := q } := by
  unfold levelled
  generalize hl : List.range (ceilDiv (b 171) 4) = l
  clear hl
  generalize hw : levelWord (x.offsets.get (fun _ => []) lun) = w
  clear hw
  induction l generalizing x with
  | nil => rfl
  | cons k l ih => rw [List.foldl_cons, List.foldl_cons, setParam_queue, ih]

theorem levelled_frame (b : Nat → Nat) (lun : Nat) (x : Target) : ∃ f w, levelled b lun x = { x with features := f, vendor := w } := by
  unfold levelled
  generalize List.range (ceilDiv (b 171) 4) = l
  generalize levelWord (x.offsets.get (fun _ => []) lun) = w
  suffices h : ∀ y : Target, (∃ f v, y = { x with features := f, vendor := v }) → ∃ f v, l.foldl (fun y k => y.setParam (b 168) (b 169) (b 170) lun k (w k)) y = { x with features := f, vendor := v } from
    h x ⟨x.features, x.vendor, rfl⟩
  induction l with
  | nil => exact fun y h => h
  | cons k l ih =>
    rintro y ⟨f, v, rfl⟩
    obtain ⟨f', v', hy⟩ := setParam_frame { x with features := f, vendor := v } (b 168) (b 169) (b 170) lun k (w k)
    exact ih _ ⟨f', v', hy⟩

/-! An operation that starts on a free LUN (R264, R265). -/

/-- The target on which an operation starts: with the LUN's read levels applied before a read. -/
def readied (b : Nat → Nat) (o : LunOp) (x : Target) : Target := if o.kind = .read then levelled b o.lun x else x

theorem readied_eq (o : LunOp) (hwf : s.flash.targets.wf noTarget = true) : readied (s.pageByte t) o (s.target t) = (if o.kind = .read then s.applyLevels t o.lun else s).target t := by
  unfold readied
  split
  · rw [applyLevels_eq, target_setTarget_same hwf]
  · rfl

theorem readied_queue (b : Nat → Nat) (o : LunOp) (x : Target) (q : List LunOp) : readied b o { x with queue := q } = { readied b o x with queue := q } := by
  unfold readied
  split
  · exact levelled_queue b o.lun x q
  · rfl

theorem readied_frame (b : Nat → Nat) (o : LunOp) (x : Target) : ∃ f w, readied b o x = { x with features := f, vendor := w } := by
  unfold readied
  split
  · exact levelled_frame b o.lun x
  · exact ⟨x.features, x.vendor, rfl⟩

theorem startOp_says (hwf : s.flash.targets.wf noTarget = true) {o : LunOp} (hqueue : (s.target t).queue = [o]) (hops : ∀ e ∈ (s.target t).ops, e.lun ≠ o.lun) :
    s.startOp t o = s.setTarget t { readied (s.pageByte t) o (s.target t) with queue := [], ops := (s.target t).ops ++ [{ o with deadline := s.now + o.kind.timeout }] } := by
  obtain ⟨f, w, hready⟩ := readied_frame (s.pageByte t) o (s.target t)
  have hread : (if o.kind = .read then s.applyLevels t o.lun else s) = s.setTarget t (readied (s.pageByte t) o (s.target t)) := by
    unfold readied
    split
    · rfl
    · exact (setTarget_self hwf).symm
  have hmap : (s.target t).ops.map (fun e => if e.lun = o.lun then { e with served := e.served + 1 } else e) = (s.target t).ops := map_eq_self fun e he => if_neg (hops e he)
  unfold State.startOp
  dsimp only
  rw [hread, target_setTarget_same hwf, setTarget_twice hwf, hready]
  dsimp only
  rw [hqueue, hmap, List.erase_cons_head]
  rfl

theorem askSuspend_of_free (hwf : s.flash.targets.wf noTarget = true) {lun : Nat} (hops : ∀ e ∈ (s.target t).ops, e.lun ≠ lun) (cls : Nat) : s.askSuspend t lun cls = s := by
  unfold State.askSuspend
  dsimp only
  split
  · rw [map_eq_self fun e he => if_neg (by simp [hops e he])]
    exact setTarget_self hwf
  · rfl

theorem mayStart_of_free {x : Target} {o : LunOp} (hops : ∀ e ∈ x.ops, e.lun ≠ o.lun) : x.mayStart o = true := by
  have hnone : x.opOf o.lun = none := List.find?_eq_none.mpr fun e he => by simp [hops e he]
  unfold Target.mayStart
  rw [hnone]
  simpa using fun e he => Or.inl (hops e he)

/-- The one operation that waits, on a LUN that is free, starts (R68, R264). -/
theorem startOps_of_one (hruns : Runs s) (hans : s.answers t = true) (hwf : s.flash.targets.wf noTarget = true) (hwork : (s.target t).work = none) {o : LunOp} (ho : o.suspended = false)
    (hqueue : (s.target t).queue = [o]) (hops : ∀ e ∈ (s.target t).ops, e.lun ≠ o.lun ∧ e.suspended = false) :
    ∃ m, s.startOps t = ({ s with classes := { s.classes with drr := m } } : State).setTarget t
      { readied (s.pageByte t) o (s.target t) with queue := [], ops := (s.target t).ops ++ [{ o with deadline := s.now + o.kind.timeout }] } := by
  obtain ⟨hwarn, hpll⟩ := hruns
  obtain ⟨m, hpick⟩ := pickClass_of_one s (4096 + t) o.cls (fun _ => 1)
  have hgo : startGo 1 s t = ({ s with classes := { s.classes with drr := m } } : State).startOp t o := by
    have hready : (s.target t).queue.filter (s.target t).mayStart = [o] := by
      rw [hqueue, List.filter_cons_of_pos (mayStart_of_free fun e he => (hops e he).1), List.filter_nil]
    have hone : (fun c => [o].any (fun o => o.cls.val == c)) = (fun c => o.cls.val == c) := funext fun c => by simp
    unfold startGo
    dsimp only
    rw [hready, hone, hpick]
    dsimp only
    rw [List.find?_cons_of_pos (by simp)]
    rfl
  obtain ⟨s2, hs2⟩ : ∃ s2 : State, s2 = { s with classes := { s.classes with drr := m } } := ⟨_, rfl⟩
  have hwf2 : s2.flash.targets.wf noTarget = true := by rw [hs2]; exact hwf
  have hsame : s2.target t = s.target t := by rw [hs2]; rfl
  have hsays := startOp_says (s := s2) (t := t) hwf2 (hsame ▸ hqueue) (fun e he => (hops e (hsame ▸ he)).1)
  have hquiet : ∀ e ∈ ((s2.startOp t o).target t).ops, e.suspended = false := by
    rw [hsays, target_setTarget_same hwf2]
    intro e he
    rcases List.mem_append.mp he with he | he
    · exact (hops e (hsame ▸ he)).2
    · rw [List.mem_singleton.mp he]
      exact ho
  have hwf3 : (s2.startOp t o).flash.targets.wf noTarget = true := by
    rw [hsays]
    exact setTarget_wf hwf2 _
  refine ⟨m, ?_⟩
  rw [← hs2]
  refine Eq.trans ?_ (hsays.trans (by rw [hsame, hs2]; rfl))
  unfold State.startOps
  dsimp only
  rw [if_pos (show s.opsRun t = true from by simp [State.opsRun, hans, hwork, hwarn, hpll]), hqueue, show [o].length = 1 from rfl, hgo, ← hs2, resumed_of_quiet hquiet, setTarget_self hwf3, ite_self]

/-- An operation that fits its target starts at once on a free LUN (R264). -/
theorem flashOp_starts {o : LunOp} (h : LunFree s t o.lun) (ho : o.suspended = false) (hfits : s.opFits t o = true) {c : Instr} (hc : exec c s = .next (s.flashOp t o)) : Starts c s t o := by
  obtain ⟨htakes, hwf, hwork, hqueue, hops⟩ := h
  obtain ⟨m, hselect⟩ := selectVolume_onlyFlash (s := s) (t := t)
  obtain ⟨s1, hs1⟩ : ∃ s1, s1 = (s.selectVolume t).setTarget t { s.target t with queue := (s.target t).queue ++ [o] } := ⟨_, rfl⟩
  have hwf0 : (s.selectVolume t).flash.targets.wf noTarget = true := by rw [hselect]; exact hwf
  have hwf1 : s1.flash.targets.wf noTarget = true := by rw [hs1]; exact setTarget_wf hwf0 _
  have ht1 : s1.target t = { s.target t with queue := [o] } := by
    rw [hs1, target_setTarget_same hwf0, hqueue]
    rfl
  have hask : (if o.kind = .read then s1.askSuspend t o.lun o.cls.val else s1) = s1 := by
    rw [askSuspend_of_free hwf1 (by rw [ht1]; exact fun e he => (hops e he).1), ite_self]
  have hans : s1.answers t = true := by
    rw [hs1, answers_setTarget hwf0 (by rw [selectVolume_target]), hselect]
    exact htakes.2.1
  have hruns1 : Runs s1 := by
    rw [hs1, hselect]
    exact htakes.1
  obtain ⟨d, hstart⟩ := startOps_of_one (s := s1) (t := t) hruns1 hans hwf1 (by rw [ht1]; exact hwork) ho (by rw [ht1]) (by rw [ht1]; exact hops)
  have hgo : s.flashOp t o = s1.startOps t := by
    unfold State.flashOp
    rw [fc_of_takesCommands htakes]
    dsimp only
    rw [show (s.selectVolume t).opFits t o = s.opFits t o from by rw [hselect]; rfl, hfits, ← hs1, if_neg (by decide)]
    exact congrArg (State.startOps · t) hask
  have hpage : s1.pageByte t = s.pageByte t := by
    rw [hs1, hselect]
    rfl
  have hfinal : s1.startOps t = ({ s1 with classes := { s1.classes with drr := d } } : State).setTarget t { readied (s.pageByte t) o (s.target t) with queue := [], ops := (s.target t).ops ++ [{ o with deadline := s.now + o.kind.timeout }] } := by
    rw [hstart, hpage, ht1, readied_queue, hs1, hselect]
    rfl
  obtain ⟨f, w, hready⟩ := readied_frame (s.pageByte t) o (s.target t)
  refine ⟨_, _, hc.trans (congrArg _ (hgo.trans hfinal)), ?_, rfl, ?_, fun k hk => ?_⟩
  · rw [hs1, hselect]
    exact rfl
  · rw [target_setTarget_same (by exact hwf1), ← readied_eq o hwf, hready]
    dsimp only
    rw [hqueue]
  · rw [target_setTarget_other (by exact hwf1) hk]
    show s1.target k = s.target k
    rw [hs1, target_setTarget_other hwf0 hk, selectVolume_target]

/-! An operation that ends (R264, R280, R293). -/

section
variable {lun : Nat} {o : LunOp}

theorem opOf_of_one (h : OneOp s t lun o) (ho : o.suspended = false) : (s.target t).opOf lun = some o := by
  obtain ⟨-, -, -, -, hops, hlun, -⟩ := h
  unfold Target.opOf
  rw [hops]
  exact List.find?_cons_of_pos (by simp [hlun, ho])

theorem poll_not_ready (fail : Bool) : s.poll t lun false fail = s := by
  unfold State.poll
  rw [if_pos (by simp)]

theorem poll_ends (h : OneOp s t lun o) (ho : o.suspended = false) :
    s.poll t lun true false = (if o.kind = .read then (s.setTarget t { s.target t with ops := [] }).readDone t o false else s.setTarget t { s.target t with ops := [] }).opEnded t := by
  have hopOf := opOf_of_one h ho
  obtain ⟨⟨⟨-, hpll⟩, hans, -⟩, -, -, -, hops, -, hasked⟩ := h
  unfold State.poll
  rw [if_neg (by simp [hans, hpll])]
  dsimp only
  rw [hopOf]
  dsimp only
  rw [if_neg (by simp [hasked]), hops, List.erase_cons_head]
  simp only [Bool.false_eq_true, if_false]

/-- A read whose codewords come out in the first two steps counts as one of its lane block (R280, R293). -/
theorem readDone_of_good (hwf : s.flash.targets.wf noTarget = true) (hgood : ∀ c ∈ o.cws, c.hard = .good ∨ c.minSum = .good) (hsoft : s.flash.soft < 65536) :
    s.readDone t o false = s.setLane { target := t, block := o.block } { s.lane { target := t, block := o.block } with reads := (s.lane { target := t, block := o.block }).reads + 1 } := by
  have hsteps : ∀ k ∈ o.cws.map (fun c => if false = true then 5 else stepOf (s.retryLevels t) c), k ≤ 2 := by
    intro k hk
    obtain ⟨c, hc, rfl⟩ := List.mem_map.mp hk
    rw [if_neg (by decide)]
    unfold stepOf
    split
    · omega
    · next hhard => rw [if_pos ((hgood c hc).resolve_left hhard)]
  have hcount : ∀ p : Nat → Bool, (∀ k ≤ 2, p k = false) → (o.cws.map (fun c => if false = true then 5 else stepOf (s.retryLevels t) c)).countP p = 0 :=
    fun p hp => List.countP_eq_zero.mpr fun k hk => by simp [hp k (hsteps k hk)]
  have hany : (o.cws.map (fun c => if false = true then 5 else stepOf (s.retryLevels t) c)).any (fun k => decide (3 ≤ k)) = false :=
    List.any_eq_false.mpr fun k hk => by have := hsteps k hk; simp; omega
  have hsame : s.countSoft t 0 = s := by
    unfold State.countSoft
    dsimp only
    rw [show ({ s.target t with softSince := (s.target t).softSince + 0 } : Target) = s.target t from rfl, setTarget_self hwf]
    rw [Nat.add_zero, sat_of_lt (by omega)]
  have hnone : ∀ u : State, u.reconstruct t o.block 0 = u := by
    intro u
    unfold State.reconstruct
    split
    · rfl
    · exact if_pos (Or.inl rfl)
  unfold State.readDone
  dsimp only
  rw [hcount _ (fun k hk => by simp; omega), hcount _ (fun k hk => by simp; omega), hany, hsame, Bool.false_and, if_neg (by decide), hnone]

end

/-! Operations taken away (R264, R266). -/

/-- Reads in flight that are taken away wait to be issued again. -/
theorem abortOps_of_reads (hreads : ∀ o ∈ (s.target t).ops, o.kind = .read) (p : LunOp → Bool) :
    s.abortOps t p = s.setTarget t { s.target t with ops := (s.target t).ops.filter (fun o => !p o), queue := (s.target t).ops.filter p ++ (s.target t).queue } := by
  have hkept : ((s.target t).ops.filter p).filter (fun o => o.kind == .read) = (s.target t).ops.filter p := List.filter_eq_self.mpr fun o ho => by simp [hreads o (List.mem_of_mem_filter ho)]
  have hgone : ((s.target t).ops.filter p).filter (fun o => o.kind != .read) = [] := List.filter_eq_nil_iff.mpr fun o ho => by simp [hreads o (List.mem_of_mem_filter ho)]
  unfold State.abortOps
  dsimp only
  rw [hkept, hgone, List.foldl_nil]

/-- What a state reads as after VOLUME SELECT and a change of one target. -/
theorem selected_says (hwf : s.flash.targets.wf noTarget = true) (v : Target) :
    OnlyFlash s ((s.selectVolume t).setTarget t v) ∧ ((s.selectVolume t).setTarget t v).target t = v ∧ ∀ k, k ≠ t → ((s.selectVolume t).setTarget t v).target k = s.target k := by
  obtain ⟨m, hselect⟩ := selectVolume_onlyFlash (s := s) (t := t)
  have hwf0 : (s.selectVolume t).flash.targets.wf noTarget = true := by rw [hselect]; exact hwf
  refine ⟨?_, target_setTarget_same hwf0 v, fun k hk => by rw [target_setTarget_other hwf0 hk, selectVolume_target]⟩
  rw [hselect]
  exact rfl

/-! The obligation's four parts. -/

theorem fcReset_says (h : TakesCommands s t) (hwf : s.flash.targets.wf noTarget = true) (hreads : ∀ o ∈ (s.target t).ops, o.kind = .read) :
    exec (.fcReset t) s = .next ((s.selectVolume t).setTarget t ({ s.target t with queue := (s.target t).ops ++ (s.target t).queue } : Target).afterReset) := by
  obtain ⟨m, hselect⟩ := selectVolume_onlyFlash (s := s) (t := t)
  have hwf0 : (s.selectVolume t).flash.targets.wf noTarget = true := by rw [hselect]; exact hwf
  have habort := abortOps_of_reads (s := s.selectVolume t) (t := t) (by rw [selectVolume_target]; exact hreads) (fun _ => true)
  refine congrArg Host.Outcome.next ((fc_of_takesCommands h _).trans ?_)
  dsimp only
  rw [habort, target_setTarget_same hwf0, setTarget_twice hwf0, selectVolume_target, List.filter_true]
  rfl

theorem fcResetLun_says (h : TakesCommands s t) (hreads : ∀ o ∈ (s.target t).ops, o.kind = .read) (lun : Nat) :
    exec (.fcResetLun t lun) s = .next ((s.selectVolume t).setTarget t { s.target t with
      ops := (s.target t).ops.filter (fun o => o.lun != lun), queue := (s.target t).ops.filter (fun o => o.lun == lun) ++ (s.target t).queue }) := by
  have habort := abortOps_of_reads (s := s.selectVolume t) (t := t) (by rw [selectVolume_target]; exact hreads) (fun o => o.lun == lun)
  refine congrArg Host.Outcome.next ((fc_of_takesCommands h _).trans ?_)
  rw [habort, selectVolume_target]
  rfl

theorem fcEraseSuspend_says {lun cls : Nat} {o : LunOp} (h : OneOp s t lun o) (hkind : o.kind = .erase) (ho : o.suspended = false) (hfew : o.suspends < 4) (hpage : fld (s.page t) 172 1 = 1) (hcls : cls = 0 ∨ cls = 2) :
    SetsTarget (.fcEraseSuspend t lun cls) s t { s.target t with
      ops := [{ o with asked := true, suspends := o.suspends + 1, left := o.deadline - s.now, deadline := s.now + usUp (fld (s.page t) 176 2 + 100) }] } := by
  obtain ⟨htakes, -, -, -, hops, hlun, hasked⟩ := h
  obtain ⟨m, hselect⟩ := selectVolume_onlyFlash (s := s) (t := t)
  refine congrArg Host.Outcome.next ((fc_of_takesCommands htakes _).trans ?_)
  unfold State.askSuspend
  dsimp only
  rw [show (s.selectVolume t).pageByte t 172 = 1 from by rw [hselect]; exact hpage, if_pos ⟨hcls, rfl⟩, selectVolume_target, hops, List.map_cons, List.map_nil, if_pos (by simp [hkind, ho, hfew, hlun, hasked]), hselect]
  rfl

theorem fcEraseResume_says {lun : Nat} {o : LunOp} (h : OneOp s t lun o) (ho : o.suspended = true) :
    SetsTarget (.fcEraseResume t lun) s t { s.target t with ops := [{ o with suspended := false, served := 0, deadline := s.now + o.left }] } := by
  obtain ⟨htakes, -, -, -, hops, hlun, -⟩ := h
  have hnone : (s.target t).opOf lun = none := by
    unfold Target.opOf
    rw [hops]
    simp [ho]
  refine congrArg Host.Outcome.next ((fcSet_of_takesCommands htakes _).trans ?_)
  rw [hops, hnone, List.map_cons, List.map_nil, if_pos (by simp [hlun, ho])]

/-- Settles O29: an operation is one change of its target, and what follows the end of one alone on its target changes nothing more. -/
theorem flashOperations : Obligations.FlashOperations := by
  unfold Obligations.FlashOperations
  refine ⟨⟨fun s t lun h hwf hreads => ⟨?_, ?_⟩, fun s t lun block page h hlun hblock hpage => ?_, fun s t lun o h hkind => ⟨fun ho => ?_, ?_, fun cls => ?_, fun _ ho => fcEraseResume_says h ho⟩⟩,
    fun s t lun block page k cws h hlun hblock hpage => ?_, fun s t lun o h hkind ho hgood hlanes hsoft => ?_⟩
  · exact ⟨_, fcReset_says h hwf hreads, selected_says hwf _⟩
  · exact ⟨_, fcResetLun_says h hreads lun, selected_says hwf _⟩
  · have hpages : 0 < (s.geo t).pages := Nat.lt_of_le_of_lt (Nat.zero_le _) hpage
    exact ⟨flashOp_starts h rfl (by simp [State.opFits, hlun, hblock, hpage]) rfl, flashOp_starts h rfl (by simp [State.opFits, hlun, hblock, hpage]) rfl,
      flashOp_starts h rfl (by simp [State.opFits, hlun, hblock, hpages]) rfl, flashOp_starts h rfl (by simp [State.opFits, hlun, hblock, hpages]) rfl⟩
  · have hends := poll_ends h ho
    obtain ⟨-, hwf, hwork, hqueue, -, -, -⟩ := h
    have hquiet := opEnded_of_quiet (s := s.setTarget t { s.target t with ops := [] }) (n := t) (setTarget_wf hwf _) (by rw [target_setTarget_same hwf]; exact hqueue)
      (by rw [target_setTarget_same hwf]; exact hwork) (by rw [target_setTarget_same hwf]; exact fun e he => absurd he List.not_mem_nil)
    rw [if_neg hkind, hquiet] at hends
    exact ⟨_, congrArg Host.Outcome.next hends, rfl, target_setTarget_same hwf _, fun k hk => target_setTarget_other hwf hk _⟩
  · exact congrArg Host.Outcome.next (poll_not_ready false)
  · exact fun hkind ho hfew hpage hcls => fcEraseSuspend_says h hkind ho hfew hpage hcls
  · have hgo : exec (.fcRead t lun block page k.val cws) s = .next (s.flashOp t { lun := lun, kind := .read, block := block, page := page, cls := k, cws := cws }) :=
      congrArg Host.Outcome.next (dif_pos k.isLt)
    have hgos : exec (.fcMultiPlaneRead t lun block page k.val cws) s = .next (s.flashOp t { lun := lun, kind := .read, planes := (s.geo t).planes, block := block, page := page, cls := k, cws := cws }) :=
      congrArg Host.Outcome.next (dif_pos k.isLt)
    exact ⟨flashOp_starts h rfl (by simp [State.opFits, hlun, hblock, hpage]) hgo, flashOp_starts h rfl (by simp [State.opFits, hlun, hblock, hpage]) hgos⟩
  · have hends := poll_ends h ho
    obtain ⟨-, hwf, hwork, hqueue, -, -, -⟩ := h
    rw [if_pos hkind, readDone_of_good (setTarget_wf hwf _) hgood hsoft] at hends
    have hread := target_setTarget_same hwf (t := t) { s.target t with ops := [] }
    have hquiet := opEnded_of_quiet (s := (s.setTarget t { s.target t with ops := [] }).setLane { target := t, block := o.block } { s.lane { target := t, block := o.block } with reads := (s.lane { target := t, block := o.block }).reads + 1 })
      (n := t) (setTarget_wf hwf _) ((congrArg Target.queue hread).trans hqueue) ((congrArg Target.work hread).trans hwork) (fun e he => absurd ((congrArg Target.ops hread).symm ▸ he) List.not_mem_nil)
    exact ⟨_, congrArg Host.Outcome.next (hends.trans hquiet), rfl, hread, rfl, rfl, rfl, (get_set hlanes _ _ _).trans (if_pos rfl)⟩

end Sys2Proof.Proofs
end


section
/-! SUPPORT. Builds and extensions, retraining and timeouts of a flash target (R261 to R263, R266). -/

namespace Sys2Proof.Proofs

open Sys2Proof Sys2Proof.Machine Sys2Proof.Safety

variable {s b u : State} {t : Nat}

/-! What the array's work leaves as it is: the description, the build's result and what withholds READY. -/

structure BuildKept (b s : State) : Prop where
  desc : s.flash.desc = b.flash.desc
  buildState : s.flash.buildState = b.flash.buildState
  buildErr : s.flash.buildErr = b.flash.buildErr
  holdCause : s.dev.holdCause = b.dev.holdCause

theorem buildKept_refl (s : State) : BuildKept s s := ⟨rfl, rfl, rfl, rfl⟩

theorem BuildKept.trans (h : BuildKept b s) (h' : BuildKept s u) : BuildKept b u :=
  ⟨h'.desc.trans h.desc, h'.buildState.trans h.buildState, h'.buildErr.trans h.buildErr, h'.holdCause.trans h.holdCause⟩

theorem BuildKept.ite {c : Prop} [Decidable c] (h : BuildKept b s) (h' : BuildKept b u) : BuildKept b (if c then s else u) := by
  split
  · exact h
  · exact h'

theorem BuildKept.foldl {α : Type} {f : State → α → State} {l : List α} (h : BuildKept b s) (hf : ∀ s a, BuildKept b s → BuildKept b (f s a)) : BuildKept b (l.foldl f s) :=
  List.foldlRecOn l f (motive := BuildKept b) h fun s hs a _ => hf s a hs

theorem BuildKept.logFault {d} (h : BuildKept b s) : BuildKept b (s.logFault d) := h.trans ⟨by simp, by simp, by simp, by simp⟩

theorem BuildKept.devEvent {n} (h : BuildKept b s) : BuildKept b (s.devEvent n) := h.trans ⟨by simp, by simp, by simp, by simp⟩

theorem BuildKept.setTarget {n v} (h : BuildKept b s) : BuildKept b (s.setTarget n v) := { h with }

theorem BuildKept.setChan {n v} (h : BuildKept b s) : BuildKept b (s.setChan n v) := { h with }

theorem BuildKept.setLane {l v} (h : BuildKept b s) : BuildKept b (s.setLane l v) := { h with }

theorem BuildKept.setCrates {l} (h : BuildKept b s) : BuildKept b (s.setCrates l) := { h with }

theorem BuildKept.modCrate {id f} (h : BuildKept b s) : BuildKept b (s.modCrate id f) := { h with }

theorem BuildKept.spaceBack (h : BuildKept b s) : BuildKept b s.spaceBack := .ite { h with } h

theorem BuildKept.takeLane {l} (h : BuildKept b s) : BuildKept b (s.takeLane l) := by
  have herase : BuildKept b (s.eraseLane l) := .ite h.setLane.devEvent h.setLane
  exact herase.setLane

theorem BuildKept.prepare {st} (h : BuildKept b s) : BuildKept b (s.prepare st) := by
  unfold State.prepare
  split
  · exact h
  · split
    · next hnew =>
      unfold State.newCrate at hnew
      split at hnew
      · cases hnew
      · cases hnew
        exact (h.foldl fun _ _ hs => hs.takeLane).setCrates
    · exact h

theorem BuildKept.openPrepared {st} (h : BuildKept b s) : BuildKept b (s.openPrepared st) := by
  unfold State.openPrepared
  split
  · exact h
  · exact { h with }

theorem BuildKept.summarise {id} (h : BuildKept b s) : BuildKept b (s.summarise id) := by
  unfold State.summarise
  split
  · exact h
  · exact .ite h (.ite h.modCrate.prepare.openPrepared.prepare h.modCrate)

theorem BuildKept.loseEntries {id keys} (h : BuildKept b s) : BuildKept b (s.loseEntries id keys) := by
  unfold State.loseEntries
  exact .ite (BuildKept.logFault { h with }) { h with }

theorem BuildKept.loseLane {id lane} (h : BuildKept b s) : BuildKept b (s.loseLane id lane) := by
  unfold State.loseLane
  dsimp only
  split
  · exact h
  · exact .ite h (.ite (.loseEntries (.ite (.ite h.modCrate.summarise h.modCrate) (.ite h.modCrate.modCrate.devEvent h.modCrate.modCrate))) (.ite (.ite h.modCrate.summarise h.modCrate) (.ite h.modCrate.modCrate.devEvent h.modCrate.modCrate)))

theorem BuildKept.reform {c} (h : BuildKept b s) : BuildKept b (s.reform c) :=
  (BuildKept.foldl h.setCrates fun _ _ hs => hs.setLane).prepare.setCrates

theorem BuildKept.loseOp {n block} (h : BuildKept b s) : BuildKept b (s.loseOp n block) := by
  unfold State.loseOp
  split
  · exact h.reform
  · split
    · exact h.loseLane
    · exact h

theorem BuildKept.loseTarget {n} (h : BuildKept b s) : BuildKept b (s.loseTarget n) :=
  (h.foldl fun _ _ hs => .ite hs.reform (hs.foldl fun _ _ hs => hs.loseLane)).spaceBack

/-- A read that brought nothing (R280, R281). -/
theorem BuildKept.readDone {n o failed} (h : BuildKept b s) : BuildKept b (s.readDone n o failed) := by
  have hcounted : ∀ k, BuildKept b (s.countSoft n k) := fun _ => { h with }
  have hreads : ∀ {v : State} {l x}, BuildKept b v → ∀ k, BuildKept b ((v.setLane l x).reconstruct n o.block k) := fun {v l x} hv k => by
    unfold State.reconstruct
    split
    · exact hv.setLane
    · exact .ite hv.setLane (BuildKept.logFault { hv with })
  exact hreads (.ite (BuildKept.setTarget (hcounted _)) (hcounted _)) _

theorem BuildKept.opLost {n o} (h : BuildKept b s) : BuildKept b (s.opLost n o) := .ite h.readDone h.loseOp

theorem BuildKept.abortOps {n p} (h : BuildKept b s) : BuildKept b (s.abortOps n p) := h.setTarget.foldl fun _ _ hs => hs.opLost

theorem BuildKept.checkChannel {c} (h : BuildKept b s) : BuildKept b (s.checkChannel c) := .ite h.setChan.logFault h

theorem BuildKept.targetDown {n} (h : BuildKept b s) : BuildKept b (s.targetDown n) :=
  (BuildKept.foldl h.setTarget fun _ _ hs => hs.opLost).loseTarget.logFault.checkChannel

theorem BuildKept.addBad {n lun plane block grown} (h : BuildKept b s) : BuildKept b (s.addBad n lun plane block grown) := by
  have hreplace : ∀ {v : State} {x}, BuildKept b v → BuildKept b (v.replaceBlock n lun plane x) := fun {v x} hv => by
    unfold State.replaceBlock
    dsimp only
    split
    · exact { hv with }
    · exact { hv with }
  unfold State.addBad
  dsimp only
  split
  · exact h
  · split
    · exact hreplace { h with }
    · split
      · exact hreplace { h with }
      · exact { h with }

theorem BuildKept.bringUp {dead at_} (h : BuildKept b s) : BuildKept b (s.bringUp dead at_) :=
  (h.foldl fun _ _ hs => .ite hs (hs.setChan.foldl fun _ _ hs => hs.abortOps.setTarget)).foldl fun _ _ hs => hs.targetDown

/-! BUILD and EXTENSION (R261). -/

/-- The array stands: what its bring-up kept, and NO_ARRAY no longer withholds READY. -/
theorem arrayStands_says (h : BuildKept b s) (x : Detection) :
    (s.arrayStands.logFault x).spaceBack.flash.desc = b.flash.desc ∧ (s.arrayStands.logFault x).spaceBack.flash.buildState = b.flash.buildState ∧
      (s.arrayStands.logFault x).spaceBack.flash.buildErr = b.flash.buildErr ∧ (s.arrayStands.logFault x).spaceBack.dev.holdCause ≠ 4 := by
  have hkept : BuildKept s.arrayStands (s.arrayStands.logFault x).spaceBack := (buildKept_refl _).logFault.spaceBack
  have hflash : s.arrayStands.flash = s.flash := by
    unfold State.arrayStands
    split <;> rfl
  have hcause : s.arrayStands.dev.holdCause ≠ 4 := by
    unfold State.arrayStands
    split
    · exact (by decide : (0 : Nat) ≠ 4)
    · next hne => exact hne
  rw [hkept.desc, hkept.buildState, hkept.buildErr, hkept.holdCause, hflash]
  exact ⟨h.desc, h.buildState, h.buildErr, hcause⟩

/-- What a build that passes leaves (R261, R445). -/
theorem buildPass_says (s : State) (d : Bytes) (l : List TargetAns) (extend : Bool) :
    (s.buildPass d l extend).flash.desc = d.take (descLen d) ∧ (s.buildPass d l extend).flash.buildState = .built ∧ (s.buildPass d l extend).flash.buildErr = 0 ∧ (s.buildPass d l extend).dev.holdCause ≠ 4 :=
  arrayStands_says (BuildKept.bringUp ((buildKept_refl _).foldl fun _ _ hs => hs.foldl fun _ _ hs => hs.addBad)) _

/-- A failed build shows its code and target, and writes nothing to flash (R261, R445). -/
theorem buildFail_says (s : State) (r : Nat × Nat) :
    (s.buildFail r).flash = { s.flash with buildState := .failed, buildErr := r.1, failedTarget := r.2 } ∧ s.buildFail r = { s with flash := (s.buildFail r).flash, dev := (s.buildFail r).dev } := by
  unfold State.buildFail
  dsimp only
  split <;> exact ⟨rfl, rfl⟩

theorem build_says {d : HostRead} {l : List TargetAns} (hlive : s.scrapped = false) (hwarn : s.power.warn = false) (hmay : s.mayBuild = true) (hextend : s.flash.extend = false) :
    exec (.build d l) s = .next (s.runBuild false d l) := by
  refine congrArg Host.Outcome.next ((if_neg (by simp [hlive, hwarn])).trans ((if_pos (by simp [hmay])).trans ?_))
  rw [hextend]
  rfl

theorem extension_says {d : HostRead} {l : List TargetAns} (hlive : s.scrapped = false) (hwarn : s.power.warn = false) (hmay : s.mayExtend = true) :
    exec (.extension d l) s = .next (s.runBuild true d l) :=
  congrArg Host.Outcome.next ((if_neg (by simp [hlive, hwarn])).trans (if_pos (by simp [hmay])))

theorem runBuild_of_failure {d : Bytes} {l : List TargetAns} {extend : Bool} (h : (buildCheck s.flash.desc extend d l).1 ≠ 0) :
    s.runBuild extend (.ok d) l = s.buildFail (buildCheck s.flash.desc extend d l) := if_neg h

theorem runBuild_of_pass {d : Bytes} {l : List TargetAns} {extend : Bool} (h : (buildCheck s.flash.desc extend d l).1 = 0) :
    s.runBuild extend (.ok d) l = s.buildPass d l extend := if_pos h

/-! Retraining (R263). -/

theorem retrain_says (h : TakesCommands s t) (hwf : s.flash.targets.wf noTarget = true) (hops : (s.target t).ops = []) (hwork : (s.target t).work = none) (hqueue : (s.target t).queue = []) :
    ∃ r, exec (.retrain t true) s = .next ((({ s with ledger := { s.ledger with rtc := r } } : State).selectVolume t).setTarget t
      { s.target t with state := .inService, zqShort := true, dqTrained := true, trainedAt := r.toNat, trainDue := false }) := by
  obtain ⟨r, hreach⟩ : ∃ r, (if (s.target t).trainDue then s else s.reach ((s.target t).trainedAt + s.flash.retrainS * hz)) = { s with ledger := { s.ledger with rtc := r } } := by
    split
    · exact ⟨s.ledger.rtc, rfl⟩
    · exact reach_says s _
  refine ⟨r, congrArg Host.Outcome.next ?_⟩
  obtain ⟨v, hv⟩ : ∃ v : State, v = { s with ledger := { s.ledger with rtc := r } } := ⟨_, rfl⟩
  have hstart : s.retrain t true = v.beginWork t (.training true) := by
    obtain ⟨⟨hwarn, hpll⟩, hans, hawake⟩ := h
    unfold State.retrain
    rw [if_neg (by simp [hans, hwarn, hpll]), wakeGroup_of_awake hawake]
    dsimp only
    rw [hreach, hv]
  have htakes : TakesCommands v t := by
    rw [hv]
    exact h
  have hread : v.target t = s.target t := by
    rw [hv]
    rfl
  obtain ⟨m, hselect⟩ := selectVolume_onlyFlash (s := v) (t := t)
  have hwf0 : (v.selectVolume t).flash.targets.wf noTarget = true := by
    rw [hselect, hv]
    exact hwf
  obtain ⟨y, hy⟩ : ∃ y : Target, y = { s.target t with state := .inService, zqShort := true, dqTrained := true, trainedAt := r.toNat, trainDue := false } := ⟨_, rfl⟩
  have hread0 : (v.selectVolume t).target t = s.target t := (selectVolume_target t).trans hread
  have hnow : (v.selectVolume t).now = r.toNat := by
    rw [hselect, hv]
    rfl
  have hset : ((v.selectVolume t).setTarget t y).target t = y := target_setTarget_same hwf0 y
  have hquiet : ((v.selectVolume t).setTarget t y).startOps t = (v.selectVolume t).setTarget t y :=
    startOps_of_quiet (setTarget_wf hwf0 y) (by rw [hset, hy]; exact hqueue) (by rw [hset, hy]; exact fun e he => absurd (hops ▸ he) List.not_mem_nil)
  rw [hstart, ← hv, ← hy]
  refine (fc_of_takesCommands htakes _).trans ?_
  dsimp only
  rw [hread, hwork, hops, if_neg (by simp), if_pos rfl]
  refine Eq.trans ?_ hquiet
  unfold State.finishWork
  dsimp only
  rw [target_setTarget_same hwf0, setTarget_twice hwf0, hread0, hy]
  dsimp only
  rw [hwork, ← hnow]

/-! Timeouts (R266). -/

theorem target_congr (h : u.flash = s.flash) (k : Nat) : u.target k = s.target k := by
  unfold State.target
  rw [h]

/-- No crate stands on the target. -/
def NoCrateOn (s : State) (t : Nat) : Prop := ∀ c ∈ s.flash.crates, ∀ l ∈ c.lanes, l.target ≠ t

/-- A program or erase whose lane block no crate holds fails without loss. -/
theorem opLost_of_no_crate (hfree : NoCrateOn s t) {o : LunOp} (hkind : o.kind ≠ .read) : s.opLost t o = s := by
  have hprepared : s.flash.crates.find? (fun c => c.state == .prepared && c.lanes.contains { target := t, block := o.block }) = none :=
    List.find?_eq_none.mpr fun c hc hbad => by
      have hmem : ({ target := t, block := o.block } : Lane) ∈ c.lanes := by simpa using (Bool.and_eq_true_iff.mp hbad).2
      exact hfree c hc _ hmem rfl
  have huser : s.laneUser t o.block = none :=
    List.findSome?_eq_none_iff.mpr fun c hc => by
      rw [Option.map_eq_none_iff, List.findIdx?_eq_none_iff]
      exact fun l hl => by simp [hfree c (List.mem_of_mem_filter hc) l hl]
  unfold State.opLost State.loseOp
  rw [if_neg hkind, hprepared]
  dsimp only
  rw [huser]

theorem loseTarget_of_no_crate (hfree : NoCrateOn s t) : s.loseTarget t = s.spaceBack := by
  have hhit : s.flash.crates.filter (fun c => c.lanes.any (fun l => l.target == t)) = [] :=
    List.filter_eq_nil_iff.mpr fun c hc => by simpa using hfree c hc
  unfold State.loseTarget
  rw [hhit]
  rfl

theorem spaceBack_flash (s : State) : s.spaceBack.flash = s.flash := by
  unfold State.spaceBack
  split <;> rfl

/-- A target that becomes NON_RESPONSIVE with nothing to run, and no crate on it. -/
theorem targetDown_says (hwf : s.flash.targets.wf noTarget = true) (hops : (s.target t).ops = []) (hqueue : (s.target t).queue = []) (hfree : NoCrateOn s t) :
    (s.targetDown t).target t = { s.target t with state := .nonResponsive, ops := [], queue := [], work := none, lostAt := some s.now } := by
  have hchannel : ∀ (v : State) c k, (v.checkChannel c).target k = v.target k := fun v c k => by
    unfold State.checkChannel
    dsimp only
    split
    · exact target_congr (Laws.logFault_flash _ _) k
    · rfl
  have hfree0 : NoCrateOn (s.setTarget t { s.target t with state := .nonResponsive, ops := [], queue := [], work := none, lostAt := some s.now }) t := hfree
  unfold State.targetDown
  dsimp only
  rw [hchannel, hops, hqueue, List.append_nil, List.foldl_nil, loseTarget_of_no_crate hfree0]
  exact (target_congr (by rw [Laws.logFault_flash, spaceBack_flash]) t).trans (target_setTarget_same hwf _)

/-- The operation that exceeds its timeout has failed, and its target is RECOVERING. -/
theorem timeout_begins {lun : Nat} {o : LunOp} (h : OneOp s t lun o) (hkind : o.kind ≠ .read) (ho : o.suspended = false) (hlun : lun < (s.geo t).luns) (hfree : NoCrateOn s t) (lunOk targetOk idOk trainOk : Bool) :
    ∃ v : State, exec (.flashTimeout t lun lunOk targetOk idOk trainOk) s = .next (v.recovery t lunOk targetOk idOk trainOk) ∧
      v.flash = (s.setTarget t { s.target t with state := .recovering, timeouts := sat 8 ((s.target t).timeouts + 1), ops := [] }).flash := by
  have hopOf := opOf_of_one h ho
  obtain ⟨⟨⟨hwarn, -⟩, hans, -⟩, -, -, -, hops, hown, -⟩ := h
  obtain ⟨r, hreach⟩ := reach_says s o.deadline
  obtain ⟨v, hv⟩ : ∃ v, v = (({ s with ledger := { s.ledger with rtc := r } } : State).setTarget t { s.target t with state := .recovering, timeouts := sat 8 ((s.target t).timeouts + 1), ops := [] }).logFault
      { cls := 0x30, unit := 0x8000, detail := 16 * t + lun } := ⟨_, rfl⟩
  have hflash : v.flash = (s.setTarget t { s.target t with state := .recovering, timeouts := sat 8 ((s.target t).timeouts + 1), ops := [] }).flash := by
    rw [hv, Laws.logFault_flash]
    rfl
  have hfree1 : NoCrateOn v t := by
    unfold NoCrateOn
    rw [hflash]
    exact hfree
  have hmine : (s.target t).ops.filter (fun o => o.lun == lun) = [o] := by
    rw [hops]
    exact List.filter_cons_of_pos (by simp [hown])
  have hrest : (s.target t).ops.filter (fun o => o.lun != lun) = [] := by
    rw [hops]
    exact List.filter_cons_of_neg (by simp [hown])
  have hread : ({ s with ledger := { s.ledger with rtc := r } } : State).target t = s.target t := rfl
  refine ⟨v, congrArg Host.Outcome.next ((if_neg (by simp [hans, hlun])).trans ((if_neg (by simp [hwarn])).trans ?_)), hflash⟩
  unfold State.timeout
  rw [hopOf]
  dsimp only
  rw [hreach, hread, hmine, hrest, ← hv, List.foldl_cons, List.foldl_nil, opLost_of_no_crate hfree1 hkind]

/-- A target whose trainings pass again is back in service, and what waits starts (R266). -/
theorem recoverTarget_says {feats vend : SMap Nat} (hwf : s.flash.targets.wf noTarget = true) (hops : (s.target t).ops = []) (hqueue : (s.target t).queue = []) :
    ∃ v, s.recoverTarget t true true feats vend = v ∧
      v.flash = (s.setTarget t { (s.target t).trained with state := .inService, features := feats, vendor := vend, trainedAt := s.now, trainDue := false, work := none }).flash := by
  obtain ⟨v, hv⟩ : ∃ v, v = s.logStep t 4 1 := ⟨_, rfl⟩
  have hflash : v.flash = s.flash := by
    rw [hv]
    exact Laws.logFault_flash s _
  have hread := target_congr hflash t
  have hwf1 : v.flash.targets.wf noTarget = true := by
    rw [hflash]
    exact hwf
  obtain ⟨y, hy⟩ : ∃ y : Target, y = { (s.target t).trained with state := .inService, features := feats, vendor := vend, trainedAt := s.now, trainDue := false, work := none } := ⟨_, rfl⟩
  have hset := target_setTarget_same (t := t) hwf1 y
  have hquiet : (v.setTarget t y).startOps t = v.setTarget t y :=
    startOps_of_quiet (setTarget_wf hwf1 y) (by rw [hset, hy]; exact hqueue) (by rw [hset, hy]; exact fun e he => absurd (hops ▸ he) List.not_mem_nil)
  have hgo : s.recoverTarget t true true feats vend = v.setTarget t y := by
    refine Eq.trans ?_ hquiet
    rw [hy, hv, ← hread, hv]
    rfl
  refine ⟨_, hgo, ?_⟩
  rw [← hy]
  exact congrArg (fun f : Flash => { f with targets := f.targets.set noTarget t y }) hflash

/-- A target that no reset brings back is NON_RESPONSIVE (R266). -/
theorem recovery_fails (hwf : s.flash.targets.wf noTarget = true) (hops : (s.target t).ops = []) (hqueue : (s.target t).queue = []) (hfree : NoCrateOn s t) (idOk trainOk : Bool) :
    ((s.recovery t false false idOk trainOk).target t).state = .nonResponsive ∧ ((s.recovery t false false idOk trainOk).target t).ops = [] := by
  have hlog : ∀ (v : State) k out, (v.logStep t k out).flash = v.flash := fun v _ _ => Laws.logFault_flash v _
  obtain ⟨s2, hs2⟩ : ∃ s2, s2 = s.logStep t 2 0 := ⟨_, rfl⟩
  have hflash2 : s2.flash = s.flash := by rw [hs2, hlog]
  have hwf2 : s2.flash.targets.wf noTarget = true := by rw [hflash2]; exact hwf
  have hops2 : (s2.target t).ops = [] := by rw [target_congr hflash2]; exact hops
  have habort : s2.abortOps t (fun _ => true) = s2 := by
    rw [abortOps_of_reads (by rw [hops2]; exact fun _ h => absurd h List.not_mem_nil), hops2]
    refine Eq.trans (congrArg (s2.setTarget t) ?_) (setTarget_self hwf2)
    rw [show [].filter (fun o : LunOp => !true) = (s2.target t).ops from hops2.symm]
    rfl
  obtain ⟨s3, hs3⟩ : ∃ s3, s3 = s2.logStep t 3 0 := ⟨_, rfl⟩
  have hflash3 : s3.flash = s.flash := by rw [hs3, hlog, hflash2]
  have hwf3 : s3.flash.targets.wf noTarget = true := by rw [hflash3]; exact hwf
  obtain ⟨s5, hs5⟩ : ∃ s5, s5 = (s3.setTarget t (s3.target t).afterReset).logStep t 5 0 := ⟨_, rfl⟩
  have hflash5 : s5.flash = (s3.setTarget t (s3.target t).afterReset).flash := by rw [hs5, hlog]
  have hread5 : s5.target t = (s.target t).afterReset := by rw [target_congr hflash5, target_setTarget_same hwf3, target_congr hflash3]
  have hgo : s.recovery t false false idOk trainOk = s5.targetDown t := by
    unfold State.recovery
    dsimp only
    rw [if_neg (by decide), if_neg (by decide), ← hs2, habort, ← hs3, ← hs5]
  have hdown := targetDown_says (s := s5) (t := t) (by rw [hflash5]; exact setTarget_wf hwf3 _) (by rw [hread5]; rfl) (by rw [hread5]; exact hqueue) (by
    unfold NoCrateOn
    rw [hflash5, show (s3.setTarget t (s3.target t).afterReset).flash.crates = s.flash.crates from show s3.flash.crates = s.flash.crates from congrArg Flash.crates hflash3]
    exact hfree)
  rw [hgo, hdown]
  exact ⟨rfl, rfl⟩

/-- A target whose LUN reset and trainings pass is in service again, with its features (R266). -/
theorem recovery_succeeds (hwf : s.flash.targets.wf noTarget = true) (hops : (s.target t).ops = []) (hqueue : (s.target t).queue = []) :
    ∃ y : Target, (s.recovery t true true true true).flash = (s.setTarget t y).flash ∧ y.state = .inService ∧ y.timeouts = (s.target t).timeouts ∧ y.ops = [] ∧ y.features = (s.target t).features := by
  obtain ⟨w, hw⟩ : ∃ w, w = s.logStep t 2 0 := ⟨_, rfl⟩
  have hflash : w.flash = s.flash := by
    rw [hw]
    exact Laws.logFault_flash s _
  have hread := target_congr hflash t
  obtain ⟨u, hu, hflashu⟩ := recoverTarget_says (s := w) (t := t) (feats := (s.target t).features) (vend := (s.target t).vendor) (by rw [hflash]; exact hwf) (by rw [hread]; exact hops)
    (by rw [hread]; exact hqueue)
  have hrec : s.recovery t true true true true = u := by
    unfold State.recovery
    dsimp only
    rw [if_pos rfl, ← hw, hu]
  generalize hy : ({ (w.target t).trained with state := .inService, features := (s.target t).features, vendor := (s.target t).vendor, trainedAt := w.now, trainDue := false, work := none } : Target) = y at hflashu
  refine ⟨y, ?_, ?_, ?_, ?_, ?_⟩
  · rw [hrec, hflashu]
    exact congrArg (fun f : Flash => { f with targets := f.targets.set noTarget t y }) hflash
  · rw [← hy]
  · rw [← hy, hread]
    rfl
  · rw [← hy, hread]
    exact hops
  · rw [← hy]

/-- Settles O31: a build keeps its result through the bring-up of the channels, and a timeout's recovery ends with the target in service or lost. -/
theorem buildsAndRecoveries : Obligations.BuildsAndRecoveries := by
  refine ⟨fun s d l r hlive hwarn => ⟨fun hr hmay hextend => ⟨fun hfail => ?_, fun hpass => ?_, ?_⟩, fun hr hmay => ⟨fun hfail => ?_, fun hpass => ?_⟩⟩, fun s t h hwf hops hwork hqueue => ?_,
    fun s t lun o h hkind ho hlun hfree => ⟨?_, ?_⟩⟩
  · subst hr
    exact ⟨_, (build_says hlive hwarn hmay hextend).trans (congrArg _ (runBuild_of_failure hfail)), buildFail_says s _⟩
  · subst hr
    obtain ⟨hdesc, hstate, herr, hcause⟩ := buildPass_says s d l false
    exact ⟨_, (build_says hlive hwarn hmay hextend).trans (congrArg _ (runBuild_of_pass hpass)), hstate, hdesc, herr, hcause⟩
  · exact ⟨_, build_says hlive hwarn hmay hextend, (buildFail_says s (3, 0)).1⟩
  · subst hr
    exact ⟨_, (extension_says hlive hwarn hmay).trans (congrArg _ (runBuild_of_failure hfail)), (buildFail_says s _).1⟩
  · subst hr
    obtain ⟨hdesc, hstate, herr, -⟩ := buildPass_says s d l true
    exact ⟨_, (extension_says hlive hwarn hmay).trans (congrArg _ (runBuild_of_pass hpass)), hstate, hdesc, herr⟩
  · obtain ⟨r, hgo⟩ := retrain_says h hwf hops hwork hqueue
    obtain ⟨m, hselect⟩ := selectVolume_onlyFlash (s := { s with ledger := { s.ledger with rtc := r } }) (t := t)
    refine ⟨_, hgo, ?_, ?_⟩
    · rw [hselect]
      exact rfl
    · refine (target_setTarget_same (by rw [hselect]; exact hwf) _).trans ?_
      rw [hselect]
      rfl
  · obtain ⟨v, hgo, hflash⟩ := timeout_begins h hkind ho hlun hfree true true true true
    obtain ⟨-, hwf, -, hqueue, -, -, -⟩ := h
    have hread : v.target t = _ := (target_congr hflash t).trans (target_setTarget_same hwf _)
    have hwfv : v.flash.targets.wf noTarget = true := by
      rw [hflash]
      exact setTarget_wf hwf _
    obtain ⟨y, hrec, hstate, htimeouts, hops, hfeatures⟩ := recovery_succeeds (s := v) (t := t) hwfv (by rw [hread]) (by rw [hread]; exact hqueue)
    have hlast : (v.recovery t true true true true).target t = y := (target_congr hrec t).trans (target_setTarget_same hwfv y)
    refine ⟨_, hgo, ?_, ?_, ?_, ?_, ?_⟩
    · rw [hlast, hstate]
    · rw [hlast, htimeouts, hread]
    · rw [hlast, hops]
    · rw [hlast, hfeatures, hread]
    · rw [hrec]
      show v.flash.crates = s.flash.crates
      rw [hflash]
      rfl
  · obtain ⟨v, hgo, hflash⟩ := timeout_begins h hkind ho hlun hfree false false true true
    obtain ⟨-, hwf, -, hqueue, -, -, -⟩ := h
    have hread : v.target t = _ := (target_congr hflash t).trans (target_setTarget_same hwf _)
    obtain ⟨hstate, hops⟩ := recovery_fails (s := v) (t := t) (by rw [hflash]; exact setTarget_wf hwf _) (by rw [hread]) (by rw [hread]; exact hqueue) (by
      unfold NoCrateOn
      rw [hflash]
      exact hfree) true true
    refine ⟨_, hgo, hstate, hops, ?_⟩
    unfold State.answers State.serves
    rw [hstate]
    simp

end Sys2Proof.Proofs
end


section
/-! SUPPORT. The percolator's jobs, each on the crate that it takes up, and the programming of a row (R278, R279, R283, R292 to R300). -/

namespace Sys2Proof.Proofs

open Sys2Proof Sys2Proof.Machine Sys2Proof.Safety

variable {s : State} {c : Crate}

/-- What work that runs in SERVICE, HOLDOVER and CATCH-UP finds. -/
theorem percolates_says (h : s.percolates = true) : s.power.warn = false ∧ s.power.pllSwitching = false ∧ s.power.mode ≠ .lockdown ∧ s.scrubs = true := by
  have hmodes : ((s.power.mode = .service ∨ s.power.mode = .holdover) ∨ s.power.mode = .catchup) ∧ s.power.warn = false ∧ s.power.pllSwitching = false := by
    simpa [State.percolates, and_assoc] using h
  obtain ⟨hmode, hwarn, hpll⟩ := hmodes
  refine ⟨hwarn, hpll, fun hlock => ?_, by simp [State.scrubs, h]⟩
  rw [hlock] at hmode
  simp at hmode

/-- A row that every lane takes is programmed (R278). -/
theorem programRow_of_whole {id : Nat} (hc : s.crate? id = some c) (hopen : c.state = .opened) (hlost : c.lostLanes = []) (hfull : c.sealedUp = true ∨ (c.rowsProgrammed + 1) * c.rowSlots ≤ c.nextSlot)
    (hmore : c.rowsProgrammed * c.rowSlots < c.nextSlot) :
    s.programRow id [] = ((s.modCrate id (fun x => x.advance s.lifeCount (c.rowsProgrammed + 1))).settleCrate id).closeDone id := by
  have hfail : s.failLanes id [] = s := by
    unfold State.failLanes
    rw [hc]
    rfl
  have hready : ¬ (c.state != .opened || decide (c.nextSlot ≤ c.rowsProgrammed * c.rowSlots) || (!c.sealedUp && decide (c.nextSlot < (c.rowsProgrammed + 1) * c.rowSlots))) = true := by
    rcases hfull with hsealed | hrow
    · simp [hopen, hmore, hsealed]
    · simp [hopen, hmore, hrow]
  unfold State.programRow
  rw [hc]
  dsimp only
  rw [if_neg hready, hfail, hc]
  simp [hlost]

theorem reclaim_of_protected (h : s.percolates = true) (hdue : s.reclaimDue = true) (hfind : s.reclaimables.find? s.caseOneTwo = some c) : s.reclaim = s.moveAndErase c.id (fun s o => s.protects o) := by
  obtain ⟨hwarn, hpll, hmode, -⟩ := percolates_says h
  unfold State.reclaim
  rw [if_neg (by simp [hdue, hwarn, hpll, hmode]), hfind]

theorem rebuild_of_exposed (h : s.percolates = true) (hfind : (s.flash.crates.filter (fun c => c.kind != .system)).find? (fun c => c.state == .exposed) = some c) : s.rebuild = s.refreshCrate c.id := by
  obtain ⟨-, -, -, hscrubs⟩ := percolates_says h
  unfold State.rebuild
  rw [if_neg (by simp [hscrubs])]
  dsimp only
  rw [hfind]

theorem rebuild_of_degraded (h : s.percolates = true) (hnone : ∀ x ∈ s.flash.crates, x.state ≠ .exposed)
    (hfind : (s.flash.crates.filter (fun c => c.kind != .system)).find? (fun c => c.state == .degraded) = some c) : s.rebuild = s.refreshCrate c.id := by
  obtain ⟨-, -, -, hscrubs⟩ := percolates_says h
  have hexposed : (s.flash.crates.filter (fun c => c.kind != .system)).find? (fun c => c.state == .exposed) = none :=
    List.find?_eq_none.mpr fun x hx => by simp [hnone x (List.mem_of_mem_filter hx)]
  unfold State.rebuild
  rw [if_neg (by simp [hscrubs])]
  dsimp only
  rw [hexposed, hfind]

theorem refresh_of_due (h : s.percolates = true) (hfind : s.flash.crates.find? s.refreshDue = some c) : s.refresh = s.refreshCrate c.id := by
  obtain ⟨-, -, -, hscrubs⟩ := percolates_says h
  unfold State.refresh
  rw [if_neg (by simp [hscrubs]), hfind]

/-! Wear levelling (R296). -/

/-- The first index that gives a value. -/
theorem findSome?_range {α : Type} {f : Nat → Option α} {n k : Nat} {a : α} (hk : k < n) (hbelow : ∀ j, j < k → f j = none) (hfound : f k = some a) : (List.range n).findSome? f = some a := by
  obtain ⟨m, rfl⟩ : ∃ m, n = k + (m + 1) := ⟨n - k - 1, by omega⟩
  rw [List.range_add, List.findSome?_append, List.findSome?_eq_none_iff.mpr fun j hj => hbelow j (List.mem_range.mp hj), List.range_succ_eq_map, List.map_cons, List.findSome?_cons, Nat.add_zero, hfound]
  rfl

theorem levelWear_takes (h : s.percolates = true) (hmode : s.power.mode ≠ .holdover) {ch : Nat} (hch : ch < 64) (hbelow : ∀ k, k < ch → (s.chanWear k).2 ≤ (s.chanWear k).1 + s.flash.wearSpread)
    (hspread : (s.chanWear ch).1 + s.flash.wearSpread < (s.chanWear ch).2)
    (hfind : s.flash.crates.find? (fun c => c.complete && c.kind != .system && c.lanes.any (fun l => l.target / 16 == ch && (s.lane l).erases == (s.chanWear ch).1)) = some c) :
    s.levelWear = s.refreshCrate c.id := by
  unfold State.levelWear
  rw [if_neg (by simp [h, hmode])]
  dsimp only
  rw [findSome?_range (f := fun k => if (s.chanWear k).1 + s.flash.wearSpread < (s.chanWear k).2 then
    s.flash.crates.find? (fun c => c.complete && c.kind != .system && c.lanes.any (fun l => l.target / 16 == k && (s.lane l).erases == (s.chanWear k).1)) else none)
    hch (fun k hk => if_neg (Nat.not_lt.mpr (hbelow k hk))) ((if_pos hspread).trans hfind)]

/-! Scrubs (R293). -/

theorem scrubCodeword_queue (l : List (CodewordAt × Nat)) (p : CodewordAt × Nat) (s : State) : (s.scrubCodeword c l p).flash.refreshQueue = s.flash.refreshQueue := by
  have hsoft : ∀ (v : State) t n, (v.countSoft t n).flash.refreshQueue = v.flash.refreshQueue := fun _ _ _ => rfl
  have hretry : ∀ (v : State) t lun, (v.setRetry t lun 0).flash.refreshQueue = v.flash.refreshQueue := fun _ _ _ => rfl
  have hlose : ∀ (v : State) keys, (v.loseEntries c.id keys).flash.refreshQueue = v.flash.refreshQueue := fun v keys => by
    unfold State.loseEntries
    dsimp only
    split
    · rw [Laws.logFault_flash]
    · rfl
  have hrec : ∀ (v : State) t block, (v.reconstructed t block c.id 1).flash.refreshQueue = v.flash.refreshQueue := fun v t block => by
    unfold State.reconstructed
    rw [Laws.logFault_flash]
  have hsteps : ∀ (q r : Prop) [Decidable q] [Decidable r] t lun, (if q then (if r then s.countSoft t 1 else s).setRetry t lun 0 else (if r then s.countSoft t 1 else s)).flash.refreshQueue = s.flash.refreshQueue :=
    fun q r _ _ t lun => by
      split
      · rw [hretry]
        split <;> rfl
      · split <;> rfl
  unfold State.scrubCodeword
  dsimp only
  split
  · exact hsteps _ _ _ _
  · split
    · rw [hrec]
      exact hsteps _ _ _ _
    · rw [hlose]
      exact hsteps _ _ _ _

theorem foldl_queue {α : Type} {f : State → α → State} (hf : ∀ s a, (f s a).flash.refreshQueue = s.flash.refreshQueue) (l : List α) (s : State) : (l.foldl f s).flash.refreshQueue = s.flash.refreshQueue :=
  List.foldlRecOn l f (motive := fun u => u.flash.refreshQueue = s.flash.refreshQueue) rfl fun u hu a _ => (hf u a).trans hu

/-- A scrub has its crate refreshed where a codeword is weak or a lane lost, and only there. -/
theorem scrubCrate_queue {out : ScrubOut} (hc : s.crate? out.crate = some c) (hcomplete : c.complete = true) :
    ((c.lostLanes ≠ [] ∨ ∃ p ∈ s.scrubbed c out, s.flash.refreshBits < p.1.cw.bits ∨ 3 ≤ p.2) → c.id ∈ (s.scrubCrate out).flash.refreshQueue) ∧
      (c.lostLanes = [] → (∀ p ∈ s.scrubbed c out, p.1.cw.bits ≤ s.flash.refreshBits ∧ p.2 < 3) → (s.scrubCrate out).flash.refreshQueue = s.flash.refreshQueue) := by
  obtain ⟨v, hv⟩ : ∃ v, v = (s.scrubbed c out).foldl (fun u p => u.scrubCodeword c (s.scrubbed c out) p)
    (c.lanes.foldl (fun s l => s.setLane l { s.lane l with reads := 0 }) (s.modCrate c.id (fun c => { c with scrubbedAt := s.now }))) := ⟨_, rfl⟩
  have hqueue : v.flash.refreshQueue = s.flash.refreshQueue := by
    rw [hv]
    exact (foldl_queue (fun u p => scrubCodeword_queue _ p u) _ _).trans (foldl_queue (f := fun s l => s.setLane l { s.lane l with reads := 0 }) (fun _ _ => rfl) _ _)
  have hgo : s.scrubCrate out = if (c.lostLanes != [] || (s.scrubbed c out).any (fun p => decide (s.flash.refreshBits < p.1.cw.bits) || decide (3 ≤ p.2))) && !v.flash.refreshQueue.contains c.id then
      { v with flash := { v.flash with refreshQueue := v.flash.refreshQueue ++ [c.id] } } else v := by
    unfold State.scrubCrate
    rw [hc]
    dsimp only at hv ⊢
    rw [hcomplete, if_neg (by decide), ← hv]
  refine ⟨fun hweak => ?_, fun hlost hstrong => ?_⟩
  · have htest : (c.lostLanes != [] || (s.scrubbed c out).any (fun p => decide (s.flash.refreshBits < p.1.cw.bits) || decide (3 ≤ p.2))) = true := by
      simpa only [Bool.or_eq_true, bne_iff_ne, List.any_eq_true, decide_eq_true_eq] using hweak
    rw [hgo, htest, Bool.true_and]
    split
    · exact List.mem_append_right _ (List.mem_singleton_self _)
    · next hin => simpa using hin
  · have hany : (s.scrubbed c out).any (fun p => decide (s.flash.refreshBits < p.1.cw.bits) || decide (3 ≤ p.2)) = false :=
      List.any_eq_false.mpr fun p hp => by
        have := hstrong p hp
        simp only [Bool.or_eq_true, decide_eq_true_eq]
        omega
    rw [hgo, hlost, hany, if_neg (by simp), hqueue]

/-- Settles O32: each job finds its crate, and a scrub changes the list of crates to refresh only where it finds reason. -/
theorem percolatorTakesUp : Obligations.PercolatorTakesUp := by
  refine ⟨fun s id c hc hopen hlost hfull hmore => congrArg (fun u : State => Host.Outcome.next u.closeFullCrates) (programRow_of_whole hc hopen hlost hfull hmore), fun s c h => ⟨?_, ?_, ?_, ?_, ?_, ?_⟩⟩
  · exact fun hdue hfind => congrArg Host.Outcome.next (reclaim_of_protected h hdue hfind)
  · exact fun hfind => congrArg Host.Outcome.next (rebuild_of_exposed h hfind)
  · exact fun hnone hfind => congrArg Host.Outcome.next (rebuild_of_degraded h hnone hfind)
  · exact fun hfind => congrArg Host.Outcome.next (refresh_of_due h hfind)
  · exact fun ch hch hbelow hspread hmode hfind => congrArg Host.Outcome.next (levelWear_takes h hmode hch hbelow hspread hfind)
  · intro out hid hc hcomplete
    obtain ⟨-, -, -, hscrubs⟩ := percolates_says h
    rw [← hid] at hc
    obtain ⟨hweak, hstrong⟩ := scrubCrate_queue (out := out) hc hcomplete
    refine ⟨_, congrArg Host.Outcome.next (if_pos hscrubs), hweak, hstrong, fun hdist => ?_, fun hdist => ?_⟩
    · exact congrArg Host.Outcome.next (if_pos (by simp [hscrubs, hc, hdist]))
    · exact congrArg Host.Outcome.next (if_neg (by simp [hscrubs, hc, hdist]))

end Sys2Proof.Proofs
end


section
/-! SUPPORT. SELF_TEST and CALIBRATE tickets, and the read-level calibration that is due (R197, R198, R294, R295, R370). -/

namespace Sys2Proof.Proofs

open Sys2Proof Sys2Proof.Machine Sys2Proof.Safety

variable {s : State} {a : TkArg} {t : Tk} {o : ObjRead} {out : TestOut} {code n : Nat}

/-! One unit's test (R197, R198). -/

theorem admitted_congr {u : State} {op : Nat} (h : Admitted s a op t) (htickets : u.host.tickets = s.host.tickets) (hpll : u.power.pllSwitching = s.power.pllSwitching) : Admitted u a op t := by
  obtain ⟨hfabric, htk, hstage, hop⟩ := h
  exact ⟨hpll.trans hfabric, by rw [State.tk?, htickets]; exact htk, hstage, hop⟩

/-- A test without a destination goes on with its unit. -/
theorem withTest_of_no_data (h : Admitted s a 0x38 t) (hdata : t.tk.noData = true) (hcode : t.tk.op 50 1 = code) (f : State → Tk → Nat → Option (List Extent) → State) :
    s.withTest a o code f = f s t (t.tk.op 48 2) none := by
  unfold State.withTest
  rw [withTk_of_admitted h, if_neg (not_not.mpr hcode), if_pos hdata]

theorem endTest_of_no_data (h : Admitted s a 0x38 t) (recs : List Bytes) (result : Nat) : s.endTest a none recs result = s.finish t { t.receipt 0 with result := result } a.us := by
  unfold State.endTest
  rw [withTk_of_admitted h]

theorem oneTest_begins {late : Option Nat} (h : Admitted s a 0x38 t) (hdata : t.tk.noData = true) (hcode : t.tk.op 50 1 = code) (hone : s.testOne (t.tk.op 48 2) code out late = none) :
    s.oneTest a o out late code = s.beginTest (t.tk.op 48 2) := by
  refine (withTest_of_no_data h hdata hcode _).trans ?_
  rw [hone]

theorem oneTest_ends {late : Option Nat} {u : State} {r : Bytes} {x : Nat} (h : Admitted s a 0x38 t) (hdata : t.tk.noData = true) (hcode : t.tk.op 50 1 = code)
    (hone : s.testOne (t.tk.op 48 2) code out late = some (u, r, x)) (hu : Admitted u a 0x38 t) : s.oneTest a o out late code = u.finish t { t.receipt 0 with result := x } a.us := by
  refine (withTest_of_no_data h hdata hcode _).trans ?_
  rw [hone]
  exact endTest_of_no_data hu _ _

section
variable {late : Option Nat} (hlevel : n / 4096 ≠ 12) (hbroke : (s.unitSt n).broke = false)
include hlevel hbroke

theorem testOne_of_active (h : (s.unitSt n).state = .active) : s.testOne n code out late = none := by
  unfold State.testOne State.testUnit
  rw [if_neg hlevel]
  dsimp only
  rw [hbroke, h]
  rfl

theorem testOne_of_retired (h : (s.unitSt n).state = .retired) : s.testOne n code out late = some (s, testRecord n code 2 0 0, 2) := by
  unfold State.testOne State.testUnit
  rw [if_neg hlevel]
  dsimp only
  rw [hbroke, h]
  rfl

theorem testOne_of_pass (h : (s.unitSt n).state = .underTest) (hpass : s.testFails n out = false) : ∃ r, s.testOne n code out late = some (s.undrain n, r, 0) := by
  unfold State.testOne State.testUnit
  rw [if_neg hlevel]
  dsimp only
  rw [hbroke, h, hpass]
  exact ⟨_, rfl⟩

end

/-- The test of an active unit begins: it drains where it holds work (R197). -/
theorem beginTest_of_active (hlevel : n / 4096 ≠ 12) (h : (s.unitSt n).state = .active) (hmay : s.mayDrain n = true) :
    s.beginTest n = (s.lendSpare n).setUState n (if (s.lendSpare n).holdsWork n then .draining else .underTest) := by
  unfold State.beginTest State.drain
  dsimp only
  rw [if_neg hlevel, h, if_neg (by decide), if_pos ⟨Or.inl rfl, hmay⟩]

/-! Monitor sources (R370 to R372). -/

theorem setSrc_src (hwf : s.tamper.srcs.wf Src.at_ = true) (i m : Nat) (v : Src) : (s.setSrc i v).src m = if m = i then v else s.src m := get_set hwf i m v

/-- The test of a source that its detail says passes. -/
theorem testSource_of_pass (hwf : s.tamper.srcs.wf Src.at_ = true) {i : Nat} (hfused : s.fused i = false) (hmasked : (s.src i).masked = true) (hpass : bits out.detail.toNat 0 2 = 0) {b : Nat} (hb : b % 256 = i) :
    ∃ v r, s.testSource b code out none = some (v, r, 0) ∧ OnlyTamper s v ∧ v.src i = { s.src i with masked := false, testFail := false } ∧ ∀ m, m ≠ i → v.src m = s.src m := by
  have hdetail : bits (s.sourceDetail out.detail).toNat 0 2 = 0 := by
    unfold State.sourceDetail bits at *
    rw [BitVec.toNat_ofNat]
    omega
  have hread : (s.setSrc i { s.src i with masked := false }).src i = { s.src i with masked := false } := (setSrc_src hwf i i _).trans (if_pos rfl)
  have hwf0 : (s.setSrc i { s.src i with masked := false }).tamper.srcs.wf Src.at_ = true := Laws.set_wf _ _ _ _ hwf
  refine ⟨(s.setSrc i { s.src i with masked := false }).setSrc i { s.src i with masked := false, testFail := false }, testRecord b code 0 out.durationUs (s.sourceDetail out.detail), ?_, rfl,
    (setSrc_src hwf0 i i _).trans (if_pos rfl), fun m hm => by rw [setSrc_src hwf0, if_neg hm, setSrc_src hwf, if_neg hm]⟩
  unfold State.testSource
  dsimp only
  rw [hb, hfused, if_neg (by decide), hmasked, if_pos rfl, hdetail, hread]
  rfl

/-! FULL (R198). -/

section
variable {e : Nat} (he : e < 8) (hn : n = 0x7000 + e)
include he hn

theorem testedUnits_of_hasher : testedUnits n = [n] ∧ unitLevel n = some 7 := by
  have hlevel : unitLevel n = some 7 := by
    subst hn
    interval_cases e <;> rfl
  refine ⟨?_, hlevel⟩
  unfold testedUnits
  rw [hlevel]
  rfl

theorem drain_hasher (h : (s.unitSt n).state = .active) : s.beginTest n = s.setUState n .underTest := by
  obtain ⟨-, hlevel⟩ := testedUnits_of_hasher he hn
  have hmay : s.mayDrain n = true := by
    unfold State.mayDrain
    rw [hlevel]
    rfl
  have hlend : s.lendSpare n = s := by
    unfold State.lendSpare
    rw [hlevel]
    exact if_neg (by simp)
  have hwork : s.holdsWork n = false := by
    unfold State.holdsWork
    rw [hlevel]
    rfl
  rw [beginTest_of_active (by omega) h hmay, hlend, hwork, if_neg (by decide)]

theorem fullTest_of_hasher (h : Admitted s a 0x38 t) (hdata : t.tk.noData = true) (hcode : t.tk.op 50 1 = 5) (hunit : t.tk.op 48 2 = n) (hnone : t.test = none) (hretired : (s.unitSt n).state ≠ .retired) :
    s.fullTest a o [out] =
      if (s.fullGo [] false [out] [n]).2.left ≠ [] then (s.fullGo [] false [out] [n]).1.withTk a 0x38 (fun t => (s.fullGo [] false [out] [n]).1.setTk { t with test := some (s.fullGo [] false [out] [n]).2 })
      else (s.fullGo [] false [out] [n]).1.endTest a none (s.fullGo [] false [out] [n]).2.recs (b2n (s.fullGo [] false [out] [n]).2.bad) := by
  obtain ⟨htested, -⟩ := testedUnits_of_hasher he hn
  have halive : s.unitRetired n = false := by
    unfold State.unitRetired
    rw [if_neg (by omega)]
    simpa using hretired
  refine (withTest_of_no_data h hdata hcode _).trans ?_
  rw [hunit, hnone, halive, Option.getD_none, htested, if_neg (by decide)]
  dsimp only
  rw [if_neg (show ¬ (n / 4096 = 12 ∧ s.fused (n % 256) = true) from fun hbad => by omega)]

theorem fullTest_begins (h : Admitted s a 0x38 t) (hdata : t.tk.noData = true) (hcode : t.tk.op 50 1 = 5) (hunit : t.tk.op 48 2 = n) (hnone : t.test = none) (hbroke : (s.unitSt n).broke = false)
    (hmode : s.power.mode ≠ .lockdown) (hstate : (s.unitSt n).state = .active) : ∃ r, r.left = [n] ∧ s.fullTest a o [out] = (s.setUState n .underTest).setTk { t with test := some r } := by
  have hgo : s.fullGo [] false [out] [n] = (s.setUState n .underTest, { left := [n], recs := [], bad := false }) := by
    unfold State.fullGo
    dsimp only
    rw [if_neg (by simp [hmode]), testOne_of_active (by omega) hbroke hstate, drain_hasher he hn hstate]
  refine ⟨{ left := [n], recs := [], bad := false }, rfl, ?_⟩
  rw [fullTest_of_hasher he hn h hdata hcode hunit hnone (by rw [hstate]; decide), hgo, if_pos (by simp)]
  exact withTk_of_admitted (s := s.setUState n .underTest) (admitted_congr h rfl rfl) _

theorem fullTest_passes (h : Admitted s a 0x38 t) (hdata : t.tk.noData = true) (hcode : t.tk.op 50 1 = 5) (hunit : t.tk.op 48 2 = n) (hnone : t.test = none) (hbroke : (s.unitSt n).broke = false)
    (hmode : s.power.mode ≠ .lockdown) (hstate : (s.unitSt n).state = .underTest) (hpass : s.testFails n out = false) (hafter : Admitted (s.undrain n) a 0x38 t) :
    s.fullTest a o [out] = (s.undrain n).finish t { t.receipt 0 with result := 0 } a.us := by
  obtain ⟨r, hone⟩ := testOne_of_pass (code := 5) (late := none) (by omega : n / 4096 ≠ 12) hbroke hstate hpass
  have hgo : s.fullGo [] false [out] [n] = (s.undrain n, { left := [], recs := [r], bad := false }) := by
    unfold State.fullGo
    dsimp only
    rw [if_neg (by simp [hmode]), List.headD_cons, hone]
    rfl
  rw [fullTest_of_hasher he hn h hdata hcode hunit hnone (by rw [hstate]; decide), hgo, if_neg (not_not.mpr rfl)]
  exact endTest_of_no_data hafter _ _

theorem fullTest_of_retired (h : Admitted s a 0x38 t) (hdata : t.tk.noData = true) (hcode : t.tk.op 50 1 = 5) (hunit : t.tk.op 48 2 = n) (hstate : (s.unitSt n).state = .retired) :
    s.fullTest a o [out] = s.finish t { t.receipt 0 with result := 2 } a.us := by
  have hretired : s.unitRetired n = true := by
    unfold State.unitRetired
    rw [if_neg (by omega), hstate]
    rfl
  refine (withTest_of_no_data h hdata hcode _).trans ?_
  rw [hunit, hretired, if_pos rfl]
  exact endTest_of_no_data h _ _

end

/-! Calibration (R294, R295). -/

/-- What a read-level calibration leaves of a target. -/
def levelsKept (s : State) (n : Nat) (out : CalOut) : Target :=
  { s.target n with offsets := out.offsets.foldl (fun m p => m.set (fun _ => []) p.1 (p.2.take (fld (s.page n) 171 1))) (s.target n).offsets, softSince := 0, calibratedAt := s.now }

theorem calibrate_of_part {out : CalOut} (hn : out.target = n) (hfail : out.fail = false) (hpart : fld (s.page n) 168 1 ≠ 0) : s.calibrate out = (s.setTarget n (levelsKept s n out), 0) := by
  subst hn
  unfold State.calibrate
  rw [if_neg (show ¬ s.pageByte out.target 168 = 0 from hpart), hfail, if_neg (by decide)]
  rfl

theorem calOf_target (l : List CalOut) (n : Nat) : (calOf l n).target = n := by
  unfold calOf
  cases hfind : l.find? (fun o => o.target == n) with
  | none => rfl
  | some x => simpa using List.find?_some hfind

/-- A CALIBRATE of one target in service without operations in flight. -/
theorem calTicket_of_one (h : Admitted s a 0x39 t) (hunit : t.tk.op 48 2 = n) (hn : n ≠ 0xFFFF) (hwarn : s.power.warn = false) (hstate : (s.target n).state = .inService) (hops : (s.target n).ops = []) {kind : Nat}
    (hkind : t.tk.op 50 1 = kind) (f : State → Nat → State × Nat) : s.calTicket a kind f = (f s n).1.finish t { t.receipt 0 with result := max 0 (f s n).2 } a.us := by
  have hpll := h.1
  unfold State.calTicket
  rw [withTk_of_admitted h, if_neg (by simp [hkind, hwarn, hpll])]
  dsimp only
  rw [hunit, if_neg hn, List.any_cons, hops, if_neg (by simp), List.foldl_cons, List.foldl_nil, if_pos hstate]

/-- The calibration that is due takes its target up at once where nothing is in flight there. -/
theorem calibrateDue_says {out : CalOut} (hn : out.target = n) (h : TakesCommands s n) (hwf : s.flash.targets.wf noTarget = true) (hstate : (s.target n).state = .inService) (hops : (s.target n).ops = [])
    (hwork : (s.target n).work = none) (hqueue : (s.target n).queue = []) (hfail : out.fail = false) (hpart : fld (s.page n) 168 1 ≠ 0) (hruns : s.percolates = true) (hsoft : 16 ≤ (s.target n).softSince) :
    s.calibrateDue out = (s.selectVolume n).setTarget n (levelsKept s n out) := by
  obtain ⟨m, hselect⟩ := selectVolume_onlyFlash (s := s) (t := n)
  obtain ⟨v, hv⟩ : ∃ v, v = s.selectVolume n := ⟨_, rfl⟩
  have hread : v.target n = s.target n := by rw [hv, selectVolume_target]
  have hwf0 : v.flash.targets.wf noTarget = true := by
    rw [hv, hselect]
    exact hwf
  have hbare : v.setTarget n { v.target n with state := .inService, work := none } = v := by
    refine Eq.trans (congrArg (v.setTarget n) ?_) (setTarget_self hwf0)
    rw [hread, ← hstate, ← hwork]
  have hkept : levelsKept v n out = levelsKept s n out := by
    unfold levelsKept
    rw [hread, hv, hselect]
    rfl
  have hset := target_setTarget_same (t := n) hwf0 (levelsKept s n out)
  have hquiet : (v.setTarget n (levelsKept s n out)).startOps n = v.setTarget n (levelsKept s n out) :=
    startOps_of_quiet (setTarget_wf hwf0 _) (by rw [hset]; exact hqueue) (by rw [hset]; exact fun e he => absurd (hops ▸ he) List.not_mem_nil)
  have hpart0 : fld (v.page n) 168 1 ≠ 0 := by
    rw [hv, hselect]
    exact hpart
  unfold State.calibrateDue
  dsimp only
  rw [hn, if_pos (by simp [hruns, hstate, hsoft])]
  refine (fc_of_takesCommands h _).trans ?_
  dsimp only
  rw [hwork, hops, ← hv, if_neg (by simp), if_pos rfl, ← hquiet, ← hkept]
  unfold State.finishWork
  dsimp only
  rw [hbare, calibrate_of_part hn hfail hpart0]

/-- Settles O33: a served test or calibration ends at once on a unit or target that is ready for it, and begins otherwise. -/
theorem testsAndCalibrations : Obligations.TestsAndCalibrations := by
  refine ⟨fun s a o out t c k n h hdata hunit => ⟨fun hc hcode hlevel hbroke => ?_, fun i hcode hn hi hwf => ?_, fun e hcode hn he hnone hbroke hmode => ?_⟩,
    fun s n h hstate hwf hops hwork hqueue => ⟨fun out hn hfail hruns hsoft hpart => ?_, fun a t l hadm hunit hn hfail => ?_⟩⟩
  · have hgo : exec c s = .next (s.oneTest a o out none k) := by
      rcases (by simpa using hc : (c = _ ∧ k = _) ∨ (c = _ ∧ k = _) ∨ (c = _ ∧ k = _)) with ⟨rfl, rfl⟩ | ⟨rfl, rfl⟩ | ⟨rfl, rfl⟩
      · rfl
      · rfl
      · rfl
    subst hunit
    refine ⟨fun hactive hmay => ⟨_, rfl, ?_⟩, fun htest hpass hafter => ?_, fun hretired => ?_⟩
    · exact hgo.trans (congrArg _ ((oneTest_begins h hdata hcode (testOne_of_active hlevel hbroke hactive)).trans (beginTest_of_active hlevel hactive hmay)))
    · obtain ⟨r, hone⟩ := testOne_of_pass (code := k) (late := none) hlevel hbroke htest hpass
      exact hgo.trans (congrArg _ (oneTest_ends h hdata hcode hone hafter))
    · exact hgo.trans (congrArg _ (oneTest_ends h hdata hcode (testOne_of_retired hlevel hbroke hretired) h))
  · have hlevel : n / 4096 = 12 := by omega
    have hbyte : n % 256 = i := by omega
    have hsource : s.testOne (t.tk.op 48 2) 4 out none = s.testSource n 4 out none := by
      rw [hunit]
      exact if_pos hlevel
    refine ⟨fun hfused => ?_, fun hfused hclear hmasks => ?_, fun hfused hmasked hpass => ?_⟩
    · have hone : s.testSource n 4 out none = some (s, testRecord n 4 3 0 0, 3) := by
        unfold State.testSource
        dsimp only
        rw [hbyte, if_pos hfused]
      exact congrArg Host.Outcome.next (oneTest_ends h hdata hcode (hsource.trans hone) h)
    · have hone : s.testSource n 4 out none = none := by
        unfold State.testSource
        dsimp only
        rw [hbyte, hfused, hmasks i hi, hclear]
        rfl
      have hmask : s.maskSource i = s.setSrc i { s.src i with masked := true } :=
        if_neg (by simpa using hmasks)
      refine congrArg Host.Outcome.next ((oneTest_begins h hdata hcode (hsource.trans hone)).trans ?_)
      rw [hunit]
      unfold State.beginTest
      rw [if_pos hlevel, hbyte, hmask]
    · obtain ⟨v, r, hone, honly, hsame, hother⟩ := testSource_of_pass (code := 4) hwf hfused hmasked hpass hbyte
      refine ⟨v, honly, hsame, hother, congrArg Host.Outcome.next (oneTest_ends h hdata hcode (hsource.trans hone) (admitted_congr h ?_ ?_))⟩
      · rw [honly]
      · rw [honly]
  · refine ⟨fun hactive => ?_, fun htest hpass hafter => ?_, fun hretired => ?_⟩
    · obtain ⟨r, hleft, hgo⟩ := fullTest_begins (out := out) (o := o) he hn h hdata hcode hunit hnone hbroke hmode hactive
      exact ⟨_, r, rfl, hleft, congrArg Host.Outcome.next hgo⟩
    · exact congrArg Host.Outcome.next (fullTest_passes he hn h hdata hcode hunit hnone hbroke hmode htest hpass hafter)
    · exact congrArg Host.Outcome.next (fullTest_of_retired he hn h hdata hcode hunit hretired)
  · obtain ⟨honly, hread, -⟩ := selected_says (t := n) hwf (levelsKept s n out)
    exact ⟨_, congrArg Host.Outcome.next (calibrateDue_says hn h hwf hstate hops hwork hqueue hfail hpart hruns hsoft), honly, hread⟩
  · have hone : ∀ (kind : Nat) f, t.tk.op 50 1 = kind → s.calTicket a kind f = (f s n).1.finish t { t.receipt 0 with result := max 0 (f s n).2 } a.us :=
      fun kind f hkind => calTicket_of_one hadm hunit hn h.1.1 hstate hops hkind f
    refine ⟨fun hkind hpart => ?_, fun hkind hpart => ?_, fun hkind => ?_, fun hkind hcrates => ?_⟩
    · refine congrArg Host.Outcome.next ((hone 1 _ hkind).trans ?_)
      rw [calibrate_of_part (calOf_target l n) hfail hpart]
      rfl
    · have hnone : s.calibrate (calOf l n) = (s, 3) := if_pos (by rw [calOf_target]; exact hpart)
      refine congrArg Host.Outcome.next ((hone 1 _ hkind).trans ?_)
      rw [hnone]
      rfl
    · have hgood : s.calInterface (calOf l n) = (s.setTarget n { s.target n with zqShort := true, dqTrained := true, trainedAt := s.now, trainDue := false }, 0) := by
        unfold State.calInterface
        dsimp only
        rw [calOf_target, hfail]
        rfl
      refine congrArg Host.Outcome.next ((hone 2 _ hkind).trans ?_)
      rw [hgood]
      rfl
    · have hfree : s.flash.crates.filter (fun c => c.complete && c.lanes.any (fun l => l.target == n)) = [] :=
        List.filter_eq_nil_iff.mpr fun c hc hbad => by
          obtain ⟨hcomplete, hany⟩ := Bool.and_eq_true_iff.mp hbad
          obtain ⟨x, hx, hxn⟩ := List.any_eq_true.mp hany
          exact hcrates c hc hcomplete x hx (by simpa using hxn)
      have hgood : s.calScrub n [] = (s, 0) := by
        unfold State.calScrub
        dsimp only
        rw [hfree]
        rfl
      refine congrArg Host.Outcome.next ((hone 3 _ hkind).trans ?_)
      rw [hgood]
      rfl

end Sys2Proof.Proofs
end


section
/-! SUPPORT. Units that fault, are tested and come back or are retired (R172 to R175, R211, R217, R235, R420, R428, R431). -/

namespace Sys2Proof.Proofs

open Sys2Proof Sys2Proof.Machine Sys2Proof.Safety

variable {s : State} {r k : Nat}

/-! Addresses (R167). -/

theorem stallAddr_says (hr : r < 64) {i : Nat} (hi : i < 9) : rowNo (stallAddr r i) = r ∧ stallAddr r i % 16 = i ∧ stallAddr r i / 4096 = 3 ∧ unitLevel (stallAddr r i) = some 3 := by
  have hno : stallAddr r i / 4096 = 3 ∧ stallAddr r i / 256 % 16 = r / 8 ∧ stallAddr r i / 16 % 16 = r % 8 ∧ stallAddr r i % 16 = i := by
    unfold stallAddr
    omega
  obtain ⟨hlevel, hmarket, hrow, hunit⟩ := hno
  refine ⟨by unfold rowNo; omega, hunit, hlevel, ?_⟩
  unfold unitLevel
  dsimp only
  rw [hlevel, hmarket, hrow, hunit]
  exact if_pos (by simp; omega)

theorem engineAddr_says (hr : r < 64) {l : Nat} (hl : l = 4 ∨ l = 5) : rowNo (l * 4096 + r / 8 * 256 + r % 8 * 16) = r ∧ (l * 4096 + r / 8 * 256 + r % 8 * 16) / 4096 = l ∧
    unitLevel (l * 4096 + r / 8 * 256 + r % 8 * 16) = some l := by
  generalize ha : l * 4096 + r / 8 * 256 + r % 8 * 16 = a
  have hno : a / 4096 = l ∧ a / 256 % 16 = r / 8 ∧ a / 16 % 16 = r % 8 ∧ a % 16 = 0 := by omega
  obtain ⟨hlevel, hmarket, hrow, hunit⟩ := hno
  refine ⟨by unfold rowNo; omega, hlevel, ?_⟩
  unfold unitLevel
  dsimp only
  rw [hlevel, hmarket, hrow, hunit]
  rcases hl with rfl | rfl
  · exact if_pos (by simp; omega)
  · exact if_pos (by simp; omega)

theorem stallAddr_ne {i j : Nat} (h : i ≠ j) : stallAddr r i ≠ stallAddr r j := by
  unfold stallAddr
  omega

/-! What a fault's log entry and a change of a unit's state leave of the units. -/

theorem logFault_units (s : State) (d : Detection) : (s.logFault d).units = (if d.counts then s.countFault d.unit else s).units := by
  unfold State.logFault
  dsimp only
  rw [Laws.foldl_faultEvent (fun s => s.units) (by simp)]

theorem logFault_unitSt (hwf : s.units.st.wf UnitSt.reset = true) (d : Detection) (n : Nat) :
    (s.logFault d).unitSt n = if d.counts = true ∧ n = d.unit then { s.unitSt n with faults := sat 16 ((s.unitSt n).faults + 1) } else s.unitSt n := by
  show (s.logFault d).units.st.get UnitSt.reset n = _
  rw [logFault_units]
  by_cases hc : d.counts = true
  · rw [if_pos hc]
    refine (get_set hwf d.unit n _).trans ?_
    by_cases hn : n = d.unit
    · rw [if_pos hn, if_pos ⟨hc, hn⟩, hn]
    · rw [if_neg hn, if_neg fun h => hn h.2]
      rfl
  · rw [if_neg hc, if_neg fun h => hc h.1]
    rfl

theorem logFault_lastUnit (s : State) (d : Detection) : (s.logFault d).fault.lastUnit = d.unit := by
  unfold State.logFault
  dsimp only
  rw [Laws.foldl_faultEvent (fun s => s.fault.lastUnit) (by simp)]
  dsimp only
  generalize (if d.counts = true then s.countFault d.unit else s) = v
  split
  · rfl
  · split
    · rfl
    · split <;> rfl

theorem setUState_unitSt (hwf : s.units.st.wf UnitSt.reset = true) (a : Nat) (st : UnitState) (n : Nat) :
    (s.setUState a st).unitSt n = if n = a then { s.unitSt a with state := st, broke := (s.unitSt a).broke || (st == .faulted && s.inTest a) } else s.unitSt n := get_set hwf a n _

theorem setUState_wf (hwf : s.units.st.wf UnitSt.reset = true) (a : Nat) (st : UnitState) : (s.setUState a st).units.st.wf UnitSt.reset = true := Laws.set_wf _ _ _ _ hwf

theorem unitSt_congr {u : State} (h : u.units.st = s.units.st) (n : Nat) : u.unitSt n = s.unitSt n := by
  unfold State.unitSt
  rw [h]

theorem spareFor_congr {u : State} (h : u.units.spareFor = s.units.spareFor) (n : Nat) : u.spareFor n = s.spareFor n := by
  unfold State.spareFor
  rw [h]

/-! A row with a working stall (R174). -/

/-- The spare stands in for a stall that is out. -/
theorem rowWorks_of_spare (hk : k < 8) (hfor : s.spareFor (rowAddr r) = k) (hspare : (s.unitSt (stallAddr r 8)).state = .standingIn) (hout : (s.unitSt (stallAddr r k)).state ≠ .active) : s.rowWorks r = true :=
  List.any_eq_true.mpr ⟨k, List.mem_range.mpr hk, by simp [State.stallWorks, hfor, hspare, hout]⟩

theorem rowWorks_of_active (hk : k < 8) (h : (s.unitSt (stallAddr r k)).state = .active) : s.rowWorks r = true :=
  List.any_eq_true.mpr ⟨k, List.mem_range.mpr hk, by simp [State.stallWorks, h]⟩

theorem rowEvent_of_works {old : State} (h : s.rowWorks r = true) : s.rowEvent old r = if s.spareFor (rowAddr r) ≠ old.spareFor (rowAddr r) then s.devEvent 2 else s := by
  unfold State.rowEvent
  dsimp only
  rw [h]
  simp

theorem skipRow_of_works (h : s.rowWorks r = true) : s.skipRow r = s := if_pos h

/-! Work withdrawn from the engines (R81, R210). -/

/-- What neither the crypto units nor a report changes is as it was. -/
theorem abortWork_keeps {α : Type} (g : State → α) (hcrypto : ∀ (s : State) x, g { s with crypto := x } = g s) (hlog : ∀ (s : State) d, g (s.logFault d) = g s) (s : State) (ids : List Nat) :
    g (s.abortWork ids) = g s := by
  have hreport : ∀ (s : State) b d, g (s.report b d) = g s := fun s b d => by
    unfold State.report
    dsimp only
    split
    · rw [hlog, hcrypto]
    · rw [hcrypto]
  have hfold : ∀ {α : Type} (f : State → α → State), (∀ s a, g (f s a) = g s) → ∀ (l : List α) s, g (l.foldl f s) = g s := fun f hf l s =>
    List.foldlRecOn l f (motive := fun u => g u = g s) rfl fun u hu a _ => (hf u a).trans hu
  have hcipher : ∀ (s : State) row p st, g (s.strikeCipher row p st) = g s := fun s row p st => by
    unfold State.strikeCipher
    dsimp only
    split
    · rfl
    · exact (hfold _ (fun s o => hreport s _ _) _ _).trans (hcrypto s _)
  have hhash : ∀ (s : State) row p st, g (s.strikeHash row p st) = g s := fun s row p st => by
    unfold State.strikeHash
    dsimp only
    split
    · rfl
    · exact (hfold _ (fun s o => hreport s _ _) _ _).trans (hcrypto s _)
  unfold State.abortWork State.abortPke State.abortCtx
  dsimp only
  rw [hcrypto, hcrypto]
  exact hfold _ (fun s x => (hhash _ _ _ _).trans (hcipher _ _ _ _)) _ _

/-- An item that a first fault stopped is discarded, and its ticket waits to be started again from its start (R113, R420). -/
theorem rerunItem_of_first {i : Item} {t : Tk} (ht : s.tk? i.ticket = some t) (hfirst : t.reruns = 0) :
    ∃ t', t'.stage = .staged ∧ t'.reruns = 1 ∧ t'.stall = t.stall ∧ (s.rerunItem i true true).tk? i.ticket = some t' ∧
      (s.rerunItem i true true).units = { s.units with items := s.units.items.filter (fun x => x.ticket != i.ticket) } ∧ (s.rerunItem i true true).vault = s.vault := by
  obtain ⟨v, hv⟩ : ∃ v, v = ({ s.abortWork [i.ticket] with units := { s.units with items := s.units.items.filter (fun x => x.ticket != i.ticket) } } : State) := ⟨_, rfl⟩
  have hread : v.tk? i.ticket = some t := by
    rw [hv, ← ht]
    show (s.abortWork [i.ticket]).host.tickets.find? _ = s.host.tickets.find? _
    rw [abortWork_keeps (fun s => s.host.tickets) (fun _ _ => rfl) (fun s d => Laws.logFault_host_tickets s d)]
  have hvault : v.vault = s.vault := by
    rw [hv]
    exact abortWork_keeps (fun s => s.vault) (fun _ _ => rfl) (fun s d => Laws.logFault_vault s d) s _
  obtain ⟨t', ht'⟩ : ∃ t', t' = ({ t with stage := .staged, stall := t.stall, reruns := t.reruns + b2n true, retried := t.retried || true, epoch := some i.epoch } : Tk) := ⟨_, rfl⟩
  have hgo : s.rerunItem i true true = v.setTk t' := by
    unfold State.rerunItem
    dsimp only
    rw [← hv, hread]
    dsimp only
    rw [hfirst, if_neg (by decide), if_pos rfl, ht', hfirst]
  refine ⟨t', ?_, ?_, ?_, ?_, ?_, ?_⟩
  · rw [ht']
  · rw [ht', hfirst]
    rfl
  · rw [ht']
  · rw [hgo]
    exact setTk_tk hread (by rw [ht'])
  · rw [hgo, hv]
    rfl
  · rw [hgo]
    exact hvault

/-! A stall that faults (R172, R174, R175). -/

/-- What a fault leaves of a stall, its row's spare and the item that it ran. -/
structure StallFaulted (s u : State) (r k cls : Nat) (i : Item) (t : Tk) : Prop where
  state : (u.unitSt (stallAddr r k)).state = .faulted
  faults : (u.unitSt (stallAddr r k)).faults = sat 16 ((s.unitSt (stallAddr r k)).faults + 1)
  spare : (u.unitSt (stallAddr r 8)).state = .standingIn
  spareFor : u.spareFor (rowAddr r) = k
  items : u.units.items = []
  ticket : ∃ t', u.tk? i.ticket = some t' ∧ t'.stage = .staged ∧ t'.reruns = 1 ∧ t'.stall = t.stall
  lastClass : u.fault.lastClass = cls
  lastUnit : u.fault.lastUnit = stallAddr r k
  tabs : u.tabs = s.tabs
  vault : u.vault = s.vault

section
variable {i : Item} {t : Tk} {cls : Nat} (hr : r < 64) (hk : k < 8) (hunits : s.units.st.wf UnitSt.reset = true) (hspares : s.units.spareFor.wf noSpare = true)
  (hidle : (s.unitSt (stallAddr r 8)).state = .idle) (hitems : s.units.items = [i]) (hunit : i.unit = stallAddr r k) (ht : s.tk? i.ticket = some t) (hfirst : t.reruns = 0) (hcls : cls = 1 ∨ cls = 2)
include hr hk hunits hspares hidle hitems hunit ht hfirst hcls

theorem stallFault_says (detail us : Nat) (esc : Bool) :
    StallFaulted s (s.stallFault (stallAddr r k) cls detail us esc) r k cls i t ∧ (s.stallFault (stallAddr r k) cls detail us esc).tamper = s.tamper := by
  obtain ⟨hrow, hidx, -, -⟩ := stallAddr_says hr (show k < 9 by omega)
  have hne : stallAddr r k ≠ stallAddr r 8 := stallAddr_ne (by omega)
  have hmine : s.units.items.filter (fun x => x.unit == stallAddr r k) = [i] := by
    rw [hitems]
    exact List.filter_cons_of_pos (by simp [hunit])
  obtain ⟨v, hv⟩ : ∃ v, v = ((s.setUState (stallAddr r k) .faulted).setUState (stallAddr r 8) .standingIn).setSpareFor (rowAddr r) k := ⟨_, rfl⟩
  have hwf1 := setUState_wf hunits (stallAddr r k) .faulted
  have hunitv : ∀ n, v.unitSt n = ((s.setUState (stallAddr r k) .faulted).setUState (stallAddr r 8) .standingIn).unitSt n := fun n => by rw [hv]; rfl
  have hstall : (v.unitSt (stallAddr r k)).state = .faulted ∧ (v.unitSt (stallAddr r k)).faults = (s.unitSt (stallAddr r k)).faults := by
    rw [hunitv, setUState_unitSt hwf1, if_neg hne, setUState_unitSt hunits, if_pos rfl]
    exact ⟨rfl, rfl⟩
  have hspare : (v.unitSt (stallAddr r 8)).state = .standingIn := by rw [hunitv, setUState_unitSt hwf1, if_pos rfl]
  have hfor : v.spareFor (rowAddr r) = k := by
    rw [hv]
    exact Laws.setSpareFor_spareFor_same _ _ _ hspares
  have hwfv : v.units.st.wf UnitSt.reset = true := by
    rw [hv]
    exact setUState_wf hwf1 _ _
  have hitemsv : v.units.items = [i] := by
    rw [hv]
    exact hitems
  have hreadv : v.tk? i.ticket = some t := by
    rw [hv]
    exact ht
  obtain ⟨t', hstage, hreruns, hslot, hread, hunitsw, hvault⟩ := rerunItem_of_first hreadv hfirst
  obtain ⟨w, hw⟩ : ∃ w, w = v.rerunItem i true true := ⟨_, rfl⟩
  rw [← hw] at hread hunitsw hvault
  have hwfw : w.units.st.wf UnitSt.reset = true := by
    rw [hunitsw]
    exact hwfv
  obtain ⟨skipped, hskipped⟩ : ∃ skipped, skipped = [i].any (fun i => (s.tk? i.ticket).any (fun t => decide (1 ≤ t.reruns))) := ⟨_, rfl⟩
  obtain ⟨d, hd⟩ : ∃ d : Detection, d = { cls := cls, outcome := if skipped then 5 else if [i] = [] then 0 else 2, unit := stallAddr r k, interrupt := us, detail := detail, escalated := esc, double := s.recoveringRow r } := ⟨_, rfl⟩
  have hcounts : d.counts = true := by
    rw [hd]
    rcases hcls with rfl | rfl <;> rfl
  have hclsd : d.cls = cls := by rw [hd]
  have hunitd : d.unit = stallAddr r k := by rw [hd]
  obtain ⟨x, hx⟩ : ∃ x, x = w.logFault d := ⟨_, rfl⟩
  have hunitx : ∀ n, x.unitSt n = if n = stallAddr r k then { v.unitSt n with faults := sat 16 ((v.unitSt n).faults + 1) } else v.unitSt n := fun n => by
    rw [hx, logFault_unitSt hwfw, hcounts, hunitd, unitSt_congr (s := v) (by rw [hunitsw])]
    simp only [true_and]
  have hforx : x.spareFor (rowAddr r) = k := by
    rw [hx, spareFor_congr (Laws.logFault_units_spareFor _ _), spareFor_congr (s := v) (by rw [hunitsw]), hfor]
  have hworks : x.rowWorks r = true := rowWorks_of_spare hk hforx (by rw [hunitx, if_neg hne.symm, hspare]) (by rw [hunitx, if_pos rfl]; dsimp only; rw [hstall.1]; decide)
  have hgo : s.stallFault (stallAddr r k) cls detail us esc = if x.spareFor (rowAddr r) ≠ s.spareFor (rowAddr r) then x.devEvent 2 else x := by
    rw [← rowEvent_of_works hworks]
    unfold State.stallFault spareAddr
    dsimp only
    rw [hrow, hidx, hmine, if_neg (show ¬ k = 8 by omega), hidle, if_pos (show (UnitState.idle == UnitState.idle) = true from rfl), ← hv, List.foldl_cons, List.foldl_nil, ← hw, ← hskipped, ← hd, ← hx, skipRow_of_works hworks]
  have hsettles : Settles s (s.stallFault (stallAddr r k) cls detail us esc) := by
    rw [hgo, hx, hw, hv]
    exact .ite (.devEvent (.logFault (.rerunItem (.setSpareFor (.setUState (.setUState (settles_refl s))))))) (.logFault (.rerunItem (.setSpareFor (.setUState (.setUState (settles_refl s))))))
  have hlast : ∀ {α : Type} (g : State → α), (∀ s b, g (State.devEvent s b) = g s) → g (s.stallFault (stallAddr r k) cls detail us esc) = g x := fun g hg => by
    rw [hgo]
    split
    · exact hg x 2
    · rfl
  have hunitu : ∀ n, (s.stallFault (stallAddr r k) cls detail us esc).unitSt n = x.unitSt n := fun n => hlast (fun s => s.unitSt n) (fun s b => unitSt_congr (by rw [Laws.devEvent_units]) n)
  have hfaultu := hlast (fun s => s.fault) (fun s b => Laws.devEvent_fault s b)
  refine ⟨⟨?_, ?_, ?_, ?_, ?_, ⟨t', ?_, hstage, hreruns, hslot⟩, ?_, ?_, hsettles.tabs, ?_⟩, hsettles.tamper⟩
  · rw [hunitu, hunitx, if_pos rfl]
    exact hstall.1
  · rw [hunitu, hunitx, if_pos rfl]
    dsimp only
    rw [hstall.2]
  · rw [hunitu, hunitx, if_neg hne.symm, hspare]
  · exact (hlast (fun s => s.spareFor (rowAddr r)) (fun s b => spareFor_congr (by rw [Laws.devEvent_units]) _)).trans hforx
  · refine (hlast (fun s => s.units.items) (fun s b => by rw [Laws.devEvent_units])).trans ?_
    rw [hx, Laws.logFault_units_items, hunitsw]
    show v.units.items.filter _ = []
    rw [hitemsv]
    exact List.filter_cons_of_neg (by simp)
  · refine (hlast (fun s => s.tk? i.ticket) (fun s b => by unfold State.tk?; rw [Laws.devEvent_host_tickets])).trans ?_
    rw [hx, State.tk?, Laws.logFault_host_tickets]
    exact hread
  · rw [hfaultu, hx, logFault_lastClass, hclsd]
  · rw [hfaultu, hx, logFault_lastUnit, hunitd]
  · refine (hlast (fun s => s.vault) (fun s b => Laws.devEvent_vault s b)).trans ?_
    rw [hx, Laws.logFault_vault, hvault, hv]
    rfl

/-- A mismatch below the limit of TS25 faults the stall and nothing more (R354, R429). -/
theorem mismatch_says (hpll : s.power.pllSwitching = false) (hfew : s.tamper.mismatches = []) (hlimit : 1 < s.tamper.lockstepCount) (detail us : Nat) :
    StallFaulted s (s.mismatch (stallAddr r k) cls detail us) r k cls i t := by
  obtain ⟨p, hpulse⟩ : ∃ p, s.pulse 53 = { s with power := p } := by
    unfold State.pulse
    dsimp only
    rw [hpll]
    exact ⟨_, rfl⟩
  obtain ⟨v, hv⟩ : ∃ v : State, v = { s with power := p, tamper := { s.tamper with mismatches := [s.now] } } := ⟨_, rfl⟩
  have hcount : (s.pulse 53).countMismatch = v := by
    rw [hpulse, hv]
    unfold State.countMismatch
    dsimp only
    rw [hfew]
    rfl
  obtain ⟨hsays, htamper⟩ := stallFault_says (s := v) hr hk (by rw [hv]; exact hunits) (by rw [hv]; exact hspares) (by rw [hv]; exact hidle) (by rw [hv]; exact hitems) hunit (by rw [hv]; exact ht) hfirst hcls
    detail us (decide (v.tamper.lockstepCount ≤ v.tamper.mismatches.length))
  have hgo : s.mismatch (stallAddr r k) cls detail us = v.stallFault (stallAddr r k) cls detail us (decide (v.tamper.lockstepCount ≤ v.tamper.mismatches.length)) := by
    unfold State.mismatch
    dsimp only
    rw [hcount]
    unfold State.escalate25
    rw [htamper, hv]
    exact if_neg (by simpa using hlimit)
  rw [hgo]
  obtain ⟨hstate, hfaults, hspare, hfor, hnone, hticket, hclass, hlast, htabs, hvault⟩ := hsays
  subst hv
  exact ⟨hstate, hfaults, hspare, hfor, hnone, hticket, hclass, hlast, htabs, hvault⟩

end

/-! The tests of a stall end (R173). -/

/-- A stall whose tests pass is back, and the spare that stood in for it alone rests. -/
theorem stallTested_passes (hr : r < 64) (hk : k < 8) (hunits : s.units.st.wf UnitSt.reset = true) (hspares : s.units.spareFor.wf noSpare = true) (hspare : (s.unitSt (stallAddr r 8)).state = .standingIn)
    (hfor : s.spareFor (rowAddr r) = k) (hothers : ∀ j, j < 8 → j ≠ k → (s.unitSt (stallAddr r j)).state = .active) (hitems : s.units.items = []) :
    ((s.stallTested (stallAddr r k) none).unitSt (stallAddr r k)).state = .active ∧ ((s.stallTested (stallAddr r k) none).unitSt (stallAddr r 8)).state = .idle ∧
      (s.stallTested (stallAddr r k) none).spareFor (rowAddr r) = 0xF ∧ (s.stallTested (stallAddr r k) none).dev.events.getLsbD 2 = true ∧ (s.stallTested (stallAddr r k) none).fault = s.fault := by
  obtain ⟨hrow, hidx, -, -⟩ := stallAddr_says hr (show k < 9 by omega)
  have hne : stallAddr r 8 ≠ stallAddr r k := stallAddr_ne (by omega)
  obtain ⟨v, hv⟩ : ∃ v, v = s.setUState (stallAddr r k) .active := ⟨_, rfl⟩
  have hunitv : ∀ n, v.unitSt n = if n = stallAddr r k then { s.unitSt (stallAddr r k) with state := .active, broke := (s.unitSt (stallAddr r k)).broke || (UnitState.active == .faulted && s.inTest (stallAddr r k)) } else s.unitSt n :=
    fun n => by rw [hv, setUState_unitSt hunits]
  have hactive : ∀ j, j < 8 → (v.unitSt (stallAddr r j)).state = .active := fun j hj => by
    by_cases hjk : j = k
    · rw [hunitv, hjk, if_pos rfl]
    · rw [hunitv, if_neg (stallAddr_ne hjk)]
      exact hothers j hj hjk
  have hspareFor : v.spareFor (rowAddr r) = k := by
    rw [hv]
    exact hfor
  have hnone : (List.range 8).find? (fun i => (v.unitSt (stallAddr r i)).state == .faulted || (v.unitSt (stallAddr r i)).state == .retired) = none :=
    List.find?_eq_none.mpr fun j hj => by rw [hactive j (List.mem_range.mp hj)]; decide
  obtain ⟨w, hw⟩ : ∃ w, w = (v.setSpareFor (rowAddr r) 0xF).setUState (stallAddr r 8) .idle := ⟨_, rfl⟩
  have hnext : v.spareNext r = w.devEvent 2 := by
    unfold State.spareNext spareAddr
    dsimp only
    rw [hunitv, if_neg hne, hspare, hspareFor, hactive k hk, show v.units.items = [] from by rw [hv]; exact hitems, hnone, ← hw]
    rfl
  have hwf : (v.setSpareFor (rowAddr r) 0xF).units.st.wf UnitSt.reset = true := by
    rw [hv]
    exact setUState_wf hunits _ _
  have hsparew : (w.unitSt (stallAddr r 8)).state = .idle := by rw [hw, setUState_unitSt hwf, if_pos rfl]
  have hstallw : (w.unitSt (stallAddr r k)).state = .active := by
    rw [hw, setUState_unitSt hwf, if_neg hne.symm]
    exact hactive k hk
  have hunitw : ∀ n, (w.devEvent 2).unitSt n = w.unitSt n := fun n => unitSt_congr (by rw [Laws.devEvent_units]) n
  have hforw : (w.devEvent 2).spareFor (rowAddr r) = 0xF := by
    rw [spareFor_congr (s := w) (by rw [Laws.devEvent_units]), hw]
    exact Laws.setSpareFor_spareFor_same v (rowAddr r) 0xF (by rw [hv]; exact hspares)
  have hworks : (w.devEvent 2).rowWorks r = true := rowWorks_of_active hk (by rw [hunitw, hstallw])
  have hgo : s.stallTested (stallAddr r k) none = (w.devEvent 2).devEvent 2 := by
    unfold State.stallTested
    dsimp only
    rw [hrow, hidx, if_neg (show ¬ k = 8 by omega), ← hv, hnext, rowEvent_of_works hworks, hforw, hfor, if_pos (by omega)]
  have hunitu : ∀ n, ((w.devEvent 2).devEvent 2).unitSt n = (w.devEvent 2).unitSt n := fun n => unitSt_congr (by rw [Laws.devEvent_units]) n
  rw [hgo]
  refine ⟨?_, ?_, ?_, devEvent_sets _ (by decide), ?_⟩
  · rw [hunitu, hunitw, hstallw]
  · rw [hunitu, hunitw, hsparew]
  · rw [spareFor_congr (s := w.devEvent 2) (by rw [Laws.devEvent_units]), hforw]
  · rw [Laws.devEvent_fault, Laws.devEvent_fault, hw, hv]
    rfl

/-- A stall that fails its tests is RETIRED, and the spare goes on standing in for it (R168, R173). -/
theorem stallTested_fails (hr : r < 64) (hk : k < 8) (hunits : s.units.st.wf UnitSt.reset = true) (hspare : (s.unitSt (stallAddr r 8)).state = .standingIn) (hfor : s.spareFor (rowAddr r) = k) (code : Nat) :
    ∃ d : Detection, d.cls = 3 ∧ d.unit = stallAddr r k ∧ d.counts = false ∧ s.stallTested (stallAddr r k) (some code) = (s.setUState (stallAddr r k) .retired).logFault d := by
  obtain ⟨hrow, hidx, -, -⟩ := stallAddr_says hr (show k < 9 by omega)
  have hne : stallAddr r 8 ≠ stallAddr r k := stallAddr_ne (by omega)
  obtain ⟨d, hd⟩ : ∃ d : Detection, d = { cls := 0x03, outcome := 6, unit := stallAddr r k, detail := code } := ⟨_, rfl⟩
  have hcounts : d.counts = false := by
    rw [hd]
    rfl
  obtain ⟨v, hv⟩ : ∃ v, v = (s.setUState (stallAddr r k) .retired).logFault d := ⟨_, rfl⟩
  have hunitv : ∀ n, v.unitSt n = (s.setUState (stallAddr r k) .retired).unitSt n := fun n => by
    rw [hv, logFault_unitSt (setUState_wf hunits _ _), hcounts, if_neg (by simp)]
  have hsparev : (v.unitSt (stallAddr r 8)).state = .standingIn := by rw [hunitv, setUState_unitSt hunits, if_neg hne, hspare]
  have hforv : v.spareFor (rowAddr r) = k := by
    rw [hv, spareFor_congr (Laws.logFault_units_spareFor _ _)]
    exact hfor
  have hworks : v.rowWorks r = true := rowWorks_of_spare hk hforv hsparev (by rw [hunitv, setUState_unitSt hunits, if_pos rfl]; exact show UnitState.retired ≠ .active by decide)
  refine ⟨d, by rw [hd], by rw [hd], hcounts, ?_⟩
  unfold State.stallTested State.retireStall spareAddr
  dsimp only
  rw [hrow, hidx, if_neg (show ¬ k = 8 by omega), ← hd, ← hv, hsparev, if_neg (by decide), skipRow_of_works hworks, rowEvent_of_works hworks, hforv, hfor, if_neg (not_not.mpr rfl)]

/-! Engines (R211, R217, R234, R235). -/

/-- A row's engine without open contexts that fails its check: FAULTED, its keys gone, the fault logged under its class (R211). -/
theorem engineFault_cipher (hr : r < 64) (hopen : (s.rowEng r).cipherOpen = []) (us : Nat) :
    ∃ d : Detection, d.cls = 0x10 ∧ d.unit = cipherAddr r ∧ d.counts = true ∧
      s.engineFault (cipherAddr r) 0x10 us = ((s.setRowEng r { s.rowEng r with keys := [] }).setUState (cipherAddr r) .faulted).logFault d := by
  obtain ⟨hrow, hlevel, -⟩ := engineAddr_says hr (.inl rfl : (4 : Nat) = 4 ∨ 4 = 5)
  have hstrike : s.strikeCipher r (fun _ => true) .checkFault = s := by
    unfold State.strikeCipher
    dsimp only
    rw [hopen, List.filter_nil, if_pos rfl]
  refine ⟨{ cls := 0x10, outcome := 0, unit := cipherAddr r, interrupt := us, detail := 0 }, rfl, rfl, rfl, ?_⟩
  unfold State.engineFault
  dsimp only
  rw [show rowNo (cipherAddr r) = r from hrow, show cipherAddr r / 4096 = 4 from hlevel]
  simp only [if_pos, hopen, hstrike, List.map_nil, List.dedup_nil, State.rerunOwners, List.contains_nil, List.filter_false, List.foldl_nil]

theorem engineFault_hash (hr : r < 64) (hopen : (s.rowEng r).hashOpen = []) (us : Nat) :
    ∃ d : Detection, d.cls = 0x12 ∧ d.unit = hashAddr r ∧ d.counts = true ∧
      s.engineFault (hashAddr r) 0x12 us = ((s.setRowEng r { s.rowEng r with hmacKeys := [] }).setUState (hashAddr r) .faulted).logFault d := by
  obtain ⟨hrow, hlevel, -⟩ := engineAddr_says hr (.inr rfl : (5 : Nat) = 4 ∨ 5 = 5)
  have hstrike : s.strikeHash r (fun _ => true) .checkFault = s := by
    unfold State.strikeHash
    dsimp only
    rw [hopen, List.filter_nil, if_pos rfl]
  refine ⟨{ cls := 0x12, outcome := 0, unit := hashAddr r, interrupt := us, detail := 0 }, rfl, rfl, rfl, ?_⟩
  unfold State.engineFault
  dsimp only
  rw [show rowNo (hashAddr r) = r from hrow, show hashAddr r / 4096 = 5 from hlevel]
  simp only [if_neg (show ¬ 5 = 4 by decide), hopen, hstrike, List.map_nil, List.dedup_nil, State.rerunOwners, List.contains_nil, List.filter_false, List.foldl_nil, if_pos]

theorem poolLow_keeps {α : Type} (g : State → α) (hlog : ∀ (s : State) d, d.counts = false → g (s.logFault d) = g s) (s old : State) : g (s.poolLow old) = g s := by
  unfold State.poolLow
  split
  · exact hlog s _ rfl
  · rfl

theorem poolLow_units (s old : State) : (s.poolLow old).units = s.units :=
  poolLow_keeps (fun s => s.units) (fun s d hd => by rw [logFault_units, hd]; rfl) s old

theorem poolLow_crypto (s old : State) : (s.poolLow old).crypto = s.crypto :=
  poolLow_keeps (fun s => s.crypto) (fun s d _ => Laws.logFault_crypto s d) s old

theorem settle_of_crypto {u : State} (hrows : RowsIdle s) (hpool : PoolIdle s) (hcrypto : u.crypto = s.crypto) : u.settle = u := by
  refine settle_of_idle ?_ ?_
  · unfold RowsIdle
    rw [hcrypto]
    exact hrows
  · unfold PoolIdle
    rw [hcrypto]
    exact hpool

/-- An idle engine of the pool fails a datapath check: FAULTED, its memory gone (R234, R235). -/
theorem pkeChecked_says (hunits : s.units.st.wf UnitSt.reset = true) (h : PoolIdle s) (e us : Nat) :
    ((s.pkeChecked e us).unitSt (0x6000 + e)).state = .faulted ∧ (s.pkeChecked e us).pke e = {} ∧ (s.pkeChecked e us).fault.lastClass = 0x14 ∧ (s.pkeChecked e us).crypto.pke.done = s.crypto.pke.done := by
  have hrun := pke_idle h e
  have hread := pke_idle h
  obtain ⟨hqueue, hwf, hnone⟩ := h
  obtain ⟨v, hv⟩ : ∃ v, v = ((s.setPke e {}).setUState (0x6000 + e) .faulted).poolLow s := ⟨_, rfl⟩
  have hunitsv : v.units = ((s.setPke e {}).setUState (0x6000 + e) .faulted).units := by rw [hv, poolLow_units]
  obtain ⟨u, hu⟩ : ∃ u, u = v.logFault { cls := 0x14, unit := 0x6000 + e, interrupt := us } := ⟨_, rfl⟩
  have hcrypto : u.crypto = (s.setPke e {}).crypto := by
    rw [hu, Laws.logFault_crypto, hv, poolLow_crypto]
    rfl
  have hwfu : (s.setPke e {}).crypto.pke.engines.wf noPke = true := Laws.set_wf noPke _ e {} hwf
  have hidle : PoolIdle u := by
    unfold PoolIdle
    rw [hcrypto]
    refine ⟨hqueue, hwfu, fun p hp => ?_⟩
    rw [← get_of_mem hwfu hp, show (s.setPke e {}).crypto.pke.engines = s.crypto.pke.engines.set noPke e {} from rfl, get_set hwf]
    split
    · rfl
    · exact hread p.1
  have hgo : s.pkeChecked e us = u := by
    unfold State.pkeChecked
    rw [hrun]
    dsimp only
    rw [← hv, ← hu]
    exact drainPke_of_idle hidle
  rw [hgo]
  refine ⟨?_, ?_, ?_, ?_⟩
  · have hwfv : v.units.st.wf UnitSt.reset = true := by
      rw [hunitsv]
      exact setUState_wf hunits _ _
    rw [hu, logFault_unitSt hwfv, if_pos ⟨rfl, rfl⟩]
    show (v.unitSt (0x6000 + e)).state = .faulted
    rw [unitSt_congr (congrArg Units.st hunitsv), setUState_unitSt (by exact hunits), if_pos rfl]
  · show u.crypto.pke.engines.get noPke e = {}
    rw [hcrypto]
    exact (get_set hwf e e {}).trans (if_pos rfl)
  · rw [hu, logFault_lastClass]
  · rw [hcrypto]
    rfl

/-! Short sets (R218, R237, R431). -/

theorem patchFault_says (s : State) (cls unit detail outcome : Nat) : ∃ x, s.patchFault cls unit detail outcome = { s with fault := x } := by
  unfold State.patchFault
  dsimp only
  split
  · exact ⟨_, rfl⟩
  · split
    · exact ⟨_, rfl⟩
    · exact ⟨s.fault, rfl⟩

/-- What a short set is put together from: the fault's entry takes the failed bits, and then the engine is back or RETIRED. -/
theorem shortSet_says (s : State) (a b : Nat) : ∃ x, s.shortSet a b =
    if failedOf (shortBits (a / 4096)) b = 0 then (({ s with fault := x } : State).setUState a .active).settle else State.retireEngine { s with fault := x } a := by
  unfold State.shortSet
  dsimp only
  generalize a / 4096 = l
  by_cases h4 : l = 4
  · obtain ⟨x, hx⟩ := patchFault_says s 0x10 a (failedOf (shortBits 4) b) 0
    subst h4
    exact ⟨x, by rw [hx]; rfl⟩
  · by_cases h5 : l = 5
    · obtain ⟨x, hx⟩ := patchFault_says s 0x12 a (failedOf (shortBits 5) b) 0
      subst h5
      exact ⟨x, by rw [hx]; rfl⟩
    · exact ⟨s.fault, by simp⟩

section
variable (hrows : RowsIdle s) (hpool : PoolIdle s) (hunits : s.units.st.wf UnitSt.reset = true) {a b : Nat}
include hrows hpool hunits

theorem shortSet_passes (h : failedOf (shortBits (a / 4096)) b = 0) : ((s.shortSet a b).unitSt a).state = .active ∧ (s.shortSet a b).units.items = s.units.items := by
  obtain ⟨x, hx⟩ := shortSet_says s a b
  rw [hx, if_pos h, settle_of_crypto (u := ({ s with fault := x } : State).setUState a .active) hrows hpool rfl]
  refine ⟨?_, rfl⟩
  rw [setUState_unitSt (by exact hunits), if_pos rfl]

theorem shortSet_fails (h : failedOf (shortBits (a / 4096)) b ≠ 0) :
    ((s.shortSet a b).unitSt a).state = .retired ∧ (s.shortSet a b).fault.lastClass = 0x18 ∧ (s.shortSet a b).fault.lastUnit = a := by
  obtain ⟨x, hx⟩ := shortSet_says s a b
  obtain ⟨v, hv⟩ : ∃ v : State, v = { s with fault := x } := ⟨_, rfl⟩
  obtain ⟨w, hw⟩ : ∃ w, w = (v.setUState a .retired).poolLow v := ⟨_, rfl⟩
  have hunitsv : v.units.st.wf UnitSt.reset = true := by
    rw [hv]
    exact hunits
  have hunitsw : w.units = (v.setUState a .retired).units := by rw [hw, poolLow_units]
  have hretire : v.retireEngine a = w.logFault { cls := 0x18, outcome := 6, unit := a, detail := a } := by
    unfold State.retireEngine
    rw [← hw]
    refine settle_of_crypto hrows hpool ?_
    rw [Laws.logFault_crypto, hw, poolLow_crypto, hv]
    rfl
  rw [hx, if_neg h, ← hv, hretire, logFault_lastClass, logFault_lastUnit]
  refine ⟨?_, rfl, rfl⟩
  rw [logFault_unitSt (by rw [hunitsw]; exact setUState_wf hunitsv _ _), if_neg (fun hc => Bool.false_ne_true hc.1), unitSt_congr (congrArg Units.st hunitsw), setUState_unitSt hunitsv, if_pos rfl]

end

/-! The four kinds of engine. -/

theorem pkeAddr_level (e : Fin 16) : unitLevel (0x6000 + e.val) = some 6 := by
  revert e
  decide

theorem hasherAddr_level (h : Fin 8) : unitLevel (0x7000 + h.val) = some 7 := by
  revert h
  decide

theorem shortSetComplete_says {a l b : Nat} (hlevel : unitLevel a = some l) (hl : 4 ≤ l ∧ l ≤ 7) (hstate : (s.unitSt a).state = .faulted) : exec (.shortSetComplete a b) s = .next (s.shortSet a b) := by
  refine congrArg Host.Outcome.next ?_
  rw [hlevel]
  exact if_pos ⟨hl.1, hl.2, hstate⟩

theorem checkFault_says {a us : Nat} (hactive : (s.unitSt a).state = .active) : (unitLevel a = some 4 → exec (.checkFault a us) s = .next (s.engineFault a 0x10 us)) ∧
    (unitLevel a = some 5 → exec (.checkFault a us) s = .next (s.engineFault a 0x12 us)) := by
  have hgo : exec (.checkFault a us) s = .next (match unitLevel a with | some 4 => s.engineFault a 0x10 us | some 5 => s.engineFault a 0x12 us | _ => s) :=
    congrArg Host.Outcome.next (if_neg (by rw [hactive]; decide))
  refine ⟨fun hlevel => hgo.trans ?_, fun hlevel => hgo.trans ?_⟩
  · rw [hlevel]
    rfl
  · rw [hlevel]
    rfl

/-- A row's engine faults, with what its fault leaves in the row's engines as `x`. -/
theorem faulted_engine {a : Nat} {x : RowEng} {d : Detection} (hunits : s.units.st.wf UnitSt.reset = true) (hrows : s.crypto.rows.wf noRow = true) (hd : d.counts = true) (hunit : d.unit = a)
    {u : State} (hu : u = ((s.setRowEng r x).setUState a .faulted).logFault d) :
    (u.unitSt a).state = .faulted ∧ (u.unitSt a).faults = sat 16 ((s.unitSt a).faults + 1) ∧ u.rowEng r = x ∧ u.fault.lastClass = d.cls ∧ u.fault.lastUnit = a ∧ u.units.items = s.units.items ∧ u.tabs = s.tabs := by
  have hread : ((s.setRowEng r x).setUState a .faulted).unitSt a = { s.unitSt a with state := .faulted, broke := (s.unitSt a).broke || (UnitState.faulted == .faulted && s.inTest a) } :=
    (setUState_unitSt (s := s.setRowEng r x) hunits a .faulted a).trans (if_pos rfl)
  have hlogged := logFault_unitSt (setUState_wf (s := s.setRowEng r x) hunits a .faulted) d a
  rw [if_pos ⟨hd, hunit.symm⟩, ← hu, hread] at hlogged
  refine ⟨?_, ?_, ?_, ?_, ?_, ?_, ?_⟩
  · rw [hlogged]
  · rw [hlogged]
  · show u.crypto.rows.get noRow r = x
    rw [hu, Laws.logFault_crypto]
    exact (get_set hrows r r x).trans (if_pos rfl)
  · rw [hu, logFault_lastClass]
  · rw [hu, logFault_lastUnit, hunit]
  · rw [hu, Laws.logFault_units_items]
    rfl
  · rw [hu, Laws.logFault_tabs]
    rfl

/-- Settles O49: a fault is logged once for its unit, a stall's item waits to run again on the spare, and a unit's tests bring it back or retire it. -/
theorem unitsFault : Obligations.UnitsFault := by
  refine ⟨fun s r k us hr hk hunits hspares hpll => ⟨fun i t c cls hc hactive hidle hitems hunit ht hfirst hfew hlimit hover => ?_, fun hfaulted hspare hfor hothers hitems => ?_, fun code hfaulted hfor hspare => ?_,
    fun hretired => ⟨?_, ?_⟩⟩, fun s r us h e hr hunits hrows hpool => ⟨fun a cls hc hactive hcipher hhash => ?_, fun hactive => ?_, fun hactive => ?_, fun a ha hfaulted => ?_⟩⟩
  · obtain ⟨-, -, -, hlevel⟩ := stallAddr_says hr (show k < 9 by omega)
    have hserves : unitLevel (stallAddr r k) = some 3 ∧ (s.unitSt (stallAddr r k)).state.inService := ⟨hlevel, by rw [hactive]; rfl⟩
    obtain ⟨detail, hgo⟩ : ∃ detail, exec c s = .next (s.mismatch (stallAddr r k) cls detail us) := by
      rcases (by simpa using hc : (c = _ ∧ cls = _) ∨ (c = _ ∧ cls = _)) with ⟨rfl, rfl⟩ | ⟨rfl, rfl⟩
      · exact ⟨_, congrArg Host.Outcome.next (if_pos hserves)⟩
      · obtain ⟨ap, hap⟩ : ∃ ap, s.overrunApplet (stallAddr r k) = some ap := by
          unfold State.overrunApplet
          rw [hitems, List.find?_cons_of_pos (by simp [hunit, hover rfl])]
          exact ⟨_, rfl⟩
        refine ⟨ap, congrArg Host.Outcome.next ?_⟩
        rw [hap]
        exact if_pos hserves
    have hcls : cls = 1 ∨ cls = 2 := by
      rcases (by simpa using hc : (c = _ ∧ cls = _) ∨ (c = _ ∧ cls = _)) with ⟨-, h1⟩ | ⟨-, h2⟩
      · exact .inl h1
      · exact .inr h2
    obtain ⟨hstate, hfaults, hspare, hfor, hnone, ⟨t', hread, hstage, hreruns, hstall⟩, hclass, hlast, htabs, hvault⟩ :=
      mismatch_says hr hk hunits hspares hidle hitems hunit ht hfirst hcls hpll hfew hlimit detail us
    exact ⟨_, t', hgo, hstate, hfaults, hspare, hfor, hnone, hread, hstage, hreruns, hstall, hclass, hlast, htabs, hvault⟩
  · obtain ⟨-, -, -, hlevel⟩ := stallAddr_says hr (show k < 9 by omega)
    exact ⟨_, congrArg Host.Outcome.next (if_pos ⟨hlevel, hfaulted⟩), stallTested_passes hr hk hunits hspares hspare hfor hothers hitems⟩
  · obtain ⟨-, -, -, hlevel⟩ := stallAddr_says hr (show k < 9 by omega)
    obtain ⟨d, hcls, hunit, hcounts, hgo⟩ := stallTested_fails hr hk hunits hspare hfor code
    refine ⟨_, congrArg Host.Outcome.next ((if_pos ⟨hlevel, hfaulted⟩).trans hgo), ?_, ?_, ?_, ?_⟩
    · rw [logFault_unitSt (setUState_wf hunits _ _), hcounts, if_neg (by simp), setUState_unitSt hunits, if_pos rfl]
    · rw [logFault_lastClass, hcls]
    · rw [logFault_lastUnit, hunit]
    · rw [Laws.logFault_tabs]
      rfl
  · exact congrArg Host.Outcome.next (if_neg fun hbad => absurd hbad.2 (by rw [hretired]; decide))
  · exact congrArg Host.Outcome.next (if_neg fun hbad => absurd hbad.2 (by rw [hretired]; decide))
  · obtain ⟨-, -, hrowswf, -⟩ := hrows
    rcases (by simpa using hc : (a = _ ∧ cls = _) ∨ (a = _ ∧ cls = _)) with ⟨rfl, rfl⟩ | ⟨rfl, rfl⟩
    · obtain ⟨-, -, hlevel⟩ := engineAddr_says hr (.inl rfl : (4 : Nat) = 4 ∨ 4 = 5)
      obtain ⟨d, hcls, hunit, hcounts, hgo⟩ := engineFault_cipher hr hcipher us
      obtain ⟨hstate, hfaults, hread, hclass, hlast, hitems, htabs⟩ := faulted_engine hunits hrowswf hcounts hunit hgo
      exact ⟨_, (checkFault_says hactive).1 hlevel, hstate, hfaults, fun _ => by rw [hread], fun hbad => absurd hbad (by decide), hclass.trans hcls, hlast, hitems, htabs⟩
    · obtain ⟨-, -, hlevel⟩ := engineAddr_says hr (.inr rfl : (5 : Nat) = 4 ∨ 5 = 5)
      obtain ⟨d, hcls, hunit, hcounts, hgo⟩ := engineFault_hash hr hhash us
      obtain ⟨hstate, hfaults, hread, hclass, hlast, hitems, htabs⟩ := faulted_engine hunits hrowswf hcounts hunit hgo
      exact ⟨_, (checkFault_says hactive).2 hlevel, hstate, hfaults, fun hbad => absurd hbad (by decide), fun _ => by rw [hread], hclass.trans hcls, hlast, hitems, htabs⟩
  · refine ⟨_, congrArg Host.Outcome.next (if_pos (show (s.unitSt (hasherAddr h.val)).state.inService = true from by rw [show (s.unitSt (hasherAddr h.val)).state = .active from hactive]; rfl)), ?_, ?_, ?_⟩
    · unfold State.hasherFault
      rw [show hasherAddr h.val = 0x7000 + h.val from rfl]
      dsimp only
      rw [logFault_unitSt (setUState_wf hunits _ _), if_pos ⟨rfl, rfl⟩]
      show ((s.setUState (0x7000 + h.val) .faulted).unitSt (0x7000 + h.val)).state = .faulted
      rw [setUState_unitSt hunits, if_pos rfl]
    · exact logFault_lastClass _ _
    · exact Laws.logFault_ledger _ _
  · exact ⟨_, congrArg Host.Outcome.next (if_pos (by rw [hactive]; rfl)), pkeChecked_says hunits hpool e.val us⟩
  · obtain ⟨l, hlevel, hl⟩ : ∃ l, unitLevel a = some l ∧ 4 ≤ l ∧ l ≤ 7 := by
      rcases (by simpa using ha : a = _ ∨ a = _ ∨ a = _ ∨ a = _) with rfl | rfl | rfl | rfl
      · exact ⟨4, (engineAddr_says hr (.inl rfl : (4 : Nat) = 4 ∨ 4 = 5)).2.2, by decide⟩
      · exact ⟨5, (engineAddr_says hr (.inr rfl : (5 : Nat) = 4 ∨ 5 = 5)).2.2, by decide⟩
      · exact ⟨6, pkeAddr_level e, by decide⟩
      · exact ⟨7, hasherAddr_level h, by decide⟩
    exact ⟨fun b hb => ⟨_, shortSetComplete_says hlevel hl hfaulted, shortSet_passes hrows hpool hunits hb⟩, fun b hb => ⟨_, shortSetComplete_says hlevel hl hfaulted, shortSet_fails hrows hpool hunits hb⟩⟩

end Sys2Proof.Proofs
end
